-- ==== Sys2Proof/Word.lean ====
section
/-! DEFINITION. The word types of the model and the two containers every piece of indexed state is held in. -/

namespace Sys2Proof

/-- A byte. -/
abbrev Byte := BitVec 8

/-- A Lever register: 64 bits (R39). -/
abbrev Word := BitVec 64

/-- An indexed family of things, as plain data: pairs of an index and a value, the indexes strictly rising.
An index that is not listed holds the family's default. -/
abbrev Tab (α : Type) := List (Nat × α)

/-- Byte-addressed memory: the listed bytes, addresses strictly rising, no listed byte equal to zero. -/
abbrev Mem := List Host.Cell

/-- The value at index `k`, or `d` where nothing is listed. -/
def Tab.get {α : Type} (d : α) : Tab α → Nat → α
  | [], _ => d
  | (i, v) :: t, k => if i = k then v else Tab.get d t k

/-- The value at index `k`, if one is listed. -/
def Tab.find {α : Type} : Tab α → Nat → Option α
  | [], _ => none
  | (i, v) :: t, k => if i = k then some v else Tab.find t k

/-- Put `v` at index `k`, keeping the indexes rising. -/
def Tab.set {α : Type} : Tab α → Nat → α → Tab α
  | [], k, v => [(k, v)]
  | (i, w) :: t, k, v =>
    if k < i then (k, v) :: (i, w) :: t
    else if i = k then (k, v) :: t
    else (i, w) :: Tab.set t k v

/-- Take every entry at index `k` away, so that it holds the default again. -/
def Tab.drop {α : Type} : Tab α → Nat → Tab α
  | [], _ => []
  | (i, w) :: t, k => if i = k then Tab.drop t k else (i, w) :: Tab.drop t k

/-- Change the value at index `k`. -/
def Tab.modify {α : Type} (d : α) (t : Tab α) (k : Nat) (f : α → α) : Tab α :=
  Tab.set t k (f (Tab.get d t k))

/-- The indexes of a table rise strictly. -/
def Tab.wf {α : Type} : Tab α → Bool
  | [] => true
  | (i, _) :: t => (match t with | [] => true | (j, _) :: _ => i < j) && Tab.wf t

/-- Canonical form of a memory: addresses strictly rising and no byte listed that equals what an unlisted address
reads as (zero). -/
def Memory.wf (m : Mem) : Bool := Tab.wf m && m.all (fun c => c.2 ≠ 0)

end Sys2Proof
end

