-- ==== Sys2Proof/Syntax.lean ====
section
/-! DEFINITION. The commands: one constructor of `Instr` for each row of the table of operations and events,
with the operands the row's rule gives it. Lever instructions carry every field of their word (R44); a library
order names the core that runs it and takes its arguments from that core's argument block; an event carries what
the outside brings with it. -/

namespace Sys2Proof

/-- A Lever core LC0 to LC15 (R5). -/
abbrev Core := Fin 16
/-- A port P0 to P127 (R5). -/
abbrev Port := Fin 128
/-- A station S0 to S63 (R5). -/
abbrev Station := Fin 64
/-- A slot, by its controller SPC0 to SPC63 (R5). -/
abbrev Slot := Fin 64
/-- A lane of a station, 0 to 7 (R17). -/
abbrev LaneOf := Fin 8
/-- A tenant T0 to T4095 (R5). -/
abbrev TenantId := Fin 4096
/-- A virtual switch 0 to 127 (R55). -/
abbrev Vcs := Fin 128
/-- A vPPB of a virtual switch (R291). -/
abbrev VppbNo := Fin 256
/-- A caching agent 0 to 511 (R328). -/
abbrev AgentId := Fin 512
/-- A power domain PD0 to PD74 (R5). -/
abbrev Domain := Fin 75
/-- A Granary quadrant G0 to G3 (R5). -/
abbrev Quadrant := Fin 4
/-- A rail, in the order of R524. -/
abbrev Rail := Fin 6
/-- A Junction window 0 to 255 (R55). -/
abbrev WindowNo := Fin 256
/-- A traffic class 0 to 7. -/
abbrev Class := Fin 8
/-- A Junction tag, one of 4,096 (R316). -/
abbrev Tag := Fin 4096
/-- A 64-byte line, by its address bits A[56:6] (R331). -/
abbrev Line := BitVec 51
/-- The 64 bytes of a line, byte 0 in the low bits. -/
abbrev LineData := BitVec 512

/-- RRR format: the fields of the word but op and fn (R44). -/
structure RRR where
  rd : BitVec 5
  ra : BitVec 5
  rb : BitVec 5
  deriving DecidableEq, Repr

/-- I format: the fields of the word but op (R44). -/
structure IOp where
  rd : BitVec 5
  ra : BitVec 5
  imm : BitVec 16
  deriving DecidableEq, Repr

/-- B format: the fields of the word but op (R44). -/
structure BOp where
  ra : BitVec 5
  rb : BitVec 5
  imm : BitVec 16
  deriving DecidableEq, Repr

/-- T format: the fields of the word but op; `rx` is the number split over bits 17 to 13 (R44). -/
structure TOp where
  rg : BitVec 5
  h : BitVec 3
  rx : BitVec 5
  sel : BitVec 8
  flags : BitVec 5
  deriving DecidableEq, Repr

/-- S format: the fields of the word but op and sysfn (R44). -/
structure SOp where
  rd : BitVec 5
  ra : BitVec 5
  deriving DecidableEq, Repr

/-- Where an order frame comes from (R97): the mailbox payload, or an MCTP message with its endpoint. -/
inductive OrderSource
  | mailbox
  | vdm (port : Port) (eid : Byte) (frame : List Byte)
  | bus (eid : Byte) (frame : List Byte)
  deriving DecidableEq, Repr

/-- Who sends a Fabric Manager API request (R88, R98). -/
inductive RequestSource
  | mailbox
  | vdm (port : Port) (eid : Byte)
  | bus (eid : Byte)
  deriving DecidableEq, Repr

/-- The fabric-management and GFD commands of R98, by the library order that serves them. -/
inductive FabricCommand
  | pbrSet (args : List Byte)
  | read (args : List Byte)
  | ruleStage (args : List Byte)
  | gfd (port : Byte) (pbrId : BitVec 16) (request : List Byte)
  deriving DecidableEq, Repr

/-- Completion status, with the codes of R106. -/
inductive CplStatus
  | success | unsupported | retry | abort
  deriving DecidableEq, Repr

/-- What a reflection measurement of one lane returns (R151, R154). -/
inductive LaneReflection
  | noReflect
  | seen (delayPs : Nat) (lossTenthDb : Nat)
  deriving DecidableEq, Repr

/-- What a PCIe or CXL port advertises (R178, R180): the L1 exit latency in µs, T_POWER_ON, and what margining offers. -/
inductive PortCapability
  | l1ExitLeast | l1ExitMost | powerOnScale | powerOnValue
  | timingSteps | timingOffset | voltageSteps | voltageOffset | independentSides
  deriving DecidableEq, Repr

/-- One host configuration write or read of a virtual switch, by what it does (R291, R292, R298, R305, R370).
The register layouts belong to PCI Express and CXL; the values are the device's state. -/
inductive ConfigRequest
  | readSlotCapabilities (b : VppbNo)
  | readSlotStatus (b : VppbNo)
  | readSlotStatusAt (device : Fin 32) (function : Fin 8)
  | readPortCapability (b : VppbNo) (c : PortCapability)
  | readEpoch
  | busRange (b : VppbNo) (secondary subordinate : Byte)
  | memoryWindow (b : VppbNo) (base limit : Nat)
  | hdmDecoder (i : Fin 32) (base size granularity : Nat) (targets : List VppbNo)
  | fastEntry (i : Fin 64) (base size idt : Nat)
  | idtEntry (i : Fin 64) (dpid : BitVec 12)
  | indicators (b : VppbNo) (attention power : Fin 4)
  | clearSlotChanges (b : VppbNo)
  | dpcControl (b : VppbNo) (enabled completionControl : Bool)
  | aerMask (b : VppbNo) (mask : BitVec 32)
  | aerSeverity (b : VppbNo) (severity : BitVec 32)
  | aerClear (b : VppbNo) (bits : BitVec 32)
  | toBus (bus : Byte) (fn : BitVec 8) (write : Bool) (reg : BitVec 12) (data : BitVec 32)
  deriving DecidableEq, Repr

/-- A participant of the round barrier (R246). -/
inductive Participant
  | station (s : Station)
  | siding (j : Fin 64)
  deriving DecidableEq, Repr

/-- The request kinds a slice serves (R341). -/
inductive CohKind
  | rdS | rdE | rdNc | wr | wb | ev | at
  deriving DecidableEq, Repr

/-- What a frame carries, as its input station sees it (R257, R341, R387). -/
inductive FrameKind
  | ioRead
  | ioWrite
  | ioAtomic (op : Fin 8)
  | farAtomic (op : Fin 8)
  | ioSpace
  | config
  | message
  | completion
  | memReq (k : CohKind)
  | cacheReq (k : CohKind)
  | response
  | wrap
  deriving DecidableEq, Repr

/-- A frame arriving at an input station, with the attributes the checks, the class map, the routing and the charge
read (R255, R256, R312, R374, R386, R419); `unit` is its protocol unit where the bytes are given. -/
structure FrameIn where
  port : Port
  fmt : Fin 16
  len : Nat
  kind : FrameKind
  addr : Nat
  size : Nat
  data : List Byte
  tc : Class
  cls : Class
  tag : Nat
  reqId : BitVec 16
  pasid : Option (BitVec 20)
  privBit : Bool
  pbr : Option (BitVec 12 × BitVec 12)
  ldid : BitVec 16
  cacheId : Option (BitVec 12)
  poison : Bool
  whole : Bool
  good : Bool
  unit : Option (List Byte) := none
  selective : Bool := false
  made : Bool := false
  deriving DecidableEq, Repr

/-- The link-up states a PCIe or CXL port reaches (R191): Recovery, L0, L0p and the L1 states. -/
inductive UpState
  | recovery | l0 | l0p | l1 | l1_1 | l1_2
  deriving DecidableEq, Repr

/-- What the station learns when a port reaches a link-up state (R155, R160, R165, R190, R194, R195): `partner256` and
`partnerLatency` are the 256-byte flit forms the partner advertises, `lerevos` its agreement to CXL at 128 GT/s, `presets` the
preset of each lane's transmitter after equalisation, and `ctles` the CTLE code; a list left short leaves the starting value. -/
structure LinkInfo where
  width : Nat
  rate : Fin 7
  pmax : Byte
  pcaps : Byte
  cxl : Bool
  flit68 : Bool
  reversed : Bool
  inverted : BitVec 16
  pfdi : BitVec 64
  ppreset : Byte
  preq : Byte
  mldDevices : Option Nat
  ldReady : Bool
  gfd : Bool
  atomicSizes : BitVec 3
  adaptedLoss : List Nat
  skew : List Nat
  state : UpState := .l0
  partner256 : Bool := !flit68
  partnerLatency : Bool := false
  lerevos : Bool := false
  presets : List Nat := []
  ctles : List Nat := []
  deriving DecidableEq, Repr

/-- What the equalisation of a Trunk port at its link rate leaves (R155, R160, R164, R205). -/
structure Equalised where
  port : Port
  loss : List Nat := []
  presets : List Nat := []
  ctles : List Nat := []
  ppreset : Byte := 0
  preq : Byte := 0
  deriving DecidableEq, Repr

/-- Why a link drops (R191, R589, R595). -/
inductive DownCause
  | lost
  | hotReset
  | disabled
  | dpc (v : Vcs) (b : VppbNo)
  | replayError
  | protocolError
  | security
  deriving DecidableEq, Repr

/-- What a received PCIe or CXL flit brings to the link layer (R87, R193, R197, R288, R302, R459, R598). -/
inductive FlitEvent
  | good
  | bad
  | replayed (flits : Nat)
  | retrainCollision
  | devLoad (level : Fin 4)
  | mctpVdm (bytes : List Byte)
  | lateCompletion (tag : Nat)
  | ldResponse (ldid : BitVec 16)
  | acked (flits : Nat)
  deriving DecidableEq, Repr

/-- A Trunk Hello (R200), with the CRC it carries; `inverted` and `skew` are what the receiver of each physical lane finds
(R145, R202). -/
structure Hello where
  lane : Byte
  width : Byte
  fdi : BitVec 64
  peerFdi : BitVec 64
  trunk : Byte
  trunkMin : Byte
  rate : Byte
  flags : Byte
  portnum : BitVec 16
  crc : BitVec 32
  inverted : BitVec 16 := 0
  skew : List Nat := []
  deriving DecidableEq, Repr

/-- A Trunk flit: the header fields of R208 and the payload bytes of R207. -/
structure TrunkFlit where
  seq : BitVec 12
  ack : BitVec 12
  type : BitVec 4
  cvc : BitVec 4
  credit : BitVec 24
  nak : Bool
  kset : Bool
  payload : List Byte
  deriving DecidableEq, Repr

/-- What a TYPE 0x07 bypass message does (R215, R237, R548, R550). -/
inductive TrunkMctp
  | keyed (authenticated : Bool)
  | keyUpdate
  | spdm (bytes : List Byte)
  | order (bytes : List Byte)
  deriving DecidableEq, Repr

/-- A coherence request at its slice (R341). -/
structure CohReq where
  line : Line
  port : Port
  id : Option (BitVec 12)
  tenant : TenantId
  deriving DecidableEq, Repr

/-- The bytes of a WR or WB: the mask has bit i set where byte i is written (R348). -/
structure WriteData where
  data : LineData
  mask : BitVec 64
  poison : Bool
  deriving DecidableEq, Repr

/-- The atomic of an AT (R356, R357): operation, operand size code, byte offset in the line, operand and compare value. -/
structure AtomicOp where
  op : Fin 8
  size : Fin 3
  offset : Fin 64
  operand : BitVec 128
  compare : BitVec 128
  deriving DecidableEq, Repr

/-- How a slice's memory read ends (R347). -/
inductive MemResult
  | data (d : LineData) (poison : Bool) (devLoad : Fin 4)
  | error
  deriving DecidableEq, Repr

/-- A coherence bypass message (R356). -/
structure CohBypass where
  txn : BitVec 16
  line : Line
  op : Byte
  tenant : TenantId
  attr : Byte
  offset : Byte
  operand : BitVec 64
  compare : BitVec 64
  data : LineData
  deriving DecidableEq, Repr

/-- A Junction wrap (R315), with the foreign request or completion it holds. -/
structure Wrap where
  jkind : BitVec 4
  win : Byte
  tenant : TenantId
  tag : Tag
  err : BitVec 4
  write : Bool
  addr : Nat
  size : Nat
  data : List Byte
  deriving DecidableEq, Repr

/-- What wakes a station in Siding state (R184, R235). -/
inductive SidingWakeSource
  | clkreq (p : Port)
  | squelch (p : Port)
  | wagonQueued (p : Port)
  | slotPower (n : Slot)
  deriving DecidableEq, Repr

/-- One reading of a slot's window comparators (R516). -/
structure SlotWindow where
  slot : Slot
  belowNinety : Bool
  aboveOneVolt : Bool
  deriving DecidableEq, Repr

/-- The strap values (R531). -/
structure Straps where
  mp : Fin 8
  i3c : Bool
  addr : Fin 8
  spi : Fin 4
  ws : Fin 32
  deriving DecidableEq, Repr

/-- A Wayside frame as the AON receives it (R519). -/
structure WaysideFrame where
  dst : BitVec 5
  src : BitVec 5
  type : BitVec 4
  len : BitVec 11
  reserved : BitVec 7
  payload : List Byte
  crc : BitVec 32
  deriving DecidableEq, Repr

/-- An MCTP endpoint (R534). -/
inductive Endpoint
  | bus
  | vdm
  | trunk (p : Port)
  deriving DecidableEq, Repr

/-- Where an SPDM request arrives (R549). -/
inductive SpdmEnd
  | bus
  | vdm
  | trunk (p : Port)
  | doe (v : Vcs)
  deriving DecidableEq, Repr

/-- The targets of a debug access (R400). -/
inductive DebugTarget
  | tenantPool
  | granaryLoftDirectory
  | tenantLeverMemory (c : Core)
  | otherLeverMemory
  | ledger
  | keyStore
  deriving DecidableEq, Repr

/-- The fatal errors of R603. -/
inductive FatalCode
  | loftTags
  | sidingStuck
  | mcMemory
  | mcWatchdog
  deriving DecidableEq, Repr

/-- The kinds of IDE stream of a standard port (R236): a link stream or a selective stream of PCIe IDE, or CXL.cachemem IDE in
containment mode or in skid mode. -/
inductive IdeKind
  | link
  | selective
  | cachememContainment
  | cachememSkid
  deriving DecidableEq, Repr

/-- An IDE_KM message of a host (R556); KEY_PROG names the kind of stream its keys are for. -/
inductive IdeKm
  | query
  | keyProg (kind : IdeKind)
  | keySetGo
  | keySetStop
  deriving DecidableEq, Repr


/-- The commands of the block, in the order of the table. -/
inductive Instr
  /-- ADD (R49). ALU add: G[rd] = G[ra] + G[rb] modulo 2^64. -/
  | add (c : Core) (o : RRR)
  /-- SUB (R49). ALU subtract: G[rd] = G[ra] - G[rb]. -/
  | sub (c : Core) (o : RRR)
  /-- AND (R49). ALU bitwise and of G[ra] and G[rb]. -/
  | andAlu (c : Core) (o : RRR)
  /-- OR (R49). ALU bitwise or of G[ra] and G[rb]. -/
  | orAlu (c : Core) (o : RRR)
  /-- XOR (R49). ALU bitwise exclusive-or of G[ra] and G[rb]. -/
  | xorAlu (c : Core) (o : RRR)
  /-- SLL (R49). Shift G[ra] left by G[rb][5:0]. -/
  | sll (c : Core) (o : RRR)
  /-- SRL (R49). Shift G[ra] right logically by G[rb][5:0]. -/
  | srl (c : Core) (o : RRR)
  /-- SRA (R49). Shift G[ra] right arithmetically by G[rb][5:0]. -/
  | sra (c : Core) (o : RRR)
  /-- SLT (R49). Set G[rd] to 1 if G[ra] is signed-less than G[rb], else 0. -/
  | slt (c : Core) (o : RRR)
  /-- SLTU (R49). Set G[rd] to 1 if G[ra] is unsigned-less than G[rb], else 0. -/
  | sltu (c : Core) (o : RRR)
  /-- MUL (R49). Low 64 bits of the product of G[ra] and G[rb]. -/
  | mul (c : Core) (o : RRR)
  /-- MULHU (R49). High 64 bits of the unsigned product of G[ra] and G[rb]. -/
  | mulhu (c : Core) (o : RRR)
  /-- DIVU (R49). Unsigned division, all ones when the divisor is zero. -/
  | divu (c : Core) (o : RRR)
  /-- REMU (R49). Unsigned remainder, G[ra] when the divisor is zero. -/
  | remu (c : Core) (o : RRR)
  /-- MINU (R49). Unsigned minimum of G[ra] and G[rb]. -/
  | minu (c : Core) (o : RRR)
  /-- MAXU (R49). Unsigned maximum of G[ra] and G[rb]. -/
  | maxu (c : Core) (o : RRR)
  /-- AMOADD (R49). Atomic add to an 8-aligned shared-data word, returning the old value. -/
  | amoadd (c : Core) (o : RRR)
  /-- AMOSWAP (R49). Atomic swap of an 8-aligned shared-data word, returning the old value. -/
  | amoswap (c : Core) (o : RRR)
  /-- AMOAND (R49). Atomic and into an 8-aligned shared-data word, returning the old value. -/
  | amoand (c : Core) (o : RRR)
  /-- AMOOR (R49). Atomic or into an 8-aligned shared-data word, returning the old value. -/
  | amoor (c : Core) (o : RRR)
  /-- ADDI (R49). Add the sign-extended immediate to G[ra]. -/
  | addi (c : Core) (o : IOp)
  /-- ANDI (R49). And G[ra] with the zero-extended immediate. -/
  | andi (c : Core) (o : IOp)
  /-- ORI (R49). Or G[ra] with the zero-extended immediate. -/
  | ori (c : Core) (o : IOp)
  /-- XORI (R49). Exclusive-or G[ra] with the zero-extended immediate. -/
  | xori (c : Core) (o : IOp)
  /-- EXT (R49). Extract a bit field of G[ra] given by position and length in the immediate. -/
  | extField (c : Core) (o : IOp)
  /-- INS (R49). Insert the low bits of G[ra] into a bit field of G[rd]. -/
  | insField (c : Core) (o : IOp)
  /-- LUI (R49). Load the sign-extended immediate shifted left by 16. -/
  | lui (c : Core) (o : IOp)
  /-- SHOR (R49). Shift G[ra] left by 16 and or in the zero-extended immediate. -/
  | shor (c : Core) (o : IOp)
  /-- SLTI (R49). Signed compare of G[ra] with the sign-extended immediate. -/
  | slti (c : Core) (o : IOp)
  /-- SLTIU (R49). Unsigned compare of G[ra] with the sign-extended immediate. -/
  | sltiu (c : Core) (o : IOp)
  /-- SLLI (R49). Shift G[ra] left by imm16[5:0]. -/
  | slli (c : Core) (o : IOp)
  /-- SRLI (R49). Shift G[ra] right logically by imm16[5:0]. -/
  | srli (c : Core) (o : IOp)
  /-- SRAI (R49). Shift G[ra] right arithmetically by imm16[5:0]. -/
  | srai (c : Core) (o : IOp)
  /-- LD (R49). Load a 64-bit word, with region and alignment checks. -/
  | ld (c : Core) (o : IOp)
  /-- LW (R49). Load and zero-extend a 32-bit word. -/
  | lw (c : Core) (o : IOp)
  /-- LB (R49). Load and zero-extend a byte. -/
  | lb (c : Core) (o : IOp)
  /-- SD (R49). Store a 64-bit word, with region and alignment checks. -/
  | sd (c : Core) (o : IOp)
  /-- SW (R49). Store the low 32 bits of G[rd]. -/
  | sw (c : Core) (o : IOp)
  /-- SB (R49). Store the low byte of G[rd]. -/
  | sb (c : Core) (o : IOp)
  /-- JAL (R49). Jump by a word displacement and link pc + 4 into G[rd]. -/
  | jal (c : Core) (o : IOp)
  /-- JALR (R49). Jump to G[ra] + immediate with the low bits cleared, linking pc + 4. -/
  | jalr (c : Core) (o : IOp)
  /-- BEQ (R49). Branch when G[ra] equals G[rb]. -/
  | beq (c : Core) (o : BOp)
  /-- BNE (R49). Branch when G[ra] differs from G[rb]. -/
  | bne (c : Core) (o : BOp)
  /-- BLT (R49). Branch when G[ra] is signed-less than G[rb]. -/
  | blt (c : Core) (o : BOp)
  /-- BGE (R49). Branch when G[ra] is signed-greater or equal to G[rb]. -/
  | bge (c : Core) (o : BOp)
  /-- BLTU (R49). Branch when G[ra] is unsigned-less than G[rb]. -/
  | bltu (c : Core) (o : BOp)
  /-- BGEU (R49). Branch when G[ra] is unsigned-greater or equal to G[rb]. -/
  | bgeu (c : Core) (o : BOp)
  /-- OPEN (R58). Fill a handle register with an object's class, index, sub-index and generation after range and scope checks. -/
  | openObj (c : Core) (o : TOp)
  /-- LDF (R58). Read an object field, or its staged value when flag C is 0. -/
  | ldf (c : Core) (o : TOp)
  /-- STF (R58). Stage a write of a CO field, or an action entry to ACT, in the commit buffer. -/
  | stf (c : Core) (o : TOp)
  /-- NEW (R58). Reserve the lowest free object of a pool class and stage its creation. -/
  | newObj (c : Core) (o : TOp)
  /-- DEL (R58). Stage the deletion of a pool object and invalidate the handle. -/
  | delObj (c : Core) (o : TOp)
  /-- COMMIT (R62). Request a commit of the buffer; an empty buffer returns OK at once. -/
  | commitBuf (c : Core) (o : SOp)
  /-- COMMIT_UNIT_GRANT (R63). The commit unit serves a waiting commit, checks generations and invariants, and waits for the next round boundary. -/
  | commitUnitGrant (c : Core)
  /-- COMMIT_ROUND_BOUNDARY (R62). At the round boundary the barrier is held, timetable checks run, every entry is applied, staged raises are made pending and the status is returned. -/
  | commitRoundBoundary
  /-- DONE (R48). End the order with status OK, or fault STAGED if the buffer is not empty. -/
  | doneOrder (c : Core) (o : SOp)
  /-- FAIL (R73). End the order with the status word in G[ra], discarding the buffer. -/
  | failOrder (c : Core) (o : SOp)
  /-- TIME (R48). Read the current FTB tick count. -/
  | timeNow (c : Core) (o : SOp)
  /-- ROUND (R48). Read the Turntable round count since reset. -/
  | roundCount (c : Core) (o : SOp)
  /-- WHO (R48). Read the submitter word. -/
  | who (c : Core) (o : SOp)
  /-- RLEN (R48). Set the reply length, raising RANGE above 4,096. -/
  | rlen (c : Core) (o : SOp)
  /-- RAISE (R640). Check an event vector and stage its raising in the commit buffer. -/
  | raiseEvent (c : Core) (o : SOp)
  /-- WAIT (R48). Start waiting until the FTB reaches G[ra]. -/
  | waitUntil (c : Core) (o : SOp)
  /-- WAIT_EXPIRY (R48). The FTB reaches the awaited tick and the waiting core continues. -/
  | waitExpiry (c : Core)
  /-- FENCE (R54). Order earlier shared-memory accesses before later ones. -/
  | fence (c : Core) (o : SOp)
  /-- PET (R76). Restart the watchdog of a resident core. -/
  | pet (c : Core) (o : SOp)
  /-- BRK (R71). Breakpoint, faulting BREAK when no debugger is attached. -/
  | brk (c : Core) (o : SOp)
  /-- CORE (R48). Read the number of the executing core. -/
  | coreNumber (c : Core) (o : SOp)
  /-- LEVER_TIME_LIMIT (R74). An order reaches 1,000,000 ticks of Lever time and ends with fault TIME. -/
  | leverTimeLimit (c : Core)
  /-- RESIDENT_WATCHDOG (R76). A resident core's watchdog expires; the buffer is discarded, the event logged and raised, and the task restarted. -/
  | residentWatchdog (c : Core)
  /-- SUBMIT_ORDER (R97). Mailbox or MCTP opcode 0xC000 carries an order frame, checked under R80 and queued. -/
  | submitOrder (src : OrderSource)
  /-- VENDOR_OPCODE_UNSUPPORTED (R97). A mailbox vendor opcode 0xC001-0xFFFF or unlisted opcode returns Unsupported. -/
  | vendorOpcodeUnsupported (src : RequestSource) (opcode : BitVec 16)
  /-- TW_GO (R101). A write of 1 to GO in a tenant window submits the frame after the tenant checks and R80. -/
  | twGo (t : TenantId) (ctl : BitVec 32)
  /-- ORDER_DISPATCH (R90). A free order core takes the oldest eligible queued order and starts it. -/
  | orderDispatch (c : Core)
  /-- ORDER_DEADLINE (R82). An order's DEADLINE passes before a core takes it and it ends with TIMEOUT. -/
  | orderDeadline (id : Nat)
  /-- IDENTIFY_SWITCH_DEVICE (R98). FM API 0x5100, served by INFO kind 0. -/
  | identifySwitchDevice (src : RequestSource)
  /-- GET_PHYSICAL_PORT_STATE (R98). FM API 0x5101, served by INFO kind 1. -/
  | getPhysicalPortState (src : RequestSource) (start count : BitVec 16)
  /-- PHYSICAL_PORT_CONTROL (R98). FM API 0x5102, served by PORT_CTL. -/
  | physicalPortControl (src : RequestSource) (port op : Byte)
  /-- SEND_PPB_CXLIO_CONFIG_REQUEST (R98). FM API 0x5103, served by PPB_CFG. -/
  | sendPpbCxlioConfigRequest (src : RequestSource) (port op : Byte) (reg : BitVec 16) (be : Byte) (data : BitVec 32)
  /-- GET_VIRTUAL_CXL_SWITCH_INFO (R98). FM API 0x5200, served by INFO kind 2. -/
  | getVirtualCxlSwitchInfo (src : RequestSource) (start count : BitVec 16)
  /-- BIND_VPPB (R99). FM API 0x5201, returns Background Command Started and runs BIND. -/
  | bindVppb (src : RequestSource) (vcs vppb kind port : Byte) (ldid : BitVec 16)
  /-- UNBIND_VPPB (R99). FM API 0x5202, returns Background Command Started and runs UNBIND. -/
  | unbindVppb (src : RequestSource) (vcs vppb option : Byte)
  /-- GENERATE_AER_EVENT (R98). FM API 0x5203, served by AER_GEN. -/
  | generateAerEvent (src : RequestSource) (vcs vppb : Byte) (error : BitVec 32) (header : List Byte)
  /-- TUNNEL_MANAGEMENT_COMMAND (R98). FM API 0x5300, carried to an MLD by LD_TUNNEL. -/
  | tunnelManagementCommand (src : RequestSource) (port : Byte) (target : BitVec 16) (request : List Byte)
  /-- SEND_LD_CXLIO_CONFIG_REQUEST (R98). FM API 0x5301, served by LD_TUNNEL. -/
  | sendLdCxlioConfigRequest (src : RequestSource) (port : Byte) (ldid : BitVec 16) (request : List Byte)
  /-- SEND_LD_CXLIO_MEMORY_REQUEST (R98). FM API 0x5302, served by LD_TUNNEL. -/
  | sendLdCxlioMemoryRequest (src : RequestSource) (port : Byte) (ldid : BitVec 16) (request : List Byte)
  /-- PBR_AND_GFD_COMMAND (R98). Fabric-management and GFD commands served by PBR_SET, READ, RULE_STAGE or LD_TUNNEL. -/
  | pbrAndGfdCommand (src : RequestSource) (cmd : FabricCommand)
  /-- BACKGROUND_COMPLETE (R99). A background bind or unbind completes with PERCENT 100 when its library order ends. -/
  | backgroundComplete
  /-- PORT_SET (R104). Stage the selected PORT fields in one commit. -/
  | portSet (c : Core)
  /-- BIFURCATE (R140). Write STATION.BIFURC, for both stations of a pair when x16 is involved. -/
  | bifurcate (c : Core)
  /-- LANE_REMAP (R141). The station remaps its lanes and resets PORT objects of ports that become vacant or present. -/
  | laneRemap (st : Station)
  /-- PORT_CTL_ASSERT_PERST (R105). OP 0 drives the PERST of the slot mapped to the port low and holds it. -/
  | portCtlAssertPerst (c : Core)
  /-- PORT_CTL_RELEASE_PERST (R105). OP 1 ends the PERST hold. -/
  | portCtlReleasePerst (c : Core)
  /-- PORT_CTL_RESET_PPB (R105). OP 2 sends hot reset, holds LINK 10 for 2 ms, then the port retrains. -/
  | portCtlResetPpb (c : Core)
  /-- HOT_RESET_END (R105). The 2 ms hot reset hold ends and the port enters DETECT. -/
  | hotResetEnd (p : Port)
  /-- PORT_CTL_DISABLE_LINK (R105). OP 3 puts the port in LINK 11 until OP 4. -/
  | portCtlDisableLink (c : Core)
  /-- PORT_CTL_ENABLE_LINK (R105). OP 4 leaves LINK 11 and trains if ENABLE is 1. -/
  | portCtlEnableLink (c : Core)
  /-- PORT_CTL_CONTAIN (R105). OP 5 puts the port in containment with the PORT_CTL trigger. -/
  | portCtlContain (c : Core)
  /-- PORT_CTL_RELEASE_CONTAINMENT (R105). OP 6 releases the PORT_CTL, DPC and replay-buffer triggers. -/
  | portCtlReleaseContainment (c : Core)
  /-- PPB_CFG_READ (R106). Send a Type 0 configuration read from a port's PPB to its device. -/
  | ppbCfgRead (c : Core)
  /-- PPB_CFG_WRITE (R106). Send a Type 0 configuration write from a port's PPB to its device. -/
  | ppbCfgWrite (c : Core)
  /-- PPB_CFG_COMPLETION (R106). The configuration completion arrives and the order replies with data and status. -/
  | ppbCfgCompletion (c : Core) (status : CplStatus) (data : BitVec 32)
  /-- PPB_CFG_TIMEOUT (R106). No completion within 900 us ends PPB_CFG with ABORTED. -/
  | ppbCfgTimeout (c : Core)
  /-- VCS_SET (R295). Write a virtual switch's USP and ENABLE. -/
  | vcsSet (c : Core)
  /-- BIND (R300). Bind a port or logical device to a vPPB, entering PENDING. -/
  | bind (c : Core)
  /-- UNBIND_WAIT_LINK_DOWN (R308). MODE 0 unbinds at once if link-down or KIND 2, else sets HP 6. -/
  | unbindWaitLinkDown (c : Core)
  /-- UNBIND_MANAGED_HOT_REMOVE (R308). MODE 1 sets HP 4 and Attention Button Pressed. -/
  | unbindManagedHotRemove (c : Core)
  /-- UNBIND_SURPRISE_HOT_REMOVE (R308). MODE 2 unbinds at once. -/
  | unbindSurpriseHotRemove (c : Core)
  /-- PBR_SET (R299). Write PBR entries in one commit. -/
  | pbrSet (c : Core)
  /-- LD_TUNNEL (R303). Tunnel an FM API request to an MLD logical device or GFD. -/
  | ldTunnel (c : Core)
  /-- LD_TUNNEL_RESPONSE (R303). The target's response arrives and becomes the reply. -/
  | ldTunnelResponse (c : Core) (response : List Byte)
  /-- LD_TUNNEL_TIMEOUT (R303). No response within 900 us ends LD_TUNNEL with ABORTED. -/
  | ldTunnelTimeout (c : Core)
  /-- AER_GEN (R107). Set an uncorrectable error bit in a vPPB's AER, log the header and send the error message unless masked. -/
  | aerGen (c : Core)
  /-- TENANT_CREATE (R382). Commit STATE 0 to 1 with every sheaf field and start the tenant shaper full. -/
  | tenantCreate (c : Core)
  /-- TENANT_RESET (R409). Commit STATE 1 to 2 and start the reset steps. -/
  | tenantReset (c : Core)
  /-- TENANT_RESET_REQUESTS_DONE (R410). The last open non-posted request of a resetting tenant is answered; queued wagons are discarded and credits, quota and shaper reset. -/
  | tenantResetRequestsDone (t : TenantId)
  /-- TENANT_RESET_TIMEOUT (R410). TENANT.TIMEOUT passes; open requests are answered by the device and the reset continues. -/
  | tenantResetTimeout (t : TenantId)
  /-- TENANT_RESET_DONE (R410). After the Gleaner flush, pending bits are cleared, STATE returns to 1 and the done vector is raised. -/
  | tenantResetDone (t : TenantId)
  /-- TENANT_DESTROY (R384). Disable logging and windows, delete owned objects over up to 32 commits and set STATE 0 when empty. -/
  | tenantDestroy (c : Core)
  /-- TENANT_MAP (R377). Set PORT.TENANT or PBR.TENANT. -/
  | tenantMap (c : Core)
  /-- RULE_STAGE (R391). Create, change or delete up to 32 rules of a bank in one commit. -/
  | ruleStage (c : Core)
  /-- BANK_SWAP (R393). Set the tenant's active rule bank from the commit's round boundary. -/
  | bankSwap (c : Core)
  /-- GLEANER_STOP (R408). OP 0 writes out pending records and stops logging. -/
  | gleanerStop (c : Core)
  /-- GLEANER_START (R408). OP 1 sets the ring, clears counts and bitmap, sets PASS 1 and logs its marker. -/
  | gleanerStart (c : Core)
  /-- GLEANER_NEW_PASS (R407). OP 2 increases PASS, clears the bitmap and logs a marker. -/
  | gleanerNewPass (c : Core)
  /-- GLEANER_SET_TAIL (R408). OP 3 sets TAIL to the records consumed. -/
  | gleanerSetTail (c : Core)
  /-- GLEANER_PASS_FINAL (R407). Every write checked before a pass boundary is accepted and EVENT is raised. -/
  | gleanerPassFinal (t : TenantId)
  /-- GLEANER_PASS_TIMEOUT (R407). Finalising a pass takes longer than TENANT.TIMEOUT and ALLDIRTY becomes 1. -/
  | gleanerPassTimeout (t : TenantId)
  /-- GLEANER_RECORD_WRITE (R405). Pending records are written to the ring in 64-byte lines within 10 us of their mark. -/
  | gleanerRecordWrite (t : TenantId)
  /-- SHAPER_SET (R435). Set tenant and class shapers, scheduling fields and adaptive settings in one commit. -/
  | shaperSet (c : Core)
  /-- TIMETABLE_ARM (R441). Load a timetable's inactive bank and arm its takeover, in one or more commits. -/
  | timetableArm (c : Core)
  /-- WINDOW_SET (R313). Write a Junction window's fields. -/
  | windowSet (c : Core)
  /-- SLOT_POWER_OFF (R495). OP 0 writes ENABLE 0 to the selected slots. -/
  | slotPowerOff (c : Core)
  /-- SLOT_POWER_ON (R495). OP 1 writes ENABLE 1 to the selected slots. -/
  | slotPowerOn (c : Core)
  /-- SLOT_POWER_CYCLE (R495). OP 2 writes ENABLE 0 in one commit and ENABLE 1 in a second. -/
  | slotPowerCycle (c : Core)
  /-- SLOT_LIMITS (R496). Stage the selected slot limit fields. -/
  | slotLimits (c : Core)
  /-- SLOT_TIMING (R497). Stage the selected slot timing fields and EV. -/
  | slotTiming (c : Core)
  /-- SLOT_MAP (R498). Write SLOT.PORT. -/
  | slotMap (c : Core)
  /-- DOMAIN_SET (R505). Write DOMAIN.REQ of up to 75 domains in one commit. -/
  | domainSet (c : Core)
  /-- PSTATE_SET (R506). Write PSTATE, WATCH_PER, VCORE and the wake fields. -/
  | pstateSet (c : Core)
  /-- EVENT_ALLOCATE (R418). EVENT_SET OP 0 allocates event vectors for an owner. -/
  | eventAllocate (c : Core)
  /-- EVENT_ENABLE (R418). EVENT_SET OP 1 enables vectors. -/
  | eventEnable (c : Core)
  /-- EVENT_DISABLE (R418). EVENT_SET OP 2 disables vectors. -/
  | eventDisable (c : Core)
  /-- EVENT_CLEAR_PENDING (R418). EVENT_SET OP 3 clears pending bits. -/
  | eventClearPending (c : Core)
  /-- EVENT_FREE (R418). EVENT_SET OP 4 frees vectors, clearing their pending bits. -/
  | eventFree (c : Core)
  /-- COUNTER_ALLOCATE (R577). COUNTER_SET OP 0 allocates tenant counters. -/
  | counterAllocate (c : Core)
  /-- COUNTER_PROGRAM (R577). COUNTER_SET OP 1 programs and clears counters, in two commits above 28 items. -/
  | counterProgram (c : Core)
  /-- COUNTER_CLEAR (R577). COUNTER_SET OP 2 writes ZERO. -/
  | counterClear (c : Core)
  /-- COUNTER_RUN (R577). COUNTER_SET OP 3 writes RUN 1. -/
  | counterRun (c : Core)
  /-- COUNTER_STOP (R577). COUNTER_SET OP 4 writes RUN 0. -/
  | counterStop (c : Core)
  /-- COUNTER_FREE (R577). COUNTER_SET OP 5 deletes counters. -/
  | counterFree (c : Core)
  /-- READ (R103). Read up to 512 object fields. -/
  | readFields (c : Core)
  /-- INFO_IDENTIFY (R108). INFO KIND 0 returns the Identify Switch Device payload. -/
  | infoIdentify (c : Core)
  /-- INFO_PORT_STATE (R108). INFO KIND 1 returns physical port state records. -/
  | infoPortState (c : Core)
  /-- INFO_VCS (R108). INFO KIND 2 returns virtual switch records with vPPB lists. -/
  | infoVcs (c : Core)
  /-- STANDING_WRITE (R109). Store an order frame as a Ledger standing-order record. -/
  | standingWrite (c : Core)
  /-- STANDING_WRITE_PART (R112). Store one part of a long standing-order frame in a session, writing the record at the last part. -/
  | standingWritePart (c : Core)
  /-- STANDING_SESSION_TIMEOUT (R112). A session receiving no part for 10 s is discarded. -/
  | standingSessionTimeout
  /-- STANDING_CLEAR_RANGE (R113). OP 0 clears valid records from FIRST to LAST. -/
  | standingClearRange (c : Core)
  /-- STANDING_CLEAR_ALL (R113). OP 1 clears every valid record. -/
  | standingClearAll (c : Core)
  /-- STANDING_LIST (R114). List standing-order records. -/
  | standingList (c : Core)
  /-- STANDING_ORDER_REPLAY (R115). In phase 3 one valid record is run with its stored privilege on channel 3. -/
  | standingOrderReplay
  /-- IMAGE_WRITE_PROGRAM (R124). OP 0 commits a program request to the inactive flash bank. -/
  | imageWriteProgram (c : Core)
  /-- IMAGE_WRITE_ERASE (R124). OP 1 commits an erase of a 64 KiB block. -/
  | imageWriteErase (c : Core)
  /-- IMAGE_WRITE_ERASE_PROGRAM (R124). OP 2 erases the touched blocks and then programs. -/
  | imageWriteEraseProgram (c : Core)
  /-- IMAGE_FLASH_WORK_DONE (R124). The MC finishes the flash work; STAGE returns to 0 or becomes 4. -/
  | imageFlashWorkDone (ok : Bool)
  /-- IMAGE_STAGE (R126). Commit a request to verify the inactive bank and copy it to staging memory. -/
  | imageStage (c : Core)
  /-- STAGING_DONE (R126). Verification and copy end; STAGE becomes 3 or 4 and the event is raised. -/
  | stagingDone (memoryError : Bool)
  /-- ACTIVATE (R128). Commit activation of the staged image; the MC re-hashes the copy. -/
  | activate (c : Core)
  /-- ACTIVATION_REHASH_DONE (R128). The re-hash ends; on a match quiesce begins, on a mismatch activation fails with 0x07. -/
  | activationRehashDone
  /-- ACTIVATION_QUIESCE_POINT (R128). Every order core is idle and every resident core halted; the image is copied from staging. -/
  | activationQuiescePoint
  /-- ACTIVATION_COPY_DONE (R128). The copy ends; the MC restarts on the new code or reloads the old image on a hash failure. -/
  | activationCopyDone (memoryError : Bool)
  /-- ACTIVATION_RESUME (R128). Resident tasks and dispatch resume, ACT becomes 2, BANK shows the new bank and the Alias key is renewed. -/
  | activationResume
  /-- ACTIVATION_RELOAD_DONE (R131). The previous image is reloaded after a failed activation and policy resumes. -/
  | activationReloadDone
  /-- CONFIRM (R133). Set PREFERRED to the active bank, ACT to 0 and optionally raise SVN_FLOOR. -/
  | confirm (c : Core)
  /-- LANE_REPORT (R163). Return a station's lane and port records. -/
  | laneReport (c : Core)
  /-- CHAN_MEASURE (R166). Set the velocity and measure lanes of link-down ports. -/
  | chanMeasure (c : Core)
  /-- CHANNEL_MEASUREMENT_DONE (R150). A reflection measurement of a station's lanes completes and records delay, loss and length. -/
  | channelMeasurementDone (st : Station) (lanes : List LaneReflection)
  /-- LANE_TEST_STOP (R167). OP 0 stops the generator and checker. -/
  | laneTestStop (c : Core)
  /-- LANE_TEST_START (R168). OP 1 starts PRBS generation and checking on lanes of disabled ports. -/
  | laneTestStart (c : Core)
  /-- LANE_TEST_READ (R171). OP 2 reads and clears bit and error counts. -/
  | laneTestRead (c : Core)
  /-- LANE_TEST_INJECT (R172). OP 3 injects errors, also on a link in L0. -/
  | laneTestInject (c : Core)
  /-- EYE_SCAN (R175). Commit an eye scan of one lane into T0 pool memory. -/
  | eyeScan (c : Core)
  /-- EYE_SCAN_END (R177). The scan ends; the result is written and EVENT raised. -/
  | eyeScanEnd (st : Station) (lane : LaneOf) (early : Bool) (errors : List Nat)
  /-- LANE_MARGINING (R178). A margining command suspends a running scan on the lane. -/
  | laneMargining (st : Station) (lane : LaneOf)
  /-- MARGINING_END (R178). Margining ends and a suspended scan resumes at its current point. -/
  | marginingEnd (st : Station) (lane : LaneOf)
  /-- MIRROR_SET (R310). Write a MIRROR session's fields. -/
  | mirrorSet (c : Core)
  /-- AGENT_SET (R329). Write an AGENT entry, killing a live agent first when it changes. -/
  | agentSet (c : Core)
  /-- DEADLOG_READ (R365). Return dead-agent records. -/
  | deadlogRead (c : Core)
  /-- COHERENCE_SET (R351). Write DEAD_T and NEAR latencies in one commit. -/
  | coherenceSet (c : Core)
  /-- COHERENT_FLUSH (R367). Commit a recall of every directory entry charged to a tenant. -/
  | coherentFlush (c : Core)
  /-- COHERENT_FLUSH_DONE (R367). The tenant's TRACKED reads 0 and the flush event is raised. -/
  | coherentFlushDone (t : TenantId)
  /-- CHECKER_CLEAR (R398). Re-arm checker captures and return their LATER counts. -/
  | checkerClear (c : Core)
  /-- QUEUE_READ (R450). Read a port's queue samples and optionally clear peaks or set the period. -/
  | queueRead (c : Core)
  /-- CLASS_SET (R421). Write a port's CLASSMAP and MEMCLASS. -/
  | classSet (c : Core)
  /-- TIME_SET (R457). Set the FTB source, port, marks and sync period; FTB_STATE becomes 1. -/
  | timeSet (c : Core)
  /-- IDE_STOP (R557). IDE_SET OP 0 stops every stream of a port. -/
  | ideStop (c : Core)
  /-- IDE_ESTABLISH (R557). IDE_SET OP 1 establishes the link stream through IDE_KM. -/
  | ideEstablish (c : Core)
  /-- IDE_REFRESH (R557). IDE_SET OP 2 refreshes the keys now. -/
  | ideRefresh (c : Core)
  /-- IDE_KM_DONE (R557). IDE_KM ends with the stream secure or failed and the event is raised. -/
  | ideKmDone (p : Port) (secure : Bool)
  /-- TOKEN_NONCE (R560). Draw and store a fresh nonce, returning SERIAL and NONCE. -/
  | tokenNonce (c : Core)
  /-- TOKEN_WRITE (R560). Verify and store a token for the next cold reset. -/
  | tokenWrite (c : Core)
  /-- UNIT_COUNTER_PROGRAM (R578). UNIT_COUNTER_SET OP 1 programs and clears a unit counter. -/
  | unitCounterProgram (c : Core)
  /-- UNIT_COUNTER_CLEAR (R578). UNIT_COUNTER_SET OP 2 clears a unit counter. -/
  | unitCounterClear (c : Core)
  /-- UNIT_SET_RUN (R578). UNIT_COUNTER_SET OP 3 writes RUN 1 to a set. -/
  | unitSetRun (c : Core)
  /-- UNIT_SET_STOP (R583). UNIT_COUNTER_SET OP 4 writes RUN 0 to a set. -/
  | unitSetStop (c : Core)
  /-- UNIT_SET_ZERO (R578). UNIT_COUNTER_SET OP 6 writes ZERO to a set. -/
  | unitSetZero (c : Core)
  /-- SENSOR_SET (R586). Write ALARM and EV and clear PEAK of selected sensors. -/
  | sensorSet (c : Core)
  /-- RESET_WARM (R608). RESET TYPE 1: reply, end orders, write back the Loft, take links down and boot. -/
  | resetWarm (c : Core)
  /-- RESET_STATION (R609). RESET TYPE 2 resets one station or x16 pair. -/
  | resetStation (c : Core)
  /-- RESET_LEVER (R610). RESET TYPE 3 ends running orders, clears local memory and reloads Lever shared code. -/
  | resetLever (c : Core)
  /-- LEVER_RELOAD_DONE (R610). The Lever reload completes and resident tasks restart, or a mismatch becomes an abrupt warm reset. -/
  | leverReloadDone
  /-- STATION_REJOIN (R609). A reset station rejoins the barrier within 200 us and enabled ports train. -/
  | stationRejoin (st : Station)
  /-- ERRLOG_READ (R605). Return error log records. -/
  | errlogRead (c : Core)
  /-- REGISTER_WRITE (R6). A write to a register with no behaviour of its own takes effect by its access code. -/
  | registerWrite (addr : Nat) (size : Nat) (value : BitVec 64)
  /-- POWER_CONTROLLER_OFF (R306). The host writes Power Controller Control 1: ACTIVE or UNBIND_AT_DOWN moves to PRESENT, or REMOVING unbinds. -/
  | powerControllerOff (v : Vcs) (b : VppbNo)
  /-- POWER_CONTROLLER_ON (R306). The host writes Power Controller Control 0 and a PRESENT vPPB becomes ACTIVE. -/
  | powerControllerOn (v : Vcs) (b : VppbNo)
  /-- DPC_TRIGGER_CLEAR (R595). The host clears DPC Trigger Status, releasing the DPC containment trigger. -/
  | dpcTriggerClear (v : Vcs) (b : VppbNo)
  /-- CONFIGURATION_REQUEST (R291). A host configuration request to a virtual switch is routed by binding and never checked against rules. -/
  | configurationRequest (v : Vcs) (req : ConfigRequest)
  /-- ROUND_BOUNDARY (R242). Every participant has handshaken; each input spreads up to 2 wagons and each siding delivers up to 2. -/
  | roundBoundary
  /-- PARTICIPANT_STUCK (R250). A participant fails to handshake for 1 us; a station is removed as dark, a siding is fatal. -/
  | participantStuck (who : Participant)
  /-- RATE_WINDOW (R251). A 1,024-tick window ends, at the tick given, and station credit allowances are recomputed. -/
  | rateWindow (ends : Nat)
  /-- FRAME_ADMIT (R270). A frame arrives at an input station, is checked, classed, charged and queued for spreading. -/
  | frameAdmit (f : FrameIn)
  /-- LOAN_RETURN (R278). A loan block empty for 10,000 ticks is returned. -/
  | loanReturn (p : Port)
  /-- ADMISSION_RELEASE (R429). A request at the head of an admission queue leaves when its tenant shaper has tokens. -/
  | admissionRelease (p : Port) (cl : Class)
  /-- FRAME_START (R425). The output arbiter starts the next eligible frame on a port. -/
  | frameStart (p : Port)
  /-- FRAME_SENT (R423). A frame's sending ends and its Granary cells and credits are freed. -/
  | frameSent (p : Port)
  /-- SHAPER_REFILL (R431). At each FTB multiple of 1,000 every rated shaper adds RATE tokens up to BURST. -/
  | shaperRefill
  /-- TIMETABLE_ENTRY_BOUNDARY (R436). A timetable entry's duration ends and the next entry's gates apply. -/
  | timetableEntryBoundary (p : Port)
  /-- TIMETABLE_TAKEOVER (R438). An armed timetable's inactive bank becomes active at TAKEOVER. -/
  | timetableTakeover (p : Port)
  /-- QUEUE_SAMPLE (R448). Every queue's depth and hold are sampled at each period multiple. -/
  | queueSample
  /-- LINK_UP (R191). A port reaches a link-up state; held Loft lines are written and bound vPPBs proceed. -/
  | linkUp (p : Port) (info : LinkInfo)
  /-- LINK_DOWN (R192). A port moves from a link-up to a link-down value, starting the flush and agent deaths. -/
  | linkDown (p : Port) (cause : DownCause)
  /-- PORT_FLUSH_DONE (R289). No station or siding holds a wagon for or from the port. -/
  | portFlushDone (p : Port)
  /-- REPLAY_CONTAINMENT_TIMEOUT (R595). 100 ms after a replay-buffer containment the trigger is released. -/
  | replayContainmentTimeout (p : Port)
  /-- FLIT_RECEIVE (R193). A PCIe or CXL flit is received and checked by the link layer. -/
  | flitReceive (p : Port) (ev : FlitEvent)
  /-- DETECT_RETRY (R199). A Trunk port in Detect repeats receiver detection every 12 ms. -/
  | detectRetry (p : Port) (found : Bool)
  /-- HELLO (R202). A Trunk Hello ordered set is received; roles, rate, width and level are settled when the handshake completes. -/
  | hello (p : Port) (h : Hello) (lanesOk : Nat) (downwards : Bool)
  /-- TRUNK_STAGE_TIMEOUT (R199). A Trunk Hello or equalisation stage exceeds 24 ms and the port returns to Detect. -/
  | trunkStageTimeout (p : Port)
  /-- TRUNK_EQUALISATION_DONE (R205). Equalisation at the last rate completes and the link enters Active. -/
  | trunkEqualisationDone (e : Equalised)
  /-- ALIGNMENT_MARKER (R149). A Trunk alignment marker is received, aligning lanes and setting polarity and reversal. -/
  | alignmentMarker (p : Port) (physical : Fin 16) (bytes : List Byte) (inverted : Bool)
  /-- FLIT_BOUNDARY (R216). At a Trunk flit boundary the transmitter sends a MAC, replay, BYPASS, DATA or IDLE flit. -/
  | flitBoundary (p : Port)
  /-- TRUNK_FLIT_RECEIVE (R224). A Trunk flit is received, corrected, CRC-checked, sequenced, acknowledged and its credit applied. It comes as
  bytes 0 to 241, its CRC in bytes 242 to 249 and its FEC in bytes 250 to 255 (R207). -/
  | trunkFlitReceive (p : Port) (body crc fec : List Byte)
  /-- REPLAY_TIMER (R226). The 4,000 ns replay timer expires and a replay starts. -/
  | replayTimer (p : Port)
  /-- TRUNK_RECOVERY (R229). An end enters Trunk recovery and realigns on fresh markers. -/
  | trunkRecovery (p : Port) (byMarkers : Bool)
  /-- TRUNK_RECOVERY_TIMEOUT (R229). Recovery not ended within 100 us takes the port link-down. -/
  | trunkRecoveryTimeout (p : Port)
  /-- CHANGE_REQ (R231). A Trunk request for a rate or width change is received. -/
  | changeReq (p : Port) (width rate : Byte)
  /-- CHANGE_GO (R231). The initiator's change command is received and both ends recover at the new width and rate. -/
  | changeGo (p : Port) (width rate : Byte)
  /-- LEVEL_MESSAGE (R232). A Trunk LEVEL message re-exchanges levels after an activation. -/
  | levelMessage (p : Port) (trunk trunkMin result : Byte) (switchAt : BitVec 16)
  /-- TIME_MESSAGE (R454). A Trunk TIME message is received and the path delay and offset are formed for the servo. -/
  | timeMessage (p : Port) (tTx tRxPrev peerTxPrev : BitVec 64)
  /-- PARK_REQ (R234). A Trunk PARK_REQ is received and answered. -/
  | parkReq (p : Port)
  /-- PARK_ACK (R234). A PARK_ACK is received; on agreement the link goes idle and LINK becomes 9. -/
  | parkAck (p : Port) (agree : Bool)
  /-- PARK_EXIT (R235). A parked end has traffic or sees squelch exit and resumes through recovery. -/
  | parkExit (p : Port)
  /-- MCTP_BYPASS (R215). An MCTP packet between the two management controllers arrives over a Trunk link. -/
  | mctpBypass (p : Port) (packet : TrunkMctp)
  /-- SPDM_KEY_UPDATE (R240). The initiator updates Trunk IDE keys before an epoch counter reaches 2^31. -/
  | spdmKeyUpdate (p : Port)
  /-- PTM_REQUEST (R453). A PTM request on a downstream-role port is answered from the FTB. -/
  | ptmRequest (p : Port)
  /-- PTM_RESPONSE (R453). A PTM response gives the source time for the FTB servo. -/
  | ptmResponse (p : Port) (master delay : BitVec 64)
  /-- SYNC_PERIOD (R453). Every SYNC_PER the device sends PTM requests, TIME messages and Wayside time marks. -/
  | syncPeriod
  /-- FTB_HOLDOVER (R455). No measurement for 8 x SYNC_PER puts FTB_STATE into holdover. -/
  | ftbHoldover
  /-- RD_S (R345). A slice receives a shared read request and serves it from the nearest holder. -/
  | rdS (r : CohReq)
  /-- RD_E (R345). A slice receives an ownership request, invalidating other holders. -/
  | rdE (r : CohReq)
  /-- RD_NC (R345). A slice receives a read keeping no copy. -/
  | rdNc (r : CohReq)
  /-- WR (R345). A slice receives a write from a non-owner and merges it into the Loft. -/
  | wr (r : CohReq) (w : WriteData)
  /-- WB (R344). A slice receives a writeback, applied at once without waiting for the lock. -/
  | wb (r : CohReq) (w : WriteData) (keepShared : Bool)
  /-- EV (R344). A slice receives a clean eviction, applied at once. -/
  | evictClean (r : CohReq)
  /-- AT (R357). A slice receives an atomic and executes it near or far by its predictor. -/
  | atomic (r : CohReq) (a : AtomicOp)
  /-- RSP_I (R342). A snoop response reporting the agent left invalid arrives at the slice. -/
  | rspI (agent : AgentId) (line : Line) (data : Option LineData)
  /-- RSP_S (R342). A snoop response reporting the agent kept a shared copy arrives at the slice. -/
  | rspS (agent : AgentId) (line : Line) (data : Option LineData)
  /-- MEMORY_DATA (R347). Data or an error completion for a slice's memory read returns and the requester is served. -/
  | memoryData (line : Line) (result : MemResult)
  /-- MEMORY_WRITE_COMPLETE (R360). A slice's memory write completes, letting a far atomic proceed. -/
  | memoryWriteComplete (line : Line) (ok : Bool)
  /-- ATOMIC_COMPLETION (R360). A far atomic's completion returns to the requester and the line unlocks. -/
  | atomicCompletion (line : Line) (old : BitVec 128)
  /-- LINE_LOCK_HANDOFF (R343). A finished transaction passes the line lock to the next waiting request. -/
  | lineLockHandoff (line : Line)
  /-- SNOOP_TIMEOUT (R361). A snoop unanswered for DEAD_T makes the agent dead with reason 2. -/
  | snoopTimeout (agent : AgentId) (line : Line)
  /-- C_REQ (R356). A coherence request bypass message from a peer arrives at the home. -/
  | cReq (p : Port) (m : CohBypass)
  /-- C_SNP (R354). A snoop from a home is served by the peer's slice. -/
  | cSnp (p : Port) (m : CohBypass)
  /-- C_WB (R356). A writeback or eviction bypass message from a peer arrives. -/
  | cWb (p : Port) (m : CohBypass)
  /-- C_RSP (R356). A coherence response bypass message arrives. -/
  | cRsp (p : Port) (m : CohBypass)
  /-- C_DATA (R356). A coherence data bypass message arrives with its grant. -/
  | cData (p : Port) (m : CohBypass)
  /-- PREFETCH_FILL (R355). A Loft prefetch fill arrives and is installed clean in S. -/
  | prefetchFill (p : Port) (line : Line) (tenant : TenantId) (data : LineData)
  /-- BICONFLICT (R373). A host's BIConflict is answered with BIConflictAck after the eviction's completion. -/
  | biConflict (agent : AgentId) (line : Line)
  /-- JUNCTION_WRAP_RECEIVE (R318). A Junction wrap arrives; a request is unwrapped as T0, a completion returned to the host. -/
  | junctionWrapReceive (p : Port) (w : Wrap)
  /-- JUNCTION_FAR_TIMEOUT (R318). The far end gets no completion in 10 ms and answers ERR 3. -/
  | junctionFarTimeout (tag : Tag)
  /-- JUNCTION_NEAR_TIMEOUT (R319). A request open 12 ms after its wrap receives Completer Abort. -/
  | junctionNearTimeout (tag : Tag)
  /-- SB_TRANSFER_END (R323). A service-bus transfer ends; the next starts or the read completes. -/
  | sbTransferEnd (w : WindowNo) (nack : Bool) (bytes : List Byte)
  /-- SB_ARBITRATION_LOST (R324). The Junction loses arbitration or finds the bus held and yields. -/
  | sbArbitrationLost (w : WindowNo)
  /-- SB_REISSUE (R324). After the bus-free time the interrupted transfer is reissued from START. -/
  | sbReissue (w : WindowNo)
  /-- SB_READ_TIMEOUT (R323). A service-bus read unfinished after 100 ms receives Completer Abort. -/
  | sbReadTimeout (w : WindowNo)
  /-- WINDOW_POLL (R325). Every POLL us a window samples its alert and GPI lines and raises EV on assertion. -/
  | windowPoll (w : WindowNo) (alertLow gpiHigh : Bool)
  /-- SEAT_DEBOUNCE (R470). SEAT_N low for 20 ms makes SEATED 1. -/
  | seatDebounce (n : Slot)
  /-- SEATING_LOST (R487). SEAT_N high for 10 us makes SEATED 0 and moves the slot. -/
  | seatingLost (n : Slot)
  /-- SLOT_START (R472). A start position is free and a seated enabled slot enters PRECHARGE. -/
  | slotStart (n : Slot)
  /-- PRECHARGE_COMPLETE (R473). VOUT reaches 80 % of VIN and the slot moves to RAMP. -/
  | prechargeComplete (n : Slot) (t20 t60 : Option Nat)
  /-- PRECHARGE_TIMEOUT (R473). PC_TIME passes and the slot moves to RAMP. -/
  | prechargeTimeout (n : Slot) (t20 t60 : Option Nat)
  /-- RAMP_ON (R475). VOUT reaches 95 % with the gate enhanced and the slot enters ON. -/
  | rampOn (n : Slot)
  /-- RAMP_SHORT (R475). VOUT stays below 2 V for SHORT_T and the slot trips with cause 4. -/
  | rampShort (n : Slot)
  /-- RAMP_TIMEOUT (R475). RAMP_T passes without ON and the slot trips with cause 5. -/
  | rampTimeout (n : Slot)
  /-- PERST_RELEASE (R463). PERST_DLY passes in ON and SLOTn_PERST_N is driven high. -/
  | perstRelease (n : Slot)
  /-- ON_TRIPS_CLEAR (R476). 60 s in ON clears TRIPS. -/
  | onTripsClear (n : Slot)
  /-- CIRCUIT_BREAKER_TRIP (R479). IOUT above ILIM for BLANK us trips the slot with cause 1. -/
  | circuitBreakerTrip (n : Slot) (iout : Nat)
  /-- FAST_TRIP (R480). IOUT above the fast-trip threshold pulls the gate down within 500 ns. -/
  | fastTrip (n : Slot) (iout : Nat)
  /-- THERMAL_TRIP (R482). TFET exceeds TEMP_TRIP and the slot trips with cause 3. -/
  | thermalTrip (n : Slot) (tfet : Nat)
  /-- VOUT_LOW_TRIP (R477). VOUT below 90 % of VIN for 20 us in ON trips the slot with cause 6. -/
  | voutLowTrip (n : Slot) (vin vout : Nat)
  /-- VIN_WARNING (R483). VIN falls below 10.4 V; PFW_N goes low on an ON slot. -/
  | vinWarning (n : Slot)
  /-- VIN_WARNING_CLEAR (R483). VIN rises above 10.6 V and PFW_N is released if still ON. -/
  | vinWarningClear (n : Slot)
  /-- VIN_UNDERVOLTAGE (R483). VIN below 9.0 V turns the gate off with cause 7 and the slot to INHIBIT. -/
  | vinUndervoltage (n : Slot)
  /-- VIN_OVERVOLTAGE (R483). VIN above 15.5 V turns the gate off with cause 8 and the slot to INHIBIT. -/
  | vinOvervoltage (n : Slot)
  /-- VIN_IN_RANGE (R483). VIN within 10.6-14.5 V for 10 ms lets an inhibited slot start. -/
  | vinInRange (n : Slot)
  /-- PFW_LEAD_END (R478). The warning lead of DOWN ends and the gate turns off. -/
  | pfwLeadEnd (n : Slot)
  /-- RETRY_DELAY_EXPIRY (R485). RETRY_DLY passes with TFET cooled and the slot retries power-up. -/
  | retryDelayExpiry (n : Slot)
  /-- ABSENCE_EXPIRY (R489). The absence timer expires, TRIPS becomes 0 and the slot goes to EMPTY or OFF. -/
  | absenceExpiry (n : Slot)
  /-- SLOT_THRESHOLDS_READY (R484). New analogue slot thresholds are in place within 10 us and a waiting power-up may start. -/
  | slotThresholdsReady (n : Slot)
  /-- SLOT_SAMPLE (R493). Every 10 us VIN, VOUT and IOUT are sampled and ENERGY accumulated. -/
  | slotSample (n : Slot) (vin vout iout tfet : Nat)
  /-- SIDING_ENTRY (R182). A station with REQ 2 whose ports are all eligible enters Siding state. -/
  | sidingEntry (st : Station)
  /-- SIDING_WAKE (R184). A wake source starts a station's exit from Siding state. -/
  | sidingWake (st : Station) (src : SidingWakeSource)
  /-- SIDING_EXIT_READY (R185). The station is ready after PLL lock and calibration restore; ports resume. -/
  | sidingExitReady (st : Station)
  /-- DOMAIN_POWER_UP_DONE (R503). A domain turned on by REQ 1 reaches LOGIC_RDY and DOMAIN.STATE reads 1. -/
  | domainPowerUpDone (d : Domain)
  /-- STATION_DOMAIN_OFF (R28). After the flush of each of its ports a station domain switches off. -/
  | stationDomainOff (st : Station)
  /-- QUADRANT_GATE_DRAINED (R29). The gated quadrant's sidings are empty and the quadrant gates. -/
  | quadrantGateDrained (q : Quadrant)
  /-- PINNED_REMAP (R268). Sidings hold no pinned wagon and the pinned remap switches. -/
  | pinnedRemap
  /-- QUADRANT_AUTO_GATE (R504). In DOZE low occupancy for 100 us gates the highest quadrant above G0. -/
  | quadrantAutoGate
  /-- QUADRANT_AUTO_UNGATE (R504). In DOZE high occupancy or a failed loan ungates a quadrant. -/
  | quadrantAutoUngate
  /-- PD3_PD4_OFF (R369). TRACKED reads 0 everywhere and the Loft has written back; PD3 and PD4 go off. -/
  | pd3Pd4Off
  /-- ENTRY_ORDERS_ENDED (R508). Running orders have ended; admission stops and TRACKED is tested. -/
  | entryOrdersEnded
  /-- ENTRY_LINKS_DOWN (R508). Open requests complete or 1 ms passes; every link goes down. -/
  | entryLinksDown
  /-- ENTRY_DOMAINS_OFF (R508). The Loft writes back and domains go off or into retention. -/
  | entryDomainsOff
  /-- ENTRY_RAILS_OFF (R508). For WATCH, PD1, PD2 and PD9 go off and the regulators are released. -/
  | entryRailsOff
  /-- WAKE (R511). An enabled wake source is latched and starts the exit from STANDBY or WATCH. -/
  | wake (src : Fin 8)
  /-- WATCH_SAMPLE (R516). Every WATCH_PER ms the AON samples temperatures, slot windows and squelch. -/
  | watchSample (temps : List Nat) (slots : List SlotWindow) (squelch : List Port)
  /-- PWR_RDY (R513). Power switches and regulators are up; clocks start. -/
  | pwrRdy
  /-- OSC_RDY (R513). Clocks are running; memory repair and tag invalidation start. -/
  | oscRdy
  /-- MEM_RDY (R513). Memories are ready; isolation is released. -/
  | memRdy
  /-- LOGIC_RDY (R513). Logic is out of reset; the boot ROM or resumption starts and station groups come up. -/
  | logicRdy
  /-- VR_PG_TIMEOUT (R514). A VR_PG not high within 10 ms fails the wake and releases every VR_EN. -/
  | vrPgTimeout
  /-- WAKE_RETRY (R514). 100 ms after a failed chip-level wake it is retried. -/
  | wakeRetry
  /-- BOOT_PHASE_0 (R541). The boot ROM reads straps and OTP, processes tokens, clears state and derives the DeviceID key. -/
  | bootPhase0 (otpError fuseFailed : Bool) (random : List Byte)
  /-- BOOT_PHASE_1 (R541). The image is read, hashed and verified, with fallback to the other bank. -/
  | bootPhase1 (flashAnswers : Bool)
  /-- IMAGE_LOAD_DONE (R542). Image loading ends; phase 2 starts or the boot fails with PHASE 0xF. -/
  | imageLoadDone (memoryError : Bool)
  /-- BOOT_PHASE_2 (R541). The MC starts, tables initialise, channels are measured and the Turntable starts. -/
  | bootPhase2
  /-- BOOT_PHASE_3 (R115). Standing orders are replayed in SEQ order. -/
  | bootPhase3
  /-- BOOT_PHASE_4 (R116). Replay ends, the device is running and enabled ports train. -/
  | bootPhase4
  /-- COLD_RESET (R607). SYS_RST_N low or power-up from OFF clears the device and runs the chip-level wake. -/
  | coldReset (straps : Straps) (clkA clkB : Bool)
  /-- SAG_WARNING (R525). A rail falls below its warning threshold; SAG_WARN_N low and credits throttled. -/
  | sagWarning (r : Rail) (mv : Nat)
  /-- SAG_WARN_RELEASE (R525). Every armed rail is above its threshold for 10 us and SAG_WARN_N is released. -/
  | sagWarnRelease
  /-- SAG_RESET (R526). A rail below its reset threshold for 50 ns causes a sag reset. -/
  | sagReset (r : Rail) (mv : Nat)
  /-- SAG_RECOVERY (R526). Every rail above its warning threshold for 1 ms starts the chip-level wake. -/
  | sagRecovery
  /-- AVS_STEP (R530). The adaptive-voltage controller steps VCORE_NOW up or down by 5 mV. -/
  | avsStep
  /-- RAIL_SAMPLE (R524). Every 100 us each rail's VNOW is updated. -/
  | railSample (mv : List Nat)
  /-- SENSOR_SAMPLE (R585). Every 100 us each sensor is read and ALARM raises EV. -/
  | sensorSample (quarters : List Int)
  /-- DEVLOAD_WINDOW (R459). A 10,000-tick window ends and DL_HIST is updated. -/
  | devloadWindow
  /-- QOS_ADJUST (R461). Every 100 us the resident QoS task adjusts adaptive tenant shaper rates. -/
  | qosAdjust
  /-- REFCLK_LOSS (R629). A reference input fails for 1 us and the ports of its dies go link-down. -/
  | refclkLoss (b : Bool)
  /-- REFCLK_RETURN (R629). A failed reference input returns and its dies recover. -/
  | refclkReturn (b : Bool)
  /-- WAYSIDE_ORDER_FRAME (R521). A Wayside TYPE 0 frame carries an order to the MC, waking a sleeping device. -/
  | waysideOrderFrame (f : WaysideFrame)
  /-- WAYSIDE_REPLY (R519). A Wayside TYPE 1 reply frame is received. -/
  | waysideReply (f : WaysideFrame)
  /-- TIME_MARK (R522). A Wayside time mark is received and timestamped for the FTB servo. -/
  | timeMark (f : WaysideFrame)
  /-- WAYSIDE_WAKE (R521). A Wayside TYPE 3 frame wakes the device. -/
  | waysideWake (f : WaysideFrame)
  /-- WAYSIDE_STUCK (R522). A wire held low over 100 us makes every node release and discard the frame. -/
  | waysideStuck
  /-- SMBUS_TIMEOUT (R631). SCL low for 35 ms resets the SMBus target interface. -/
  | smbusTimeout
  /-- SET_ENDPOINT_ID (R534). The bus owner assigns an MCTP endpoint ID. -/
  | setEndpointId (e : Endpoint) (eid : Byte)
  /-- GET_ENDPOINT_ID (R535). MCTP control request returning the endpoint ID. -/
  | getEndpointId (e : Endpoint)
  /-- GET_MCTP_VERSION_SUPPORT (R535). MCTP control request returning supported versions. -/
  | getMctpVersionSupport (e : Endpoint) (msgType : Byte)
  /-- GET_MESSAGE_TYPE_SUPPORT (R535). MCTP control request returning supported message types. -/
  | getMessageTypeSupport (e : Endpoint)
  /-- GET_VENDOR_MESSAGE_SUPPORT (R535). MCTP control request returning vendor-defined message support. -/
  | getVendorMessageSupport (e : Endpoint)
  /-- GET_MEASUREMENTS (R551). SPDM request returning the eight measurement blocks signed by the Alias key. -/
  | getMeasurements (e : SpdmEnd) (nonce : List Byte)
  /-- GET_CERTIFICATE (R547). SPDM request returning a certificate slot chain. -/
  | getCertificate (e : SpdmEnd) (certSlot : Fin 8)
  /-- CHALLENGE (R549). SPDM challenge answered with the Alias key. -/
  | challenge (e : SpdmEnd) (certSlot : Fin 8) (nonce : List Byte)
  /-- KEY_EXCHANGE (R549). SPDM key exchange opening a session, refused beyond the session limit. -/
  | keyExchange (e : SpdmEnd)
  /-- SET_CERTIFICATE (R547). SPDM request writing the slot 1 owner chain, from the management VDM only. -/
  | setCertificate (e : SpdmEnd) (certSlot : Fin 8) (chain : List Byte)
  /-- DOE_DISCOVERY (R537). DOE Discovery on a USP mailbox. -/
  | doeDiscovery (v : Vcs) (index : Byte)
  /-- DEBUG_ACCESS (R401). A debug read or write is allowed or locked by lifecycle and logged when locked. -/
  | debugAccess (target : DebugTarget) (addr : Nat) (write : Option Byte)
  /-- JTAG_TEST_INSTRUCTION (R633). Loading EXTEST or an 1149.6 instruction holds the boot ROM in phase 0. -/
  | jtagTestInstruction
  /-- FATAL_ERROR (R600). A fatal error is logged and AER fatal sent; the action waits 1 ms. -/
  | fatalError (code : FatalCode) (detail : Nat)
  /-- FATAL_ACTION (R600). 1 ms after a fatal error the device warm-resets or halts by FATAL_ACT. -/
  | fatalAction
  /-- MC_WATCHDOG (R606). The 1 s MC watchdog expires and causes an abrupt warm reset. -/
  | mcWatchdog (pc : Nat)
  /-- CORRECTED_SUMMARY (R604). At each 10 s interval end a corrected-error summary record is written and CE_EV raised. -/
  | correctedSummary
  /-- CONTAINED_WINDOW_END (R604). A contained error's 10 ms window ends and its record, or a write-loss record, is written. -/
  | containedWindowEnd (code whereNo : Nat)
  /-- RESERVED_OPCODE (R46). A Lever core executes a word whose major opcode, fn or sysfn is reserved and takes fault ILLEGAL. -/
  | reservedOpcode (c : Core) (w : BitVec 32)
  /-- DEAD_AGENT_SCAN_DONE (R364). Every slice finishes scanning its entries for a dead agent, and the AGENT values staged by AGENT_SET then take effect. -/
  | deadAgentScanDone (a : AgentId)
  /-- SIDING_ENTRY_DONE (R186). A station completes its entry into Siding state, DOMAIN.STATE reads 2, and a latched wake starts the exit at once. -/
  | sidingEntryDone (st : Station)
  /-- TAP_RESET (R633). The JTAG TAP is reset, ending the hold of the boot ROM in phase 0 that a test instruction set. -/
  | tapReset
  /-- FET_COOLED (R485). A slot in RETRY_WAIT whose retry delay has already passed sees TFET fall 20 C below TEMP_TRIP, and it starts power-up again. -/
  | fetCooled (n : Slot) (tfet : Nat)
  /-- PRBS_CHECKER_LOCK (R170). A LANE_TEST checker locks after 64 error-free bits, or unlocks after 16 errors in 64 bits, which starts or stops its counting. -/
  | prbsCheckerLock (st : Station) (lane : LaneOf) (locks : Bool)
  /-- IDE_KM_REQUEST (R556). A host sends an IDE_KM message through the DOE mailbox of a USP, and the device, as responder, programs or starts IDE keys. -/
  | ideKmRequest (v : Vcs) (stream : Fin 8) (msg : IdeKm)
  /-- INVOCATION_COUNTER_LIMIT (R558). A stream's IDE invocation counter nears its limit, and the device, as requester, refreshes the keys by itself. -/
  | invocationCounterLimit (p : Port) (stream : Fin 8)
  /-- KEY_UPDATE (R549). An SPDM requester sends KEY_UPDATE on a session for which the device is the responder. -/
  | keyUpdate (e : SpdmEnd) (session : Nat)
  /-- HEARTBEAT (R549). An SPDM HEARTBEAT request arrives on an open session, under the HBEAT capability. -/
  | heartbeat (e : SpdmEnd) (session : Nat)
  /-- DYNAMIC_ADDRESS_ASSIGNMENT (R534). An I3C controller assigns the device's dynamic address with ENTDAA or SETDASA on the management bus. -/
  | dynamicAddressAssignment (setdasa : Bool) (address : BitVec 7)
  deriving DecidableEq, Repr

end Sys2Proof
end

