-- ==== Sys2Proof/Decode.lean ====
section
/-! DEFINITION. The table of operations and events gives its rows no bits: the block takes commands, and fetches none
from a memory, so no word of the table spells a command. The words of the Lever cores, which the specification does lay out
(R43 to R48), are encoded and decoded here. -/

namespace Sys2Proof

/-- The command a word of the table spells: none, since no row of the table has bits. -/
def decodeTableWord (_nbits _w : Nat) : Option Instr := none

/-! ### Instruction words (R43, R44) -/

/-- The word of an RRR instruction. -/
def RRR.word (o : RRR) (op fn : Nat) : BitVec 32 :=
  BitVec.ofNat 32 (op * 2 ^ 26 + o.rd.toNat * 2 ^ 21 + o.ra.toNat * 2 ^ 16 + o.rb.toNat * 2 ^ 11 + fn)

/-- The word of an I instruction. -/
def IOp.word (o : IOp) (op : Nat) : BitVec 32 :=
  BitVec.ofNat 32 (op * 2 ^ 26 + o.rd.toNat * 2 ^ 21 + o.ra.toNat * 2 ^ 16 + o.imm.toNat)

/-- The word of a B instruction. -/
def BOp.word (o : BOp) (op : Nat) : BitVec 32 :=
  BitVec.ofNat 32 (op * 2 ^ 26 + o.ra.toNat * 2 ^ 21 + o.rb.toNat * 2 ^ 16 + o.imm.toNat)

/-- The word of a T instruction: rx is split over bits 17 to 13. -/
def TOp.word (o : TOp) (op : Nat) : BitVec 32 :=
  BitVec.ofNat 32 (op * 2 ^ 26 + o.rg.toNat * 2 ^ 21 + o.h.toNat * 2 ^ 18 + o.rx.toNat * 2 ^ 13 +
    o.sel.toNat * 2 ^ 5 + o.flags.toNat)

/-- The word of an S instruction (op 0x3C). -/
def SOp.word (o : SOp) (sysfn : Nat) : BitVec 32 :=
  BitVec.ofNat 32 (0x3C * 2 ^ 26 + o.rd.toNat * 2 ^ 21 + o.ra.toNat * 2 ^ 16 + sysfn)

/-! ### Decoding (R43 to R48) -/

/-- `n` bits of a word from bit `lo` on. -/
def leverBits (w : BitVec 32) (lo n : Nat) : BitVec n := w.extractLsb' lo n

/-- The fields of an RRR word. -/
def rrrOf (w : BitVec 32) : RRR := ⟨leverBits w 21 5, leverBits w 16 5, leverBits w 11 5⟩

/-- The fields of an I word. -/
def iOf (w : BitVec 32) : IOp := ⟨leverBits w 21 5, leverBits w 16 5, leverBits w 0 16⟩

/-- The fields of a B word. -/
def bOf (w : BitVec 32) : BOp := ⟨leverBits w 21 5, leverBits w 16 5, leverBits w 0 16⟩

/-- The fields of a T word: rx is bits [17:13]. -/
def tOf (w : BitVec 32) : TOp := ⟨leverBits w 21 5, leverBits w 18 3, leverBits w 13 5, leverBits w 5 8, leverBits w 0 5⟩

/-- The fields of an S word. -/
def sOf (w : BitVec 32) : SOp := ⟨leverBits w 21 5, leverBits w 16 5⟩

/-- The instruction of an fn of the ALU group (R47). -/
def aluOf (c : Core) (o : RRR) : Nat → Option Instr
  | 0x000 => some (.add c o)
  | 0x001 => some (.sub c o)
  | 0x002 => some (.andAlu c o)
  | 0x003 => some (.orAlu c o)
  | 0x004 => some (.xorAlu c o)
  | 0x005 => some (.sll c o)
  | 0x006 => some (.srl c o)
  | 0x007 => some (.sra c o)
  | 0x008 => some (.slt c o)
  | 0x009 => some (.sltu c o)
  | 0x00A => some (.mul c o)
  | 0x00B => some (.mulhu c o)
  | 0x00C => some (.divu c o)
  | 0x00D => some (.remu c o)
  | 0x00E => some (.minu c o)
  | 0x00F => some (.maxu c o)
  | _ => none

/-- The instruction of an fn of the AMO group (R47). -/
def amoOf (c : Core) (o : RRR) : Nat → Option Instr
  | 0x000 => some (.amoadd c o)
  | 0x001 => some (.amoswap c o)
  | 0x002 => some (.amoand c o)
  | 0x003 => some (.amoor c o)
  | _ => none

/-- The instruction of a sysfn of op 0x3C (R48). -/
def sysOf (c : Core) (o : SOp) : Nat → Option Instr
  | 0x0001 => some (.commitBuf c o)
  | 0x0002 => some (.doneOrder c o)
  | 0x0003 => some (.failOrder c o)
  | 0x0004 => some (.timeNow c o)
  | 0x0005 => some (.roundCount c o)
  | 0x0006 => some (.who c o)
  | 0x0007 => some (.rlen c o)
  | 0x0008 => some (.raiseEvent c o)
  | 0x0009 => some (.waitUntil c o)
  | 0x000A => some (.fence c o)
  | 0x000B => some (.pet c o)
  | 0x000C => some (.brk c o)
  | 0x000D => some (.coreNumber c o)
  | _ => none

/-- The instruction that a core executes for a word (R44, R46 to R48): none where the opcode, fn or sysfn is not listed. A field
that the instruction does not use is the instruction's own check (R45). -/
def decodeLever (c : Core) (w : BitVec 32) : Option Instr :=
  match (leverBits w 26 6).toNat with
  | 0x00 => aluOf c (rrrOf w) (leverBits w 0 11).toNat
  | 0x01 => amoOf c (rrrOf w) (leverBits w 0 11).toNat
  | 0x08 => some (.addi c (iOf w))
  | 0x09 => some (.andi c (iOf w))
  | 0x0A => some (.ori c (iOf w))
  | 0x0B => some (.xori c (iOf w))
  | 0x0C => some (.extField c (iOf w))
  | 0x0D => some (.insField c (iOf w))
  | 0x0E => some (.lui c (iOf w))
  | 0x0F => some (.shor c (iOf w))
  | 0x10 => some (.slti c (iOf w))
  | 0x11 => some (.sltiu c (iOf w))
  | 0x12 => some (.slli c (iOf w))
  | 0x13 => some (.srli c (iOf w))
  | 0x14 => some (.srai c (iOf w))
  | 0x18 => some (.ld c (iOf w))
  | 0x19 => some (.lw c (iOf w))
  | 0x1A => some (.lb c (iOf w))
  | 0x1C => some (.sd c (iOf w))
  | 0x1D => some (.sw c (iOf w))
  | 0x1E => some (.sb c (iOf w))
  | 0x26 => some (.jal c (iOf w))
  | 0x27 => some (.jalr c (iOf w))
  | 0x20 => some (.beq c (bOf w))
  | 0x21 => some (.bne c (bOf w))
  | 0x22 => some (.blt c (bOf w))
  | 0x23 => some (.bge c (bOf w))
  | 0x24 => some (.bltu c (bOf w))
  | 0x25 => some (.bgeu c (bOf w))
  | 0x30 => some (.openObj c (tOf w))
  | 0x31 => some (.ldf c (tOf w))
  | 0x32 => some (.stf c (tOf w))
  | 0x33 => some (.newObj c (tOf w))
  | 0x34 => some (.delObj c (tOf w))
  | 0x3C => sysOf c (sOf w) (leverBits w 0 16).toNat
  | _ => none

/-! ### Encoding (R43 to R48) -/

/-- The word of a Lever instruction, with the core that executes it; no other command has a word. -/
def encodeLever : Instr → Option (Core × BitVec 32)
  | .add c o => some (c, o.word 0x00 0x000)
  | .sub c o => some (c, o.word 0x00 0x001)
  | .andAlu c o => some (c, o.word 0x00 0x002)
  | .orAlu c o => some (c, o.word 0x00 0x003)
  | .xorAlu c o => some (c, o.word 0x00 0x004)
  | .sll c o => some (c, o.word 0x00 0x005)
  | .srl c o => some (c, o.word 0x00 0x006)
  | .sra c o => some (c, o.word 0x00 0x007)
  | .slt c o => some (c, o.word 0x00 0x008)
  | .sltu c o => some (c, o.word 0x00 0x009)
  | .mul c o => some (c, o.word 0x00 0x00A)
  | .mulhu c o => some (c, o.word 0x00 0x00B)
  | .divu c o => some (c, o.word 0x00 0x00C)
  | .remu c o => some (c, o.word 0x00 0x00D)
  | .minu c o => some (c, o.word 0x00 0x00E)
  | .maxu c o => some (c, o.word 0x00 0x00F)
  | .amoadd c o => some (c, o.word 0x01 0x000)
  | .amoswap c o => some (c, o.word 0x01 0x001)
  | .amoand c o => some (c, o.word 0x01 0x002)
  | .amoor c o => some (c, o.word 0x01 0x003)
  | .addi c o => some (c, o.word 0x08)
  | .andi c o => some (c, o.word 0x09)
  | .ori c o => some (c, o.word 0x0A)
  | .xori c o => some (c, o.word 0x0B)
  | .extField c o => some (c, o.word 0x0C)
  | .insField c o => some (c, o.word 0x0D)
  | .lui c o => some (c, o.word 0x0E)
  | .shor c o => some (c, o.word 0x0F)
  | .slti c o => some (c, o.word 0x10)
  | .sltiu c o => some (c, o.word 0x11)
  | .slli c o => some (c, o.word 0x12)
  | .srli c o => some (c, o.word 0x13)
  | .srai c o => some (c, o.word 0x14)
  | .ld c o => some (c, o.word 0x18)
  | .lw c o => some (c, o.word 0x19)
  | .lb c o => some (c, o.word 0x1A)
  | .sd c o => some (c, o.word 0x1C)
  | .sw c o => some (c, o.word 0x1D)
  | .sb c o => some (c, o.word 0x1E)
  | .jal c o => some (c, o.word 0x26)
  | .jalr c o => some (c, o.word 0x27)
  | .beq c o => some (c, o.word 0x20)
  | .bne c o => some (c, o.word 0x21)
  | .blt c o => some (c, o.word 0x22)
  | .bge c o => some (c, o.word 0x23)
  | .bltu c o => some (c, o.word 0x24)
  | .bgeu c o => some (c, o.word 0x25)
  | .openObj c o => some (c, o.word 0x30)
  | .ldf c o => some (c, o.word 0x31)
  | .stf c o => some (c, o.word 0x32)
  | .newObj c o => some (c, o.word 0x33)
  | .delObj c o => some (c, o.word 0x34)
  | .commitBuf c o => some (c, o.word 0x0001)
  | .doneOrder c o => some (c, o.word 0x0002)
  | .failOrder c o => some (c, o.word 0x0003)
  | .timeNow c o => some (c, o.word 0x0004)
  | .roundCount c o => some (c, o.word 0x0005)
  | .who c o => some (c, o.word 0x0006)
  | .rlen c o => some (c, o.word 0x0007)
  | .raiseEvent c o => some (c, o.word 0x0008)
  | .waitUntil c o => some (c, o.word 0x0009)
  | .fence c o => some (c, o.word 0x000A)
  | .pet c o => some (c, o.word 0x000B)
  | .brk c o => some (c, o.word 0x000C)
  | .coreNumber c o => some (c, o.word 0x000D)
  | _ => none

end Sys2Proof
end

