-- ==== Sys2Proof/Config.lean ====
section
/-! DEFINITION. What the specification leaves to the outside: free values, and the functions of other standards that
the specification names without giving them. None has a body, so no proof can lean on what it computes. -/

namespace Sys2Proof

/-- A value the specification leaves open, drawn at the count the state keeps. Nothing constrains it. -/
opaque Config.freeNat : Nat → Nat

/-- SHA-512 of FIPS 180-4 (R11, R121, R546, R551), uninterpreted. -/
opaque Config.sha512 : List Byte → List Byte

/-- HMAC-SHA-512 (R546), uninterpreted. -/
opaque Config.hmac : List Byte → List Byte → List Byte

/-- Whether an ECDSA P-521 signature verifies (FIPS 186-5, R120): key, message, signature. Uninterpreted. -/
opaque Config.verifies : List Byte → List Byte → List Byte → Bool

/-- A signature by a private key (R550), uninterpreted. -/
opaque Config.sign : List Byte → List Byte → List Byte

/-- The DER certificate of a key (R547), uninterpreted. -/
opaque Config.certificate : List Byte → List Byte

/-- The bytes of a boot ROM measurement (R546, R551), uninterpreted. -/
opaque Config.bootRom : Nat → List Byte

/-- Byte `i` of the protocol unit that a frame carries, by the facts its station knows of it: the layouts of PCI Express and
CXL units (R257) are not the specification's, and a TLP has its flit-mode layout whatever the mode it came in. Uninterpreted. -/
opaque Config.unitByte : List Nat → Nat → Byte

/-- The bytes that CXL 3.1 gives a part of an INFO payload for the facts it carries: 0 Identify Switch Device, 1 and 2 the
head of the port and switch payloads with their number of records, 3 a port's record, 4 a switch's record (R108).
Uninterpreted. -/
opaque Config.cxlRecord : Nat → List Nat → List Byte

/-- The number that the DETAIL of a write-loss record carries for a cause (R597, code 0x0306): 1 flush or containment,
2 unrouted, 3 a dead agent, 4 a failed memory access, 5 the Loft going off. The specification gives the causes no numbers.
Uninterpreted. -/
opaque Config.lossCause : Nat → Nat

/-- The two check bytes of one of the three interleaved codes of the forward error correction of PCI Express Base 7.0 flit mode,
over the bytes it covers (R210): the code is not the specification's. Uninterpreted. -/
opaque Config.fecCheck : List Byte → Byte × Byte

/-- Byte `i` of the key stream of AES-GCM-256 under a key and an IV (R236, R238), uninterpreted. -/
opaque Config.gcmStream : List Byte → List Byte → Nat → Byte

/-- The tag of AES-GCM-256: key, IV, additional authenticated data, ciphertext (R236, R238). Uninterpreted. -/
opaque Config.gcmTag : List Byte → List Byte → List Byte → List Byte → BitVec 128

/-- The key of one direction and key set that two management controllers derive within an SPDM session: session, times derived
in it, direction, key set (R237, R240). Uninterpreted. -/
opaque Config.trunkKey : Nat → Nat → Nat → Nat → List Byte

/-- The bytes of an SPDM message the device originates: 0 opens a session on a Trunk link, 1 updates its keys (R237, R240).
Uninterpreted. -/
opaque Config.spdmMessage : Nat → List Byte

/-- Byte `i` of the scrambler sequence of a lane since its last reset (R211): the scrambler and its seeds are those of PCI
Express Base 7.0. Uninterpreted. -/
opaque Config.scramble : Nat → Nat → Byte

/-- The code of an error that the list of codes does not have, an uncorrectable one in the Ledger (R589, R603). Uninterpreted. -/
opaque Config.ledgerErrorCode : Nat

/-- The SEC-DED check bits over a protected word, by its width (R258, R332): the code is not the specification's. Uninterpreted. -/
opaque Config.secDed : Nat → Nat → Byte

/-- The place that a debug address names where the specification lays out no debug addresses (R400). Uninterpreted. -/
opaque Config.debugPlace : Nat → Nat

/-- Capacity of the Granary in wagons (R31). -/
def Config.granaryWagons : Nat := 1572864

/-- Wagons of one quadrant (R31). -/
def Config.quadrantWagons : Nat := 393216

/-- The lendable surplus that invariant 9 bounds (R274). -/
def Config.lendable (partH : Bool) : Nat := if partH then 1275904 else 978944

/-- Bytes of the standing-order area (R109). -/
def Config.standingBytes : Nat := 262144

/-- Slots of the error log ring (R601). -/
def Config.errorRecords : Nat := 98304

/-- Records of the dead-agent ring (R365). -/
def Config.deadRecords : Nat := 4096

end Sys2Proof
end

