-- ==== Sys2Proof/Machine/Fields.lean ====
section
/-! DEFINITION. The object fields of the device (R57 and the field tables of the other chapters): one name per field,
with its class, field ID, width, access and after-reset value. -/

namespace Sys2Proof

/-- One name per object field, the class first. -/
inductive Fld
  /-- PORT.PROTO, 2 bits (R57). -/
  | portProto
  /-- PORT.RATE_MAX, 3 bits (R57). -/
  | portRateMax
  /-- PORT.SAF, 8 bits (R57). -/
  | portSaf
  /-- PORT.DROP, 8 bits (R57). -/
  | portDrop
  /-- PORT.ENABLE, 1 bit (R57). -/
  | portEnable
  /-- PORT.LINK, 4 bits (R57). -/
  | portLink
  /-- PORT.TENANT, 13 bits (R375). -/
  | portTenant
  /-- PORT.CLASSMAP, 24 bits (R420). -/
  | portClassmap
  /-- PORT.MEMCLASS, 9 bits (R420). -/
  | portMemclass
  /-- PORT.DEVLOAD, 2 bits (R459). -/
  | portDevload
  /-- PORT.DL_HIST, 64 bits (R459). -/
  | portDlHist
  /-- PORT.IDE, 8 bits (R558). -/
  | portIde
  /-- STATION.BIFURC, 2 bits (R57). -/
  | stationBifurc
  /-- STATION.LOSS, 16 bits (R57). -/
  | stationLoss
  /-- STATION.LENGTH, 16 bits (R57). -/
  | stationLength
  /-- TENANT.STATE, 2 bits (R57). -/
  | tenantState
  /-- TENANT.SH_RULES, 17 bits (R57). -/
  | tenantShRules
  /-- TENANT.SH_QUOTA, 21 bits (R57). -/
  | tenantShQuota
  /-- TENANT.SH_EVENTS, 14 bits (R57). -/
  | tenantShEvents
  /-- TENANT.SH_COUNTERS, 15 bits (R57). -/
  | tenantShCounters
  /-- TENANT.SH_DIRTY, 32 bits (R57). -/
  | tenantShDirty
  /-- TENANT.SH_PERM, 16 bits (R57). -/
  | tenantShPerm
  /-- TENANT.BANK, 1 bit (R57). -/
  | tenantBank
  /-- TENANT.TIMEOUT, 32 bits (R57). -/
  | tenantTimeout
  /-- TENANT.RULES_USED, 17 bits (R57). -/
  | tenantRulesUsed
  /-- TENANT.TRACKED, 24 bits (R57). -/
  | tenantTracked
  /-- TENANT.TW_BASE, 57 bits (R414). -/
  | tenantTwBase
  /-- TENANT.EV_VIOL, 14 bits (R414). -/
  | tenantEvViol
  /-- TENANT.QUOTA_USED, 21 bits (R414). -/
  | tenantQuotaUsed
  /-- TENANT.CW_BASE, 57 bits (R580). -/
  | tenantCwBase
  /-- RULE.OWNER, 12 bits (R57). -/
  | ruleOwner
  /-- RULE.BANK, 1 bit (R57). -/
  | ruleBank
  /-- RULE.START, 57 bits (R57). -/
  | ruleStart
  /-- RULE.END, 57 bits (R57). -/
  | ruleEnd
  /-- RULE.PERM, 4 bits (R57). -/
  | rulePerm
  /-- RULE.CACHE, 2 bits (R57). -/
  | ruleCache
  /-- RULE.ORDER, 1 bit (R57). -/
  | ruleOrder
  /-- RULE.VALID, 1 bit (R57). -/
  | ruleValid
  /-- VCS.USP, 8 bits (R57). -/
  | vcsUsp
  /-- VCS.ENABLE, 1 bit (R57). -/
  | vcsEnable
  /-- VPPB.KIND, 2 bits (R57). -/
  | vppbKind
  /-- VPPB.PORT, 7 bits (R57). -/
  | vppbPort
  /-- VPPB.LDID, 16 bits (R57). -/
  | vppbLdid
  /-- VPPB.HP, 3 bits (R57). -/
  | vppbHp
  /-- PBR.PORT, 7 bits (R57). -/
  | pbrPort
  /-- PBR.VALID, 1 bit (R57). -/
  | pbrValid
  /-- PBR.TENANT, 13 bits (R375). -/
  | pbrTenant
  /-- TSHAPER.RATE, 23 bits (R57). -/
  | tshaperRate
  /-- TSHAPER.BURST, 32 bits (R57). -/
  | tshaperBurst
  /-- TSHAPER.APPLY, 2 bits (R57). -/
  | tshaperApply
  /-- TSHAPER.TOKENS, 40 bits (R57). -/
  | tshaperTokens
  /-- CSHAPER.RATE, 23 bits (R57). -/
  | cshaperRate
  /-- CSHAPER.BURST, 32 bits (R57). -/
  | cshaperBurst
  /-- CSHAPER.APPLY, 2 bits (R57). -/
  | cshaperApply
  /-- CSHAPER.TOKENS, 40 bits (R57). -/
  | cshaperTokens
  /-- CSHAPER.MODE, 1 bit (R427). -/
  | cshaperMode
  /-- CSHAPER.WEIGHT, 8 bits (R427). -/
  | cshaperWeight
  /-- TIMETABLE.ACTIVE, 1 bit (R57). -/
  | timetableActive
  /-- TIMETABLE.LOADED, 1 bit (R57). -/
  | timetableLoaded
  /-- TIMETABLE.LENGTH, 9 bits (R57). -/
  | timetableLength
  /-- TIMETABLE.TAKEOVER, 64 bits (R57). -/
  | timetableTakeover
  /-- TIMETABLE.NEXTCYCLE, 1 bit (R57). -/
  | timetableNextcycle
  /-- TIMETABLE.GUARD, 1 bit (R57). -/
  | timetableGuard
  /-- TIMETABLE.ARMED, 1 bit (R437). -/
  | timetableArmed
  /-- TTENTRY.GATES, 8 bits (R57). -/
  | ttentryGates
  /-- TTENTRY.DURATION, 32 bits (R57). -/
  | ttentryDuration
  /-- WINDOW.OWNER, 12 bits (R57). -/
  | windowOwner
  /-- WINDOW.KIND, 2 bits (R57). -/
  | windowKind
  /-- WINDOW.BASE, 57 bits (R57). -/
  | windowBase
  /-- WINDOW.LIMIT, 57 bits (R57). -/
  | windowLimit
  /-- WINDOW.REMOTE, 64 bits (R57). -/
  | windowRemote
  /-- WINDOW.PORT, 7 bits (R57). -/
  | windowPort
  /-- WINDOW.LANES, 2 bits (R57). -/
  | windowLanes
  /-- WINDOW.ELEM, 2 bits (R57). -/
  | windowElem
  /-- WINDOW.POLL, 17 bits (R57). -/
  | windowPoll
  /-- EVENT.OWNER, 12 bits (R57). -/
  | eventOwner
  /-- EVENT.ENABLE, 1 bit (R57). -/
  | eventEnable
  /-- EVENT.PENDING, 1 bit (R57). -/
  | eventPending
  /-- COUNTER.OWNER, 12 bits (R57). -/
  | counterOwner
  /-- COUNTER.SELECT, 16 bits (R57). -/
  | counterSelect
  /-- COUNTER.VALUE, 48 bits (R57). -/
  | counterValue
  /-- COUNTER.OVF, 1 bit (R57). -/
  | counterOvf
  /-- COUNTER.RUN, 1 bit (R576). -/
  | counterRun
  /-- COUNTER.FPRIV, 4 bits (R576). -/
  | counterFpriv
  /-- COUNTER.FREQID, 16 bits (R576). -/
  | counterFreqid
  /-- COUNTER.FREQMASK, 16 bits (R576). -/
  | counterFreqmask
  /-- COUNTER.FADDR_LO, 57 bits (R576). -/
  | counterFaddrLo
  /-- COUNTER.FADDR_HI, 57 bits (R576). -/
  | counterFaddrHi
  /-- COUNTER.FCLASS, 9 bits (R576). -/
  | counterFclass
  /-- COUNTER.OVF_EV, 14 bits (R576). -/
  | counterOvfEv
  /-- COUNTER.ZERO, 1 bit (R576). -/
  | counterZero
  /-- SLOT.ENABLE, 1 bit (R57). -/
  | slotEnable
  /-- SLOT.PORT, 7 bits (R57). -/
  | slotPort
  /-- SLOT.ILIM, 14 bits (R57). -/
  | slotIlim
  /-- SLOT.PLIM, 8 bits (R57). -/
  | slotPlim
  /-- SLOT.BLANK, 7 bits (R57). -/
  | slotBlank
  /-- SLOT.RETRIES, 3 bits (R57). -/
  | slotRetries
  /-- SLOT.RETRY_DLY, 16 bits (R57). -/
  | slotRetryDly
  /-- SLOT.ABSENCE, 16 bits (R57). -/
  | slotAbsence
  /-- SLOT.SHORT_T, 16 bits (R57). -/
  | slotShortT
  /-- SLOT.TEMP_TRIP, 8 bits (R57). -/
  | slotTempTrip
  /-- SLOT.STATE, 4 bits (R57). -/
  | slotState
  /-- SLOT.VOUT, 16 bits (R57). -/
  | slotVout
  /-- SLOT.IOUT, 16 bits (R57). -/
  | slotIout
  /-- SLOT.ENERGY, 48 bits (R57). -/
  | slotEnergy
  /-- SLOT.CBULK, 16 bits (R57). -/
  | slotCbulk
  /-- SLOT.SEATED, 1 bit (R468). -/
  | slotSeated
  /-- SLOT.PC_TIME, 10 bits (R468). -/
  | slotPcTime
  /-- SLOT.RAMP_T, 10 bits (R468). -/
  | slotRampT
  /-- SLOT.PFW_LEAD, 14 bits (R468). -/
  | slotPfwLead
  /-- SLOT.PERST_DLY, 10 bits (R468). -/
  | slotPerstDly
  /-- SLOT.RPC, 16 bits (R468). -/
  | slotRpc
  /-- SLOT.VIN, 16 bits (R468). -/
  | slotVin
  /-- SLOT.TFET, 8 bits (R468). -/
  | slotTfet
  /-- SLOT.TRIPS, 4 bits (R468). -/
  | slotTrips
  /-- SLOT.CAUSE, 4 bits (R468). -/
  | slotCause
  /-- SLOT.TRIP_TOTAL, 32 bits (R468). -/
  | slotTripTotal
  /-- SLOT.ILIM_CEIL, 14 bits (R468). -/
  | slotIlimCeil
  /-- SLOT.PLIM_CEIL, 8 bits (R468). -/
  | slotPlimCeil
  /-- SLOT.TEMP_CEIL, 8 bits (R468). -/
  | slotTempCeil
  /-- SLOT.RSENSE, 16 bits (R468). -/
  | slotRsense
  /-- SLOT.EV, 14 bits (R468). -/
  | slotEv
  /-- GLEANER.ENABLE, 1 bit (R57). -/
  | gleanerEnable
  /-- GLEANER.GRAN, 1 bit (R57). -/
  | gleanerGran
  /-- GLEANER.RING_BASE, 57 bits (R57). -/
  | gleanerRingBase
  /-- GLEANER.RING_RECS, 32 bits (R57). -/
  | gleanerRingRecs
  /-- GLEANER.HEAD, 32 bits (R57). -/
  | gleanerHead
  /-- GLEANER.ALLDIRTY, 1 bit (R57). -/
  | gleanerAlldirty
  /-- GLEANER.TAIL, 32 bits (R402). -/
  | gleanerTail
  /-- GLEANER.PASS, 32 bits (R402). -/
  | gleanerPass
  /-- GLEANER.EVENT, 14 bits (R402). -/
  | gleanerEvent
  /-- NEAR.LAT, 16 bits (R57). -/
  | nearLat
  /-- NEAR.MEAS, 16 bits (R351). -/
  | nearMeas
  /-- DOMAIN.REQ, 2 bits (R57). -/
  | domainReq
  /-- DOMAIN.STATE, 2 bits (R57). -/
  | domainState
  /-- DEVICE.PSTATE, 3 bits (R57). -/
  | devicePstate
  /-- DEVICE.WATCH_PER, 14 bits (R57). -/
  | deviceWatchPer
  /-- DEVICE.VCORE, 10 bits (R57). -/
  | deviceVcore
  /-- DEVICE.LIFECYCLE, 3 bits (R57). -/
  | deviceLifecycle
  /-- DEVICE.EPOCH, 32 bits (R57). -/
  | deviceEpoch
  /-- DEVICE.FDI, 64 bits (R57). -/
  | deviceFdi
  /-- DEVICE.ABI, 8 bits (R57). -/
  | deviceAbi
  /-- DEVICE.DEAD_T, 20 bits (R330). -/
  | deviceDeadT
  /-- DEVICE.QSAMPLE_PER, 20 bits (R448). -/
  | deviceQsamplePer
  /-- DEVICE.FTB_SRC, 2 bits (R452). -/
  | deviceFtbSrc
  /-- DEVICE.FTB_PORT, 7 bits (R452). -/
  | deviceFtbPort
  /-- DEVICE.SYNC_PER, 20 bits (R452). -/
  | deviceSyncPer
  /-- DEVICE.FTB_STATE, 2 bits (R452). -/
  | deviceFtbState
  /-- DEVICE.FTB_OFFSET, 32 bits (R452). -/
  | deviceFtbOffset
  /-- DEVICE.FTB_RATE, 16 bits (R452). -/
  | deviceFtbRate
  /-- DEVICE.WS_MARK, 1 bit (R452). -/
  | deviceWsMark
  /-- DEVICE.WAKE_EN, 16 bits (R511). -/
  | deviceWakeEn
  /-- DEVICE.WAKE_CAUSE, 16 bits (R511). -/
  | deviceWakeCause
  /-- DEVICE.WAKE_AT, 64 bits (R511). -/
  | deviceWakeAt
  /-- DEVICE.WAKE_PORTS_LO, 64 bits (R511). -/
  | deviceWakePortsLo
  /-- DEVICE.WAKE_PORTS_HI, 64 bits (R511). -/
  | deviceWakePortsHi
  /-- DEVICE.TEMP_HI, 8 bits (R511). -/
  | deviceTempHi
  /-- DEVICE.AVS, 1 bit (R511). -/
  | deviceAvs
  /-- DEVICE.VCORE_NOW, 10 bits (R511). -/
  | deviceVcoreNow
  /-- DEVICE.WS_ADDR, 5 bits (R511). -/
  | deviceWsAddr
  /-- DEVICE.TOKEN_RESULT, 8 bits (R560). -/
  | deviceTokenResult
  /-- DEVICE.ERR_EV, 14 bits (R588). -/
  | deviceErrEv
  /-- DEVICE.CE_EV, 14 bits (R588). -/
  | deviceCeEv
  /-- DEVICE.FATAL_ACT, 1 bit (R588). -/
  | deviceFatalAct
  /-- DEVICE.CE_COUNT, 48 bits (R588). -/
  | deviceCeCount
  /-- DEVICE.UC_COUNT, 32 bits (R588). -/
  | deviceUcCount
  /-- DEVICE.LOFT_DIRTY, 1 bit (R588). -/
  | deviceLoftDirty
  /-- DEVICE.BIND_EV, 14 bits (R643). -/
  | deviceBindEv
  /-- MIRROR.SPORT, 7 bits (R310). -/
  | mirrorSport
  /-- MIRROR.DIR, 2 bits (R310). -/
  | mirrorDir
  /-- MIRROR.DPORT, 7 bits (R310). -/
  | mirrorDport
  /-- MIRROR.TRUNC, 1 bit (R310). -/
  | mirrorTrunc
  /-- AGENT.KIND, 2 bits (R328). -/
  | agentKind
  /-- AGENT.PORT, 7 bits (R328). -/
  | agentPort
  /-- AGENT.BIID, 12 bits (R328). -/
  | agentBiid
  /-- AGENT.PREFETCH, 2 bits (R328). -/
  | agentPrefetch
  /-- AGENT.LIVE, 1 bit (R328). -/
  | agentLive
  /-- AGENT.DEATHS, 16 bits (R328). -/
  | agentDeaths
  /-- UNITCTR.SELECT, 16 bits (R565). -/
  | unitctrSelect
  /-- UNITCTR.VALUE, 48 bits (R565). -/
  | unitctrValue
  /-- UNITCTR.OVF, 1 bit (R565). -/
  | unitctrOvf
  /-- UNITCTR.FPRIV, 4 bits (R565). -/
  | unitctrFpriv
  /-- UNITCTR.FTENANT, 13 bits (R565). -/
  | unitctrFtenant
  /-- UNITCTR.FREQID, 16 bits (R565). -/
  | unitctrFreqid
  /-- UNITCTR.FREQMASK, 16 bits (R565). -/
  | unitctrFreqmask
  /-- UNITCTR.FADDR_LO, 57 bits (R565). -/
  | unitctrFaddrLo
  /-- UNITCTR.FADDR_HI, 57 bits (R565). -/
  | unitctrFaddrHi
  /-- UNITCTR.FCLASS, 9 bits (R565). -/
  | unitctrFclass
  /-- UNITCTR.OVF_EV, 14 bits (R565). -/
  | unitctrOvfEv
  /-- UNITCTR.ZERO, 1 bit (R565). -/
  | unitctrZero
  /-- CHECKER.CAP_VALID, 1 bit (R397). -/
  | checkerCapValid
  /-- CHECKER.CAP_REASON, 3 bits (R397). -/
  | checkerCapReason
  /-- CHECKER.CAP_KIND, 4 bits (R397). -/
  | checkerCapKind
  /-- CHECKER.CAP_TENANT, 13 bits (R397). -/
  | checkerCapTenant
  /-- CHECKER.CAP_PORT, 7 bits (R397). -/
  | checkerCapPort
  /-- CHECKER.CAP_REQID, 38 bits (R397). -/
  | checkerCapReqid
  /-- CHECKER.CAP_ADDR, 57 bits (R397). -/
  | checkerCapAddr
  /-- CHECKER.CAP_LEN, 13 bits (R397). -/
  | checkerCapLen
  /-- CHECKER.CAP_RULE, 17 bits (R397). -/
  | checkerCapRule
  /-- CHECKER.CAP_TIME, 64 bits (R397). -/
  | checkerCapTime
  /-- CHECKER.LATER, 48 bits (R397). -/
  | checkerLater
  /-- CHECKER.OVF, 1 bit (R397). -/
  | checkerOvf
  /-- QUEUE.DEPTH, 21 bits (R447). -/
  | queueDepth
  /-- QUEUE.HOLD, 32 bits (R447). -/
  | queueHold
  /-- QUEUE.PEAK_DEPTH, 21 bits (R447). -/
  | queuePeakDepth
  /-- QUEUE.PEAK_HOLD, 32 bits (R447). -/
  | queuePeakHold
  /-- QUEUE.STAMP, 64 bits (R447). -/
  | queueStamp
  /-- UNITSET.RUN, 1 bit (R565). -/
  | unitsetRun
  /-- UNITSET.TICK, 64 bits (R565). -/
  | unitsetTick
  /-- UNITSET.ZERO, 1 bit (R565). -/
  | unitsetZero
  /-- RAIL.SETPT, 11 bits (R524). -/
  | railSetpt
  /-- RAIL.WARN_PCT, 5 bits (R524). -/
  | railWarnPct
  /-- RAIL.RESET_PCT, 5 bits (R524). -/
  | railResetPct
  /-- RAIL.VNOW, 11 bits (R524). -/
  | railVnow
  /-- RAIL.WARN, 1 bit (R524). -/
  | railWarn
  /-- RAIL.WARNS, 32 bits (R524). -/
  | railWarns
  /-- RAIL.EV, 14 bits (R524). -/
  | railEv
  /-- THERM.TEMP, 12 bits (R584). -/
  | thermTemp
  /-- THERM.PEAK, 12 bits (R584). -/
  | thermPeak
  /-- THERM.ALARM, 8 bits (R584). -/
  | thermAlarm
  /-- THERM.EV, 14 bits (R584). -/
  | thermEv
  deriving DecidableEq, Repr

/-- What a CO field accepts besides fitting its width: "Values outside a field's listed encoding are out of
range" (R57). -/
inductive Encoding
  | any
  | upTo (n : Nat)
  | between (lo hi : Nat)
  | aligned (n : Nat)
  | tenantEvent
  | unitEvent
  deriving DecidableEq, Repr

/-- The row of a field in its table. -/
structure FieldInfo where
  cls : Nat
  id : Nat
  width : Nat
  co : Bool
  reset : Nat
  enc : Encoding
  deriving DecidableEq, Repr

end Sys2Proof
end

