-- ==== Sys2Proof/Machine/Schema.lean ====
section
/-! DEFINITION. The object schema: the classes with their ranges, pools and writers (R55), and the row of every field
(R57 and the field tables of the other chapters). -/

namespace Sys2Proof

/-- Class ID of PORT. -/
abbrev clsPort : Nat := 0x01
/-- Class ID of STATION. -/
abbrev clsStation : Nat := 0x02
/-- Class ID of TENANT. -/
abbrev clsTenant : Nat := 0x03
/-- Class ID of RULE. -/
abbrev clsRule : Nat := 0x04
/-- Class ID of VCS. -/
abbrev clsVcs : Nat := 0x05
/-- Class ID of VPPB. -/
abbrev clsVppb : Nat := 0x06
/-- Class ID of PBR. -/
abbrev clsPbr : Nat := 0x07
/-- Class ID of TSHAPER. -/
abbrev clsTShaper : Nat := 0x08
/-- Class ID of CSHAPER. -/
abbrev clsCShaper : Nat := 0x09
/-- Class ID of TIMETABLE. -/
abbrev clsTimetable : Nat := 0x0A
/-- Class ID of TTENTRY. -/
abbrev clsTtEntry : Nat := 0x0B
/-- Class ID of WINDOW. -/
abbrev clsWindow : Nat := 0x0C
/-- Class ID of EVENT. -/
abbrev clsEvent : Nat := 0x0D
/-- Class ID of COUNTER. -/
abbrev clsCounter : Nat := 0x0E
/-- Class ID of SLOT. -/
abbrev clsSlot : Nat := 0x0F
/-- Class ID of GLEANER. -/
abbrev clsGleaner : Nat := 0x10
/-- Class ID of NEAR. -/
abbrev clsNear : Nat := 0x11
/-- Class ID of DOMAIN. -/
abbrev clsDomain : Nat := 0x12
/-- Class ID of DEVICE. -/
abbrev clsDevice : Nat := 0x13
/-- Class ID of MIRROR. -/
abbrev clsMirror : Nat := 0x14
/-- Class ID of AGENT. -/
abbrev clsAgent : Nat := 0x15
/-- Class ID of UNITCTR. -/
abbrev clsUnitctr : Nat := 0x16
/-- Class ID of CHECKER. -/
abbrev clsChecker : Nat := 0x17
/-- Class ID of QUEUE. -/
abbrev clsQueue : Nat := 0x18
/-- Class ID of UNITSET. -/
abbrev clsUnitset : Nat := 0x19
/-- Class ID of RAIL. -/
abbrev clsRail : Nat := 0x1A
/-- Class ID of THERM. -/
abbrev clsTherm : Nat := 0x1B

/-- The table row of a field. -/
def Fld.info : Fld → FieldInfo
  | .portProto => ⟨0x01, 0x01, 2, true, 1, .upTo 2⟩
  | .portRateMax => ⟨0x01, 0x02, 3, true, 6, .upTo 6⟩
  | .portSaf => ⟨0x01, 0x03, 8, true, 0, .any⟩
  | .portDrop => ⟨0x01, 0x04, 8, true, 192, .any⟩
  | .portEnable => ⟨0x01, 0x05, 1, true, 0, .any⟩
  | .portLink => ⟨0x01, 0x06, 4, false, 0, .any⟩
  | .portTenant => ⟨0x01, 0x07, 13, true, 0x1000, .upTo 4096⟩
  | .portClassmap => ⟨0x01, 0x08, 24, true, 0, .any⟩
  | .portMemclass => ⟨0x01, 0x09, 9, true, 153, .any⟩
  | .portDevload => ⟨0x01, 0x0A, 2, false, 0, .any⟩
  | .portDlHist => ⟨0x01, 0x0B, 64, false, 0, .any⟩
  | .portIde => ⟨0x01, 0x0C, 8, false, 0, .any⟩
  | .stationBifurc => ⟨0x02, 0x01, 2, true, 0, .upTo 2⟩
  | .stationLoss => ⟨0x02, 0x02, 16, false, 0, .any⟩
  | .stationLength => ⟨0x02, 0x03, 16, false, 0, .any⟩
  | .tenantState => ⟨0x03, 0x01, 2, true, 0, .upTo 2⟩
  | .tenantShRules => ⟨0x03, 0x02, 17, true, 0, .any⟩
  | .tenantShQuota => ⟨0x03, 0x03, 21, true, 0, .any⟩
  | .tenantShEvents => ⟨0x03, 0x04, 14, true, 0, .any⟩
  | .tenantShCounters => ⟨0x03, 0x05, 15, true, 0, .any⟩
  | .tenantShDirty => ⟨0x03, 0x06, 32, true, 0, .any⟩
  | .tenantShPerm => ⟨0x03, 0x07, 16, true, 0, .upTo 511⟩
  | .tenantBank => ⟨0x03, 0x08, 1, true, 0, .any⟩
  | .tenantTimeout => ⟨0x03, 0x09, 32, true, 0x989680, .any⟩
  | .tenantRulesUsed => ⟨0x03, 0x0A, 17, false, 0, .any⟩
  | .tenantTracked => ⟨0x03, 0x0B, 24, false, 0, .any⟩
  | .tenantTwBase => ⟨0x03, 0x0C, 57, true, 0, .aligned 4096⟩
  | .tenantEvViol => ⟨0x03, 0x0D, 14, true, 0x2000, .upTo 8192⟩
  | .tenantQuotaUsed => ⟨0x03, 0x0E, 21, false, 0, .any⟩
  | .tenantCwBase => ⟨0x03, 0x0F, 57, true, 0, .aligned 131072⟩
  | .ruleOwner => ⟨0x04, 0x01, 12, false, 0, .any⟩
  | .ruleBank => ⟨0x04, 0x02, 1, true, 0, .any⟩
  | .ruleStart => ⟨0x04, 0x03, 57, true, 0, .aligned 64⟩
  | .ruleEnd => ⟨0x04, 0x04, 57, true, 0, .aligned 64⟩
  | .rulePerm => ⟨0x04, 0x05, 4, true, 0, .any⟩
  | .ruleCache => ⟨0x04, 0x06, 2, true, 0, .upTo 2⟩
  | .ruleOrder => ⟨0x04, 0x07, 1, true, 1, .any⟩
  | .ruleValid => ⟨0x04, 0x08, 1, true, 0, .any⟩
  | .vcsUsp => ⟨0x05, 0x01, 8, true, 255, .any⟩
  | .vcsEnable => ⟨0x05, 0x02, 1, true, 0, .any⟩
  | .vppbKind => ⟨0x06, 0x01, 2, true, 0, .upTo 2⟩
  | .vppbPort => ⟨0x06, 0x02, 7, true, 0, .any⟩
  | .vppbLdid => ⟨0x06, 0x03, 16, true, 0, .any⟩
  | .vppbHp => ⟨0x06, 0x04, 3, false, 0, .any⟩
  | .pbrPort => ⟨0x07, 0x01, 7, true, 0, .any⟩
  | .pbrValid => ⟨0x07, 0x02, 1, true, 0, .any⟩
  | .pbrTenant => ⟨0x07, 0x03, 13, true, 0x1000, .upTo 4096⟩
  | .tshaperRate => ⟨0x08, 0x01, 23, true, 0, .any⟩
  | .tshaperBurst => ⟨0x08, 0x02, 32, true, 0x10000, .any⟩
  | .tshaperApply => ⟨0x08, 0x03, 2, true, 0, .upTo 2⟩
  | .tshaperTokens => ⟨0x08, 0x04, 40, false, 0x10000, .any⟩
  | .cshaperRate => ⟨0x09, 0x01, 23, true, 0, .any⟩
  | .cshaperBurst => ⟨0x09, 0x02, 32, true, 0x10000, .any⟩
  | .cshaperApply => ⟨0x09, 0x03, 2, true, 0, .upTo 2⟩
  | .cshaperTokens => ⟨0x09, 0x04, 40, false, 0x10000, .any⟩
  | .cshaperMode => ⟨0x09, 0x05, 1, true, 0, .any⟩
  | .cshaperWeight => ⟨0x09, 0x06, 8, true, 16, .between 1 255⟩
  | .timetableActive => ⟨0x0A, 0x01, 1, false, 0, .any⟩
  | .timetableLoaded => ⟨0x0A, 0x02, 1, false, 0, .any⟩
  | .timetableLength => ⟨0x0A, 0x03, 9, true, 0, .between 1 256⟩
  | .timetableTakeover => ⟨0x0A, 0x04, 64, true, 0, .any⟩
  | .timetableNextcycle => ⟨0x0A, 0x05, 1, true, 0, .any⟩
  | .timetableGuard => ⟨0x0A, 0x06, 1, true, 1, .any⟩
  | .timetableArmed => ⟨0x0A, 0x07, 1, false, 0, .any⟩
  | .ttentryGates => ⟨0x0B, 0x01, 8, true, 255, .any⟩
  | .ttentryDuration => ⟨0x0B, 0x02, 32, true, 0, .any⟩
  | .windowOwner => ⟨0x0C, 0x01, 12, true, 0, .any⟩
  | .windowKind => ⟨0x0C, 0x02, 2, true, 0, .upTo 2⟩
  | .windowBase => ⟨0x0C, 0x03, 57, true, 0, .aligned 4096⟩
  | .windowLimit => ⟨0x0C, 0x04, 57, true, 0, .any⟩
  | .windowRemote => ⟨0x0C, 0x05, 64, true, 0, .any⟩
  | .windowPort => ⟨0x0C, 0x06, 7, true, 0, .any⟩
  | .windowLanes => ⟨0x0C, 0x07, 2, true, 0, .upTo 2⟩
  | .windowElem => ⟨0x0C, 0x08, 2, true, 0, .upTo 2⟩
  | .windowPoll => ⟨0x0C, 0x09, 17, true, 1000, .between 10 100000⟩
  | .eventOwner => ⟨0x0D, 0x01, 12, false, 0, .any⟩
  | .eventEnable => ⟨0x0D, 0x02, 1, true, 0, .any⟩
  | .eventPending => ⟨0x0D, 0x03, 1, true, 0, .upTo 0⟩
  | .counterOwner => ⟨0x0E, 0x01, 12, false, 0, .any⟩
  | .counterSelect => ⟨0x0E, 0x02, 16, true, 0, .tenantEvent⟩
  | .counterValue => ⟨0x0E, 0x03, 48, false, 0, .any⟩
  | .counterOvf => ⟨0x0E, 0x04, 1, true, 0, .upTo 0⟩
  | .counterRun => ⟨0x0E, 0x05, 1, true, 1, .any⟩
  | .counterFpriv => ⟨0x0E, 0x06, 4, true, 15, .any⟩
  | .counterFreqid => ⟨0x0E, 0x07, 16, true, 0, .any⟩
  | .counterFreqmask => ⟨0x0E, 0x08, 16, true, 0, .any⟩
  | .counterFaddrLo => ⟨0x0E, 0x09, 57, true, 0, .aligned 64⟩
  | .counterFaddrHi => ⟨0x0E, 0x0A, 57, true, 0x1ffffffffffffc0, .aligned 64⟩
  | .counterFclass => ⟨0x0E, 0x0B, 9, true, 511, .any⟩
  | .counterOvfEv => ⟨0x0E, 0x0C, 14, true, 0x2000, .upTo 8192⟩
  | .counterZero => ⟨0x0E, 0x0D, 1, true, 0, .any⟩
  | .slotEnable => ⟨0x0F, 0x01, 1, true, 0, .any⟩
  | .slotPort => ⟨0x0F, 0x02, 7, true, 127, .any⟩
  | .slotIlim => ⟨0x0F, 0x03, 14, true, 2000, .any⟩
  | .slotPlim => ⟨0x0F, 0x04, 8, true, 25, .any⟩
  | .slotBlank => ⟨0x0F, 0x05, 7, true, 10, .any⟩
  | .slotRetries => ⟨0x0F, 0x06, 3, true, 3, .any⟩
  | .slotRetryDly => ⟨0x0F, 0x07, 16, true, 1000, .any⟩
  | .slotAbsence => ⟨0x0F, 0x08, 16, true, 2000, .any⟩
  | .slotShortT => ⟨0x0F, 0x09, 16, true, 200, .any⟩
  | .slotTempTrip => ⟨0x0F, 0x0A, 8, true, 0, .any⟩
  | .slotState => ⟨0x0F, 0x0B, 4, false, 0, .any⟩
  | .slotVout => ⟨0x0F, 0x0C, 16, false, 0, .any⟩
  | .slotIout => ⟨0x0F, 0x0D, 16, false, 0, .any⟩
  | .slotEnergy => ⟨0x0F, 0x0E, 48, false, 0, .any⟩
  | .slotCbulk => ⟨0x0F, 0x0F, 16, false, 0, .any⟩
  | .slotSeated => ⟨0x0F, 0x10, 1, false, 0, .any⟩
  | .slotPcTime => ⟨0x0F, 0x11, 10, true, 100, .between 1 1000⟩
  | .slotRampT => ⟨0x0F, 0x12, 10, true, 100, .between 1 1000⟩
  | .slotPfwLead => ⟨0x0F, 0x13, 14, true, 100, .between 50 10000⟩
  | .slotPerstDly => ⟨0x0F, 0x14, 10, true, 100, .between 1 1000⟩
  | .slotRpc => ⟨0x0F, 0x15, 16, true, 1000, .between 100 50000⟩
  | .slotVin => ⟨0x0F, 0x16, 16, false, 0, .any⟩
  | .slotTfet => ⟨0x0F, 0x17, 8, false, 0, .any⟩
  | .slotTrips => ⟨0x0F, 0x18, 4, false, 0, .any⟩
  | .slotCause => ⟨0x0F, 0x19, 4, false, 0, .any⟩
  | .slotTripTotal => ⟨0x0F, 0x1A, 32, false, 0, .any⟩
  | .slotIlimCeil => ⟨0x0F, 0x1B, 14, false, 0, .any⟩
  | .slotPlimCeil => ⟨0x0F, 0x1C, 8, false, 0, .any⟩
  | .slotTempCeil => ⟨0x0F, 0x1D, 8, false, 0, .any⟩
  | .slotRsense => ⟨0x0F, 0x1E, 16, false, 0, .any⟩
  | .slotEv => ⟨0x0F, 0x1F, 14, true, 0x2000, .upTo 8192⟩
  | .gleanerEnable => ⟨0x10, 0x01, 1, true, 0, .any⟩
  | .gleanerGran => ⟨0x10, 0x02, 1, true, 0, .any⟩
  | .gleanerRingBase => ⟨0x10, 0x03, 57, true, 0, .aligned 64⟩
  | .gleanerRingRecs => ⟨0x10, 0x04, 32, true, 0, .any⟩
  | .gleanerHead => ⟨0x10, 0x05, 32, false, 0, .any⟩
  | .gleanerAlldirty => ⟨0x10, 0x06, 1, false, 0, .any⟩
  | .gleanerTail => ⟨0x10, 0x07, 32, true, 0, .any⟩
  | .gleanerPass => ⟨0x10, 0x08, 32, false, 0, .any⟩
  | .gleanerEvent => ⟨0x10, 0x09, 14, true, 0x2000, .upTo 8192⟩
  | .nearLat => ⟨0x11, 0x01, 16, true, 0, .any⟩
  | .nearMeas => ⟨0x11, 0x02, 16, false, 0, .any⟩
  | .domainReq => ⟨0x12, 0x01, 2, true, 1, .upTo 2⟩
  | .domainState => ⟨0x12, 0x02, 2, false, 1, .any⟩
  | .devicePstate => ⟨0x13, 0x01, 3, true, 0, .upTo 3⟩
  | .deviceWatchPer => ⟨0x13, 0x02, 14, true, 100, .between 1 10000⟩
  | .deviceVcore => ⟨0x13, 0x03, 10, true, 750, .any⟩
  | .deviceLifecycle => ⟨0x13, 0x04, 3, false, 0, .any⟩
  | .deviceEpoch => ⟨0x13, 0x05, 32, false, 0, .any⟩
  | .deviceFdi => ⟨0x13, 0x06, 64, false, 0, .any⟩
  | .deviceAbi => ⟨0x13, 0x07, 8, false, 0, .any⟩
  | .deviceDeadT => ⟨0x13, 0x08, 20, true, 4000, .between 100 1000000⟩
  | .deviceQsamplePer => ⟨0x13, 0x09, 20, true, 1000, .between 1 1000000⟩
  | .deviceFtbSrc => ⟨0x13, 0x0A, 2, true, 0, .any⟩
  | .deviceFtbPort => ⟨0x13, 0x0B, 7, true, 0, .any⟩
  | .deviceSyncPer => ⟨0x13, 0x0C, 20, true, 1000, .between 10 1000000⟩
  | .deviceFtbState => ⟨0x13, 0x0D, 2, false, 0, .any⟩
  | .deviceFtbOffset => ⟨0x13, 0x0E, 32, false, 0, .any⟩
  | .deviceFtbRate => ⟨0x13, 0x0F, 16, false, 0, .any⟩
  | .deviceWsMark => ⟨0x13, 0x10, 1, true, 0, .any⟩
  | .deviceWakeEn => ⟨0x13, 0x11, 16, true, 15, .upTo 255⟩
  | .deviceWakeCause => ⟨0x13, 0x12, 16, false, 0, .any⟩
  | .deviceWakeAt => ⟨0x13, 0x13, 64, true, 0xffffffffffffffff, .any⟩
  | .deviceWakePortsLo => ⟨0x13, 0x14, 64, true, 0, .any⟩
  | .deviceWakePortsHi => ⟨0x13, 0x15, 64, true, 0, .any⟩
  | .deviceTempHi => ⟨0x13, 0x16, 8, true, 95, .between 40 125⟩
  | .deviceAvs => ⟨0x13, 0x17, 1, true, 0, .any⟩
  | .deviceVcoreNow => ⟨0x13, 0x18, 10, false, 750, .any⟩
  | .deviceWsAddr => ⟨0x13, 0x19, 5, false, 0, .any⟩
  | .deviceTokenResult => ⟨0x13, 0x1A, 8, false, 0, .any⟩
  | .deviceErrEv => ⟨0x13, 0x1B, 14, true, 0x2000, .upTo 8192⟩
  | .deviceCeEv => ⟨0x13, 0x1C, 14, true, 0x2000, .upTo 8192⟩
  | .deviceFatalAct => ⟨0x13, 0x1D, 1, true, 0, .any⟩
  | .deviceCeCount => ⟨0x13, 0x1E, 48, false, 0, .any⟩
  | .deviceUcCount => ⟨0x13, 0x1F, 32, false, 0, .any⟩
  | .deviceLoftDirty => ⟨0x13, 0x20, 1, false, 0, .any⟩
  | .deviceBindEv => ⟨0x13, 0x21, 14, true, 0x2000, .upTo 8192⟩
  | .mirrorSport => ⟨0x14, 0x01, 7, true, 0, .any⟩
  | .mirrorDir => ⟨0x14, 0x02, 2, true, 0, .any⟩
  | .mirrorDport => ⟨0x14, 0x03, 7, true, 0, .any⟩
  | .mirrorTrunc => ⟨0x14, 0x04, 1, true, 0, .any⟩
  | .agentKind => ⟨0x15, 0x01, 2, true, 0, .any⟩
  | .agentPort => ⟨0x15, 0x02, 7, true, 0, .any⟩
  | .agentBiid => ⟨0x15, 0x03, 12, true, 0, .any⟩
  | .agentPrefetch => ⟨0x15, 0x04, 2, true, 0, .any⟩
  | .agentLive => ⟨0x15, 0x05, 1, false, 0, .any⟩
  | .agentDeaths => ⟨0x15, 0x06, 16, false, 0, .any⟩
  | .unitctrSelect => ⟨0x16, 0x01, 16, true, 0, .unitEvent⟩
  | .unitctrValue => ⟨0x16, 0x02, 48, false, 0, .any⟩
  | .unitctrOvf => ⟨0x16, 0x03, 1, true, 0, .upTo 0⟩
  | .unitctrFpriv => ⟨0x16, 0x04, 4, true, 15, .any⟩
  | .unitctrFtenant => ⟨0x16, 0x05, 13, true, 0x1000, .upTo 4096⟩
  | .unitctrFreqid => ⟨0x16, 0x06, 16, true, 0, .any⟩
  | .unitctrFreqmask => ⟨0x16, 0x07, 16, true, 0, .any⟩
  | .unitctrFaddrLo => ⟨0x16, 0x08, 57, true, 0, .aligned 64⟩
  | .unitctrFaddrHi => ⟨0x16, 0x09, 57, true, 0x1ffffffffffffc0, .aligned 64⟩
  | .unitctrFclass => ⟨0x16, 0x0A, 9, true, 511, .any⟩
  | .unitctrOvfEv => ⟨0x16, 0x0B, 14, true, 0x2000, .upTo 8192⟩
  | .unitctrZero => ⟨0x16, 0x0C, 1, true, 0, .any⟩
  | .checkerCapValid => ⟨0x17, 0x01, 1, true, 0, .upTo 0⟩
  | .checkerCapReason => ⟨0x17, 0x02, 3, false, 0, .any⟩
  | .checkerCapKind => ⟨0x17, 0x03, 4, false, 0, .any⟩
  | .checkerCapTenant => ⟨0x17, 0x04, 13, false, 0, .any⟩
  | .checkerCapPort => ⟨0x17, 0x05, 7, false, 0, .any⟩
  | .checkerCapReqid => ⟨0x17, 0x06, 38, false, 0, .any⟩
  | .checkerCapAddr => ⟨0x17, 0x07, 57, false, 0, .any⟩
  | .checkerCapLen => ⟨0x17, 0x08, 13, false, 0, .any⟩
  | .checkerCapRule => ⟨0x17, 0x09, 17, false, 0, .any⟩
  | .checkerCapTime => ⟨0x17, 0x0A, 64, false, 0, .any⟩
  | .checkerLater => ⟨0x17, 0x0B, 48, false, 0, .any⟩
  | .checkerOvf => ⟨0x17, 0x0C, 1, true, 0, .upTo 0⟩
  | .queueDepth => ⟨0x18, 0x01, 21, false, 0, .any⟩
  | .queueHold => ⟨0x18, 0x02, 32, false, 0, .any⟩
  | .queuePeakDepth => ⟨0x18, 0x03, 21, true, 0, .upTo 0⟩
  | .queuePeakHold => ⟨0x18, 0x04, 32, true, 0, .upTo 0⟩
  | .queueStamp => ⟨0x18, 0x05, 64, false, 0, .any⟩
  | .unitsetRun => ⟨0x19, 0x01, 1, true, 1, .any⟩
  | .unitsetTick => ⟨0x19, 0x02, 64, false, 0, .any⟩
  | .unitsetZero => ⟨0x19, 0x03, 1, true, 0, .any⟩
  | .railSetpt => ⟨0x1A, 0x01, 11, false, 0, .any⟩
  | .railWarnPct => ⟨0x1A, 0x02, 5, true, 8, .between 3 12⟩
  | .railResetPct => ⟨0x1A, 0x03, 5, true, 15, .between 10 15⟩
  | .railVnow => ⟨0x1A, 0x04, 11, false, 0, .any⟩
  | .railWarn => ⟨0x1A, 0x05, 1, false, 0, .any⟩
  | .railWarns => ⟨0x1A, 0x06, 32, false, 0, .any⟩
  | .railEv => ⟨0x1A, 0x07, 14, true, 0x2000, .upTo 8192⟩
  | .thermTemp => ⟨0x1B, 0x01, 12, false, 0, .any⟩
  | .thermPeak => ⟨0x1B, 0x02, 12, true, 0, .upTo 0⟩
  | .thermAlarm => ⟨0x1B, 0x03, 8, true, 100, .between 40 125⟩
  | .thermEv => ⟨0x1B, 0x04, 14, true, 0x2000, .upTo 8192⟩

/-- Every field, in class and field order: the first half. -/
def Fld.listA : List Fld :=
  [.portProto, .portRateMax, .portSaf, .portDrop, .portEnable, .portLink, .portTenant, .portClassmap, .portMemclass, .portDevload, .portDlHist, .portIde, .stationBifurc, .stationLoss, .stationLength, .tenantState, .tenantShRules, .tenantShQuota, .tenantShEvents, .tenantShCounters] ++
  [.tenantShDirty, .tenantShPerm, .tenantBank, .tenantTimeout, .tenantRulesUsed, .tenantTracked, .tenantTwBase, .tenantEvViol, .tenantQuotaUsed, .tenantCwBase, .ruleOwner, .ruleBank, .ruleStart, .ruleEnd, .rulePerm, .ruleCache, .ruleOrder, .ruleValid, .vcsUsp, .vcsEnable] ++
  [.vppbKind, .vppbPort, .vppbLdid, .vppbHp, .pbrPort, .pbrValid, .pbrTenant, .tshaperRate, .tshaperBurst, .tshaperApply, .tshaperTokens, .cshaperRate, .cshaperBurst, .cshaperApply, .cshaperTokens, .cshaperMode, .cshaperWeight, .timetableActive, .timetableLoaded, .timetableLength] ++
  [.timetableTakeover, .timetableNextcycle, .timetableGuard, .timetableArmed, .ttentryGates, .ttentryDuration, .windowOwner, .windowKind, .windowBase, .windowLimit, .windowRemote, .windowPort, .windowLanes, .windowElem, .windowPoll, .eventOwner, .eventEnable, .eventPending, .counterOwner, .counterSelect] ++
  [.counterValue, .counterOvf, .counterRun, .counterFpriv, .counterFreqid, .counterFreqmask, .counterFaddrLo, .counterFaddrHi, .counterFclass, .counterOvfEv, .counterZero, .slotEnable, .slotPort, .slotIlim, .slotPlim, .slotBlank, .slotRetries, .slotRetryDly, .slotAbsence, .slotShortT] ++
  [.slotTempTrip, .slotState, .slotVout, .slotIout, .slotEnergy, .slotCbulk, .slotSeated, .slotPcTime, .slotRampT, .slotPfwLead]

/-- Every field, in class and field order: the second half. -/
def Fld.listB : List Fld :=
  [.slotPerstDly, .slotRpc, .slotVin, .slotTfet, .slotTrips, .slotCause, .slotTripTotal, .slotIlimCeil, .slotPlimCeil, .slotTempCeil, .slotRsense, .slotEv, .gleanerEnable, .gleanerGran, .gleanerRingBase, .gleanerRingRecs, .gleanerHead, .gleanerAlldirty, .gleanerTail, .gleanerPass] ++
  [.gleanerEvent, .nearLat, .nearMeas, .domainReq, .domainState, .devicePstate, .deviceWatchPer, .deviceVcore, .deviceLifecycle, .deviceEpoch, .deviceFdi, .deviceAbi, .deviceDeadT, .deviceQsamplePer, .deviceFtbSrc, .deviceFtbPort, .deviceSyncPer, .deviceFtbState, .deviceFtbOffset, .deviceFtbRate] ++
  [.deviceWsMark, .deviceWakeEn, .deviceWakeCause, .deviceWakeAt, .deviceWakePortsLo, .deviceWakePortsHi, .deviceTempHi, .deviceAvs, .deviceVcoreNow, .deviceWsAddr, .deviceTokenResult, .deviceErrEv, .deviceCeEv, .deviceFatalAct, .deviceCeCount, .deviceUcCount, .deviceLoftDirty, .deviceBindEv, .mirrorSport, .mirrorDir] ++
  [.mirrorDport, .mirrorTrunc, .agentKind, .agentPort, .agentBiid, .agentPrefetch, .agentLive, .agentDeaths, .unitctrSelect, .unitctrValue, .unitctrOvf, .unitctrFpriv, .unitctrFtenant, .unitctrFreqid, .unitctrFreqmask, .unitctrFaddrLo, .unitctrFaddrHi, .unitctrFclass, .unitctrOvfEv, .unitctrZero] ++
  [.checkerCapValid, .checkerCapReason, .checkerCapKind, .checkerCapTenant, .checkerCapPort, .checkerCapReqid, .checkerCapAddr, .checkerCapLen, .checkerCapRule, .checkerCapTime, .checkerLater, .checkerOvf, .queueDepth, .queueHold, .queuePeakDepth, .queuePeakHold, .queueStamp, .unitsetRun, .unitsetTick, .unitsetZero] ++
  [.railSetpt, .railWarnPct, .railResetPct, .railVnow, .railWarn, .railWarns, .railEv, .thermTemp, .thermPeak, .thermAlarm, .thermEv]

/-- The field of a class with a given ID; OBJ and ACT, which every class has, are not in the list (R57, R642). -/
def Fld.ofId (cls id : Nat) : Option Fld :=
  let hit : Fld → Bool := fun f => f.info.cls == cls && f.info.id == id
  match Fld.listA.find? hit with
  | some f => some f
  | none => Fld.listB.find? hit

/-- The index bound of a class, exclusive; `none` where the class is not defined (R55 and the field tables). -/
def classIndexes (cls : Nat) : Option Nat :=
  match cls with
  | 0x01 => some 128 | 0x02 => some 64 | 0x03 => some 4096 | 0x04 => some 65536
  | 0x05 => some 128 | 0x06 => some 128 | 0x07 => some 4096 | 0x08 => some 4096
  | 0x09 => some 128 | 0x0A => some 128 | 0x0B => some 128 | 0x0C => some 256
  | 0x0D => some 8192 | 0x0E => some 16384 | 0x0F => some 64 | 0x10 => some 4096
  | 0x11 => some 129 | 0x12 => some 75 | 0x13 => some 1 | 0x14 => some 16
  | 0x15 => some 512 | 0x16 => some 88 | 0x17 => some 64 | 0x18 => some 128
  | 0x19 => some 88 | 0x1A => some 6 | 0x1B => some 13
  | _ => none

/-- The sub-index bound of a class, exclusive; a class without a sub-index has the one value 0. -/
def classSubs (cls : Nat) : Nat :=
  match cls with
  | 0x06 => 256 | 0x09 => 8 | 0x0B => 512 | 0x16 => 8 | 0x18 => 17
  | _ => 1

/-- The pool classes RULE, EVENT and COUNTER (R55). -/
def classPool (cls : Nat) : Bool := cls == 0x04 || cls == 0x0D || cls == 0x0E

/-- How many objects a pool class has (R55). -/
def poolSize (cls : Nat) : Nat := (classIndexes cls).getD 0

/-- Whether a privilege may stage writes to a class: 0 FM, 1 BMC, 2 TENANT, 3 INTERNAL (R55, R310, R328, R397, R447,
R524, R565, R584). What TENANT may write of TENANT is decided by R56. -/
def classWritable (cls priv : Nat) : Bool :=
  if priv == 0 || priv == 3 then true
  else if priv == 1 then
    cls == clsSlot || cls == clsDomain || cls == clsDevice || cls == clsUnitctr || cls == clsUnitset || cls == clsTherm
  else if priv == 2 then cls == clsEvent || cls == clsCounter || cls == clsTenant
  else false

/-- The kinds of unit of R564. -/
inductive UnitKind
  | station | slice | quadrant | turntable | interlocking | junction | crossing
  deriving DecidableEq, Repr

/-- The kind of unit u (R564). -/
def unitKind (u : Nat) : UnitKind :=
  if u < 64 then .station else if u < 80 then .slice else if u < 84 then .quadrant
  else if u == 84 then .turntable else if u == 85 then .interlocking else if u == 86 then .junction else .crossing

/-- The events of R569 a kind of unit counts. -/
def eventOfKind (k : UnitKind) (e : Nat) : Bool :=
  match k with
  | .station => (1 ≤ e && e ≤ 9) || (0x010 ≤ e && e ≤ 0x01E)
  | .slice => 0x040 ≤ e && e ≤ 0x04A
  | .quadrant => e == 0x060
  | .turntable => 0x070 ≤ e && e ≤ 0x072
  | .interlocking => 0x080 ≤ e && e ≤ 0x082
  | .junction => e == 0x090 || e == 0x091
  | .crossing => e == 0x0A0

/-- The events marked "Tenant" in R569. -/
def tenantEvents : List Nat :=
  [0x010, 0x011, 0x012, 0x013, 0x01E, 0x040, 0x041, 0x042, 0x046, 0x047, 0x080, 0x090]

/-- Whether a value fits a field's encoding, for an object of the given index (R57, R567, R576, R641). -/
def Encoding.accepts (e : Encoding) (idx v : Nat) : Bool :=
  match e with
  | .any => true
  | .upTo n => v ≤ n
  | .between a b => a ≤ v && v ≤ b
  | .aligned n => v % n == 0
  | .tenantEvent => v / 0x2000 == 0 && (v % 0x1000 == 0 || tenantEvents.contains (v % 0x1000))
  | .unitEvent => v / 0x2000 == 0 && (v % 0x1000 == 0 || eventOfKind (unitKind idx) (v % 0x1000))

/-- Whether stf accepts a value for a field (R58). -/
def Fld.accepts (f : Fld) (idx v : Nat) : Bool :=
  v < 2 ^ f.info.width && f.info.enc.accepts idx v

/-- The key of a field's value in the store. -/
def objKey (cls fid idx sub : Nat) : Nat := ((cls * 256 + fid) * 65536 + idx) * 65536 + sub

/-- The key of an object's generation. -/
def genKey (cls idx sub : Nat) : Nat := (cls * 65536 + idx) * 65536 + sub

/-- The key of a pool object in the list of allocated objects. -/
def poolKey (cls idx : Nat) : Nat := cls * 65536 + idx

end Sys2Proof
end

