-- ==== Sys2Proof/Machine/State.lean ====
section
/-! DEFINITION. The state of the block, as plain data, the reasons a step can stop, and the state after reset.
Everything indexed is held in a `Tab`: an index that is not listed holds the structure's default values, which are
its values after a cold reset. -/

namespace Sys2Proof.Machine

/-! ### The Lever cluster -/

/-- A handle register (R40). -/
structure Handle where
  valid : Bool := false
  cls : Nat := 0
  idx : Nat := 0
  sub : Nat := 0
  gen : Nat := 0
  deriving DecidableEq, Repr

/-- An entry of a commit buffer (R58, R60, R642). -/
inductive Entry
  | write (cls idx sub fid value : Nat)
  | create (cls idx owner : Nat)
  | delete (cls idx : Nat)
  | raise (ev : Nat)
  | action (cls idx sub value : Nat)
  deriving DecidableEq, Repr

/-- Where an order's reply goes (R86). -/
inductive ReplyTo
  | mailbox
  | background (opcode : Nat)
  | vdm (eid : Nat)
  | bus (eid : Nat)
  | wayside (address : Nat)
  | window (t : Nat)
  | ledger (seq : Nat)
  deriving DecidableEq, Repr

/-- An accepted order (R78, R83, R86). `api` marks one that serves a Fabric Manager API command, whose response is the
reply data alone (R98); `sender` is the endpoint it came from, where its reply goes elsewhere or not (R89). -/
structure Order where
  id : Nat := 0
  library : Bool := true
  abi : Nat := 1
  tag : Nat := 0
  libid : Nat := 0
  code : List Byte := []
  args : List Byte := []
  nowait : Bool := false
  deadline : Nat := 0
  priv : Nat := 0
  tenant : Nat := 0
  channel : Nat := 0
  replyTo : ReplyTo := .mailbox
  api : Bool := false
  sender : ReplyTo := .mailbox
  accepted : Nat := 0
  started : Nat := 0
  deriving DecidableEq, Repr

/-- What a core is doing (R38, R48, R62, R76, R106, R128, R303). -/
inductive CoreMode
  | idle
  | running
  | waiting (target : Nat)
  | committing (rd : Nat)
  | external (deadline : Nat)
  | halted
  deriving DecidableEq, Repr

/-- How far the code of a library order has come between the runs its row gives it: the commits that have passed, the commits
refused with BUSY in a row, and the generations that a commit waiting for its turn has recorded (R62, R63, R65, R92). -/
structure LibraryRun where
  done : Nat := 0
  tries : Nat := 0
  waits : Option (List (Nat × Nat)) := none
  deriving DecidableEq, Repr

/-- One Lever core (R36 to R41, R51, R60, R72, R74, R76). -/
structure CoreState where
  mode : CoreMode := .idle
  resident : Bool := false
  job : Option Order := none
  pc : Word := 0
  g : Tab Word := []
  h : Tab Handle := []
  buf : List Entry := []
  named : List (Nat × Nat) := []
  reserved : List (Nat × Nat) := []
  replyLen : Nat := 0
  submitter : Word := 0
  mem : Mem := []
  used : Nat := 0
  lib : LibraryRun := {}
  petAt : Nat := 0
  expiries : List Nat := []
  losses : Nat := 0
  deriving DecidableEq, Repr

/-- The Lever cluster: cores, shared memory, the commit unit and the debugger (R51, R62, R63, R68, R71). -/
structure Lever where
  cores : Tab CoreState := []
  sharedCode : Mem := []
  sharedData : Mem := []
  commitWait : List Nat := []
  granted : Option Nat := none
  nextHold : Nat := 0
  debugger : Bool := false
  reloading : Bool := false
  reloadAfterActivation : Bool := false
  deriving DecidableEq, Repr

/-! ### Orders and the mailbox -/

/-- The primary mailbox registers and payload (R94). -/
structure Mailbox where
  doorbell : Bool := false
  dbInt : Bool := false
  bgInt : Bool := false
  opcode : Nat := 0
  payloadLen : Nat := 0
  returnCode : Nat := 0
  vsStatus : Nat := 0
  bgOp : Bool := false
  bgOpcode : Nat := 0
  percent : Nat := 0
  bgReturn : Nat := 0
  bgVsStatus : Nat := 0
  bgEnded : Option Nat := none
  payload : Mem := []
  deriving DecidableEq, Repr

/-- A tenant window: order area (R100) and registers (R416). -/
structure TenantWindow where
  go : Bool := false
  evEn : Bool := false
  event : Nat := 0
  status : Nat := 0
  tag : Nat := 0
  replyLen : Nat := 0
  trunc : Bool := false
  frame : Mem := []
  reply : Mem := []
  msiAddr : Word := 0
  msiData : Nat := 0
  msiEn : Bool := false
  violCount : Nat := 0
  violOvf : Bool := false
  overdraw : Nat := 0
  resets : Nat := 0
  lastMsi : Option Nat := none
  deriving DecidableEq, Repr

/-- A long standing-order frame being stored in parts (R112). -/
structure PartSession where
  number : Nat
  total : Nat
  received : List Byte
  priv : Nat
  lastPart : Nat
  deriving DecidableEq, Repr

/-- Order queue and the sessions of the channels (R89, R90, R93, R112). -/
structure Orders where
  queue : List Order := []
  nextId : Nat := 1
  mailbox : Mailbox := {}
  windows : Tab TenantWindow := []
  session : Option PartSession := none
  nextSession : Nat := 1
  noStart : Bool := false
  frozen : List Nat := []
  deriving DecidableEq, Repr

/-! ### Boot, images, Ledger, security -/

/-- The OTP fields (R466, R538). -/
structure Otp where
  partH : Bool := false
  lifecycle : Nat := 1
  serial : List Byte := []
  fdi : Nat := 0
  uds : List Byte := []
  roots : Tab (List Byte) := []
  rootFlags : Tab Nat := []
  ilimCeil : Nat := 0
  plimCeil : Nat := 0
  tempCeil : Nat := 0
  rsense : Nat := 0
  tAmb : Nat := 0
  fastPole : Nat := 0
  slowPole : Nat := 0
  vfloor : Nat := 0
  deriving DecidableEq, Repr

/-- The parts of a loaded image that the device uses (R118, R119). -/
structure Image where
  version : Nat := 0
  svn : Nat := 0
  abi : Nat := 0
  trunk : Nat := 0
  trunkMin : Nat := 0
  residents : Nat := 0
  watchdogMs : Nat := 100
  keySlot : Nat := 0
  header : List Byte := []
  mcBytes : List Byte := []
  leverBytes : List Byte := []
  library : List (Nat × Nat × Nat) := []
  tasks : List Nat := []
  deriving DecidableEq, Repr

/-- The work the MC is doing on the inactive bank (R124, R126). -/
inductive FlashJob
  | erase (bank block event : Nat)
  | program (bank offset : Nat) (data : List Byte) (eraseFirst : Bool) (event : Nat)
  deriving DecidableEq, Repr

/-- The step an activation has reached (R128, R131). -/
inductive ActivationStep
  | none | rehash | quiesce | copy | restart | reload
  deriving DecidableEq, Repr

/-- The step a boot has reached within its phase (R541). -/
inductive BootStep
  | held | ready | working | done
  deriving DecidableEq, Repr

/-- Boot registers, images and flash (R117, R122 to R133, R541, R542). -/
structure Boot where
  phase : Nat := 0
  step : BootStep := .held
  bank : Nat := 0
  fallback : Bool := false
  error : Nat := 0
  replayFail : Nat := 0
  other : Image := {}
  image : Image := {}
  preferred : Nat := 0
  otherValid : Bool := false
  stage : Nat := 0
  act : Nat := 0
  fail : Nat := 0
  scratch : Nat := 0
  flash : Mem := []
  flashJob : Option FlashJob := none
  stageAddr : Nat := 0
  stageEvent : Nat := 0x2000
  stageBank : Nat := 0
  stageHash : List Byte := []
  activation : ActivationStep := .none
  quiesceBy : Nat := 0
  loadBank : Nat := 0
  replayNext : Nat := 0
  tapHold : Bool := false
  cold : Bool := true
  deriving DecidableEq, Repr

/-- A standing-order record (R109). -/
structure StandingRecord where
  seq : Nat
  priv : Nat
  valid : Bool
  crc : Nat
  frame : List Byte
  deriving DecidableEq, Repr

/-- An error log record (R602); `flaw` is its stored CRC, exclusive-ored with the one its bytes have. -/
structure ErrorRecord where
  seq : Nat
  cls : Nat
  kind : Nat
  code : Nat
  tick : Nat
  epoch : Nat
  unit : Nat
  place : Nat
  tenant : Nat
  count : Nat
  addr : Nat
  detail : List Nat
  flaw : Nat := 0
  deriving DecidableEq, Repr

/-- A record of the boot and security log (R553). -/
inductive SecurityRecord
  | bootResult (phase error : Nat)
  | tokenOutcome (result : Nat)
  | debugAccess (addr tick : Nat) (write : Bool)
  | spdmAuthFailure (port : Nat)
  | wakeFailure (tick : Nat)
  | sagReset (rail tick lowest : Nat)
  | summary (count : Nat)
  deriving DecidableEq, Repr

/-- One copy of the control area (R554); `flaw` is its stored CRC, exclusive-ored with the one its bytes have. -/
structure ControlCopy where
  seq : Nat := 0
  preferred : Nat := 0
  lastLc : Nat := 0
  svnFloor : Nat := 0
  epoch : Nat := 0
  coldBoots : Nat := 0
  wakeFailures : Nat := 0
  tokenResult : Nat := 0
  flaw : Nat := 1
  deriving DecidableEq, Repr

/-- The Ledger (R109, R553 to R555, R601). The fields from `svnFloor` to `controlSeq` are those of the control copy in use, copy
A where its SEQ is even, `flaw` what stands wrong with its CRC, and `other` the other copy. `poked` holds the bytes a debug master
wrote where the layout gives no fields (R400), `securityTicks` when the log's records of the last 100 s were written, and `excess`
how many records of it the write rate kept back (R555). -/
structure Ledger where
  svnFloor : Nat := 0
  epoch : Nat := 1
  lastLc : Nat := 1
  coldBoots : Nat := 1
  wakeFailures : Nat := 0
  tokenResult : Nat := 0
  controlSeq : Nat := 0
  flaw : Nat := 0
  other : ControlCopy := {}
  poked : Tab Byte := []
  securityTicks : List Nat := []
  excess : Nat := 0
  nonce : Option (List Byte) := none
  token : Option (List Byte) := none
  cert0 : List Byte := []
  deviceCert : List Byte := []
  cert1 : List Byte := []
  standing : List StandingRecord := []
  standingSeq : Nat := 0
  standingUsed : Nat := 0
  replayLog : List (Nat × Nat) := []
  skipped : Nat := 0
  security : List SecurityRecord := []
  errors : List ErrorRecord := []
  errorSeq : Nat := 0
  deriving DecidableEq, Repr

/-- An SPDM session (R549). -/
structure Session where
  place : SpdmEnd
  trunk : Bool
  keys : Nat
  deriving DecidableEq, Repr

/-- Keys, sessions and endpoints (R533 to R535, R546 to R552). -/
structure Security where
  lifecycle : Nat := 1
  cdiId : List Byte := []
  deviceKey : List Byte := []
  aliasKey : List Byte := []
  aliasCert : List Byte := []
  debugCert : Bool := false
  udsOpen : Bool := true
  sessions : Tab Session := []
  nextSession : Nat := 1
  busEid : Nat := 0
  vdmEid : Nat := 0
  trunkEids : Tab Nat := []
  dynamicAddress : Option Nat := none
  discarded : Nat := 0
  replayedDigest : List Byte := []
  deriving DecidableEq, Repr

/-! ### Stations, lanes, ports, links -/

/-- The lane test of one lane (R167 to R173). -/
structure LaneTest where
  active : Bool := false
  pattern : Nat := 0
  rate : Nat := 0
  loopback : Bool := false
  user : Nat := 0
  lock : Bool := false
  lockedAt : Nat := 0
  bits : Nat := 0
  bitsOvf : Bool := false
  errors : Nat := 0
  errorsOvf : Bool := false
  inject : Nat := 0
  injectN : Nat := 0
  deriving DecidableEq, Repr

/-- A running eye scan (R174 to R178): `rate` is the lane's rate code as it begins, `lost` the tick at which the lane lost lock or
its port went link-down. -/
structure EyeScan where
  eye : Nat
  dwell : Nat
  addr : Nat
  event : Nat
  start : Nat
  suspends : Nat
  rate : Nat := 0
  lost : Option Nat := none
  deriving DecidableEq, Repr

/-- One lane, by 8 × station + lane (R151, R155, R157, R164); `askPreset` is the preset first requested of the partner. -/
structure Lane where
  logical : Nat := 0xFF
  inverted : Bool := false
  reversed : Bool := false
  lossAdapt : Nat := 0
  lossRefl : Nat := 0
  delay : Nat := 0
  mstatus : Nat := 0
  band : Nat := 2
  txPreset : Nat := 8
  ctle : Nat := 8
  askPreset : Nat := 8
  skew : Nat := 0
  test : LaneTest := {}
  scan : Option EyeScan := none
  margining : Bool := false
  deriving DecidableEq, Repr

/-- The low-power state of a station (R179, R182, R185, R186). -/
inductive SidingState
  | awake | entering | siding | exiting
  deriving DecidableEq, Repr

/-- One station; `measuring` is the mask of lanes whose reflection is being measured (R153, R182, R246, R250, R252, R609). -/
structure StationState where
  velocity : Nat := 200
  sidingState : SidingState := .awake
  sidingSince : Nat := 0
  wakeLatched : Bool := false
  dark : Bool := false
  resetting : Bool := false
  resetSince : Nat := 0
  measuring : Nat := 0
  remapFrom : Option Nat := none
  allowance : Nat := 0
  clockLost : Bool := false
  deriving DecidableEq, Repr

/-- The role a port has trained in (R190). -/
inductive Role
  | upstream | downstream | interSwitch
  deriving DecidableEq, Repr

/-- One IDE stream slot of a port (R236, R556 to R558): its ID, its kind, and the key sets programmed into it; `restore` says that
it was secure when its link went down. -/
structure IdeStream where
  id : Nat := 0
  kind : IdeKind := .link
  keys : Nat := 0
  secure : Bool := false
  restore : Bool := false
  deriving DecidableEq, Repr

/-- The stage of a Trunk port (R199, R229, R234). -/
inductive TrunkStage
  | detect | hello | equalise | active | recovery | parked
  deriving DecidableEq, Repr

/-- A sequenced flit in the replay buffer (R209, R223). -/
structure SentFlit where
  seq : Nat
  type : Nat
  kset : Bool
  payload : List Byte
  deriving DecidableEq, Repr

/-- A bypass message waiting to be sent (R214, R215). -/
structure BypassMsg where
  type : Nat
  pool : Nat
  long : Bool
  body : List Byte
  queued : Nat
  deriving DecidableEq, Repr

/-- The Trunk Hello handshake (R202 to R205). -/
structure TrunkHello where
  peerFdi : Nat := 0
  last : Option Hello := none
  good : Nat := 0
  sent : Nat := 0
  width : Nat := 0
  rate : Nat := 0
  reversed : Bool := false
  lanesOk : Nat := 0
  deriving DecidableEq, Repr

/-- The Trunk link layer of a port (R203 to R241, R454); `openRx` holds the bytes so far of the frame open on each VC. -/
structure Trunk where
  stage : TrunkStage := .detect
  since : Nat := 0
  failures : Nat := 0
  hello : TrunkHello := {}
  initiator : Bool := false
  level : Nat := 0
  width : Nat := 0
  rate : Nat := 0
  nextSeq : Nat := 0
  expect : Nat := 0
  replay : List SentFlit := []
  replaying : List SentFlit := []
  replayTimer : Option Nat := none
  lastReplay : Option (Nat × Nat) := none
  replays : Nat := 0
  recoveries : Nat := 0
  nakLeft : Nat := 0
  lastNak : Option (Nat × Nat) := none
  consumed : Tab Nat := []
  limit : Tab Nat := []
  admitted : Tab Nat := []
  lastSent : Tab Nat := []
  pool : Nat := 0
  bypass : List BypassMsg := []
  bypassRun : Nat := 0
  txSent : Nat := 0
  openRx : Tab (List Byte) := []
  deriving DecidableEq, Repr

/-- Recovery, change, parking, IDE and time state of a Trunk port (R147, R229 to R241, R454): `laneBytes` counts lane data since
the last marker, `markerTx` the markers sent, `idleLeft` the IDLE flits due before a replay after recovery. `held` holds what was
received in the epoch that is not verified yet, with its SEQ, TYPE, KSET and ciphertext; `sealing` the flits of the epoch being
sent; `arrived` what was released and has not taken effect: a frame under 0, a bypass message under its type. `keys` holds the keys
by 2 × direction + key set, direction 0 from initiator to responder. -/
structure TrunkCtl where
  markerBad : Tab Nat := []
  markerCount : Tab Nat := []
  markerGood : Tab Nat := []
  markerStop : Tab Nat := []
  markerFails : Tab Nat := []
  changeSent : Option (Nat × Nat) := none
  changeSeq : Option Nat := none
  servedAfter : Option (Nat × Nat) := none
  changeFresh : Bool := false
  equalised : List Nat := []
  parkAsked : Bool := false
  parkAgreed : Bool := false
  parkExit : Bool := false
  parkRetry : Nat := 0
  levelAgreed : Option (Nat × Nat) := none
  peerLevels : Option (Nat × Nat) := none
  ide : Bool := false
  ksetTx : Bool := false
  ksetRx : Bool := false
  epochTx : Nat := 1
  epochRx : Nat := 1
  epochFlits : Nat := 0
  held : List SentFlit := []
  sealing : List SentFlit := []
  arrived : List (Nat × List Byte) := []
  keys : Tab (List Byte) := []
  keying : Bool := false
  session : Nat := 0
  derived : Nat := 0
  laneBytes : Nat := 0
  markerTx : Nat := 0
  idleLeft : Nat := 0
  goAt : Option Nat := none
  parkIdle : Bool := false
  lastTx : Option Nat := none
  peerTx : Option Nat := none
  peerRxAt : Option Nat := none
  keyUpdating : Bool := false
  deriving DecidableEq, Repr

/-- A request sent on a port and not yet answered (R280, R288, R410). -/
structure OpenRequest where
  tag : Nat
  tenant : Nat
  fmt : Nat
  kind : FrameKind
  from_ : Nat
  reqId : Nat
  vppb : Option Nat
  addr : Nat
  fromLd : Nat := 0
  toLd : Option Nat := none
  deriving DecidableEq, Repr

/-- What stands against a port (R105, R595). -/
structure Containment where
  slot : Bool := false
  dpc : List Nat := []
  replay : Option Nat := none
  ctl : Bool := false
  deriving DecidableEq, Repr

/-- One port besides its object fields; `credit` is the link credit that the partner holds for each class, in wagons (R252, R276);
`unacked` counts the flits that the replay buffer holds for a standard link (R198), and `ppb` is the configuration space of its physical PPB, by the bytes that differ from their
after-reset values: the registers are those of PCI Express, and no command of the table writes them (R105, R160, R190, R273, R278, R425, R428, R558, R595). -/
structure PortState where
  info : Option LinkInfo := none
  role : Role := .downstream
  contained : Containment := {}
  perstHold : Bool := false
  ppb : Mem := []
  ctlDisabled : Bool := false
  hotResetUntil : Nat := 0
  flushing : Bool := false
  partnerFound : Bool := false
  band5 : Bool := false
  streams : Tab IdeStream := []
  ideJob : Option (Nat × Nat × Nat) := none
  dlCount : Tab Nat := []
  trunk : Trunk := {}
  ctl : TrunkCtl := {}
  deficit : Tab Nat := []
  lastServed : Nat := 7
  bypassRun : Nat := 0
  sending : Option Nat := none
  opens : List OpenRequest := []
  closed : List OpenRequest := []
  loanBlocks : Nat := 0
  loanIdle : List Nat := []
  credit : Tab Nat := []
  creditUsed : Nat := 0
  owed : Tab Nat := []
  upAt : Nat := 0
  unacked : Nat := 0
  deriving DecidableEq, Repr

/-! ### What leaves the device -/

/-- The message a snoop goes out as (R342): a BISnp to a host, an H2D snoop to a CXL.cache device, C_SNP to a peer. -/
inductive SnoopForm
  | biSnpInv | biSnpData | biSnpCur
  | snpInv | snpData | snpCur
  | cSnp
  deriving DecidableEq, Repr

/-- What the device sends: replies, answers, snoops, memory requests, messages and pin changes that no register of the
device holds. The outbox is the model's own record, oldest first; nothing reads it. -/
inductive Msg
  | reply (to_ : ReplyTo) (bytes : List Byte)
  | response (src : RequestSource) (status : Nat) (bytes : List Byte)
  | mailboxInterrupt (background : Bool)
  | msi (tenant port : Nat) (addr data : Nat)
  | answer (port tag : Nat) (status : Nat) (poison : Bool)
  | completion (port tag : Nat) (status : CplStatus) (data : List Byte)
  | send (port : Nat) (f : FrameIn)
  | configSent (port : Nat) (write : Bool) (reg be data : Nat)
  | configData (vcs : Nat) (value : Nat)
  | tunnel (port target : Nat) (pbr : Bool) (request : List Byte)
  | hotReset (port : Nat)
  | snoop (agent line : Nat) (kind : Nat) (form : SnoopForm)
  | grant (port : Nat) (agent : Option Nat) (line : Nat) (state : Nat) (data : Option LineData) (poison : Bool) (devLoad : Nat)
  | written (port : Nat) (line : Nat)
  | atomicResult (port : Nat) (line : Nat) (old : Nat) (poison : Bool)
  | farAtomicResponse (port : Nat) (payload : List Byte)
  | memRead (port line : Nat)
  | memWrite (port line : Nat) (data : LineData) (mask : BitVec 64) (poison : Bool)
  | memAtomic (port line : Nat) (op : AtomicOp)
  | biAck (agent line : Nat)
  | evictDone (agent line : Nat)
  | helloSent (port : Nat) (lanes : List (List Byte))
  | marker (port : Nat) (lanes : List (List Byte))
  | flit (port : Nat) (f : TrunkFlit)
  | wire (port : Nat) (lanes : List (List Nat))
  | alternateProtocols (port : Nat) (entries : List Nat)
  | idle (port : Nat)
  | ptmRequest (port : Nat)
  | ptmReply (port time : Nat)
  | aer (vcs : Nat) (fatal : Bool) (status : Nat)
  | hotPlug (vcs vppb : Nat)
  | busTransfer (bus target reg count : Nat) (write : Bool) (data : List Byte) (proto regBytes speed : Nat)
  | waysideFrame (dst type : Nat) (payload : List Byte)
  | spdm (to_ : SpdmEnd) (code : Nat) (bytes : List Byte)
  | mctp (to_ : Endpoint) (command : Nat) (bytes : List Byte)
  | ideMessage (port : Nat) (op : Nat)
  | doe (vcs : Nat) (bytes : List Byte)
  | debugReply (value : Nat) (error : Bool)
  | busTargetReset
  | imageAction (cls idx sub value : Nat)
  | injected (station mask : Nat) (n : Nat)
  deriving DecidableEq, Repr

/-! ### The switch core -/

/-- A frame inside the device (R255, R256, R258). `spread` and `delivered` count its wagons, `own`
marks a frame the device made itself, for which no partner spent credit, and `answered` one whose requester has its answer
already (R410). -/
structure Frame where
  inp : FrameIn
  len : Nat
  wagons : Nat
  cls : Nat
  cache : Nat
  order : Nat
  pin : Bool
  key : Nat
  tenant : Nat
  dport : Nat
  arrival : Nat
  acct : Nat
  drop : Bool
  copy : Bool
  poison : Bool
  abort : Bool
  spread : Nat
  delivered : Nat
  own : Bool := false
  answered : Bool := false
  fabric : Option (BitVec 12 × BitVec 12) := none
  toLd : Option Nat := none
  deriving DecidableEq, Repr

/-- A wagon: its frame, its index in the frame, its ABORT tag, and the siding written at spreading (R258). -/
structure Wagon where
  frame : Nat
  idx : Nat
  abort : Bool
  sid : Nat := 0
  deriving DecidableEq, Repr

/-- The Turntable and the Granary (R242 to R290). `windowAt`, `windowRounds` and `windowS` are the tick, the round count and the
participating sidings at the start of the current window (R251). -/
structure Switch where
  running : Bool := false
  rounds : Nat := 0
  frames : Tab Frame := []
  nextFrame : Nat := 1
  adm : Tab (List Nat) := []
  spray : Tab (List Nat) := []
  inQ : Tab (List Wagon) := []
  sidQ : Tab (List Wagon) := []
  outQ : Tab (List Nat) := []
  gated : List Nat := []
  gating : List Nat := []
  remapTo : List Nat := []
  remapping : Bool := false
  recentM : List (Nat × Nat) := []
  sagThrottle : Bool := false
  windowSags : Bool := false
  lostFrames : Nat := 0
  quotaHold : List Nat := []
  lowSince : Option Nat := none
  loanFailed : Bool := false
  windowAt : Nat := 0
  windowRounds : Nat := 0
  windowS : Nat := 0
  bypass : Tab (List (Nat × Msg)) := []
  deriving DecidableEq, Repr

/-- A vPPB besides its object fields (R291, R292, R304 to R309, R596, R599). -/
structure VppbState where
  presence : Bool := false
  linkActive : Bool := false
  presenceChanged : Bool := false
  linkChanged : Bool := false
  attentionPressed : Bool := false
  powerOff : Bool := true
  auto : Bool := false
  managedRemoval : Bool := false
  attention : Nat := 0
  power : Nat := 0
  secondary : Nat := 0
  subordinate : Nat := 0
  memBase : Nat := 0
  memLimit : Nat := 0
  dpcEnabled : Bool := false
  dpcCompletion : Bool := false
  dpcStatus : Bool := false
  dpcReason : Nat := 0
  aerStatus : Nat := 0
  aerMask : Nat := 0
  aerSeverity : Nat := 0
  aerHeader : List Byte := []
  correctable : Nat := 0
  deriving DecidableEq, Repr

/-- An HDM decoder of a virtual switch (R292). -/
structure HdmDecoder where
  base : Nat := 0
  size : Nat := 0
  granularity : Nat := 256
  targets : List Nat := []
  deriving DecidableEq, Repr

/-- What a host programs into a virtual switch (R292, R298). -/
structure VcsState where
  hdm : Tab HdmDecoder := []
  fast : Tab (Nat × Nat × Nat) := []
  idt : Tab Nat := []
  uspAer : Nat := 0
  uspCorrectable : Nat := 0
  deriving DecidableEq, Repr

/-! ### The Junction -/

/-- A near-side Junction request (R316, R319). -/
structure NearRequest where
  window : Nat
  port : Nat
  host : Nat
  reqId : Nat
  hostTag : Nat
  cls : Nat
  tenant : Nat
  lanes : Nat
  elem : Nat
  sentAt : Nat
  deriving DecidableEq, Repr

/-- A far-side Junction request (R318). -/
structure FarRequest where
  port : Nat
  window : Nat
  nearTag : Nat
  takenAt : Nat
  deriving DecidableEq, Repr

/-- A service-bus access of a window: its remaining transfers, as register offset and byte count, and the bytes read
so far (R321 to R324). -/
structure BusAccess where
  window : Nat
  write : Bool
  host : Nat
  hostTag : Nat
  offset : Nat
  data : List Byte
  transfers : List (Nat × Nat)
  result : List Byte
  reissues : Nat
  yielded : Bool
  takenAt : Nat
  remote : Nat
  lanes : Nat
  elem : Nat
  ev : Nat
  owner : Nat
  deriving DecidableEq, Repr

/-- The Junction (R312 to R325). -/
structure Junction where
  near : Tab NearRequest := []
  far : Tab FarRequest := []
  bus : Tab (List BusAccess) := []
  due : List (Nat × Nat) := []
  alertSeen : Tab Nat := []
  gpiSeen : Tab Nat := []
  tagMiss : Nat := 0
  discarded : Nat := 0
  deriving DecidableEq, Repr

/-! ### The coherent pool agent -/

/-- STATE of a directory entry (R332). -/
inductive DirState
  | invalid | shared | exclusive
  deriving DecidableEq, Repr

/-- A directory entry (R332, R333): precise pointers, or the coarse vector of groups. -/
structure DirEntry where
  state : DirState := .invalid
  coarse : Bool := false
  remote : Bool := false
  ptrs : List Nat := []
  groups : List Nat := []
  tenant : Nat := 0
  home : Option Nat := none
  used : Nat := 0
  deriving DecidableEq, Repr

/-- A Loft line (R348, R593, R594). -/
structure LoftLine where
  data : LineData
  dirty : Bool
  poison : Bool
  held : Bool
  remote : Bool
  tenant : Nat
  home : Option Nat
  used : Nat
  deriving DecidableEq, Repr

/-- A request at a slice, with what it brings (R341): `peerTxn` is the transaction of the peer that sent it (R356), and
`home` the port that serves its line, found when its station routed it. -/
structure SliceRequest where
  kind : CohKind
  port : Nat
  agent : Option Nat
  tenant : Nat
  home : Option Nat
  write : Option WriteData
  atomic : Option AtomicOp
  keepShared : Bool
  peerTxn : Option Nat
  arrived : Nat
  waited : Bool
  far : Option (Nat × Nat) := none
  deriving DecidableEq, Repr

/-- A shared-coherent request that its home station has handed to the ring, on its way to its slice (R25, R341): `mem` marks one of
CXL.mem, `op` is the operation of an atomic, and `far` the tag and transaction number of a far-atomic message (R357). -/
structure RingRequest where
  kind : CohKind
  line : Nat
  port : Nat
  id : Option Nat
  tenant : Nat
  data : List Byte
  mem : Bool := false
  op : Option Nat := none
  far : Option (Nat × Nat) := none
  deriving DecidableEq, Repr

/-- What a transaction holding a line is for: a request, freeing a directory entry for the line that waits (R335), a
recall by COHERENT_FLUSH (R367), a snoop from the home (R354), or a prefetch for a peer (R355). -/
inductive Work
  | request (r : SliceRequest)
  | victim (waiter : Nat)
  | recall
  | peerSnoop (port txn op : Nat)
  | prefetch (port tenant home : Nat)
  deriving DecidableEq, Repr

/-- What a transaction on a line waits for (R335, R343, R345, R348, R353, R359, R360). -/
inductive Waiting
  | victim
  | snoops
  | memory
  | home (txn : Nat)
  | way (line : Nat)
  | writeback
  | completion
  | handoff
  deriving DecidableEq, Repr

/-- Data a transaction has gathered: the line, its poison, and whether a holder returned it (R345). -/
structure Gathered where
  data : LineData
  poison : Bool
  holder : Bool
  deriving DecidableEq, Repr

/-- A transaction holding the line lock, with the requests waiting behind it (R343): `asked` is the Trunk port of the home or the
peer whose answer it waits for, and `late` the answer that came while a home's snoop had set it aside, as C_RSP operation, old value
and data (R354). -/
structure Transaction where
  work : Work
  wait : Waiting
  snooped : List Nat := []
  snoopKind : Nat := 0
  gathered : Option Gathered := none
  failed : Bool := false
  keepers : List Nat := []
  snoopAt : Nat := 0
  near : Bool := true
  lockedAt : Nat := 0
  readAt : Nat := 0
  devLoad : Nat := 0
  queue : List SliceRequest := []
  asked : Option Nat := none
  late : Option (Nat × Nat × Option (LineData × Bool)) := none
  deriving DecidableEq, Repr

/-- A dead-agent record (R365). -/
structure DeadRecord where
  tick : Nat
  line : Nat
  agent : Nat
  tenant : Nat
  reason : Nat
  action : Nat
  slice : Nat
  epoch : Nat
  seq : Nat
  deriving DecidableEq, Repr

/-- An agent besides its object fields (R329, R361, R364). -/
structure AgentState where
  scanning : Bool := false
  reason : Nat := 0
  staged : Option (Nat × Nat × Nat × Nat) := none
  deriving DecidableEq, Repr

/-- A memory write a slice has open (R340, R348, R360, R363, R593). -/
inductive MemWrite
  | writeback
  | poisoned (agent reason tenant tick : Nat)
  | farAtomic
  | held
  deriving DecidableEq, Repr

/-- A memory request of a slice: the port of the memory device, the line, and whether it writes (R340). -/
structure MemAsk where
  port : Nat
  line : Nat
  write : Bool
  deriving DecidableEq, Repr

/-- The coherent pool agent (R326 to R373). `memOpen` are the memory requests that hold an entry at their home station, and
`memWaiting` those that wait for one, with their messages (R340). -/
structure Coherence where
  dir : Tab DirEntry := []
  loft : Tab LoftLine := []
  locks : Tab Transaction := []
  suspended : Tab Transaction := []
  reqBuffers : List (Nat × SliceRequest) := []
  consumed : List (Nat × Nat) := []
  writes : Tab MemWrite := []
  predictor : Tab Nat := []
  agents : Tab AgentState := []
  deadlog : List DeadRecord := []
  deadSeq : Nat := 0
  deadLost : Nat := 0
  flushes : Tab (Nat × Nat) := []
  untracked : Bool := false
  goingOff : Bool := false
  samples : Tab (List Nat) := []
  stray : Nat := 0
  coarseEvict : Nat := 0
  nextTxn : Nat := 1
  ring : List RingRequest := []
  memOpen : List MemAsk := []
  memWaiting : List (MemAsk × Msg) := []
  biConflicts : List (Nat × Nat) := []
  evictAcks : List (Nat × Nat) := []
  clock : Nat := 0
  deriving DecidableEq, Repr

/-! ### Tenants, scheduling, time -/

/-- The step a tenant reset has reached (R410). -/
inductive ResetStep
  | none | requests | wagons
  deriving DecidableEq, Repr

/-- What the device keeps of a tenant: a reset in progress (R410), the Gleaner's bitmap entries, pending records and pass (R404 to
R407), and the resident task's settings (R461). `emptying` says that the shaper empties at the next round boundary, and
`passFrom` is the number of the first frame that the pass's boundary did not precede. -/
structure TenantState where
  reset : ResetStep := .none
  resetAt : Nat := 0
  doneVector : Nat := 0x2000
  resetRejects : Nat := 0
  suppressed : Nat := 0
  bitmap : Tab Nat := []
  pendingRecords : List Nat := []
  recordDue : Nat := 0
  passAt : Option Nat := none
  passFrom : Nat := 0
  emptying : Bool := false
  adapt : Bool := false
  ceiling : Nat := 0
  floor : Nat := 0
  ports : Nat := 0
  deriving DecidableEq, Repr

/-- A shaper's settings that take effect at the next refill (R433), and whether TOKENS is stored. -/
structure ShaperState where
  pendingRate : Option Nat := none
  pendingBurst : Option Nat := none
  tokens : Option Int := none
  deriving DecidableEq, Repr

/-- A timetable in progress (R436, R438). -/
structure TimetableState where
  entry : Nat := 0
  entryEnd : Nat := 0
  activeLength : Nat := 0
  openAt : Tab Nat := []
  deriving DecidableEq, Repr

/-- Scheduling and time (R431 to R461). -/
structure Qos where
  tshapers : Tab ShaperState := []
  cshapers : Tab ShaperState := []
  timetables : Tab TimetableState := []
  lastMeasure : Nat := 0
  goodOffsets : Nat := 0
  refclkA : Bool := true
  refclkB : Bool := true
  singleClock : Option Bool := none
  refillAt : Nat := 0
  syncAt : Nat := 0
  devloadAt : Nat := 0
  adjustAt : Nat := 0
  missedRaises : Nat := 0
  deriving DecidableEq, Repr

/-! ### Slots -/

/-- The analogue thresholds in force for a slot (R484). -/
structure SlotLimits where
  ilim : Nat
  plim : Nat
  blank : Nat
  shortT : Nat
  tempTrip : Nat
  deriving DecidableEq, Repr

/-- One slot besides its object fields (R462 to R494). Ticks are FTB ticks. -/
structure SlotState where
  gate : Bool := false
  pcgate : Bool := false
  pfwN : Bool := false
  pgood : Bool := false
  perstN : Bool := false
  limits : Option SlotLimits := none
  limitsDue : Bool := false
  since : Nat := 0
  pcDeadline : Nat := 0
  rampDeadline : Nat := 0
  leadEnd : Nat := 0
  downCause : Nat := 0
  retryAt : Nat := 0
  retryPassed : Bool := false
  absence : Option Nat := none
  perstAt : Option Nat := none
  vinWarned : Bool := false
  vinBad : Bool := false
  tripLatched : Bool := false
  samples : List (Nat × Nat × Nat) := []
  energyFrac : Nat := 0
  deriving DecidableEq, Repr

/-! ### Power, rails, errors -/

/-- The power state the device is in, with the step of an entry or a wake (R499, R508, R513, R526). -/
inductive PowerStep
  | run
  | entry (target step : Nat)
  | asleep (state : Nat)
  | wake (from_ step : Nat)
  | wakeFailed (from_ : Nat)
  | sagHold
  deriving DecidableEq, Repr

/-- The order frame that the AON keeps for the MC, with its source address and the tick it came at (R93, R521). -/
structure KeptOrder where
  src : Nat
  arrived : Nat
  frame : List Byte
  deriving DecidableEq, Repr

/-- A Wayside frame that waits for the wires (R517 to R519): destination, TYPE and payload. -/
structure WaysideOut where
  dst : Nat
  type : Nat
  payload : List Byte
  deriving DecidableEq, Repr

/-- Power, supplies and the Wayside (R499 to R530). `vrEn` lists the VR_EN outputs that are high: 0 VDD_CORE, 1 VDD_SRAM, 2 VDD_SD,
3 VDD_SDH; a chip-level wake starts with the first two (R514). `entryAt` is the tick at which step 3 of an entry stopped admission
(R508). `warmAsked` stands from the commit of a RESET of TYPE 1 to its step 2, while
running orders end (R608). -/
structure Power where
  step : PowerStep := .wake 4 0
  priorPstate : Nat := 0
  wakeLatched : Bool := false
  vrEn : List Nat := [0, 1]
  entryAt : Nat := 0
  wakeFailures : Nat := 0
  retryAt : Nat := 0
  ignoreWake : Bool := false
  sagWarnN : Bool := true
  waysideOrder : Option KeptOrder := none
  waysideOut : List WaysideOut := []
  waysideDiscarded : Nat := 0
  waysideReplies : List (Nat × List Byte) := []
  powering : Tab Nat := []
  vcoreOld : Option (Nat × Nat) := none
  avsAt : Nat := 0
  haltAfterFatal : Bool := false
  fatalAt : Option Nat := none
  fatalIsMc : Bool := false
  warmAsked : Bool := false
  deriving DecidableEq, Repr

/-- An open window of contained errors (R604). -/
structure ErrorWindow where
  code : Nat
  place : Nat
  opened : Nat
  count : Nat
  addr : Nat
  tenant : Nat
  unit : Nat
  kind : Nat
  detail : List Nat
  deriving DecidableEq, Repr

/-- Error accounting (R587 to R605). The lists `badObjects`, `badDir`, `badLoft`, `badTags` and `badLever` name the words of
on-die memory that hold an uncorrectable error nothing has read yet (R589); a word of Lever memory is named by its core, or 16
for shared memory, and its number in the core's map, `badLedger` the words of the Ledger that hold one (R555), and `badGranary` the frames whose wagons do. `broken` names
the objects found broken (R592). -/
structure Errors where
  windows : List ErrorWindow := []
  corrected : List ErrorWindow := []
  broken : List (Nat × Nat × Nat) := []
  badObjects : List (Nat × Nat × Nat) := []
  badDir : List Nat := []
  badLoft : List Nat := []
  badTags : List (Nat × Nat) := []
  badLever : List (Nat × Nat) := []
  badLedger : List Nat := []
  badGranary : List Nat := []
  singles : List (Nat × Nat) := []
  badLoftTags : List (Nat × Nat) := []
  badTracker : List Nat := []
  deriving DecidableEq, Repr

/-! ### The whole state -/

/-- The state of the block. -/
structure State where
  otp : Otp
  strapPins : Straps
  straps : Straps
  ftb : Nat
  obj : Tab Nat
  gen : Tab Nat
  alloc : List Nat
  lev : Lever
  ord : Orders
  boot : Boot
  ledger : Ledger
  sec : Security
  stations : Tab StationState
  lanes : Tab Lane
  ports : Tab PortState
  sw : Switch
  vppbs : Tab VppbState
  vcss : Tab VcsState
  junction : Junction
  coh : Coherence
  tenants : Tab TenantState
  qos : Qos
  slots : Tab SlotState
  power : Power
  errors : Errors
  alarms : List Nat
  pool : Mem
  freeCount : Nat
  outbox : List Msg
  pending : List Instr
  deriving DecidableEq, Repr

/-- The reasons for a fault. -/
inductive Fault
  /-- No command of this block raises it: a command acts, changes nothing, or is refused by name. Safe. -/
  | none
  deriving DecidableEq, Repr

/-- The reasons for a refusal. -/
inductive Refusal
  /-- The dispatcher, for a command that has no meaning yet. Safe: the model stops where the device goes on. -/
  | notModelled (mnemonic : String)
  deriving DecidableEq, Repr

/-- The straps after reset: every strap pin low (R531, R623: each strap has an internal pull-down). -/
def Straps.reset : Straps := ⟨0, false, 0, 0, 0⟩

/-- The machine right after a cold reset: nothing listed anywhere, the FTB and the round count 0 (R245, R451), the
power switches of the chip-level wake not yet closed (R513), and the boot ROM not yet started (R541). -/
def State.reset : State where
  otp := {}
  strapPins := Straps.reset
  straps := Straps.reset
  ftb := 0
  obj := []
  gen := []
  alloc := []
  lev := {}
  ord := {}
  boot := {}
  ledger := {}
  sec := {}
  stations := []
  lanes := []
  ports := []
  sw := {}
  vppbs := []
  vcss := []
  junction := {}
  coh := {}
  tenants := []
  qos := {}
  slots := []
  power := {}
  errors := {}
  alarms := []
  pool := []
  freeCount := 0
  outbox := []
  pending := []

end Sys2Proof.Machine
end

