-- ==== Sys2Proof/Machine/Ops.lean ====
section
/-! DEFINITION. The named operations every meaning is written with: bytes and memory, the object store, the resources
of the part, the outbox, free values, event vectors and counters. -/

namespace Sys2Proof.Machine

/-! ### Bytes (R8: multi-byte values are little-endian) -/

/-- The value of little-endian bytes. -/
def ofLE : List Byte → Nat
  | [] => 0
  | b :: t => b.toNat + 256 * ofLE t

/-- The low `n` bytes of a value, least significant first. -/
def toLE : Nat → Nat → List Byte
  | 0, _ => []
  | n + 1, v => BitVec.ofNat 8 v :: toLE n (v / 256)

/-- `n` bytes of a block from an offset, as a number; bytes the block lacks read as zero (R85). -/
def fieldAt (l : List Byte) (off n : Nat) : Nat := ofLE ((l.drop off).take n)

/-- Whether every byte of a range of a block is zero. -/
def zeroAt (l : List Byte) (off n : Nat) : Bool := ((l.drop off).take n).all (fun b => b == 0)

/-- The bit `i` of a number. -/
def bitOf (v i : Nat) : Bool := v / 2 ^ i % 2 == 1

/-- The bits from `lo` on, `n` of them, of a number. -/
def bitsOf (v lo n : Nat) : Nat := v / 2 ^ lo % 2 ^ n

/-- A number clamped to a width, as a saturating field holds it. -/
def saturate (width v : Nat) : Nat := if v < 2 ^ width then v else 2 ^ width - 1

/-! ### Memory -/

/-- The byte at an address. -/
def memByte (m : Mem) (a : Nat) : Byte := Tab.get 0 m a

/-- Put one byte, keeping the canonical form: a zero byte is not listed. -/
def memPut (m : Mem) (a : Nat) (b : Byte) : Mem := if b = 0 then Tab.drop m a else Tab.set m a b

/-- `n` bytes from an address. -/
def memBytes (m : Mem) : Nat → Nat → List Byte
  | _, 0 => []
  | a, n + 1 => memByte m a :: memBytes m (a + 1) n

/-- Put bytes from an address on. -/
def memPutBytes (m : Mem) : Nat → List Byte → Mem
  | _, [] => m
  | a, b :: t => memPutBytes (memPut m a b) (a + 1) t

/-- `n` bytes from an address, as a number. -/
def memNat (m : Mem) (a n : Nat) : Nat := ofLE (memBytes m a n)

/-- Put the low `n` bytes of a value at an address. -/
def memPutNat (m : Mem) (a n v : Nat) : Mem := memPutBytes m a (toLE n v)

/-! ### Parts of the state -/

/-- A core. -/
def State.core (s : State) (c : Nat) : CoreState := Tab.get {} s.lev.cores c

/-- Change a core. -/
def State.modCore (s : State) (c : Nat) (f : CoreState → CoreState) : State :=
  { s with lev := { s.lev with cores := Tab.modify {} s.lev.cores c f } }

/-- A port besides its object fields. -/
def State.port (s : State) (p : Nat) : PortState := Tab.get {} s.ports p

/-- Change a port. -/
def State.modPort (s : State) (p : Nat) (f : PortState → PortState) : State :=
  { s with ports := Tab.modify {} s.ports p f }

/-- A station besides its object fields. -/
def State.station (s : State) (n : Nat) : StationState := Tab.get {} s.stations n

/-- Change a station. -/
def State.modStation (s : State) (n : Nat) (f : StationState → StationState) : State :=
  { s with stations := Tab.modify {} s.stations n f }

/-- A lane, by 8 × station + lane. -/
def State.lane (s : State) (l : Nat) : Lane := Tab.get {} s.lanes l

/-- Change a lane. -/
def State.modLane (s : State) (l : Nat) (f : Lane → Lane) : State :=
  { s with lanes := Tab.modify {} s.lanes l f }

/-- The key of vPPB `b` of virtual switch `v`. -/
def vppbKey (v b : Nat) : Nat := v * 256 + b

/-- A vPPB besides its object fields. -/
def State.vppb (s : State) (v b : Nat) : VppbState := Tab.get {} s.vppbs (vppbKey v b)

/-- Change a vPPB. -/
def State.modVppb (s : State) (v b : Nat) (f : VppbState → VppbState) : State :=
  { s with vppbs := Tab.modify {} s.vppbs (vppbKey v b) f }

/-- What the host programmed into a virtual switch. -/
def State.vcs (s : State) (v : Nat) : VcsState := Tab.get {} s.vcss v

/-- Change a virtual switch. -/
def State.modVcs (s : State) (v : Nat) (f : VcsState → VcsState) : State :=
  { s with vcss := Tab.modify {} s.vcss v f }

/-- A tenant besides its object fields. -/
def State.tenant (s : State) (t : Nat) : TenantState := Tab.get {} s.tenants t

/-- Change a tenant. -/
def State.modTenant (s : State) (t : Nat) (f : TenantState → TenantState) : State :=
  { s with tenants := Tab.modify {} s.tenants t f }

/-- The window of a tenant. -/
def State.window (s : State) (t : Nat) : TenantWindow := Tab.get {} s.ord.windows t

/-- Change the window of a tenant. -/
def State.modWindow (s : State) (t : Nat) (f : TenantWindow → TenantWindow) : State :=
  { s with ord := { s.ord with windows := Tab.modify {} s.ord.windows t f } }

/-- A slot besides its object fields. -/
def State.slot (s : State) (n : Nat) : SlotState := Tab.get {} s.slots n

/-- Change a slot. -/
def State.modSlot (s : State) (n : Nat) (f : SlotState → SlotState) : State :=
  { s with slots := Tab.modify {} s.slots n f }

/-- A free value: one the specification leaves open. Each draw counts on, so that no two draws are tied together. -/
def State.free (s : State) : Nat := Config.freeNat s.freeCount

/-- The state after a free value is drawn. -/
def State.drawn (s : State) : State := { s with freeCount := s.freeCount + 1 }

/-! ### The resources of the part -/

/-- How many stations are present (R1, R2). -/
def State.stationCount (s : State) : Nat := if s.otp.partH then 32 else 64

/-- The nominal voltage of a rail in mV (R619), the setpoint of every rail but VDD_CORE (R524). -/
def railNominal (r : Nat) : Nat :=
  match r with
  | 0 => 750 | 1 => 800 | 2 => 900 | 3 => 1200 | 4 => 1800 | _ => 800

/-- The OTP current ceiling; a blank part reads 500 (R466). -/
def State.ilimCeil (s : State) : Nat := if s.otp.ilimCeil = 0 then 500 else s.otp.ilimCeil

/-- The OTP power ceiling; a blank part reads 5 (R466). -/
def State.plimCeil (s : State) : Nat := if s.otp.plimCeil = 0 then 5 else s.otp.plimCeil

/-- The OTP temperature ceiling; a blank part reads 80 (R466). -/
def State.tempCeil (s : State) : Nat := if s.otp.tempCeil = 0 then 80 else s.otp.tempCeil

/-- The OTP adaptive-voltage floor in mV; a blank part reads 700 (R538). -/
def State.vfloor (s : State) : Nat := if s.otp.vfloor = 0 then 700 else s.otp.vfloor

/-- The OTP shunt resistance; a blank part uses 50,000 (R466). -/
def State.rsense (s : State) : Nat := if s.otp.rsense = 0 then 50000 else s.otp.rsense

/-- The after-reset value of an object field, where it depends on the object or on OTP (R2, R57, R427, R466). -/
def State.resetValue (s : State) (f : Fld) (idx : Nat) (sub : Nat) : Nat :=
  match f with
  | .tenantState => if idx = 0 then 1 else 0
  | .slotIlim => min 2000 s.ilimCeil
  | .slotPlim => min 25 s.plimCeil
  | .slotTempTrip => s.tempCeil
  | .cshaperWeight => if sub < 6 then 16 else 1
  | .domainState => if s.otp.partH && decide (43 ≤ idx) then 0 else 1
  | .slotTfet => s.otp.tAmb
  | f => f.info.reset

/-- The value a field of an object holds in the store. -/
def State.get (s : State) (f : Fld) (idx : Nat) (sub : Nat := 0) : Nat :=
  Tab.get (s.resetValue f idx sub) s.obj (objKey f.info.cls f.info.id idx sub)

/-- Put a value in a field of an object, cut to the field's width. -/
def State.put (s : State) (f : Fld) (idx sub v : Nat) : State :=
  { s with obj := Tab.set s.obj (objKey f.info.cls f.info.id idx sub) (v % 2 ^ f.info.width) }

/-- Put a field of an object back to its after-reset value. -/
def State.unput (s : State) (f : Fld) (idx sub : Nat) : State :=
  { s with obj := Tab.drop s.obj (objKey f.info.cls f.info.id idx sub) }

/-- Whether a commit has written the field since it was reset. -/
def State.isPut (s : State) (f : Fld) (idx sub : Nat) : Bool :=
  (Tab.find s.obj (objKey f.info.cls f.info.id idx sub)).isSome

/-- The station whose link layer a port is on (R17). -/
def portStation (p : Nat) : Nat := p / 2

/-- Whether a port is present on the part (R1, R2). -/
def State.portPresent (s : State) (p : Nat) : Bool := p < 2 * s.stationCount

/-- Whether the present bifurcation uses a port number (R17, R19). -/
def State.portUsed (s : State) (p : Nat) : Bool :=
  match s.get .stationBifurc (portStation p) 0 with
  | 0 => p % 2 == 0
  | 1 => true
  | _ => p % 4 == 0

/-- A present, non-vacant port. -/
def State.portOk (s : State) (p : Nat) : Bool := s.portPresent p && s.portUsed p

/-- The lanes of a port: its first lane and how many (R17). -/
def State.portLanes (s : State) (p : Nat) : Nat × Nat :=
  match s.get .stationBifurc (portStation p) 0 with
  | 0 => (8 * portStation p, 8)
  | 1 => (4 * p, 4)
  | _ => (4 * p, 16)

/-- The stations whose lanes a port uses (R17). -/
def State.portStations (s : State) (p : Nat) : List Nat :=
  if s.get .stationBifurc (portStation p) 0 == 2 then [portStation p, portStation p + 1] else [portStation p]

/-- The ports a station's link layers hold, the vacant ones left out (R17, R19). An x16 port is a port of both its
stations. -/
def State.stationPorts (s : State) (n : Nat) : List Nat :=
  match s.get .stationBifurc n 0 with
  | 0 => [2 * n]
  | 1 => [2 * n, 2 * n + 1]
  | _ => [4 * (n / 2)]

/-- The physical ports of the part, the vacant ones left out. -/
def State.livePorts (s : State) : List Nat := (List.range 128).filter s.portOk

/-- The resource an object stands for is present and not vacant (R2, R19, R447, R564). -/
def State.resourceOk (s : State) (cls idx : Nat) : Bool :=
  if cls == clsPort || cls == clsCShaper || cls == clsTimetable || cls == clsTtEntry || cls == clsQueue then s.portOk idx
  else if cls == clsStation || cls == clsChecker then idx < s.stationCount
  else if cls == clsUnitctr || cls == clsUnitset then idx < s.stationCount || 64 ≤ idx
  else if cls == clsNear then idx == 128 || s.portOk idx
  else true

/-- Whether a class, an index and a sub-index name an object of the part (R55, R58). -/
def State.objectInRange (s : State) (cls idx sub : Nat) : Bool :=
  match classIndexes cls with
  | none => false
  | some n => idx < n && sub < classSubs cls && s.resourceOk cls idx

/-- Whether a pool object is allocated. -/
def State.allocated (s : State) (cls idx : Nat) : Bool := s.alloc.contains (poolKey cls idx)

/-- The indexes of the allocated objects of a pool class. -/
def State.poolObjects (s : State) (cls : Nat) : List Nat :=
  (s.alloc.filter (fun k => k / 65536 == cls)).map (fun k => k % 65536)

/-- The generation of an object (R61). -/
def State.generation (s : State) (cls idx sub : Nat) : Nat := Tab.get 0 s.gen (genKey cls idx sub)

/-- The object's generation changes (R61). -/
def State.bump (s : State) (cls idx sub : Nat) : State :=
  { s with gen := Tab.set s.gen (genKey cls idx sub) (s.generation cls idx sub + 1) }

/-- The device itself puts a value in a CO field: where that changes the field, the generation changes with it (R61). -/
def State.devicePut (s : State) (f : Fld) (idx sub v : Nat) : State :=
  if s.get f idx sub = v % 2 ^ f.info.width then s.put f idx sub v else (s.put f idx sub v).bump f.info.cls idx sub

/-- The rules a tenant owns (R57, RULES_USED). -/
def State.rulesOf (s : State) (t : Nat) : List Nat :=
  (s.poolObjects clsRule).filter (fun i => s.get .ruleOwner i == t)

/-- The event vectors a tenant owns. -/
def State.eventsOf (s : State) (t : Nat) : List Nat :=
  (s.poolObjects clsEvent).filter (fun i => s.get .eventOwner i == t)

/-- The counters a tenant owns. -/
def State.countersOf (s : State) (t : Nat) : List Nat :=
  (s.poolObjects clsCounter).filter (fun i => s.get .counterOwner i == t)

/-- Lines of a tenant that the directory tracks (R57, TRACKED). -/
def State.trackedOf (s : State) (t : Nat) : Nat :=
  (s.coh.dir.filter (fun e => e.2.state != .invalid && e.2.tenant == t)).length

/-- Whether the directory tracks any line. -/
def State.anyTracked (s : State) : Bool := s.coh.dir.any (fun e => e.2.state != .invalid)

/-- Wagons of a tenant charged to a loan or to the spare (R279, QUOTA_USED); T0 has no count. -/
def State.quotaUsed (s : State) (t : Nat) : Nat :=
  if t = 0 then 0
  else ((s.sw.frames.filter (fun e => e.2.tenant == t && decide (2 ≤ e.2.acct))).map (fun e => e.2.wagons)).sum

/-- The IDE stream slots of a port that are secure, as PORT.IDE shows them (R558). -/
def State.ideSecure (s : State) (p : Nat) : Nat :=
  ((s.port p).streams.filter (fun e => e.2.secure)).foldl (fun a e => a + 2 ^ (e.1 % 8)) 0

/-- LAT of a NEAR object that no commit has written follows the port's protocol (R351). -/
def State.nearDefault (s : State) (i : Nat) : Nat :=
  if i = 128 then 4
  else if s.portOk i = false then 0xFFFF
  else match s.get .portProto i with
    | 0 => 0xFFFF
    | 1 => 100
    | _ => 300

/-- A signed token count as its 40-bit field reads (R57). -/
def signedField (width : Nat) (v : Int) : Nat := (v % (2 ^ width : Nat)).toNat

/-- The value a field reads as: a few read-only fields follow other state of the device. -/
def State.field (s : State) (f : Fld) (idx : Nat) (sub : Nat := 0) : Nat :=
  match f with
  | .tenantRulesUsed => (s.rulesOf idx).length
  | .tenantTracked => s.trackedOf idx
  | .tenantQuotaUsed => s.quotaUsed idx
  | .portIde => s.ideSecure idx
  | .nearLat => if s.isPut .nearLat idx 0 then s.get .nearLat idx else s.nearDefault idx
  | .tshaperTokens =>
    match (Tab.get ({} : ShaperState) s.qos.tshapers idx).tokens with
    | some v => signedField 40 v
    | none => s.get .tshaperBurst idx
  | .cshaperTokens =>
    match (Tab.get ({} : ShaperState) s.qos.cshapers (idx * 8 + sub)).tokens with
    | some v => signedField 40 v
    | none => s.get .cshaperBurst idx sub
  | .slotIlimCeil => s.ilimCeil
  | .slotPlimCeil => s.plimCeil
  | .slotTempCeil => s.tempCeil
  | .slotRsense => s.rsense
  | .deviceLifecycle => s.sec.lifecycle
  | .deviceEpoch => s.ledger.epoch
  | .deviceFdi => s.otp.fdi
  | .deviceAbi => s.boot.image.abi
  | .deviceWsAddr => s.straps.ws.val
  | .deviceTokenResult => s.ledger.tokenResult
  | .deviceLoftDirty => if s.coh.loft.any (fun e => e.2.dirty) then 1 else 0
  | .railSetpt => if idx = 0 then s.get .deviceVcoreNow 0 else railNominal idx
  | .unitsetTick => s.ftb - s.get .unitsetTick idx
  | .unitsetZero => 0
  | .unitctrZero => 0
  | .counterZero => 0
  | f => s.get f idx sub

/-- Whether a power domain is on (R57, DOMAIN.STATE): a station in Siding state keeps its logic (R183), a retained core
domain does not (R502). -/
def State.domainOn (s : State) (d : Nat) : Bool :=
  if d < 11 then s.get .domainState d == 1 else s.get .domainState d != 0

/-- The power domain of a unit with counters (R564). -/
def unitDomain (u : Nat) : Nat :=
  if u < 64 then 11 + u else if u < 80 then 3 else if u < 84 then u - 75
  else if u == 84 then 9 else if u == 85 then 2 else if u == 86 then 9 else 10

/-- Whether a unit's set counts: RUN is 1 and its domain is on (R565, R566). -/
def State.unitCounts (s : State) (u : Nat) : Bool :=
  s.get .unitsetRun u == 1 && s.domainOn (unitDomain u)

/-! ### What leaves the device -/

/-- The port whose bypass channel a message joins (R423): what the device itself originates for a port. -/
def State.bypassPort (s : State) : Msg → Option Nat
  | .answer p _ _ _ => some p
  | .completion p _ _ _ => some p
  | .msi _ p _ _ => some p
  | .grant p _ _ _ _ _ _ => some p
  | .written p _ => some p
  | .atomicResult p _ _ _ => some p
  | .farAtomicResponse p _ => some p
  | .memRead p _ => some p
  | .memWrite p _ _ _ _ => some p
  | .memAtomic p _ _ => some p
  | .ptmRequest p => some p
  | .ptmReply p _ => some p
  | .snoop a _ _ _ => some (s.get .agentPort a)
  | .biAck a _ => some (s.get .agentPort a)
  | .evictDone a _ => some (s.get .agentPort a)
  | .aer v _ _ => some (s.get .vcsUsp v)
  | _ => none

/-- An answer of the device to a far-side Junction request: its tag and its status, to be wrapped back (R318). -/
def State.farAnswerOf (s : State) : Msg → Option (Nat × Nat)
  | .answer p tag st _ =>
    match Tab.find s.junction.far tag with
    | some r => if r.port = p then some (tag, st) else none
    | none => none
  | _ => none

/-- A message leaves the device: one of a PCIe or CXL port waits in the port's bypass channel until the port starts it;
anything else leaves at once. -/
def State.emit (s : State) (m : Msg) : State :=
  match s.farAnswerOf m with
  | some e => { s with junction := { s.junction with due := s.junction.due ++ [e] } }
  | none =>
  match s.bypassPort m with
  | some p =>
    if p < 128 && s.get .portProto p != 2 then
      { s with sw := { s.sw with bypass := Tab.modify [] s.sw.bypass p (· ++ [(s.ftb, m)]) } }
    else { s with outbox := s.outbox ++ [m] }
  | none => { s with outbox := s.outbox ++ [m] }

/-! ### Event vectors (R640, R641, R410 step 7, R417) -/

/-- Whether an event vector can be raised now: allocated, owned as required, not suppressed by a tenant reset. -/
def State.eventLive (s : State) (n : Nat) (owner : Option Nat) : Bool :=
  s.allocated clsEvent n &&
  (match owner with | some t => s.get .eventOwner n == t | none => true) &&
  s.get .tenantState (s.get .eventOwner n) != 2

/-- The port an event MSI of a tenant leaves on: the lowest-numbered upstream-role port of the tenant (R417). -/
def State.msiPort (s : State) (t : Nat) : Option Nat :=
  s.livePorts.find? (fun p =>
    (s.port p).role == .upstream && (s.port p).info.isSome && s.get .portTenant p == t)

/-- An enabled vector of a tenant became pending: its MSI, at most one per µs (R417). -/
def State.eventMsi (s : State) (t : Nat) : State :=
  let w := s.window t
  if w.msiEn && (match w.lastMsi with | some x => x + 1000 ≤ s.ftb | none => true) then
    match s.msiPort t with
    | some p => (s.modWindow t (fun w => { w with lastMsi := some s.ftb })).emit (.msi t p w.msiAddr.toNat w.msiData)
    | none => s
  else s

/-- Count a raise that raised nothing (R640, R641). -/
def State.missRaise (s : State) : State :=
  { s with qos := { s.qos with missedRaises := s.qos.missedRaises + 1 } }

/-- Make an event vector pending, or count the miss. A number outside the vectors names none (R641). -/
def State.raiseVector (s : State) (n : Nat) (owner : Option Nat) : State :=
  if n < 8192 then
    if s.eventLive n owner then
      if s.get .eventPending n == 1 then s
      else
        let s' := s.devicePut .eventPending n 0 1
        if s.get .eventEnable n == 1 then s'.eventMsi (s.get .eventOwner n) else s'
    else
      let t := s.get .eventOwner n
      if s.allocated clsEvent n && s.get .tenantState t == 2 then
        s.missRaise.modTenant t (fun x => { x with suppressed := x.suppressed + 1 })
      else s.missRaise
  else s

/-- Raise the vector that an object's field names, owned by T0. -/
def State.raiseT0 (s : State) (f : Fld) (idx : Nat := 0) : State := s.raiseVector (s.get f idx) (some 0)

/-! ### Counters (R567, R568, R574, R576) -/

/-- What an event brings for the filters of a counter; `none` where it does not carry the attribute. -/
structure EventAttrs where
  privBit : Option Nat := none
  tenant : Option Nat := none
  reqId : Option Nat := none
  line : Option Nat := none
  cls : Option Nat := none

/-- The filters of R568; a filter on an attribute the event does not carry passes it. -/
def EventAttrs.passes (a : EventAttrs) (fpriv freqid freqmask lo hi fclass : Nat) : Bool :=
  (match a.privBit with | some b => bitOf fpriv b | none => true) &&
  (match a.reqId with | some r => (r ^^^ freqid) &&& freqmask == 0 | none => true) &&
  (match a.line with | some l => lo ≤ l && l ≤ hi | none => true) &&
  (match a.cls with | some c => bitOf fclass c | none => true)

/-- Add `n` to a unit counter, with the wrap of R574; counting moves no generation (R575). -/
def State.addUnit (s : State) (u i n : Nat) : State :=
  let v := s.get .unitctrValue u i + n
  let s' := s.put .unitctrValue u i v
  if v < 2 ^ 48 then s'
  else (s'.put .unitctrOvf u i 1).raiseVector (s.get .unitctrOvfEv u i) (some 0)

/-- Add `n` to a tenant counter, with the wrap of R574; counting moves no generation (R575). -/
def State.addCounter (s : State) (i n : Nat) : State :=
  let v := s.get .counterValue i + n
  let s' := s.put .counterValue i 0 v
  if v < 2 ^ 48 then s'
  else (s'.put .counterOvf i 0 1).raiseVector (s.get .counterOvfEv i) (some (s.get .counterOwner i))

/-- One counter of a unit sees an event. -/
def State.unitSees (s : State) (u ev n : Nat) (a : EventAttrs) (i : Nat) : State :=
  if s.get .unitctrSelect u i == ev &&
    (match a.tenant with
      | some t => s.get .unitctrFtenant u i == t || s.get .unitctrFtenant u i == 0x1000
      | none => true) &&
    a.passes (s.get .unitctrFpriv u i) (s.get .unitctrFreqid u i) (s.get .unitctrFreqmask u i)
      (s.get .unitctrFaddrLo u i) (s.get .unitctrFaddrHi u i) (s.get .unitctrFclass u i)
  then s.addUnit u i n else s

/-- One tenant counter sees an event of its owner. -/
def State.counterSees (s : State) (ev n : Nat) (a : EventAttrs) (i : Nat) : State :=
  if s.get .counterRun i == 1 && s.get .counterSelect i % 0x1000 == ev &&
    a.passes (s.get .counterFpriv i) (s.get .counterFreqid i) (s.get .counterFreqmask i)
      (s.get .counterFaddrLo i) (s.get .counterFaddrHi i) (s.get .counterFclass i)
  then s.addCounter i n else s

/-- An event of R569 happens at a unit, adding `n`; `ev` has PORTSEL in bit 12. -/
def State.count (s : State) (u ev : Nat) (a : EventAttrs := {}) (n : Nat := 1) : State :=
  let s1 := if s.unitCounts u then (List.range 8).foldl (fun s i => s.unitSees u ev n a i) s else s
  match a.tenant with
  | some t =>
    if tenantEvents.contains (ev % 0x1000) then
      (s.countersOf t).foldl (fun s i => s.counterSees (ev % 0x1000) n a i) s1
    else s1
  | none => s1

/-- A port event counts at the port's station, with PORTSEL 1 for the odd port (R567). -/
def State.countPort (s : State) (p ev : Nat) (a : EventAttrs := {}) (n : Nat := 1) : State :=
  s.count (portStation p) (ev + 0x1000 * (p % 2)) a n

/-! ### Time -/

/-- One tick of the FTB passes: the Lever time of every core that holds an order grows with it, and a counter set that
does not count falls behind (R74, R451, R565). -/
def State.tick (s : State) : State :=
  let s1 := { s with
    ftb := s.ftb + 1
    lev := { s.lev with cores := s.lev.cores.map (fun e =>
      (e.1, if e.2.job.isSome && !e.2.resident then { e.2 with used := e.2.used + 1 } else e.2)) } }
  (List.range 88).foldl (fun t u =>
    if s.unitCounts u then t else t.put .unitsetTick u 0 (t.get .unitsetTick u + 1)) s1

end Sys2Proof.Machine
end

