-- ==== Sys2Proof/Machine/Flags.lean ====
section
/-! DEFINITION. The codes that stand where a processor has flags: order status words, Lever faults, CXL return codes,
boot and failure codes. -/

namespace Sys2Proof.Machine

/-! ### Status words (R67) -/

/-- The status codes of R67. -/
inductive Status
  | ok | busy | level | denied | interlock | late | noSpace | badArg | timeout | aborted
  deriving DecidableEq, Repr

/-- The code of a status (R67). -/
def Status.code : Status → Nat
  | .ok => 0x00
  | .busy => 0x01
  | .level => 0x02
  | .denied => 0x03
  | .interlock => 0x04
  | .late => 0x05
  | .noSpace => 0x06
  | .badArg => 0x07
  | .timeout => 0x08
  | .aborted => 0x09

/-- A status word: the code in bits [7:0] and the detail in bits [15:8] (R67). -/
def Status.word (st : Status) (detail : Nat := 0) : Nat := st.code + 256 * detail

/-- Whether a code is one of R67. -/
def statusCode (c : Nat) : Bool := c ≤ 9

/-- The status word with which fail ends an order (R73): ABORTED for OK and for a code outside R67. -/
def failStatus (w : Nat) : Nat :=
  if w % 256 = 0 || !statusCode (w % 256) then Status.aborted.word else w % 65536

/-! ### Lever faults (R71) -/

/-- The faults of R71. -/
inductive LeverFault
  | illegal | align | bounds | handle | field | range | scope | full | time | memErr | brk | staged
  deriving DecidableEq, Repr

/-- The code of a fault (R71). -/
def LeverFault.code : LeverFault → Nat
  | .illegal => 0x01
  | .align => 0x02
  | .bounds => 0x03
  | .handle => 0x04
  | .field => 0x05
  | .range => 0x06
  | .scope => 0x07
  | .full => 0x08
  | .time => 0x09
  | .memErr => 0x0A
  | .brk => 0x0B
  | .staged => 0x0C

/-- The status word a fault gives an order, its code in the detail (R71, R72). -/
def LeverFault.status (f : LeverFault) : Nat :=
  match f with
  | .range => Status.badArg.word f.code
  | .scope => Status.denied.word f.code
  | .full => Status.noSpace.word f.code
  | f => Status.aborted.word f.code

/-! ### CXL return codes -/

/-- The CXL mailbox return code of a status code (R96); the numbers are those of CXL 3.1. -/
def returnCode (status : Nat) : Nat :=
  match status % 256 with
  | 0x00 => 0x0000
  | 0x01 => 0x0006
  | 0x02 => 0x0003
  | 0x03 => 0x0003
  | 0x04 => 0x0002
  | 0x05 => 0x0002
  | 0x07 => 0x0002
  | 0x08 => 0x0005
  | _ => 0x0004

/-- Return code Background Command Started of CXL 3.1 (R99). -/
def backgroundStarted : Nat := 0x0001

/-- Return code Unsupported of CXL 3.1 (R97, R98). -/
def returnUnsupported : Nat := 0x0003

/-! ### Privileges and channels (R42) -/

/-- PRIV of FM. -/
abbrev privFM : Nat := 0
/-- PRIV of BMC. -/
abbrev privBMC : Nat := 1
/-- PRIV of TENANT. -/
abbrev privTenant : Nat := 2
/-- PRIV of INTERNAL. -/
abbrev privInternal : Nat := 3

/-- The submitter word (R42). -/
def submitterWord (priv tenant channel abi : Nat) : Word :=
  BitVec.ofNat 64 (priv % 4 + (if priv = privTenant then tenant % 4096 else 0) * 2 ^ 16 +
    channel % 16 * 2 ^ 32 + abi % 256 * 2 ^ 40)

/-! ### Link values (R191) -/

/-- Whether a PORT.LINK value is link-up: 3 to 9 (R191). -/
def linkUpValue (v : Nat) : Bool := 3 ≤ v && v ≤ 9

/-- Whether a port is link-up. -/
def State.portUp (s : State) (p : Nat) : Bool := linkUpValue (s.get .portLink p)

end Sys2Proof.Machine
end

