-- ==== Sys2Proof/Machine/Errors.lean ====
section
/-! DEFINITION. Error accounting shared by every unit: contained, corrected and fatal errors, and the Ledger's error
log (R587, R597, R601 to R604). -/

namespace Sys2Proof.Machine

/-- Where and what an error is, as its record says (R602, R603). -/
structure ErrorAt where
  code : Nat
  place : Nat := 0xFFFF
  unit : Nat := 0xFFFF
  kind : Nat := 0
  tenant : Nat := 0x1000
  addr : Nat := 0
  detail : List Nat := []

/-- KIND of a unit, as an error record codes it (R602). -/
def kindCode (u : Nat) : Nat :=
  match unitKind u with
  | .station => 1
  | .slice => 2
  | .quadrant => 3
  | .turntable => 4
  | .interlocking => 5
  | .junction => 6
  | .crossing => 7

/-- An error at a unit of R564. -/
def ErrorAt.atUnit (e : ErrorAt) (u : Nat) : ErrorAt := { e with unit := u, kind := kindCode u }

/-- Write a record in the error log ring, the oldest giving way when it is full (R601, R602); its slot is written afresh. -/
def State.logError (s : State) (cls : Nat) (tick count : Nat) (e : ErrorAt) : State :=
  let r : ErrorRecord :=
    { seq := s.ledger.errorSeq + 1, cls, kind := e.kind, code := e.code, tick, epoch := s.ledger.epoch, unit := e.unit,
      place := e.place, tenant := e.tenant, count := saturate 32 count, addr := e.addr, detail := e.detail }
  let kept := if s.ledger.errors.length < Config.errorRecords then s.ledger.errors else s.ledger.errors.drop 1
  let word := 0x10000 + 8 * (s.ledger.errorSeq % Config.errorRecords)
  { s with
    ledger := { s.ledger with errors := kept ++ [r], errorSeq := s.ledger.errorSeq + 1 }
    errors := { s.errors with badLedger := s.errors.badLedger.filter (fun w => decide (w < word) || decide (word + 8 ≤ w)) } }

/-- The window of a code at a place, with the new occurrence in it (R604). -/
def joinWindow (w : ErrorWindow) : ErrorWindow := { w with count := w.count + 1 }

/-- Whether a window is the one an error belongs to: same code, same WHERE. -/
def ErrorWindow.isFor (w : ErrorWindow) (e : ErrorAt) : Bool := w.code == e.code && w.place == e.place

/-- A new window of an error. -/
def ErrorAt.window (e : ErrorAt) (tick : Nat) : ErrorWindow :=
  { code := e.code, place := e.place, opened := tick, count := 1, addr := e.addr, tenant := e.tenant, unit := e.unit,
    kind := e.kind, detail := e.detail }

/-- The error that a closed window records. -/
def ErrorWindow.error (w : ErrorWindow) : ErrorAt :=
  { code := w.code, place := w.place, unit := w.unit, kind := w.kind, tenant := w.tenant, addr := w.addr,
    detail := w.detail }

/-- Put an error into its window, or open one (R604). -/
def State.window10ms (s : State) (e : ErrorAt) : State :=
  let ws := if s.errors.windows.any (fun w => w.isFor e)
    then s.errors.windows.map (fun w => if w.isFor e then joinWindow w else w)
    else s.errors.windows ++ [e.window s.ftb]
  { s with errors := { s.errors with windows := ws } }

/-- A contained error: one occurrence in its record's window, UC_COUNT, and ERR_EV (R587, R588, R604). -/
def State.contain (s : State) (e : ErrorAt) : State :=
  let s1 := s.window10ms e
  (s1.put .deviceUcCount 0 0 (saturate 32 (s1.get .deviceUcCount 0 + 1))).raiseT0 .deviceErrEv

/-- A write that the device completes without writing it: one record per port and window (R597, code 0x0306). -/
def State.writeLoss (s : State) (port addr tenant cause : Nat) : State :=
  s.contain { code := 0x0306, place := port, tenant, addr, detail := [Config.lossCause cause] }

/-- A corrected error: counted, and summed up for its unit at the end of the interval (R587, R604). -/
def State.corrected (s : State) (e : ErrorAt) : State :=
  let same : ErrorWindow → Bool := fun w => w.code == e.code && w.unit == e.unit
  let ws := if s.errors.corrected.any same
    then s.errors.corrected.map (fun w => if same w then joinWindow w else w)
    else s.errors.corrected ++ [e.window s.ftb]
  { (s.put .deviceCeCount 0 0 (s.get .deviceCeCount 0 + 1)) with errors := { s.errors with corrected := ws } }

/-- Records of the boot and security log that the write rate lets into its 2,048 slots within 100 s: ten a second to each (R555). -/
abbrev securityLimit : Nat := 2048 * 1000

/-- A record goes into the boot and security log, unless its slot has been written ten times a second over the last 100 s: then it
is only counted, and the count goes out as one summary record before the next record (R553, R555). -/
def Ledger.note (l : Ledger) (now : Nat) (r : SecurityRecord) : Ledger :=
  let recent := l.securityTicks.filter (fun t => decide (now < t + 100000000000))
  let new := if l.excess = 0 then [r] else [.summary l.excess, r]
  if securityLimit < recent.length + new.length then { l with securityTicks := recent, excess := l.excess + 1 }
  else { l with security := l.security ++ new, securityTicks := recent ++ new.map (fun _ => now), excess := 0 }

/-- Write a record in the boot and security log (R553, R555). -/
def State.logSecurity (s : State) (r : SecurityRecord) : State := { s with ledger := s.ledger.note s.ftb r }

/-- The copy of the control area in use (R554). -/
def State.controlCopy (s : State) : ControlCopy :=
  { seq := s.ledger.controlSeq, preferred := s.boot.preferred, lastLc := s.ledger.lastLc, svnFloor := s.ledger.svnFloor,
    epoch := s.ledger.epoch, coldBoots := s.ledger.coldBoots, wakeFailures := s.ledger.wakeFailures,
    tokenResult := s.ledger.tokenResult, flaw := s.ledger.flaw }

/-- Words 0 to 3 of the control copy of a SEQ hold its fields and its CRC (R554). -/
def copyWords (seq : Nat) : List Nat := (List.range 4).map (· + 256 * (seq % 2))

/-- An update of the control area writes the copy not in use, with the next SEQ, and leaves the other intact (R554). -/
def State.modControl (s : State) (f : Ledger → Ledger) : State :=
  { s with
    ledger := { f s.ledger with controlSeq := s.ledger.controlSeq + 1, other := s.controlCopy, flaw := 0 }
    errors := { s.errors with badLedger := s.errors.badLedger.filter (fun w => !(copyWords (s.ledger.controlSeq + 1)).contains w) } }

end Sys2Proof.Machine
end

