-- ==== Sys2Proof/Machine/Replies.lean ====
section
/-! DEFINITION. How an order ends: its reply, the channel that carries it, and the core it leaves (R59, R72, R83, R84,
R86, R96, R101). -/

namespace Sys2Proof.Machine

/-- The reply header of R83. -/
def replyHeader (tag status len ticks queued : Nat) : List Byte :=
  toLE 2 tag ++ toLE 2 status ++ toLE 2 len ++ toLE 2 0 ++ toLE 4 (saturate 32 ticks) ++ toLE 4 (saturate 32 queued)

/-- The mailbox answers its command: the response, its length, the two codes, the doorbell and its interrupt (R94 to
R96). -/
def State.mailboxAnswer (s : State) (ret status : Nat) (resp : List Byte) : State :=
  let m := s.ord.mailbox
  let m' := { m with doorbell := false, payload := memPutBytes m.payload 0 resp, payloadLen := resp.length,
                     returnCode := ret, vsStatus := status % 65536 }
  let s' := { s with ord := { s.ord with mailbox := m' } }
  if m.dbInt then s'.emit (.mailboxInterrupt false) else s'

/-- The reply written to a tenant window, cut to its 944 data bytes; GO returns to 0 and EVENT is raised (R100,
R101). -/
def State.windowAnswer (s : State) (t tag status : Nat) (header data : List Byte) : State :=
  let w := s.window t
  let s1 := s.modWindow t (fun w =>
    { w with go := false, status := status % 65536, tag := tag, replyLen := data.length, trunc := decide (944 < data.length),
             reply := memPutBytes w.reply 0 (header ++ data.take 944) })
  if w.evEn then s1.raiseVector w.event (some t) else s1

/-- A frame of the device waits for the Wayside's wires (R517, R518). -/
def State.waysideSend (s : State) (dst type : Nat) (payload : List Byte) : State :=
  { s with power := { s.power with waysideOut := s.power.waysideOut ++ [{ dst, type, payload }] } }

/-- Deliver the reply of an order on its channel (R83, R86). On MCTP the order came as a command, so its response carries the
return code and the status word before the payload (R88, R96); the payload of one that serves another Fabric Manager API command
is the reply data alone (R98). -/
def State.deliver (s : State) (o : Order) (status ticks queued : Nat) (data : List Byte) : State :=
  let header := replyHeader o.tag status data.length ticks queued
  let payload := if o.api then data else header ++ data
  let whole := toLE 2 (returnCode status) ++ toLE 2 status ++ payload
  match o.replyTo with
  | .mailbox => s.mailboxAnswer (returnCode status) status payload
  | .background _ =>
    { s with ord := { s.ord with mailbox := { s.ord.mailbox with bgEnded := some (status % 65536) } } }
  | .vdm eid => s.emit (.reply (.vdm eid) whole)
  | .bus eid => s.emit (.reply (.bus eid) whole)
  | .wayside a => s.waysideSend a 1 (header ++ data.take 1008)
  | .window t => s.windowAnswer t o.tag status header data
  | .ledger seq =>
    if status % 65536 = 0 then s
    else { s with
      ledger := { s.ledger with replayLog := s.ledger.replayLog ++ [(seq, status % 65536)] }
      boot := { s.boot with replayFail := saturate 16 (s.boot.replayFail + 1) } }

/-- What an ended order brings for the Interlocking's counters (R568, R569). -/
def Order.attrs (o : Order) : EventAttrs :=
  { privBit := some o.priv, tenant := if o.priv = privTenant then some o.tenant else none }

/-- A commit of a core is refused with BUSY, INTERLOCK or LATE, which the Interlocking counts (R569). -/
def State.commitRefused (s : State) (c : Nat) : State :=
  s.count 85 0x081 (match (s.core c).job with | some o => o.attrs | none => { privBit := some privInternal })

/-- A refused submission is answered with no reply data, no Lever time and no queue time (R80, R83, R84). -/
def State.refuseOrder (s : State) (o : Order) (st : Status) : State :=
  (s.deliver o st.word 0 0 []).count 85 0x080 o.attrs

/-- The core holds nothing: no order, no buffer, no reservation (R38, R59). -/
def CoreState.idled (k : CoreState) : CoreState :=
  { k with mode := .idle, job := none, buf := [], named := [], reserved := [], lib := {}, losses := 0 }

/-- The commit unit forgets a core (R62). -/
def State.leaveCommit (s : State) (c : Nat) : State :=
  { s with lev := { s.lev with
      commitWait := s.lev.commitWait.filter (· != c)
      granted := if s.lev.granted = some c then none else s.lev.granted } }

/-- The tenant that a TENANT_RESET or TENANT_DESTROY names (R91, R384, R409). -/
def Order.resets (o : Order) : Option Nat :=
  if o.library && (o.libid == 0x0021 || o.libid == 0x0022) then some (fieldAt o.args 0 2) else none

/-- Whether an accepted order that waits or runs resets or destroys a tenant. -/
def State.resetComing (s : State) (t : Nat) : Bool :=
  s.ord.queue.any (fun o => o.resets == some t) ||
  s.lev.cores.any (fun e => match e.2.job with | some o => o.resets == some t | none => false)

/-- A reset or destroy order has ended: the dispatcher may start its tenant's orders again, unless another accepted one still
waits or runs (R91). -/
def State.unfreeze (s : State) (o : Order) : State :=
  match o.resets with
  | some t => if s.resetComing t then s else { s with ord := { s.ord with frozen := s.ord.frozen.erase t } }
  | none => s

/-- An accepted order ends without starting: QUEUED counts from acceptance to its end (R83). -/
def State.endQueued (s : State) (o : Order) (st : Status) : State :=
  ((s.unfreeze o).deliver o st.word 0 (s.ftb - o.accepted) []).count 85 0x080 o.attrs

/-- The order on a core ends with a status word and its reply data: buffer and reservations go, the reply is delivered,
and the core is idle (R59, R83, R84). -/
def State.endOrder (s : State) (c status : Nat) (data : List Byte) : State :=
  let k := s.core c
  match k.job with
  | none => s
  | some o =>
    let s1 := ((s.leaveCommit c).modCore c CoreState.idled).unfreeze o
    let s2 := s1.deliver o status k.used (o.started - o.accepted) data
    (s2.count 85 0x080 o.attrs).count 85 0x082 { privBit := some o.priv } k.used

/-- The reply data an order has set: the first reply-length bytes of the reply block (R83, R84). -/
def CoreState.replyData (k : CoreState) : List Byte := memBytes k.mem 0x3E000 k.replyLen

/-- A resident core discards its buffer, the event is logged and raised to T0, and its task restarts at its entry
address (R76). DESIGN CHOICE, log entry 130: the rule names the entry address alone; the restarted task finds the registers,
handles and local memory as the discarded run left them, and its watchdog period begins anew. -/
def State.restartResident (s : State) (c : Nat) : State :=
  let s1 := (s.leaveCommit c).modCore c (fun k =>
    { k with mode := .running, buf := [], named := [], reserved := [], losses := 0, petAt := s.ftb,
             pc := BitVec.ofNat 64 (s.boot.image.tasks.getD c 0) })
  s1.contain (ErrorAt.atUnit { code := 0x0503, detail := [c] } 85)

/-- A resident core halts: what it held in its buffer is discarded (R128). -/
def State.haltResident (s : State) (c : Nat) : State :=
  (s.leaveCommit c).modCore c (fun k => { k with mode := .halted, buf := [], named := [], reserved := [], losses := 0 })

/-- A fault (R71, R72, R76): it ends the order with its status, the pc in bytes 0 to 7 and the instruction word in bytes
8 to 11 of the reply block; on a resident core the task restarts. -/
def State.leverFault (s : State) (c : Nat) (f : LeverFault) (word : BitVec 32) : State :=
  let k := s.core c
  if k.resident then s.restartResident c
  else
    let block := memPutNat (memPutNat k.mem 0x3E000 8 k.pc.toNat) 0x3E008 4 word.toNat
    let s1 := s.modCore c (fun k => { k with mem := block, replyLen := 12 })
    s1.endOrder c f.status (memBytes block 0x3E000 12)

/-! ### Lever resets (R606, R610) -/

/-- The order cores: those that are not resident (R37). -/
def State.orderCores (s : State) : List Nat := (List.range 16).filter (fun c => s.boot.image.residents ≤ c)

/-- A core holds nothing and its local memory is clear. -/
def CoreState.blank : CoreState := {}

/-- A Lever reset begins: running orders end with ABORTED, local memories are cleared, and the MC reloads (R610). -/
def State.leverReset (s : State) : State :=
  let s1 := s.orderCores.foldl (fun s c => if (s.core c).job.isSome then s.endOrder c Status.aborted.word [] else s) s
  { s1 with lev := { s1.lev with
      cores := [], commitWait := [], granted := none, reloading := true, reloadAfterActivation := false }
            ord := { s1.ord with noStart := true }
            errors := { s1.errors with badLever := [] } }

/-- A Lever reset is asked for: while an activation runs it waits for its end (R610). -/
def State.askLeverReset (s : State) : State :=
  if s.boot.act = 1 then { s with lev := { s.lev with reloadAfterActivation := true } } else s.leverReset

/-! ### Errors in Lever memory (R71, R589) -/

/-- The word of Lever memory at an address of a core's map, as `Errors.badLever` names it. -/
def leverWord (c a : Nat) : Nat × Nat := (if a < 0x1000000 then c else 16, a / 8)

/-- Whether an access of a core to an address meets an uncorrectable error; an access lies within one 8-byte word. -/
def State.badLever (s : State) (c a : Nat) : Bool := s.errors.badLever.contains (leverWord c a)

/-- An access meets an uncorrectable error of Lever memory (R71, R589, R597): the order, or the resident task, takes MEMERR; one
in shared memory also leads to a Lever reset, whose reload repairs the word. DEDUCED, log entry 131: the order that met the error
ends with MEMERR before the Lever reset ends the others, and an error in local memory stays until the word is written whole. -/
def State.leverMemErr (s : State) (c a : Nat) (word : BitVec 32) : State :=
  if a < 0x1000000 then
    (s.contain (ErrorAt.atUnit { code := 0x0501, detail := [c, (s.core c).pc.toNat] } 85)).leverFault c .memErr word
  else
    ((s.contain (ErrorAt.atUnit { code := 0x0502, addr := a, detail := [a] } 85)).leverFault c .memErr word).askLeverReset

end Sys2Proof.Machine
end

