-- ==== Sys2Proof/Machine/OrdersOps.lean ====
section
/-! DEFINITION. Orders before they run: the frame, the admission checks, the queue and the dispatcher (R78 to R93, R97 to
R101). -/

namespace Sys2Proof.Machine

/-- Change the orders. -/
def State.modOrd (s : State) (f : Orders → Orders) : State := { s with ord := f s.ord }

/-- Change the mailbox. -/
def State.modMailbox (s : State) (f : Mailbox → Mailbox) : State :=
  s.modOrd (fun o => { o with mailbox := f o.mailbox })

/-! ### The frame (R78, R79) -/

/-- Length of the frame a header declares (R79). -/
def frameLength (frame : List Byte) : Nat := 16 + 4 * fieldAt frame 6 2 + fieldAt frame 8 2

/-- Whether a frame is well formed, and within the channel's largest frame (R78 to R80 step 2, R86). -/
def frameOk (frame : List Byte) (largest : Nat) : Bool :=
  let kind := fieldAt frame 0 1
  let codelen := fieldAt frame 6 2
  decide (16 ≤ frame.length) && (kind == 1 || kind == 2) && decide (1 ≤ fieldAt frame 1 1) &&
  (if kind == 2 then fieldAt frame 4 2 == 0 && decide (1 ≤ codelen) && decide (codelen ≤ 4096) else codelen == 0) &&
  decide (fieldAt frame 8 2 ≤ 4096) && decide (fieldAt frame 10 1 ≤ 1) && fieldAt frame 11 1 == 0 &&
  frame.length == frameLength frame && decide (frame.length ≤ largest)

/-- The order a frame carries, with where it comes from; its sender is the endpoint its reply goes to. -/
def frameOrder (frame : List Byte) (priv tenant channel : Nat) (replyTo : ReplyTo) : Order :=
  let code := 4 * fieldAt frame 6 2
  { library := fieldAt frame 0 1 != 2, abi := fieldAt frame 1 1, tag := fieldAt frame 2 2, libid := fieldAt frame 4 2,
    code := (frame.drop 16).take code, args := (frame.drop (16 + code)).take (fieldAt frame 8 2),
    nowait := bitOf (fieldAt frame 10 1) 0, deadline := fieldAt frame 12 4, priv, tenant, channel, replyTo, sender := replyTo }

/-! ### The queue (R89) -/

/-- The orders a test selects, queued or running. -/
def State.ordersWhere (s : State) (sel : Order → Bool) : Nat :=
  (s.ord.queue.filter sel).length + (s.lev.cores.filter (fun e => match e.2.job with | some o => sel o | none => false)).length

/-- Whether two orders come from one MCTP endpoint. -/
def sameEndpoint (a b : Order) : Bool := a.channel == 1 && b.channel == 1 && a.sender == b.sender

/-- Whether the channel of an order may hold one more (R89). -/
def State.channelRoom (s : State) (o : Order) : Bool :=
  match o.channel with
  | 0 => s.ordersWhere (fun x => x.channel == 0) < 1
  | 1 => s.ordersWhere (sameEndpoint o) < 8
  | 2 => s.ordersWhere (fun x => x.channel == 2) < 4
  | 4 => s.ordersWhere (fun x => x.channel == 4 && x.tenant == o.tenant) < 1 && s.ordersWhere (fun x => x.channel == 4) < 32
  | _ => true

/-- Whether the queue of 64 entries has room for an order: an entry stays free for the mailbox and one for the replay, where
they hold none and the order is not theirs (R89). -/
def State.queueRoom (s : State) (o : Order) : Bool :=
  let kept := fun ch => if o.channel == ch || s.ord.queue.any (fun x => x.channel == ch) then 0 else 1
  s.ord.queue.length + kept 0 + kept 3 < 64

/-- An order core that is free. -/
def State.freeCore (s : State) : Option Nat := s.orderCores.find? (fun c => (s.core c).mode == .idle && (s.core c).job.isNone)

/-- The entry of a library order in the active image's table (R119). -/
def State.libEntry (s : State) (id : Nat) : Option (Nat × Nat) :=
  (s.boot.image.library.find? (fun e => e.1 == id)).map (·.2)

/-- The library orders a halted device runs: READ, INFO, DEADLOG_READ, ERRLOG_READ and RESET (R600). -/
def haltLibrary : List Nat := [0x0062, 0x0063, 0x0096, 0x00A5, 0x00A4]

/-- Whether the boot phase admits a channel (R80 step 1, R81); a halted device admits its five orders alone (R600). -/
def State.phaseAdmits (s : State) (o : Order) : Bool :=
  (s.boot.phase == 4 || (s.boot.phase == 3 && o.channel == 3)) &&
  (!s.power.haltAfterFatal || (o.library && haltLibrary.contains o.libid))

/-- The library orders of ABI levels 1 and 2 with the privileges their rules admit (R102, R112, R160, R310, R329, R351, R365,
R367, R377, R398, R421, R450, R457, R497, R557, R560, R578, R586, R605, R611): 1 FM, 3 FM and BMC, 5 FM and TENANT, 7 all three. -/
def libPrivileges : List (Nat × Nat) :=
  [(0x0001, 1), (0x0002, 1), (0x0003, 1), (0x0004, 1), (0x0010, 1), (0x0011, 1), (0x0012, 1), (0x0013, 1), (0x0014, 1),
   (0x0015, 1), (0x0020, 1), (0x0021, 5), (0x0022, 1), (0x0023, 1), (0x0024, 1), (0x0025, 1), (0x0030, 1), (0x0031, 1),
   (0x0032, 1), (0x0040, 3), (0x0041, 3), (0x0042, 1), (0x0050, 3), (0x0051, 3), (0x0060, 5), (0x0061, 5), (0x0062, 7),
   (0x0063, 3), (0x0070, 3), (0x0071, 3), (0x0072, 3), (0x0080, 1), (0x0081, 1), (0x0082, 1), (0x0083, 1)] ++
  [(0x0090, 3), (0x0091, 1), (0x0092, 1), (0x0093, 1), (0x0094, 1), (0x0095, 1), (0x0096, 3), (0x0097, 1), (0x0098, 1),
   (0x0099, 1), (0x009A, 1), (0x009B, 3), (0x009C, 1), (0x009D, 1), (0x009E, 3), (0x009F, 1), (0x00A0, 1), (0x00A1, 1),
   (0x00A2, 3), (0x00A3, 3), (0x00A4, 3), (0x00A5, 3), (0x00A6, 3)]

/-- Whether a library order admits a privilege (R102): INTERNAL may call every one. An ID that the specification gives no row to
belongs to a later level, and its image alone says whom it admits. -/
def libAdmits (id priv : Nat) : Bool :=
  priv == privInternal ||
  (match libPrivileges.find? (fun e => e.1 == id) with
    | some e => bitOf e.2 priv
    | none => true)

/-- Whether a submitter may call an order (R80 step 5, R102): an inline one at FM or INTERNAL; a library order where its row and
the image's library table admit the privilege. -/
def State.mayCall (s : State) (o : Order) : Bool :=
  if o.library then libAdmits o.libid o.priv && bitOf ((s.libEntry o.libid).getD (0, 0)).1 o.priv
  else o.priv == privFM || o.priv == privInternal

/-- The checks of R80 in order: the status of the first that fails. -/
def State.admission (s : State) (o : Order) (wellFormed : Bool) : Option Status :=
  if !s.phaseAdmits o then some .busy
  else if !wellFormed then some .badArg
  else if s.boot.image.abi < o.abi then some .level
  else if o.library && (s.libEntry o.libid).isNone then some .badArg
  else if !s.mayCall o then some .denied
  else if !s.channelRoom o then some .busy
  else if (if o.nowait then s.freeCore.isNone else !s.queueRoom o) then some .busy
  else none

/-- A TENANT_RESET or TENANT_DESTROY has been accepted: the dispatcher starts no further order of its tenant, and those
still queued end (R91). -/
def State.freeze (s : State) (o : Order) : State :=
  match o.resets with
  | none => s
  | some t =>
    let gone := s.ord.queue.filter (fun x => x.priv == privTenant && x.tenant == t && x.id != o.id)
    let s1 := s.modOrd (fun q => { q with
      frozen := if q.frozen.contains t then q.frozen else q.frozen ++ [t]
      queue := q.queue.filter (fun x => !(x.priv == privTenant && x.tenant == t && x.id != o.id)) })
    gone.foldl (fun s x => s.endQueued x .aborted) s1

/-- Accept an order that arrived at a tick: it takes a number and waits in the queue (R89). -/
def State.accept (s : State) (o : Order) (arrived : Nat := s.ftb) : State :=
  let o' := { o with id := s.ord.nextId, accepted := arrived }
  (s.modOrd (fun q => { q with queue := q.queue ++ [o'], nextId := q.nextId + 1 })).freeze o'

/-- Submit an order: accepted, or answered with the status of the check that failed (R80). -/
def State.submit (s : State) (o : Order) (wellFormed : Bool) (arrived : Nat := s.ftb) : State :=
  match s.admission o wellFormed with
  | none => s.accept o arrived
  | some st => s.refuseOrder o st

/-- Submit the frame of a channel. -/
def State.submitFrame (s : State) (frame : List Byte) (priv tenant channel largest : Nat) (replyTo : ReplyTo)
    (arrived : Nat := s.ftb) : State :=
  s.submit (frameOrder frame priv tenant channel replyTo) (frameOk frame largest) arrived

/-- The longest MCTP message that reassembly delivers (R80, R535). -/
abbrev largestMessage : Nat := 20512

/-- The largest frame of the mailbox and the MCTP channels (R86). -/
abbrev largestFrame : Nat := 20496

/-! ### The dispatcher (R90, R41, R53, R130) -/

/-- Whether the DEADLINE of a waiting order has passed (R82). -/
def State.expired (s : State) (o : Order) : Bool := o.deadline != 0 && decide (o.accepted + 1000 * o.deadline ≤ s.ftb)

/-- Whether an order may start: one that its boot phase admits (R81), not one whose DEADLINE has passed (R82), not one of a tenant being
reset, and a reset or destroy order only once no order of its tenant runs (R91). -/
def State.mayStart (s : State) (o : Order) : Bool :=
  !s.expired o && (o.channel == 3 || s.boot.phase == 4) &&
  match o.resets with
  | some t => !s.lev.cores.any (fun e => match e.2.job with | some x => x.priv == privTenant && x.tenant == t | none => false)
  | none => !(o.priv == privTenant && s.ord.frozen.contains o.tenant)

/-- The order the dispatcher gives a free core: a tenant order that has waited 10 ms, else the oldest other order, else
the oldest tenant order (R90). -/
def State.nextOrder (s : State) : Option Order :=
  let ready := s.ord.queue.filter s.mayStart
  match ready.find? (fun o => o.priv == privTenant && decide (o.accepted + 10000000 ≤ s.ftb)) with
  | some o => some o
  | none =>
    match ready.find? (fun o => o.priv != privTenant) with
    | some o => some o
    | none => ready.head?

/-- A core in the state an order starts in (R41, R53): memory cleared but for the argument block and an inline program. -/
def startCore (o : Order) (entry now : Nat) : CoreState :=
  let mem := memPutBytes [] 0x3F000 o.args
  { mode := .running, job := some { o with started := now }, pc := BitVec.ofNat 64 (if o.library then entry else 0),
    g := Tab.set (Tab.set (Tab.set [] 1 (BitVec.ofNat 64 o.args.length)) 2 (submitterWord o.priv o.tenant o.channel o.abi))
      30 (0x3E000 : Word),
    mem := if o.library then mem else memPutBytes mem 0 o.code,
    submitter := submitterWord o.priv o.tenant o.channel o.abi }

/-- A free order core takes an order (R90); one whose ABI the active image no longer has ends with LEVEL (R130). -/
def State.dispatch (s : State) (c : Nat) : State :=
  if s.orderCores.contains c && (s.core c).mode == .idle && (s.core c).job.isNone && !s.ord.noStart then
    match s.nextOrder with
    | none => s
    | some o =>
      let s1 := s.modOrd (fun q => { q with queue := q.queue.filter (fun x => x.id != o.id) })
      if s.boot.image.abi < o.abi then s1.endQueued o .level
      else
        { s1.modCore c (fun _ => startCore o ((s.libEntry o.libid).getD (0, 0)).2 s.ftb) with
          errors := { s1.errors with badLever := s1.errors.badLever.filter (fun e => e.1 != c) } }
  else s

/-! ### The tenant window (R100, R101, R416) -/

/-- Whether a tenant owns an allocated event vector. -/
def State.ownsEvent (s : State) (t n : Nat) : Bool := n < 8192 && s.allocated clsEvent n && s.get .eventOwner n == t

/-- A write of TW_CTL: EV_EN and EVENT are kept, and GO, where it reads 0, submits the frame in the window (R100, R101). -/
def State.windowGo (s : State) (t ctl : Nat) : State :=
  let w := s.window t
  let s1 := s.modWindow t (fun w => { w with evEn := bitOf ctl 1, event := bitsOf ctl 16 13 })
  if w.go then s1
  else
    if bitOf ctl 0 then
      let frame := memBytes w.frame 0 1024
      let len := frameLength frame
      let whole := frame.take len
      let o := frameOrder whole privTenant t 4 (.window t)
      let s2 := s1.modWindow t (fun w => { w with go := true })
      if !bitOf (s.get .tenantShPerm t) 0 then s2.refuseOrder o .denied
      else if s.get .tenantState t == 2 then s2.refuseOrder o .busy
      else if bitOf ctl 1 && !s.ownsEvent t (bitsOf ctl 16 13) then s2.refuseOrder o .denied
      else s2.submit o (decide (len ≤ 1024) && frameOk whole 1024)
    else s1

/-- One byte of TW_PENDING (R416). -/
def State.windowPending (s : State) (t i : Nat) : Byte :=
  BitVec.ofNat 8 (((List.range 8).map (fun b =>
    let n := 8 * i + b
    if s.ownsEvent t n && s.get .eventEnable n == 1 && s.get .eventPending n == 1 then 2 ^ b else 0)).sum)

/-- The byte at an offset of a window (R100, R416); what no register holds reads as zero. -/
def State.windowByte (s : State) (t off : Nat) : Byte :=
  let w := s.window t
  let word : Nat → Nat → Byte := fun base v => BitVec.ofNat 8 (v / 2 ^ (8 * (off - base)))
  if off < 0x8 then word 0 ((if w.go then 1 else 0) + (if w.evEn then 2 else 0) + w.event * 2 ^ 16)
  else if off < 0x10 then
    word 0x8 (w.status + w.tag * 2 ^ 16 + w.replyLen * 2 ^ 32 + (if w.trunc then 2 ^ 45 else 0))
  else if off < 0x40 then 0
  else if off < 0x440 then memByte w.frame (off - 0x40)
  else if off < 0x800 then memByte w.reply (off - 0x440)
  else if off < 0x808 then
    word 0x800 (t + s.get .tenantState t * 2 ^ 12 + s.get .tenantBank t * 2 ^ 14 + s.get .gleanerAlldirty t * 2 ^ 15 +
      (s.rulesOf t).length * 2 ^ 16)
  else if off < 0x810 then word 0x808 (s.quotaUsed t + w.overdraw * 2 ^ 32)
  else if off < 0x818 then word 0x810 (s.trackedOf t)
  else if off < 0x820 then word 0x818 (w.violCount + (if w.violOvf then 2 ^ 48 else 0))
  else if off < 0x828 then word 0x820 w.msiAddr.toNat
  else if off < 0x830 then word 0x828 (w.msiData + (if w.msiEn then 2 ^ 32 else 0))
  else if off < 0x838 then word 0x830 w.resets
  else if off < 0xC00 then 0
  else s.windowPending t (off - 0xC00)

/-- Bytes of a window. -/
def State.windowRead (s : State) (t off : Nat) : Nat → List Byte
  | 0 => []
  | n + 1 => s.windowByte t off :: s.windowRead t (off + 1) n

/-- Replace the bytes of a little-endian value from a byte position on. -/
def patch (v pos : Nat) (bytes : List Byte) : Nat :=
  v - bitsOf v (8 * pos) (8 * bytes.length) * 2 ^ (8 * pos) + ofLE bytes * 2 ^ (8 * pos)

/-- A write to a window, of bytes that do not cross an 8-byte boundary: read-only and reserved bytes are ignored (R100,
R101, R415, R416). -/
def State.windowWrite (s : State) (t off : Nat) (bytes : List Byte) : State :=
  let w := s.window t
  if off < 0x8 then
    s.windowGo t (patch (w.event * 2 ^ 16 + (if w.evEn then 2 else 0)) off bytes % 2 ^ 32)
  else if 0x40 ≤ off && off < 0x440 then
    if w.go then s else s.modWindow t (fun w => { w with frame := memPutBytes w.frame (off - 0x40) bytes })
  else if 0x820 ≤ off && off < 0x828 then
    s.modWindow t (fun w => { w with msiAddr := BitVec.ofNat 64 (patch w.msiAddr.toNat (off - 0x820) bytes) })
  else if 0x828 ≤ off && off < 0x830 then
    let v := patch (w.msiData + (if w.msiEn then 2 ^ 32 else 0)) (off - 0x828) bytes
    s.modWindow t (fun w => { w with msiData := v % 2 ^ 32, msiEn := bitOf v 32 })
  else s

end Sys2Proof.Machine
end

