-- ==== Sys2Proof/Machine/Operands.lean ====
section
/-! DEFINITION. The operand forms of a Lever instruction: registers, immediates, instruction words, the memory map, and
the frame every instruction runs in (R39, R44, R45, R49 to R51). -/

namespace Sys2Proof.Machine

/-- The answer of a meaning. -/
abbrev Result := Host.Outcome State Fault Refusal

/-! ### Registers and immediates -/

/-- G[n]: g0 reads as zero (R39). -/
def CoreState.reg (k : CoreState) (n : BitVec 5) : Word := if n = 0 then 0 else Tab.get 0 k.g n.toNat

/-- Write G[n]: a write to g0 is discarded (R39). -/
def CoreState.setReg (k : CoreState) (n : BitVec 5) (v : Word) : CoreState :=
  if n = 0 then k else { k with g := Tab.set k.g n.toNat v }

/-- The handle register H[n]. -/
def CoreState.handle (k : CoreState) (n : BitVec 3) : Handle := Tab.get {} k.h n.toNat

/-- Write the handle register H[n]. -/
def CoreState.setHandle (k : CoreState) (n : BitVec 3) (h : Handle) : CoreState :=
  { k with h := Tab.set k.h n.toNat h }

/-- imm16 sign-extended (R49). -/
def sx16 (i : BitVec 16) : Word := i.signExtend 64

/-- imm16 zero-extended (R49). -/
def zx16 (i : BitVec 16) : Word := i.setWidth 64

/-- Bits of imm16 from `lo`, `n` of them. -/
def immBits (i : BitVec 16) (lo n : Nat) : Nat := bitsOf i.toNat lo n

/-! ### The memory map (R51) -/

/-- The kinds of use of the map of R51. -/
inductive CoreUse
  | library | inline_ | resident
  deriving DecidableEq, Repr

/-- How a core uses its map: by the task or order it runs. -/
def CoreState.use (k : CoreState) : CoreUse :=
  if k.resident then .resident
  else match k.job with
    | some o => if o.library then .library else .inline_
    | none => .inline_

/-- Whether a use may read at an address. -/
def mayRead (a : Nat) : Bool := a ≤ 0x3FFFF || (0x1000000 ≤ a && a ≤ 0x17FFFFF)

/-- Whether a use may write at an address. -/
def mayWrite (u : CoreUse) (a : Nat) : Bool :=
  a ≤ 0x3EFFF || (0x1400000 ≤ a && a ≤ 0x17FFFFF && u != .inline_)

/-- Whether an address may be executed from. -/
def mayExecute (a : Nat) : Bool := a ≤ 0x3DFFF || (0x1000000 ≤ a && a ≤ 0x13FFFFF)

/-- Whether an AMO may act at an address: the shared data region, where the core may also write (R50). -/
def mayAmo (u : CoreUse) (a : Nat) : Bool := 0x1400000 ≤ a && mayWrite u a

/-- What a core reads: `n` bytes from an address of its map. -/
def State.leverRead (s : State) (c a n : Nat) : Nat :=
  if a < 0x1000000 then memNat (s.core c).mem a n
  else if a < 0x1400000 then memNat s.lev.sharedCode (a - 0x1000000) n
  else memNat s.lev.sharedData (a - 0x1400000) n

/-- What a core writes: `n` bytes at an address of its map. -/
def State.leverWrite (s : State) (c a n v : Nat) : State :=
  if a < 0x1000000 then s.modCore c (fun k => { k with mem := memPutNat k.mem a n v })
  else { s with lev := { s.lev with sharedData := memPutNat s.lev.sharedData (a - 0x1400000) n v } }

/-- A store of a whole 8-byte word writes its check bits anew, so an error that stood in the word is gone (R589). -/
def State.leverRepair (s : State) (c a n : Nat) : State :=
  if n = 8 && s.badLever c a then
    { s with errors := { s.errors with badLever := s.errors.badLever.filter (· != leverWord c a) } }
  else s

/-! ### The frame of an instruction -/

/-- The pc moves past the instruction. -/
def CoreState.next (k : CoreState) : CoreState := { k with pc := k.pc + 4 }

/-- The instruction completes: the core changes as given and its pc moves on. -/
def State.retire (s : State) (c : Nat) (f : CoreState → CoreState) : State := s.modCore c (fun k => (f k).next)

/-- Whether an order has used the Lever time it may use (R74); a resident task has no limit (R76). -/
def CoreState.spent (k : CoreState) : Bool := k.job.isSome && !k.resident && decide (1000000 ≤ k.used)

/-- A core executes a word at its pc: a core that does not run executes nothing; while an activation quiesces, a resident core halts
in place of an instruction that finds its buffer empty (R128); an order at its time limit takes TIME before
the next instruction (R74, R75); a pc outside the executable regions raises BOUNDS (R51), and a word that holds an uncorrectable
error MEMERR (R71). DESIGN CHOICE, log entry 132: where the fetch itself faults no word has been read, and R72 does not say which
one bytes 8 to 11 of the reply block hold; the model puts the word that the command names. -/
def State.leverRun (s : State) (c : Nat) (word : BitVec 32) (body : State → State) : State :=
  if (s.core c).mode = .running then
    if s.boot.activation = .quiesce && (s.core c).resident && (s.core c).buf.isEmpty then s.haltResident c
    else if (s.core c).spent then s.leverFault c .time word
    else if mayExecute (s.core c).pc.toNat then
      if s.badLever c (s.core c).pc.toNat then s.leverMemErr c (s.core c).pc.toNat word else body s
    else s.leverFault c .bounds word
  else s

/-- Raise ILLEGAL unless the fields an instruction does not use are zero (R45). -/
def State.leverEncoded (s : State) (c : Nat) (word : BitVec 32) (zero : Bool) (body : State → State) : State :=
  s.leverRun c word (fun s => if zero then body s else s.leverFault c .illegal word)

/-! ### The shapes of R49 -/

/-- ALU group: G[rd] = G[ra] op G[rb]. -/
def State.aluRRR (s : State) (c : Core) (o : RRR) (fn : Nat) (f : Word → Word → Word) : State :=
  s.leverRun c (o.word 0x00 fn) (fun s => s.retire c (fun k => k.setReg o.rd (f (k.reg o.ra) (k.reg o.rb))))

/-- I format: G[rd] from G[ra] and imm16, under a condition on the encoding. -/
def State.aluImm (s : State) (c : Core) (o : IOp) (op : Nat) (legal : Bool) (f : CoreState → Word) : State :=
  s.leverEncoded c (o.word op) legal (fun s => s.retire c (fun k => k.setReg o.rd (f k)))

/-- AMO group: shared data region only, 8-aligned; BOUNDS comes before ALIGN (R49, R50). -/
def State.amo (s : State) (c : Core) (o : RRR) (fn : Nat) (f : Word → Word → Word) : State :=
  s.leverRun c (o.word 0x01 fn) (fun s =>
    let k := s.core c
    let a := (k.reg o.ra).toNat
    if mayAmo k.use a then
      if s.badLever c a && a % 8 = 0 then s.leverMemErr c a (o.word 0x01 fn)
      else if a % 8 = 0 then
        let t : Word := BitVec.ofNat 64 (s.leverRead c a 8)
        (s.leverWrite c a 8 (f t (k.reg o.rb)).toNat).retire c (fun k => k.setReg o.rd t)
      else s.leverFault c .align (o.word 0x01 fn)
    else s.leverFault c .bounds (o.word 0x01 fn))

/-- The address of a load or a store: G[ra] + sx16. -/
def CoreState.ea (k : CoreState) (o : IOp) : Nat := (k.reg o.ra + sx16 o.imm).toNat

/-- Loads: G[rd] = the zero-extended bytes; BOUNDS comes before ALIGN (R49, R50). -/
def State.load (s : State) (c : Core) (o : IOp) (op size : Nat) : State :=
  s.leverRun c (o.word op) (fun s =>
    let a := (s.core c).ea o
    if mayRead a then
      if s.badLever c a && a % size = 0 then s.leverMemErr c a (o.word op)
      else if a % size = 0 then s.retire c (fun k => k.setReg o.rd (BitVec.ofNat 64 (s.leverRead c a size)))
      else s.leverFault c .align (o.word op)
    else s.leverFault c .bounds (o.word op))

/-- Stores: the low bytes of G[rd]; BOUNDS comes before ALIGN (R49, R50). -/
def State.store (s : State) (c : Core) (o : IOp) (op size : Nat) : State :=
  s.leverRun c (o.word op) (fun s =>
    let k := s.core c
    let a := k.ea o
    if mayWrite k.use a then
      if a % size = 0 then ((s.leverWrite c a size (k.reg o.rd).toNat).leverRepair c a size).retire c id
      else s.leverFault c .align (o.word op)
    else s.leverFault c .bounds (o.word op))

/-- B format: pc = pc + 4 + 4 * sx16 when the condition holds, else pc + 4 (R49). -/
def State.branch (s : State) (c : Core) (o : BOp) (op : Nat) (cond : Word → Word → Bool) : State :=
  s.leverRun c (o.word op) (fun s => s.modCore c (fun k =>
    if cond (k.reg o.ra) (k.reg o.rb) then { k with pc := k.pc + 4 + 4 * sx16 o.imm } else k.next))

/-- S format: an instruction that uses rd, ra, both or neither; an unused one must be zero (R45, R48). -/
def State.sys (s : State) (c : Core) (o : SOp) (sysfn : Nat) (usesRd usesRa : Bool) (body : State → State) : State :=
  s.leverEncoded c (o.word sysfn) ((usesRd || o.rd = 0) && (usesRa || o.ra = 0)) body

end Sys2Proof.Machine
end

