-- ==== Sys2Proof/Machine/Routing.lean ====
section
/-! DEFINITION. Where a frame goes: the hashes, the pinned siding, hierarchy-based and port-based routing, the request
tracker and the answers to discarded requests (R21, R22, R260 to R262, R292 to R298, R302, R597). -/

namespace Sys2Proof

/-! ### Kinds of frame -/

/-- A memory request of CXL.io (R312). -/
def FrameKind.ioMemory : FrameKind → Bool
  | .ioRead => true
  | .ioWrite => true
  | _ => false

/-- A request that is checked against rules (R376, R387). -/
def FrameKind.checked : FrameKind → Bool
  | .ioRead => true
  | .ioWrite => true
  | .ioAtomic _ => true
  | .farAtomic _ => true
  | .memReq _ => true
  | .cacheReq _ => true
  | _ => false

/-- A request of any kind, as against a response or a completion. -/
def FrameKind.request : FrameKind → Bool
  | .completion => false
  | .response => false
  | .wrap => false
  | .message => false
  | _ => true

/-- A request that waits for an answer (R280, R288). -/
def FrameKind.nonPosted : FrameKind → Bool
  | .ioRead => true
  | .ioAtomic _ => true
  | .ioSpace => true
  | .config => true
  | .memReq _ => true
  | .cacheReq _ => true
  | _ => false

/-- Whether a slice request kind writes memory (R348). -/
def CohKind.writes : CohKind → Bool
  | .wr => true
  | .wb => true
  | _ => false

/-- Whether the HDM decoders route a kind of request: CXL.mem, CXL.cache and atomics (R292, R357). -/
def FrameKind.byHdm : FrameKind → Bool
  | .memReq _ => true
  | .cacheReq _ => true
  | .ioAtomic _ => true
  | .farAtomic _ => true
  | _ => false

end Sys2Proof

namespace Sys2Proof.Machine

/-! ### Hashes and positions -/

/-- The directory slice of a line, by its address bits A[56:6] (R21). -/
def sliceOf (line : Nat) : Nat :=
  bitsOf line 0 4 ^^^ bitsOf line 4 4 ^^^ bitsOf line 8 4 ^^^ bitsOf line 12 4 ^^^ bitsOf line 16 4 ^^^ bitsOf line 20 4

/-- The line-address hash (R261). -/
def lineHash (line : Nat) : Nat :=
  bitsOf line 0 16 ^^^ bitsOf line 16 16 ^^^ bitsOf line 32 16 ^^^ bitsOf line 48 3

/-- The ring stop position of a station (R22). -/
def stationStop (n : Nat) : Nat := n + n / 4

/-- The ring stop position of a slice (R22). -/
def sliceStop (d : Nat) : Nat := 5 * d + 4

/-- Hops between two of the 80 ring stops, the shorter way (R23). -/
def ringHops (a b : Nat) : Nat :=
  let d := if a ≤ b then b - a else a - b
  min d (80 - d)

/-- The exclusive-or value of each key bit (R262), from bit 0 on. -/
def crcColumns : List Nat :=
  [3, 6, 12, 24, 48, 35, 5, 10, 20, 40, 19, 38, 15, 30, 60, 59] ++
  [53, 41, 17, 34, 7, 14, 28, 56, 51, 37, 9, 18, 36, 11, 22, 44]

/-- The pinned siding of a key: the CRC-6 of R262, by its columns. -/
def pinnedSiding (key : Nat) : Nat :=
  (crcColumns.zipIdx).foldl (fun a e => if bitOf key e.2 then a ^^^ e.1 else a) 0

/-! ### The answers of R106, R395 and R597 -/

/-- Answer code: Successful Completion. -/
abbrev ansOk : Nat := 0
/-- Answer code: Unsupported Request. -/
abbrev ansUR : Nat := 1
/-- Answer code: Completer Abort. -/
abbrev ansCA : Nat := 4
/-- Answer code: CXL.mem DRS. -/
abbrev ansDRS : Nat := 0x10
/-- Answer code: CXL.mem NDR Cmp. -/
abbrev ansCmp : Nat := 0x11
/-- Answer code: CXL.cache GO-Err. -/
abbrev ansGoErr : Nat := 0x12

/-! ### Virtual switches -/

/-- The enabled virtual switch whose USP a port is. -/
def State.uspOf (s : State) (p : Nat) : Option Nat :=
  (List.range 128).find? (fun v => s.get .vcsEnable v == 1 && s.get .vcsUsp v == p)

/-- The vPPBs of the device that are bound, as pairs of switch and vPPB. -/
def State.boundVppbs (s : State) : List (Nat × Nat) :=
  (s.obj.filterMap (fun e =>
    let k := e.1
    if k / 2 ^ 32 == clsVppb * 256 + 1 && e.2 != 0 then some (k / 65536 % 65536, k % 65536) else none))

/-- The vPPBs bound to a port, whether by the port or by one of its logical devices. -/
def State.vppbsOfPort (s : State) (p : Nat) : List (Nat × Nat) :=
  s.boundVppbs.filter (fun e => s.get .vppbPort e.1 e.2 == p)

/-- Whether a vPPB routes: ACTIVE, REMOVING or UNBIND_AT_DOWN (R304). -/
def State.vppbRoutes (s : State) (v b : Nat) : Bool :=
  let h := s.get .vppbHp v b
  h == 3 || h == 4 || h == 6

/-- The vPPB bound to the port a request came in on, or to its logical device on an MLD port (R302, R597). -/
def State.vppbBelow (s : State) (p ldid : Nat) : Option (Nat × Nat) :=
  (s.vppbsOfPort p).find? (fun e => s.get .vppbKind e.1 e.2 == 1 || s.get .vppbLdid e.1 e.2 == ldid)

/-- The USP of a virtual switch, if it is enabled and has one (R295). -/
def State.uspPort (s : State) (v : Nat) : Option Nat :=
  if s.get .vcsEnable v == 1 && s.get .vcsUsp v != 0xFF then some (s.get .vcsUsp v) else none

/-! ### Routes -/

/-- Where a request goes. -/
inductive Route
  | to (port : Nat) (vppb : Option (Nat × Nat))
  | unrouted
  | turnback
  deriving DecidableEq, Repr

/-- Port-based routing on a destination ID, which no 68 B port carries; a frame does not go back to the port it arrived on (R196, R296,
R297). -/
def State.routePbr (s : State) (arrived d : Nat) : Route :=
  let small : Nat → Bool := fun p => match (s.port p).info with | some i => i.flit68 | none => false
  if small arrived || small (s.get .pbrPort d) then .unrouted
  else if s.get .pbrValid d == 1 && !s.errors.broken.contains (clsPbr, d, 0) then
    if s.get .pbrPort d == arrived then .turnback else .to (s.get .pbrPort d) none
  else .unrouted

/-- The port of a vPPB, if it routes and its entry is not broken (R302, R304, R592). -/
def State.routeVppb (s : State) (v b : Nat) : Route :=
  if s.get .vppbKind v b != 0 && s.vppbRoutes v b && !s.errors.broken.contains (clsVppb, v, b) then
    .to (s.get .vppbPort v b) (some (v, b))
  else .unrouted

/-- The vPPB an HDM decoder of a virtual switch gives an address: its interleave target (R292). -/
def State.hdmTarget (s : State) (v a : Nat) : Option Nat :=
  (s.vcs v).hdm.findSome? (fun e =>
    let d := e.2
    if d.base ≤ a && a < d.base + d.size && !d.targets.isEmpty then
      d.targets[(a - d.base) / max d.granularity 1 % d.targets.length]?
    else none)

/-- The destination ID the Fabric Address Segment Table of a virtual switch gives an address (R298). -/
def State.fastDpid (s : State) (v a : Nat) : Option Nat :=
  (s.vcs v).fast.findSome? (fun e =>
    let (base, size, idt) := e.2
    if base ≤ a && a < base + size then some (Tab.get 0 (s.vcs v).idt idt) else none)

/-- The vPPB of a virtual switch whose memory window holds an address (R292). -/
def State.memTarget (s : State) (v a : Nat) : Option Nat :=
  (s.boundVppbs.find? (fun e => e.1 == v &&
    (s.vppb v e.2).memBase ≤ a && a ≤ (s.vppb v e.2).memLimit && (s.vppb v e.2).memLimit != 0)).map (·.2)

/-- The vPPB of a virtual switch whose bus range holds a bus (R292). -/
def State.busTarget (s : State) (v bus : Nat) : Option Nat :=
  (s.boundVppbs.find? (fun e => e.1 == v &&
    (s.vppb v e.2).secondary ≤ bus && bus ≤ (s.vppb v e.2).subordinate && (s.vppb v e.2).secondary != 0)).map (·.2)

/-- The vPPB below a virtual switch that a request from its USP goes to, if a decoder, a window or a bus range names one (R292). -/
def State.downTarget (s : State) (v : Nat) (kind : FrameKind) (a : Nat) : Option Nat :=
  if kind.byHdm then (match s.hdmTarget v a with | some b => some b | none => s.memTarget v a)
  else if kind = .config || kind = .message || kind = .completion || kind = .response then s.busTarget v (a / 2 ^ 20 % 256)
  else s.memTarget v a

/-- Routing down a virtual switch from its USP (R292, R298). -/
def State.routeDown (s : State) (v p : Nat) (kind : FrameKind) (a : Nat) : Route :=
  match s.downTarget v kind a with
  | some b => s.routeVppb v b
  | none =>
    match s.fastDpid v a with
    | some d => s.routePbr p d
    | none => .unrouted

/-- The PBR ID of an edge port: that of the valid entry which names it (R298). -/
def State.ownId (s : State) (p : Nat) : Nat :=
  match s.obj.find? (fun e => e.1 / 2 ^ 32 == clsPbr * 256 + 1 && e.2 == p && s.get .pbrValid (e.1 / 65536 % 65536) == 1) with
  | some e => e.1 / 65536 % 65536
  | none => 0

/-- The PBR header, source and destination, that a request takes where an edge port maps its address into the fabric (R298). -/
def State.edgeHeader (s : State) (p : Nat) (kind : FrameKind) (a : Nat) : Option (BitVec 12 × BitVec 12) :=
  match s.uspOf p with
  | some v =>
    if (s.downTarget v kind a).isSome then none
    else (s.fastDpid v a).map (fun d => (BitVec.ofNat 12 (s.ownId p), BitVec.ofNat 12 d))
  | none => none

/-- Routing up from a bound port: to a peer below the same switch, else to the USP (R292); a switch with no USP routes nothing
(R295). -/
def State.routeUp (s : State) (v b : Nat) (kind : FrameKind) (a : Nat) : Route :=
  let peer := if kind.ioMemory then s.memTarget v a else if kind.byHdm then s.hdmTarget v a else none
  match s.uspPort v with
  | none => .unrouted
  | some u =>
    if s.vppbRoutes v b then
      match peer with
      | some b' => if b' = b then .unrouted else s.routeVppb v b'
      | none => .to u none
    else .unrouted

/-- The route of a request by the tables in force (R292 to R298). A Trunk port routes by destination ID as an
inter-switch port does. -/
def State.routeRequest (s : State) (p : Nat) (pbr : Option Nat) (ldid : Nat) (kind : FrameKind) (a : Nat) : Route :=
  match pbr, (s.port p).role == .interSwitch || s.get .portProto p == 2 with
  | some d, true => s.routePbr p d
  | _, _ =>
    match s.uspOf p with
    | some v => s.routeDown v p kind a
    | none =>
      match s.vppbBelow p ldid with
      | some (v, b) => s.routeUp v b kind a
      | none => .unrouted

/-- The port that serves a line for a requester on a port (R25, R292). -/
def State.homePort (s : State) (p line : Nat) : Option Nat :=
  match s.routeRequest p none 0 (.memReq .rdS) (line * 64) with
  | .to q _ => some q
  | _ => none

/-- The management port the straps choose (R531). -/
def State.mgmtPort (s : State) : Option Nat :=
  match s.straps.mp.val with
  | 0 => some 0
  | 1 => some 16
  | 2 => some 32
  | 3 => some 48
  | 4 => some 64
  | 5 => some 96
  | 6 => some 126
  | _ => none

/-- The slot a port is fed by, if the slot map names one (R26). -/
def State.slotOfPort (s : State) (p : Nat) : Option Nat :=
  (List.range 64).find? (fun n => s.get .slotPort n == p && p != 127)

/-- The port a slot feeds, if its map names one (R57: 0x7F none). -/
def State.portOfSlot (s : State) (n : Nat) : Option Nat :=
  if s.get .slotPort n == 127 then none else some (s.get .slotPort n)

/-! ### Reports and answers -/

/-- An AER message on the USP of a virtual switch (R598). -/
def State.uspReport (s : State) (v : Nat) (fatal : Bool) (status : Nat) : State :=
  let s' := s.modVcs v (fun x => { x with uspAer := x.uspAer ||| status })
  match s.uspPort v with
  | some _ => s'.emit (.aer v fatal status)
  | none => s'

/-- Unsupported Request Error of the AER Uncorrectable Error Status register (PCI Express Base 7.0). -/
def aerUnsupported : Nat := 2 ^ 20

/-- Uncorrectable Internal Error of the AER Uncorrectable Error Status register (PCI Express Base 7.0). -/
def aerInternal : Nat := 2 ^ 22

/-- The virtual switch a requester's port belongs to: by its USP, or by its binding. -/
def State.switchOf (s : State) (p ldid : Nat) : Option Nat :=
  match s.uspOf p with
  | some v => some v
  | none => (s.vppbBelow p ldid).map (·.1)

/-- A contained internal error that answered a host's request is reported as non-fatal on the USP of that host's switch
(R598). -/
def State.reportInternal (s : State) (p : Nat) : State :=
  match s.uspOf p with
  | some v => s.uspReport v false aerInternal
  | none => s

/-- Whether the routing vPPB answers discarded requests with Unsupported Request (R597). -/
def State.dpcCompletion (s : State) (vppb : Option (Nat × Nat)) : Bool :=
  match vppb with
  | some (v, b) => (s.vppb v b).dpcCompletion
  | none => false

/-- A frame that the device discards without an answer, counted (R87, R294, R302). -/
def State.countLost (s : State) : State := { s with sw := { s.sw with lostFrames := s.sw.lostFrames + 1 } }

/-- The answer to a discarded request, to the port it came from (R597); `unrouted` selects the second row of the table. A
write loss names the port the write was for, `to_`, which is the port it came from where no port was found. -/
def State.answerDiscarded (s : State) (unrouted : Bool) (frm to_ tag ldid : Nat) (kind : FrameKind)
    (vppb : Option (Nat × Nat)) (addr tenant : Nat) : State :=
  match kind with
  | .ioRead | .ioAtomic _ | .ioSpace | .config =>
    s.emit (.answer frm tag (if unrouted || s.dpcCompletion vppb then ansUR else ansCA) false)
  | .ioWrite | .farAtomic _ =>
    let s1 := s.countLost
    if unrouted then
      match s.switchOf frm ldid with
      | some v => s1.uspReport v false aerUnsupported
      | none => s1
    else s1
  | .memReq k =>
    match k with
    | .wr | .wb => (s.emit (.answer frm tag ansCmp false)).writeLoss to_ addr tenant (if unrouted then 2 else 1)
    | .ev => s.emit (.answer frm tag ansCmp false)
    | .rdS | .rdE | .rdNc | .at => s.emit (.answer frm tag ansDRS true)
  | .cacheReq _ => s.emit (.answer frm tag ansGoErr true)
  | .message | .completion | .response | .wrap => s.countLost

end Sys2Proof.Machine
end

