-- ==== Sys2Proof/Machine/GleanerOps.lean ====
section
/-! DEFINITION. The Gleaner: marking pages, the bitmap cache, the record ring and the assume-all-dirty epoch (R402 to
R408). -/

namespace Sys2Proof.Machine

/-- Records in the ring not yet consumed, modulo 2^32 (R402). -/
def State.gleanerFill (s : State) (t : Nat) : Nat :=
  (s.get .gleanerHead t + 2 ^ 32 - s.get .gleanerTail t) % 2 ^ 32

/-- A record is due with a full ring: the assume-all-dirty epoch begins and EVENT is raised (R406). -/
def State.assumeAllDirty (s : State) (t : Nat) : State :=
  (s.put .gleanerAlldirty t 0 1).raiseT0 .gleanerEvent t

/-- PHASE of record `k` in a ring of `n` records (R405). -/
def recordPhase (k n : Nat) : Nat := 1 - k / n % 2

/-- Log one record: it takes the next number of the ring and waits to be written, at most 10 µs; during the epoch none is
written, and a full ring begins it (R405, R406). -/
def State.logRecord (s : State) (t body : Nat) : State :=
  let n := s.get .gleanerRingRecs t
  if s.get .gleanerAlldirty t == 1 then s
  else if s.gleanerFill t == n then s.assumeAllDirty t
  else
    let k := s.get .gleanerHead t
    let s1 := s.put .gleanerHead t 0 (k + 1)
    s1.modTenant t (fun x =>
      { x with pendingRecords := x.pendingRecords ++ [body + 2 ^ 63 * recordPhase k n]
               recordDue := if x.pendingRecords.isEmpty then s.ftb + 10000 else x.recordDue })

/-- The page of an address, by GRAN (R405). -/
def State.gleanerPage (s : State) (t addr : Nat) : Nat :=
  if s.get .gleanerGran t == 0 then addr / 2 ^ 12 else addr / 2 ^ 21

/-- How many entries the bitmap cache holds, over all tenants (R404). -/
def State.bitmapEntries (s : State) : Nat := (s.tenants.map (fun e => e.2.bitmap.length)).sum

/-- Take the `n`-th entry out of the bitmap cache. -/
def dropBitmap : Tab TenantState → Nat → Tab TenantState
  | [], _ => []
  | (t, x) :: rest, n =>
    if n < x.bitmap.length then (t, { x with bitmap := x.bitmap.eraseIdx n }) :: rest
    else (t, x) :: dropBitmap rest (n - x.bitmap.length)

/-- Make room for a new entry in the cache of 16,384 entries in 8 ways: which entry gives way, and whether one does while
the cache is not full, is a free value, since the sets are not given (R404). -/
def State.evictBitmap (s : State) : State :=
  let n := s.bitmapEntries
  if n < 8 then s
  else
    let pick := s.free
    let s1 := s.drawn
    if n < 16384 then (if pick < n then { s1 with tenants := dropBitmap s1.tenants pick } else s1)
    else { s1 with tenants := dropBitmap s1.tenants (pick % n) }

/-- Mark the page of an address for a logging tenant: a page already marked in this pass is not logged again (R403,
R404). -/
def State.gleanerMark (s : State) (t addr : Nat) : State :=
  if s.get .gleanerEnable t == 1 then
    let page := s.gleanerPage t addr
    let e := page / 64
    match Tab.find (s.tenant t).bitmap e with
    | some m =>
      if bitOf m (page % 64) then s
      else
        (s.modTenant t (fun x => { x with bitmap := Tab.set x.bitmap e (m + 2 ^ (page % 64)) })).logRecord t
          (page + 2 ^ 45 * s.get .gleanerGran t)
    | none =>
      (s.evictBitmap.modTenant t (fun x => { x with bitmap := Tab.set x.bitmap e (2 ^ (page % 64)) })).logRecord t
        (page + 2 ^ 45 * s.get .gleanerGran t)
  else s

/-- The marker record of a pass (R405). -/
def passMarker (n : Nat) : Nat := n % 2 ^ 32 + 2 ^ 62

/-- The records of the first line still pending, with the number of the first one, and what stays pending. -/
def State.pendingLine (s : State) (t : Nat) : Nat × List Nat × List Nat :=
  let recs := (s.tenant t).pendingRecords
  let n := max (s.get .gleanerRingRecs t) 1
  let first := (s.get .gleanerHead t + 2 ^ 32 - recs.length % 2 ^ 32) % 2 ^ 32
  let slot := first % n
  let room := min (8 - slot % 8) (n - slot)
  (first, recs.take room, recs.drop room)

/-- Write the pending records of one 64-byte line to the ring (R405). -/
def State.writeRecords (s : State) (t : Nat) : State :=
  let (first, now, later) := s.pendingLine t
  let base := s.get .gleanerRingBase t + 8 * (first % max (s.get .gleanerRingRecs t) 1)
  let s1 := { s with pool := memPutBytes s.pool base (now.flatMap (toLE 8)) }
  s1.modTenant t (fun x => { x with pendingRecords := later })

/-- Write every pending record of a tenant (R408, OP 0; R410 step 6). -/
def State.flushRecords (s : State) (t : Nat) : Nat → State
  | 0 => s
  | n + 1 => if (s.tenant t).pendingRecords.isEmpty then s else (s.writeRecords t).flushRecords t n

/-- Every pending record of a tenant is written out: each write takes at least one. -/
def State.flushAllRecords (s : State) (t : Nat) : State := s.flushRecords t (s.tenant t).pendingRecords.length

/-- Records 10 µs old are written (R405). -/
def State.recordsDue (s : State) : State :=
  ((s.tenants.filter (fun e => !e.2.pendingRecords.isEmpty && decide (e.2.recordDue ≤ s.ftb))).map (·.1)).foldl (fun s t => s.flushAllRecords t) s

/-- A new pass begins at its commit's boundary: PASS increases, the bitmap entries go, the marker is logged, and the
writes checked before the boundary have TENANT.TIMEOUT to be accepted (R407). -/
def State.beginPass (s : State) (t pass : Nat) : State :=
  let s1 := (s.put .gleanerPass t 0 pass).modTenant t (fun x =>
    { x with bitmap := [], passAt := some (s.ftb + s.get .tenantTimeout t), passFrom := s.sw.nextFrame })
  s1.logRecord t (passMarker (pass % 2 ^ 32))

end Sys2Proof.Machine
end

