-- ==== Sys2Proof/Machine/CoherenceOps.lean ====
section
/-! DEFINITION. The coherent pool agent: the directory, the line-lock table, the Loft, snoops, peers, atomics and dead
agents (R326 to R373, R593, R594). A request that needs a holder, memory, a peer or a Loft way waits in the line-lock
table, and the event it waits for carries it on. -/

namespace Sys2Proof

/-! ### Kinds and atomics -/

/-- C_REQ operation of a request (R356). -/
def CohKind.reqOp : CohKind → Nat
  | .rdS => 0
  | .rdE => 1
  | .rdNc => 2
  | .wr => 3
  | .at => 4
  | _ => 2

/-- Bytes of an atomic operand (R356): 4, 8 or 16. -/
def AtomicOp.bytes (o : AtomicOp) : Nat := 4 * 2 ^ o.size.val

/-- The operand's place in a line as it is before the operation. -/
def AtomicOp.old (o : AtomicOp) (line : LineData) : Nat := line.toNat / 2 ^ (8 * o.offset.val) % 2 ^ (8 * o.bytes)

/-- The operand after the operation (R357). -/
def AtomicOp.new (o : AtomicOp) (old : Nat) : Nat :=
  let m := 2 ^ (8 * o.bytes)
  let v := o.operand.toNat % m
  match o.op.val with
  | 0 => (old + v) % m
  | 1 => v
  | 2 => if old = o.compare.toNat % m then v else old
  | 3 => old &&& v
  | 4 => old ||| v
  | 5 => old ^^^ v
  | 6 => min old v
  | _ => max old v

/-- The line after the operation. -/
def AtomicOp.apply (o : AtomicOp) (line : LineData) : LineData :=
  let old := o.old line
  BitVec.ofNat 512 (line.toNat - old * 2 ^ (8 * o.offset.val) + o.new old * 2 ^ (8 * o.offset.val))

end Sys2Proof

namespace Sys2Proof.Machine

/-! ### Parts -/

/-- Change the coherent pool agent. -/
def State.modCoh (s : State) (f : Coherence → Coherence) : State := { s with coh := f s.coh }

/-- The transaction that holds a line, if one does. -/
def State.lock (s : State) (line : Nat) : Option Transaction := Tab.find s.coh.locks line

/-- Put a transaction on a line. -/
def State.setLock (s : State) (line : Nat) (x : Transaction) : State :=
  s.modCoh (fun c => { c with locks := Tab.set c.locks line x })

/-- The directory entry of a line; an entry not listed is I. -/
def State.entry (s : State) (line : Nat) : DirEntry := Tab.get {} s.coh.dir line

/-- Write the directory entry of a line; an entry in I is free. -/
def State.setEntry (s : State) (line : Nat) (e : DirEntry) : State :=
  if e.state = .invalid then s.modCoh (fun c => { c with dir := Tab.drop c.dir line })
  else s.modCoh (fun c => { c with dir := Tab.set c.dir line { e with used := c.clock }, clock := c.clock + 1 })

/-- The unit of a line's slice, for its counters (R564). -/
def sliceUnit (line : Nat) : Nat := 64 + sliceOf line

/-- What a coherence event brings for the filters of a counter. -/
def lineAttrs (line : Nat) (tenant : Option Nat) : EventAttrs := { tenant := tenant, line := some (line * 64) }

/-- Count a slice event of R569. -/
def State.countLine (s : State) (line ev : Nat) (tenant : Option Nat) (n : Nat := 1) : State :=
  s.count (sliceUnit line) ev (lineAttrs line tenant) n

/-! ### Agents -/

/-- An agent besides its object fields. -/
def State.agent (s : State) (a : Nat) : AgentState := Tab.get {} s.coh.agents a

/-- Change an agent. -/
def State.modAgent (s : State) (a : Nat) (f : AgentState → AgentState) : State :=
  s.modCoh (fun c => { c with agents := Tab.modify {} c.agents a f })

/-- LIVE of an agent (R328). -/
def State.live (s : State) (a : Nat) : Bool := s.get .agentLive a == 1

/-- Whether an agent has died and has not become live since (R362). -/
def State.died (s : State) (a : Nat) : Bool := !s.live a && (s.agent a).reason != 0

/-- The agent that a BI-ID, cache ID or PBR ID names on a port (R327, R328). -/
def State.agentAt (s : State) (p : Nat) (id : Option Nat) : Option Nat :=
  match id with
  | none => none
  | some i => (List.range 512).find? (fun a =>
      s.get .agentKind a != 0 && s.get .agentPort a == p && s.get .agentBiid a == i)

/-- The agent a peer device is, by its Trunk port (R328, KIND 3). -/
def State.peerAgent (s : State) (p : Nat) : Option Nat :=
  (List.range 512).find? (fun a => s.get .agentKind a == 3 && s.get .agentPort a == p)

/-- Whether a port runs 68 B flits (R196). -/
def State.flit68 (s : State) (p : Nat) : Bool :=
  match (s.port p).info with
  | some i => i.flit68
  | none => false

/-- Whether PD3 and PD4 are on and tracking is not going off (R369). -/
def State.tracking (s : State) : Bool := s.domainOn 3 && s.domainOn 4 && !s.coh.untracked

/-! ### The Loft (R348, R593, R594) -/

/-- The other lines in the Loft set of a line (R348). -/
def State.loftSet (s : State) (line : Nat) : Tab LoftLine :=
  s.coh.loft.filter (fun e => sliceOf e.1 == sliceOf line && e.1 % 2 ^ 11 == line % 2 ^ 11 && e.1 != line)

/-- The Loft's copy of a line. -/
def State.loftLine (s : State) (line : Nat) : Option LoftLine := Tab.find s.coh.loft line

/-- While all 16 ways of a set are held, requests to it are served uncached (R593). -/
def State.loftBlocked (s : State) (line : Nat) : Bool :=
  (s.loftLine line).isNone && decide (16 ≤ (s.loftSet line).length) && (s.loftSet line).all (fun e => e.2.held)

/-- Put a line in the Loft. -/
def State.loftPut (s : State) (line : Nat) (l : LoftLine) : State :=
  s.modCoh (fun c => { c with loft := Tab.set c.loft line { l with used := c.clock }, clock := c.clock + 1 })

/-- Take a line out of the Loft. -/
def State.loftDrop (s : State) (line : Nat) : State := s.modCoh (fun c => { c with loft := Tab.drop c.loft line })

/-- Write data for a line into the Loft as dirty; a held line stays held (R348, R593). -/
def State.loftStore (s : State) (line : Nat) (data : LineData) (poison remote : Bool) (tenant : Nat) (home : Option Nat) :
    State :=
  let held := match s.loftLine line with | some l => l.held | none => false
  s.loftPut line { data, dirty := true, poison, held, remote, tenant, home, used := 0 }

/-- Which way a new line of a set can take. -/
inductive Way
  | free
  | clean (victim : Nat)
  | dirty (victim : Nat)
  | none
  deriving DecidableEq, Repr

/-- Find a way for a line: a free one, or the victim that a free value picks among the ways that are not held, since the
tree of the pseudo-LRU is not given (R348). -/
def State.findWay (s : State) (line : Nat) : Way :=
  if (s.loftLine line).isSome || decide ((s.loftSet line).length < 16) then .free
  else
    let cand := (s.loftSet line).filter (fun e => !e.2.held && (Tab.find s.coh.writes e.1).isNone)
    match cand[s.free % max cand.length 1]? with
    | some (v, l) => if l.dirty then .dirty v else .clean v
    | none => .none

/-! ### Messages to peers (R356) -/

/-- The credit pool of a coherence message type (R215). -/
def cohPool (type : Nat) : Nat :=
  match type with
  | 0x20 => 9
  | 0x21 => 10
  | 0x22 => 11
  | 0x23 => 12
  | _ => 13

/-- Bytes 2 to 31 of a coherence bypass message, then its data where it is LONG (R356). -/
def cohBytes (txn line op tenant attr offset operand compare : Nat) (data : Option LineData) : List Byte :=
  toLE 2 txn ++ toLE 7 line ++ toLE 1 op ++ toLE 2 tenant ++ toLE 1 attr ++ toLE 1 offset ++ toLE 8 operand ++
  toLE 8 compare ++ (match data with | some d => toLE 64 d.toNat | none => [])

/-- Queue a bypass message on a Trunk port (R214, R215). -/
def State.sendBypass (s : State) (p type pool : Nat) (body : List Byte) : State :=
  s.modPort p (fun x => { x with trunk := { x.trunk with
    bypass := x.trunk.bypass ++ [{ type, pool, long := decide (30 < body.length), body, queued := s.ftb }] } })

/-- Take the first thing of a type that a Trunk port has released and that meets a test, a frame under type 0; the slots of a
message are freed as it is consumed (R220, R241). -/
def State.takeArrived (s : State) (p type : Nat) (ok : List Byte → Bool) : Option (List Byte × State) :=
  ((s.port p).ctl.arrived.find? (fun e => e.1 == type && ok e.2)).map (fun e =>
    (e.2, s.modPort p (fun x =>
      let q := if 1 ≤ type && type ≤ 7 then 8 else cohPool type
      { x with ctl := { x.ctl with arrived := x.ctl.arrived.erase e }
               trunk := if type = 0 then x.trunk else { x.trunk with
                 admitted := Tab.set x.trunk.admitted q ((Tab.get 0 x.trunk.admitted q + (if 30 < e.2.length then 3 else 1)) % 2 ^ 24) } })))

/-- A command that stands for a Trunk message acts where the port has released that message, and changes nothing otherwise. -/
def State.onMessage (s : State) (p type : Nat) (body : List Byte) (act : State → State) : State :=
  match s.takeArrived p type (fun b => b.take body.length == body) with
  | some (_, s1) => act s1
  | none => s

/-- The bytes of a coherence message as it arrives (R356). -/
def cohBody (type : Nat) (m : CohBypass) : List Byte :=
  let long := type == 0x24 || (type == 0x22 && m.op.toNat == 0) || (type == 0x20 && m.op.toNat == 3)
  cohBytes m.txn.toNat m.line.toNat m.op.toNat m.tenant.val m.attr.toNat m.offset.toNat m.operand.toNat m.compare.toNat
    (if long then some m.data else none)

/-- Queue a coherence message for a peer. -/
def State.sendPeer (s : State) (p type txn line op tenant attr : Nat) (data : Option LineData) (offset operand compare : Nat := 0) :
    State :=
  s.sendBypass p type (cohPool type) (cohBytes txn line op tenant attr offset operand compare data)

/-- The next transaction number of this device (R356). -/
def State.takeTxn (s : State) : State := s.modCoh (fun c => { c with nextTxn := (c.nextTxn + 1) % 2 ^ 16 })

/-! ### Memory writes (R340, R363, R593) -/

/-- Append a dead-agent record, the oldest giving way in a full ring (R365). -/
def State.appendDead (s : State) (line agent reason tenant tick action : Nat) : State :=
  let r : DeadRecord :=
    { tick, line, agent, tenant, reason, action, slice := sliceOf line, epoch := s.ledger.epoch, seq := s.coh.deadSeq }
  s.modCoh (fun c =>
    { c with deadlog := (if c.deadlog.length < Config.deadRecords then c.deadlog else c.deadlog.drop 1) ++ [r]
             deadLost := if c.deadlog.length < Config.deadRecords then c.deadLost else c.deadLost + 1
             deadSeq := c.deadSeq + 1 })

/-- A dirty line whose writeback cannot be completed is held, poisoned (R593). -/
def State.holdLine (s : State) (line : Nat) : State :=
  match s.loftLine line with
  | some l =>
    let s1 := s.modCoh (fun c => { c with loft := Tab.set c.loft line { l with held := true, poison := true, dirty := true } })
    if l.held then s1
    else s1.contain (ErrorAt.atUnit { code := 0x0204, place := l.home.getD 0xFFFF, tenant := l.tenant, addr := line * 64,
                                      detail := [1] } (sliceUnit line))
  | none => s

/-- Whether two memory requests share a home station and a slice (R340). -/
def MemAsk.group (a b : MemAsk) : Bool := portStation a.port == portStation b.port && sliceOf a.line == sliceOf b.line

/-- A slice sends a memory request once it has an entry at the home station, which keeps 32 for each slice; until then the request
waits (R340). -/
def State.memAsk (s : State) (a : MemAsk) (m : Msg) : State :=
  if (s.coh.memOpen.filter a.group).length < 32 && !s.coh.memWaiting.any (fun e => a.group e.1) then
    (s.modCoh (fun c => { c with memOpen := c.memOpen ++ [a] })).emit m
  else s.modCoh (fun c => { c with memWaiting := c.memWaiting ++ [(a, m)] })

/-- Whether the memory request for a line still waits for its entry. -/
def State.memWaits (s : State) (line : Nat) (write : Bool) : Bool :=
  s.coh.memWaiting.any (fun e => e.1.line == line && e.1.write == write)

/-- A memory request has ended: its entry goes to the next that waits for one there (R340). -/
def State.memDone (s : State) (line : Nat) (write : Bool) : State :=
  match s.coh.memOpen.find? (fun a => a.line == line && a.write == write) with
  | some a =>
    let s1 := s.modCoh (fun c => { c with memOpen := c.memOpen.erase a })
    match s1.coh.memWaiting.find? (fun e => a.group e.1) with
    | some e => (s1.modCoh (fun c => { c with memWaiting := c.memWaiting.erase e, memOpen := c.memOpen ++ [e.1] })).emit e.2
    | none => s1
  | none => s.modCoh (fun c => { c with memWaiting := c.memWaiting.filter (fun e => !(e.1.line == line && e.1.write == write)) })

/-- A memory write ends: a written line is clean, a held one that was written leaves, and the record of a poisoned write
is appended (R363, R365, R593). -/
def State.memWriteEnd (s : State) (line : Nat) (ok : Bool) : State :=
  match Tab.find s.coh.writes line with
  | none => s
  | some w =>
    let s1 := (s.memDone line true).modCoh (fun c => { c with writes := Tab.drop c.writes line })
    match w with
    | .writeback | .farAtomic =>
      if ok then s1.modCoh (fun c => { c with loft := c.loft.map (fun e =>
        if e.1 = line then (e.1, { e.2 with dirty := false }) else e) })
      else s1.holdLine line
    | .held =>
      if ok then
        match s1.loftLine line with
        | some l =>
          let s2 := s1.loftDrop line
          if l.poison then
            s2.contain (ErrorAt.atUnit { code := 0x0205, place := l.home.getD 0xFFFF, tenant := l.tenant,
                                         addr := line * 64, detail := [1] } (sliceUnit line))
          else s2
        | none => s1
      else s1
    | .poisoned a reason t tick =>
      if ok then s1.appendDead line a reason t tick 1
      else (s1.holdLine line).appendDead line a reason t tick 2

/-- Write a line to its memory device; with its port down the write fails at once (R340, R593). A remote line is sent to
its home as a WB (R348). -/
def State.memWrite (s : State) (line : Nat) (home : Option Nat) (data : LineData) (poison : Bool) (w : MemWrite)
    (mask : BitVec 64 := BitVec.allOnes 64) : State :=
  let s1 := s.modCoh (fun c => { c with writes := Tab.set c.writes line w })
  match home with
  | some p =>
    if s.portUp p then
      if s.get .portProto p == 2 then (s1.sendPeer p 0x22 0 line 0 0 0 (some data)).memWriteEnd line true
      else s1.memAsk { port := p, line, write := true } (.memWrite p line data mask poison)
    else s1.memWriteEnd line false
  | none => s1.memWriteEnd line false

/-! ### Answers -/

/-- Give the requester its data or grant: `state` is 0 I, 1 S, 2 E (R345, R356, R460). -/
def State.give (s : State) (line : Nat) (r : SliceRequest) (state : Nat) (data : Option LineData) (poison : Bool)
    (devLoad : Nat) : State :=
  let s1 := if state = 2 then s.gleanerMark r.tenant (line * 64) else s
  let s1 := match r.agent with
    | some a => s1.modCoh (fun c => { c with evictAcks := c.evictAcks.erase (a, line) })
    | none => s1
  match r.peerTxn with
  | some txn =>
    match data with
    | some d => s1.sendPeer r.port 0x24 txn line 0 r.tenant ((if poison then 1 else 0) + 4 * state) (some d)
    | none => s1.sendPeer r.port 0x23 txn line 2 r.tenant 0 none
  | none => s1.emit (.grant r.port r.agent line state data poison devLoad)

/-- What is owed to an agent that has died is discarded (R362). -/
def State.owed (s : State) (r : SliceRequest) (answer : State → State) : State := if r.agent.any s.died then s.countLost else answer s

/-- Grant a request, unless its agent has died. -/
def State.grant (s : State) (line : Nat) (r : SliceRequest) (state : Nat) (data : Option LineData) (poison : Bool)
    (devLoad : Nat) : State := s.owed r (fun s => s.give line r state data poison devLoad)

/-- A write or an eviction is complete towards the requester. -/
def State.ack (s : State) (line : Nat) (r : SliceRequest) : State :=
  s.owed r (fun s =>
    match r.peerTxn with
    | some txn => if r.kind = .wr then s.sendPeer r.port 0x23 txn line 3 r.tenant 0 none else s
    | none => s.emit (.written r.port line))

/-- An eviction's completion has been sent, so a BIConflict for it can be answered (R373). -/
def State.noteEvicted (s : State) (a : Option Nat) (line : Nat) : State :=
  match a with
  | some a =>
    if s.coh.biConflicts.contains (a, line) then
      (s.emit (.biAck a line)).modCoh (fun c => { c with biConflicts := c.biConflicts.erase (a, line) })
    else s.modCoh (fun c => { c with evictAcks := c.evictAcks ++ [(a, line)] })
  | none => s

/-- The completion of a writeback or an eviction is sent, and a BIConflict that waits for it is answered after it (R373). -/
def State.ackRelease (s : State) (line : Nat) (r : SliceRequest) : State := (s.ack line r).noteEvicted r.agent line

/-- The payload of a far-atomic response: bytes 2 to 31 of the coherence message with the old value, or an error code in ATTR, and
the requester's tag (R357). DESIGN CHOICE, log entry 155: its OP is that of the request, and the one error code is 1. -/
def farPayload (txn line tenant attr old tag : Nat) : List Byte := cohBytes txn line 4 tenant attr 0 old 0 none ++ toLE 2 tag

/-- The old value of an atomic (R357, R359, R360). -/
def State.atomicAnswer (s : State) (line : Nat) (r : SliceRequest) (old : Nat) (poison : Bool) : State :=
  s.owed r (fun s =>
    match r.peerTxn, r.far with
    | some txn, _ => s.sendPeer r.port 0x23 txn line 3 r.tenant 0 none 0 old
    | none, some (tag, txn) => s.emit (.farAtomicResponse r.port (farPayload txn line r.tenant (if poison then 1 else 0) old tag))
    | none, none => s.emit (.atomicResult r.port line old poison))

/-- An error answer to a request of a dead agent, which is discarded (R362, R597). -/
def State.refuseRequest (s : State) (line : Nat) (r : SliceRequest) : State :=
  match r.peerTxn with
  | some txn => s.sendPeer r.port 0x23 txn line 4 r.tenant 0 none
  | none =>
    match r.kind with
    | .rdS | .rdE | .rdNc => s.give line r 0 (some 0) true 0
    | .wr | .wb => (s.emit (.written r.port line)).writeLoss (r.home.getD r.port) (line * 64) r.tenant 3
    | .ev => s.emit (.written r.port line)
    | .at => if r.far.isSome then s.countLost else s.emit (.answer r.port 0 ansCA false)

/-! ### Lines and atomics -/

/-- Merge written bytes into a line: mask bit i stands for byte i (R348). -/
def mergeLine (old new : LineData) (mask : BitVec 64) : LineData :=
  let wide : LineData := (List.range 64).foldl (fun a i => if mask.getLsbD i then a ||| (0xFF : LineData) <<< (8 * i) else a) 0
  (old &&& ~~~wide) ||| (new &&& wide)

/-- The predictor's place for a line (R358). -/
def predictorKey (line : Nat) : Nat := sliceOf line * 4096 + lineHash line % 4096

/-- Whether an atomic executes near (R358, R360). -/
def State.atomicNear (s : State) (line : Nat) (r : SliceRequest) (o : AtomicOp) : Bool :=
  let support := match r.home with
    | some p => (match (s.port p).info with | some i => i.atomicSizes.getLsbD o.size.val | none => false)
    | none => false
  decide (2 ≤ Tab.get 1 s.coh.predictor (predictorKey line)) || !support || decide (3 ≤ o.op.val)

/-- The predictor learns from what the atomic found on arrival (R358). -/
def State.learnAtomic (s : State) (line : Nat) (r : SliceRequest) (holders : Bool) : State :=
  let k := predictorKey line
  let v := Tab.get 1 s.coh.predictor k
  let v' := if r.waited || holders then min 3 (v + 1) else if (s.loftLine line).isNone then v - 1 else v
  s.modCoh (fun c => { c with predictor := Tab.set c.predictor k v' })

/-! ### Holders and snoops -/

/-- Whether an entry lists an agent, by its pointer or by its group (R333). -/
def DirEntry.lists (e : DirEntry) (a : Nat) : Bool := if e.coarse then e.groups.contains (a / 8) else e.ptrs.contains a

/-- The agents to snoop for an entry, one excluded: every live agent of each set group where it is coarse (R345), but for those on
68 B ports, which can receive no snoop and hold nothing (R196). -/
def State.holders (s : State) (e : DirEntry) (except_ : Option Nat) : List Nat :=
  let all := if e.coarse then (List.range 512).filter (fun a => s.live a && e.groups.contains (a / 8) && !s.flit68 (s.get .agentPort a))
    else e.ptrs
  all.filter (fun a => some a != except_)

/-- The message a snoop of a kind goes out as, by the kind of its agent (R342). -/
def snoopForm (agentKind kind : Nat) : SnoopForm :=
  match agentKind, kind with
  | 1, 0 => .biSnpInv
  | 1, 1 => .biSnpData
  | 1, _ => .biSnpCur
  | 2, 0 => .snpInv
  | 2, 1 => .snpData
  | 2, _ => .snpCur
  | _, _ => .cSnp

/-- Send one snoop (R342): to a peer, C_SNP over its Trunk port. -/
def State.sendSnoop (s : State) (line kind a : Nat) : State :=
  if s.get .agentKind a == 3 then
    (s.sendPeer (s.get .agentPort a) 0x21 s.coh.nextTxn line kind 0 0 none).takeTxn
  else s.emit (.snoop a line kind (snoopForm (s.get .agentKind a) kind))

/-- Send the snoops of a transaction, and count them. -/
def State.sendSnoops (s : State) (line kind : Nat) (agents : List Nat) (coarse : Bool) : State :=
  let s1 := agents.foldl (fun s a => s.sendSnoop line kind a) s
  if agents.isEmpty then s1
  else
    let s2 := s1.countLine line 0x043 none agents.length
    if coarse then s2.countLine line 0x044 none agents.length else s2

/-- Whether the slice may record the requester: a live agent, not in 68 B flits, tracking on, a Loft way to be had, and a
request for a cached copy (R327, R369, R593). -/
def State.cacheable (s : State) (line : Nat) (r : SliceRequest) : Bool :=
  (r.kind = .rdS || r.kind = .rdE) && (match r.agent with | some a => s.live a | none => false) &&
  !s.flit68 r.port && s.tracking && !s.loftBlocked line

/-- The lines of the directory set of a line that have entries or are being given one (R331). -/
def State.dirSet (s : State) (line : Nat) : List Nat :=
  let same : Nat → Bool := fun l => sliceOf l == sliceOf line && l % 2 ^ 15 == line % 2 ^ 15
  let listed := (s.coh.dir.map (·.1)).filter same
  let opens : Transaction → Nat → Bool := fun x l => match x.work with
    | .request r => (r.kind == .rdS || r.kind == .rdE) && s.cacheable l r
    | .prefetch _ _ _ => true
    | _ => false
  listed ++ ((s.coh.locks.filter (fun e => opens e.2 e.1)).map (·.1)).filter (fun l => same l && !listed.contains l)

/-- Agents to snoop for a victim, a coarse entry counting 8 per set bit (R335). -/
def DirEntry.cost (e : DirEntry) : Nat := if e.coarse then 8 * e.groups.length else e.ptrs.length

/-- The order of victims: fewest agents, then S before E (R335). -/
def DirEntry.rank (e : DirEntry) : Nat := 2 * e.cost + (if e.state = .exclusive then 1 else 0)

/-- The victim of a full set: a way without PEND of least rank; among equals a free value picks, since the pseudo-LRU's
tree is not given (R335). -/
def State.dirVictim (s : State) (line : Nat) : Option Nat :=
  let cand := (s.dirSet line).filter (fun l => (s.lock l).isNone)
  let best := (cand.map (fun l => (s.entry l).rank)).foldl min (2 ^ 20)
  let ties := cand.filter (fun l => (s.entry l).rank == best)
  ties[s.free % max ties.length 1]?

/-! ### Reclaim (R361 to R364) -/

/-- The line data that goes with poison: its content is not given. -/
def State.lostData (s : State) : LineData := BitVec.ofNat 512 s.free

/-- Reclaim one entry of a dead agent (R363). -/
def State.reclaimEntry (s : State) (line a : Nat) : State :=
  let e := s.entry line
  if e.coarse || !e.ptrs.contains a then s
  else
    let s0 := s.countLine line 0x049 none
    if e.state = .exclusive then
      let data := match s.loftLine line with | some l => l.data | none => s0.lostData
      let s1 := (s0.drawn.setEntry line { e with state := .invalid }).modCoh (fun c =>
        { c with loft := c.loft.map (fun x => if x.1 = line then (x.1, { x.2 with poison := true }) else x) })
      let s2 := s1.memWrite line e.home data true (.poisoned a (s.agent a).reason e.tenant s.ftb)
      match s2.lock line with
      | some x => s2.setLock line { x with gathered := some ⟨data, true, false⟩ }
      | none => s2
    else
      let ptrs := e.ptrs.filter (· != a)
      s0.setEntry line { e with ptrs := ptrs, state := if ptrs.isEmpty then .invalid else e.state }

/-- An entry that a request touches is reclaimed first from every agent whose scan is not done (R364). -/
def State.reclaimTouched (s : State) (line : Nat) : State :=
  (s.coh.agents.filter (fun e => e.2.scanning)).foldl (fun s e => s.reclaimEntry line e.1) s

/-! ### Serving (R345) -/

/-- Whether a requester is the recorded owner of an E entry (R346). -/
def DirEntry.ownedBy (e : DirEntry) (a : Option Nat) : Bool :=
  e.state = .exclusive && (match a with | some a => e.ptrs.contains a | none => false)

/-- The snoop a request needs, and the agents: 0 SNP_INV, 1 SNP_DOWN, 2 SNP_CUR (R345, R346). -/
def State.snoopsFor (s : State) (line : Nat) (r : SliceRequest) (cached : Bool) : Nat × List Nat :=
  let e := s.entry line
  let others := s.holders e (if cached then r.agent else none)
  if e.state = .invalid || (e.ownedBy r.agent && (r.kind = .rdS || r.kind = .rdE || r.kind = .rdNc)) then (0, [])
  else
    match r.kind with
    | .wr | .at => (0, s.holders e r.agent)
    | .rdE => if cached then (0, others) else if e.state = .exclusive then (2, others) else (0, [])
    | .rdS => if e.state = .exclusive then (if cached then (1, others) else (2, others)) else (0, [])
    | _ => if e.state = .exclusive then (2, others) else (0, [])

/-- Add a sharer to an entry, turning it coarse at the fifth (R333, R345). -/
def DirEntry.addSharer (e : DirEntry) (a : Nat) : DirEntry :=
  if e.coarse then { e with groups := if e.groups.contains (a / 8) then e.groups else e.groups ++ [a / 8] }
  else if e.ptrs.contains a then e
  else if e.ptrs.length < 4 then { e with ptrs := e.ptrs ++ [a] }
  else { e with coarse := true, ptrs := [], groups := ((e.ptrs ++ [a]).map (· / 8)).eraseDups }

/-- The entry a request leaves (R345, R346); `keepers` are the snooped holders that kept a shared copy. -/
def DirEntry.after (e : DirEntry) (r : SliceRequest) (cached : Bool) (keepers : List Nat) : DirEntry :=
  let fresh : DirEntry := { tenant := if e.state = .invalid then r.tenant else e.tenant,
                            home := r.home, remote := e.remote }
  match r.kind, cached, r.agent with
  | .rdS, true, some a =>
    match e.state with
    | .shared => e.addSharer a
    | .invalid => { fresh with state := .shared, ptrs := [a] }
    | .exclusive =>
      if e.ptrs.contains a then { fresh with state := .shared, ptrs := [a] }
      else { fresh with state := .shared, ptrs := (keepers ++ [a]).eraseDups }
  | .rdE, true, some a => { fresh with state := .exclusive, ptrs := [a] }
  | .wr, _, _ => { e with state := .invalid }
  | .at, _, _ => { e with state := .invalid }
  | _, _, _ => e

/-- The state a request is granted: 0 I, 1 S, 2 E. -/
def SliceRequest.grantState (r : SliceRequest) (cached : Bool) : Nat :=
  if cached then (if r.kind = .rdE then 2 else 1) else 0

/-- Whether a request needs the line's data from the nearest source (R345, R348, R359). -/
def State.needsData (s : State) (line : Nat) (r : SliceRequest) (x : Transaction) (cached : Bool) : Bool :=
  match r.kind with
  | .rdS | .rdNc => true
  | .rdE => (r.home.any (fun p => s.get .portProto p == 2) && (s.entry line).state != .exclusive) || !(cached && (s.entry line).state = .shared && !(s.entry line).coarse && (match r.agent with | some a => (s.entry line).lists a | none => false))
  | .wr => (match r.write with | some w => w.mask != BitVec.allOnes 64 | none => false)
  | .at => x.near
  | _ => false

/-- The cost in ticks of a source reached through a port (R350). -/
def State.sourceCost (s : State) (line p : Nat) : Nat :=
  s.field .nearLat p + 2 * ringHops (sliceStop (sliceOf line)) (stationStop (portStation p))

/-- Sources of a line (R350). -/
inductive Source
  | loft
  | memory (port : Nat)
  | peer (port agent : Nat)
  | none
  deriving DecidableEq, Repr

/-- The peers eligible to serve a line: listed in a precise S entry, with their port up and a LAT below 0xFFFF (R350,
R351). -/
def State.peerSources (s : State) (line : Nat) (avoid : Bool) : List (Nat × Nat) :=
  let e := s.entry line
  if avoid || e.coarse || e.state != .shared || e.remote then []
  else (e.ptrs.filter (fun a => s.get .agentKind a == 3 && s.live a && s.portUp (s.get .agentPort a) &&
    s.field .nearLat (s.get .agentPort a) != 0xFFFF)).map (fun a => (s.get .agentPort a, a))

/-- The better of two sources with their costs: ties go to the first (R350). -/
def cheaper (a b : Nat × Source) : Nat × Source := if b.1 < a.1 then b else a

/-- The nearest source: ties go to the Loft, then to memory, then to the lower port (R350). The Loft never serves a line
whose state is E (R349). -/
def State.nearest (s : State) (line : Nat) (r : SliceRequest) (noPeer : Bool) : Source :=
  let loft : Nat × Source :=
    if (s.loftLine line).isSome && (s.entry line).state != .exclusive && s.field .nearLat 128 != 0xFFFF
    then (s.field .nearLat 128, .loft) else (2 ^ 30, .none)
  let mem : Nat × Source :=
    match r.home with
    | some p => (s.sourceCost line p, .memory p)
    | none => (2 ^ 30, .none)
  let named := s.peerSources line noPeer
  let peers := (List.range 128).filterMap (fun p =>
    (named.find? (fun e => e.1 == p)).map (fun e => (s.sourceCost line e.1, Source.peer e.1 e.2)))
  (peers.foldl cheaper (cheaper loft mem)).2

/-- Whether a line's home is a peer device (R353). -/
def State.remoteHome (s : State) (r : SliceRequest) : Option Nat :=
  match r.home with
  | some p => if s.get .portProto p == 2 then some p else none
  | none => none

/-- The lines to prefetch after a remote miss, within the page (R355). -/
def State.prefetch (s : State) (line p tenant : Nat) : State :=
  match s.peerAgent p with
  | some a =>
    ((List.range (s.get .agentPrefetch a)).map (fun i => line + i + 1)).foldl (fun s l =>
      if l / 64 == line / 64 then (s.sendPeer p 0x20 s.coh.nextTxn l 5 tenant 0 none).takeTxn else s) s
  | none => s

/-- Read the line from its nearest source, and wait for it where it is not the Loft (R350, R353). A line with no source
fails. -/
def State.fetchLine (s : State) (line : Nat) (r : SliceRequest) (x : Transaction) (noPeer : Bool) : State × Transaction :=
  match s.remoteHome r with
  | some p =>
    match (if (s.entry line).state == .shared && (r.kind = .rdS || r.kind = .rdNc) then s.loftLine line else none) with
    | some l => ((s.countLine line 0x041 (some r.tenant)), { x with gathered := some ⟨l.data, l.poison, false⟩ })
    | none =>
      let op := if r.kind = .wr then 1 else r.kind.reqOp
      let s1 := (s.sendPeer p 0x20 s.coh.nextTxn line op r.tenant 0 none).takeTxn
      let s2 := if r.kind = .rdS then s1.prefetch line p r.tenant else s1
      (s2, { x with wait := .home s.coh.nextTxn, readAt := s.ftb, asked := some p })
  | none =>
    match s.nearest line r noPeer with
    | .loft =>
      match s.loftLine line with
      | some l => (s.countLine line 0x041 (some r.tenant), { x with gathered := some ⟨l.data, l.poison, false⟩ })
      | none => (s, { x with failed := true })
    | .memory p =>
      if s.portUp p then (s.memAsk { port := p, line, write := false } (.memRead p line), { x with wait := .memory, readAt := s.ftb })
      else (s, { x with failed := true })
    | .peer p _ =>
      ((s.sendPeer p 0x21 s.coh.nextTxn line 2 r.tenant 0 none).takeTxn,
        { x with wait := .home s.coh.nextTxn, readAt := s.ftb, asked := some p })
    | .none => (s, { x with failed := true })

/-- The lock of a line is free, or waits to be handed to the next request (R343); a transaction that a home's snoop had
set aside goes on (R354). -/
def State.unlock (s : State) (line : Nat) (x : Transaction) : State :=
  match Tab.find s.coh.suspended line with
  | some y => (s.modCoh (fun c => { c with suspended := Tab.drop c.suspended line })).setLock line { y with queue := y.queue ++ x.queue }
  | none =>
  if x.queue.isEmpty then s.modCoh (fun c => { c with locks := Tab.drop c.locks line })
  else s.setLock line { x with wait := .handoff, snooped := [], gathered := none }

/-- Take a way of the Loft for a line, now or after the victim's write (R348): `none` says that no way can be had. A victim
whose write has ended at once is clean, or held where it failed, and the search goes on. -/
def State.takeWayFuel : Nat → State → Nat → State × Way
  | 0, s, _ => (s, .none)
  | k + 1, s, line =>
    match s.findWay line with
    | .free => (s, .free)
    | .clean v => (s.drawn.loftDrop v, .free)
    | .dirty v =>
      match s.loftLine v with
      | some l =>
        let s1 := s.drawn.memWrite v l.home l.data l.poison .writeback
        if (Tab.find s1.coh.writes v).isSome then (s1, .dirty v) else State.takeWayFuel k s1 line
      | none => (s.drawn, .none)
    | .none => (s, .none)

/-- Take a way of the Loft for a line: at most each of the 16 ways is written, then dropped. -/
def State.takeWay (s : State) (line : Nat) : State × Way := State.takeWayFuel 33 s line

/-- What a request writes into the Loft when it completes: the line, its poison, and whether it is dirty (R345, R348,
R359, R594). -/
def State.loftResult (s : State) (line : Nat) (r : SliceRequest) (x : Transaction) : Option (LineData × Bool × Bool) :=
  match r.kind with
  | .wr | .wb =>
    match r.write with
    | some w =>
      if w.mask = BitVec.allOnes 64 then some (w.data, w.poison, true)
      else
        match x.gathered with
        | some g => some (mergeLine g.data w.data w.mask, g.poison || w.poison, true)
        | none => none
    | none => none
  | .at =>
    match x.gathered, r.atomic, x.near with
    | some g, some o, true => some (o.apply g.data, g.poison, true)
    | some g, _, false => if g.holder then some (g.data, g.poison, true) else none
    | _, _, _ => none
  | _ =>
    match x.gathered with
    | some g =>
      if g.holder then some (g.data, g.poison, true)
      else if (s.loftLine line).isSome then none else some (g.data, g.poison, false)
    | none => none

/-- Answer a request and leave the entry as R345 states. A failed read gives poisoned data and records no one (R347). -/
def State.concludeRequest (s : State) (line : Nat) (x : Transaction) (r : SliceRequest) (cached : Bool) : State :=
  let e := s.entry line
  if x.failed then
    let s1 := match r.kind with
      | .wr | .wb => (s.ack line r).writeLoss (r.home.getD r.port) (line * 64) r.tenant 4
      | .at => s.atomicAnswer line r s.free true
      | _ => s.grant line r 0 (some s.lostData) true 0
    let s2 := s1.drawn.reportInternal r.port
    (s2.setEntry line { e with state := .invalid }).unlock line x
  else
    let s1 := if r.kind = .wb || r.kind = .ev then s else s.setEntry line (e.after r cached x.keepers)
    let s2 := match r.kind with
      | .wr => s1.ack line r
      | .wb | .ev => s1.ackRelease line r
      | .at =>
        match x.gathered, r.atomic with
        | some g, some o => s1.atomicAnswer line r (o.old g.data) g.poison
        | _, _ => s1
      | _ =>
        match x.gathered with
        | some g => s1.grant line r (r.grantState cached) (some g.data) g.poison x.devLoad
        | none => s1.grant line r (r.grantState cached) none false x.devLoad
    s2.unlock line x

/-- A request has what it needs: its Loft data is stored, after a way is found, and it is answered. With no way to be had,
what it writes goes to memory (R327, R348, R593). -/
def State.completeRequest (s : State) (line : Nat) (x : Transaction) (r : SliceRequest) (cached : Bool) : State :=
  match (if x.failed then none else s.loftResult line r x) with
  | none => s.concludeRequest line x r cached
  | some (d, poison, dirty) =>
    match s.takeWay line with
    | (s1, .dirty v) => s1.setLock line { x with wait := .way v }
    | (s1, .none) =>
      let s2 := if dirty then s1.memWrite line r.home d poison .writeback else s1
      s2.concludeRequest line x r cached
    | (s1, _) =>
      let s2 := if dirty then s1.loftStore line d poison (s.remoteHome r).isSome r.tenant r.home
        else s1.loftPut line { data := d, dirty := false, poison, held := false, remote := (s.remoteHome r).isSome,
                               tenant := r.tenant, home := r.home, used := 0 }
      s2.concludeRequest line x r cached

/-- The far atomic goes on: a dirty Loft line is written first, then the copy is dropped and the operation forwarded
(R360). With the memory device's port down the operation fails, and a dirty line is held (R347, R593). -/
def State.farAtomic (s : State) (line : Nat) (x : Transaction) (r : SliceRequest) (o : AtomicOp) : State :=
  let s0 := match x.gathered with
    | some g => if g.holder then s.loftStore line g.data g.poison false r.tenant r.home else s
    | none => s
  if !r.home.any s0.portUp then
    let s1 := match s0.loftLine line with
      | some l => if l.dirty then s0.holdLine line else s0
      | none => s0
    s1.concludeRequest line { x with failed := true, gathered := none } r false
  else
    match s0.loftLine line with
    | some l =>
      if l.dirty then (s0.setLock line { x with wait := .writeback, gathered := none }).memWrite line r.home l.data l.poison .farAtomic
      else ((s0.loftDrop line).emit (.memAtomic (r.home.getD 0xFF) line o)).setLock line { x with wait := .completion, gathered := none }
    | none => (s0.emit (.memAtomic (r.home.getD 0xFF) line o)).setLock line { x with wait := .completion, gathered := none }

/-- A remote write or atomic goes to the home as C_REQ once the local holders have answered (R353, R360). -/
def State.remoteAct (s : State) (line p : Nat) (x : Transaction) (r : SliceRequest) : State :=
  let txn := s.coh.nextTxn
  let s1 := match r.kind, r.write, r.atomic with
    | .wr, some w, _ => s.sendPeer p 0x20 txn line 3 r.tenant 0 (some w.data)
    | .at, _, some o =>
      s.sendPeer p 0x20 txn line 4 r.tenant (o.size.val + 4 * o.op.val) none o.offset.val (o.operand.toNat % 2 ^ 64)
        (o.compare.toNat % 2 ^ 64)
    | _, _, _ => s
  ((s1.loftDrop line).takeTxn).setLock line { x with wait := .home txn, readAt := s.ftb, asked := some p }

/-- Whether a request to a remote line is carried out by the home (R353, R360). -/
def remoteWhole (r : SliceRequest) : Bool :=
  match r.kind, r.write with
  | .at, _ => true
  | .wr, some w => w.mask == BitVec.allOnes 64
  | _, _ => false

/-- A request goes on: every snoop has its response. -/
def State.advanceRequest (s : State) (line : Nat) (x : Transaction) (r : SliceRequest) : State :=
  let cached := s.cacheable line r
  if x.failed then s.completeRequest line x r cached
  else
    match s.remoteHome r, remoteWhole r with
    | some p, true => s.remoteAct line p x r
    | _, _ =>
      match r.kind, r.atomic, x.near with
      | .at, some o, false => s.farAtomic line x r o
      | _, _, _ =>
        if x.gathered.isNone && s.needsData line r x cached then
          match s.fetchLine line r x (r.kind = .rdE) with
          | (s1, x1) => if x1.wait = .snoops then s1.completeRequest line x1 r cached else s1.setLock line x1
        else s.completeRequest line x r cached

/-- Begin the transaction of a request: the lock, the snoops it needs, and on with it where it needs none (R345). -/
def State.openRequest (s : State) (line : Nat) (r : SliceRequest) (queue : List SliceRequest) : State :=
  let cached := s.cacheable line r
  let e := s.entry line
  let (kind, agents) := s.snoopsFor line r cached
  let near := match r.kind, r.atomic with
    | .at, some o => s.atomicNear line r o
    | _, _ => true
  let s0 := match r.kind with
    | .at => (s.learnAtomic line r (!(s.holders e r.agent).isEmpty)).countLine line (if near then 0x046 else 0x047) (some r.tenant)
    | _ => s
  let s1 := if cached && e.state = .invalid then s0.countLine line 0x042 (some r.tenant) else s0
  let s1 := s1.countLine line 0x04A none (s.ftb - r.arrived)
  let x : Transaction := { work := .request r, wait := .snoops, snooped := agents, snoopKind := kind, snoopAt := s.ftb,
                           near, lockedAt := s.ftb, queue }
  let s2 := (s1.setLock line x).sendSnoops line kind agents e.coarse
  if agents.isEmpty then s2.advanceRequest line x r else s2

/-- Recall a line: SNP_INV to every holder; with none the entry is free at once (R335, R367). -/
def State.recallLine (s : State) (line : Nat) (work : Work) (queue : List SliceRequest) (agents : List Nat) : State :=
  let x : Transaction := { work, wait := .snoops, snooped := agents, snoopKind := 0, snoopAt := s.ftb, lockedAt := s.ftb,
                           queue }
  (s.setLock line x).sendSnoops line 0 agents (s.entry line).coarse

/-- An entry with an uncorrectable error is untracked: it stands as coarse S with every group, and every live agent may hold the
line (R334). -/
def State.untrack (s : State) (line tenant : Nat) (home : Option Nat) : State :=
  let s1 := { s with errors := { s.errors with badDir := s.errors.badDir.filter (· != line) } }
  let s2 := s1.contain (ErrorAt.atUnit { code := 0x0201, addr := line * 64, tenant := tenant,
                                         detail := [sliceOf line, ((List.range 512).filter s.live).length] } (sliceUnit line))
  s2.setEntry line { state := .shared, coarse := true, groups := List.range 64, tenant := tenant, home := home }

/-- The recovery of an untracked entry: every live agent is snooped for the line and its data, and the entry is freed (R334). -/
def State.recoverDir (s : State) (line : Nat) (r : SliceRequest) (queue : List SliceRequest) : State :=
  (s.untrack line r.tenant r.home).recallLine line .recall queue ((List.range 512).filter s.live)

/-- A request begins on an unlocked line: an untracked entry is recovered first (R334), and a full directory set frees a
victim first (R335). -/
def State.beginRequest (s : State) (line : Nat) (r : SliceRequest) (queue : List SliceRequest) : State :=
  let s := s.reclaimTouched line
  if s.errors.badDir.contains line then s.recoverDir line r (r :: queue)
  else if s.cacheable line r && (s.entry line).state = .invalid && decide (16 ≤ (s.dirSet line).length) then
    match s.dirVictim line with
    | some v =>
      let s1 := s.drawn.countLine v 0x045 none
      let s2 := s1.recallLine v (.victim line) [] (s.holders (s.entry v) none)
      s2.setLock line { work := .request r, wait := .victim, lockedAt := s.ftb, queue }
    | none => s.modCoh (fun c => { c with reqBuffers := c.reqBuffers ++ ((line, r) :: queue.map (fun q => (line, q))) })
  else s.openRequest line r queue

/-- Transactions of a slice in its line-lock table, requests waiting behind them included (R343). -/
def State.lockCount (s : State) (line : Nat) : Nat :=
  ((s.coh.locks.filter (fun e => sliceOf e.1 == sliceOf line)).map (fun e => 1 + e.2.queue.length)).sum

/-- With a domain of the pool off, the ring stop takes a request straight to the memory device (R369). -/
def State.direct (s : State) (line : Nat) (r : SliceRequest) : State :=
  match r.kind with
  | .rdS | .rdE | .rdNc =>
    if r.home.any s.portUp then
      (s.memAsk { port := r.home.getD 0xFF, line, write := false } (.memRead (r.home.getD 0xFF) line)).setLock line
        { work := .request r, wait := .memory, readAt := s.ftb, lockedAt := s.ftb }
    else (s.grant line r 0 (some s.lostData) true 0).drawn
  | .wr | .wb =>
    match r.write with
    | some w =>
      if r.home.any s.portUp then (s.memWrite line r.home w.data w.poison .farAtomic w.mask).ack line r
      else (s.ack line r).writeLoss (r.home.getD r.port) (line * 64) r.tenant 1
    | none => s
  | .ev => s.ack line r
  | .at =>
    match r.atomic with
    | some o =>
      if 3 ≤ o.op.val || !(match r.home with
          | some p => (match (s.port p).info with | some i => i.atomicSizes.getLsbD o.size.val | none => false)
          | none => false)
      then (if r.far.isSome then
          match s.switchOf r.port 0 with
          | some v => s.countLost.uspReport v false aerUnsupported
          | none => s.countLost
        else s.emit (.answer r.port 0 ansUR false))
      else (s.emit (.memAtomic (r.home.getD 0xFF) line o)).setLock line 
        { work := .request r, wait := .completion, near := false, lockedAt := s.ftb }
    | none => s

/-- A request arrives at its slice: behind the line's lock, in the REQ buffers of a full table, or served now (R343). One
from an agent that has died is discarded and answered with an error until the agent is live again (R362). -/
def State.arriveRequest (s : State) (line : Nat) (r : SliceRequest) : State :=
  let s := s.countLine line 0x040 (some r.tenant)
  if r.agent.any s.died then (s.refuseRequest line r).countLost
  else if !(s.domainOn 3 && s.domainOn 4) then
    match s.lock line with
    | some x => s.setLock line { x with queue := x.queue ++ [{ r with waited := true }] }
    | none => s.direct line r
  else if 128 ≤ s.lockCount line then s.modCoh (fun c => { c with reqBuffers := c.reqBuffers ++ [(line, r)] })
  else
    match s.lock line with
    | some x => s.setLock line { x with queue := x.queue ++ [{ r with waited := true }] }
    | none => s.beginRequest line r []

/-- Hand the lock of a line to the next request, or take a request out of the REQ buffers (R343). -/
def State.handOff (s : State) (line : Nat) : State :=
  match s.lock line with
  | some x =>
    if x.wait = .handoff then
      match x.queue with
      | r :: rest => s.beginRequest line r rest
      | [] => s.modCoh (fun c => { c with locks := Tab.drop c.locks line })
    else s
  | none =>
    match s.coh.reqBuffers.find? (fun e => e.1 == line) with
    | some e =>
      if 128 ≤ s.lockCount line then s
      else (s.modCoh (fun c => { c with reqBuffers := c.reqBuffers.erase e })).beginRequest line e.2 []
    | none => s

/-! ### When every snoop is answered -/

/-- A recalled line is free: its data goes into the Loft, its entry to I, and whoever waited for the way goes on
(R335, R367). -/
def State.recallDone (s : State) (line : Nat) (x : Transaction) (waiter : Option Nat) : State :=
  let e := s.entry line
  let s1 := s.setEntry line { e with state := .invalid }
  let s2 := match x.gathered with
    | some g =>
      match s1.takeWay line with
      | (s2, .free) => s2.loftStore line g.data g.poison e.remote e.tenant e.home
      | (s2, _) => s2.memWrite line e.home g.data g.poison .writeback
    | none => s1
  let s3 := s2.unlock line x
  match waiter with
  | some w =>
    match s3.lock w with
    | some y =>
      match y.work, y.wait with
      | .request r, .victim => s3.openRequest w r y.queue
      | _, _ => s3
    | none => s3
  | none => s3

/-- Answer the home's snoop: the data a holder or a dirty Loft copy gave, or the state left (R354). -/
def State.answerHome (s : State) (line : Nat) (x : Transaction) (p txn op : Nat) : State :=
  let e : DirEntry := s.entry line
  let own := match x.gathered with
    | some g => some (g.data, g.poison, true)
    | none => (match s.loftLine line with | some l => if l.dirty || op = 2 then some (l.data, l.poison, l.dirty) else none | none => none)
  let s1 : State := match own with
    | some (d, poison, dirty) =>
      s.sendPeer p 0x24 txn line 0 e.tenant ((if poison then 1 else 0) + (if dirty then 2 else 0)) (some d)
    | none => s.sendPeer p 0x23 txn line (if op = 0 then 0 else if e.state == DirState.invalid && (s.loftLine line).isNone then 0 else 1) e.tenant 0 none
  let s2 : State := match op with
    | 0 => (s1.setEntry line { e with state := .invalid }).loftDrop line
    | 1 => if e.state = DirState.exclusive then s1.setEntry line { e with state := if x.keepers.isEmpty then .invalid else .shared, ptrs := x.keepers } else s1
    | _ => s1
  s2.unlock line x

/-- A read that a transaction waits for has ended: its data, or a failure (R347). -/
def State.readEnds (s : State) (line : Nat) (data : Option (LineData × Bool)) (devLoad : Nat) : State :=
  match s.lock line with
  | some x =>
    match x.work with
    | .request r =>
      let cached := s.cacheable line r
      let x' := { x with wait := .snoops, devLoad, failed := data.isNone,
                         gathered := data.map (fun d => ⟨d.1, d.2, false⟩) }
      if !(s.domainOn 3 && s.domainOn 4) then
        match data with
        | some (d, p) => (s.grant line r 0 (some d) p devLoad).unlock line x
        | none => (s.grant line r 0 (some s.lostData) true 0).drawn.unlock line x
      else s.completeRequest line x' r cached
    | _ => s
  | none => s

/-- The answer of the home, or of the chosen peer, to a transaction that waits for it (R352, R353): the data it brings, or
none with a grant, a completion, or an error. A chosen peer that has no copy is taken out of the entry, and the line is read from
its next nearest source. -/
def State.homeAnswers (s : State) (line : Nat) (x : Transaction) (r : SliceRequest) (op old : Nat) (data : Option (LineData × Bool)) :
    State :=
  match data with
  | some d => (s.setLock line { x with late := none }).readEnds line (some d) 0
  | none =>
    match op with
    | 0 | 1 =>
      let e := s.entry line
      let s1 := match x.asked.bind s.peerAgent with
        | some a => s.setEntry line { e with ptrs := e.ptrs.filter (· != a), state := if (e.ptrs.filter (· != a)).isEmpty then .invalid else e.state }
        | none => s
      match s1.fetchLine line r { x with wait := .snoops, late := none } (r.kind = .rdE) with
      | (s2, x2) => if x2.wait = .snoops then s2.completeRequest line x2 r (s2.cacheable line r) else s2.setLock line x2
    | 2 => s.completeRequest line { x with wait := .snoops, late := none } r (s.cacheable line r)
    | 3 =>
      let s1 := s.setEntry line ((s.entry line).after r false x.keepers)
      (if r.kind = .at then s1.atomicAnswer line r old false else s1.ack line r).unlock line x
    | _ =>
      if r.kind = .wr || r.kind = .at then s.concludeRequest line { x with failed := true } r false
      else (s.setLock line { x with late := none }).readEnds line none 0

/-- A request that a home's snoop had set aside goes on, if its answer came meanwhile (R354). -/
def State.resumeAside (s : State) (line : Nat) : State :=
  match s.lock line with
  | some y =>
    match y.work, y.late with
    | .request r, some (op, old, data) => s.homeAnswers line y r op old data
    | .request r, none => if y.wait = .snoops && y.snooped.isEmpty then s.advanceRequest line y r else s
    | _, _ => s
  | none => s

/-- A transaction goes on when its last snoop is answered. -/
def State.advance (s : State) (line : Nat) : State :=
  match s.lock line with
  | some x =>
    if x.wait = .snoops && x.snooped.isEmpty then
      match x.work with
      | .request r => s.advanceRequest line x r
      | .victim w => s.recallDone line x (some w)
      | .recall => s.recallDone line x none
      | .peerSnoop p txn op => (s.answerHome line x p txn op).resumeAside line
      | .prefetch _ _ _ => s
    else s
  | none => s

/-- A snooped agent has answered: its data, if any, and whether it kept a shared copy (R345). -/
def State.snoopAnswered (s : State) (line a : Nat) (kept : Bool) (data : Option (LineData × Bool)) : State :=
  match s.lock line with
  | some x =>
    if x.snooped.contains a then
      let x' := { x with
        snooped := x.snooped.erase a
        keepers := if kept then x.keepers ++ [a] else x.keepers
        gathered := (match data with | some (d, p) => some ⟨d, p, true⟩ | none => x.gathered) }
      (s.setLock line x').advance line
    else s
  | none => s

/-! ### Deaths (R361 to R364) -/

/-- Discard an agent's requests that hold no lock, answering each with an error (R362). -/
def State.discardRequests (s : State) (a : Nat) : State :=
  let mine : SliceRequest → Bool := fun r => r.agent == some a
  let gone := (s.coh.locks.flatMap (fun e => (e.2.queue.filter mine).map (fun r => (e.1, r)))) ++
    s.coh.reqBuffers.filter (fun e => mine e.2)
  let s1 := s.modCoh (fun c =>
    { c with locks := c.locks.map (fun e => (e.1, { e.2 with queue := e.2.queue.filter (fun r => !mine r) })),
             reqBuffers := c.reqBuffers.filter (fun e => !mine e.2) })
  gone.foldl (fun s e => s.refuseRequest e.1 e.2) s1

/-- The death of an agent (R361, R362): LIVE, DEATHS, its open snoops, its requests; its entries are reclaimed as the
slices scan. A peer's remote lines are recalled here (R363). -/
def State.agentDies (s : State) (a reason : Nat) : State :=
  if s.live a then
    let s1 := (s.put .agentLive a 0 0).put .agentDeaths a 0 (saturate 16 (s.get .agentDeaths a + 1))
    let s2 := s1.modAgent a (fun x => { x with scanning := true, reason })
    let s3 := s2.contain { code := 0x0206, detail := [a, reason] }
    let open_ := (s.coh.locks.filter (fun e => e.2.snooped.contains a)).map (·.1)
    let s3 := (s3.discardRequests a).modCoh (fun c =>
      { c with suspended := c.suspended.map (fun e => (e.1, { e.2 with snooped := e.2.snooped.erase a })) })
    let s4 := open_.foldl (fun s l => (s.reclaimEntry l a).snoopAnswered l a false none) s3
    if s.get .agentKind a == 3 then
      let mine := (s4.coh.dir.filter (fun e => e.2.remote && e.2.home == some (s.get .agentPort a) && (s4.lock e.1).isNone)).map (·.1)
      mine.foldl (fun s l => (s.recallLine l .recall [] (s.holders (s.entry l) none)).advance l) s4
    else s4
  else s

/-- An agent becomes live at a commit that writes it, or at a link-up of its port, once its reclaim is done (R329). -/
def State.agentWakes (s : State) (a : Nat) : State :=
  if s.get .agentKind a != 0 && !s.live a && !(s.agent a).scanning && s.portUp (s.get .agentPort a) then
    s.put .agentLive a 0 1
  else s

/-- Every slice has finished scanning for a dead agent; the values AGENT_SET staged take effect (R329, R364). -/
def State.scanEnds (s : State) (a : Nat) : State :=
  if (s.agent a).scanning then
    let s1 := (s.coh.dir.map (·.1)).foldl (fun s l => s.reclaimEntry l a) s
    let s2 := match (s.agent a).staged with
      | some (k, p, b, f) =>
        ((((s1.put .agentKind a 0 k).put .agentPort a 0 p).put .agentBiid a 0 b).put .agentPrefetch a 0 f).bump clsAgent a 0
      | none => s1
    s2.modAgent a (fun x => { x with scanning := false, staged := none })
  else s

/-! ### Writebacks and evictions (R344, R372, R373) -/

/-- The entry after a WB or EV from a listed agent (R345). -/
def DirEntry.released (e : DirEntry) (a : Nat) (keep : Bool) : DirEntry :=
  match e.state with
  | .exclusive => if e.ptrs.contains a then (if keep then { e with state := .shared } else { e with state := .invalid }) else e
  | .shared =>
    if e.coarse then e
    else
      let ptrs := if keep then e.ptrs else e.ptrs.filter (· != a)
      { e with ptrs, state := if ptrs.isEmpty then .invalid else .shared }
  | .invalid => e

/-- Store the data of a WB in the Loft, dirty; a WB that must wait for a way holds the line while it waits (R345, R348). -/
def State.storeWb (s : State) (line : Nat) (r : SliceRequest) : State :=
  match r.write with
  | some w =>
    match s.lock line with
    | some x => (s.setLock line { x with gathered := some ⟨w.data, w.poison, true⟩ }).ackRelease line r
    | none =>
      let x : Transaction := { work := .request r, wait := .snoops, lockedAt := s.ftb,
                               gathered := some ⟨w.data, w.poison, true⟩ }
      s.completeRequest line x r false
  | none => s

/-- A WB or an EV acts at once (R344): it answers a snoop to its sender (R372, R373), or it changes the entry. One from no
live agent is discarded and counted, and answered as R597 says (R327, R362); with PD3 or PD4 off the ring stop sends a WB straight
to memory (R27, R369). -/
def State.release (s : State) (line : Nat) (r : SliceRequest) : State :=
  let s := (s.reclaimTouched line).countLine line 0x040 (some r.tenant)
  let s := if s.errors.badDir.contains line && (s.lock line).isNone then s.recoverDir line r [] else s
  match r.agent with
  | none => (s.refuseRequest line r).countLost
  | some a =>
    if !s.live a then (s.refuseRequest line r).countLost
    else if !(s.domainOn 3 && s.domainOn 4) then s.direct line r
    else
      let e := s.entry line
      let snooped := match s.lock line with | some x => x.snooped.contains a | none => false
      if snooped then
        let kept := r.keepShared && (match s.lock line with | some x => x.snoopKind != 0 | none => false)
        let s1 := (s.ackRelease line r).modCoh (fun c => { c with consumed := c.consumed ++ [(a, line)] })
        let s2 := if (s.lock line).any (fun x => x.snoopKind != 0) || e.coarse then s1
          else s1.setEntry line (e.released a false)
        let s3 := if r.kind = .wb && e.ownedBy (some a) then s2.gleanerMark e.tenant (line * 64) else s2
        s3.snoopAnswered line a kept (r.write.map (fun w => (w.data, w.poison)))
      else if e.state = .invalid then
        let s1 := (s.countLine line 0x048 none).modCoh (fun c => { c with stray := c.stray + 1 })
        if r.kind = .wb then s1.storeWb line r else s1.ackRelease line r
      else
        let s1 := if e.coarse then s.modCoh (fun c => { c with coarseEvict := c.coarseEvict + 1 })
          else s.setEntry line (e.released a r.keepShared)
        if r.kind = .wb then
          let s2 := if e.ownedBy (some a) then s1.gleanerMark r.tenant (line * 64) else s1
          s2.storeWb line r
        else s1.ackRelease line r

/-! ### Data and completions -/

/-- The round trip of a memory read, less the ring hops, joins the last 64 of its holder (R351). -/
def State.sampleNear (s : State) (line p ticks : Nat) : State :=
  let hops := 2 * ringHops (sliceStop (sliceOf line)) (stationStop (portStation p))
  let old := Tab.get [] s.coh.samples p
  let l := (if old.length < 64 then old else old.drop 1) ++ [ticks - hops]
  (s.modCoh (fun c => { c with samples := Tab.set c.samples p l })).put .nearMeas p 0 (saturate 16 (l.sum / l.length))

/-- DevLoad received on a port (R459). -/
def State.noteDevLoad (s : State) (p level : Nat) : State :=
  (s.put .portDevload p 0 level).modPort p (fun x =>
    { x with dlCount := Tab.set x.dlCount level (saturate 16 (Tab.get 0 x.dlCount level + 1)) })

/-- After a line's write has ended, whoever waited for it goes on: a far atomic on the line, or a request that waited for
its way. -/
def State.resumeAfterWrite (s : State) (line : Nat) : State :=
  let waiters := (s.coh.locks.filter (fun e => e.2.wait == .way line)).map (·.1)
  let s1 := waiters.foldl (fun s l =>
    match s.lock l with
    | some x =>
      match x.work with
      | .request r => s.completeRequest l { x with wait := .snoops } r (s.cacheable l r)
      | _ => s
    | none => s) s
  match s1.lock line with
  | some x =>
    match x.work, x.wait with
    | .request r, .writeback =>
      match r.atomic, s1.loftLine line with
      | some o, some l =>
        if l.dirty then s1.concludeRequest line { x with failed := true } r false
        else ((s1.loftDrop line).emit (.memAtomic (r.home.getD 0xFF) line o)).setLock line { x with wait := .completion }
      | some o, none => (s1.emit (.memAtomic (r.home.getD 0xFF) line o)).setLock line { x with wait := .completion }
      | _, _ => s1
    | _, _ => s1
  | none => s1

/-! ### Flush and power (R367 to R369) -/

/-- Recall a tenant's tracked lines that no transaction holds (R367). -/
def State.flushTenant (s : State) (t : Nat) : State :=
  let mine := (s.coh.dir.filter (fun e => e.2.tenant == t && (s.lock e.1).isNone)).map (·.1)
  mine.foldl (fun s l => (s.recallLine l .recall [] (s.holders (s.entry l) none)).advance l) s

/-- Write back dirty Loft lines that a test selects (R367 MODE 1, R368). -/
def State.writeBack (s : State) (sel : LoftLine → Bool) : State :=
  (s.coh.loft.filter (fun e => e.2.dirty && !e.2.held && sel e.2)).foldl (fun s e =>
    (s.memWrite e.1 e.2.home e.2.data e.2.poison .writeback)) s

/-- Lines that could not be written back are lost when the Loft goes off: one write loss per port (R368). -/
def State.loseHeld (s : State) : State :=
  (s.coh.loft.filter (fun e => e.2.held || e.2.dirty)).foldl (fun s e =>
    s.writeLoss (e.2.home.getD 0xFFFF) (e.1 * 64) e.2.tenant 5) s

/-- The directory, the Loft and the predictor at their after-reset values (R358, R369, R607). -/
def Coherence.cleared (c : Coherence) : Coherence :=
  { c with dir := [], loft := [], locks := [], suspended := [], reqBuffers := [], ring := [], consumed := [], writes := [], predictor := [],
           memOpen := [], memWaiting := [], flushes := [], biConflicts := [], evictAcks := [], untracked := false, goingOff := false }

/-- What a transaction that asked over a port, or that waits for its memory, gets as the port goes down: an error from a home or from
memory, and RSP_I from a chosen peer (R228, R347, R362). -/
def Transaction.lostWith (x : Transaction) (p : Nat) : Option Nat :=
  match x.work, x.wait with
  | .request r, .memory => if r.home == some p then some 4 else none
  | .request r, .home _ => if x.asked == some p then some (if r.home == some p then 4 else 0) else none
  | _, _ => none

/-- The port of a memory device or of a peer is down: the reads open to it end (R228, R347), and its memory requests leave their
entries. -/
def State.failReads (s : State) (p : Nat) : State :=
  let s1 := s.modCoh (fun c => { c with memOpen := c.memOpen.filter (·.port != p)
                                        memWaiting := c.memWaiting.filter (·.1.port != p), suspended := c.suspended.map (fun e =>
    (e.1, match e.2.lostWith p with | some op => { e.2 with late := some (op, 0, none) } | none => e.2)) })
  (s.coh.locks.filter (fun e => (e.2.lostWith p).isSome)).foldl (fun s e =>
    match s.lock e.1 with
    | some x =>
      match x.work, x.lostWith p with
      | .request r, some op => s.homeAnswers e.1 x r op 0 none
      | _, _ => s
    | none => s) s1

/-- The far atomics and the writes open to a port fail with it (R593). -/
def State.failWrites (s : State) (p : Nat) : State :=
  let lines := (s.coh.writes.filter (fun e => match s.loftLine e.1 with
    | some l => l.home == some p
    | none => false)).map (·.1)
  let s1 := lines.foldl (fun s l => (s.memWriteEnd l false).resumeAfterWrite l) s
  let atomics := (s1.coh.locks.filter (fun e => match e.2.work with
    | .request r => e.2.wait == .completion && r.home == some p
    | _ => false)).map (·.1)
  atomics.foldl (fun s l =>
    match s.lock l with
    | some x => (match x.work with | .request r => s.concludeRequest l { x with failed := true } r false | _ => s)
    | none => s) s1

/-- The port has reached L0: every held line of it is written to memory (R593). -/
def State.writeHeld (s : State) (p : Nat) : State :=
  (s.coh.loft.filter (fun e => e.2.held && e.2.home == some p)).foldl (fun s e =>
    s.memWrite e.1 e.2.home e.2.data e.2.poison .held) s

end Sys2Proof.Machine
end

