-- ==== Sys2Proof/Machine/SwitchOps.lean ====
section
/-! DEFINITION. The Turntable and the Granary: frames, wagons, accounts, push-out, queues, rounds, discards and the
port-down flush (R14, R242 to R290). The accounts are read off the frames the device holds, each of which is charged to
one account until it leaves (R273, R277). -/

namespace Sys2Proof

/-- What every PCIe and CXL port advertises (R178, R180): an L1 exit latency of 2 to 4 µs, T_POWER_ON of 16 in units of 10 µs, 32
timing steps of up to 50 % UI and 16 voltage steps of up to 50 % of the eye height each side, the sides independent. -/
def PortCapability.value : PortCapability → Nat
  | .l1ExitLeast => 2
  | .l1ExitMost => 4
  | .powerOnScale => 10
  | .powerOnValue => 16
  | .timingSteps => 32
  | .timingOffset => 50
  | .voltageSteps => 16
  | .voltageOffset => 50
  | .independentSides => 1

end Sys2Proof

namespace Sys2Proof.Machine

/-! ### Parts -/

/-- Change the switch. -/
def State.modSw (s : State) (f : Switch → Switch) : State := { s with sw := f s.sw }

/-- A frame inside the device. -/
def State.frame (s : State) (n : Nat) : Option Frame := Tab.find s.sw.frames n

/-- Change a frame. -/
def State.modFrame (s : State) (n : Nat) (f : Frame → Frame) : State :=
  s.modSw (fun w => { w with frames := w.frames.map (fun e => if e.1 = n then (e.1, f e.2) else e) })

/-- Whether a port is the port of an x16 pair. -/
def State.isX16 (s : State) (p : Nat) : Bool := s.get .stationBifurc (portStation p) == 2

/-- The station a frame of a port uses at a siding (R244). -/
def State.stationFor (s : State) (p j : Nat) : Nat := if s.isX16 p then portStation p + j / 2 % 2 else portStation p

/-- The power domain of a station (R500 of the domain list: PD11 on). -/
def stationDomain (n : Nat) : Nat := 11 + n

/-- The power domain of a Granary quadrant. -/
def quadrantDomain (q : Nat) : Nat := 5 + q

/-- Whether a station takes part in the barrier (R246, R247, R250, R609). -/
def State.stationIn (s : State) (n : Nat) : Bool :=
  n < s.stationCount && s.domainOn (stationDomain n) && !(s.station n).dark && !(s.station n).resetting

/-- Whether a siding takes part in the barrier (R14, R246). -/
def State.sidingIn (s : State) (j : Nat) : Bool := s.domainOn (quadrantDomain (j / 16))

/-- The powered quadrants. -/
def State.quadrantsOn (s : State) : List Nat := (List.range 4).filter (fun q => s.domainOn (quadrantDomain q))

/-- The siding a key is pinned to, with the remap in force (R262, R268). -/
def State.pinnedTo (s : State) (key : Nat) : Nat :=
  let j := pinnedSiding key
  if s.sw.gated.contains (j / 16) then
    match (List.range 4).find? (fun q => !s.sw.gated.contains q) with
    | some q => 16 * q + j % 16
    | none => j
  else j

/-! ### Accounts (R273 to R279) -/

/-- Wagons of the frames a test selects. -/
def State.cells (s : State) (sel : Frame → Bool) : Nat :=
  ((s.sw.frames.filter (fun e => sel e.2)).map (fun e => e.2.wagons)).sum

/-- The size of a class floor (R273). -/
abbrev classFloor : Nat := 68

/-- Wagons charged to F(p,c). -/
def State.classUsed (s : State) (p c : Nat) : Nat :=
  s.cells (fun f => f.inp.port.val == p && f.cls == c && f.acct == 0)

/-- The size of L(p) (R273). -/
def State.laneFloor (s : State) (p : Nat) : Nat := 1024 * (s.portLanes p).2

/-- Wagons charged to L(p). -/
def State.laneUsed (s : State) (p : Nat) : Nat := s.cells (fun f => f.inp.port.val == p && f.acct == 1)

/-- Wagons charged to p's loan. -/
def State.loanUsed (s : State) (p : Nat) : Nat := s.cells (fun f => f.inp.port.val == p && f.acct == 2)

/-- Wagons charged to the spare. -/
def State.spareUsed (s : State) : Nat := s.cells (fun f => f.acct == 3)

/-- The floors of the present ports (R275). -/
def State.floorsTotal (s : State) : Nat := (s.livePorts.map (fun p => 8 * classFloor + s.laneFloor p)).sum

/-- The lendable pool: the powered quadrants less the floors (R275). A quadrant being gated gives no new cell (R285). -/
def State.lendPool (s : State) : Nat :=
  Config.quadrantWagons * (s.quadrantsOn.filter (fun q => !s.sw.gating.contains q)).length - s.floorsTotal

/-- Wagons lent in blocks of 64 (R273): frames charged whole to a loan take all its cells they need. -/
def State.lent (s : State) : Nat := (s.ports.map (fun e => max (64 * e.2.loanBlocks) (s.loanUsed e.1))).sum

/-- Free cells of the spare (R273). -/
def State.spareFree (s : State) : Nat := s.lendPool - s.lent - s.spareUsed

/-- Free cells that back the credit of a port: its class floors, its lane floor and its loan (R276, R278). -/
def State.freeBacking (s : State) (p : Nat) : Nat :=
  ((List.range 8).map (fun c => classFloor - s.classUsed p c)).sum + (s.laneFloor p - s.laneUsed p) +
  (64 * (s.port p).loanBlocks - s.loanUsed p)

/-- What a frame brings for the filters of a counter (R568). -/
def Frame.attrs (f : Frame) : EventAttrs :=
  { tenant := some f.tenant, reqId := some f.inp.reqId.toNat, cls := some f.cls }

/-! ### Credits (R220, R252) -/

/-- The allowance of a port in the present window (R252). -/
def State.portAllowance (s : State) (p : Nat) : Nat :=
  let n := portStation p
  match s.get .stationBifurc n with
  | 0 => (s.station n).allowance
  | 1 => (s.station n).allowance / 2
  | _ => (s.station n).allowance + (s.station (n + 1)).allowance

/-- The allowance of a station per window (R252, R253). -/
def allowanceFor (m sidings : Nat) : Nat := m * sidings / 32

/-- Participating sidings. -/
def State.sidingsIn (s : State) : Nat := ((List.range 64).filter s.sidingIn).length

/-- Under a sag warning every station's allowance falls at once to what 819 rounds give, with S as the current window has it
(R251, R253). -/
def State.sagAllowance (s : State) : State :=
  (List.range s.stationCount).foldl (fun s n =>
    s.modStation n (fun x => { x with allowance := min x.allowance (allowanceFor 819 s.sw.windowS) })) s

/-- Whether a class of a port may lose frames: it is a Trunk port's, and its bit in PORT.DROP is 1 (R276, R281). -/
def State.dropClass (s : State) (p c : Nat) : Bool := s.get .portProto p == 2 && bitOf (s.get .portDrop p) c

/-- The credit a partner gets for a class when the link comes up (R222, R276, R282): the free cells of the class floor, and for a
lossless class an eighth of those of the lane floor, for a drop-eligible one 1,024 units that no cell backs. DESIGN CHOICE, log
entry 148: R276 and R282 bound it from above. -/
def State.startCredit (s : State) (p c : Nat) : Nat :=
  (classFloor - s.classUsed p c) + (if s.dropClass p c then 1024 else (s.laneFloor p - s.laneUsed p) / 8)

/-- The partner of a port that comes up holds the credit of each class; a link that returns from Recovery keeps what it has. -/
def State.grantCredit (s : State) (p : Nat) : State :=
  if (s.port p).credit.isEmpty then
    s.modPort p (fun x => { x with credit := (List.range 8).map (fun c => (c, s.startCredit p c)), creditUsed := 0, owed := [] })
  else s

/-- A frame that arrives takes the credit its partner spent on it. -/
def State.spendCredit (s : State) (p c w : Nat) : State :=
  s.modPort p (fun x => { x with credit := Tab.set x.credit c (Tab.get 0 x.credit c - w) })

/-- Give the partner credit for wagons of a class: on a Trunk port its limit grows (R220, R252). -/
def State.giveCredit (s : State) (p c w : Nat) : State :=
  s.modPort p (fun x => { x with
    credit := Tab.set x.credit c (Tab.get 0 x.credit c + w)
    creditUsed := x.creditUsed + w
    trunk := { x.trunk with admitted := Tab.set x.trunk.admitted c ((Tab.get 0 x.trunk.admitted c + w) % 2 ^ 24) } })

/-- Cells of a frame that leaves free their credit, within the window's allowance (R220, R252); a link that is down has none. -/
def State.releaseCredit (s : State) (p c w : Nat) : State :=
  if !s.portUp p then s
  else if (s.port p).creditUsed + w ≤ s.portAllowance p then s.giveCredit p c w
  else s.modPort p (fun x => { x with owed := Tab.set x.owed c (Tab.get 0 x.owed c + w) })

/-- Credit of a frame that has left the device is released; from step 3 of an entry into STANDBY or WATCH on, none for requests
(R508). -/
def State.freeCredit (s : State) (kind : FrameKind) (p c w : Nat) : State :=
  match s.power.step with
  | .entry _ 1 => s.releaseCredit p c w
  | .entry _ _ => if kind.request then s else s.releaseCredit p c w
  | _ => s.releaseCredit p c w

/-! ### Queues -/

/-- The loan blocks that a number of wagons fills, the lowest first (R273). -/
def blocksFor (wagons : Nat) : Nat := (wagons + 63) / 64

/-- Take a frame out of every queue and out of the Granary; its credit is freed (R220, R284), and a class queue that it leaves
empty has no deficit (R428). -/
def State.removeFrame (s : State) (n : Nat) : State :=
  match s.frame n with
  | none => s
  | some f =>
    let drop : Tab (List Nat) → Tab (List Nat) := fun t => t.map (fun e => (e.1, e.2.filter (· != n)))
    let dropW : Tab (List Wagon) → Tab (List Wagon) := fun t => t.map (fun e => (e.1, e.2.filter (fun w => w.frame != n)))
    let s1 := s.modSw (fun w => { w with
      frames := Tab.drop w.frames n, adm := drop w.adm, spray := drop w.spray, outQ := drop w.outQ,
      inQ := dropW w.inQ, sidQ := dropW w.sidQ,
      quotaHold := w.quotaHold.filter (fun t => decide (s.get .tenantShQuota t + (if 2 ≤ f.acct then f.wagons else 0) < s.quotaUsed t) ||
        t != f.tenant) })
    let p := f.inp.port.val
    let s2 := if f.acct = 2 then
        s1.modPort p (fun x => { x with loanIdle := x.loanIdle.zipIdx.map (fun e =>
          if blocksFor (s1.loanUsed p) ≤ e.2 && decide (e.2 < blocksFor (s.loanUsed p)) then s.ftb else e.1) })
      else s1
    let s3 := if (Tab.get [] s1.sw.outQ (f.dport * 16 + f.cls)).isEmpty then
        s2.modPort f.dport (fun x => { x with deficit := Tab.drop x.deficit f.cls }) else s2
    if f.copy || f.own then s3 else s3.freeCredit f.inp.kind p f.cls f.wagons

/-- The routing vPPB of a request in the device (R597). -/
def State.frameVppb (s : State) (f : Frame) : Option (Nat × Nat) :=
  if f.inp.pbr.isSome || s.get .portProto f.inp.port.val == 2 then none
  else match s.uspOf f.inp.port.val with
    | some v => (s.vppbsOfPort f.dport).find? (fun e => e.1 == v)
    | none => s.vppbBelow f.inp.port.val f.inp.ldid.toNat

/-- Discard a frame, answering it where it asks for an answer (R288, R597). -/
def State.discardFrame (s : State) (n : Nat) (answer : Bool) : State :=
  match s.frame n with
  | none => s
  | some f =>
    let s1 := s.removeFrame n
    if answer && !f.copy && !f.answered then
      s1.answerDiscarded false f.inp.port.val f.dport f.inp.tag f.inp.ldid.toNat f.inp.kind (s.frameVppb f) f.inp.addr f.tenant
    else s1

/-- A drop-eligible frame is lost: counted at its output, and a mirror copy as MIRROR_DROP (R311, R569). -/
def State.countDropped (s : State) (f : Frame) : State :=
  let s1 := s.countPort f.dport 0x01D f.attrs
  if f.copy && f.cls == 6 then s1.countPort f.dport 0x01A else s1

/-- Whether a frame is not started: none of its wagons spread, or all of them in its output queue with none sent
(R283). -/
def State.notStarted (s : State) (n : Nat) (f : Frame) : Bool :=
  f.spread == 0 || (f.delivered == f.wagons && (s.port f.dport).sending != some n)

/-! ### Push-out (R283) -/

/-- The victims a push-out may take: not started, charged to the spare, drop-eligible, and of a class below a bound. -/
def State.pushable (s : State) (below : Nat) : List (Nat × Frame) :=
  s.sw.frames.filter (fun e => e.2.acct == 3 && e.2.drop && decide (e.2.cls < below) && s.notStarted e.1 e.2)

/-- Whether one victim comes before another: the lower class, then the output with more spare wagons, then the later
admission. -/
def State.victimBefore (s : State) (a b : Nat × Frame) : Bool :=
  let load : Nat → Nat := fun p => s.cells (fun f => f.acct == 3 && f.dport == p)
  if a.2.cls != b.2.cls then a.2.cls < b.2.cls
  else if load a.2.dport != load b.2.dport then load b.2.dport < load a.2.dport
  else b.1 < a.1

/-- Take victims one at a time until the cells needed are free. -/
def State.pushOut (s : State) (below need : Nat) : Nat → State
  | 0 => s
  | k + 1 =>
    if need ≤ s.spareFree then s
    else match s.pushable below with
      | [] => s
      | v :: rest =>
        let w := rest.foldl (fun a b => if s.victimBefore b a then b else a) v
        ((s.countDropped w.2).removeFrame w.1).pushOut below need k

/-- Free `need` cells of the spare, if all the candidates together can. -/
def State.makeRoom (s : State) (below need : Nat) : Option State :=
  let cand := s.pushable below
  if need ≤ s.spareFree + (cand.map (fun e => e.2.wagons)).sum then some (s.pushOut below need (cand.length + 1))
  else none

/-! ### Loans (R278, R279) -/

/-- Whether a port may take a block: no tenant beyond its quota holds loan wagons of it (R279). -/
def State.mayBorrow (s : State) (p : Nat) : Bool :=
  !s.sw.quotaHold.any (fun t => s.sw.frames.any (fun e => e.2.inp.port.val == p && e.2.acct == 2 && e.2.tenant == t))

/-- Take loan blocks while the free backing of a port is below 2,048 (R278, R283). -/
def State.takeLoans (s : State) (p : Nat) : Nat → State
  | 0 => s
  | k + 1 =>
    if s.freeBacking p < 2048 && decide ((s.port p).loanBlocks < 256) && s.mayBorrow p then
      match s.makeRoom 8 64 with
      | some s1 => (s1.modPort p (fun x => { x with loanBlocks := x.loanBlocks + 1, loanIdle := x.loanIdle ++ [s.ftb] })).takeLoans p k
      | none => s.modSw (fun w => { w with loanFailed := true })
    else s

/-- Cells have become free: every port that needs a block takes one (R278). -/
def State.lendAll (s : State) : State := s.livePorts.foldl (fun s p => s.takeLoans p 256) s

/-! ### Charging (R277, R279, R282) -/

/-- Whether a frame would take its tenant beyond its quota. -/
def State.overQuota (s : State) (f : Frame) : Bool :=
  f.tenant != 0 && decide (s.get .tenantShQuota f.tenant < s.quotaUsed f.tenant + f.wagons)

/-- A frame stored beyond its tenant's quota is counted, and its tenant's hold begins (R279). -/
def State.overdraw (s : State) (f : Frame) : State :=
  let s1 := s.modWindow f.tenant (fun w => { w with overdraw := saturate 32 (w.overdraw + 1) })
  let s2 := s1.modSw (fun w => { w with quotaHold := if w.quotaHold.contains f.tenant then w.quotaHold else w.quotaHold ++ [f.tenant] })
  s2.count (portStation f.inp.port.val) 0x01E { tenant := some f.tenant, reqId := some f.inp.reqId.toNat } f.wagons

/-- The account of a frame, with the state after any push-out; `none` where a drop-eligible frame is discarded (R277,
R279, R282). -/
def State.charge (s : State) (f : Frame) : Option (State × Nat) :=
  let p := f.inp.port.val
  if f.drop then
    if !f.copy && decide (s.classUsed p f.cls + f.wagons ≤ classFloor) then some (s, 0)
    else if s.overQuota f then none
    else if f.wagons ≤ s.spareFree then some (s, 3)
    else (s.makeRoom f.cls f.wagons).map (fun s1 => (s1, 3))
  else if s.classUsed p f.cls + f.wagons ≤ classFloor then some (s, 0)
  else if s.laneUsed p + f.wagons ≤ s.laneFloor p then some (s, 1)
  else some (if s.overQuota f then s.overdraw f else s, 2)

/-- The wagons of a frame for its siding queue: from the third on they carry ABORT where its check failed (R272). -/
def Frame.wagonList (f : Frame) (n : Nat) : List Wagon :=
  (List.range f.wagons).map (fun i => { frame := n, idx := i, abort := f.abort && decide (2 ≤ i) })

/-- The 64-bit tag that a wagon carries, with the account its frame is charged to and SEC-DED check bits over the rest (R258). -/
def State.tagWord (s : State) (w : Wagon) : Nat :=
  match s.frame w.frame with
  | none => 0
  | some f =>
    let b : Bool → Nat := fun x => if x then 1 else 0
    let v := w.idx + b (w.idx == 0) * 2 ^ 7 + b (w.idx + 1 == f.wagons) * 2 ^ 8 + b w.abort * 2 ^ 9 +
      s.stationFor f.dport w.sid * 2 ^ 10 + w.sid * 2 ^ 16 + f.cls * 2 ^ 22 + b f.drop * 2 ^ 25 + f.acct * 2 ^ 26 +
      f.tenant % 4096 * 2 ^ 28 + f.inp.port.val * 2 ^ 40 + f.dport * 2 ^ 47
    v + (Config.secDed 56 v).toNat * 2 ^ 56

/-- A frame joins the queue it is spread from: its siding's, or the queue of sprayed frames of its station (R260, R263). -/
def State.toSpread (s : State) (n : Nat) : State :=
  match s.frame n with
  | none => s
  | some f =>
    let p := f.inp.port.val
    if f.pin then
      let j := s.pinnedTo f.key
      s.modSw (fun w => { w with inQ := Tab.modify [] w.inQ (s.stationFor p j * 64 + j) (· ++ f.wagonList n) })
    else s.modSw (fun w => { w with spray := Tab.modify [] w.spray (portStation p) (· ++ [n]) })

/-- Charge a frame and queue it: in the admission queue of its port and class where it passes through admission (R429),
else for spreading. A drop-eligible frame with no cell is discarded (R282). -/
def State.takeIn (s : State) (f : Frame) (admission : Bool) : State :=
  match s.charge f with
  | none => s.countDropped f
  | some (s1, acct) =>
    let n := s1.sw.nextFrame
    let s2 := s1.modSw (fun w => { w with nextFrame := n + 1, frames := w.frames ++ [(n, { f with acct := acct })] })
    let s3 := s2.takeLoans f.inp.port.val 256
    if admission then
      s3.modSw (fun w => { w with adm := Tab.modify [] w.adm (f.inp.port.val * 8 + f.cls) (· ++ [n]) })
    else s3.toSpread n

/-! ### Rounds (R242 to R244, R263 to R266, R272) -/

/-- A wagon enters a siding (R258, R263). -/
def State.spreadWagon (s : State) (i j : Nat) (w : Wagon) : State :=
  match s.frame w.frame with
  | none => s
  | some f =>
    let dst := s.stationFor f.dport j
    let s1 := (s.modFrame w.frame (fun f => { f with spread := f.spread + 1 })).modSw (fun x =>
      { x with sidQ := Tab.modify [] x.sidQ (j * 64 + dst) (· ++ [{ w with sid := j }]) })
    s1.count i 0x015 { tenant := some f.tenant, reqId := some f.inp.reqId.toNat, cls := some f.cls }

/-- Whether a wagon of an input queue may be spread: not a pinned one while the remap waits (R268). -/
def State.maySpread (s : State) (w : Wagon) : Bool :=
  !(s.sw.remapping && (match s.frame w.frame with | some f => f.pin | none => false))

/-- Spread up to two wagons from the queue of an input for a siding; the slots left. While pinned wagons wait for a remap, sprayed
frames continue past them (R268). -/
def State.spreadQueued (s : State) (i j : Nat) : Nat → State × Nat
  | 0 => (s, 0)
  | k + 1 =>
    let q := Tab.get [] s.sw.inQ (i * 64 + j)
    match q.find? s.maySpread with
    | some w => ((s.modSw (fun x => { x with inQ := Tab.set x.inQ (i * 64 + j) (q.erase w) })).spreadWagon i j w).spreadQueued i j k
    | none => (s, k + 1)

/-- The queue of sprayed frames a station starts from: an x16 pair shares that of its even station (R263). -/
def State.sprayKey (s : State) (i : Nat) : Nat := if s.get .stationBifurc i == 2 then 2 * (i / 2) else i

/-- Start the oldest sprayed frames that fit in the slots left (R244, R263): none in a siding whose quadrant is being
gated (R29). -/
def State.startSprayed (s : State) (i j : Nat) : Nat → State
  | 0 => s
  | left + 1 =>
    let key := s.sprayKey i
    if s.sw.gating.contains (j / 16) || (s.get .stationBifurc i == 2 && j / 2 % 2 != i % 2) then s
    else
      match Tab.get [] s.sw.spray key with
      | [] => s
      | n :: rest =>
        match s.frame n with
        | none => s
        | some f =>
          let now := min f.wagons 2
          if now ≤ left + 1 then
            let ws := f.wagonList n
            let s1 := s.modSw (fun x => { x with
              spray := Tab.set x.spray key rest
              inQ := if now < f.wagons then Tab.modify [] x.inQ (i * 64 + j) (· ++ ws.drop now) else x.inQ })
            let s2 := (ws.take now).foldl (fun s w => s.spreadWagon i j w) s1
            if now = 1 then s2.startSprayed i j left else s2
          else s

/-- The spreading of one input in a round (R263). -/
def State.spreadFrom (s : State) (k i : Nat) : State :=
  let j := (i + k) % 64
  if s.stationIn i && s.sidingIn j then
    match s.spreadQueued i j 2 with
    | (s1, left) => s1.startSprayed i j left
  else s

/-- Whether a frame is a shared-coherent request, which its home station hands to a slice (R25, R326, R357). -/
def Frame.toSlice (f : Frame) : Bool :=
  f.cache == 2 && !f.copy && (match f.inp.kind with
    | .memReq _ | .cacheReq _ | .ioAtomic _ | .farAtomic _ => true
    | _ => false)

/-- A frame is discarded at its output with ABORT, counted and answered (R272, R590). -/
def State.abortFrame (s : State) (n : Nat) (f : Frame) : State :=
  (((s.countPort f.dport 0x01C f.attrs).discardFrame n true).contain
    { code := 0x0307, place := f.dport, tenant := f.tenant, addr := f.inp.addr,
      detail := [1, if f.inp.kind.nonPosted then 1 else 0] })

/-- The home station's ring stop hands a shared-coherent request to the ring (R25, R341, R357). -/
def State.toRing (s : State) (f : Frame) : State :=
  let x : RingRequest := { kind := .at, line := f.inp.addr / 64, port := f.inp.port.val, id := f.inp.cacheId.map (·.toNat),
                           tenant := f.tenant, data := f.inp.data }
  s.modCoh (fun c => { c with ring := c.ring ++ [match f.inp.kind with
    | .memReq k => { x with kind := k, mem := true }
    | .cacheReq k => { x with kind := k }
    | .ioAtomic op => { x with op := some op.val }
    | .farAtomic op => { x with op := some op.val, far := some (f.inp.tag, ofLE (f.inp.data.take 2)) }
    | _ => x] })

/-- A frame is whole at its output (R266): one with ABORT is discarded and answered (R272), a shared-coherent request
goes to its slice by the home station's ring stop (R25), and any other joins the queue of its class. -/
def State.frameWhole (s : State) (n : Nat) (f : Frame) : State :=
  if f.abort then s.abortFrame n f
  else if f.toSlice then (s.removeFrame n).toRing f
  else if !s.portUp f.dport then s.discardFrame n true
  else s.modSw (fun w => { w with outQ := Tab.modify [] w.outQ (f.dport * 16 + f.cls) (· ++ [n]) })

/-- A wagon reaches its output station. -/
def State.deliverWagon (s : State) (w : Wagon) : State :=
  match s.frame w.frame with
  | none => s
  | some f =>
    let f' := { f with delivered := f.delivered + 1, abort := f.abort || w.abort }
    let s1 := s.modFrame w.frame (fun _ => f')
    if f'.delivered = f'.wagons then s1.frameWhole w.frame f' else s1

/-- A siding finds an uncorrectable error in the tag of the wagon it is about to deliver (R591): the wagon goes with ABORT,
and every frame the output is assembling from that siding is discarded; a host whose request is lost so sees it on its USP (R598). -/
def State.badTag (s : State) (j st : Nat) (q : List Wagon) : State × List Wagon :=
  if s.errors.badTags.contains (j, st) && !q.isEmpty then
    let open_ := (s.sw.frames.filter (fun e => decide (0 < e.2.delivered) && decide (e.2.delivered < e.2.wagons) &&
      s.stationFor e.2.dport j == st &&
      (e.2.pin == false || s.pinnedTo e.2.key == j) && (q.any (fun w => w.frame == e.1)))).map (·.1)
    let s1 := open_.foldl (fun s n => s.modFrame n (fun f => { f with abort := true })) s
    let hit := open_ ++ (match q with | w :: _ => if open_.contains w.frame then [] else [w.frame] | [] => [])
    let s2 := hit.foldl (fun (s : State) n => match s.frame n with
      | some f => if f.inp.kind.nonPosted then s.reportInternal f.inp.port.val else s
      | none => s) { s1 with errors := { s1.errors with badTags := s1.errors.badTags.erase (j, st) } }
    (s2.contain (ErrorAt.atUnit { code := 0x0102, detail := [j, open_.length + 1] } 84),
      match q with | w :: rest => { w with abort := true } :: rest | [] => [])
  else (s, q)

/-- The delivery of one siding in a round (R265). -/
def State.deliverFrom (s : State) (k j : Nat) : State :=
  let st := (j + k) % 64
  if s.sidingIn j && s.stationIn st then
    match Tab.get [] s.sw.sidQ (j * 64 + st) with
    | [] => s
    | q0 =>
      match s.badTag j st q0 with
      | (s1, q) =>
        (q.take 2).foldl (fun s w => s.deliverWagon w)
          (s1.modSw (fun x => { x with sidQ := Tab.set x.sidQ (j * 64 + st) (q.drop 2) }))
  else s

/-! ### The port-down flush (R286 to R289) -/

/-- A frame the flush of a port meets (R286 to R288): one for the port is discarded and answered where it lies whole, and
loses its unspread wagons where it does not; one from the port is discarded while none of it is spread, and ends with
ABORT while some of it is. A shared-coherent request is not for the port but for a slice, which serves it while the port
is down (R347, R593). -/
def State.flushFrame (s : State) (p n : Nat) : State :=
  match s.frame n with
  | none => s
  | some f =>
    if f.dport = p && !f.toSlice then
      if (s.port p).sending = some n then s.removeFrame n
      else if s.notStarted n f then s.discardFrame n true
      else
        let s1 := s.modSw (fun w => { w with inQ := w.inQ.map (fun e => (e.1, e.2.filter (fun x => x.frame != n))) })
        if f.delivered = f.spread then s1.discardFrame n true
        else
          let s2 := s1.modFrame n (fun f => { f with wagons := f.spread })
          if f.copy || f.own then s2 else s2.freeCredit f.inp.kind f.inp.port.val f.cls (f.wagons - f.spread)
    else if f.inp.port.val = p && !f.copy then
      if f.spread = 0 then s.removeFrame n
      else if f.spread < f.wagons then
        s.modSw (fun w => { w with inQ := w.inQ.map (fun e =>
          (e.1, e.2.map (fun x => if x.frame = n then { x with abort := true } else x))) })
      else s
    else s

/-- The answers to the requests sent on a port and still open: the station gives them from its tracker, and discards what answers
them later (R288). -/
def State.answerOpens (s : State) (p : Nat) : State :=
  let os := (s.port p).opens
  os.foldl (fun s o =>
    s.answerDiscarded false o.from_ p o.tag o.fromLd o.kind (o.vppb.map (fun k => (k / 256, k % 256))) o.addr o.tenant)
    (s.modPort p (fun x => { x with opens := [], closed := x.closed ++ os }))

/-- The flush of a port at a round boundary. -/
def State.flushPort (s : State) (p : Nat) : State :=
  let s1 := (s.sw.frames.map (·.1)).foldl (fun s n => s.flushFrame p n) s
  let s2 := s1.answerOpens p
  (s2.modSw (fun w => { w with bypass := Tab.drop w.bypass p })).modPort p (fun x => { x with sending := none })

/-- Whether the station or a siding holds a wagon for a port or from it, or a request sent on it still waits for the answer
of the flush (R288, R289). -/
def State.portHeld (s : State) (p : Nat) : Bool :=
  !(s.port p).opens.isEmpty || s.sw.frames.any (fun e => e.2.dport == p || (e.2.inp.port.val == p && !e.2.copy && decide (e.2.delivered < e.2.wagons)))

/-- A round: every siding delivers, every input spreads, and the count goes on; then the flush of every port that went
link-down begins or goes on (R242 to R246, R286). -/
def State.round (s : State) : State :=
  let k := s.sw.rounds
  let s1 := (List.range 64).foldl (fun s j => s.deliverFrom k j) s
  let s2 := (List.range 64).foldl (fun s i => s.spreadFrom k i) s1
  let s3 := (s2.modSw (fun w => { w with rounds := k + 1 })).count 84 0x070
  let due := (s3.ports.filter (fun e => e.2.flushing)).map (·.1)
  due.foldl (fun s p => s.flushPort p) s3

/-! ### Making a frame -/

/-- The FLOW and TYPE of a pinned frame, or nothing where it is sprayed (R260). -/
def pinning (fmt sport dport cls cache order addr : Nat) (copy : Bool) : Option (Nat × Nat) :=
  if copy then none
  else if fmt = 0 || fmt = 13 then some (2, sport % 2 * 2 ^ 15 + dport % 2 * 2 ^ 14 + cls * 2 ^ 11)
  else if fmt = 1 || fmt = 2 then (if cache = 2 || order = 1 then some (6, lineHash (addr / 64)) else none)
  else if fmt = 7 then (if cache = 2 || order = 1 then some (7, lineHash (addr / 64)) else none)
  else if 10 ≤ fmt && fmt ≤ 12 then some (5, 0)
  else none

/-- The pinning key (R261). -/
def pinKey (type flow src dst : Nat) : Nat := type * 2 ^ 28 + flow % 2 ^ 16 * 2 ^ 12 + src % 64 * 2 ^ 6 + dst % 64

/-- A frame for the device, from what arrived and where it goes (R255 to R261, R280, R281). -/
def State.mkFrame (s : State) (f : FrameIn) (len cls cache order tenant dport : Nat) (drop copy abort : Bool) : Frame :=
  let pin := pinning f.fmt.val f.port.val dport cls cache order f.addr copy
  { inp := f, len, wagons := (len + 63) / 64, cls, cache, order, pin := pin.isSome,
    key := (match pin with | some (ty, flow) => pinKey ty flow (portStation f.port.val) (portStation dport) | none => 0),
    tenant, dport, arrival := s.ftb, acct := 0, drop, copy, poison := f.poison, abort, spread := 0, delivered := 0, own := f.made }

/-- What leaves a port of a frame: with a PBR header on an inter-switch link and none on an edge port (R298), and with the logical
device that its vPPB is bound to (R302). -/
def State.leaving (s : State) (p : Nat) (f : Frame) : FrameIn :=
  let between := (s.port p).role == .interSwitch || s.get .portProto p == 2
  { f.inp with
    pbr := if between then (match f.inp.pbr with | some x => some x | none => f.fabric) else none
    ldid := match f.toLd with | some n => BitVec.ofNat 16 n | none => f.inp.ldid }

/-- The raw rate of a port, rate times trained width, in units of 100 MT/s: 128 GT/s on x8 gives 10,240, which is 128 bytes per
tick (R271, R442). -/
def State.rawRate (s : State) (p : Nat) : Nat :=
  match (s.port p).info with
  | some i => i.width * (match i.rate.val with | 0 => 25 | 1 => 50 | 2 => 80 | 3 => 160 | 4 => 320 | 5 => 640 | _ => 1280)
  | none => 0

/-- Whether a port has a secure stream of a kind (R236). -/
def State.secureKind (s : State) (p : Nat) (kind : IdeKind) : Bool := (s.port p).streams.any (fun e => e.2.secure && e.2.kind == kind)

/-- Whether a frame arrives under PCIe IDE, in the link stream of its port or within a selective stream, or under CXL.cachemem IDE
in containment mode (R236, R271). -/
def State.underIde (s : State) (f : FrameIn) : Bool :=
  if f.fmt.val = 0 then s.secureKind f.port.val .link || (f.selective && s.secureKind f.port.val .selective)
  else s.secureKind f.port.val .cachememContainment

/-- Whether a frame is forwarded store-and-forward (R271). -/
def State.storeForward (s : State) (f : FrameIn) (dport cls : Nat) : Bool :=
  bitOf (s.get .portSaf f.port.val) cls || decide (s.rawRate f.port.val < s.rawRate dport) || s.underIde f || s.flit68 f.port.val

/-- A mirror copy of a frame for each session of a port and direction (R310, R311): 1 received, 2 sent. -/
def State.mirror (s : State) (p dir : Nat) (f : FrameIn) (len tenant : Nat) : State :=
  (List.range 16).foldl (fun s m =>
    if bitOf (s.get .mirrorDir m) (dir - 1) && s.get .mirrorSport m == p then
      let limit := if s.get .mirrorTrunc m == 1 then 128 else 4320
      let head := toLE 8 (3 + m * 2 ^ 4 + tenant % 4096 * 2 ^ 12 + (if s.get .mirrorTrunc m == 1 && decide (128 < len) then 2 ^ 40 else 0) +
        (dir - 1) * 2 ^ 41) ++ toLE 8 s.ftb
      s.takeIn (s.mkFrame { f with kind := .wrap, fmt := 13, data := head ++ f.data, unit := none, made := true } (32 + min len limit) 6 3 1 tenant (s.get .mirrorDport m) true true false) false
    else s) s

end Sys2Proof.Machine
end

