-- ==== Sys2Proof/Machine/QosOps.lean ====
section
/-! DEFINITION. Scheduling and time: shapers, timetables, the output arbiter, and the servo of the Fabric Timebase (R423
to R446, R451 to R458). -/

namespace Sys2Proof.Machine

/-- Change the scheduling state. -/
def State.modQos (s : State) (f : Qos → Qos) : State := { s with qos := f s.qos }

/-! ### Shapers (R430, R431, R433) -/

/-- The tenant shaper's settings in progress. -/
def State.tshaper (s : State) (t : Nat) : ShaperState := Tab.get {} s.qos.tshapers t

/-- The class shaper's settings in progress. -/
def State.cshaper (s : State) (p c : Nat) : ShaperState := Tab.get {} s.qos.cshapers (p * 8 + c)

/-- The RATE in force: the committed one, unless it waits for the next refill (R433). -/
def ShaperState.rate (x : ShaperState) (committed : Nat) : Nat := x.pendingRate.getD committed

/-- The BURST in force. -/
def ShaperState.burst (x : ShaperState) (committed : Nat) : Nat := x.pendingBurst.getD committed

/-- The tokens of a shaper: BURST where none are stored (R431). -/
def ShaperState.count (x : ShaperState) (burst : Nat) : Int := x.tokens.getD burst

/-- TOKENS of TS(t) (R431). -/
def State.tTokens (s : State) (t : Nat) : Int :=
  if s.errors.broken.contains (clsTShaper, t, 0) then 0
  else (s.tshaper t).count ((s.tshaper t).burst (s.get .tshaperBurst t))

/-- The RATE in force of TS(t). -/
def State.tRate (s : State) (t : Nat) : Nat := (s.tshaper t).rate (s.get .tshaperRate t)

/-- At a round boundary the shapers of tenants whose reset has come to that step are emptied (R410 step 5); one without a rate has
no TOKENS. -/
def State.emptyShapers (s : State) : State :=
  ((s.tenants.filter (fun e => e.2.emptying)).map (·.1)).foldl (fun s t =>
    let s1 := s.modTenant t (fun x => { x with emptying := false })
    if s.tRate t = 0 then s1
    else s1.modQos (fun q => { q with tshapers := Tab.modify {} q.tshapers t (fun x => { x with tokens := some 0 }) })) s

/-- TOKENS of CS(p,c). -/
def State.cTokens (s : State) (p c : Nat) : Int :=
  if s.errors.broken.contains (clsCShaper, p, c) then 0
  else (s.cshaper p c).count ((s.cshaper p c).burst (s.get .cshaperBurst p c))

/-- The RATE in force of CS(p,c). -/
def State.cRate (s : State) (p c : Nat) : Nat := (s.cshaper p c).rate (s.get .cshaperRate p c)

/-- Take a charge from a tenant shaper; one with RATE 0 takes none (R430, R431). -/
def State.chargeTenant (s : State) (t n : Nat) : State :=
  if s.tRate t = 0 then s
  else s.modQos (fun q => { q with tshapers := Tab.modify {} q.tshapers t (fun x => { x with tokens := some (s.tTokens t - n) }) })

/-- Take a charge from a class shaper. -/
def State.chargeClass (s : State) (p c n : Nat) : State :=
  if s.cRate p c = 0 then s
  else s.modQos (fun q =>
    { q with cshapers := Tab.modify {} q.cshapers (p * 8 + c) (fun x => { x with tokens := some (s.cTokens p c - n) }) })

/-- The charge of a frame at admission (R430). -/
def Frame.charge (f : Frame) : Nat :=
  match f.inp.kind with
  | .ioRead => f.len + f.inp.size
  | .memReq k => if k = .rdS || k = .rdE || k = .rdNc then f.len + 64 else f.len
  | .cacheReq k => if k = .rdS || k = .rdE || k = .rdNc then f.len + 64 else f.len
  | _ => f.len

/-- A refill of one shaper: waiting settings take effect, and RATE is added up to BURST (R431, R433). -/
def ShaperState.refilled (x : ShaperState) (rate burst : Nat) : ShaperState :=
  if rate = 0 then {}
  else { tokens := some (min (x.count (x.burst burst) + (rate : Int)) (burst : Int)) }

/-- What a commit that writes RATE or BURST of a shaper does under APPLY (R431, R433); `oldRate` and `oldBurst` are the
settings before it. -/
def ShaperState.applied (x : ShaperState) (apply oldRate oldBurst rate burst : Nat) : ShaperState :=
  match apply with
  | 0 =>
    { pendingRate := if oldRate = 0 then none else some (x.rate oldRate),
      pendingBurst := some (x.burst oldBurst),
      tokens := some (if x.rate oldRate = 0 then ((x.burst oldBurst : Nat) : Int) else x.count (x.burst oldBurst)) }
  | 1 => { tokens := some ((burst : Nat) : Int) }
  | _ => if rate = 0 then {} else { tokens := some 0 }

/-! ### Timetables (R436 to R445) -/

/-- A timetable in progress. -/
def State.timetable (s : State) (p : Nat) : TimetableState := Tab.get {} s.qos.timetables p

/-- Change a timetable in progress. -/
def State.modTimetable (s : State) (p : Nat) (f : TimetableState → TimetableState) : State :=
  s.modQos (fun q => { q with timetables := Tab.modify {} q.timetables p f })

/-- GATES of an entry of a bank. -/
def State.gatesOf (s : State) (p bank i : Nat) : Nat := s.get .ttentryGates p (bank * 256 + i)

/-- DURATION of an entry of a bank. -/
def State.durationOf (s : State) (p bank i : Nat) : Nat := s.get .ttentryDuration p (bank * 256 + i)

/-- The entries of the active bank in use. -/
def State.activeLength (s : State) (p : Nat) : Nat := (s.timetable p).activeLength

/-- The cycle length C of the active bank (R436). -/
def State.cycle (s : State) (p : Nat) : Nat :=
  ((List.range (s.activeLength p)).map (fun i => s.durationOf p (s.get .timetableActive p) i)).sum

/-- The gates in force: with no list loaded, every class is open (R436). -/
def State.gatesNow (s : State) (p : Nat) : Nat :=
  if s.get .timetableLoaded p = 0 then 0xFF
  else s.gatesOf p (s.get .timetableActive p) (s.timetable p).entry

/-- The tick at which the next cycle of the active bank starts (R439); with no list, the next multiple of 1,000. -/
def State.nextCycle (s : State) (p : Nat) : Nat :=
  if s.get .timetableLoaded p = 0 then (s.ftb / 1000 + 1) * 1000
  else
    let x := s.timetable p
    x.entryEnd + ((List.range (s.activeLength p)).map (fun i =>
      if x.entry < i then s.durationOf p (s.get .timetableActive p) i else 0)).sum

/-- The tick of the takeover that waits, if one does. -/
def State.takeoverAt (s : State) (p : Nat) : Option Nat :=
  if s.get .timetableArmed p = 1 then some (s.get .timetableTakeover p) else none

/-- The first tick at or after `at_` at which a class closes, from entry `i` on, within a number of entries; `none` where
it stays open (R442). -/
def State.closesFrom (s : State) (p c bank len : Nat) (until_ : Option Nat) : Nat → Nat → Nat → Option Nat
  | 0, _, _ => none
  | k + 1, i, at_ =>
    match until_ with
    | some u => if u ≤ at_ then some u else
      if bitOf (s.gatesOf p bank (i % max len 1)) c then
        s.closesFrom p c bank len until_ k (i + 1) (at_ + s.durationOf p bank (i % max len 1))
      else some at_
    | none =>
      if bitOf (s.gatesOf p bank (i % max len 1)) c then
        s.closesFrom p c bank len until_ k (i + 1) (at_ + s.durationOf p bank (i % max len 1))
      else some at_

/-- The next tick at which an open class closes, over the active bank and an armed takeover (R442). -/
def State.nextClose (s : State) (p c : Nat) : Option Nat :=
  let bank := s.get .timetableActive p
  let armed := s.takeoverAt p
  let other := 1 - bank
  let afterTakeover : Nat → Option Nat := fun u =>
    s.closesFrom p c other (s.get .timetableLength p) none (s.get .timetableLength p + 1) 0 u
  if s.get .timetableLoaded p = 0 then
    match armed with
    | some u => afterTakeover u
    | none => none
  else
    let len := s.activeLength p
    match s.closesFrom p c bank len armed (2 * len + 2) ((s.timetable p).entry + 1) (s.timetable p).entryEnd with
    | some x =>
      match armed with
      | some u => if x = u then afterTakeover u else some (min x u)
      | none => some x
    | none =>
      match armed with
      | some u => afterTakeover u
      | none => none

/-- The longest run of open ticks of a class in the active bank, across the wrap; `none` where it is always open (R443). -/
def State.openInterval (s : State) (p c : Nat) : Option Nat :=
  let bank := s.get .timetableActive p
  let len := s.activeLength p
  let gates := (List.range len).map (fun i => (bitOf (s.gatesOf p bank i) c, s.durationOf p bank i))
  if s.get .timetableLoaded p = 0 || gates.all (·.1) then none
  else some ((gates ++ gates).foldl (fun a e => if e.1 then (max a.1 (a.2 + e.2), a.2 + e.2) else (a.1, 0)) (0, 0)).1

/-- The estimated time of a frame (R442). -/
def State.guardTime (s : State) (p len : Nat) : Nat :=
  let r := max (s.rawRate p) 1
  (90 * len + r - 1) / r

/-- What a timetable says of a frame: it may start, it may start as a guard overrun, or it waits (R424, R442, R443). -/
inductive Gate
  | open_ | overrun | shut
  deriving DecidableEq, Repr

/-- The gate a frame of a class meets. -/
def State.gate (s : State) (p c len : Nat) : Gate :=
  if bitOf (s.gatesNow p) c then
    if s.get .timetableGuard p = 0 then .open_
    else
      let e := s.guardTime p len
      match s.nextClose p c with
      | none => .open_
      | some t =>
        if s.ftb + e ≤ t then .open_
        else match s.openInterval p c with
          | some w => if w < e && Tab.get 0 (s.timetable p).openAt c == s.ftb then .overrun else .shut
          | none => .shut
  else .shut

/-- The gates have changed at this tick: classes that opened begin an open interval. -/
def State.noteOpened (s : State) (p before : Nat) : State :=
  let now := s.gatesNow p
  let opened := (List.range 8).filter (fun c => bitOf now c && !bitOf before c)
  s.modTimetable p (fun x => { x with openAt := opened.foldl (fun t c => Tab.set t c s.ftb) x.openAt })

/-- The next entry of the active bank begins (R436). -/
def State.nextEntry (s : State) (p : Nat) : State :=
  let before := s.gatesNow p
  let x := s.timetable p
  let i := if x.entry + 1 < s.activeLength p then x.entry + 1 else 0
  (s.modTimetable p (fun x =>
    { x with entry := i, entryEnd := x.entryEnd + s.durationOf p (s.get .timetableActive p) i })).noteOpened p before

/-- The inactive bank takes over (R438). The new cycles start at its TAKEOVER. -/
def State.takeover (s : State) (p : Nat) : State :=
  let before := s.gatesNow p
  let bank := 1 - s.get .timetableActive p
  let at_ := s.get .timetableTakeover p
  let s1 := ((s.put .timetableActive p 0 bank).put .timetableLoaded p 0 1).put .timetableArmed p 0 0
  (s1.modTimetable p (fun x => { x with entry := 0, entryEnd := at_ + s.durationOf p bank 0,
                                        activeLength := s.get .timetableLength p })).noteOpened p before

/-- Pass over the entries that ended at or before now, whole cycles first. -/
def State.catchUp (s : State) (p : Nat) : Nat → State
  | 0 => s
  | k + 1 => if (s.timetable p).entryEnd ≤ s.ftb then (s.nextEntry p).catchUp p k else s

/-- A timetable follows a forward step of the FTB (R456): an armed takeover within it happens, and entries that ended are
passed over. -/
def State.stepTimetable (s : State) (p : Nat) : State :=
  let s1 := match s.takeoverAt p with
    | some u => if u ≤ s.ftb then s.takeover p else s
    | none => s
  if s1.get .timetableLoaded p = 1 && 0 < s1.cycle p then
    let behind := (s1.ftb - (s1.timetable p).entryEnd) / s1.cycle p * s1.cycle p
    (s1.modTimetable p (fun x => { x with entryEnd := x.entryEnd + behind })).catchUp p (s1.activeLength p + 1)
  else s1

/-- A timetable returns to its after-reset values (R141, R445). -/
def State.clearTimetable (s : State) (p : Nat) : State :=
  let fields : List Fld := [.timetableActive, .timetableLoaded, .timetableLength, .timetableTakeover, .timetableNextcycle,
                            .timetableGuard, .timetableArmed]
  let s1 := (fields.foldl (fun s f => s.unput f p 0) s).bump clsTimetable p 0
  let s2 := (List.range 512).foldl (fun s i =>
    if s.isPut .ttentryGates p i || s.isPut .ttentryDuration p i then
      ((s.unput .ttentryGates p i).unput .ttentryDuration p i).bump clsTtEntry p i
    else s) s1
  s2.modQos (fun q => { q with timetables := Tab.drop q.timetables p })

/-! ### The arbiter (R424 to R428) -/

/-- What the arbiter of a port starts next. -/
inductive Choice
  | bypass
  | frame (cls n : Nat) (overrun : Bool)
  | nothing
  deriving DecidableEq, Repr

/-- The credit a Trunk port has in a pool (R219): none before the pool's first update (R206). -/
def Trunk.creditLeft (x : Trunk) (pool : Nat) : Nat :=
  match Tab.find x.limit pool with
  | some l => (l + 2 ^ 24 - Tab.get 0 x.consumed pool) % 2 ^ 24
  | none => 0

/-- Whether a Trunk port may send the first record of a frame: Trunk IDE is active and the whole frame has credit (R218,
R237). -/
def State.trunkReady (s : State) (p : Nat) (f : Frame) : Bool :=
  s.get .portProto p != 2 || ((s.port p).ctl.ide && decide (f.wagons ≤ (s.port p).trunk.creditLeft f.cls))

/-- Wagons of a message in a bypass channel: its 16 header bytes and its unit, 16 bytes and the data it carries. -/
def Msg.wagons : Msg → Nat
  | .completion _ _ _ d => (32 + d.length + 63) / 64
  | .grant _ _ _ _ (some _) _ _ => 2
  | .memWrite _ _ _ _ _ => 2
  | _ => 1

/-- The most flits a port may have unacknowledged (R198, R223). -/
def State.replayShare (s : State) (p : Nat) : Nat :=
  match (s.portLanes p).2 with | 4 => 512 | 8 => 1024 | _ => 2048

/-- The flits that a frame of a standard link takes in the replay buffer: a 256-byte flit carries 236 bytes of units and a 68-byte
flit 64, as CXL 3.1 lays them out (R198). PRESUMED. -/
def State.flitsOf (s : State) (p len : Nat) : Nat := if s.flit68 p then (len - 16 + 63) / 64 else (len - 16 + 235) / 236

/-- Whether the replay buffer of a standard link has room for a frame (R198); a Trunk port's is tested flit by flit. -/
def State.replayRoom (s : State) (p len : Nat) : Bool :=
  s.get .portProto p == 2 || decide ((s.port p).unacked + s.flitsOf p len ≤ s.replayShare p)

/-- The replay buffer of a standard link takes a frame. -/
def State.holdFlits (s : State) (p len : Nat) : State :=
  if s.get .portProto p = 2 then s else s.modPort p (fun x => { x with unacked := x.unacked + s.flitsOf p len })

/-- The head frame of a class queue of a port, with what its gate says, if it is eligible; the credit of a standard link's
partner is asserted by the event that starts the frame (R424). -/
def State.eligible (s : State) (p c : Nat) : Option (Nat × Frame × Bool) :=
  match Tab.get [] s.sw.outQ (p * 16 + c) with
  | [] => none
  | n :: _ =>
    match s.frame n with
    | none => none
    | some f =>
      if (s.cRate p c = 0 || decide (0 < s.cTokens p c)) && s.trunkReady p f && s.replayRoom p f.len then
        match s.gate p c f.len with
        | .open_ => some (n, f, false)
        | .overrun => some (n, f, true)
        | .shut => none
      else none

/-- Whether a class is strict (R427). -/
def State.strict (s : State) (p c : Nat) : Bool := s.get .cshaperMode p c == 1

/-- The deficit round robin of R428: the eligible weighted classes after the last one served are visited in turn, each
visit adding its quantum, until one's head frame fits. -/
def State.visit (s : State) (p : Nat) : Nat → Nat → State × Choice
  | 0, _ => (s, .nothing)
  | k + 1, c =>
    let c' := (c + 1) % 8
    if s.strict p c' then s.visit p k c'
    else match s.eligible p c' with
      | none => s.visit p k c'
      | some (n, f, overrun) =>
        let d := Tab.get 0 (s.port p).deficit c' + s.get .cshaperWeight p c' * 256
        if f.len ≤ d then
          (s.modPort p (fun x => { x with deficit := Tab.set x.deficit c' (d - f.len), lastServed := c' }), .frame c' n overrun)
        else (s.modPort p (fun x => { x with deficit := Tab.set x.deficit c' d })).visit p k c'

/-- The class frame a port starts next (R425 steps 2 and 3). Each visit adds at least 256 bytes and a frame has at most
4,352, so 17 rounds of visits reach a frame where one is eligible. -/
def State.chooseFrame (s : State) (p : Nat) : State × Choice :=
  match ((List.range 8).reverse).findSome? (fun c =>
      if s.strict p c then (s.eligible p c).map (fun e => (c, e.1, e.2.2)) else none) with
  | some (c, n, overrun) => (s, .frame c n overrun)
  | none => s.visit p 144 (s.port p).lastServed

/-- What a port starts next (R425): a waiting bypass frame, unless the last four frames started were bypass frames and a
class frame is eligible. -/
def State.choose (s : State) (p : Nat) : State × Choice :=
  if (Tab.get [] s.sw.bypass p).isEmpty then s.chooseFrame p
  else if 4 ≤ (s.port p).bypassRun then
    match s.chooseFrame p with
    | (_, .nothing) => (s, .bypass)
    | r => r
  else (s, .bypass)

/-- Whether a frame that leaves by a port can carry poison (R590): in the header on a Trunk link, as EP in a TLP with data, or in a
CXL message with data. PRESUMED, log entry 149: which formats of PCI Express and CXL have the bit. -/
def State.carriesPoison (s : State) (p : Nat) (f : Frame) : Bool :=
  s.get .portProto p == 2 || [2, 5, 9, 12].contains f.inp.fmt.val || (f.inp.fmt.val == 0 && f.inp.kind != .ioRead)

/-- What a frame is as it leaves the Granary: an uncorrectable word of its wagons gives it POISON (R589). A host that this answers sees
the error on its USP (R598). -/
def State.readGranary (s : State) (n : Nat) (f : Frame) : State :=
  if s.errors.badGranary.contains n then
    let s1 : State := { s with errors := { s.errors with badGranary := s.errors.badGranary.filter (· != n) } }
    let s2 := (s1.modFrame n (fun f => { f with poison := true, inp := { f.inp with poison := true } })).contain
      { code := 0x0101, place := f.dport, tenant := f.tenant, addr := f.inp.addr,
        detail := [(f.len + f.inp.fmt.val * 2 ^ 13 + f.cls * 2 ^ 17 + f.cache * 2 ^ 20 + f.order * 2 ^ 22) % 2 ^ 32,
                   f.tenant % 4096 + f.inp.port.val * 2 ^ 12 + f.dport * 2 ^ 19] }
    if f.inp.kind == .completion || f.inp.kind == .response then s2.reportInternal f.dport else s2
  else s

/-- A class frame begins to be sent: it leaves its queue and pays its class shaper, a request joins the tracker, and the
copies of a mirror session are made (R280, R311, R425, R430, R443). -/
def State.sendOff (s : State) (p c n : Nat) (overrun : Bool) : State :=
  match s.frame n with
  | none => s
  | some f =>
    let rest := (Tab.get [] s.sw.outQ (p * 16 + c)).filter (· != n)
    let s1 := (s.modSw (fun w => { w with outQ := Tab.set w.outQ (p * 16 + c) rest })).chargeClass p c f.len
    let s2 := s1.modPort p (fun x => { x with
      sending := some n
      deficit := if rest.isEmpty then Tab.drop x.deficit c else x.deficit
      opens := if f.inp.kind.nonPosted && !f.copy then
          x.opens ++ [{ tag := f.inp.tag, tenant := f.tenant, fmt := f.inp.fmt.val, kind := f.inp.kind, from_ := f.inp.port.val,
                        reqId := f.inp.reqId.toNat, vppb := (s.frameVppb f).map (fun e => vppbKey e.1 e.2), addr := f.inp.addr,
                        fromLd := f.inp.ldid.toNat, toLd := f.toLd }]
        else x.opens
      closed := if f.inp.kind.nonPosted && !f.copy then x.closed.filter (fun o => o.tag != f.inp.tag) else x.closed })
    let s3 := (if overrun then s2.countPort p 0x01B { cls := some c } else s2).holdFlits p f.len
    if f.copy then s3 else s3.mirror p 2 f.inp f.len f.tenant

/-- A class frame is started: one that is poisoned, where its port or format cannot carry that, is discarded with ABORT instead
(R590). -/
def State.startFrame (s : State) (p c n : Nat) (overrun : Bool) : State :=
  match s.frame n with
  | none => s
  | some f =>
    let s1 := s.readGranary n f
    let bad := s.errors.badGranary.contains n
    if (f.poison || bad) && !s.carriesPoison p f then
      let s2 := s1.abortFrame n f
      if bad && f.inp.kind.nonPosted then s2.reportInternal f.inp.port.val else s2
    else s1.sendOff p c n overrun

/-! ### The Fabric Timebase (R453 to R456) -/

/-- Each timetable follows a forward step (R456). -/
def State.stepFtb (s : State) (d : Nat) : State :=
  let s1 := { s with ftb := s.ftb + d }
  s1.livePorts.foldl (fun s p => s.stepTimetable p) s1

/-- A signed number as a 32-bit saturating field (R452, FTB_OFFSET). -/
def offsetField (v : Int) : Nat :=
  signedField 32 (max (-(2 ^ 31 : Int)) (min (2 ^ 31 - 1 : Int) v))

/-- The servo meets a measured offset: a step where the source is 10,000 ticks or more ahead, a slew otherwise; the state
is locked after 8 offsets within ±50 ticks (R455). The rate adjustment within its bound is a free value. -/
def State.servo (s : State) (offset : Int) : State :=
  let st := s.get .deviceFtbState 0
  let good := if -50 ≤ offset && offset ≤ 50 then s.qos.goodOffsets + 1 else 0
  let st' := if offset < -500 || 500 < offset then 1 else if 8 ≤ good then 2 else if st = 3 || st = 0 then 1 else st
  let bound : Nat := if st' = 2 then 2000 else 10000
  let rate : Int := ((s.free % (2 * bound + 1) : Nat) : Int) - bound
  let s1 := ((s.put .deviceFtbOffset 0 0 (offsetField offset)).put .deviceFtbState 0 0 st').modQos (fun q =>
    { q with goodOffsets := good, lastMeasure := s.ftb })
  if 10000 ≤ offset then s1.stepFtb offset.toNat
  else (s1.put .deviceFtbRate 0 0 (signedField 16 rate)).drawn

end Sys2Proof.Machine
end

