-- ==== Sys2Proof/Machine/AdmitOps.lean ====
section
/-! DEFINITION. Admission of a frame: the requester's tenant, the rule check, refusals and captures, the apertures, the
Junction, and the queueing of what is allowed (R255 to R283, R311 to R324, R374 to R397, R415, R419, R580, R592). -/

namespace Sys2Proof

/-- The permission bits a request needs: read 1, write 2, atomic 4, CXL.cache 8 (R387). -/
def FrameKind.needs : FrameKind → Nat
  | .ioRead => 1
  | .ioWrite => 2
  | .ioAtomic _ => 4
  | .farAtomic _ => 4
  | .memReq k => (match k with | .rdS => 1 | .rdNc => 1 | .at => 4 | _ => 2)
  | .cacheReq k => (match k with | .rdS => 9 | .rdNc => 9 | .at => 12 | _ => 10)
  | _ => 0

/-- CAP_KIND of a request (R397). -/
def FrameKind.capKind : FrameKind → Nat
  | .ioRead => 0
  | .ioWrite => 1
  | .ioAtomic _ => 2
  | .farAtomic _ => 2
  | .memReq k => (match k with | .rdS => 3 | .rdNc => 3 | .rdE => 3 | .at => 3 | _ => 4)
  | .cacheReq _ => 5
  | _ => 0

/-- A write or an atomic, whose page is marked at its check (R403). -/
def FrameKind.marks : FrameKind → Bool
  | .ioWrite => true
  | .ioAtomic _ => true
  | .farAtomic _ => true
  | .memReq k => k == .wr || k == .wb || k == .at
  | .cacheReq k => k == .at
  | _ => false

/-- A posted write or a far-atomic message, for which no answer is sent. -/
def FrameKind.posted : FrameKind → Bool
  | .ioWrite => true
  | .farAtomic _ => true
  | _ => false

end Sys2Proof

namespace Sys2Proof.Machine

/-! ### Broken objects (R592) -/

/-- An object whose table entry holds an uncorrectable error is broken: it is recorded and its generation changes. -/
def State.breakObject (s : State) (cls idx sub : Nat) : State :=
  let s1 := { s with errors := { s.errors with
    broken := s.errors.broken ++ [(cls, idx, sub)]
    badObjects := s.errors.badObjects.filter (· != (cls, idx, sub)) } }
  (s1.contain { code := 0x0401, detail := [cls, idx, sub] }).bump cls idx sub

/-- The table entries of some classes are read: those that hold an uncorrectable error are found broken (R589, R592). -/
def State.findBroken (s : State) (classes : List Nat) : State :=
  (s.errors.badObjects.filter (fun e => classes.contains e.1)).foldl (fun s e => s.breakObject e.1 e.2.1 e.2.2) s

/-! ### The tenant and the rule of a request (R374 to R378, R386 to R388) -/

/-- The tenant of a request, or 0x1000 for none (R374). -/
def State.requesterTenant (s : State) (f : FrameIn) : Nat :=
  let p := f.port.val
  if s.mgmtPort == some p then 0
  else match f.pbr with
    | some (spid, _) => if (s.port p).role == .interSwitch || s.get .portProto p == 2 then s.get .pbrTenant spid.toNat else s.get .portTenant p
    | none => s.get .portTenant p

/-- Whether a request is privileged (R378). -/
def State.privileged (s : State) (f : FrameIn) (t : Nat) : Bool :=
  t == 0 || s.mgmtPort == some f.port.val ||
  (t < 4096 && f.pasid.isSome && f.privBit && bitOf (s.get .tenantShPerm t) 1)

/-- The rules that take part in matching for a tenant: valid, in its bank, and not broken (R386, R592). -/
def State.liveRules (s : State) (t : Nat) : List Nat :=
  (s.rulesOf t).filter (fun i => s.get .ruleValid i == 1 && s.get .ruleBank i == s.get .tenantBank t &&
    !s.errors.broken.contains (clsRule, i, 0))

/-- The last byte a rule covers. -/
def State.ruleLast (s : State) (i : Nat) : Nat := s.get .ruleEnd i + 63

/-- The rule that covers a byte. -/
def State.ruleAt (s : State) (t a : Nat) : Option Nat :=
  (s.liveRules t).find? (fun i => s.get .ruleStart i ≤ a && a ≤ s.ruleLast i)

/-- The permission a rule grants (R380). -/
def State.rulePermission (s : State) (t i : Nat) : Nat :=
  if t = 0 then s.get .rulePerm i else s.get .rulePerm i &&& bitsOf (s.get .tenantShPerm t) 2 4

/-- What the checker decides: a rule allows the request, the default map does, it is refused with a reason and the rule of
its first byte, or its tenant is being reset (R386, R388, R395, R410). -/
inductive Verdict
  | rule (i : Nat)
  | defaultMap
  | refused (reason : Nat) (rule : Option Nat)
  | reset
  deriving DecidableEq, Repr

/-- The check of a request (R386 to R388). -/
def State.check (s : State) (f : FrameIn) (t : Nat) : Verdict :=
  if 4096 ≤ t then .refused 4 none
  else if s.get .tenantState t == 2 then .reset
  else
    let last := f.addr + max f.size 1 - 1
    match s.ruleAt t f.addr with
    | some i =>
      if last ≤ s.ruleLast i then
        if s.rulePermission t i &&& f.kind.needs == f.kind.needs then .rule i else .refused 2 (some i)
      else .refused 3 (some i)
    | none =>
      if (s.liveRules t).any (fun i => s.get .ruleStart i ≤ last && f.addr ≤ s.ruleLast i) then .refused 3 none
      else if s.privileged f t then .defaultMap
      else .refused 1 none

/-! ### Refusals (R395 to R397, R410) -/

/-- The attributes of a request for the filters of a counter (R568). -/
def State.requestAttrs (s : State) (f : FrameIn) (t : Nat) : EventAttrs :=
  { privBit := some (if s.privileged f t then 1 else 0), tenant := if t < 4096 then some t else none,
    reqId := some f.reqId.toNat, line := some (f.addr / 64 * 64) }

/-- The answer of R395 to a refused request of a kind, to the port it came from. -/
def State.answerRefusal (s : State) (p tag : Nat) (kind : FrameKind) : State :=
  match kind with
  | .ioRead | .ioAtomic _ => s.emit (.answer p tag ansUR false)
  | .memReq k =>
    (match k with
     | .rdS | .rdE | .rdNc | .at => s.emit (.answer p tag ansDRS true)
     | .wr | .wb | .ev => s.emit (.answer p tag ansCmp false))
  | .cacheReq k => s.emit (.answer p tag ansGoErr (k == .rdS || k == .rdE || k == .rdNc || k == .at))
  | _ => s

/-- The answer to a refused frame (R395). -/
def State.refusedAnswer (s : State) (f : FrameIn) : State := s.answerRefusal f.port.val f.tag f.kind

/-- The imprecise notice of a refused write (R396). -/
def State.notice (s : State) (f : FrameIn) (t : Nat) : State :=
  let noticed : Bool := match f.kind with
    | .ioWrite | .farAtomic _ => true
    | .memReq k => k == .wr || k == .wb
    | _ => false
  if noticed then
    let s1 := if t < 4096 then s.raiseVector (s.get .tenantEvViol t) (some t) else s
    if f.kind = FrameKind.ioWrite then
      match s.switchOf f.port.val f.ldid.toNat with
      | some v => s1.uspReport v false aerUnsupported
      | none => s1
    else s1
  else s

/-- CAP_REQID of a request (R397). -/
def capReqId (f : FrameIn) : Nat :=
  f.reqId.toNat + (match f.pasid with | some x => x.toNat * 2 ^ 16 + 2 ^ 36 | none => 0) + (if f.privBit then 2 ^ 37 else 0)

/-- The checker of a station captures a refusal, or counts it after one (R397). -/
def State.capture (s : State) (f : FrameIn) (t reason : Nat) (rule : Option Nat) : State :=
  let n := portStation f.port.val
  if s.get .checkerCapValid n == 0 then
    let vals : List (Fld × Nat) := [(.checkerCapReason, reason), (.checkerCapKind, f.kind.capKind),
      (.checkerCapTenant, min t 0x1000), (.checkerCapPort, f.port.val), (.checkerCapReqid, capReqId f),
      (.checkerCapAddr, f.addr), (.checkerCapLen, f.size), (.checkerCapRule, rule.getD 0x1FFFF), (.checkerCapTime, s.ftb),
      (.checkerLater, 0)]
    let s1 := (vals.foldl (fun s e => s.put e.1 n 0 e.2) s).devicePut .checkerCapValid n 0 1
    s1.corrected (ErrorAt.atUnit { code := 0x0B02, place := n, tenant := min t 0x1000, addr := f.addr,
                                   detail := [reason, f.kind.capKind, f.port.val, min t 0x1000] } n)
  else
    let v := s.get .checkerLater n + 1
    let s1 := s.put .checkerLater n 0 v
    if v < 2 ^ 48 then s1 else s1.devicePut .checkerOvf n 0 1

/-- VIOL_COUNT of a tenant's window goes up by one (R396, R416). -/
def State.countViolation (s : State) (t : Nat) : State :=
  if t < 4096 then
    s.modWindow t (fun w =>
      if w.violCount + 1 < 2 ^ 48 then { w with violCount := w.violCount + 1 } else { w with violCount := 0, violOvf := true })
  else s

/-- A refusal counts in the tenant's window and as an event of the station (R396, R567). -/
def State.countRefusal (s : State) (f : FrameIn) (t : Nat) : State :=
  (s.countViolation t).count (portStation f.port.val) 0x012 (s.requestAttrs f t)

/-- A request is refused whole (R395 to R397). -/
def State.refuseFrame (s : State) (f : FrameIn) (t reason : Nat) (rule : Option Nat) : State :=
  (((s.countRefusal f t).refusedAnswer f).notice f t).capture f t reason rule

/-- A request of a tenant being reset is counted apart and never captured (R398, R410). -/
def State.countReset (s : State) (f : FrameIn) (t : Nat) : State :=
  (s.modTenant t (fun x => { x with resetRejects := x.resetRejects + 1 })).count (portStation f.port.val) 0x013 (s.requestAttrs f t)

/-- A request of a tenant being reset is refused (R410). -/
def State.rejectReset (s : State) (f : FrameIn) (t : Nat) : State := (s.countReset f t).refusedAnswer f

/-! ### Apertures (R415, R579, R580) -/

/-- An access of 1 to 8 bytes that does not cross an 8-byte boundary. -/
def smallAccess (a n : Nat) : Bool := 1 ≤ n && n ≤ 8 && a / 8 == (a + n - 1) / 8

/-- The 64-bit word of a pool counter (R579); a broken counter reads VALUE 0 with OVF set (R592). -/
def State.counterWord (s : State) (k : Nat) : Nat :=
  (if s.errors.broken.contains (clsCounter, k, 0) then 2 ^ 48
   else s.get .counterValue k + s.get .counterOvf k * 2 ^ 48) +
  s.get .counterRun k * 2 ^ 49 + s.get .counterSelect k * 2 ^ 50

/-- The window of a tenant serves an access (R415). -/
def State.windowAccess (s : State) (f : FrameIn) (t : Nat) : State :=
  let off := f.addr - s.get .tenantTwBase t
  let p := f.port.val
  if smallAccess off f.size then
    if f.kind = .ioRead then s.emit (.completion p f.tag .success (s.windowRead t off f.size))
    else s.windowWrite t off f.data
  else if f.kind = .ioRead then s.emit (.answer p f.tag ansUR false)
  else match s.switchOf p f.ldid.toNat with
    | some v => s.countLost.uspReport v false aerUnsupported
    | none => s.countLost

/-- The counter aperture of a tenant serves an access (R580). -/
def State.counterAccess (s : State) (f : FrameIn) (t : Nat) : State :=
  let off := f.addr - s.get .tenantCwBase t
  if f.kind = .ioRead then
    if smallAccess off f.size then
      let k := off / 8
      let v := if s.allocated clsCounter k && s.get .counterOwner k == t then s.counterWord k else 0
      s.emit (.completion f.port.val f.tag .success (((toLE 8 v).drop (off % 8)).take f.size))
    else s.emit (.answer f.port.val f.tag ansUR false)
  else s

/-- Whether a range lies in an aperture. -/
def inAperture (base size a n : Nat) : Bool := base != 0 && base ≤ a && a + max n 1 ≤ base + size

/-- The class of a frame (R419, R644). -/
def State.frameClass (s : State) (f : FrameIn) : Nat :=
  let p := f.port.val
  if s.get .portProto p == 2 then f.cls.val
  else
    let m := s.get .portMemclass p
    match f.fmt.val with
    | 0 => bitsOf (s.get .portClassmap p) (3 * f.tc.val) 3
    | 1 | 2 | 7 => bitsOf m 0 3
    | 6 | 10 => bitsOf m 3 3
    | 13 => 4
    | _ => bitsOf m 6 3

/-! ### The Junction (R312 to R324) -/

/-- Change the Junction. -/
def State.modJunction (s : State) (f : Junction → Junction) : State := { s with junction := f s.junction }

/-- The window a CXL.io memory request enters, by its tenant and its first byte (R312); a broken entry routes nothing
(R592). -/
def State.windowOf (s : State) (t a : Nat) : Option Nat :=
  (List.range 256).find? (fun w => s.get .windowKind w != 0 && s.get .windowOwner w == t &&
    !s.errors.broken.contains (clsWindow, w, 0) && s.get .windowBase w ≤ a && a ≤ s.get .windowLimit w)

/-- The element size of a window in bytes. -/
def elemBytes (e : Nat) : Nat := 2 * 2 ^ e

/-- Reverse the bytes of each element (R322, data-invariant). -/
def reverseElems (e : Nat) : Nat → List Byte → List Byte
  | 0, l => l
  | k + 1, l => if l.isEmpty then [] else (l.take e).reverse ++ reverseElems e k (l.drop e)

/-- Whether LANES admits an access of `n` bytes at an offset (R322). -/
def lanesAdmit (trunk : Bool) (lanes e off n : Nat) : Bool :=
  match lanes with
  | 0 => true
  | 1 => !trunk || off / e == (off + n - 1) / e || (off % e == 0 && (off + n) % e == 0)
  | _ => off % e == 0 && n % e == 0 && 0 < n

/-- The Junction header of a wrap (R315). -/
def wrapHeader (jkind win tenant tag err stamp : Nat) : List Byte :=
  toLE 8 (jkind + win * 2 ^ 4 + tenant % 4096 * 2 ^ 12 + tag * 2 ^ 24 + err * 2 ^ 36) ++ toLE 8 stamp

/-- A wrap crosses the core to a Trunk port in class 4 or 5 (R317). -/
def State.sendWrap (s : State) (src : FrameIn) (port cls tenant tag : Nat) (header body : List Byte) (len : Nat) : State :=
  let f : FrameIn := { src with fmt := 13, kind := .wrap, data := header ++ body, tag := tag, unit := none, made := true }
  s.takeIn (s.mkFrame f (min (32 + len) 4352) cls 3 1 tenant port false false false) false

/-- The answer of the Junction to an access it does not serve; a posted write is discarded and reported (R321, R322). -/
def State.junctionRefuse (s : State) (f : FrameIn) (answer : Nat) : State :=
  if f.kind.posted then
    match s.switchOf f.port.val f.ldid.toNat with
    | some v => s.countLost.uspReport v false aerUnsupported
    | none => s.countLost
  else s.emit (.answer f.port.val f.tag answer false)

/-- What a wrapped TLP is to the far end: write, address, size and data. -/
def wrappedTlp (write : Bool) (addr size : Nat) (data : List Byte) : List Byte :=
  [if write then 1 else 0] ++ toLE 8 addr ++ toLE 2 size ++ data

/-- A request in a Trunk window (R316, R317, R322). -/
def State.trunkRequest (s : State) (f : FrameIn) (w t : Nat) : State :=
  let off := f.addr - s.get .windowBase w
  let lanes := s.get .windowLanes w
  let e := elemBytes (s.get .windowElem w)
  if !lanesAdmit true lanes e off f.size || 4336 < f.len then s.junctionRefuse f ansUR
  else
    let far := (s.get .windowRemote w + off) % 2 ^ 64
    let data := if lanes = 2 then reverseElems e f.data.length f.data else f.data
    let port := s.get .windowPort w
    let body := wrappedTlp (f.kind = .ioWrite) far f.size data
    if f.kind = .ioWrite then s.sendWrap f port 4 t 0 (wrapHeader 1 w t 0 0 0) body (f.len - 16)
    else
      match (List.range 4096).find? (fun k => (Tab.find s.junction.near k).isNone) with
      | none => (s.modJunction (fun j => { j with tagMiss := j.tagMiss + 1 })).emit (.answer f.port.val f.tag ansCA false)
      | some k =>
        let r : NearRequest := { window := w, port, host := f.port.val, reqId := f.reqId.toNat, hostTag := f.tag,
                                 cls := s.frameClass f, tenant := t, lanes, elem := s.get .windowElem w, sentAt := s.ftb }
        (s.modJunction (fun j => { j with near := Tab.set j.near k r })).sendWrap f port 4 t k (wrapHeader 1 w t k 0 0) body
          (f.len - 16)

/-- The bus transfers of an access: register offset and byte count (R321, R322). -/
def busTransfers (lanes e off n : Nat) : List (Nat × Nat) :=
  if lanes = 0 then [(off, n)]
  else ((List.range n).filterMap (fun i =>
    let a := off + i
    if i = 0 || a % e = 0 then
      let stop := min (off + n) ((a / e + 1) * e)
      some (a, stop - a)
    else none))

/-- The front access of a window starts its next transfer on the bus (R321, R323). -/
def State.startTransfer (s : State) (w : Nat) : State :=
  match Tab.get [] s.junction.bus w with
  | a :: _ =>
    match a.transfers with
    | (reg, n) :: _ =>
      let bytes := if a.lanes = 2 then reverseElems (elemBytes a.elem) a.data.length a.data else a.data
      s.emit (.busTransfer (bitsOf a.remote 0 2) (bitsOf a.remote 2 7) reg n a.write
        (if a.write then (bytes.drop (reg - a.offset)).take n else []) (bitsOf a.remote 9 1) (bitsOf a.remote 10 2) (bitsOf a.remote 12 2))
    | [] => s
  | [] => s

/-- An access to a service-bus window (R321 to R323): a posted write is complete towards the host at once. -/
def State.busAccess (s : State) (f : FrameIn) (w t : Nat) : State :=
  let off := f.addr - s.get .windowBase w
  let remote := s.get .windowRemote w
  let lanes := s.get .windowLanes w
  let e := elemBytes (s.get .windowElem w)
  if !smallAccess off f.size || (bitsOf remote 10 2 == 0 && off != 0) || !lanesAdmit false lanes e off f.size then
    s.junctionRefuse f ansUR
  else
    let a : BusAccess :=
      { window := w, write := f.kind = .ioWrite, host := f.port.val, hostTag := f.tag, offset := off, data := f.data,
        transfers := busTransfers lanes e off f.size, result := [], reissues := 0, yielded := false, takenAt := s.ftb,
        remote, lanes, elem := s.get .windowElem w, ev := bitsOf remote 32 13, owner := t }
    let idle := (Tab.get [] s.junction.bus w).isEmpty
    let s1 := s.modJunction (fun j => { j with bus := Tab.modify [] j.bus w (· ++ [a]) })
    if idle then s1.startTransfer w else s1

/-- A request that its window takes (R312): counted, and served by the kind of the window. -/
def State.junctionRequest (s : State) (f : FrameIn) (w t : Nat) : State :=
  let s1 := s.count 86 0x090 { tenant := some t, reqId := some f.reqId.toNat, line := some (f.addr / 64 * 64) }
  if s.get .windowKind w = 1 then s1.trunkRequest f w t else s1.busAccess f w t

/-! ### Admission -/

/-- The frame goes to an output port: one that is not link-up, with no flush still to come, discards it at once (R286);
else it is mirrored, charged and queued. A frame whose check failed is discarded, or follows with ABORT where its
spreading had begun (R270 to R272). -/
def State.sendFrame (s : State) (f : FrameIn) (cache order tenant dport : Nat) (vppb : Option (Nat × Nat))
    (toLd : Option Nat := none) (fabric : Option (BitVec 12 × BitVec 12) := none) : State :=
  let p := f.port.val
  let cls := s.frameClass f
  let trunk := s.get .portProto p == 2
  let drop := trunk && bitOf (s.get .portDrop p) cls
  let failed := !(f.good && f.whole)
  let answer := fun (s : State) => s.answerDiscarded false p dport f.tag f.ldid.toNat f.kind vppb f.addr tenant
  let fr : Frame := { s.mkFrame f f.len cls cache order tenant dport drop false failed with toLd, fabric }
  let s := if failed then s else s.mirror p 1 f f.len tenant
  if !s.portUp dport && !(s.port dport).flushing && !fr.toSlice then answer s
  else
    if failed && (decide (fr.wagons ≤ 2) || s.storeForward f dport cls) then s.countLost
    else s.takeIn fr (f.kind.request && !trunk && f.kind != .config)

/-- The logical device that a vPPB of KIND 2 is bound to (R302). -/
def State.ldOf (s : State) (vppb : Option (Nat × Nat)) : Option Nat :=
  match vppb with
  | some (v, b) => if s.get .vppbKind v b = 2 then some (s.get .vppbLdid v b) else none
  | none => none

/-- A frame follows its route (R292 to R298, R302). One that its PBR entry sends back to the port it came from is discarded and
counted, and no rule gives it an answer (R297). -/
def State.sendRouted (s : State) (f : FrameIn) (cache order tenant : Nat) : State :=
  match s.routeRequest f.port.val (f.pbr.map (fun x => x.2.toNat)) f.ldid.toNat f.kind f.addr with
  | .to q vppb => s.sendFrame f cache order tenant q vppb (s.ldOf vppb) (s.edgeHeader f.port.val f.kind f.addr)
  | .turnback => s.countPort f.port.val 0x019
  | .unrouted => s.answerDiscarded true f.port.val f.port.val f.tag f.ldid.toNat f.kind none f.addr tenant

/-- An allowed request: counted, its page marked, then served by an aperture or the Junction, or routed (R312, R389, R403,
R415, R580). `t` is the tenant charged, and `byRule` says that a rule of its own allowed it. -/
def State.admitAllowed (s : State) (f : FrameIn) (t cache order : Nat) (byRule : Bool) : State :=
  let a := s.requestAttrs f t
  let n := portStation f.port.val
  let attrs := { a with cls := some (s.frameClass f) }
  let s1 := (s.count n 0x010 attrs).count n 0x011 attrs f.size
  let shared := cache == 2 && (match f.kind with | .memReq _ => true | .cacheReq _ => true | _ => false)
  let s2 := if byRule && f.kind.marks && !(shared && f.kind == .memReq .wb) then s1.gleanerMark t f.addr else s1
  let seen : State → State := fun s => if f.good && f.whole then s.mirror f.port.val 1 f f.len t else s
  if f.kind.ioMemory && byRule && inAperture (s.get .tenantTwBase t) 0x1000 f.addr f.size then (seen s2).windowAccess f t
  else if f.kind.ioMemory && byRule && inAperture (s.get .tenantCwBase t) 0x20000 f.addr f.size then (seen s2).counterAccess f t
  else
    match f.kind with
    | .ioRead | .ioWrite | .ioAtomic _ =>
      match s.windowOf t f.addr with
      | some w =>
        if f.kind.ioMemory then
          if f.addr + max f.size 1 ≤ s.get .windowLimit w + 1 then (seen s2).junctionRequest f w t
          else s2.refuseFrame f t 3 none
        else s2.emit (.answer f.port.val f.tag ansUR false)
      | none => s2.sendRouted f cache order t
    | _ => s2.sendRouted f cache order t

/-- A request is checked against its tenant's rules (R376, R386, R388, R395). -/
def State.admitRequest (s : State) (f : FrameIn) : State :=
  let t := s.requesterTenant f
  match s.check f t with
  | .rule i => s.admitAllowed f t (s.get .ruleCache i) (s.get .ruleOrder i) true
  | .defaultMap => s.admitAllowed f 0 3 1 false
  | .refused reason rule => s.refuseFrame f t reason rule
  | .reset => s.rejectReset f t

/-- The far end wraps a completion, or an error code, back to the near end (R318). -/
def State.farAnswer (s : State) (src : FrameIn) (tag : Nat) (err : Nat) (data : List Byte) : State :=
  match Tab.find s.junction.far tag with
  | none => s
  | some r =>
    (s.modJunction (fun j => { j with far := Tab.drop j.far tag })).sendWrap src r.port 5 0 r.nearTag
      (wrapHeader 2 r.window 0 r.nearTag err 0) (wrappedTlp false 0 data.length data) data.length

/-- Whether a response of a format answers a request of another: a completion a TLP, NDR and DRS an M2S request, H2D responses and
data a D2H request, D2H ones an H2D request, BIRsp a BISnp (R280). -/
def answersFmt (req resp : Nat) : Bool :=
  match resp with
  | 0 => req == 0
  | 4 | 5 => req == 1 || req == 2
  | 11 | 12 => req == 7
  | 8 | 9 => req == 10
  | 3 => req == 6
  | _ => false

/-- Whether an open request is the one a frame answers: the tag, the kind of unit, for a TLP the requester ID, and
for a logical device its LD-ID (R280, R302). -/
def OpenRequest.answeredBy (o : OpenRequest) (f : FrameIn) : Bool :=
  o.tag == f.tag && answersFmt o.fmt f.fmt.val && (f.fmt.val != 0 || o.reqId == f.reqId.toNat) && o.toLd.all (· == f.ldid.toNat)

/-- A completion or response: the tracker of its port gives its tenant and its output (R280). One of a far Junction request
is wrapped back (R318). One for a request that the flush has answered is discarded (R288). One for which the device has no request
takes T0 and follows the binding. -/
def State.admitResponse (s : State) (f : FrameIn) : State :=
  let p := f.port.val
  match (s.port p).opens.find? (fun o => o.answeredBy f) with
  | none =>
    match (s.port p).closed.find? (fun o => o.answeredBy f) with
    | some o => (s.modPort p (fun x => { x with closed := x.closed.erase o })).countLost
    | none => s.sendRouted f 3 1 0
  | some o =>
    let s1 := s.modPort p (fun x => { x with opens := x.opens.erase o })
    match Tab.find s.junction.far f.tag with
    | some r =>
      if r.port == o.from_ then s1.farAnswer f f.tag (if f.poison then 4 else 0) f.data else s1.sendFrame f 3 1 o.tenant o.from_ none (some o.fromLd)
    | none => s1.sendFrame f 3 1 o.tenant o.from_ none (some o.fromLd)

/-- A frame arrives at an input station (R255, R376, R394): requests that rules govern are checked, I/O requests within a
window are unsupported (R312), and the rest is routed by binding. -/
def State.admitFrame (s : State) (f : FrameIn) : State :=
  let s := s.findBroken [clsRule, clsPbr, clsVppb, clsWindow, clsTShaper]
  if !f.good && decide (f.len ≤ 128) then s.countLost
  else if f.kind.checked then s.admitRequest f
  else match f.kind with
    | .completion | .response => s.admitResponse f
    | .wrap => s
    | .ioSpace | .config =>
      match s.windowOf (s.requesterTenant f) f.addr with
      | some _ => s.emit (.answer f.port.val f.tag ansUR false)
      | none => s.sendRouted f 3 1 0
    | _ => s.sendRouted f 3 1 0

/-- A frame that arrives takes its partner's credit; unless it is stored, that is free again at once (R220, R282). -/
def State.withCredit (s : State) (kind : FrameKind) (p c w : Nat) (act : State → State) : State :=
  let s1 := act (s.spendCredit p c w)
  if s1.sw.frames.any (fun e => decide (s.sw.nextFrame ≤ e.1) && e.2.inp.port.val == p && !e.2.copy && !e.2.own) then s1
  else s1.freeCredit kind p c w

end Sys2Proof.Machine
end

