-- ==== Sys2Proof/Machine/LinkOps.lean ====
section
/-! DEFINITION. Links: the roles and states of a port, going up and going down, containment, and the vPPBs bound to it
(R105, R154 to R160, R188 to R192, R228, R304 to R309, R558, R595, R596). -/

namespace Sys2Proof.Machine

/-- Change the coherence of a vPPB's HP (R304). HP is read-only, so its generation stays. -/
def State.setHp (s : State) (v b hp : Nat) : State := s.put .vppbHp v b hp

/-! ### Equaliser bands (R155 to R158) -/

/-- The band of a loss in 0.1 dB (R157). -/
def lossBand (loss : Nat) : Nat :=
  if loss < 120 then 0 else if loss < 200 then 1 else if loss < 260 then 2 else if loss < 310 then 3
  else if loss ≤ 360 then 4 else 5

/-- The starting preset and CTLE code of a band (R157). -/
def bandStart (band : Nat) : Nat × Nat :=
  match band with
  | 0 => (4, 2) | 1 => (1, 5) | 2 => (8, 8) | 3 => (7, 11) | 4 => (7, 13) | _ => (7, 15)

/-- The loss a lane's band is chosen from: the adapted one where it exists, else the reflection one; none where nothing
was seen (R154, R155). MSTATUS 1 is a measured lane. -/
def Lane.loss (l : Lane) : Option Nat :=
  if l.lossAdapt != 0 then some l.lossAdapt else if l.mstatus == 1 then some l.lossRefl else none

/-- The band a lane starts a training with: band 2 for NOREFLECT (R154, R157). It fixes the starting preset, the one first
requested of the partner, and the CTLE code. -/
def Lane.rebanded (l : Lane) : Lane :=
  let band := match l.loss with | some x => lossBand x | none => 2
  { l with band := band, txPreset := (bandStart band).1, askPreset := (bandStart band).1, ctle := (bandStart band).2 }

/-- The lanes of a port. -/
def State.lanesOf (s : State) (p : Nat) : List Nat := (List.range (s.portLanes p).2).map (fun i => (s.portLanes p).1 + i)

/-- The bands of a port's lanes before a training. -/
def State.chooseBands (s : State) (p : Nat) : State :=
  let s1 := (s.lanesOf p).foldl (fun s l => s.modLane l Lane.rebanded) s
  s1.modPort p (fun x => { x with band5 := (s1.lanesOf p).any (fun l => (s1.lane l).band == 5) })

/-- STATION.LOSS and STATION.LENGTH from the station's lanes: the largest loss, and the longest length in cm (R153,
R156). -/
def State.stationFigures (s : State) (n : Nat) : State :=
  let ls := (List.range 8).map (fun i => s.lane (8 * n + i))
  let loss := (ls.map (fun l => (Lane.loss l).getD 0)).foldl max 0
  let len := (ls.map (fun l => (l.delay * (s.station n).velocity + 5000) / 10000)).foldl max 0
  (s.put .stationLoss n 0 (saturate 16 loss)).put .stationLength n 0 (saturate 16 len)

/-- The highest rate code a port advertises: RATE_MAX, 5 at most with a lane in band 5 (R158, R188). -/
def State.topRate (s : State) (p : Nat) : Nat := min (s.get .portRateMax p) (if (s.port p).band5 then 5 else 6)

/-- A lane is to be measured by reflection (R150). -/
def State.measureLane (s : State) (l : Nat) : State :=
  s.modStation (l / 8) (fun x => { x with measuring := x.measuring ||| 2 ^ (l % 8) })

/-! ### Lane tests (R167 to R173) -/

/-- Bits a lane carries in 10 ns at a rate code, on a 2.5, 5, 8, 16, 32, 64 or 128 GT/s lane. -/
def bitsIn10ns (rate : Nat) : Nat :=
  match rate with
  | 0 => 25 | 1 => 50 | 2 => 80 | 3 => 160 | 4 => 320 | 5 => 640 | _ => 1280

/-- The counts of a checker that is locked are brought up to now (R170, R171): the bits since the lock, and the errors seen
in them, a free value, as no register of the device says what the lane carries. -/
def State.settleTest (s : State) (k : Nat) : State :=
  let t := (s.lane k).test
  if t.active && t.lock then
    let bits := t.bits + (s.ftb - t.lockedAt) * bitsIn10ns t.rate / 10
    let errors := t.errors + s.free % 2 ^ 48
    s.drawn.modLane k (fun l => { l with test := { t with
      bits := bits % 2 ^ 48, bitsOvf := t.bitsOvf || decide (2 ^ 48 ≤ bits), errors := errors % 2 ^ 48,
      errorsOvf := t.errorsOvf || decide (2 ^ 48 ≤ errors), lockedAt := s.ftb } })
  else s

/-- The rate code a lane runs at: that of its test while one runs, else that of its port's link (R167, R177). -/
def State.laneRate (s : State) (k : Nat) : Nat :=
  if (s.lane k).test.active then (s.lane k).test.rate
  else match (s.stationPorts (k / 8)).find? (fun p => (s.lanesOf p).contains k) with
    | some p => (match (s.port p).info with | some i => i.rate.val | none => 0)
    | none => 0

/-- The checker of a lane loses its lock; its counts stay (R170). -/
def State.unlockTest (s : State) (k : Nat) : State :=
  (s.settleTest k).modLane k (fun l => { l with test := { l.test with lock := false } })

/-- A lane loses its signal: a scan running on it ends early, now (R177). -/
def State.endScan (s : State) (k : Nat) : State :=
  s.modLane k (fun l => { l with scan := l.scan.map (fun e => if e.lost.isSome then e else { e with lost := some s.ftb }) })

/-- The generator and checker of a lane stop; its counts stay readable (R167, R173). -/
def State.stopTest (s : State) (k : Nat) : State :=
  ((s.settleTest k).modLane k (fun l => { l with test := { l.test with active := false, lock := false, inject := 0 } })).endScan k

/-! ### Where a link-down port rests -/

/-- Whether anything contains a port (R595). -/
def Containment.any (c : Containment) : Bool := c.slot || !c.dpc.isEmpty || c.replay.isSome || c.ctl

/-- Whether the stations of a port have their transmitters and receivers on: none is in Siding state or on its way (R179). -/
def State.lit (s : State) (p : Nat) : Bool := (s.portStations p).all (fun n => (s.station n).sidingState == SidingState.awake)

/-- Whether a class frame or a bypass frame waits for a port (R184, R235, R423). -/
def State.queuedFor (s : State) (p : Nat) : Bool :=
  (List.range 8).any (fun c => !(Tab.get [] s.sw.outQ (p * 16 + c)).isEmpty) || !(Tab.get [] s.sw.bypass p).isEmpty ||
  !(s.port p).trunk.bypass.isEmpty

/-- Whether the device drives PORTp_CLKREQ_N low (R181): its station is powered, and a standard link is in none of the L1 states
or has something to send. -/
def State.clkreqLow (s : State) (p : Nat) : Bool :=
  s.domainOn (11 + portStation p) && s.portUp p && s.get .portProto p != 2 &&
  (s.get .portLink p ≤ 5 || s.queuedFor p)

/-- Whether a port may train: enabled, of a powered station in the barrier, after the replay (R116, R185, R189, R609). -/
def State.mayTrain (s : State) (p : Nat) : Bool :=
  s.portOk p && s.get .portEnable p == 1 && s.boot.phase == 4 && s.stationIn (portStation p) &&
    s.lit p && (s.portStations p).all (fun n => !(s.station n).clockLost)

/-- The LINK of a port that does not have its link: contained, disabled, in hot reset, detecting, or off (R191). -/
def State.restLink (s : State) (p : Nat) : Nat :=
  let x := s.port p
  if x.contained.any then 12
  else if x.ctlDisabled then 11
  else if x.hotResetUntil != 0 then 10
  else if s.mayTrain p then 1
  else 0

/-- A port starts to detect: its bands are chosen, and a Trunk port begins at its first stage (R157, R199). -/
def State.startDetect (s : State) (p : Nat) : State :=
  let s1 := (s.put .portLink p 0 (s.restLink p))
  if s.restLink p = 1 then
    (s1.chooseBands p).modPort p (fun x => { x with
      trunk := { failures := x.trunk.failures, stage := .detect, since := s.ftb },
      ctl := { peerLevels := none } })
  else s1

/-! ### vPPBs (R304 to R309) -/

/-- A vPPB becomes unbound (R309); an agent behind it that uses CXL.cache dies (R361 reason 3). -/
def State.unbindNow (s : State) (v b : Nat) : State :=
  let p := s.get .vppbPort v b
  let s1 := ((s.put .vppbKind v b 0).setHp v b 0).bump clsVppb v b
  let s2 := s1.modVppb v b (fun x => { x with
    presence := false, linkActive := false, presenceChanged := true, linkChanged := true, managedRemoval := false, auto := false })
  let agents := (List.range 512).filter (fun a => s.get .agentKind a == 2 && s.get .agentPort a == p)
  agents.foldl (fun s a => s.agentDies a 3) (s2.emit (.hotPlug v b))

/-- An unbinding that the device completes on its own raises BIND_EV (R308, R643). -/
def State.unbindLater (s : State) (v b : Nat) : State := (s.unbindNow v b).raiseT0 .deviceBindEv

/-- A bound vPPB whose port has gone down (R307). -/
def State.vppbDown (s : State) (v b : Nat) : State :=
  let hp := s.get .vppbHp v b
  if 1 ≤ hp && hp ≤ 4 then
    let x := s.vppb v b
    ((s.setHp v b 5).modVppb v b (fun y => { y with
      presence := false, linkActive := false,
      presenceChanged := y.presenceChanged || x.presence, linkChanged := y.linkChanged || x.linkActive })).emit (.hotPlug v b)
  else if hp = 6 then s.unbindLater v b
  else s

/-- Whether the thing a vPPB is bound to is ready: its port is link-up, and the logical device answers (R304). -/
def State.vppbReady (s : State) (v b : Nat) : Bool :=
  let p := s.get .vppbPort v b
  s.portUp p &&
  (s.get .vppbKind v b == 1 || (match (s.port p).info with | some i => i.ldReady | none => false))

/-- A vPPB in PENDING goes on when it is ready: to ACTIVE with AUTO, else to PRESENT (R304). -/
def State.settleVppb (s : State) (v b : Nat) : State :=
  if s.get .vppbHp v b = 1 && s.vppbReady v b then
    let auto := (s.vppb v b).auto
    ((s.setHp v b (if auto then 3 else 2)).modVppb v b (fun x => { x with
      presence := true, presenceChanged := true, linkActive := auto, linkChanged := x.linkChanged || auto,
      powerOff := !auto })).emit (.hotPlug v b)
  else s

/-- The vPPBs of a port that has come up: SURPRISE goes to PENDING, and each goes on (R304, R307). -/
def State.vppbsUp (s : State) (p : Nat) : State :=
  (s.vppbsOfPort p).foldl (fun s e =>
    (if s.get .vppbHp e.1 e.2 = 5 then s.setHp e.1 e.2 1 else s).settleVppb e.1 e.2) s

/-! ### Going down (R192, R286, R307, R319, R347, R361, R558) -/

/-- The Junction tags of a Trunk port that went down: each host gets Completer Abort at once (R319). -/
def State.junctionPortDown (s : State) (p : Nat) : State :=
  let mine := s.junction.near.filter (fun e => e.2.port == p)
  let s1 := s.modJunction (fun j =>
    { j with near := j.near.filter (fun e => e.2.port != p), far := j.far.filter (fun e => e.2.port != p) })
  mine.foldl (fun s e => s.emit (.answer e.2.host e.2.hostTag ansCA false)) s1

/-- The agents reached through a port die (R361 reason 1). -/
def State.portAgentsDie (s : State) (p : Nat) : State :=
  ((List.range 512).filter (fun a => s.get .agentKind a != 0 && s.get .agentPort a == p)).foldl (fun s a => s.agentDies a 1) s

/-- Everything of the link layer is lost with the link: IDE keys (R558), the Trunk's replay buffer and credits (R228), the
port record (R160). -/
def PortState.linkLost (x : PortState) (now : Nat) : PortState :=
  { x with
    info := none,
    streams := x.streams.map (fun e => (e.1, { e.2 with secure := false, restore := e.2.restore || e.2.secure })),
    ideJob := none,
    trunk := { failures := x.trunk.failures, stage := .detect, since := now },
    ctl := {}, credit := [], owed := [], unacked := 0 }

/-- An IDE establishment or refresh in progress is given up: the attempt fails and its event is raised (R557, R558). -/
def State.abandonIde (s : State) (p : Nat) : State :=
  match (s.port p).ideJob with
  | some (_, _, ev) => (s.modPort p (fun x => { x with ideJob := none })).raiseVector ev (some 0)
  | none => s

/-- A port goes to a link-down value (R191, R192). From a link-up value its flush is due at the next round boundary, or
comes at once where the Turntable does not run, and what depends on the link follows. -/
def State.linkDownTo (s : State) (p link : Nat) : State :=
  if s.portUp p then
    let s0 := (s.lanesOf p).foldl (fun s k => s.endScan k) s
    let s1 := ((s0.abandonIde p).put .portLink p 0 link).modPort p (fun x => { x.linkLost s.ftb with flushing := true })
    let s2 := (s.vppbsOfPort p).foldl (fun s e => s.vppbDown e.1 e.2) s1
    let s3 := (((s2.junctionPortDown p).failReads p).failWrites p).portAgentsDie p
    if s3.sw.running then s3 else (s3.flushPort p).modPort p (fun x => { x with flushing := false })
  else s.put .portLink p 0 link

/-- A port goes down and rests where its settings put it. -/
def State.dropLink (s : State) (p : Nat) : State :=
  let s1 := s.linkDownTo p 0
  s1.startDetect p

/-! ### Going up (R155, R160, R190, R307, R329, R593) -/

/-- The role a PCIe or CXL port trains in (R190): a port some PBR entry routes to, and that is neither a USP nor bound, is
an inter-switch link. -/
def State.trainedRole (s : State) (p : Nat) : Role :=
  if (s.uspOf p).isSome then .upstream
  else if (s.vppbsOfPort p).isEmpty && (match (s.port p).info with | some i => i.cxl && !i.flit68 | none => false) &&
    s.obj.any (fun e => e.1 / 2 ^ 32 == clsPbr * 256 + 1 && e.2 == p && s.get .pbrValid (e.1 / 65536 % 65536) == 1) then
    .interSwitch
  else .downstream

/-- The logical lane of lane `i` of a port of `n` lanes (R143). -/
def logicalLane (reversed : Bool) (n i : Nat) : Nat := if reversed then n - 1 - i else i

/-- The lanes of a port take their logical numbers: 0xFF outside the trained width (R142, R143, R164). -/
def State.assignLanes (s : State) (p width : Nat) (reversed : Bool) : State :=
  let n := (s.portLanes p).2
  ((s.lanesOf p).zipIdx).foldl (fun s e => s.modLane e.1 (fun l => { l with
    logical := if logicalLane reversed n e.2 < width then logicalLane reversed n e.2 else 0xFF, reversed := reversed })) s

/-- The station records what the training of a port found (R155, R156, R159, R160, R164): a preset the partner requested takes the
place of the starting one at 8 GT/s and above, and the loss is adapted at 64 and 128 GT/s. -/
def State.recordTraining (s : State) (p : Nat) (i : LinkInfo) : State :=
  let s1 := ((s.lanesOf p).zipIdx).foldl (fun s e =>
    s.modLane e.1 (fun l => { l with
      inverted := i.inverted.getLsbD e.2
      skew := i.skew.getD e.2 0
      txPreset := if 2 ≤ i.rate.val then i.presets.getD e.2 i.preq.toNat else l.txPreset
      ctle := if 2 ≤ i.rate.val then i.ctles.getD e.2 l.ctle else l.ctle
      lossAdapt := if 5 ≤ i.rate.val then i.adaptedLoss.getD e.2 l.lossAdapt else l.lossAdapt })) (s.assignLanes p i.width i.reversed)
  (s1.portStations p).foldl (fun s n => s.stationFigures n) s1

/-- The largest width a link runs at, within a number of lanes (R142). -/
def widthWithin (n : Nat) : Nat := if 16 ≤ n then 16 else if 8 ≤ n then 8 else if 4 ≤ n then 4 else if 2 ≤ n then 2 else 1

/-- How many lanes from logical lane 0 on a training has, by the skew of each physical lane: a lane that lags the earliest by
more than 8 ns is failed for that training (R145, R146). -/
def deskewed (reversed : Bool) (lanes : Nat) (skew : List Nat) : Nat :=
  ((List.range lanes).map (fun i => if skew.getD i 0 ≤ 8000 then lanes else logicalLane reversed lanes i)).foldl min lanes

/-- What a training of a standard link settles (R146, R188, R193 to R195): the width leaves out lanes that failed deskew; on a port
that may run CXL, PCAPS shows whether the partner took CXL, and CXL at 128 GT/s. -/
def State.settled (s : State) (p : Nat) (i : LinkInfo) : LinkInfo :=
  let n := (s.portLanes p).2
  let w := min i.width (widthWithin (deskewed i.reversed n i.skew))
  if s.get .portProto p = 1 then
    let caps := (i.pcaps &&& 0xF9) ||| (if i.cxl then 2 else 0) ||| (if i.cxl && i.lerevos then 4 else 0)
    { i with width := w, pcaps := caps }
  else { i with width := w }

/-- Whether a standard link of a port can be the one a training reports (R142, R146, R158, R188, R193 to R195): a rate both ends
advertise, 64 GT/s and above in flit mode alone, CXL above 64 GT/s by the Lerevos entry alone, and 68-byte flits at 32 GT/s at
most, with a partner that has neither 256-byte form. -/
def State.linkOk (s : State) (p : Nat) (i : LinkInfo) : Bool :=
  [1, 2, 4, 8, 16].contains i.width && decide (i.width ≤ (s.portLanes p).2) &&
  decide (0 < deskewed i.reversed (s.portLanes p).2 i.skew) &&
  decide (i.rate.val ≤ s.topRate p) && decide (i.rate.val ≤ i.pmax.toNat) &&
  (!i.cxl || s.get .portProto p == 1) &&
  (decide (i.rate.val < 5) || bitOf i.pcaps.toNat 0) &&
  (!i.cxl || decide (i.rate.val < 6) || (i.lerevos && s.topRate p == 6)) &&
  (if i.flit68 then i.cxl && decide (i.rate.val ≤ 4) && !i.partner256 && !i.partnerLatency
   else !i.cxl || i.partner256 || i.partnerLatency)

/-- A port has its link (R191): the port record and the role are kept, held Loft lines are written (R593), agents become
live (R329), bound vPPBs proceed (R307), and streams that were secure are to be restored (R558). -/
def State.linkUp (s : State) (p : Nat) (i : LinkInfo) : State :=
  let s0 := if (s.port p).flushing then (s.flushPort p).modPort p (fun x => { x with flushing := false }) else s
  let s1 := ((s0.modPort p (fun x => { x with info := some i, partnerFound := true, upAt := s.ftb })).grantCredit p).put .portLink p 0 4
  let s2 := s1.modPort p (fun x => { x with role := s1.trainedRole p })
  let s3 := (s2.recordTraining p i).writeHeld p
  let agents := (List.range 512).filter (fun a => s.get .agentKind a != 0 && s.get .agentPort a == p)
  let s4 := (agents.foldl (fun s a => s.agentWakes a) s3).vppbsUp p
  s4.modPort p (fun x =>
    let job : Option (Nat × Nat × Nat) := match x.streams.find? (fun e => e.2.restore) with
      | some e => if x.role == Role.upstream then none else some (1, e.2.id, 0x2000)
      | none => none
    { x with ideJob := job })

/-! ### Containment (R595, R596) -/

/-- Every vPPB bound to a port, or to a logical device of it, shows DPC Trigger Status (R596): reason 1 ERR_NONFATAL,
2 surprise down. -/
def State.dpcTrigger (s : State) (p reason : Nat) : State :=
  (s.vppbsOfPort p).foldl (fun s e => s.modVppb e.1 e.2 (fun x => { x with dpcStatus := true, dpcReason := reason })) s

/-- A port enters containment for a trigger, numbered 0 slot, 1 DPC, 2 replay buffer, 3 PORT_CTL (R595): LINK 12, with the
flush from a link-up value. -/
def State.containPort (s : State) (p trigger : Nat) (f : Containment → Containment) : State :=
  let before := s.get .portLink p
  let s1 := s.modPort p (fun x => { x with contained := f x.contained })
  if before = 12 then s1
  else
    ((s1.dpcTrigger p (if trigger = 2 then 1 else 2)).linkDownTo p 12).contain
      { code := 0x0304, place := p, detail := [trigger, before] }

/-- A trigger of a port is released; with the last one the port leaves containment and trains afresh if it may (R595). -/
def State.releasePort (s : State) (p : Nat) (f : Containment → Containment) : State :=
  let s1 := s.modPort p (fun x => { x with contained := f x.contained })
  if s.get .portLink p = 12 && !(s1.port p).contained.any then s1.startDetect p else s1

/-- The slot of a port warns: the slot trigger stands (R478, R595). -/
def State.containBySlot (s : State) (p : Nat) : State := s.containPort p 0 (fun c => { c with slot := true })

/-- The slot trigger is released. -/
def State.releaseSlot (s : State) (p : Nat) : State := s.releasePort p (fun c => { c with slot := false })

end Sys2Proof.Machine
end

