-- ==== Sys2Proof/Machine/PowerOps.lean ====
section
/-! DEFINITION. Power domains, Siding state, quadrant gating and wakes (R28, R29, R178 to R187, R268, R269, R285, R369,
R499 to R516). -/

namespace Sys2Proof.Machine

/-- Change the power state. -/
def State.modPower (s : State) (f : Power → Power) : State := { s with power := f s.power }

/-- DOMAIN.STATE takes a value. -/
def State.setDomain (s : State) (d v : Nat) : State := s.put .domainState d 0 v

/-- DOMAIN.REQ of a domain. -/
def State.domainReq (s : State) (d : Nat) : Nat := s.get .domainReq d

/-! ### Wakes (R511, R515) -/

/-- Whether a wake source is enabled: bits 0, 1 and 3 read 1 whatever is written. -/
def State.wakeEnabled (s : State) (src : Nat) : Bool :=
  src == 0 || src == 1 || src == 3 || bitOf (s.get .deviceWakeEn 0) src

/-- A source is latched into WAKE_CAUSE. -/
def State.latchCause (s : State) (src : Nat) : State :=
  s.put .deviceWakeCause 0 0 (s.get .deviceWakeCause 0 ||| 2 ^ src)

/-- An exit from STANDBY or WATCH begins; out of WATCH the first regulators are enabled (R513, R514). -/
def Power.wakeFrom (p : Power) (state : Nat) : Power :=
  { p with step := .wake state 0, vrEn := if 3 ≤ state then [0, 1] else p.vrEn }

/-- A wake source arrives: asleep, the exit begins; during an entry it is latched for the end of the entry; during an exit
it only adds its bit (R511, R515). After the third failed wake in a row sources are ignored (R514). -/
def State.wakeBy (s : State) (src : Nat) : State :=
  if s.wakeEnabled src && !s.power.ignoreWake then
    match s.power.step with
    | .asleep st => (s.latchCause src).modPower (fun p => p.wakeFrom st)
    | .entry _ _ => (s.latchCause src).modPower (fun p => { p with wakeLatched := true })
    | .wake _ _ => s.latchCause src
    | .wakeFailed _ => s.latchCause src
    | _ => s
  else s

/-- Whether the device is in RUN or DOZE. -/
def State.awake (s : State) : Bool := s.power.step == PowerStep.run

/-! ### PERST (R463) -/

/-- Whether SLOTn_PERST_N may be high: the slot is ON with PERST_DLY passed, its station is powered, and no hold of PORT_CTL
stands on its port. -/
def State.perstAllowed (s : State) (n : Nat) : Bool :=
  s.get .slotState n == 5 && (s.slot n).perstAt.isNone && n < s.stationCount && s.domainOn (stationDomain n) &&
  (match s.portOfSlot n with | some p => !(s.port p).perstHold | none => true)

/-- The device drives SLOTn_PERST_N. -/
def State.drivePerst (s : State) (n : Nat) : State := s.modSlot n (fun x => { x with perstN := s.perstAllowed n })

/-! ### Siding state (R182 to R187) -/

/-- The stations that act together: the pair of an x16 port, else the station. -/
def State.stationGroup (s : State) (n : Nat) : List Nat :=
  if s.get .stationBifurc n == 2 then [2 * (n / 2), 2 * (n / 2) + 1] else [n]

/-- REQ as a station follows it: in DOZE, REQ 1 acts as REQ 2 (R502). -/
def State.stationReq (s : State) (n : Nat) : Nat :=
  let r := s.domainReq (stationDomain n)
  if s.get .devicePstate 0 == 1 && r == 1 then 2 else r

/-- Whether each port of a station lets it enter Siding state: L1.2, link-down, or a Trunk port parked by agreement. -/
def State.sidingEligible (s : State) (n : Nat) : Bool :=
  (s.stationPorts n).all (fun p =>
    let l := s.get .portLink p
    l == 8 || !linkUpValue l || (s.get .portProto p == 2 && l == 9))

/-- The stations of a group start to enter Siding state: their receivers go off, so checkers lose lock and link-down ports no
longer detect (R179, R182). -/
def State.enterSiding (s : State) (n : Nat) : State :=
  let s1 := (s.stationGroup n).foldl (fun s m => s.modStation m (fun x =>
    { x with sidingState := .entering, sidingSince := s.ftb, wakeLatched := false })) s
  let s2 := ((s.stationGroup n).flatMap (fun m => (List.range 8).map (8 * m + ·))).foldl (fun s k => (s.unlockTest k).endScan k) s1
  ((s.stationGroup n).flatMap s.stationPorts).foldl (fun s p => if s.portUp p then s else s.put .portLink p 0 (s.restLink p)) s2

/-- A wake of a station in Siding state, or of its pair: the exit starts, or the wake is latched while the station enters
(R184 to R186). -/
def State.wakeStation (s : State) (n : Nat) : State :=
  (s.stationGroup n).foldl (fun s m => s.modStation m (fun x =>
    match x.sidingState with
    | .siding => { x with sidingState := .exiting, sidingSince := s.ftb }
    | .entering => { x with wakeLatched := true }
    | _ => x)) s

/-- Enabled ports of a station that are link-down enter Detect, if they may. -/
def State.detectPorts (s : State) (n : Nat) : State :=
  (s.stationPorts n).foldl (fun s p => if s.portUp p then s else s.startDetect p) s

/-! ### Quadrants (R29, R268, R269, R285) -/

/-- A quadrant begins to be gated (R29): no new sprayed frame starts into its sidings, and the pinned remap is due; a sprayed frame
that has started there continues, as R268 lets sprayed frames do, and the gate waits for it (DEDUCED, log entry 151). The last
powered quadrant stays (R269). -/
def State.gateQuadrant (s : State) (q : Nat) : State :=
  let left := s.quadrantsOn.filter (fun x => x != q && !s.sw.gating.contains x)
  if left.isEmpty || s.sw.gating.contains q || !s.domainOn (quadrantDomain q) then s
  else s.modSw (fun w => { w with gating := w.gating ++ [q], remapTo := w.remapTo.filter (· != q) ++ [q], remapping := true })

/-- Requests to gate that stood unmet, because the quadrant was the last one, are met as another comes up (R269). -/
def State.meetGates (s : State) : State :=
  [3, 2, 1, 0].foldl (fun s q => if s.domainReq (quadrantDomain q) = 0 then s.gateQuadrant q else s) s

/-- A quadrant is wanted again: a gating that has not ended is given up, and the remap goes back (R268). -/
def State.ungateQuadrant (s : State) (q : Nat) : State :=
  let to_ := s.sw.remapTo.filter (· != q)
  (s.modSw (fun w => { w with gating := w.gating.filter (· != q), remapTo := to_, remapping := to_ != w.gated })).meetGates

/-- Whether the sidings of a quadrant hold a wagon, or an input still has wagons of a started frame for one (R29, R263). -/
def State.quadrantHeld (s : State) (q : Nat) : Bool :=
  s.sw.sidQ.any (fun e => e.1 / 64 / 16 == q && !e.2.isEmpty) || s.sw.inQ.any (fun e => e.1 % 64 / 16 == q && !e.2.isEmpty)

/-- Wagons of pinned frames move to the queues of the sidings that the remap in force gives their keys, in their order (R267,
R268). -/
def State.requeuePinned (s : State) : State :=
  s.sw.inQ.foldl (fun s e =>
    let i := e.1 / 64
    let moves : Wagon → Option Nat := fun w => match s.frame w.frame with
      | some f => if f.pin && s.pinnedTo f.key != e.1 % 64 then some (s.pinnedTo f.key) else none
      | none => none
    (e.2.filter (fun w => (moves w).isSome)).foldl (fun s w =>
      match moves w with
      | some j => s.modSw (fun x => { x with
          inQ := Tab.modify [] (Tab.modify [] x.inQ e.1 (fun q => q.erase w)) (i * 64 + j) (· ++ [w]) })
      | none => s) s) s

/-- Whether a siding holds a pinned wagon. -/
def State.pinnedHeld (s : State) : Bool :=
  s.sw.sidQ.any (fun e => e.2.any (fun w => match s.frame w.frame with | some f => f.pin | none => false))

/-- Wagons of every loan block taken. -/
def State.loansTaken (s : State) : Nat := (s.ports.map (fun e => e.2.loanBlocks)).sum * 64

/-- Cells the Granary has for loans and the spare with a number of quadrants powered: what the floors leave (R273, R274). -/
def State.poolWith (s : State) (quadrants : Nat) : Nat :=
  quadrants * Config.quadrantWagons -
    (s.livePorts.map (fun p => 8 * classFloor + s.laneFloor p)).sum

/-- The Granary's cells in use. -/
def State.occupied (s : State) : Nat := s.cells (fun _ => true)

/-! ### Domains follow their REQ (R369, R502, R503) -/

/-- A domain that is off starts to come up (R503). -/
def State.powerUp (s : State) (d : Nat) : State :=
  if s.get .domainState d == 0 then s.modPower (fun p => { p with powering := Tab.set p.powering d s.ftb }) else s

/-- What a committed DOMAIN.REQ starts at its round boundary (R28, R29, R182, R184, R369, R503). -/
def State.followReq (s : State) (d : Nat) : State :=
  let r := s.domainReq d
  if d = 3 || d = 4 then
    if r = 0 then s.modCoh (fun c => { c with untracked := true, goingOff := true })
    else if s.domainReq 3 != 0 && s.domainReq 4 != 0 && s.domainOn 3 && s.domainOn 4 then
      s.modCoh (fun c => { c with untracked := false, goingOff := false })
    else s.powerUp d
  else if 5 ≤ d && d ≤ 8 then
    if r = 0 then s.gateQuadrant (d - 5)
    else if s.domainOn d then s.ungateQuadrant (d - 5)
    else s.powerUp d
  else if d = 10 then (if r = 0 then s.setDomain 10 0 else s.powerUp 10)
  else if 11 ≤ d then
    let n := d - 11
    if n < s.stationCount then
      if r = 1 then (if s.domainOn d then s.wakeStation n else s.powerUp d)
      else if r = 2 then s.powerUp d
      else s
    else s
  else s

/-- The slot sequencer is up: retries that waited for PD10 count their delay from now (R16). -/
def State.sequencerReady (s : State) : State :=
  (List.range 64).foldl (fun s n =>
    if (s.slot n).tripLatched then
      s.modSlot n (fun x => { x with tripLatched := false, retryPassed := false,
                                     retryAt := s.ftb + s.get .slotRetryDly n * 1000000 })
    else s) s

/-- A domain has come up (R503): DOMAIN.STATE reads 1, and what was waiting for it goes on. -/
def State.domainUp (s : State) (d : Nat) : State :=
  let s1 := (s.setDomain d 1).modPower (fun p => { p with powering := Tab.drop p.powering d })
  if d = 3 || d = 4 then
    if s1.domainOn 3 && s1.domainOn 4 && s1.domainReq 3 != 0 && s1.domainReq 4 != 0 then s1.modCoh Coherence.cleared else s1
  else if 5 ≤ d && d ≤ 8 then s1.ungateQuadrant (d - 5)
  else if d = 10 then s1.sequencerReady
  else if 11 ≤ d then
    ((s1.modStation (d - 11) (fun x => { x with sidingState := .awake, dark := false })).drivePerst (d - 11)).detectPorts (d - 11)
  else s1

/-! ### Going to sleep and waking (R499 to R513) -/

/-- Every domain of a list takes a state. -/
def State.setDomains (s : State) (ds : List Nat) (v : Nat) : State := ds.foldl (fun s d => s.setDomain d v) s

/-- The domains that are off in STANDBY (R502). -/
def standbyOff : List Nat := [3, 4, 5, 6, 7, 8, 10] ++ (List.range 64).map (· + 11)

/-- The domains come back as their REQ asks (R513): PD0, PD1, PD2 and PD9 always, and G0 where every quadrant was asked to go off
(R269). DESIGN CHOICE, log entry 150: R269 does not say which quadrant then stays. -/
def State.domainsBack (s : State) : State :=
  let none_ := (List.range 4).all (fun q => s.domainReq (quadrantDomain q) == 0)
  (List.range 75).foldl (fun s d =>
    let on := d ≤ 2 || d = 9 || (d = 5 && none_) || (s.domainReq d != 0 && !(11 ≤ d && s.stationCount ≤ d - 11))
    s.setDomain d (if on then 1 else 0)) s

/-- Every port that is link-up goes link-down, and rests. -/
def State.allLinksDown (s : State) : State :=
  s.livePorts.foldl (fun s p => if s.portUp p then s.linkDownTo p 0 else s.put .portLink p 0 0) s

/-- Every enabled port of the device that may train enters Detect. -/
def State.detectAll (s : State) : State :=
  s.livePorts.foldl (fun s p => if s.portUp p then s else s.startDetect p) s

end Sys2Proof.Machine
end

