-- ==== Sys2Proof/Machine/SlotOps.lean ====
section
/-! DEFINITION. The slot power controllers: states and pins, seating, power-up, the electronic fuse, retries and limits in
flight (R462 to R494). Times are in ticks of 1 ns. -/

namespace Sys2Proof.Machine

/-! ### States and their numbers (R469) -/

/-- STATE OFF. -/
abbrev slotOff : Nat := 0
/-- STATE EMPTY. -/
abbrev slotEmpty : Nat := 1
/-- STATE SEATING. -/
abbrev slotSeating : Nat := 2
/-- STATE PRECHARGE. -/
abbrev slotPrecharge : Nat := 3
/-- STATE RAMP. -/
abbrev slotRamp : Nat := 4
/-- STATE ON. -/
abbrev slotOn : Nat := 5
/-- STATE DOWN. -/
abbrev slotDown : Nat := 6
/-- STATE RETRY_WAIT. -/
abbrev slotRetryWait : Nat := 7
/-- STATE ABSENT. -/
abbrev slotAbsent : Nat := 8
/-- STATE LOCKOUT. -/
abbrev slotLockout : Nat := 9
/-- STATE INHIBIT. -/
abbrev slotInhibit : Nat := 10

/-- Ticks of a number of milliseconds. -/
def ms (n : Nat) : Nat := n * 1000000

/-- Ticks of a number of microseconds. -/
def us (n : Nat) : Nat := n * 1000

/-- SLOT.STATE of a slot. -/
def State.slotState (s : State) (n : Nat) : Nat := s.get .slotState n

/-- The gate drives of a state (R469). -/
def gatePins (st : Nat) (x : SlotState) : SlotState :=
  { x with
    gate := st == slotRamp || st == slotOn || st == slotDown
    pcgate := st == slotPrecharge || st == slotRamp
    pfwN := st == slotOn
    pgood := st == slotOn || st == slotDown }

/-- A slot takes a state: its pins follow, and EV is raised at a change (R468, R469). -/
def State.setSlot (s : State) (n st : Nat) : State :=
  let s1 := (s.modSlot n (gatePins st)).put .slotState n 0 st
  let s2 := s1.drivePerst n
  if s.slotState n = st then s2 else s2.raiseT0 .slotEv n

/-- CAUSE of the last departure from ON, PRECHARGE or RAMP (R477). -/
def State.setCause (s : State) (n c : Nat) : State := s.put .slotCause n 0 c

/-- The port of a slot enters containment as its PFW_N goes low (R478). -/
def State.warnPort (s : State) (n : Nat) : State :=
  match s.portOfSlot n with
  | some p => s.containBySlot p
  | none => s

/-- The port of a slot is warned where PFW_N was high. -/
def State.warnFrom (s : State) (n : Nat) (wasHigh : Bool) : State := if wasHigh then s.warnPort n else s

/-- The containment by a slot is released (R476, R483). -/
def State.unwarnPort (s : State) (n : Nat) : State :=
  match s.portOfSlot n with
  | some p => s.releaseSlot p
  | none => s

/-! ### Limits in force (R484) -/

/-- The committed analogue limits of a slot. -/
def State.committedLimits (s : State) (n : Nat) : SlotLimits :=
  { ilim := s.get .slotIlim n, plim := s.get .slotPlim n, blank := s.get .slotBlank n, shortT := s.get .slotShortT n,
    tempTrip := s.get .slotTempTrip n }

/-- The analogue limits in force: the earlier ones while new ones are being put in place. -/
def State.limitsOf (s : State) (n : Nat) : SlotLimits := ((s.slot n).limits).getD (s.committedLimits n)

/-- The fast-trip threshold in mA: the lesser of 2 × ILIM and 50 mV ÷ RSENSE (R480). -/
def State.fastTripLevel (s : State) (n : Nat) : Nat := min (2 * (s.limitsOf n).ilim) (50000000 / max s.rsense 1)

/-! ### Power-up (R472, R473, R483) -/

/-- Whether a slot is in PRECHARGE or RAMP. -/
def State.starting (s : State) (n : Nat) : Bool := s.slotState n == slotPrecharge || s.slotState n == slotRamp

/-- Whether a slot waits for a start position. -/
def State.waiting (s : State) (n : Nat) : Bool :=
  s.slotState n == slotSeating && s.get .slotEnable n == 1 && s.get .slotSeated n == 1

/-- Whether a waiting slot could start now but for a position: its limits are in place and its VIN is in range (R66, R472, R483). -/
def State.wantsStart (s : State) (n : Nat) : Bool := s.waiting n && !(s.slot n).limitsDue && !(s.slot n).vinBad

/-- Whether one of the 4 start positions is free, and no lower slot waits for it (R472). -/
def State.startFree (s : State) (n : Nat) : Bool :=
  ((List.range 64).filter s.starting).length < 4 && !(List.range 64).any (fun m => decide (m < n) && s.wantsStart m)

/-- The slot moves to RAMP (R474, R475). -/
def State.beginRamp (s : State) (n : Nat) : State :=
  (s.modSlot n (fun x => { x with since := s.ftb, rampDeadline := s.ftb + ms (s.get .slotRampT n) })).setSlot n slotRamp

/-- The slot enters PRECHARGE, or RAMP at once where VOUT is already at 80 % of VIN (R473). -/
def State.beginPrecharge (s : State) (n : Nat) : State :=
  let s1 := (s.modSlot n (fun x => { x with since := s.ftb, pcDeadline := s.ftb + ms (s.get .slotPcTime n) })).setSlot n
    slotPrecharge
  if 0 < s.get .slotVin n && s.get .slotVin n * 80 ≤ s.get .slotVout n * 100 then s1.beginRamp n else s1

/-- A slot that wants power starts if it may: else it shows SEATING, or INHIBIT where VIN is out of range (R66, R472, R483,
R484). -/
def State.tryStart (s : State) (n : Nat) : State :=
  if s.get .slotEnable n != 1 || s.get .slotSeated n != 1 then s.setSlot n (if s.get .slotEnable n = 1 then slotEmpty else slotOff)
  else if !s.domainOn 10 || (s.slot n).limitsDue || !s.startFree n then s.setSlot n slotSeating
  else if (s.slot n).vinBad then s.setSlot n slotInhibit
  else s.beginPrecharge n

/-! ### Power-down and trips (R477 to R491) -/

/-- The slot enters DOWN: its warning goes out at once, and the gate follows PFW_LEAD later (R478). -/
def State.enterDown (s : State) (n cause lead : Nat) : State :=
  let s1 := ((s.setCause n cause).modSlot n (fun x => { x with leadEnd := s.ftb + us lead, downCause := cause, perstAt := none,
                                                               vinWarned := false })).setSlot n slotDown
  s1.warnPort n

/-- The slot reaches OFF: TRIPS is 0 and no absence timer runs. STATE 0 means ENABLE 0, so a slot that was enabled again
meanwhile goes on (R469, R472, R490). -/
def State.reachOff (s : State) (n : Nat) : State :=
  let s1 := ((s.put .slotTrips n 0 0).modSlot n (fun x => { x with absence := none, perstAt := none })).setSlot n slotOff
  if s.get .slotEnable n = 1 then s1.setSlot n (if s.get .slotSeated n = 1 then slotSeating else slotEmpty) else s1

/-- A retry is due RETRY_DLY from now (R485, R488). -/
def State.retryFromNow (s : State) (n : Nat) : State :=
  (s.modSlot n (fun x => { x with retryAt := s.ftb + ms (s.get .slotRetryDly n), retryPassed := false })).setSlot n slotRetryWait

/-- After a trip: a retry is due RETRY_DLY from now, or from PD10's return while PD10 is off (R16, R485). -/
def State.awaitRetry (s : State) (n : Nat) : State :=
  (s.modSlot n (fun x => { x with tripLatched := !s.domainOn 10 })).retryFromNow n

/-- The gate goes off at the end of DOWN: to OFF for an ordered power-down, to ABSENT for a lost seat (R478, R487, R490). -/
def State.endDown (s : State) (n : Nat) : State :=
  if (s.slot n).downCause = 10 then s.reachOff n
  else if s.get .slotSeated n = 1 then s.retryFromNow n
  else s.setSlot n slotAbsent

/-- A wake event of a slot while PD10 is off (R16, R471). -/
def State.slotWake (s : State) : State := if s.domainOn 10 then s else s.wakeBy 3

/-- A trip (R477, R485, R491): the gate goes off, the trip is counted, and the slot waits for a retry or is locked out; a
slot in DOWN goes where its DOWN leads, with the CAUSE of that DOWN. -/
def State.trip (s : State) (n cause : Nat) : State :=
  let s1 := (s.count 87 0x0A0).contain { code := 0x0701, place := n, detail := [cause, s.get .slotIout n, s.get .slotTfet n] }
  let trips := s.get .slotTrips n + 1
  let s2 := (s1.put .slotTrips n 0 (saturate 4 trips)).put .slotTripTotal n 0 (saturate 32 (s.get .slotTripTotal n + 1))
  let s3 :=
    if s.slotState n = slotDown then s2.endDown n
    else
      let s4 := (s2.setCause n cause).modSlot n (fun x => { x with perstAt := none, vinWarned := false })
      if s.get .slotRetries n < trips then s4.setSlot n slotLockout else s4.awaitRetry n
  (s3.warnFrom n (s.slot n).pfwN).slotWake

/-- The gate goes off without a trip, for VIN out of its window, and the slot goes to INHIBIT (R483). -/
def State.inhibit (s : State) (n cause : Nat) : State :=
  let s0 := s.modSlot n (fun x => { x with vinBad := true })
  let s1 :=
    if s.slotState n = slotOn || s.starting n then
      (((s0.setCause n cause).modSlot n (fun x => { x with perstAt := none, vinWarned := false })).setSlot n slotInhibit).warnFrom n (s.slot n).pfwN
    else if s.slotState n = slotDown then s0.endDown n
    else s0
  s1.slotWake

/-! ### Seating (R470, R471, R487, R488) -/

/-- SEATED changes: EV is raised (R468). -/
def State.setSeated (s : State) (n v : Nat) : State := (s.put .slotSeated n 0 v).raiseT0 .slotEv n

/-- The absence timer starts (R487). -/
def State.startAbsence (s : State) (n : Nat) : State :=
  s.modSlot n (fun x => { x with absence := some (s.ftb + ms (s.get .slotAbsence n)) })

/-- Seating is lost (R487). -/
def State.loseSeat (s : State) (n : Nat) : State :=
  let s1 := s.setSeated n 0
  let st := s.slotState n
  let s2 :=
    if st = slotDown then (if (s.slot n).downCause = 10 then s1.reachOff n else s1.startAbsence n)
    else if st = slotOn then (s1.startAbsence n).enterDown n 9 (s.get .slotPfwLead n)
    else if st = slotPrecharge || st = slotRamp then ((s1.startAbsence n).setCause n 9).setSlot n slotAbsent
    else if st = slotRetryWait then
      ((s1.startAbsence n).modSlot n (fun x => { x with tripLatched := false })).setSlot n slotAbsent
    else if st = slotSeating then (s1.startAbsence n).setSlot n slotEmpty
    else s1.startAbsence n
  s2.slotWake

/-- Seating returns (R470, R471, R488). -/
def State.gainSeat (s : State) (n : Nat) : State :=
  let s1 := (s.setSeated n 1).modSlot n (fun x => { x with absence := none })
  let st := s.slotState n
  let s2 :=
    if st = slotAbsent then s1.retryFromNow n
    else if st = slotEmpty && s.get .slotEnable n = 1 then s1.setSlot n slotSeating
    else s1
  s2.slotWake

/-! ### Commits (R484, R490) -/

/-- A commit wrote ENABLE (R490). -/
def State.enableSlot (s : State) (n v : Nat) : State :=
  let st := s.slotState n
  if v = 0 then
    let s1 := (s.put .slotTrips n 0 0).modSlot n (fun x => { x with absence := none, tripLatched := false })
    if st = slotOn then s1.enterDown n 10 (s.get .slotPfwLead n)
    else if st = slotDown then s1.modSlot n (fun x => { x with downCause := 10 })
    else if st = slotPrecharge || st = slotRamp then (s1.setCause n 10).reachOff n
    else s1.reachOff n
  else if st = slotOff then s.setSlot n (if s.get .slotSeated n = 1 then slotSeating else slotEmpty)
  else s

/-- A commit wrote an analogue limit: the earlier ones apply until the new ones are in place (R484). -/
def State.holdLimits (s : State) (n : Nat) (old : SlotLimits) : State :=
  s.modSlot n (fun x => { x with limits := some old, limitsDue := true })

/-! ### Measurement (R493, R494) -/

/-- CBULK in µF from the crossing times in ns and RPC in 0.01 Ω, with ln 2 = 0.693147 (R494). -/
def bulkEstimate (t20 t60 rpc : Nat) : Nat := (t60 - t20) * 100000 / (rpc * 693147)

/-- A pre-charge ends with the times at which it crossed 20 % and 60 %: CBULK is estimated where both were crossed. -/
def State.estimateBulk (s : State) (n : Nat) (t20 t60 : Option Nat) : State :=
  match t20, t60 with
  | some a, some b => s.put .slotCbulk n 0 (saturate 16 (bulkEstimate a b (s.get .slotRpc n)))
  | _, _ => s

/-- A sample of a slot: ENERGY adds VOUT × IOUT × 10 µs, and every tenth sample updates the readings with the mean of the
last ten (R493). A VIN outside 10.6 V to 14.5 V lets no power-up start (R483). -/
def State.sampleSlot (s : State) (n vin vout iout tfet : Nat) : State :=
  let x := s.slot n
  let picojoules := x.energyFrac + vout * iout * 10
  let s1 := s.put .slotEnergy n 0 (s.get .slotEnergy n + picojoules / 1000000000)
  let samples := x.samples ++ [(vin, vout, iout)]
  let full := decide (10 ≤ samples.length)
  let s2 := s1.modSlot n (fun y =>
    { y with energyFrac := picojoules % 1000000000, samples := if full then [] else samples,
             vinBad := y.vinBad || decide (vin < 10600) || decide (14500 < vin) })
  let s3 := s2.put .slotTfet n 0 (saturate 8 tfet)
  if full then
    ((s3.put .slotVin n 0 (saturate 16 ((samples.map (·.1)).sum / samples.length))).put .slotVout n 0
      (saturate 16 ((samples.map (·.2.1)).sum / samples.length))).put .slotIout n 0
      (saturate 16 ((samples.map (·.2.2)).sum / samples.length))
  else s3

end Sys2Proof.Machine
end

