-- ==== Sys2Proof/Machine/ResetOps.lean ====
section
/-! DEFINITION. The resets: what each clears and keeps, and their order of rank (R492, R510, R606 to R612). -/

namespace Sys2Proof.Machine

/-! ### What is kept -/

/-- The epoch after a reset that clears the directory: never 0 (R370). -/
def nextEpoch (e : Nat) : Nat := if e = 0xFFFFFFFF then 1 else e + 1

/-- The objects a warm reset keeps: the SLOT objects (R607), and WAKE_CAUSE, which the AON holds (R515). -/
def keptObject (key : Nat) : Bool :=
  key / 2 ^ 40 == clsSlot || key == objKey clsDevice Fld.deviceWakeCause.info.id 0 0

/-- The Ledger with the next epoch (R370); what the MC's memory held of it is gone. -/
def State.reborn (s : State) (f : Ledger → Ledger) : State :=
  s.modControl (fun l => { f l with epoch := nextEpoch l.epoch, securityTicks := [], excess := 0 })

/-- The boot state at the start of phase 0: the boot ROM is ready to run (R541). -/
def Boot.fresh (b : Boot) : Boot :=
  { flash := b.flash, preferred := b.preferred, bank := b.bank, scratch := b.scratch, tapHold := b.tapHold,
    loadBank := b.preferred, phase := 0, step := .ready, cold := false }

/-- The security state a warm reset keeps: the lifecycle in use of this cold reset (R545, R561). -/
def Security.fresh (x : Security) : Security := { lifecycle := x.lifecycle }

/-- Everything a warm or sag reset clears is at its after-reset value; OTP, straps, the FTB, the Ledger, SLOT objects and
slot controllers, SCRATCH and the reference inputs stay (R607). -/
def State.warmCleared (s : State) (rounds : Nat) (step : PowerStep) : State :=
  let s1 : State := { State.reset with
    otp := s.otp
    strapPins := s.strapPins
    straps := s.straps
    ftb := s.ftb
    obj := s.obj.filter (fun e => keptObject e.1)
    gen := s.gen.filter (fun e => e.1 / 2 ^ 32 == clsSlot)
    ledger := (s.reborn id).ledger
    errors := { badLedger := (s.reborn id).errors.badLedger }
    boot := s.boot.fresh
    sec := s.sec.fresh
    stations := s.stations.map (fun (e : Nat × StationState) => (e.1, ({ velocity := e.2.velocity, clockLost := e.2.clockLost } : StationState)))
    sw := { rounds := rounds }
    qos := { refclkA := s.qos.refclkA, refclkB := s.qos.refclkB, singleClock := s.qos.singleClock }
    slots := s.slots
    power := { step := step, vrEn := s.power.vrEn, sagWarnN := s.power.sagWarnN, waysideOrder := s.power.waysideOrder,
               waysideDiscarded := s.power.waysideDiscarded }
    pool := s.pool
    freeCount := s.freeCount
    outbox := s.outbox
    pending := s.pending }
  (List.range 64).foldl (fun s n => s.drivePerst n) s1

/-- The reset record: type, trigger, LOFT_DIRTY just before, and the dirty lines lost (R603, R608). The types are numbered
1 controlled warm, 2 abrupt warm, 3 sag. -/
def State.logReset (s : State) (type trigger lost : Nat) : State :=
  s.logError 4 s.ftb 1 { code := 0x0C01, detail := [type, trigger, s.field .deviceLoftDirty 0, lost] }

/-- Dirty lines in the Loft. -/
def State.dirtyLines (s : State) : Nat := (s.coh.loft.filter (fun e => e.2.dirty)).length

/-- Whether a reset of a higher or equal rank to a warm one is under way: a cold or sag reset until its wake has ended
(R612). -/
def State.deepReset (s : State) : Bool :=
  match s.power.step with
  | .sagHold => true
  | .wakeFailed from_ => decide (4 ≤ from_)
  | .wake from_ _ => decide (4 ≤ from_)
  | _ => false

/-- An abrupt warm reset (R606, R608); one that arrives within a deeper reset is absorbed (R612). -/
def State.abruptWarm (s : State) (trigger : Nat) : State :=
  if s.deepReset then s else (s.logReset 2 trigger s.dirtyLines).warmCleared 0 .run

/-- Whether an order runs: a sleep entry and a controlled warm reset wait until running orders have ended, by themselves or at
their time limit (R74, R508, R608). -/
def State.orderRunning (s : State) : Bool := s.orderCores.any (fun c => (s.core c).job.isSome)

/-- Write every dirty line back to its memory device where that is link-up; the lines that stay are lost (R608 step 2). -/
def State.writeBackAll (s : State) : State :=
  let up : LoftLine → Bool := fun l => match l.home with | some p => s.portUp p | none => false
  (s.coh.loft.filter (fun e => e.2.dirty && up e.2)).foldl (fun s e =>
    (s.memWrite e.1 e.2.home e.2.data e.2.poison .writeback).memWriteEnd e.1 true) s

/-- Steps 2 to 4 of a controlled warm reset (R608). -/
def State.controlledWarm (s : State) : State :=
  let s1 := s.writeBackAll
  ((s1.allLinksDown).logReset 1 0 s1.dirtyLines).warmCleared 0 .run

/-- A controlled warm reset goes on once no order runs (R608 step 1); within a deeper reset it is absorbed (R612). -/
def State.warmGoesOn (s : State) : State := if s.power.warmAsked && !s.orderRunning then s.controlledWarm else s

/-- A controlled warm reset is asked for (R608): the dispatcher starts no further order, and the reset goes on once the running
ones have ended. DEDUCED, log entry 136: an order started within step 1 would not end with it. -/
def State.askWarm (s : State) : State :=
  ((s.modOrd (fun o => { o with noStart := true })).modPower (fun p => { p with warmAsked := true })).warmGoesOn

/-- A sag reset: the device holds in reset until the rails recover (R526). -/
def State.sagDown (s : State) (trigger : Nat) : State :=
  (s.logReset 3 trigger s.dirtyLines).warmCleared s.sw.rounds .sagHold

/-! ### Cold reset (R492, R531, R607) -/

/-- A slot at a cold reset: what is in ON gets a warning lead of 100 µs, what is in PRECHARGE, RAMP or DOWN goes off, each
with cause 10 (R492). The FTB starts at 0, so the lead ends at tick 100,000. -/
def State.coldSlot (s : State) (old : State) (n : Nat) : State :=
  let st := old.slotState n
  if st = slotOn then
    (((s.modSlot n (fun _ => { leadEnd := us 100, downCause := 10 })).setCause n 10).setSlot n slotDown)
  else if st = slotDown || st = slotPrecharge || st = slotRamp then s.setCause n 10
  else s

/-- The controllers start anew from the AON's point of view: the Ledger and OTP stay, the straps are sampled, everything
else is at its after-reset value, and the chip-level wake begins (R513, R607). -/
def State.coldStart (s : State) (straps : Straps) (clkA clkB : Bool) : State :=
  let s1 : State := { State.reset with
    otp := s.otp
    strapPins := straps
    straps := straps
    ledger := (s.reborn (fun l => { l with coldBoots := saturate 32 (l.coldBoots + 1) })).ledger
    errors := { badLedger := (s.reborn id).errors.badLedger }
    boot := { flash := s.boot.flash, preferred := s.boot.preferred, loadBank := s.boot.preferred,
              tapHold := s.boot.tapHold }
    qos := { refclkA := clkA, refclkB := clkB, singleClock := if clkA == clkB then none else some clkB }
    pool := s.pool
    freeCount := s.freeCount
    outbox := s.outbox
    pending := s.pending }
  (List.range 64).foldl (fun x n => x.coldSlot s n) s1

/-! ### Station and Lever resets (R609, R610) -/

/-- A station leaves the barrier and starts anew: its ports go down with the flush, and its link-layer state is cleared
(R609); a station of an x16 pair takes the other with it. -/
def State.stationReset (s : State) (n : Nat) : State :=
  let s1 := (s.stationGroup n).foldl (fun s m =>
    s.modStation m (fun x => { velocity := x.velocity, clockLost := x.clockLost, resetting := true, resetSince := s.ftb })) s
  (s1.stationPorts n).foldl (fun s p =>
    let s2 := if s.portUp p then s.linkDownTo p 0 else s.put .portLink p 0 0
    s2.modPort p (fun x => { contained := x.contained, perstHold := x.perstHold, ctlDisabled := x.ctlDisabled,
                             flushing := x.flushing, opens := x.opens, loanBlocks := x.loanBlocks, loanIdle := x.loanIdle })) s1

/-! ### Fatal errors (R598, R600, R603) -/

/-- A fatal error: it is logged, ERR_EV is raised, AER goes out as fatal on every enabled USP, and the action follows after
1 ms. One of the MC itself leads to an abrupt warm reset whatever FATAL_ACT holds. -/
def State.fatal (s : State) (code unit : Nat) (ofMc : Bool) (detail : List Nat) : State :=
  let s1 := (s.logError 3 s.ftb 1 { code := code, unit := unit, kind := if unit = 0xFFFF then 0 else kindCode unit, detail := detail }).raiseT0
    .deviceErrEv
  let s2 := (List.range 128).foldl (fun s v => if (s.uspPort v).isSome then s.uspReport v true aerInternal else s) s1
  s2.modPower (fun p => { p with fatalAt := (match p.fatalAt with | some t => some t | none => some (s.ftb + 1000000)),
                                 fatalIsMc := p.fatalIsMc || ofMc })

end Sys2Proof.Machine
end

