-- ==== Sys2Proof/Machine/BootOps.lean ====
section
/-! DEFINITION. Images, flash, keys, tokens and the boot (R109 to R133, R399, R531 to R563). -/

namespace Sys2Proof.Machine

/-- Change the boot state. -/
def State.modBoot (s : State) (f : Boot → Boot) : State := { s with boot := f s.boot }

/-- Change the security state. -/
def State.modSec (s : State) (f : Security → Security) : State := { s with sec := f s.sec }

/-- Change the Ledger. -/
def State.modLedger (s : State) (f : Ledger → Ledger) : State := { s with ledger := f s.ledger }

/-- The number of big-endian bytes. -/
def ofBE (l : List Byte) : Nat := ofLE l.reverse

/-- The big-endian bytes of a number. -/
def toBE (n v : Nat) : List Byte := (toLE n v).reverse

/-! ### CRC-32 (IEEE 802.3) -/

/-- One bit of the reflected CRC-32. -/
def crcBit (c : Nat) : Nat := if c % 2 = 1 then (c / 2) ^^^ 0xEDB88320 else c / 2

/-- Bits of the reflected CRC-32. -/
def crcBits : Nat → Nat → Nat
  | 0, c => c
  | n + 1, c => crcBits n (crcBit c)

/-- CRC-32 of bytes. -/
def crc32 (l : List Byte) : Nat := (l.foldl (fun c b => crcBits 8 (c ^^^ b.toNat)) 0xFFFFFFFF) ^^^ 0xFFFFFFFF

/-! ### Flash (R122 to R124) -/

/-- Bytes of a bank: 16 MiB. -/
abbrev bankBytes : Nat := 2 ^ 24

/-- A byte of the flash. The state lists the flash complemented, so that an erased byte, 0xFF, is not listed. -/
def Boot.flashByte (b : Boot) (a : Nat) : Byte := 0xFF ^^^ memByte b.flash a

/-- Bytes of a bank. -/
def Boot.bankData (b : Boot) (bank off n : Nat) : List Byte := (memBytes b.flash (bank * bankBytes + off) n).map (0xFF ^^^ ·)

/-- A number in a bank. -/
def Boot.bankNat (b : Boot) (bank off n : Nat) : Nat := ofLE (b.bankData bank off n)

/-- Erase the 64 KiB blocks that hold an address range of the flash. -/
def eraseBlocks (m : Mem) (first last : Nat) : Mem :=
  m.filter (fun c => c.1 / 65536 < first || last < c.1 / 65536)

/-- Program bytes of the flash. An erased byte takes its value; what a byte that is not erased becomes is the flash's own
rule, so a free value (R124). -/
def State.programFlash (s : State) : Nat → List Byte → State
  | _, [] => s
  | a, b :: rest =>
    if memByte s.boot.flash a = 0 then
      (s.modBoot (fun x => { x with flash := memPut x.flash a (0xFF ^^^ b) })).programFlash (a + 1) rest
    else
      (s.drawn.modBoot (fun x => { x with flash := memPut x.flash a (BitVec.ofNat 8 s.free) })).programFlash (a + 1) rest

/-! ### Images (R118 to R121) -/

/-- One entry of the section table: type, offset, length, load address. -/
structure Section where
  type : Nat
  off : Nat
  len : Nat
  load : Nat
  deriving DecidableEq, Repr

/-- The section table of a bank (R119). -/
def Boot.sections (b : Boot) (bank : Nat) : List Section :=
  (List.range 8).map (fun i =>
    let at_ := 0x40 + 16 * i
    { type := b.bankNat bank at_ 1, off := b.bankNat bank (at_ + 4) 4, len := b.bankNat bank (at_ + 8) 4,
      load := b.bankNat bank (at_ + 12) 4 })

/-- The largest length of a section type, and its load address where it has one (R119). -/
def sectionRule (type : Nat) : Option (Nat × Option Nat) :=
  match type with
  | 1 => some (768 * 1024, none)
  | 2 => some (256 * 1024, none)
  | 3 => some (4 * 1024 * 1024, some 0x01000000)
  | 4 => some (4 * 1024 * 1024, some 0x01400000)
  | 5 => some (8 * 1024, some 0)
  | 6 => some (32, some 0)
  | _ => none

/-- Whether two ranges of an image overlap. -/
def sectionsMeet (a b : Section) : Bool := a.off < b.off + b.len && b.off < a.off + a.len && 0 < a.len && 0 < b.len

/-- Whether a section entry is well formed (R119). DESIGN CHOICE, log entry 137: a section that reaches into the signature block runs
beyond the part of the image that sections may take, and is refused as one that ends past the block is. -/
def sectionOk (imageLen : Nat) (x : Section) (zeros : Bool) : Bool :=
  if x.type = 0 then zeros && x.off == 0 && x.len == 0 && x.load == 0
  else match sectionRule x.type with
    | none => false
    | some (largest, load) =>
      zeros && x.off % 64 == 0 && x.len ≤ largest && (match load with | some l => x.load == l | none => true) &&
      x.off + x.len + 288 ≤ imageLen

/-- The bytes of every section of some types. DESIGN CHOICE, log entry 138: sections of one type are taken together, in table
order. -/
def Boot.sectionBytes (b : Boot) (bank : Nat) (types : List Nat) : List Byte :=
  types.flatMap (fun t => (b.sections bank).flatMap (fun x => if x.type == t then b.bankData bank x.off x.len else []))

/-- The zero bits of the library table, [31:20] of each entry, and of the resident-task table, [63:32] (R119). -/
def tablesOk (lib tasks : List Byte) : Bool :=
  (List.range (lib.length / 8)).all (fun i => bitsOf (fieldAt lib (8 * i) 4) 20 12 == 0) &&
  (List.range (tasks.length / 8)).all (fun i => zeroAt tasks (8 * i + 4) 4)

/-- The header and the sections of a bank meet R118 and R119, PART and STEPPINGS apart. -/
def Boot.headerOk (b : Boot) (bank : Nat) : Bool :=
  let n := b.bankNat bank
  let secs := b.sections bank
  let len := n 0x08 4
  n 0x00 4 == 0x4E4C5242 && n 0x04 2 == 1 && n 0x06 2 == 256 && len ≤ bankBytes && 256 + 288 ≤ len &&
  1 ≤ n 0x12 1 && n 0x14 1 ≤ n 0x13 1 && n 0x15 1 ≤ 4 && 1 ≤ n 0x16 2 && n 0x16 2 ≤ 1000 && n 0x18 1 ≤ 3 &&
  1 ≤ n 0x19 1 && n 0x19 1 ≤ 8 && n 0x1A 2 == 0 && n 0x20 32 == 0 && n 0xC0 64 == 0 &&
  (secs.filter (fun x => x.type != 0)).length == n 0x19 1 &&
  (secs.zipIdx).all (fun e => sectionOk len e.1 (n (0x41 + 16 * e.2) 3 == 0)) &&
  (secs.zipIdx).all (fun e => (secs.drop (e.2 + 1)).all (fun y => e.1.type == 0 || y.type == 0 || !sectionsMeet e.1 y)) &&
  secs.all (fun x => x.type != 6 || x.len == 8 * n 0x15 1) && (n 0x15 1 == 0 || secs.any (fun x => x.type == 6)) &&
  tablesOk (b.sectionBytes bank [5]) (b.sectionBytes bank [6])

/-- The image of a bank, as its header and tables read. -/
def Boot.readImage (b : Boot) (bank : Nat) : Image :=
  let n := b.bankNat bank
  let lib := b.sectionBytes bank [5]
  let tasks := b.sectionBytes bank [6]
  { version := n 0x0C 4, svn := n 0x10 2, abi := n 0x12 1, trunk := n 0x13 1, trunkMin := n 0x14 1, residents := n 0x15 1,
    watchdogMs := n 0x16 2, keySlot := n 0x18 1, header := b.bankData bank 0 64, mcBytes := b.sectionBytes bank [1, 2],
    leverBytes := b.sectionBytes bank [3, 4, 5, 6],
    library := (List.range (lib.length / 8)).map (fun i =>
      (fieldAt lib (8 * i) 2, bitsOf (fieldAt lib (8 * i) 4) 16 4, fieldAt lib (8 * i + 4) 4)),
    tasks := (List.range (tasks.length / 8)).map (fun i => fieldAt tasks (8 * i) 4) }

/-! ### Root keys (R538, R539) -/

/-- Whether a root-key slot is usable for a purpose: flag bit 0 IMAGE, bit 1 TOKEN. -/
def Otp.usable (o : Otp) (slot purpose : Nat) : Bool :=
  let h := Tab.get [] o.roots slot
  let f := Tab.get 0 o.rootFlags slot
  h.any (· != 0) && !bitOf f 2 && bitOf f purpose

/-- The 133-byte key of a signature block whose hash a slot holds. -/
def Otp.holds (o : Otp) (slot : Nat) (key : List Byte) : Bool := Config.sha512 key == Tab.get [] o.roots slot

/-- The signature of a block over the bytes before it (R120). -/
def signedBy (body block : List Byte) : Bool :=
  Config.verifies (block.take 133) body ((block.drop 136).take 132) && zeroAt block 133 3 && zeroAt block 268 20

/-- Verify the image of a bank: its failure code, or `none` (R121, R127). DESIGN CHOICE, log entry 141: where several conditions
fail, the code is that of the first in the order header, PART and STEPPINGS, key, signature, SVN. -/
def State.verifyBank (s : State) (bank : Nat) : Option Nat :=
  let n := s.boot.bankNat bank
  if !s.boot.headerOk bank then some 0x01
  else if n 0x1C 2 != 0x9512 || n 0x1E 2 != 1 then some 0x05
  else
    let len := n 0x08 4
    let block := s.boot.bankData bank (len - 288) 288
    let slot := n 0x18 1
    if !(s.otp.usable slot 0 && s.otp.holds slot (block.take 133)) then some 0x02
    else if !signedBy (s.boot.bankData bank 0 (len - 288)) block then some 0x03
    else if n 0x10 2 < s.ledger.svnFloor then some 0x04
    else none

/-! ### Keys (R546, R547) -/

/-- The order of the group of P-521 (FIPS 186-5). PRESUMED from that standard. -/
def orderP521 : Nat :=
  0x01FFFFFFFFFFFFFFFFFFFFFFFFFFFFFFFFFFFFFFFFFFFFFFFFFFFFFFFFFFFFFFFFFFFA51868783BF2F966B7FCC0148F709A5D03BB5C9B8899C47AEBB6FB71E91386409

/-- A private key from a CDI and a label. -/
def privateKey (cdi label : List Byte) : List Byte :=
  let t := fun i : Byte => Config.hmac cdi (label ++ [i])
  let c := ofBE (t 1 ++ t 2) / 2 ^ (1024 - 585)
  toBE 66 (c % (orderP521 - 1) + 1)

/-- Label "ID". -/
def labelId : List Byte := [0x49, 0x44]

/-- Label "ALIAS". -/
def labelAlias : List Byte := [0x41, 0x4C, 0x49, 0x41, 0x53]

/-- The DeviceID key of a boot; in RETIRED none is derived (R563). -/
def State.deriveDevice (s : State) : State :=
  let lc := s.sec.lifecycle
  if lc = 3 then s.modSec (fun x => { x with udsOpen := false })
  else
    let cdi := Config.hmac s.otp.uds (Config.sha512 (Config.bootRom 0) ++ [BitVec.ofNat 8 lc])
    s.modSec (fun x => { x with cdiId := cdi, deviceKey := privateKey cdi labelId, debugCert := lc == 2,
                                udsOpen := false })

/-- The Alias key and certificate of the running image (R546, R552). -/
def State.deriveAlias (s : State) : State :=
  if s.sec.lifecycle = 3 then s
  else
    let i := s.boot.image
    let cdi := Config.hmac s.sec.cdiId (Config.sha512 i.mcBytes ++ Config.sha512 i.leverBytes ++ toLE 2 i.svn)
    let key := privateKey cdi labelAlias
    s.modSec (fun x => { x with aliasKey := key, aliasCert := Config.certificate (key ++ Config.sign x.deviceKey key) })

/-! ### Tokens (R559 to R561) -/

/-- Whether a token is laid out as R559 says. -/
def tokenOk (t : List Byte) : Bool :=
  let op := fieldAt t 4 1
  let paylen := fieldAt t 56 2
  fieldAt t 0 4 == 0x54474244 && 1 ≤ op && op ≤ 4 && (if op == 2 then fieldAt t 5 1 ≤ 3 else fieldAt t 5 1 == 0) &&
  fieldAt t 6 1 ≤ 3 && fieldAt t 7 1 == 0 && paylen ≤ 448 && paylen % 8 == 0 && (op == 4 || paylen == 0) &&
  fieldAt t 58 6 == 0 && t.length == 64 + paylen + 288

/-- One item of a PROVISION token: field ID and value. -/
def provisionItems : Nat → List Byte → Option (List (Nat × List Byte))
  | 0, l => if l.isEmpty then some [] else none
  | k + 1, l =>
    if l.isEmpty then some []
    else
      let len := fieldAt l 2 2
      let size := 8 + (len + 7) / 8 * 8
      if l.length < size || fieldAt l 4 4 != 0 then none
      else (provisionItems k (l.drop size)).map ((fieldAt l 0 2, (l.drop 8).take len) :: ·)

/-- Whether an OTP field is blank (R538). -/
def Otp.blank (o : Otp) (f : Nat) : Bool :=
  match f with
  | 0x11 | 0x12 | 0x13 => !(Tab.get [] o.roots (f - 0x10)).any (· != 0) && Tab.get 0 o.rootFlags (f - 0x10) == 0
  | 0x20 => o.ilimCeil == 0
  | 0x21 => o.plimCeil == 0
  | 0x22 => o.tempCeil == 0
  | 0x23 => o.rsense == 0
  | 0x24 => o.tAmb == 0
  | 0x25 => o.fastPole == 0
  | 0x26 => o.slowPole == 0
  | 0x30 => o.vfloor == 0
  | _ => false

/-- Fuses only ever gain bits (R540). -/
def fuseBits (old : Nat) (v : List Byte) : Nat := old ||| ofLE v

/-- The fused bytes of a root-key hash. -/
def fuseBytes (old v : List Byte) : List Byte := (List.range 64).map (fun i => old.getD i 0 ||| v.getD i 0)

/-- Fuse one OTP field. -/
def Otp.fuse (o : Otp) (f : Nat) (v : List Byte) : Otp :=
  match f with
  | 0x11 | 0x12 | 0x13 =>
    { o with
      roots := Tab.modify [] o.roots (f - 0x10) (fun old => fuseBytes old v)
      rootFlags := Tab.modify 0 o.rootFlags (f - 0x10) (fun old => old ||| fieldAt v 64 1) }
  | 0x20 => { o with ilimCeil := fuseBits o.ilimCeil v }
  | 0x21 => { o with plimCeil := fuseBits o.plimCeil v }
  | 0x22 => { o with tempCeil := fuseBits o.tempCeil v }
  | 0x23 => { o with rsense := fuseBits o.rsense v }
  | 0x24 => { o with tAmb := fuseBits o.tAmb v }
  | 0x25 => { o with fastPole := fuseBits o.fastPole v }
  | 0x26 => { o with slowPole := fuseBits o.slowPole v }
  | 0x30 => { o with vfloor := fuseBits o.vfloor v }
  | _ => o

/-- Whether an item may be provisioned (R561): a field of ROOT1 to ROOT3, 0x20 to 0x26 or 0x30, blank, without REVOKED. -/
def Otp.mayFuse (o : Otp) (f : Nat) (v : List Byte) : Bool :=
  o.blank f && ((0x11 ≤ f && f ≤ 0x13 && v.length == 65 && !bitOf (fieldAt v 64 1) 2) || (0x20 ≤ f && f ≤ 0x26) || f == 0x30)

/-- What a verified token does, or `none` where it is refused (R561). -/
def State.tokenEffect (s : State) (t : List Byte) : Option State :=
  match fieldAt t 4 1 with
  | 1 => if s.otp.lifecycle = 1 then some (s.modSec (fun x => { x with lifecycle := 2 })) else none
  | 2 =>
    let a := fieldAt t 5 1
    let signed := (s.verifyBank s.boot.preferred).isNone && s.boot.bankNat s.boot.preferred 0x18 1 == a
    if signed || !((List.range 4).any (fun k => k != a && s.otp.usable k 0)) then none
    else some { s with otp := { s.otp with rootFlags := Tab.modify 0 s.otp.rootFlags a (fun f => f ||| 4) } }
  | 3 =>
    if s.otp.lifecycle = 1 then
      some (({ s with otp := { s.otp with lifecycle := s.otp.lifecycle ||| 3 } }.modSec (fun x => { x with lifecycle := 3 })).modLedger (fun l =>
        { svnFloor := l.svnFloor, epoch := l.epoch, lastLc := l.lastLc, coldBoots := l.coldBoots,
          wakeFailures := l.wakeFailures, tokenResult := l.tokenResult, controlSeq := l.controlSeq, flaw := l.flaw, other := l.other,
          security := l.security, securityTicks := l.securityTicks, excess := l.excess }))
    else none
  | _ =>
    match provisionItems 56 ((t.drop 64).take (fieldAt t 56 2)) with
    | none => none
    | some items =>
      if items.all (fun e => s.otp.mayFuse e.1 e.2) then some { s with otp := items.foldl (fun o e => o.fuse e.1 e.2) s.otp }
      else none

/-- SERIAL, 16 bytes (R538). -/
def Otp.serialBytes (o : Otp) : List Byte := (o.serial ++ List.replicate 16 0).take 16

/-- Why a token is not carried out, as TOKEN_RESULT codes it, or `none` (R560). -/
def State.tokenFault (s : State) (t : List Byte) : Option Nat :=
  if !tokenOk t then some 2
  else if (t.drop 8).take 16 != s.otp.serialBytes || some ((t.drop 24).take 32) != s.ledger.nonce then some 3
  else
    let slot := fieldAt t 6 1
    let body := t.take (t.length - 288)
    let block := t.drop (t.length - 288)
    if !s.otp.usable slot 1 then some 4
    else if !(s.otp.holds slot (block.take 133) && signedBy body block) then some 5
    else none

/-- A pending token is verified again, carried out or refused, and erased (R561); its outcome is logged (R553, R560). -/
def State.applyToken (s : State) (fuseFailed : Bool) : State :=
  let finish : State → Nat → State := fun x r =>
    (x.modControl (fun l => { l with nonce := none, token := none, tokenResult := r })).logSecurity (.tokenOutcome r)
  match s.ledger.token with
  | none => s.modControl (fun l => { l with tokenResult := 0 })
  | some t =>
    match s.tokenFault t with
    | some r => finish s r
    | none =>
      match s.tokenEffect t with
      | none => finish s 6
      | some s' => if fuseFailed && fieldAt t 4 1 != 1 then finish s 7 else finish s' 1

/-! ### Boot phases (R541, R542) -/

/-- The boot fails: PHASE 0xF and its code, logged (R542, R543, R553). -/
def State.bootFails (s : State) (code : Nat) : State :=
  (s.modBoot (fun b => { b with error := code, phase := 0xF, step := .done })).logSecurity (.bootResult 0xF code)

/-- Whether the device drives the flash's SPI pins: PD1 is on, and not in PHASE 0xF, where the ROM tri-states them (R523, R543). -/
def State.spiDriven (s : State) : Bool := s.domainOn 1 && s.boot.phase != 0xF

/-- The next phase is ready to run. -/
def State.enterPhase (s : State) (n : Nat) : State := s.modBoot (fun b => { b with phase := n, step := .ready })

/-- The bank a boot tries first: the one the device slept with at a WATCH exit, else PREFERRED (R122). -/
def State.firstBank (s : State) : Nat := s.boot.loadBank

/-- The images of both banks are read for the version and level fields; one that does not verify reads zero (R117). -/
def State.readOther (s : State) (bank : Nat) : State :=
  let other := 1 - bank
  let ok := (s.verifyBank other).isNone
  s.modBoot (fun b => { b with other := if ok then b.readImage other else {}, otherValid := ok })

/-- A bank has been chosen: it is being loaded (R541). -/
def State.loadImage (s : State) (bank : Nat) (fallback : Bool) : State :=
  (s.modBoot (fun b => { b with loadBank := bank, fallback, step := .working })).readOther bank

/-- The other bank is tried after the first one failed with a code (R542). -/
def State.tryOther (s : State) (first code : Nat) : State :=
  let s1 := s.modBoot (fun b => { b with error := code })
  match s1.verifyBank (1 - first) with
  | none => s1.loadImage (1 - first) true
  | some c => s1.bootFails c

/-- The Lever memory and the running image after a load (R119, R541). -/
def State.installImage (s : State) (bank : Nat) : State :=
  let secs := s.boot.sections bank
  let region := fun (t : Nat) => secs.flatMap (fun x => if x.type == t then s.boot.bankData bank x.off x.len else [])
  let s1 := s.modBoot (fun b => { b with image := b.readImage bank, bank })
  { s1 with lev := { s1.lev with sharedCode := memPutBytes [] 0 (region 3), sharedData := memPutBytes [] 0 (region 4) } }

/-- A resident core starts its task (R37, R76). -/
def State.startResident (s : State) (c : Nat) : State :=
  s.modCore c (fun _ => { mode := .running, resident := true, pc := BitVec.ofNat 64 (s.boot.image.tasks.getD c 0), petAt := s.ftb,
                          submitter := submitterWord privInternal 0 5 s.boot.image.abi,
                          g := Tab.set [] 2 (submitterWord privInternal 0 5 s.boot.image.abi) })

/-- Every resident core starts. -/
def State.startResidents (s : State) : State :=
  ((List.range 16).filter (fun c => c < s.boot.image.residents)).foldl (fun s c => s.startResident c) s

/-- The management port and virtual switch 0 as the straps set them up (R532). -/
def State.setUpManagement (s : State) : State :=
  match s.mgmtPort with
  | some p => (((s.devicePut .portEnable p 0 1).devicePut .portProto p 0 1).devicePut .vcsUsp 0 0 p).devicePut .vcsEnable 0 0 1
  | none => s

end Sys2Proof.Machine
end

