-- ==== Sys2Proof/Machine/LedgerOps.lean ====
section
/-! DEFINITION. The Ledger as bytes: its layout, the records in it, what an uncorrectable word or a debug write does to them, and
the choice between the two control copies (R109, R111, R400, R553 to R555, R601, R602). -/

namespace Sys2Proof.Machine

/-! ### Parts -/

/-- A list of bytes with byte `i` put in place, where it has one. -/
def putAt (l : List Byte) (i : Nat) (v : Byte) : List Byte := l.set i v

/-- Whether a run of bytes of the Ledger holds an uncorrectable word (R555). -/
def State.ledgerBad (s : State) (off len : Nat) : Bool :=
  s.errors.badLedger.any (fun w => decide (off < 8 * w + 8) && decide (8 * w < off + len))

/-- An uncorrectable error found in the Ledger is a contained error (R589). -/
def State.ledgerError (s : State) : State := s.contain { code := Config.ledgerErrorCode }

/-! ### The control area (R554) -/

/-- Bytes 0 to 23 of a control copy. -/
def ControlCopy.body (x : ControlCopy) : List Byte :=
  toLE 4 0x5247444C ++ toLE 4 x.seq ++ toLE 1 x.preferred ++ toLE 1 x.lastLc ++ toLE 2 x.svnFloor ++ toLE 4 x.epoch ++
    toLE 4 x.coldBoots ++ toLE 1 x.wakeFailures ++ toLE 1 x.tokenResult ++ toLE 2 0

/-- A control copy with its CRC. -/
def ControlCopy.bytes (x : ControlCopy) : List Byte := x.body ++ toLE 4 (crc32 x.body ^^^ x.flaw)

/-- A control copy from its bytes: one whose MAGIC or zero bytes are wrong is not valid, whatever its CRC. -/
def ControlCopy.ofBytes (b : List Byte) : ControlCopy :=
  let x : ControlCopy :=
    { seq := fieldAt b 4 4, preferred := fieldAt b 8 1, lastLc := fieldAt b 9 1, svnFloor := fieldAt b 10 2, epoch := fieldAt b 12 4,
      coldBoots := fieldAt b 16 4, wakeFailures := fieldAt b 20 1, tokenResult := fieldAt b 21 1 }
  let flaw := fieldAt b 24 4 ^^^ crc32 x.body
  { x with flaw := if b.take 24 == x.body then flaw else max flaw 1 }

/-- A control copy comes into use. -/
def State.useCopy (s : State) (x : ControlCopy) : State :=
  { s with
    ledger := { s.ledger with
      controlSeq := x.seq, lastLc := x.lastLc, svnFloor := x.svnFloor, epoch := x.epoch, coldBoots := x.coldBoots,
      wakeFailures := x.wakeFailures, tokenResult := x.tokenResult, flaw := x.flaw }
    boot := { s.boot with preferred := x.preferred } }

/-- Whether a SEQ is later than another in modulo-2^32 serial order (R554). -/
def serialLater (a b : Nat) : Bool :=
  let d := (a + 2 ^ 32 - b % 2 ^ 32) % 2 ^ 32
  decide (0 < d) && decide (d < 2 ^ 31)

/-- Whether a control copy is valid: its CRC matches and no word of it is beyond correction. -/
def State.copyValid (s : State) (x : ControlCopy) : Bool := x.flaw == 0 && !s.ledgerBad (2048 * (x.seq % 2)) 28

/-- The ROM reads the control area: the valid copy with the later SEQ is used, and an uncorrectable word found is reported (R554,
R589). With no valid copy the one in use stays. DESIGN CHOICE, log entry 146. -/
def State.readControl (s : State) : State :=
  let now := s.controlCopy
  let other := s.ledger.other
  let s1 := if s.ledgerBad 0 28 || s.ledgerBad 2048 28 then s.ledgerError else s
  if s.copyValid other && (!s.copyValid now || serialLater other.seq now.seq) then
    let s2 := (s1.useCopy other).modLedger (fun l => { l with other := now })
    if s.boot.cold then s2.modBoot (fun b => { b with loadBank := other.preferred }) else s2
  else s1

/-! ### Records (R109, R602) -/

/-- Bytes a standing record takes in the area: its head and the frame padded to 16 (R109). -/
def recordBytes (frameLen : Nat) : Nat := 16 + (frameLen + 15) / 16 * 16

/-- A standing record as the Ledger holds it (R109). -/
def StandingRecord.bytes (r : StandingRecord) : List Byte :=
  toLE 4 r.seq ++ toLE 2 r.frame.length ++ toLE 1 r.priv ++ [if r.valid then 0xA5 else 0] ++ toLE 4 r.crc ++ toLE 4 0 ++
    (r.frame ++ List.replicate (recordBytes r.frame.length - 16 - r.frame.length) 0)

/-- A standing record after a byte of it was overwritten: one whose LEN or zero bytes no longer stand fails its CRC. -/
def StandingRecord.poke (r : StandingRecord) (i : Nat) (v : Byte) : StandingRecord :=
  let b := putAt r.bytes i v
  if i = 4 || i = 5 || (12 ≤ i && i < 16) then (if b == r.bytes then r else { r with crc := crc32 r.frame ^^^ 1 })
  else
    { r with seq := fieldAt b 0 4, priv := fieldAt b 6 1, valid := fieldAt b 7 1 == 0xA5, crc := fieldAt b 8 4,
             frame := (b.drop 16).take r.frame.length }

/-- The records of the standing-order area with the offset each stands at (R109). -/
def placedRecords : Nat → List StandingRecord → List (Nat × StandingRecord)
  | _, [] => []
  | off, r :: rest => (off, r) :: placedRecords (off + recordBytes r.frame.length) rest

/-- Offset of the standing-order area (R553). -/
abbrev standingBase : Nat := 0x20000

/-- The records that replay runs: valid, with a good CRC and every word readable (R111, R113, R115). -/
def State.replayable (s : State) : List StandingRecord :=
  ((placedRecords standingBase s.ledger.standing).filter (fun e =>
    e.2.valid && e.2.crc == crc32 e.2.frame && !s.ledgerBad e.1 (recordBytes e.2.frame.length))).map (·.2)

/-- The record that replay runs next. -/
def State.nextRecord (s : State) : Option StandingRecord :=
  (s.replayable.filter (fun r => s.boot.replayNext ≤ r.seq)).foldl (fun (m : Option StandingRecord) r =>
    match m with
    | some x => if r.seq < x.seq then some r else some x
    | none => some r) none

/-- Bytes 0 to 59 of an error record (R602). -/
def ErrorRecord.body (r : ErrorRecord) : List Byte :=
  let detail := match r.detail with
    | [] => List.replicate 16 0
    | l => ((l.flatMap (fun v => toLE 4 v)) ++ List.replicate 16 0).take 16
  toLE 4 r.seq ++ toLE 1 r.cls ++ toLE 1 r.kind ++ toLE 2 r.code ++ toLE 8 r.tick ++ toLE 4 r.epoch ++ toLE 2 r.unit ++
    toLE 2 r.place ++ toLE 2 r.tenant ++ toLE 4 r.count ++ toLE 2 0 ++ toLE 8 r.addr ++ detail ++ toLE 4 0

/-- An error record with its CRC. -/
def ErrorRecord.bytes (r : ErrorRecord) : List Byte := r.body ++ toLE 4 (crc32 r.body ^^^ r.flaw)

/-- An error record from its bytes. -/
def ErrorRecord.ofBytes (b : List Byte) : ErrorRecord :=
  let r : ErrorRecord :=
    { seq := fieldAt b 0 4, cls := fieldAt b 4 1, kind := fieldAt b 5 1, code := fieldAt b 6 2, tick := fieldAt b 8 8,
      epoch := fieldAt b 16 4, unit := fieldAt b 20 2, place := fieldAt b 22 2, tenant := fieldAt b 24 2, count := fieldAt b 26 4,
      addr := fieldAt b 32 8, detail := [fieldAt b 40 4, fieldAt b 44 4, fieldAt b 48 4, fieldAt b 52 4] }
  let flaw := fieldAt b 60 4 ^^^ crc32 r.body
  { r with flaw := if b.take 60 == r.body then flaw else max flaw 1 }

/-- Offset of the error log (R553). -/
abbrev errorBase : Nat := 0x80000

/-- The slot of the error log that a SEQ has, by its offset (R601). -/
def errorSlot (seq : Nat) : Nat := errorBase + 64 * ((seq + Config.errorRecords - 1) % Config.errorRecords)

/-- Whether an error record is valid: its CRC matches and its words are readable (R555, R601). -/
def State.errorValid (s : State) (r : ErrorRecord) : Bool := r.flaw == 0 && !s.ledgerBad (errorSlot r.seq) 64

/-! ### Every byte of the Ledger, for debug access (R400, R553) -/

/-- The nonce, the token's length and the token, in that order from the start of the token area. DESIGN CHOICE, log entry 147: the
specification names the three and gives no offsets. -/
def Ledger.tokenArea (l : Ledger) : List Byte :=
  let t := l.token.getD []
  (l.nonce.getD (List.replicate 32 0) ++ List.replicate 32 0).take 32 ++ toLE 2 t.length ++ t

/-- The token area after a byte of it was overwritten. -/
def Ledger.pokeToken (l : Ledger) (i : Nat) (v : Byte) : Ledger :=
  let b := putAt (l.tokenArea ++ List.replicate 800 0) i v
  let n := fieldAt b 32 2
  if i < 32 then { l with nonce := some (b.take 32) } else { l with token := if n = 0 then none else some ((b.drop 34).take n) }

/-- The chain of certificate slot 0 as the Ledger holds it (R547, R553). -/
def Ledger.chain0 (l : Ledger) : List Byte := l.cert0 ++ l.deviceCert

/-- A byte of the Ledger: what the layout puts there, what a debug master wrote, or `none` where no layout says (R553). -/
def State.ledgerByte (s : State) (a : Nat) : Option Byte :=
  let l := s.ledger
  match Tab.find l.poked a with
  | some v => some v
  | none =>
    if a < 0x1000 then
      let x := if a / 2048 = l.controlSeq % 2 then s.controlCopy else l.other
      some (x.bytes.getD (a % 2048) 0)
    else if a < 0x2000 then some (l.tokenArea.getD (a - 0x1000) 0)
    else if a < 0x10000 then some (l.chain0.getD (a - 0x2000) 0)
    else if a < 0x1E000 then some (l.cert1.getD (a - 0x10000) 0)
    else if a < 0x20000 then some 0
    else if a < 0x60000 then
      match (placedRecords standingBase l.standing).find? (fun e => e.1 ≤ a && decide (a < e.1 + recordBytes e.2.frame.length)) with
      | some e => some (e.2.bytes.getD (a - e.1) 0)
      | none => some 0
    else if a < 0x80000 then none
    else if a < 0x680000 then
      match l.errors.find? (fun r => errorSlot r.seq ≤ a && decide (a < errorSlot r.seq + 64)) with
      | some r => some (r.bytes.getD (a - errorSlot r.seq) 0)
      | none => some 0
    else some 0

/-- A debug write of a byte of the Ledger (R400): into the fields that the layout puts there, else kept as a byte. Reserved space
reads zero. -/
def State.ledgerPoke (s : State) (a : Nat) (v : Byte) : State :=
  let l := s.ledger
  let loose := s.modLedger (fun l => { l with poked := Tab.set l.poked a v })
  if a < 0x1000 then
    if 28 ≤ a % 2048 then loose
    else if a / 2048 = l.controlSeq % 2 then s.useCopy (.ofBytes (putAt s.controlCopy.bytes (a % 2048) v))
    else s.modLedger (fun l => { l with other := .ofBytes (putAt l.other.bytes (a % 2048) v) })
  else if a < 0x2000 then
    if a - 0x1000 < 34 + (l.token.getD []).length then s.modLedger (fun l => l.pokeToken (a - 0x1000) v) else loose
  else if a < 0x10000 then
    if a - 0x2000 < l.cert0.length then s.modLedger (fun l => { l with cert0 := putAt l.cert0 (a - 0x2000) v })
    else if a - 0x2000 < l.chain0.length then
      s.modLedger (fun l => { l with deviceCert := putAt l.deviceCert (a - 0x2000 - l.cert0.length) v })
    else loose
  else if a < 0x1E000 then
    if a - 0x10000 < l.cert1.length then s.modLedger (fun l => { l with cert1 := putAt l.cert1 (a - 0x10000) v }) else loose
  else if a < 0x20000 then loose
  else if a < 0x60000 then
    let placed := placedRecords standingBase l.standing
    if placed.any (fun e => e.1 ≤ a && decide (a < e.1 + recordBytes e.2.frame.length)) then
      s.modLedger (fun l => { l with standing := placed.map (fun e =>
        if e.1 ≤ a && decide (a < e.1 + recordBytes e.2.frame.length) then e.2.poke (a - e.1) v else e.2) })
    else loose
  else if a < 0x80000 then loose
  else if a < 0x680000 then
    let here : ErrorRecord → Bool := fun r => errorSlot r.seq ≤ a && decide (a < errorSlot r.seq + 64)
    if l.errors.any here then
      s.modLedger (fun l => { l with errors := l.errors.map (fun r =>
        if here r then .ofBytes (putAt r.bytes (a - errorSlot r.seq) v) else r) })
    else loose
  else s

end Sys2Proof.Machine
end

