-- ==== Sys2Proof/Machine/Invariants.lean ====
section
/-! DEFINITION. The interlock invariants (R69, R639) on the state a commit would produce. An invariant over objects of a
class looks at those whose field is listed: an unlisted field holds its after-reset value, which meets it. -/

namespace Sys2Proof.Machine

/-- The objects whose stored value of a field is listed: index and sub-index. -/
def State.listed (s : State) (f : Fld) : List (Nat × Nat) :=
  (s.obj.filter (fun e => e.1 / 2 ^ 32 == f.info.cls * 256 + f.info.id)).map (fun e => (e.1 / 65536 % 65536, e.1 % 65536))

/-- The indexes of the objects whose field is listed. -/
def State.listedIdx (s : State) (f : Fld) : List Nat := (s.listed f).map (·.1)

/-- The object fields that a commit buffer writes: class, index, sub-index and field ID. -/
def writesOf (es : List Entry) : List (Nat × Nat × Nat × Nat) :=
  es.filterMap (fun e => match e with | .write c i b f _ => some (c, i, b, f) | _ => none)

/-- The indexes of the objects of a field's class whose field a buffer writes. -/
def wrote (es : List Entry) (f : Fld) : List Nat :=
  ((writesOf es).filter (fun w => w.1 == f.info.cls && w.2.2.2 == f.info.id)).map (fun w => w.2.1)

/-- Whether any two of a list stand in a relation, each pair once. -/
def anyPair {α : Type} (r : α → α → Bool) : List α → Bool
  | [] => false
  | x :: t => t.any (r x) || anyPair r t

/-! ### Slots and core voltage (1 to 5) -/

/-- Invariant 1: every SLOT.ILIM is at most the OTP ceiling, itself at most 12,000 mA. -/
def inv1 (n : State) : Bool := (List.range 64).all (fun i => n.get .slotIlim i ≤ min n.ilimCeil 12000)

/-- Invariant 2: every SLOT.PLIM is at least 5 W and at most the OTP ceiling, itself at most 200 W. -/
def inv2 (n : State) : Bool :=
  (List.range 64).all (fun i => 5 ≤ n.get .slotPlim i && n.get .slotPlim i ≤ min n.plimCeil 200)

/-- Invariant 3: every SLOT.TEMP_TRIP is at most the OTP maximum. -/
def inv3 (n : State) : Bool := (List.range 64).all (fun i => n.get .slotTempTrip i ≤ n.tempCeil)

/-- Invariant 4: DEVICE.VCORE is at least the OTP floor and at most 850 mV. -/
def inv4 (n : State) : Bool := n.vfloor ≤ n.get .deviceVcore 0 && n.get .deviceVcore 0 ≤ 850

/-- Invariant 5: every SLOT.BLANK is 1 to 100 µs and every SLOT.RETRY_DLY at least 100 ms. -/
def inv5 (n : State) : Bool :=
  (n.listedIdx .slotBlank).all (fun i => 1 ≤ n.get .slotBlank i && n.get .slotBlank i ≤ 100) &&
  (n.listedIdx .slotRetryDly).all (fun i => 100 ≤ n.get .slotRetryDly i)

/-! ### Rules (6, 7, 12) -/

/-- The valid rules. -/
def State.validRules (n : State) : List Nat := (n.poolObjects clsRule).filter (fun i => n.get .ruleValid i == 1)

/-- Invariant 6: every valid rule has START ≤ END. -/
def inv6 (n : State) : Bool := n.validRules.all (fun i => n.get .ruleStart i ≤ n.get .ruleEnd i)

/-- Whether two rules of one tenant and one bank overlap; a rule covers START to END + 63. -/
def State.rulesMeet (n : State) (i j : Nat) : Bool :=
  n.get .ruleOwner i == n.get .ruleOwner j && n.get .ruleBank i == n.get .ruleBank j &&
  decide (n.get .ruleStart i ≤ n.get .ruleEnd j + 63) && decide (n.get .ruleStart j ≤ n.get .ruleEnd i + 63)

/-- Invariant 7: no two valid rules of one tenant in one bank overlap. -/
def inv7 (n : State) : Bool := !anyPair n.rulesMeet n.validRules

/-- Invariant 12: a rule's CACHE leaves 2 only while its owner's TRACKED is 0. A rule that is deleted has left it. -/
def inv12 (o n : State) : Bool :=
  ((o.poolObjects clsRule).filter (fun i => o.get .ruleCache i == 2)).all (fun i =>
    (n.allocated clsRule i && n.get .ruleCache i == 2) || o.trackedOf (o.get .ruleOwner i) == 0)

/-! ### Tenants (8 to 11) -/

/-- Invariant 8: what each tenant owns is within its sheaf, and its ring within SH_DIRTY; T0 is outside it (R381). -/
def inv8 (n : State) : Bool :=
  ((n.poolObjects clsRule).map (fun i => n.get .ruleOwner i)).all (fun t =>
    t == 0 || (n.rulesOf t).length ≤ n.get .tenantShRules t) &&
  ((n.poolObjects clsEvent).map (fun i => n.get .eventOwner i)).all (fun t =>
    t == 0 || (n.eventsOf t).length ≤ n.get .tenantShEvents t) &&
  ((n.poolObjects clsCounter).map (fun i => n.get .counterOwner i)).all (fun t =>
    t == 0 || (n.countersOf t).length ≤ n.get .tenantShCounters t) &&
  (n.listedIdx .gleanerRingRecs).all (fun t => t == 0 || n.get .gleanerRingRecs t ≤ n.get .tenantShDirty t)

/-- The tenants whose STATE is 1 or 2, T0 apart, whose sheaf is 0. -/
def State.liveTenants (n : State) : List Nat :=
  (n.listedIdx .tenantState).filter (fun t => t != 0 && n.get .tenantState t != 0)

/-- Invariant 9: the sheaves of live tenants fit the pools and the Granary's lendable surplus. -/
def inv9 (n : State) : Bool :=
  let sum : Fld → Nat := fun f => (n.liveTenants.map (fun t => n.get f t)).sum
  sum .tenantShRules ≤ 65536 && sum .tenantShEvents ≤ 8192 && sum .tenantShCounters ≤ 16384 &&
  sum .tenantShQuota ≤ Config.lendable n.otp.partH

/-- The sheaf fields of a tenant. -/
def sheafFields : List Fld :=
  [.tenantShRules, .tenantShQuota, .tenantShEvents, .tenantShCounters, .tenantShDirty, .tenantShPerm]

/-- Invariant 10: sheaf fields change only in the commit that moves STATE from 0 to 1. -/
def inv10 (o n : State) (es : List Entry) : Bool :=
  ((writesOf es).filter (fun w => w.1 == clsTenant)).all (fun w =>
    sheafFields.all (fun f => o.get f w.2.1 == n.get f w.2.1) ||
    (o.get .tenantState w.2.1 == 0 && n.get .tenantState w.2.1 == 1))

/-- Invariant 11: STATE moves from 0 to 1, 1 to 2, or 1 to 0 with RULES_USED 0; T0 stays 1. -/
def inv11 (o n : State) (es : List Entry) : Bool :=
  (wrote es .tenantState).all (fun t =>
    let a := o.get .tenantState t
    let b := n.get .tenantState t
    if t = 0 then b == 1
    else a == b || (a == 0 && b == 1) || (a == 1 && b == 2) || (a == 1 && b == 0 && (n.rulesOf t).isEmpty))

/-! ### Ports (13 to 15) -/

/-- What a bound vPPB holds: the port, or the port and the logical device. -/
def State.boundTo (n : State) (e : Nat × Nat) : Nat × Nat × Nat :=
  let k := n.get .vppbKind e.1 e.2
  (k, n.get .vppbPort e.1 e.2, if k = 1 then 0 else n.get .vppbLdid e.1 e.2)

/-- Invariant 13: each port and logical device is bound to at most one vPPB, each port the USP of at most one switch. -/
def inv13 (n : State) : Bool :=
  !anyPair (fun a b => a == b) (((n.listed .vppbKind).filter (fun e => n.get .vppbKind e.1 e.2 != 0)).map n.boundTo) &&
  !anyPair (fun a b => a == b) (((n.listedIdx .vcsUsp).map (fun v => n.get .vcsUsp v)).filter (· != 0xFF))

/-- Invariant 14: every port-valued field in force (R639) names a present, non-vacant port. -/
def inv14 (n : State) : Bool :=
  (n.listedIdx .vcsUsp).all (fun v =>
    n.get .vcsEnable v == 0 || n.get .vcsUsp v == 0xFF || n.portOk (n.get .vcsUsp v)) &&
  (n.listed .vppbKind).all (fun e => n.get .vppbKind e.1 e.2 == 0 || n.portOk (n.get .vppbPort e.1 e.2)) &&
  (n.listedIdx .pbrValid).all (fun d => n.get .pbrValid d == 0 || n.portOk (n.get .pbrPort d)) &&
  (n.listedIdx .windowKind).all (fun w => n.get .windowKind w != 1 || n.portOk (n.get .windowPort w)) &&
  (n.listedIdx .slotPort).all (fun i => n.get .slotPort i == 0x7F || n.portOk (n.get .slotPort i)) &&
  (n.listedIdx .mirrorDir).all (fun m =>
    n.get .mirrorDir m == 0 || (n.portOk (n.get .mirrorSport m) && n.portOk (n.get .mirrorDport m))) &&
  (n.listedIdx .agentKind).all (fun a => n.get .agentKind a == 0 || n.portOk (n.get .agentPort a)) &&
  (n.get .deviceFtbSrc 0 == 0 || n.get .deviceFtbSrc 0 == 3 || n.portOk (n.get .deviceFtbPort 0))

/-- Whether a port of a station is link-up. -/
def State.stationUp (s : State) (i : Nat) : Bool := (s.stationPorts i).any s.portUp

/-- Invariant 15: BIFURC changes only while every port of the station is link-down; an x16 pair has equal BIFURC. -/
def inv15 (o n : State) (es : List Entry) : Bool :=
  (wrote es .stationBifurc).all (fun i => o.get .stationBifurc i == n.get .stationBifurc i || !o.stationUp i) &&
  (n.listedIdx .stationBifurc).all (fun i =>
    n.get .stationBifurc i != 2 || n.get .stationBifurc (if i % 2 = 0 then i + 1 else i - 1) == 2)

/-! ### Timetables, windows, domains, power state (16 to 19) -/

/-- The TAKEOVER value that disarms (R437). -/
def noTakeover : Nat := 2 ^ 64 - 1

/-- Invariant 16: no entry of an active bank is written; in a bank being armed, every used entry lasts at least 100 ticks
and the used entries at least 1,000. -/
def inv16 (o n : State) (es : List Entry) : Bool :=
  ((writesOf es).filter (fun w => w.1 == clsTtEntry)).all (fun w => w.2.2.1 / 256 != o.get .timetableActive w.2.1) &&
  (wrote es .timetableTakeover).all (fun p =>
    n.get .timetableTakeover p == noTakeover ||
    (let bank := 1 - o.get .timetableActive p
     let ds := (List.range (n.get .timetableLength p)).map (fun i => n.get .ttentryDuration p (bank * 256 + i))
     ds.all (100 ≤ ·) && 1000 ≤ ds.sum))

/-- Invariant 17: the host-side ranges of windows whose KIND is not 0 do not overlap. -/
def inv17 (n : State) : Bool :=
  !anyPair (fun a b => n.get .windowBase a ≤ n.get .windowLimit b && n.get .windowBase b ≤ n.get .windowLimit a)
    ((n.listedIdx .windowKind).filter (fun w => n.get .windowKind w != 0))

/-- Invariant 18: what no DOMAIN write turns off. -/
def inv18 (o n : State) (es : List Entry) : Bool :=
  (wrote es .domainReq).all (fun d =>
    n.get .domainReq d != 0 ||
    (if d ≤ 2 || d = 9 then false
     else if d = 3 || d = 4 then !o.anyTracked
     else if 11 ≤ d then !o.stationUp (d - 11)
     else true))

/-- Invariant 19: PSTATE moves to STANDBY or WATCH only while nothing is tracked. -/
def inv19 (o n : State) (es : List Entry) : Bool :=
  (wrote es .devicePstate).isEmpty || n.get .devicePstate 0 < 2 || n.get .devicePstate 0 == o.get .devicePstate 0 ||
  !o.anyTracked

/-! ### All of them -/

/-- Every invariant with its number. -/
def invariants (o n : State) (es : List Entry) : List (Nat × Bool) :=
  [(1, inv1 n), (2, inv2 n), (3, inv3 n), (4, inv4 n), (5, inv5 n), (6, inv6 n), (7, inv7 n), (8, inv8 n), (9, inv9 n),
   (10, inv10 o n es), (11, inv11 o n es), (12, inv12 o n), (13, inv13 n), (14, inv14 n), (15, inv15 o n es),
   (16, inv16 o n es), (17, inv17 n), (18, inv18 o n es), (19, inv19 o n es)]

/-- The number of the first invariant violated, in ascending order (R69). -/
def violated (o n : State) (es : List Entry) : Option Nat := ((invariants o n es).find? (fun e => !e.2)).map (·.1)

end Sys2Proof.Machine
end

