-- ==== Sys2Proof/Machine/TrunkOps.lean ====
section
/-! DEFINITION. The Trunk link layer: Hello, flits, credits, acknowledgement and replay, recovery, changes, parking and
Trunk IDE (R147 to R149, R199 to R241), and the delivery slots of a port (R570 to R573). -/

namespace Sys2Proof

/-- The bytes of symbols 1 to 27 of a Hello: ID, then its fields (R200). -/
def Hello.symbols (h : Hello) : List Byte :=
  [0xB7, h.lane, h.width] ++ Machine.toLE 8 h.fdi.toNat ++ Machine.toLE 8 h.peerFdi.toNat ++ [h.trunk, h.trunkMin, h.rate, h.flags] ++
  Machine.toLE 2 h.portnum.toNat ++ [0, 0]

/-- The 32 symbols of a Hello: COM, K28.5, stands as 0xBC (R200). -/
def Hello.orderedSet (h : Hello) : List Byte := [0xBC] ++ h.symbols ++ Machine.toLE 4 h.crc.toNat

/-- Whether the CRC of a Hello is good (R200, R202). -/
def Hello.crcGood (h : Hello) : Bool := h.crc.toNat == Machine.crc32 h.symbols

/-- Whether two Hellos are identical in symbols 3 to 27 (R202). -/
def Hello.same (a b : Hello) : Bool := a.symbols.drop 2 == b.symbols.drop 2

end Sys2Proof

namespace Sys2Proof.Machine

/-- Change the Trunk link layer of a port. -/
def State.modTrunk (s : State) (p : Nat) (f : Trunk → Trunk) : State := s.modPort p (fun x => { x with trunk := f x.trunk })

/-- Change the control state of a Trunk port. -/
def State.modCtl (s : State) (p : Nat) (f : TrunkCtl → TrunkCtl) : State := s.modPort p (fun x => { x with ctl := f x.ctl })

/-- Whether a port trains Trunk and is at a stage, with its transmitters and receivers on (R179). -/
def State.trunkAt (s : State) (p : Nat) (stage : TrunkStage) : Bool :=
  s.get .portProto p == 2 && s.portOk p && s.lit p && (s.port p).trunk.stage == stage

/-! ### Delivery slots (R570 to R573) -/

/-- Whether the core holds spread wagons for a port (R573). -/
def State.coreHolds (s : State) (p : Nat) : Bool :=
  s.sw.frames.any (fun e => e.2.dport == p && decide (0 < e.2.spread) && decide (e.2.delivered < e.2.wagons))

/-- What a starved-back interval is blamed on (R572): the gate, the shaper, else the partner's credit. -/
def State.blame (s : State) (p c : Nat) : Nat :=
  match Tab.get [] s.sw.outQ (p * 16 + c) with
  | [] => 0x009
  | n :: _ =>
    match s.frame n with
    | none => 0x009
    | some f =>
      if s.gate p c f.len == Gate.shut then 0x007
      else if s.cRate p c != 0 && decide (s.cTokens p c ≤ 0) then 0x008
      else 0x009

/-- The event numbers that one idle interval counts, besides SLOT_TOTAL. -/
def State.idleEvents (s : State) (p : Nat) : List Nat :=
  let bypass := !(Tab.get [] s.sw.bypass p).isEmpty || !(s.port p).trunk.bypass.isEmpty
  match ((List.range 8).reverse).find? (fun c => !(Tab.get [] s.sw.outQ (p * 16 + c)).isEmpty) with
  | some c => [0x005, if bypass then 0x009 else s.blame p c]
  | none => if bypass then [0x005, 0x009] else if s.coreHolds p then [0x004, 0x006] else [0x004]

/-- An interval of a port's transmit time is counted: 4 delivery slots in SLOT_TOTAL and in each event given (R570). -/
def State.countSlots (s : State) (p : Nat) (evs : List Nat) : State :=
  evs.foldl (fun s e => s.countPort p e {} 4) (s.countPort p 0x001 {} 4)

/-! ### Sending ends (R220, R423) -/

/-- The sending of a port's frame ends: its cells and credits are freed. -/
def State.endSending (s : State) (p : Nat) : State :=
  match (s.port p).sending with
  | none => s
  | some n =>
    let s1 := s.modPort p (fun x => { x with sending := none })
    match s.frame n with
    | none => s1
    | some f => (s1.countPort p 0x014 { f.attrs with tenant := some f.tenant }).removeFrame n

/-! ### Frames as bytes (R256) -/

/-- The 16 header bytes of a frame. -/
def Frame.header (f : Frame) : List Byte :=
  let b : Bool → Nat := fun x => if x then 1 else 0
  toLE 8 (f.len + f.inp.fmt.val * 2 ^ 13 + f.cls * 2 ^ 17 + f.cache * 2 ^ 20 + f.order * 2 ^ 22 + b f.pin * 2 ^ 23 +
    b f.poison * 2 ^ 24 + b f.copy * 2 ^ 25 + f.tenant % 4096 * 2 ^ 32 + f.inp.port.val * 2 ^ 44 + f.dport * 2 ^ 51) ++
  toLE 8 ((if f.pin then f.key else 0) + f.arrival % 2 ^ 32 * 2 ^ 32)

/-- What a station knows of a frame's unit, as the unit's layout takes it (R257). -/
def frameFacts (f : FrameIn) : List Nat :=
  [f.fmt.val, f.kind.needs, f.kind.capKind, f.addr, f.size, f.tag, f.reqId.toNat, f.tc.val, (match f.pasid with | some x => x.toNat + 1 | none => 0),
   if f.privBit then 1 else 0, f.ldid.toNat, (match f.cacheId with | some x => x.toNat + 1 | none => 0), if f.poison then 1 else 0]

/-- Byte `i` of a frame: its header, then its protocol unit, and zero beyond its length (R255). A unit that arrived over a Trunk
link, and a wrap's, has the bytes it came with; a CXL message is 16 header bytes and then its data (R257). -/
def Frame.byte (f : Frame) (i : Nat) : Byte :=
  if f.len ≤ i then 0
  else if i < 16 then f.header.getD i 0
  else match f.inp.unit with
    | some u => u.getD (i - 16) 0
    | none =>
      if f.inp.kind = .wrap then f.inp.data.getD (i - 16) 0
      else if 1 ≤ f.inp.fmt.val && f.inp.fmt.val ≤ 12 && 32 ≤ i then f.inp.data.getD (i - 32) 0
      else Config.unitByte (frameFacts f.inp) (i - 16)

/-! ### Going to a link-down value for an error (R204, R209, R241) -/

/-- A protocol error (R209). -/
def State.protocolError (s : State) (p : Nat) : State := s.linkDownTo p 14

/-- A tag that fails puts the port into LINK 15 and discards both key sets; the SPDM session ends with them, and the next training
needs a new one (R241). -/
def State.trunkTagFails (s : State) (p : Nat) : State :=
  let s1 := { s with sec := { s.sec with sessions := s.sec.sessions.filter (fun e =>
    match e.2.place with | .trunk q => q.val != p | _ => true) } }
  (s1.contain { code := 0x0305, place := p, detail := [(s.port p).ctl.epochRx] }).linkDownTo p 15

/-! ### Training (R199 to R206) -/

/-- The rate a Trunk port offers: the highest of 4, 5 and 6 not above RATE_MAX, 5 at most in band 5 (R158, R201). -/
def State.offeredRate (s : State) (p : Nat) : Nat :=
  let r := min (s.topRate p) 6
  if r < 4 then 0xFF else r

/-- The level two ends agree (R135): the lesser TRUNK, if it is at least the greater TRUNK_MIN. -/
def commonLevel (aTrunk aMin bTrunk bMin : Nat) : Option Nat :=
  if max aMin bMin ≤ min aTrunk bTrunk then some (min aTrunk bTrunk) else none

/-- The Hello handshake is complete: roles, rate, width, level, lanes and polarity are settled, and equalisation begins at 32 GT/s
(R145, R146, R202 to R205). -/
def State.settleHello (s : State) (p : Nat) (h : Hello) (lanesOk : Nat) (downwards : Bool) : State :=
  let own := s.offeredRate p
  let n := (s.portLanes p).2
  let initiator := decide (s.otp.fdi < h.fdi.toNat) || (s.otp.fdi == h.fdi.toNat && decide (p < h.portnum.toNat))
  if own = 0xFF || h.rate = 0xFF then s.linkDownTo p 14
  else match commonLevel s.boot.image.trunk s.boot.image.trunkMin h.trunk.toNat h.trunkMin.toNat with
    | none => s.linkDownTo p 13
    | some level =>
      let width := widthWithin (min (min n h.width.toNat) (min lanesOk (deskewed downwards n h.skew)))
      let s1 := ((s.lanesOf p).zipIdx).foldl (fun s e => s.modLane e.1 (fun l => { l with inverted := h.inverted.getLsbD e.2 }))
        (s.assignLanes p width downwards)
      (s1.modTrunk p (fun x =>
        { x with stage := .equalise, since := s.ftb, initiator := initiator, level := level, width := width, rate := 4,
                 hello := { x.hello with width := width, rate := min own h.rate.toNat, reversed := downwards } })).modCtl p
        (fun c => { c with peerLevels := some (h.trunk.toNat, h.trunkMin.toNat) })

/-- The Hello that a port sends on a lane (R200, R201, R206). ACKSEEN and PEER_FDI follow the last valid Hello received. -/
def State.ownHello (s : State) (p lane : Nat) : Hello :=
  let x := (s.port p).trunk.hello
  let h : Hello :=
    { lane := BitVec.ofNat 8 lane, width := BitVec.ofNat 8 (s.portLanes p).2, fdi := BitVec.ofNat 64 s.otp.fdi,
      peerFdi := BitVec.ofNat 64 (if x.last.isSome then x.peerFdi else 0), trunk := BitVec.ofNat 8 s.boot.image.trunk,
      trunkMin := BitVec.ofNat 8 s.boot.image.trunkMin, rate := BitVec.ofNat 8 (s.offeredRate p),
      flags := if x.last.isSome then 1 else 0, portnum := BitVec.ofNat 16 p, crc := 0 }
  { h with crc := BitVec.ofNat 32 (crc32 h.symbols) }

/-- A Hello goes out on every lane of a port. The sixteenth with ACKSEEN since the eighth good Hello ends the handshake
(R202). -/
def State.sendHello (s : State) (p : Nat) : State :=
  let x := (s.port p).trunk.hello
  let s1 := s.emit (.helloSent p ((List.range (s.portLanes p).2).map (fun i => (s.ownHello p i).orderedSet)))
  if 8 ≤ x.good then
    let s2 := s1.modTrunk p (fun y => { y with hello := { y.hello with sent := x.sent + 1 } })
    match x.last with
    | some h => if 16 ≤ x.sent + 1 then s2.settleHello p h x.lanesOk x.reversed else s2
    | none => s2
  else s1

/-- A Hello has arrived on every lane (R200 to R203): one with a bad CRC is ignored, and one of this very port takes it to LINK 14.
The port answers each with one of its own, besides those of its transmit time. -/
def State.receiveHello (s : State) (p : Nat) (h : Hello) (lanesOk : Nat) (downwards : Bool) : State :=
  if !h.crcGood then s
  else if h.fdi.toNat = s.otp.fdi && h.portnum.toNat = p then s.linkDownTo p 14
  else
    let x := (s.port p).trunk.hello
    let repeated := match x.last with | some l => l.same h | none => false
    let good := if h.peerFdi.toNat = s.otp.fdi then (if repeated then x.good + 1 else 1) else 0
    (s.modTrunk p (fun y => { y with hello := { y.hello with
      peerFdi := h.fdi.toNat, last := some h, good := good, sent := if 8 ≤ good then x.sent else 0, lanesOk := lanesOk,
      reversed := downwards } })).sendHello p

/-- What the port record of a Trunk port holds after its equalisation (R155, R160, R164, R165). -/
def State.trunkInfo (s : State) (p : Nat) (e : Equalised) : LinkInfo :=
  let x := (s.port p).trunk
  { width := x.width
    rate := Fin.ofNat 7 x.rate
    pmax := match x.hello.last with | some h => h.rate | none => 0
    pcaps := 1
    cxl := false
    flit68 := false
    reversed := x.hello.reversed
    inverted := (List.range 16).foldl (fun a i => if (s.lane ((s.portLanes p).1 + i)).inverted then a ||| (1 : BitVec 16) <<< i else a) 0
    pfdi := BitVec.ofNat 64 x.hello.peerFdi
    ppreset := e.ppreset
    preq := e.preq
    mldDevices := none
    ldReady := false
    gfd := false
    atomicSizes := 0
    adaptedLoss := e.loss
    skew := match x.hello.last with | some h => h.skew | none => []
    presets := e.presets
    ctles := e.ctles }

/-- The units admitted in each pool at Active (R222, R276, R282): the credit of each class, 16 slots for CTL, 8 for a coherence
pool. -/
def State.admittedAtActive (s : State) (p : Nat) : Tab Nat :=
  (List.range 8).map (fun c => (c, s.startCredit p c)) ++ [(8, 16), (9, 8), (10, 8), (11, 8), (12, 8), (13, 8)]

/-- After an activation that kept the link, or on request, a LEVEL message goes to the partner (R232). -/
def State.sendLevel (s : State) (p result at_ : Nat) : State :=
  s.sendBypass p 0x02 8 (toLE 1 s.boot.image.trunk ++ toLE 1 s.boot.image.trunkMin ++ toLE 1 result ++ toLE 1 0 ++ toLE 2 at_)

/-- The link enters Active (R206). The initiator's management controller opens an SPDM session with the responder's (R237). A device in
RETIRED has no keys, and its port goes to LINK 15 (R563). -/
def State.enterActive (s : State) (p : Nat) (e : Equalised) : State :=
  let i := s.trunkInfo p e
  let s1 := (s.modTrunk p (fun x => { x with
    stage := .active, since := s.ftb, failures := 0, nextSeq := 0, expect := 0, admitted := s.admittedAtActive p })).linkUp p i
  if s.sec.lifecycle = 3 then s1.linkDownTo p 15
  else if (s.port p).trunk.initiator then
    (s1.sendBypass p 0x07 8 (Config.spdmMessage 0)).modCtl p (fun c => { c with keying := true })
  else s1

/-- A stage of training fails: the failure is counted and the port returns to Detect (R199). -/
def State.trunkStageFails (s : State) (p : Nat) : State :=
  (s.modTrunk p (fun x => { x with failures := x.failures + 1 })).dropLink p

/-! ### Replay and recovery (R223 to R230) -/



/-- PATTERN of a marker (R148). -/
def markerPattern : List Byte := [0xC3, 0x3C, 0xA5, 0x5A, 0x0F, 0xF0, 0x96, 0x69]

/-- A marker of a Trunk port on each of its lanes (R147, R148). -/
def markerBytes (lane width count : Nat) : List Byte :=
  let b := markerPattern ++ toLE 1 lane ++ toLE 1 width ++ toLE 2 count
  b ++ toLE 4 (crc32 b)

/-- Every lane of a port sends a marker at the same instant, and the scrambler starts anew (R147, R148, R211). -/
def State.sendMarker (s : State) (p count : Nat) : State :=
  let w := (s.port p).trunk.width
  (s.modCtl p (fun c => { c with laneBytes := 0 })).emit (.marker p ((List.range w).map (fun i => markerBytes i w count)))

/-- The next marker in turn. -/
def State.nextMarker (s : State) (p : Nat) : State :=
  (s.sendMarker p (s.port p).ctl.markerTx).modCtl p (fun c => { c with markerTx := (c.markerTx + 1) % 65536 })

/-- Recovery begins (R229): markers with COUNT 0xFFFF go out back to back, and fresh ones follow from COUNT 0. -/
def State.enterRecovery (s : State) (p : Nat) : State :=
  let s1 := (s.put .portLink p 0 3).modTrunk p (fun x =>
    { x with stage := .recovery, since := s.ftb, replaying := [], replays := 0, replayTimer := none })
  let s2 := s1.modCtl p (fun c =>
    { c with markerBad := [], markerCount := [], markerGood := [], markerStop := [], markerFails := [], markerTx := 0, idleLeft := 0 })
  (s2.sendMarker p 0xFFFF).sendMarker p 0xFFFF

/-- A replay starts (R226); the fourth without ACK advancing leads to recovery (R227). -/
def State.startReplay (s : State) (p : Nat) : State :=
  let x := (s.port p).trunk
  match x.replay with
  | [] => s.modTrunk p (fun x => { x with replayTimer := none })
  | first :: _ =>
    let s1 := s.modTrunk p (fun x =>
      { x with replaying := x.replay, replays := x.replays + 1, replayTimer := some (s.ftb + 4000),
               lastReplay := some ((first.seq + 4095) % 4096, s.ftb) })
    if 4 ≤ x.replays + 1 then s1.enterRecovery p else s1

/-- ACK frees every entry up to and including it (R223). -/
def State.applyAck (s : State) (p ack : Nat) : State :=
  let freed : SentFlit → Bool := fun e => decide ((ack + 4096 - e.seq) % 4096 < 2048)
  let x := (s.port p).trunk
  if x.replay.any freed then
    s.modTrunk p (fun x =>
      let left := x.replay.filter (fun e => !freed e)
      { x with replay := left, replaying := x.replaying.filter (fun e => !freed e), replays := 0, recoveries := 0,
               replayTimer := if left.isEmpty then none else some (s.ftb + 4000) })
  else s

/-- A received NAK starts a replay, but not twice for one ACK within 4,000 ns (R226). -/
def State.applyNak (s : State) (p ack : Nat) : State :=
  match (s.port p).trunk.lastReplay with
  | some (a, t) => if a = ack && decide (s.ftb < t + 4000) then s else s.startReplay p
  | none => s.startReplay p

/-- The receiver asks for a replay in its next four flits; for one expected SEQ again only 4,000 ns after the last NAK it sent
(R225). -/
def State.askReplay (s : State) (p : Nat) : State :=
  s.modTrunk p (fun x =>
    let again := match x.lastNak with | some (e, t) => e != x.expect || decide (t + 4000 ≤ s.ftb) | none => true
    if again && x.nakLeft == 0 then { x with nakLeft := 4, lastNak := some (x.expect, s.ftb) } else x)

/-- The partner's credit update for a pool (R219): the newer limit modulo 2^24; more than 2^23 of credit is a protocol
error. -/
def State.applyCredit (s : State) (p pool credit : Nat) : State :=
  if 14 ≤ pool then s
  else
    let x := (s.port p).trunk
    let l := match Tab.find x.limit pool with
      | some l => if (credit + 2 ^ 24 - l) % 2 ^ 24 < 2 ^ 23 then credit else l
      | none => credit
    let s1 := s.modTrunk p (fun x => { x with limit := Tab.set x.limit pool l })
    if 2 ^ 23 < (s1.port p).trunk.creditLeft pool then s1.protocolError p else s1

/-- A rate that was not equalised since Active may take 24 ms, any other change or recovery 100 µs (R229, R231). -/
def TrunkCtl.recoveryLimit (c : TrunkCtl) : Nat := if c.changeFresh then 24000000 else 100000

/-! ### Changes (R231) -/

/-- The least width and rate of two. -/
def leastOf (a b : Nat × Nat) : Nat × Nat := (min a.1 b.1, min a.2 b.2)

/-- The width and rate a port itself wishes: the width Hello settled, and the lesser of what it offers as RATE_MAX now stands and
what the partner offered (R189, R204). -/
def State.ownWish (s : State) (p : Nat) : Nat × Nat :=
  let h := (s.port p).trunk.hello
  let peer := match h.last with | some x => x.rate.toNat | none => h.rate
  (h.width, min (if peer = 0xFF then 4 else peer) (if s.offeredRate p = 0xFF then 4 else s.offeredRate p))

/-- A width and rate that a Trunk link of a port can have. -/
def State.changeOk (s : State) (p : Nat) (c : Nat × Nat) : Bool :=
  [1, 2, 4, 8, 16].contains c.1 && decide (c.1 ≤ (s.portLanes p).2) && decide (4 ≤ c.2) && decide (c.2 ≤ 6)

/-- Both ends recover at a new width and rate (R231): the lanes take their logical numbers again, and no request of this end
stands. -/
def State.applyChange (s : State) (p : Nat) (c : Nat × Nat) : State :=
  let fresh := !(s.port p).ctl.equalised.contains c.2
  let s1 := s.modPort p (fun x =>
    { x with info := x.info.map (fun i => { i with width := c.1, rate := Fin.ofNat 7 c.2 })
             trunk := { x.trunk with width := c.1, rate := c.2 }
             ctl := { x.ctl with changeSent := none, changeFresh := fresh,
                                 equalised := if fresh then x.ctl.equalised ++ [c.2] else x.ctl.equalised } })
  (s1.assignLanes p c.1 (s.port p).trunk.hello.reversed).enterRecovery p

/-- The initiator commands a change: CHANGE_GO is queued with the least of the change and every request not yet served, or a queued
one takes them in; the change begins when it has been sent (R231). -/
def State.commandChange (s : State) (p : Nat) (c : Nat × Nat) : State :=
  let x := (s.port p).ctl
  let c1 := match x.servedAfter with | some a => leastOf a c | none => c
  let c2 := match x.changeSent with | some g => leastOf g c1 | none => c1
  let s1 := s.modTrunk p (fun t => { t with bypass := t.bypass.filter (fun m => m.type != 0x04) })
  (s1.sendBypass p 0x04 8 (toLE 1 c2.1 ++ toLE 1 c2.2)).modCtl p (fun x => { x with changeSent := some c2, servedAfter := none })

/-- A port asks for a change: the initiator commands it, the responder sends CHANGE_REQ (R231). -/
def State.wantChange (s : State) (p : Nat) (c : Nat × Nat) : State :=
  if (s.port p).trunk.initiator then s.commandChange p c
  else (s.sendBypass p 0x03 8 (toLE 1 c.1 ++ toLE 1 c.2)).modCtl p (fun x => { x with changeSent := some c })

/-- A change that the initiator must serve: after its own CHANGE_GO, only where the result does not already meet it (R231). A request
that comes within 100 µs of the recovery's end has crossed that CHANGE_GO. -/
def State.serveChange (s : State) (p : Nat) (c : Nat × Nat) : State :=
  let x := s.port p
  let crossed := match x.ctl.goAt with | some t => decide (s.ftb ≤ t + 100000) | none => false
  let s1 := s.modCtl p (fun x => { x with goAt := none })
  if crossed && x.trunk.width ≤ c.1 && x.trunk.rate ≤ c.2 then s1 else s1.commandChange p (leastOf (s.ownWish p) c)

/-- Recovery ends once every lane has 16 good markers: IDLE flits go out, and the replay of unacknowledged flits follows them (R229).
A third recovery in a row that ends with flits unacknowledged takes the port down (R227). -/
def State.endRecovery (s : State) (p : Nat) : State :=
  let x := (s.port p).trunk
  let runs := if x.replay.isEmpty then x.recoveries else x.recoveries + 1
  if 3 ≤ runs then s.dropLink p
  else
    ((s.put .portLink p 0 4).modTrunk p (fun x => { x with stage := .active, since := s.ftb, recoveries := runs })).modCtl p
      (fun c => { c with changeFresh := false, idleLeft := 2, laneBytes := 0, goAt := c.goAt.map (fun _ => s.ftb) })

/-! ### Alignment markers (R147 to R149, R229, R230) -/



/-- Whether a marker is whole: pattern and CRC (R148). -/
def markerWhole (b : List Byte) : Bool := b.length == 16 && b.take 8 == markerPattern && fieldAt b 12 4 == crc32 (b.take 12)

/-- Whether a marker is good for a lane: whole, of the port's width, and with a COUNT equal on the lanes that have received this
marker already (R148, R149). -/
def TrunkCtl.markerOk (c : TrunkCtl) (lane width : Nat) (b : List Byte) : Bool :=
  let n := fieldAt b 10 2
  markerWhole b && fieldAt b 9 1 == width &&
  c.markerCount.all (fun e => e.1 == lane || e.2 == n || (e.2 + 1) % 65536 == n)

/-- A lane that fails its markers a second time within one recovery is left out: the width falls to the widest that leaves it out,
and with no lane left the link goes down (R146, R230). No flit flows in recovery, so the markers of the new width carry the change
to the other end. -/
def State.dropLane (s : State) (p lane : Nat) : State :=
  let logical := logicalLane (s.port p).trunk.hello.reversed (s.portLanes p).2 lane
  if logical = 0 then s.dropLink p else s.applyChange p (widthWithin logical, (s.port p).trunk.rate)

/-- A marker that is not good: the second in a row on a lane leads to recovery, or, in recovery, is a failure of the lane. The lane's
last COUNT no longer counts against the others. -/
def State.badMarker (s : State) (p lane : Nat) : State :=
  let bad := Tab.get 0 (s.port p).ctl.markerBad lane + 1
  let s1 := s.modCtl p (fun c =>
    { c with markerBad := Tab.set c.markerBad lane bad, markerGood := Tab.set c.markerGood lane 0,
             markerCount := Tab.drop c.markerCount lane })
  if bad < 2 then s1
  else if (s.port p).trunk.stage = .recovery then
    let fails := Tab.get 0 (s.port p).ctl.markerFails lane + 1
    if 2 ≤ fails then s1.dropLane p lane
    else s1.modCtl p (fun c => { c with markerFails := Tab.set c.markerFails lane fails, markerBad := Tab.set c.markerBad lane 0 })
  else s1.enterRecovery p

/-- Reversal as a marker shows it: LANE runs downwards across the physical lanes (R149). -/
def State.setReversed (s : State) (p : Nat) (r : Bool) : State :=
  if (s.port p).trunk.hello.reversed = r then s
  else
    (s.assignLanes p (s.port p).trunk.width r).modPort p (fun x =>
      { x with trunk := { x.trunk with hello := { x.trunk.hello with reversed := r } }
               info := x.info.map (fun i => { i with reversed := r }) })

/-- A marker is received on a physical lane of the port. In recovery one of a lesser width shows that the other end has left lanes
out, and this end follows (R230, R231). -/
def State.receiveMarker (s : State) (p lane : Nat) (b : List Byte) (inverted : Bool) : State :=
  let l := (s.portLanes p).1 + lane
  let c := (s.port p).ctl
  let x := (s.port p).trunk
  if markerWhole b && x.stage == .recovery && [1, 2, 4, 8].contains (fieldAt b 9 1) && decide (fieldAt b 9 1 < x.width) then
    s.applyChange p (fieldAt b 9 1, x.rate)
  else if !c.markerOk lane x.width b then s.badMarker p lane
  else
    let n := fieldAt b 10 2
    let s1 := (s.modLane l (fun x => { x with inverted := inverted })).setReversed p
      (decide (fieldAt b 8 1 + lane + 1 = (s.portLanes p).2) && fieldAt b 8 1 != lane)
    if n = 0xFFFF && 1 ≤ Tab.get 0 c.markerStop lane && x.stage != .recovery then s1.enterRecovery p
    else
      let good := Tab.get 0 c.markerGood lane + (if n = 0xFFFF then 0 else 1)
      let s2 := s1.modCtl p (fun c =>
        { c with markerBad := Tab.set c.markerBad lane 0, markerCount := Tab.set c.markerCount lane n,
                 markerStop := Tab.set c.markerStop lane (if n = 0xFFFF then Tab.get 0 c.markerStop lane + 1 else 0),
                 markerGood := Tab.set c.markerGood lane good })
      let y := (s2.port p).trunk
      let all := (List.range y.width).all (fun i => 16 ≤ Tab.get 0 (s2.port p).ctl.markerGood
        (logicalLane y.hello.reversed (s.portLanes p).2 i))
      if y.stage = .recovery && all then s2.endRecovery p else s2

/-! ### Parking (R234, R235) -/

/-- Nothing is unacknowledged and nothing is queued for a Trunk port. -/
def State.quiet (s : State) (p : Nat) : Bool :=
  (s.port p).trunk.replay.isEmpty && (s.port p).sending.isNone && !s.queuedFor p

/-- The link goes to electrical idle once the partner has acknowledged the exchange and an IDLE flit has told it the same (R234). -/
def State.tryPark (s : State) (p : Nat) : State :=
  let x := s.port p
  if x.ctl.parkAgreed && x.ctl.parkIdle && x.trunk.replay.isEmpty && x.trunk.bypass.isEmpty && x.ctl.epochFlits == 0 &&
      x.trunk.stage == TrunkStage.active then
    (((s.lanesOf p).foldl (fun s k => s.endScan k) (s.put .portLink p 0 9)).modTrunk p (fun x =>
      { x with stage := .parked, since := s.ftb })).modCtl p
      (fun c => { c with parkAgreed := false, parkAsked := false, parkExit := false, parkIdle := false })
  else s

/-- An end whose station has REQ 2 asks to park (R234). -/
def State.askPark (s : State) (p : Nat) : State :=
  let c := (s.port p).ctl
  if (s.portStations p).all (fun n => s.stationReq n == 2) && s.quiet p && !c.parkAsked && !c.parkAgreed &&
      decide (c.parkRetry ≤ s.ftb) && c.epochFlits == 0 then
    (s.sendBypass p 0x05 8 []).modCtl p (fun c => { c with parkAsked := true })
  else s

/-- A parked end is to resume: its station wakes, and once it is ready the link recovers (R235). -/
def State.unpark (s : State) (p : Nat) : State :=
  if s.get .portLink p = 9 then
    let s1 := (s.portStations p).foldl (fun s n => s.wakeStation n) s
    if (s.portStations p).all (fun n => (s1.station n).sidingState == SidingState.awake) then s1.enterRecovery p
    else s1.modCtl p (fun c => { c with parkExit := true })
  else s

/-! ### Sending a flit (R207 to R221, R238 to R240) -/

/-- The pool whose limit the next flit carries (R221): round robin among those whose limit changed, else all 14 in turn. -/
def Trunk.creditPool (x : Trunk) : Nat :=
  let order := (List.range 14).map (fun i => (x.pool + 1 + i) % 14)
  (order.find? (fun q => Tab.find x.lastSent q != some (Tab.get 0 x.admitted q))).getD ((x.pool + 1) % 14)

/-- The header of a flit as a 64-bit word; bits [63:58] are zero (R208). -/
def flitHeader (f : TrunkFlit) : Nat :=
  f.seq.toNat + f.ack.toNat * 2 ^ 12 + f.type.toNat * 2 ^ 24 + f.cvc.toNat * 2 ^ 28 + f.credit.toNat * 2 ^ 32 +
  (if f.nak then 2 ^ 56 else 0) + (if f.kset then 2 ^ 57 else 0)

/-- One bit of the CRC of R210: the ECMA-182 polynomial, reflected. -/
def crc64Bits : Nat → Nat → Nat
  | 0, c => c
  | k + 1, c => crc64Bits k (if c % 2 = 1 then c / 2 ^^^ 0xC96C5795D7870F42 else c / 2)

/-- The 64-bit CRC of R210: initial value and final XOR all ones. -/
def crc64 (l : List Byte) : Nat :=
  (l.foldl (fun c b => crc64Bits 8 (c ^^^ b.toNat)) 0xFFFFFFFFFFFFFFFF) ^^^ 0xFFFFFFFFFFFFFFFF

/-- The bytes that code `k` of the forward error correction covers: those whose index is `k` modulo 3 (R210). -/
def fecPart (k : Nat) (l : List Byte) : List Byte := (l.zipIdx.filter (fun e => e.2 % 3 == k)).map (·.1)

/-- The 6 check bytes after the 250 bytes they cover: byte `i` of the flit belongs to code `i mod 3` (R207, R210). -/
def fecBytes (l : List Byte) : List Byte :=
  let c : Nat → Byte × Byte := fun k => Config.fecCheck (fecPart k l)
  [(c 1).1, (c 2).1, (c 0).1, (c 1).2, (c 2).2, (c 0).2]

/-- The 256 bytes of a flit: header, payload, CRC, check bytes (R207). -/
def flitBytes (f : TrunkFlit) : List Byte :=
  let l := toLE 8 (flitHeader f) ++ (f.payload ++ List.replicate (234 - f.payload.length) 0).take 234
  let m := l ++ toLE 8 (crc64 l)
  m ++ fecBytes m

/-- The symbols of a byte, least significant bits first: four of two bits at 64 and 128 GT/s with the Gray mapping of PCI Express, or
eight of one bit at 32 GT/s (R168, R211). -/
def byteSymbols (pam4 : Bool) (b : Nat) : List Nat :=
  if pam4 then [0, 2, 4, 6].map (fun i => match b / 2 ^ i % 4 with | 0 => 0 | 1 => 1 | 3 => 2 | _ => 3)
  else (List.range 8).map (fun i => b / 2 ^ i % 2)

/-- A flit on the lanes: byte `i` goes to logical lane `i mod W`, scrambled from the lane's place since the last marker (R211). -/
def laneSymbols (width rate start : Nat) (bytes : List Byte) : List (List Nat) :=
  (List.range width).map (fun k =>
    (((bytes.zipIdx.filter (fun e => e.2 % width == k)).map (·.1)).zipIdx).flatMap (fun e =>
      byteSymbols (5 ≤ rate) (e.1 ^^^ Config.scramble k (start + e.2)).toNat))

/-- A flit goes out with the current ACK, NAK and one credit update (R209), striped over the lanes; after each 65,536 bytes of lane
data a marker follows (R147, R211). The time of the last NAK is that of the last flit that carries it (R225). -/
def State.putFlit (s : State) (p seq type : Nat) (kset : Bool) (payload : List Byte) : State :=
  let x := (s.port p).trunk
  let q := x.creditPool
  let credit := Tab.get 0 x.admitted q
  let f : TrunkFlit :=
    { seq := BitVec.ofNat 12 seq, ack := BitVec.ofNat 12 (x.expect + 4095), type := BitVec.ofNat 4 type,
      cvc := BitVec.ofNat 4 q, credit := BitVec.ofNat 24 credit, nak := decide (0 < x.nakLeft), kset, payload }
  let at_ := (s.port p).ctl.laneBytes
  let s1 := (s.modTrunk p (fun x => { x with
      pool := q, lastSent := Tab.set x.lastSent q credit, nakLeft := x.nakLeft - 1,
      lastNak := if 0 < x.nakLeft then x.lastNak.map (fun e => (e.1, s.ftb)) else x.lastNak })).modCtl p
    (fun c => { c with laneBytes := at_ + 256 / x.width })
  let s2 := (s1.emit (.flit p f)).emit (.wire p (laneSymbols x.width x.rate at_ (flitBytes f)))
  if 65536 ≤ at_ + 256 / x.width then s2.nextMarker p else s2

/-- The IV of an epoch in a direction, 0 from initiator to responder: the direction value, then the epoch counter (R239). -/
def trunkIv (dir epoch : Nat) : List Byte := toLE 4 (dir + 1) ++ toLE 8 epoch

/-- What the additional authenticated data of an epoch holds of a flit: its SEQ, TYPE and KSET (R239). -/
def SentFlit.aad (e : SentFlit) : List Byte := toLE 2 e.seq ++ toLE 1 e.type ++ toLE 1 (if e.kset then 1 else 0)

/-- Encrypt or decrypt the payload of flit `i` of an epoch (R238, R239). -/
def trunkCipher (key : List Byte) (dir epoch i : Nat) (l : List Byte) : List Byte :=
  l.zipIdx.map (fun e => e.1 ^^^ Config.gcmStream key (trunkIv dir epoch) (234 * i + e.2))

/-- The tag of an epoch over its flits, as they were sent (R238, R239). -/
def trunkTag (key : List Byte) (dir epoch : Nat) (l : List SentFlit) : BitVec 128 :=
  Config.gcmTag key (trunkIv dir epoch) (l.flatMap SentFlit.aad) (l.flatMap (·.payload))

/-- The key of a direction and key set. -/
def TrunkCtl.key (c : TrunkCtl) (dir : Nat) (kset : Bool) : List Byte := Tab.get [] c.keys (2 * dir + (if kset then 1 else 0))

/-- The direction that an end sends in: 0 for the initiator (R239). -/
def Trunk.direction (x : Trunk) : Nat := if x.initiator then 0 else 1

/-- The initiator starts a key update (R240): an SPDM message goes to the responder, the other key set is derived, and it is used
from the first flit of the next epoch. -/
def State.updateKeys (s : State) (p : Nat) : State :=
  let x := s.port p
  let set := if x.ctl.ksetTx then 0 else 1
  let s1 := s.modCtl p (fun c => { c with
    keyUpdating := true, derived := c.derived + 1,
    keys := Tab.set (Tab.set c.keys set (Config.trunkKey c.session (c.derived + 1) 0 set)) (2 + set)
      (Config.trunkKey c.session (c.derived + 1) 1 set) })
  if x.trunk.initiator then s1.sendBypass p 0x07 8 (Config.spdmMessage 1) else s1

/-- An epoch counter nears 2^31: the initiator starts an update before it gets there (R240). -/
def State.dueKeys (s : State) (p : Nat) : State :=
  let x := s.port p
  if x.ctl.ide && x.trunk.initiator && !x.ctl.keyUpdating && (2 ^ 31 - 1 ≤ x.ctl.epochTx || 2 ^ 31 - 1 ≤ x.ctl.epochRx) then s.updateKeys p
  else s

/-- A new sequenced flit goes out and enters the replay buffer (R209, R223), its payload encrypted once Trunk IDE is active (R238); at
the agreed SEQ the level changes (R232), and at the first flit of an epoch a key update takes effect (R240). -/
def State.sendSequenced (s : State) (p type : Nat) (payload : List Byte) : State :=
  let x := (s.port p).trunk
  let c := (s.port p).ctl
  let flip := c.keyUpdating && c.epochFlits == 0 && type != 3
  let kset := if flip then !c.ksetTx else c.ksetTx
  let epoch := if flip then 1 else c.epochTx
  let level := match c.levelAgreed with | some (l, at_) => if at_ = x.nextSeq then l else x.level | none => x.level
  let body := if c.ide && type != 3 then trunkCipher (c.key x.direction kset) x.direction epoch c.epochFlits payload else payload
  let e : SentFlit := { seq := x.nextSeq, type := type, kset := kset, payload := body }
  let s1 := s.modPort p (fun y =>
    { y with
      trunk := { y.trunk with
        nextSeq := (x.nextSeq + 1) % 4096, replay := y.trunk.replay ++ [e], level := level,
        bypassRun := if type = 2 then y.trunk.bypassRun + 1 else 0,
        replaying := if y.trunk.replaying.isEmpty then [] else y.trunk.replaying ++ [e],
        replayTimer := match y.trunk.replayTimer with | some t => some t | none => some (s.ftb + 4000) }
      ctl := { y.ctl with
        ksetTx := kset, keyUpdating := y.ctl.keyUpdating && !flip,
        levelAgreed := (match c.levelAgreed with | some (l, at_) => if at_ = x.nextSeq then none else some (l, at_) | none => none),
        epochTx := if type = 3 then y.ctl.epochTx + 1 else epoch,
        sealing := if type = 3 || !y.ctl.ide then [] else y.ctl.sealing ++ [e],
        epochFlits := if type = 3 || !y.ctl.ide then 0 else y.ctl.epochFlits + 1 } })
  s1.putFlit p x.nextSeq type kset body

/-- A payload padded to its 234 bytes (R207). -/
def padded (l : List Byte) : List Byte := l ++ List.replicate (234 - l.length) 0

/-- The payload of a MAC flit (R238): the GCM tag of the epoch and the epoch counter. -/
def State.macPayload (s : State) (p : Nat) : List Byte :=
  let x := (s.port p).trunk
  let c := (s.port p).ctl
  padded (toLE 16 (trunkTag (c.key x.direction c.ksetTx) x.direction c.epochTx c.sealing).toNat ++ toLE 8 c.epochTx)

/-- The slots a bypass message takes (R214, R215). -/
def BypassMsg.slots (m : BypassMsg) : Nat := if m.long then 3 else 1

/-- The bypass messages that the next flit carries, in order within each pool, and those that stay (R214 to R216): `used`
counts slots, `blocked` the pools whose next message has no credit. Before Trunk IDE only CTL is sent (R237). -/
def pickBypass (ide : Bool) : Trunk → Nat → List Nat → List BypassMsg → Trunk × List BypassMsg × List BypassMsg
  | x, _, _, [] => (x, [], [])
  | x, used, blocked, m :: rest =>
    if !blocked.contains m.pool && decide (used + m.slots ≤ 7) && decide (m.slots ≤ x.creditLeft m.pool) && (ide || m.pool == 8) then
      let x' := { x with consumed := Tab.set x.consumed m.pool ((Tab.get 0 x.consumed m.pool + m.slots) % 2 ^ 24) }
      match pickBypass ide x' (used + m.slots) blocked rest with
      | (y, sent, left) => (y, m :: sent, left)
    else
      match pickBypass ide x used (blocked ++ [m.pool]) rest with
      | (y, sent, left) => (y, sent, m :: left)

/-- The bytes of a bypass message in its flit (R214). A TIME message takes its stamps as its flit is sent (R233). -/
def State.bypassBytes (s : State) (p : Nat) (m : BypassMsg) : List Byte :=
  let c := (s.port p).ctl
  let body := if m.type = 0x01 then toLE 8 s.ftb ++ toLE 8 (c.peerRxAt.getD 0) ++ toLE 8 (c.peerTx.getD 0) else m.body
  let short := body.take 30
  [BitVec.ofNat 8 m.type, if m.long then 1 else 0] ++ short ++ List.replicate (30 - short.length) 0 ++
  (if m.long then (body.drop 30).take 64 ++ List.replicate (94 - body.length) 0 else [])

/-- A BYPASS flit (R214, R216); a CHANGE_GO in it starts the change (R231). -/
def State.sendBypassFlit (s : State) (p : Nat) (x : Trunk) (sent left : List BypassMsg) : State :=
  let count := (sent.map BypassMsg.slots).sum
  let payload := padded (toLE 1 count ++ List.replicate 9 0 ++ (sent.map (fun m => s.bypassBytes p m)).flatten)
  let s1 := s.modPort p (fun y =>
    { y with trunk := { x with bypass := left }
             ctl := { y.ctl with
               lastTx := if sent.any (fun m => m.type == 0x01) then some s.ftb else y.ctl.lastTx
               changeSeq := if sent.any (fun m => m.type == 0x03) then some x.nextSeq else y.ctl.changeSeq } })
  let s2 := s1.sendSequenced p 2 payload
  match sent.find? (fun m => m.type == 0x04) with
  | some m => (s2.modCtl p (fun c => { c with goAt := some s.ftb })).applyChange p (fieldAt m.body 0 1, fieldAt m.body 1 1)
  | none => s2

/-- Fill the records of a DATA flit (R212, R213, R218): the frame in progress goes on, and the next one starts where the
arbiter has an eligible one; its whole credit is charged at its FIRST record. -/
def State.fillData (s : State) (p : Nat) : Nat → Nat → List Byte → State × List Byte
  | 0, _, acc => (s, acc)
  | k + 1, space, acc =>
    if space < 3 then (s, acc)
    else
      match (s.port p).sending with
      | some n =>
        match s.frame n with
        | none => (s.modPort p (fun x => { x with sending := none }), acc)
        | some f =>
          let sent := (s.port p).trunk.txSent
          let m := min (min (f.len - sent) 232) (space - 2)
          let last := decide (f.len ≤ sent + m)
          let head := f.cls % 8 + (if sent = 0 then 8 else 0) + (if last then 16 else 0) + m * 256
          let bytes := toLE 2 head ++ (List.range m).map (fun i => f.byte (sent + i))
          let s1 := s.modTrunk p (fun x => { x with txSent := sent + m })
          if last then (s1.endSending p).fillData p k (space - 2 - m) (acc ++ bytes) else (s1, acc ++ bytes)
      | none =>
        match s.chooseFrame p with
        | (s1, .frame c n overrun) =>
          match s1.frame n with
          | none => (s1, acc)
          | some f =>
            let s2 := (s1.startFrame p c n overrun).modTrunk p (fun x =>
              { x with txSent := 0, consumed := Tab.set x.consumed c ((Tab.get 0 x.consumed c + f.wagons) % 2 ^ 24) })
            let s3 := if f.inp.kind = .wrap then
                s2.modJunction (fun j => { j with near := j.near.map (fun e =>
                  if e.1 = f.inp.tag && e.2.port = p then (e.1, { e.2 with sentAt := s.ftb }) else e) })
              else s2
            s3.fillData p k space acc
        | _ => (s, acc)

/-- Whether a DATA flit is ready (R216). -/
def State.dataReady (s : State) (p : Nat) : Bool :=
  (s.port p).ctl.ide && ((s.port p).sending.isSome || (List.range 8).any (fun c => (s.eligible p c).isSome))

/-- What a Trunk transmitter sends at a flit boundary in Active (R216). After recovery IDLE flits come first, and then the replay
(R229). -/
def State.sendFlit (s : State) (p : Nat) : State :=
  let x := (s.port p).trunk
  let c := (s.port p).ctl
  let room := decide (x.replay.length < s.replayShare p)
  let picked := pickBypass c.ide x 0 [] x.bypass
  let data := s.dataReady p
  let bypassReady := !picked.2.1.isEmpty && (decide (x.bypassRun < 3) || !data)
  let ready := !picked.2.1.isEmpty || data
  let idle : State → State := fun s => (s.putFlit p x.nextSeq 0 c.ksetTx (padded [])).countSlots p (s.idleEvents p)
  if 0 < c.idleLeft then
    let s1 := (idle s).modCtl p (fun c => { c with idleLeft := c.idleLeft - 1 })
    if c.idleLeft = 1 then s1.startReplay p else s1
  else if c.ide && room && (decide (16 ≤ c.epochFlits) || (decide (0 < c.epochFlits) && !ready && x.replaying.isEmpty)) then
    ((s.sendSequenced p 3 (s.macPayload p)).dueKeys p).countSlots p [0x003]
  else
    match x.replaying with
    | e :: rest =>
      (((s.modTrunk p (fun x => { x with replaying := rest })).putFlit p e.seq e.type e.kset e.payload).countPort p 0x016).countSlots p
        [0x003]
    | [] =>
      if room && bypassReady then (s.sendBypassFlit p picked.1 picked.2.1 picked.2.2).countSlots p [0x002]
      else if room && data then
        match s.fillData p 100 234 [] with
        | (s1, payload) => (s1.sendSequenced p 1 (padded payload)).countSlots p [0x002]
      else (((idle s).modCtl p (fun c => { c with parkIdle := c.parkAgreed })).askPark p).tryPark p

/-! ### Receiving a flit (R209, R213, R224, R225, R241) -/

/-- The records of a DATA payload (R212, R213): the frames still open on each VC, and those that ended; `none` where a record breaks
the order of a VC. -/
def readRecords : Nat → Tab (List Byte) → List (List Byte) → List Byte → Option (Tab (List Byte) × List (List Byte))
  | 0, open_, done, _ => some (open_, done)
  | k + 1, open_, done, l =>
    if l.length < 2 || fieldAt l 1 1 = 0 then some (open_, done)
    else
      let head := fieldAt l 0 1
      let n := fieldAt l 1 1
      let vc := head % 8
      let isOpen := (Tab.find open_ vc).isSome
      if 232 < n || bitOf head 3 == isOpen then none
      else
        let got := Tab.get [] open_ vc ++ (l.drop 2).take n
        if bitOf head 4 then readRecords k (Tab.drop open_ vc) (done ++ [got]) (l.drop (2 + n))
        else readRecords k (Tab.set open_ vc got) done (l.drop (2 + n))

/-- The messages of a BYPASS payload, by type, with their bodies (R214, R215); `slots` are left to read. -/
def readBypass : Nat → Nat → List Byte → List (Nat × List Byte)
  | 0, _, _ => []
  | _, 0, _ => []
  | k + 1, slots + 1, l =>
    let long := fieldAt l 1 1 % 2 == 1
    let n := if long then 3 else 1
    (fieldAt l 0 1, (l.drop 2).take (32 * n - 2)) :: readBypass k (slots + 1 - n) (l.drop (32 * n))

/-- The payload of a released flit: frames and messages may take effect, each by its own command; before Trunk IDE nothing but CTL
messages (R206, R237, R241). -/
def State.releaseFlit (s : State) (p type : Nat) (payload : List Byte) : State :=
  let arrive : State → List (Nat × List Byte) → State := fun s l => s.modCtl p (fun c => { c with arrived := c.arrived ++ l })
  if type = 1 then
    if (s.port p).ctl.ide then
      match readRecords 120 (s.port p).trunk.openRx [] payload with
      | some (o, done) => arrive (s.modTrunk p (fun x => { x with openRx := o })) (done.map (fun b => (0, b)))
      | none => s.protocolError p
    else s
  else
    arrive s ((readBypass 7 (min (fieldAt payload 0 1) 7) (payload.drop 10)).filter (fun m =>
      (s.port p).ctl.ide || (1 ≤ m.1 && m.1 ≤ 7)))

/-- A sequenced flit is accepted in order: before Trunk IDE it is released at once, with it decrypted and released when its epoch's
tag has verified (R238 to R241). -/
def State.acceptFlit (s : State) (p : Nat) (f : TrunkFlit) : State :=
  let s1 := s.modTrunk p (fun x => { x with expect := (x.expect + 1) % 4096, lastNak := none })
  let c := (s1.port p).ctl
  let dir := 1 - (s1.port p).trunk.direction
  let e : SentFlit := { seq := f.seq.toNat, type := f.type.toNat, kset := f.kset, payload := f.payload }
  if !c.ide then (if e.type = 3 then s1 else s1.releaseFlit p e.type e.payload)
  else if e.type = 3 then
    let key := c.key dir c.ksetRx
    if fieldAt e.payload 0 16 = (trunkTag key dir c.epochRx c.held).toNat && fieldAt e.payload 16 8 = c.epochRx then
      let s2 := s1.modCtl p (fun c => { c with held := [], epochRx := c.epochRx + 1 })
      ((c.held.zipIdx).foldl (fun s h => s.releaseFlit p h.1.type (trunkCipher key dir c.epochRx h.2 h.1.payload)) s2).dueKeys p
    else s1.trunkTagFails p
  else s1.modCtl p (fun c =>
    { c with held := c.held ++ [e],
             ksetRx := if c.held.isEmpty then e.kset else c.ksetRx,
             epochRx := if c.held.isEmpty && e.kset != c.ksetRx then 1 else c.epochRx })

/-- Whether the check bytes of a code fit the bytes before them. -/
def fecFits (w : List Byte) : Bool :=
  Config.fecCheck (w.take (w.length - 2)) == (w.getD (w.length - 2) 0, w.getD (w.length - 1) 0)

/-- A code corrects one byte: the word itself if it fits, else a word that fits and differs from it in one byte (R210). -/
def fecCorrect (w : List Byte) : List Byte :=
  if fecFits w then w
  else ((List.range w.length).findSome? (fun i => (List.range 256).findSome? (fun v =>
    let w' := w.set i (BitVec.ofNat 8 v)
    if fecFits w' then some w' else none))).getD w

/-- The bytes of a flit after the forward error correction of its three interleaved codes (R210). -/
def fecDecode (l : List Byte) : List Byte :=
  let part : Nat → List Byte := fun k => fecCorrect (fecPart k l)
  let p0 := part 0
  let p1 := part 1
  let p2 := part 2
  (List.range l.length).map (fun i => (if i % 3 = 0 then p0 else if i % 3 = 1 then p1 else p2).getD (i / 3) 0)

/-- Whether a flit is good: its CRC matches (R210). -/
def flitGood (l : List Byte) : Bool := l.length == 256 && fieldAt l 242 8 == crc64 (l.take 242)

/-- The header and payload of a flit (R207, R208). -/
def flitOf (l : List Byte) : TrunkFlit :=
  let h := fieldAt l 0 8
  { seq := BitVec.ofNat 12 (bitsOf h 0 12), ack := BitVec.ofNat 12 (bitsOf h 12 12), type := BitVec.ofNat 4 (bitsOf h 24 4),
    cvc := BitVec.ofNat 4 (bitsOf h 28 4), credit := BitVec.ofNat 24 (bitsOf h 32 24), nak := bitOf h 56, kset := bitOf h 57,
    payload := (l.drop 8).take 234 }

/-- A good flit arrives on a Trunk port (R209, R224, R225). -/
def State.receiveFlit (s : State) (p : Nat) (f : TrunkFlit) : State :=
  if 4 ≤ f.type.toNat || f.cvc.toNat = 14 then s.protocolError p
  else
    let s1 := s.applyAck p f.ack.toNat
    let s2 := s1.applyCredit p f.cvc.toNat f.credit.toNat
    let s3 := if f.nak then s2.applyNak p f.ack.toNat else s2
    let s4 :=
      if f.type.toNat = 0 || s.get .portLink p != s3.get .portLink p then s3
      else
        let d := (f.seq.toNat + 4096 - (s3.port p).trunk.expect) % 4096
        if d = 0 then s3.acceptFlit p f
        else if d < 2048 then s3.askReplay p
        else s3
    s4.tryPark p

/-- The 256 bytes of a flit arrive on a Trunk port: one that is not good after the correction is discarded whole (R210, R225). -/
def State.receiveBytes (s : State) (p : Nat) (bytes : List Byte) : State :=
  let l := fecDecode bytes
  if flitGood l then s.receiveFlit p (flitOf l) else (s.countPort p 0x017).askReplay p

end Sys2Proof.Machine
end

