-- ==== Sys2Proof/Machine/Commit.lean ====
section
/-! DEFINITION. A commit: the state its entries produce, the checks of R62, and what follows from each class of object at
the round boundary (R58 to R69, R640, R642 and the rules of the other chapters that speak of a commit). -/

namespace Sys2Proof.Machine

/-! ### Entries -/

/-- Every stored field of an object is at its after-reset value. -/
def State.wipeObject (s : State) (cls idx sub : Nat) : State :=
  { s with obj := s.obj.filter (fun e => !(e.1 / 2 ^ 40 == cls && e.1 / 65536 % 65536 == idx && e.1 % 65536 == sub)) }

/-- OWNER of a pool class. -/
def ownerField (cls : Nat) : Fld := if cls = clsRule then .ruleOwner else if cls = clsEvent then .eventOwner else .counterOwner

/-- An entry on the object store alone. Bits 0, 1 and 3 of WAKE_EN read 1 whatever is written (R511). -/
def State.storeEntry (s : State) (e : Entry) : State :=
  match e with
  | .write cls idx sub fid v =>
    match Fld.ofId cls fid with
    | some f => s.put f idx sub (if f = .deviceWakeEn then v ||| 0xB else v)
    | none => s
  | .create cls idx owner =>
    let s1 := s.wipeObject cls idx 0
    { s1.put (ownerField cls) idx 0 owner with alloc := s.alloc ++ [poolKey cls idx] }
  | .delete cls idx => { s.wipeObject cls idx 0 with alloc := s.alloc.filter (· != poolKey cls idx) }
  | .raise _ => s
  | .action _ _ _ _ => s

/-- The state a buffer would produce, on the object store. -/
def State.stored (s : State) (es : List Entry) : State := es.foldl State.storeEntry s

/-- The object an entry names: class, index and sub-index. -/
def Entry.object : Entry → Option (Nat × Nat × Nat)
  | .write c i b _ _ => some (c, i, b)
  | .create c i _ => some (c, i, 0)
  | .delete c i => some (c, i, 0)
  | .raise _ => none
  | .action c i b _ => some (c, i, b)

/-- The objects whose generation a buffer changes, each once (R61). -/
def touchedObjects (es : List Entry) : List (Nat × Nat × Nat) :=
  (es.filterMap (fun e => match e with | .action _ _ _ _ => none | e => e.object)).eraseDups

/-! ### What follows from a class (R433, R437 to R439, R484, ...) -/

/-- PORT (R173, R189): setting ENABLE stops the lane tests of the port's lanes. -/
def State.portCommitted (s0 old : State) (es : List Entry) (p : Nat) : State :=
  let s := if (wrote es .portEnable).contains p && s0.get .portEnable p = 1 then (s0.lanesOf p).foldl (fun s k => s.stopTest k) s0 else s0
  let s1 := if s.get .portProto p != old.get .portProto p then
      (if s.portUp p then s.dropLink p else if s.get .portLink p = 1 then s.startDetect p else s) else s
  let s2 := if (wrote es .portEnable).contains p && s.get .portEnable p != old.get .portEnable p then
      (if s.get .portEnable p = 0 then s1.linkDownTo p 0 else if s1.portUp p then s1 else s1.startDetect p) else s1
  let rate := s.get .portRateMax p
  if rate < old.get .portRateMax p && s2.portUp p then
    if s.get .portProto p = 2 then
      (if rate < (s2.port p).trunk.rate then s2.wantChange p ((s2.port p).trunk.width, rate) else s2)
    else s2.modPort p (fun x => { x with info := x.info.map (fun i => if rate < i.rate.val then { i with rate := Fin.ofNat 7 rate } else i) })
  else s2

/-- A commit that changes the role of a link-up port takes it down, and it trains in the new role (R190). -/
def State.rolesCommitted (s : State) : State :=
  s.livePorts.foldl (fun s p =>
    if s.portUp p && s.get .portProto p != 2 && s.trainedRole p != (s.port p).role then s.dropLink p else s) s

/-- TENANT (R382, R383, R410): creation starts the window's counts at 0 and the shaper full; STATE 2 starts the reset. -/
def State.tenantCommitted (s old : State) (t : Nat) : State :=
  let a := old.get .tenantState t
  let b := s.get .tenantState t
  if a = 0 && b = 1 then
    (s.modWindow t (fun w => { w with violCount := 0, violOvf := false, overdraw := 0, resets := 0 })).modQos (fun q =>
      { q with tshapers := Tab.drop q.tshapers t })
  else if a = 1 && b = 2 then
    s.modTenant t (fun x => { x with reset := .requests, resetAt := s.ftb + s.get .tenantTimeout t, doneVector := 0x2000 })
  else s

/-- VPPB (R304, R309): a new binding is PENDING, and goes on at once where it can; a binding that a commit takes away ends
as an unbinding does. -/
def State.vppbCommitted (s old : State) (v b : Nat) : State :=
  let same := s.get .vppbKind v b == old.get .vppbKind v b && s.get .vppbPort v b == old.get .vppbPort v b &&
    s.get .vppbLdid v b == old.get .vppbLdid v b
  if same then s
  else
    let s1 := if old.get .vppbKind v b != 0 then
        let k := s.get .vppbKind v b
        let p := s.get .vppbPort v b
        let gone := ((s.put .vppbPort v b (old.get .vppbPort v b)).unbindNow v b)
        (gone.put .vppbKind v b k).put .vppbPort v b p
      else s
    if s.get .vppbKind v b = 0 then s1
    else
      let down := match s.uspPort v with | some p => !s.portUp p | none => true
      ((s1.setHp v b 1).modVppb v b (fun x => { x with auto := x.auto || down })).settleVppb v b

/-- TSHAPER (R383, R433): a tenant being created starts full. -/
def State.tshaperCommitted (s old : State) (es : List Entry) (t : Nat) : State :=
  if old.get .tenantState t = 0 && s.get .tenantState t = 1 then s.modQos (fun q => { q with tshapers := Tab.drop q.tshapers t })
  else if (wrote es .tshaperRate).contains t || (wrote es .tshaperBurst).contains t then
    let x := (s.tshaper t).applied (s.get .tshaperApply t) (old.get .tshaperRate t) (old.get .tshaperBurst t)
      (s.get .tshaperRate t) (s.get .tshaperBurst t)
    s.modQos (fun q => { q with tshapers := Tab.set q.tshapers t x })
  else s

/-- CSHAPER (R433). -/
def State.cshaperCommitted (s old : State) (es : List Entry) (p c : Nat) : State :=
  if (writesOf es).any (fun w => w.1 == clsCShaper && w.2.1 == p && w.2.2.1 == c && (w.2.2.2 == 1 || w.2.2.2 == 2)) then
    let x := (s.cshaper p c).applied (s.get .cshaperApply p c) (old.get .cshaperRate p c) (old.get .cshaperBurst p c)
      (s.get .cshaperRate p c) (s.get .cshaperBurst p c)
    s.modQos (fun q => { q with cshapers := Tab.set q.cshapers (p * 8 + c) x })
  else s

/-- TIMETABLE: a committed TAKEOVER disarms or arms; with NEXTCYCLE, one that is past becomes the next cycle start (R437,
R439). -/
def State.timetableCommitted (s : State) (es : List Entry) (p : Nat) : State :=
  if (wrote es .timetableTakeover).contains p then
    let t := s.get .timetableTakeover p
    if t = noTakeover then s.put .timetableArmed p 0 0
    else
      let s1 := s.put .timetableArmed p 0 1
      if s.get .timetableNextcycle p = 1 && t < s.ftb then s1.put .timetableTakeover p 0 (s.nextCycle p) else s1
  else s

/-- COUNTER, UNITCTR and UNITSET: ZERO clears, and reads 0 again (R565, R576). -/
def State.countersCommitted (s : State) (cls idx sub : Nat) : State :=
  if cls = clsCounter then
    if s.get .counterZero idx = 1 then
      ((s.unput .counterZero idx 0).put .counterValue idx 0 0).put .counterOvf idx 0 0 else s
  else if cls = clsUnitctr then
    if s.get .unitctrZero idx sub = 1 then
      ((s.unput .unitctrZero idx sub).put .unitctrValue idx sub 0).put .unitctrOvf idx sub 0 else s
  else
    if s.get .unitsetZero idx = 1 then
      (List.range 8).foldl (fun s i => (s.put .unitctrValue idx i 0).put .unitctrOvf idx i 0)
        ((s.unput .unitsetZero idx 0).put .unitsetTick idx 0 s.ftb) else s

/-- SLOT (R463, R484, R490): the limits in force are held until the new ones are in place, then ENABLE acts. -/
def State.slotCommitted (s old : State) (es : List Entry) (n : Nat) : State :=
  let s1 := if s.committedLimits n != old.committedLimits n then s.holdLimits n (old.limitsOf n) else s
  let s2 := if (wrote es .slotEnable).contains n then s1.enableSlot n (s.get .slotEnable n) else s1
  s2.drivePerst n

/-- GLEANER (R406, R408): logging starts afresh, or stops with what is pending written out. -/
def State.gleanerCommitted (s old : State) (t : Nat) : State :=
  let a := old.get .gleanerEnable t
  let b := s.get .gleanerEnable t
  if a = 0 && b = 1 then
    (((s.put .gleanerHead t 0 0).put .gleanerTail t 0 0).put .gleanerAlldirty t 0 0).beginPass t 1
  else if a = 1 && b = 0 then
    let s1 := (s.put .gleanerEnable t 0 1).flushAllRecords t
    (s1.put .gleanerEnable t 0 0).modTenant t (fun x => { x with passAt := none })
  else s

/-- VDD_CORE's setpoint follows VCORE and AVS: a VCORE that is no multiple of 5 is rounded up, and with AVS 1 it is a
ceiling (R528 to R530). For 100 µs after a change the thresholds look at the lower setpoint (R527). -/
def State.setVcore (s : State) (mv : Nat) : State :=
  let now := s.get .deviceVcoreNow 0
  if now = mv then s
  else (s.put .deviceVcoreNow 0 0 mv).modPower (fun p => { p with vcoreOld := some (now, s.ftb + 100000) })

/-- The setpoint a VCORE asks for (R528). -/
def roundedVcore (v : Nat) : Nat := (v + 4) / 5 * 5

/-- DEVICE.PSTATE (R500, R502, R508, R515): DOZE and RUN take effect at once; STANDBY and WATCH begin their entry. -/
def State.pstateCommitted (s old : State) : State :=
  let a := old.get .devicePstate 0
  let b := s.get .devicePstate 0
  if b = a then s
  else if b = 0 then
    let s1 := (List.range 4).foldl (fun s q => if s.domainReq (5 + q) = 0 then s else s.followReq (5 + q)) s
    (List.range s.stationCount).foldl (fun s n => if s.domainReq (stationDomain n) = 1 then s.wakeStation n else s) s1
  else if b = 1 then s
  else if b ≤ 3 && s.awake then
    let due := bitOf (s.get .deviceWakeEn 0) 7 && s.get .deviceWakeAt 0 != 2 ^ 64 - 1 && s.get .deviceWakeAt 0 ≤ s.ftb
    let s1 := ((s.put .deviceWakeCause 0 0 0).modPower (fun p =>
      { p with step := .entry b 1, priorPstate := a, wakeLatched := false })).modOrd (fun o => { o with noStart := true })
    if due then s1.wakeBy 7 else s1
  else s

/-- DEVICE (R457, R529, R530). -/
def State.deviceCommitted (s old : State) (es : List Entry) : State :=
  let v := roundedVcore (s.get .deviceVcore 0)
  let s1 := if (wrote es .deviceVcore).isEmpty && (wrote es .deviceAvs).isEmpty then s
    else s.setVcore (if s.get .deviceAvs 0 = 1 then min v (s.get .deviceVcoreNow 0) else v)
  let s2 := if (wrote es .deviceFtbSrc).isEmpty then s1
    else (s1.put .deviceFtbState 0 0 1).modQos (fun q => { q with goodOffsets := 0, lastMeasure := s.ftb })
  s2.pstateCommitted old

/-- AGENT (R329): a live agent that a commit changes dies first, and its new values wait for its reclaim. -/
def State.agentCommitted (s old : State) (a : Nat) : State :=
  let changed := s.get .agentKind a != old.get .agentKind a || s.get .agentPort a != old.get .agentPort a ||
    s.get .agentBiid a != old.get .agentBiid a
  if changed && (old.live a || (old.agent a).scanning) then
    let new := (s.get .agentKind a, s.get .agentPort a, s.get .agentBiid a, s.get .agentPrefetch a)
    let s1 := ((s.put .agentKind a 0 (old.get .agentKind a)).put .agentPort a 0 (old.get .agentPort a)).put .agentBiid a 0
      (old.get .agentBiid a)
    (s1.agentDies a 4).modAgent a (fun x => { x with staged := some new, reason := 4 })
  else s.agentWakes a

/-- Agents whose change has been reclaimed become live at the first commit that finds them able (R329). -/
def State.agentsCommitted (s : State) : State :=
  ((s.coh.agents.filter (fun e => e.2.reason == 4)).map (·.1)).foldl (fun s a => s.agentWakes a) s

/-- What follows at the boundary from the entries of one object. -/
def State.objectCommitted (s old : State) (es : List Entry) (o : Nat × Nat × Nat) : State :=
  let (cls, i, b) := o
  if cls = clsPort then s.portCommitted old es i
  else if cls = clsStation then
    if s.get .stationBifurc i != old.get .stationBifurc i then
      s.modStation i (fun x => { x with remapFrom := some (x.remapFrom.getD (old.get .stationBifurc i)) }) else s
  else if cls = clsTenant then s.tenantCommitted old i
  else if cls = clsVppb then s.vppbCommitted old i b
  else if cls = clsTShaper then s.tshaperCommitted old es i
  else if cls = clsCShaper then s.cshaperCommitted old es i b
  else if cls = clsTimetable then s.timetableCommitted es i
  else if cls = clsCounter || cls = clsUnitctr || cls = clsUnitset then s.countersCommitted cls i b
  else if cls = clsSlot then s.slotCommitted old es i
  else if cls = clsGleaner then s.gleanerCommitted old i
  else if cls = clsDomain then s.followReq i
  else if cls = clsDevice then s.deviceCommitted old es
  else if cls = clsAgent then s.agentCommitted old i
  else if cls = clsWindow then
    s.modJunction (fun j => { j with alertSeen := Tab.drop j.alertSeen i, gpiSeen := Tab.drop j.gpiSeen i })
  else if cls = clsMirror then s
  else s

/-- The CO fields of a class. -/
def writableFields (cls : Nat) : List Nat :=
  ((Fld.listA ++ Fld.listB).filter (fun f => f.info.cls == cls && f.info.co)).map (fun f => f.info.id)

/-- A commit that writes every CO field of a broken object repairs it (R592). -/
def State.repairObjects (s : State) (es : List Entry) : State :=
  { s with errors := { s.errors with broken := s.errors.broken.filter (fun o =>
      !(writableFields o.1).all (fun f => (writesOf es).contains (o.1, o.2.1, o.2.2, f))) } }

/-- Every entry of a commit takes effect at one round boundary (R61, R62, R66): the fields, the generations, what follows
from each object, the roles of the ports, and then `act`, the actions of the buffer. -/
def State.applyEntries (s : State) (es : List Entry) (act : State → State) : State :=
  let objects := touchedObjects es
  let s1 := objects.foldl (fun s o => s.bump o.1 o.2.1 o.2.2) (s.stored es)
  let s2 := (objects.foldl (fun x o => x.objectCommitted s es o) s1).repairObjects es
  let s3 := if objects.any (fun o => o.1 == clsVcs || o.1 == clsPbr || o.1 == clsVppb || o.1 == clsPort)
    then s2.rolesCommitted else s2
  (act s3).agentsCommitted

/-- The vectors a buffer raises become pending; one that is no longer allocated is counted as missed (R640). -/
def State.raiseStaged (s : State) (es : List Entry) : State :=
  es.foldl (fun s e => match e with | .raise n => s.raiseVector n none | _ => s) s

/-! ### The boundary checks (R62, R440) -/

/-- A staged TTENTRY lies in a bank that has taken over, or takes over at or before this boundary. -/
def State.lateEntry (s : State) (es : List Entry) : Bool :=
  (writesOf es).any (fun w => w.1 == clsTtEntry &&
    (w.2.2.1 / 256 == s.get .timetableActive w.2.1 ||
     (s.get .timetableArmed w.2.1 == 1 && s.get .timetableTakeover w.2.1 ≤ s.ftb)))

/-- The lowest port whose staged TAKEOVER, with NEXTCYCLE 0, is past. -/
def State.latePort (s : State) (es : List Entry) : Option Nat :=
  let n := s.stored es
  (List.range 128).find? (fun p =>
    (wrote es .timetableTakeover).contains p && n.get .timetableNextcycle p == 0 && n.get .timetableTakeover p < s.ftb)

/-- The status word with which the boundary refuses a commit, if it does. -/
def State.boundaryRefuses (s : State) (es : List Entry) : Option Nat :=
  if s.lateEntry es then some (Status.interlock.word 16)
  else (s.latePort es).map (fun p => Status.late.word p)

/-! ### The commit unit (R30, R62, R63, R68, R92) -/

/-- The ticks of a barrier hold: the longest that R68 allows for a buffer. -/
def holdTicks (es : List Entry) : Nat := 40 + 2 * es.length

/-- The hold of a commit (R68, R569): the Turntable counts its ticks, and no other hold starts in nine times as many after it.
While the Turntable stands still there is no barrier to hold (R30). -/
def State.holdRounds (s : State) (es : List Entry) : State :=
  if s.sw.running then
    ({ s with lev := { s.lev with nextHold := s.ftb + 10 * holdTicks es } } : State).count 84 0x071 {} (holdTicks es)
  else s

/-- The commit unit has served a core: the requests that still wait have lost once more (R63). -/
def State.served (s : State) (c : Nat) : State :=
  let others := s.lev.commitWait.filter (· != c)
  let s1 := others.foldl (fun s x => s.modCore x (fun k => { k with losses := k.losses + 1 })) s
  { s1 with lev := { s1.lev with commitWait := others } }

/-- Whether the commit unit turns to a core now: no commit waits for its boundary, and no other request has lost 8 times in a row
(R63). -/
def State.turnOf (s : State) (c : Nat) : Bool :=
  s.lev.granted.isNone &&
  (match s.lev.commitWait.find? (fun x => 8 ≤ (s.core x).losses) with | some x => x == c | none => true)

/-- Whether the spacing of holds lets one start now (R68). -/
def State.holdFree (s : State) : Bool := !s.sw.running || decide (s.lev.nextHold ≤ s.ftb)

/-- The generations of the objects that a buffer names, by the keys of the generation table (R62). -/
def State.recorded (s : State) (es : List Entry) : List (Nat × Nat) :=
  (es.filterMap Entry.object).map (fun o => (genKey o.1 o.2.1 o.2.2, s.generation o.1 o.2.1 o.2.2))

/-- A commit of an image's code waits for the commit unit; it keeps the generations it has recorded. -/
def State.waitTurn (s : State) (c : Nat) (gens : List (Nat × Nat)) (tries : Nat) : State :=
  let s1 := s.modCore c (fun k => { k with lib := { k.lib with waits := some gens, tries := tries } })
  if s1.lev.commitWait.contains c then s1 else { s1 with lev := { s1.lev with commitWait := s1.lev.commitWait ++ [c] } }

/-- What a commit of an image's code comes to: refused with a status, not yet served, or in effect. -/
inductive Attempt
  | refused (status : Nat) (s : State)
  | later (s : State)
  | passed (s : State)

/-- The state that an attempt at a commit leaves. -/
def Attempt.after : Attempt → State
  | .refused _ t => t
  | .later t => t
  | .passed t => t

/-- A commit of an image's code is refused: the Interlocking counts it, and the commit unit has served the core. -/
def State.turnedDown (s : State) (c : Nat) : State := (s.served c).commitRefused c

/-- A commit by the code of an image (R62, R63, R68, R92, R642): an empty one is done at once; else it waits for its turn and for
the spacing of holds, it tries again up to three times where an object it names has changed since it asked, and it is checked and
takes effect at one boundary. -/
def State.commitNow (s : State) (c : Nat) (es : List Entry) (act : State → State) : Attempt :=
  let k := s.core c
  if es.isEmpty then .passed s
  else if !(s.turnOf c && s.holdFree) then .later (s.waitTurn c (k.lib.waits.getD (s.recorded es)) k.lib.tries)
  else if (k.lib.waits.getD []).any (fun e => Tab.get 0 s.gen e.1 != e.2) then
    if 3 ≤ k.lib.tries then .refused Status.busy.word (s.turnedDown c)
    else .later ((s.turnedDown c).waitTurn c (s.recorded es) (k.lib.tries + 1))
  else match violated s (s.stored es) es with
    | some n => .refused (Status.interlock.word n) (s.turnedDown c)
    | none =>
      match s.boundaryRefuses es with
      | some w => .refused w (s.turnedDown c)
      | none =>
        let s1 := (s.served c).modCore c (fun k => { k with lib := { done := k.lib.done + 1 } })
        .passed (((s1.holdRounds es).applyEntries es act).raiseStaged es)

end Sys2Proof.Machine
end

