-- ==== Sys2Proof/Machine/LeverTables.lean ====
section
/-! DEFINITION. The table-access and system instructions of Lever, the commit unit, and the events of a core (R42, R48,
R54 to R76, R592, R640, R642). -/

namespace Sys2Proof.Machine

/-! ### Who submits (R42, R55, R56) -/

/-- PRIV of the submitter word. -/
def CoreState.priv (k : CoreState) : Nat := bitsOf k.submitter.toNat 0 2

/-- Tenant of the submitter word. -/
def CoreState.tenant (k : CoreState) : Nat := bitsOf k.submitter.toNat 16 12

/-- The OWNER of an object of a class that has one. -/
def State.ownerOf (s : State) (cls idx : Nat) : Option Nat :=
  if cls = clsRule then some (s.get .ruleOwner idx)
  else if cls = clsWindow then some (s.get .windowOwner idx)
  else if cls = clsEvent then some (s.get .eventOwner idx)
  else if cls = clsCounter then some (s.get .counterOwner idx)
  else none

/-- Whether an object lies in a submitter's scope (R55). -/
def State.inScope (s : State) (priv tenant cls idx : Nat) : Bool :=
  if priv = privTenant then
    match s.ownerOf cls idx with
    | some t => t == tenant
    | none => (cls == clsTenant || cls == clsTShaper || cls == clsGleaner) && idx == tenant
  else if priv = privBMC then cls != clsRule && cls != clsWindow
  else true

/-- Whether a submitter may stage a value in a field (R55, R56). -/
def State.mayStage (s : State) (priv tenant cls idx fid v : Nat) : Bool :=
  classWritable cls priv &&
  (if priv = privTenant && cls = clsTenant then
     fid == Fld.tenantState.info.id && idx == tenant && v == 2 && bitOf (s.get .tenantShPerm tenant) 7
   else true)

/-- Whether a submitter may stage an action on an object of a class (R55, R56, R642): ACT of TENANT is no field that R56 opens to a
tenant. -/
def mayAct (priv cls : Nat) : Bool := classWritable cls priv && !(priv == privTenant && cls == clsTenant)

/-- Whether a submitter may create an object for an owner (R58). -/
def ownerInScope (priv tenant owner : Nat) : Bool :=
  owner < 4096 && (if priv = privTenant then owner == tenant else true)

/-! ### Reading a field (R57, R58, R592) -/

/-- Whether an object is broken. -/
def State.isBroken (s : State) (cls idx sub : Nat) : Bool := s.errors.broken.contains (cls, idx, sub)

/-- A table entry is read: one that holds an uncorrectable error is found broken. -/
def State.touchObject (s : State) (cls idx sub : Nat) : State :=
  if s.errors.badObjects.contains (cls, idx, sub) then s.breakObject cls idx sub else s

/-- The value a field of an object reads as, or `none` where the class does not define it: a broken object reads zero. -/
def State.readField (s : State) (cls idx sub fid : Nat) : Option Nat :=
  if fid = 0 then some (cls * 2 ^ 32 + sub * 2 ^ 16 + idx)
  else if fid = 0xFF then some 0
  else (Fld.ofId cls fid).map (fun f => if s.isBroken cls idx sub then 0 else s.field f idx sub)

/-- The value a commit buffer holds for a field. -/
def stagedValue (es : List Entry) (cls idx sub fid : Nat) : Option Nat :=
  es.findSome? (fun e => match e with
    | .write c i b f v => if c = cls && i = idx && b = sub && f = fid then some v else none
    | _ => none)

/-- Replace the staged value of a field. -/
def restage (es : List Entry) (cls idx sub fid v : Nat) : List Entry :=
  es.map (fun e => match e with
    | .write c i b f w => if c = cls && i = idx && b = sub && f = fid then .write c i b f v else .write c i b f w
    | e => e)

/-! ### Table access (R58) -/

/-- OPEN (R58): fill a handle register. -/
def execOpenObj (c : Core) (o : TOp) (s : State) : Result :=
  let word := o.word 0x30
  .next (s.leverEncoded c word (o.flags = 0) (fun s =>
    let k := s.core c
    let cls := o.sel.toNat
    let idx := (k.reg o.rg).toNat
    let sub := (k.reg o.rx).toNat
    if (classIndexes cls).isNone then s.leverFault c .illegal word
    else if !s.objectInRange cls idx sub then s.leverFault c .range word
    else if classPool cls && !s.allocated cls idx then s.leverFault c .range word
    else if !s.inScope k.priv k.tenant cls idx then s.leverFault c .scope word
    else s.retire c (fun k => k.setHandle o.h ⟨true, cls, idx, sub, s.generation cls idx sub⟩)))

/-- LDF (R58): read a field, staged or present. -/
def execLdf (c : Core) (o : TOp) (s : State) : Result :=
  let word := o.word 0x31
  .next (s.leverEncoded c word (o.rx = 0 && o.flags.toNat / 2 = 0) (fun s =>
    let k := s.core c
    let h := k.handle o.h
    let fid := o.sel.toNat
    if !h.valid then s.leverFault c .handle word
    else
      let s1 := s.touchObject h.cls h.idx h.sub
      match s1.readField h.cls h.idx h.sub fid with
      | none => s1.leverFault c .illegal word
      | some v =>
        let staged := if o.flags = 0 then stagedValue k.buf h.cls h.idx h.sub fid else none
        s1.retire c (fun k => k.setReg o.rg (BitVec.ofNat 64 (staged.getD v)))))

/-- Stage one entry: FULL where the buffer holds 256. -/
def State.stage (s : State) (c : Nat) (word : BitVec 32) (e : Entry) (named : Option (Nat × Nat)) (f : CoreState → CoreState) :
    State :=
  if 256 ≤ (s.core c).buf.length then s.leverFault c .full word
  else s.retire c (fun k => f { k with buf := k.buf ++ [e], named := k.named ++ named.toList })

/-- STF (R56, R58, R642): stage a value in a field. An stf to ACT is an action entry, open to shared code alone, and checked for
the submitter's privilege as any other entry. -/
def execStf (c : Core) (o : TOp) (s : State) : Result :=
  let word := o.word 0x32
  .next (s.leverEncoded c word (o.rx = 0 && o.flags = 0) (fun s =>
    let k := s.core c
    let h := k.handle o.h
    let fid := o.sel.toNat
    let v := (k.reg o.rg).toNat
    let named := some (genKey h.cls h.idx h.sub, h.gen)
    if !h.valid then s.leverFault c .handle word
    else if fid = 0xFF then
      if 0x1000000 ≤ k.pc.toNat then
        (if !mayAct k.priv h.cls then s.leverFault c .scope word
         else if k.buf.any (fun e => match e with | .action a i b _ => a == h.cls && i == h.idx && b == h.sub | _ => false) then
          s.retire c (fun k => { k with buf := k.buf.map (fun e => match e with
            | .action a i b w => if a = h.cls && i = h.idx && b = h.sub then .action a i b v else .action a i b w
            | e => e) })
         else s.stage c word (.action h.cls h.idx h.sub v) named id)
      else s.leverFault c .field word
    else if fid = 0 then s.leverFault c .field word
    else match Fld.ofId h.cls fid with
      | none => s.leverFault c .illegal word
      | some f =>
        if !f.info.co then s.leverFault c .field word
        else if !s.mayStage k.priv k.tenant h.cls h.idx fid v then s.leverFault c .scope word
        else if !f.accepts h.idx v then s.leverFault c .range word
        else if (stagedValue k.buf h.cls h.idx h.sub fid).isSome then
          s.retire c (fun k => { k with buf := restage k.buf h.cls h.idx h.sub fid v })
        else s.stage c word (.write h.cls h.idx h.sub fid v) named id))

/-- The objects of a pool that are neither allocated nor reserved by an order. -/
def State.freeObjects (s : State) (cls : Nat) : List Nat :=
  let held := s.lev.cores.flatMap (fun e => (e.2.reserved.filter (fun r => r.1 == cls)).map (·.2))
  (List.range (poolSize cls)).filter (fun i => !s.allocated cls i && !held.contains i)

/-- The sheaf allowance of a tenant for a pool class. -/
def State.allowanceOf (s : State) (cls t : Nat) : Nat :=
  if cls = clsRule then s.get .tenantShRules t else if cls = clsEvent then s.get .tenantShEvents t else s.get .tenantShCounters t

/-- What a tenant owns of a pool class. -/
def State.ownedOf (s : State) (cls t : Nat) : Nat :=
  if cls = clsRule then (s.rulesOf t).length else if cls = clsEvent then (s.eventsOf t).length else (s.countersOf t).length

/-- The lowest free object of a pool for an owner, or none: T0 leaves every live tenant its sheaf (R58, R381). -/
def State.newObject (s : State) (cls owner : Nat) : Option Nat :=
  let free := s.freeObjects cls
  let owed := (s.liveTenants.map (fun t => s.allowanceOf cls t - s.ownedOf cls t)).sum
  if owner = 0 && free.length ≤ owed then none else free.head?

/-- NEW (R56, R58, R59, R381): reserve the lowest free object of a pool. -/
def execNewObj (c : Core) (o : TOp) (s : State) : Result :=
  let word := o.word 0x33
  .next (s.leverEncoded c word (o.flags = 0) (fun s =>
    let k := s.core c
    let cls := o.sel.toNat
    let owner := (k.reg o.rg).toNat
    if k.priv = privTenant && cls = clsTenant then s.leverFault c .scope word
    else if !classPool cls then s.leverFault c .illegal word
    else if !ownerInScope k.priv k.tenant owner || !classWritable cls k.priv then s.leverFault c .scope word
    else match s.newObject cls owner with
      | none => s.leverFault c .full word
      | some i =>
        let h : Handle := ⟨true, cls, i, 0, s.generation cls i 0⟩
        s.stage c word (.create cls i owner) (some (genKey cls i 0, h.gen)) (fun k =>
          ({ k with reserved := k.reserved ++ [(cls, i)] }.setHandle o.h h).setReg o.rx (BitVec.ofNat 64 i))))

/-- DEL (R56, R58): stage the deletion of a pool object. -/
def execDelObj (c : Core) (o : TOp) (s : State) : Result :=
  let word := o.word 0x34
  .next (s.leverEncoded c word (o.rg = 0 && o.rx = 0 && o.sel = 0 && o.flags = 0) (fun s =>
    let k := s.core c
    let h := k.handle o.h
    if !h.valid then s.leverFault c .handle word
    else if k.priv = privTenant && h.cls = clsTenant then s.leverFault c .scope word
    else if !classPool h.cls then s.leverFault c .illegal word
    else if !classWritable h.cls k.priv then s.leverFault c .scope word
    else s.stage c word (.delete h.cls h.idx) (some (genKey h.cls h.idx h.sub, h.gen)) (fun k =>
      k.setHandle o.h { h with valid := false })))

/-! ### The commit unit (R62 to R68) -/

/-- A commit of a program has ended: the status word is written, the buffer is clear, and the core goes on. -/
def State.commitEnds (s : State) (c rd status : Nat) : State :=
  (s.leaveCommit c).modCore c (fun k =>
    ({ k with mode := .running, buf := [], named := [], reserved := [], losses := 0 }.setReg (BitVec.ofNat 5 rd)
      (BitVec.ofNat 64 status)).next)

/-- COMMIT (R62): an empty buffer is done at once; else the core waits for the commit unit. -/
def execCommitBuf (c : Core) (o : SOp) (s : State) : Result :=
  .next (s.sys c o 0x0001 true false (fun s =>
    if (s.core c).buf.isEmpty then s.retire c (fun k => k.setReg o.rd 0)
    else
      let s1 := s.modCore c (fun k => { k with mode := .committing o.rd.toNat, losses := 0 })
      { s1 with lev := { s1.lev with commitWait := s1.lev.commitWait ++ [c.val] } }))

/-- Whether a recorded generation is still that of its object (R62). -/
def State.gensCurrent (s : State) (k : CoreState) : Bool :=
  k.named.all (fun e => Tab.get 0 s.gen e.1 == e.2) &&
  k.h.all (fun e => !e.2.valid || s.generation e.2.cls e.2.idx e.2.sub == e.2.gen)

/-- The action entries of a program leave the device's own record: their meaning belongs to the image (R642). -/
def State.imageActions (s : State) (es : List Entry) : State :=
  es.foldl (fun s e => match e with | .action a i b v => s.emit (.imageAction a i b v) | _ => s) s

/-- The valid handles of a core record the present generations (R62). -/
def State.refreshHandles (s : State) (c : Nat) : State :=
  s.modCore c (fun k => { k with h := k.h.map (fun e => (e.1, { e.2 with gen := s.generation e.2.cls e.2.idx e.2.sub })) })

/-- The buffer of a core takes effect at a boundary, or is refused there (R62, R66, R440, R640). -/
def State.commitBuffer (s : State) (c rd : Nat) : State :=
  let es := (s.core c).buf
  let s1 := s.holdRounds es
  match s1.boundaryRefuses es with
  | some w => (s1.commitRefused c).commitEnds c rd w
  | none => ((((s1.applyEntries es (fun x => x.imageActions es)).raiseStaged es).commitEnds c rd 0)).refreshHandles c

/-- COMMIT_UNIT_GRANT (R30, R62, R63): a waiting request is served: the generations, then the invariants; one that passes waits
for its round boundary, or takes effect at once while the Turntable stands still. A request that has lost 8 times in a row goes
first. -/
def execCommitUnitGrant (c : Core) (s : State) : Result :=
  .next (if s.lev.commitWait.contains c.val && s.turnOf c then
    match (s.core c).mode with
    | .committing rd =>
      let k := s.core c
      if !s.gensCurrent k then (s.turnedDown c).commitEnds c rd Status.busy.word
      else match violated s (s.stored k.buf) k.buf with
        | some n => (s.turnedDown c).commitEnds c rd (Status.interlock.word n)
        | none =>
          let s1 := s.served c
          if s.sw.running then { s1 with lev := { s1.lev with granted := some c } } else s1.commitBuffer c rd
    | _ => s
  else s)

/-- COMMIT_ROUND_BOUNDARY (R62, R66, R68): the commit that was granted takes effect, or is refused, at a round boundary no nearer
than the spacing of holds allows. Its hold is one step of the model, so a time limit reached within the hold is met before the
next instruction (R75). -/
def execCommitRoundBoundary (s : State) : Result :=
  .next (match s.lev.granted with
    | none => s
    | some c =>
      match (s.core c).mode with
      | .committing rd => if s.holdFree then s.commitBuffer c rd else s
      | _ => s)

/-! ### System instructions (R48, R54, R73, R84, R640) -/

/-- DONE (R48, R71): the order ends with OK; STAGED with a buffer that is not empty. A resident task has no order to end. -/
def execDoneOrder (c : Core) (o : SOp) (s : State) : Result :=
  .next (s.sys c o 0x0002 false false (fun s =>
    let k := s.core c
    if !k.buf.isEmpty then s.leverFault c .staged (o.word 0x0002)
    else if k.job.isNone then s.retire c id
    else s.endOrder c Status.ok.word k.replyData))

/-- FAIL (R73): the order ends with the status word of G[ra]. -/
def execFailOrder (c : Core) (o : SOp) (s : State) : Result :=
  .next (s.sys c o 0x0003 false true (fun s =>
    let k := s.core c
    if k.job.isNone then s.retire c (fun k => { k with buf := [], named := [], reserved := [] })
    else s.endOrder c (failStatus ((k.reg o.ra).toNat % 65536)) k.replyData))

/-- TIME (R48): rd = the FTB. -/
def execTimeNow (c : Core) (o : SOp) (s : State) : Result :=
  .next (s.sys c o 0x0004 true false (fun s => s.retire c (fun k => k.setReg o.rd (BitVec.ofNat 64 s.ftb))))

/-- ROUND (R48): rd = the Turntable's round count. -/
def execRoundCount (c : Core) (o : SOp) (s : State) : Result :=
  .next (s.sys c o 0x0005 true false (fun s => s.retire c (fun k => k.setReg o.rd (BitVec.ofNat 64 s.sw.rounds))))

/-- WHO (R42, R48): rd = the submitter word. -/
def execWho (c : Core) (o : SOp) (s : State) : Result :=
  .next (s.sys c o 0x0006 true false (fun s => s.retire c (fun k => k.setReg o.rd k.submitter)))

/-- RLEN (R48): set the reply length, at most 4,096. -/
def execRlen (c : Core) (o : SOp) (s : State) : Result :=
  .next (s.sys c o 0x0007 false true (fun s =>
    let n := ((s.core c).reg o.ra).toNat
    if 4096 < n then s.leverFault c .range (o.word 0x0007) else s.retire c (fun k => { k with replyLen := n })))

/-- RAISE (R58, R640): stage the raising of an event vector. -/
def execRaiseEvent (c : Core) (o : SOp) (s : State) : Result :=
  let word := o.word 0x0008
  .next (s.sys c o 0x0008 false true (fun s =>
    let k := s.core c
    let n := (k.reg o.ra).toNat
    if 8191 < n || !s.allocated clsEvent n then s.leverFault c .range word
    else if !s.inScope k.priv k.tenant clsEvent n then s.leverFault c .scope word
    else s.stage c word (.raise n) none id))

/-- WAIT (R48): wait until the FTB reaches G[ra]. -/
def execWaitUntil (c : Core) (o : SOp) (s : State) : Result :=
  .next (s.sys c o 0x0009 false true (fun s =>
    let t := ((s.core c).reg o.ra).toNat
    if t ≤ s.ftb then s.retire c id else s.modCore c (fun k => { k with mode := .waiting t })))

/-- WAIT_EXPIRY (R48): the FTB has reached the tick a core waits for. -/
def execWaitExpiry (c : Core) (s : State) : Result :=
  .next (match (s.core c).mode with
    | .waiting t => if t ≤ s.ftb then s.modCore c (fun k => { k with mode := .running }.next) else s
    | _ => s)

/-- FENCE (R48, R54): this model performs each access in its own step, so no earlier access is outstanding. -/
def execFence (c : Core) (o : SOp) (s : State) : Result := .next (s.sys c o 0x000A false false (fun s => s.retire c id))

/-- PET (R48, R76): restart the watchdog of a resident core. -/
def execPet (c : Core) (o : SOp) (s : State) : Result :=
  .next (s.sys c o 0x000B false false (fun s =>
    s.retire c (fun k => if k.resident then { k with petAt := s.ftb } else k)))

/-- BRK (R48, R71): BREAK, unless a debugger is attached, which then holds the core. -/
def execBrk (c : Core) (o : SOp) (s : State) : Result :=
  .next (s.sys c o 0x000C false false (fun s =>
    if s.lev.debugger then s.modCore c (fun k => { k with mode := .halted }) else s.leverFault c .brk (o.word 0x000C)))

/-- CORE (R48): rd = the number of this core. -/
def execCoreNumber (c : Core) (o : SOp) (s : State) : Result :=
  .next (s.sys c o 0x000D true false (fun s => s.retire c (fun k => k.setReg o.rd (BitVec.ofNat 64 c.val))))

/-- RESERVED_OPCODE (R46 to R48): a word whose opcode, fn or sysfn is not listed raises ILLEGAL. A word that an instruction has
is no event of this row, and changes nothing: the core executes it by that instruction's row. -/
def execReservedOpcode (c : Core) (w : BitVec 32) (s : State) : Result :=
  .next (if (decodeLever c w).isNone then s.leverRun c w (fun s => s.leverFault c .illegal w) else s)

/-! ### Events of a core (R74 to R76) -/

/-- LEVER_TIME_LIMIT (R74, R75): an order that has used its Lever time ends with TIME, whatever it waits for: a commit that has
been granted holds no barrier before its boundary. DESIGN CHOICE, log entry 133: for a library order, whose pc and word belong to
the image (R72), the model reports the entry address of the order and the word there. -/
def execLeverTimeLimit (c : Core) (s : State) : Result :=
  .next (
    let k := s.core c
    if k.spent then s.leverFault c .time (BitVec.ofNat 32 (s.leverRead c k.pc.toNat 4)) else s)

/-- RESIDENT_WATCHDOG (R76, R606): a resident core that has not executed pet within its period restarts its task; the
third expiry within 10 s leads to a Lever reset. DESIGN CHOICE, log entry 134: the watchdog of a halted core, which an activation,
an entry into a sleep state or a debugger holds, does not expire. -/
def execResidentWatchdog (c : Core) (s : State) : Result :=
  .next (
    let k := s.core c
    if k.resident && k.mode != .idle && k.mode != .halted && decide (k.petAt + s.boot.image.watchdogMs * 1000000 ≤ s.ftb) then
      let recent := k.expiries.filter (fun t => s.ftb < t + 10000000000) ++ [s.ftb]
      let s1 := (s.restartResident c).modCore c (fun k => { k with expiries := recent })
      if 3 ≤ recent.length then s1.askLeverReset else s1
    else s)

end Sys2Proof.Machine
end

