-- ==== Sys2Proof/Machine/Library.lean ====
section
/-! DEFINITION. How a library order runs: its core, its argument block, its refusals, its commits and its reply (R58, R67,
R84, R85, R92, R102, R642). Each row runs the order's code in the active image from its start, or from the commit that waits,
to its end or to a commit that must wait; a row given again goes on from there. -/

namespace Sys2Proof.Machine

/-! ### The run of an order -/

/-- A core runs the library order of an ID, if that is the order it has taken and its Lever time is not used up (R74); else
the row changes nothing. -/
def State.libRun (s : State) (c : Core) (id : Nat) (body : State → Order → State) : State :=
  match (s.core c).job with
  | some o => if (s.core c).mode = .running && o.library && o.libid == id && !(s.core c).spent then body s o else s
  | none => s

/-- Whether a commit of the order on a core has passed: its code is then past its checks (R65). -/
def State.libBegun (s : State) (c : Core) : Bool := 0 < (s.core c).lib.done

/-- An action entry on an object (R642): its value belongs to the image, and nothing reads it. -/
def actionOn (cls idx : Nat) : Entry := .action cls idx 0 0

/-- The order on a core ends without reply data. -/
def State.libEnds (s : State) (c : Core) (st : Status) : State := s.endOrder c st.word []

/-- The order on a core ends with OK and its reply data. -/
def State.libReply (s : State) (c : Core) (data : List Byte) : State := s.endOrder c Status.ok.word data

/-- The order's code stages its entries and actions and commits them; it ends with the commit's refusal, or with OK and
the reply that the state after the commit gives. Code that must wait stages its entries anew when its turn comes, and holds no
pool object meanwhile. -/
def State.libCommit (s : State) (c : Core) (es : List Entry) (act : State → State) (reply : State → List Byte) : State :=
  match s.commitNow c es act with
  | .refused w s' => s'.endOrder c w []
  | .later s' => s'.modCore c (fun k => { k with reserved := [] })
  | .passed s' => s'.endOrder c Status.ok.word (reply s')

/-- No action entry. -/
def noAction (s : State) : State := s

/-- No reply data. -/
def noReply (_ : State) : List Byte := []

/-- An order with an OP field: the row of one OP runs when the order carries that OP; an OP outside the encoding ends the
order with BADARG. -/
def State.libOp (s : State) (c : Core) (op mine : Nat) (legal : Nat → Bool) (body : State → State) : State :=
  if !legal op then s.libEnds c .badArg else if op = mine then body s else s

/-- The order's arguments meet its conditions, or it ends with BADARG; code past a commit does not check them again. -/
def State.libArgs (s : State) (c : Core) (ok : Bool) (body : State → State) : State :=
  if ok || s.libBegun c then body s else s.libEnds c .badArg

/-! ### Arguments and entries -/

/-- `n` bytes of an argument block from an offset, as a number; missing bytes read as zero (R85). -/
def Order.arg (o : Order) (off n : Nat) : Nat := fieldAt o.args off n

/-- Whether `n` bytes of an argument block from an offset are zero. -/
def Order.zero (o : Order) (off n : Nat) : Bool := zeroAt o.args off n

/-- The write of a field. -/
def putEntry (f : Fld) (idx sub v : Nat) : Entry := .write f.info.cls idx sub f.info.id v

/-- A list of entries if a condition holds. -/
def entriesIf (c : Bool) (es : List Entry) : List Entry := if c then es else []

/-- Fields staged under a WRITE mask (R104, R496, R497, R506): each with its bit and its value. -/
def maskedEntries (mask idx : Nat) (fields : List (Nat × Fld × Nat)) : List Entry :=
  (fields.filter (fun e => bitOf mask e.1)).map (fun e => putEntry e.2.1 idx 0 e.2.2)

/-- Whether every staged value lies in its field's encoding. -/
def maskedOk (mask idx : Nat) (fields : List (Nat × Fld × Nat)) : Bool :=
  fields.all (fun e => !bitOf mask e.1 || e.2.1.accepts idx e.2.2)

/-- Whether a vector is 0x2000 for none, or owned by T0. -/
def State.vectorOk (s : State) (v : Nat) : Bool := v == 0x2000 || s.ownsEvent 0 v

/-- Run commits one after another, each atomic on its own (R65), up to one that is refused or must wait. -/
def State.commitEach (s : State) (c : Nat) : List (List Entry) → Attempt
  | [] => .passed s
  | es :: rest =>
    match s.commitNow c es noAction with
    | .passed s' => s'.commitEach c rest
    | a => a

/-- The commits of an order, from the first that has not passed on (R65). -/
def State.commitAll (s : State) (c : Nat) (parts : List (List Entry)) : Attempt := s.commitEach c (parts.drop (s.core c).lib.done)

/-- The order's code raises a fault (R72): the pc and the word lie in the image's shared code, so both are free values. -/
def State.libFault (s : State) (c : Core) (f : LeverFault) : State :=
  let at_ := s.free
  let s1 := s.drawn
  ((s1.drawn).modCore c (fun k => { k with pc := BitVec.ofNat 64 (0x1000000 + 4 * (at_ % 0x100000)) })).leverFault c f
    (BitVec.ofNat 32 s1.free)

/-- Whether a submitter may write an object of a class that tenants write only for their own (R55). -/
def Order.owns (o : Order) (owner : Nat) : Bool := o.priv != privTenant || owner == o.tenant

end Sys2Proof.Machine
end

