-- ==== Sys2Proof/Machine/LinkEvents.lean ====
section
/-! DEFINITION. The events of links and lanes: up, down, flits of standard links, containment, vPPB power, remapping,
measurement, margining and eye scans (R105, R141, R150, R170, R177, R178, R191 to R197, R289, R306, R556 to R558, R595,
R598). An event whose condition the state does not meet changes nothing. -/

namespace Sys2Proof.Machine

/-- A standard link that is up moves to another link-up state (R179, R181, R191, R193, R196): L0p needs flit mode, two lanes and a
partner with L0p; L1.1 and L1.2 are entered from L1 with CLKREQ_N released, and a link leaves them once its station is ready. A
return to L0 from Recovery ends a training. -/
def State.moveUp (s : State) (p : Nat) (i : LinkInfo) : State :=
  let l := s.get .portLink p
  let caps := match (s.port p).info with | some x => x.pcaps.toNat | none => 0
  let wide := match (s.port p).info with | some x => decide (2 ≤ x.width) && !x.flit68 | none => false
  if !s.lit p then s
  else match i.state with
    | .recovery => s.put .portLink p 0 3
    | .l0 => if 5 ≤ l then s.put .portLink p 0 4 else if s.linkOk p i then s.linkUp p (s.settled p i) else s
    | .l0p => if l = 4 && bitOf caps 0 && bitOf caps 3 && wide then s.put .portLink p 0 5 else s
    | .l1 => if l = 4 || l = 5 then ((s.lanesOf p).foldl (fun s k => s.endScan k) s).put .portLink p 0 6 else s
    | .l1_1 => if l = 6 && bitOf caps 4 && !s.clkreqLow p then s.put .portLink p 0 7 else s
    | .l1_2 => if l = 6 && bitOf caps 5 && !s.clkreqLow p then s.put .portLink p 0 8 else s

/-- LINK_UP (R191): a PCIe or CXL port that was training reaches L0, or one that is link-up reaches another link-up state. -/
def execLinkUp (p : Port) (info : LinkInfo) (s : State) : Result :=
  let l := s.get .portLink p.val
  .next (if s.portOk p.val && s.get .portProto p.val != 2 then
    if linkUpValue l then s.moveUp p.val info
    else if s.restLink p.val == 1 && (l == 1 || l == 2 || l == 11) && info.state == .l0 && s.linkOk p.val info then
      s.linkUp p.val (s.settled p.val info)
    else s
  else s)

/-- AER correctable bits of PCI Express Base 7.0: a bad flit is a receiver error, a replay a replay timer timeout. -/
def aerReceiver : Nat := 1

/-- Replay Timer Timeout of the AER Correctable Error Status register. -/
def aerReplay : Nat := 2 ^ 12

/-- A correctable link error of a port, in the AER of the vPPBs bound to it, or of the USP function (R598). -/
def State.linkError (s : State) (p bit : Nat) : State :=
  match s.uspOf p with
  | some v => s.modVcs v (fun x => { x with uspCorrectable := x.uspCorrectable ||| bit })
  | none => (s.vppbsOfPort p).foldl (fun s e => s.modVppb e.1 e.2 (fun x => { x with correctable := x.correctable ||| bit })) s

/-- LINK_DOWN (R191, R192, R589, R595): the port goes down for a cause. -/
def execLinkDown (p : Port) (cause : DownCause) (s : State) : Result :=
  .next (if !s.portOk p.val then s else
    match cause with
    | .lost => if s.portUp p.val then s.dropLink p.val else s
    | .hotReset =>
      (s.modPort p.val (fun x => { x with hotResetUntil := s.ftb + 1 })).linkDownTo p.val 10
    | .disabled => s.linkDownTo p.val 11
    | .dpc v b =>
      if s.get .vppbPort v.val b.val == p.val && s.get .vppbKind v.val b.val != 0 && (s.vppb v.val b.val).dpcEnabled then
        s.containPort p.val 1 (fun c => { c with dpc := if c.dpc.contains (vppbKey v.val b.val) then c.dpc else c.dpc ++ [vppbKey v.val b.val] })
      else s
    | .replayError =>
      let s1 := s.contain { code := 0x0301, place := p.val, detail := [s.free] }
      if s.get .portProto p.val == 2 then s1.drawn.dropLink p.val
      else s1.drawn.containPort p.val 2 (fun c => { c with replay := some (s.ftb + 100000000) })
    | .protocolError => if s.get .portProto p.val == 2 then s.protocolError p.val else s.dropLink p.val
    | .security => (s.contain { code := 0x0305, place := p.val, detail := [s.free] }).drawn.linkDownTo p.val 15)

/-- PORT_FLUSH_DONE (R289): nothing for or from the port is left in its station or a siding. -/
def execPortFlushDone (p : Port) (s : State) : Result :=
  .next (if (s.port p.val).flushing && !s.portHeld p.val then s.modPort p.val (fun x => { x with flushing := false }) else s)

/-- REPLAY_CONTAINMENT_TIMEOUT (R595): 100 ms after entry the replay trigger is released. -/
def execReplayContainmentTimeout (p : Port) (s : State) : Result :=
  .next (match (s.port p.val).contained.replay with
    | some t => if t ≤ s.ftb then s.releasePort p.val (fun c => { c with replay := none }) else s
    | none => s)

/-- FLIT_RECEIVE (R87, R193, R197, R302, R459, R598): what a flit of a PCIe or CXL link brings to the link layer. -/
def execFlitReceive (p : Port) (ev : FlitEvent) (s : State) : Result :=
  .next (if s.portUp p.val && s.get .portProto p.val != 2 then
    match ev with
    | .good => s
    | .bad => (s.countPort p.val 0x017).linkError p.val aerReceiver
    | .replayed n => (s.countPort p.val 0x016 {} n).linkError p.val aerReplay
    | .retrainCollision => s.countPort p.val 0x018
    | .devLoad l =>
      (s.put .portDevload p.val 0 l.val).modPort p.val (fun x =>
        { x with dlCount := Tab.modify 0 x.dlCount l.val (fun n => saturate 16 (n + 1)) })
    | .mctpVdm _ =>
      if s.mgmtPort == some p.val then s else s.modSec (fun x => { x with discarded := x.discarded + 1 })
    | .acked n => s.modPort p.val (fun x => { x with unacked := x.unacked - n })
    | .lateCompletion tag => if (s.port p.val).opens.any (fun o => o.tag == tag) then s else s.countLost
    | .ldResponse ldid => if (s.vppbBelow p.val ldid.toNat).isSome then s else s.countLost
  else s)

/-- HOT_RESET_END (R105, R191): the hold ends and the port enters DETECT. -/
def execHotResetEnd (p : Port) (s : State) : Result :=
  let t := (s.port p.val).hotResetUntil
  .next (if t != 0 && decide (t ≤ s.ftb) then
    let s1 := s.modPort p.val (fun x => { x with hotResetUntil := 0 })
    if s.get .portLink p.val = 10 then s1.startDetect p.val else s1
  else s)

/-! ### Remapping (R141, R445) -/

/-- The ports a station holds under a BIFURC value. -/
def bifurcPorts (n b : Nat) : List Nat :=
  [2 * n, 2 * n + 1].filter (fun p => match b with | 0 => p % 2 == 0 | 1 => true | _ => p % 4 == 0)

/-- Every field of an object returns to its after-reset value, and its generation changes. -/
def State.clearObject (s : State) (cls idx sub : Nat) : State :=
  ({ s with obj := s.obj.filter (fun e => !(e.1 / 2 ^ 40 == cls && e.1 / 65536 % 65536 == idx && e.1 % 65536 == sub)) }).bump cls idx sub

/-- LANE_REMAP (R141, R445): the lanes are the new ports', and a port that becomes vacant or present starts from its
after-reset values. -/
def execLaneRemap (st : Station) (s : State) : Result :=
  .next (match (s.station st.val).remapFrom with
    | none => s
    | some old =>
      let now := bifurcPorts st.val (s.get .stationBifurc st.val)
      let was := bifurcPorts st.val old
      let changed := [2 * st.val, 2 * st.val + 1].filter (fun p => now.contains p != was.contains p)
      let s1 := s.modStation st.val (fun x => { x with remapFrom := none })
      changed.foldl (fun s p =>
        (({ s with ports := Tab.drop s.ports p }).clearObject clsPort p 0).clearTimetable p) s1)

/-! ### Measurement, margining and eye scans (R150, R151, R170, R177, R178) -/

/-- The lanes of a station that a finished measurement covers: those it was asked for (R150). -/
def State.measuredLanes (s : State) (n : Nat) : List Nat :=
  (List.range 8).filter (fun i => bitOf (s.station n).measuring i)

/-- Delay and reflection loss of each measured lane are recorded, and an adapted loss gives way to them; a port that waits in
Detect chooses its bands anew (R150, R151, R154, R155, R157). -/
def State.recordMeasurement (s : State) (n : Nat) (ls : List LaneReflection) : State :=
  let s1 := (s.measuredLanes n).foldl (fun s i => s.modLane (8 * n + i) (fun l =>
    match ls.getD i .noReflect with
    | .noReflect => { l with mstatus := 2, lossRefl := 0, delay := 0, lossAdapt := 0 }
    | .seen d x => { l with mstatus := 1, delay := saturate 16 d, lossRefl := saturate 16 x, lossAdapt := 0 })) s
  let s2 := (s.stationPorts n).foldl (fun s p => if s.get .portLink p == 1 then s.chooseBands p else s) s1
  (s2.modStation n (fun x => { x with measuring := 0 })).stationFigures n

/-- Whether a lane can be margined at the receiver: it carries a standard link in L0 or L0p at 16 GT/s or above (R178). -/
def State.canMargin (s : State) (k : Nat) : Bool :=
  (s.stationPorts (k / 8)).any (fun p => (s.lanesOf p).contains k && s.get .portProto p != 2 && (s.get .portLink p == 4 || s.get .portLink p == 5) &&
    (match (s.port p).info with | some i => decide (3 ≤ i.rate.val) | none => false)) && (s.lane k).logical != 0xFF

/-- LANE_MARGINING (R178): a running scan on the lane suspends. -/
def execLaneMargining (st : Station) (lane : LaneOf) (s : State) : Result :=
  let k := 8 * st.val + lane.val
  .next (if (s.lane k).margining || !s.canMargin k then s
    else s.modLane k (fun l => { l with margining := true, scan := l.scan.map (fun e => { e with suspends := e.suspends + 1 }) }))

/-- MARGINING_END (R178): a suspended scan resumes at its current point. -/
def execMarginingEnd (st : Station) (lane : LaneOf) (s : State) : Result :=
  .next (s.modLane (8 * st.val + lane.val) (fun l => { l with margining := false }))

/-- Floor of the base-2 logarithm, for numbers up to 2^64. -/
def log2 (n : Nat) : Nat := (List.range 65).foldl (fun a i => if 2 ^ i ≤ n then i else a) 0

/-- A byte of an eye scan grid (R177). -/
def gridByte (errors : Nat) : Byte := if errors = 0 then 0 else BitVec.ofNat 8 (1 + log2 errors)

/-- The result of an eye scan (R177): header and grid. -/
def EyeScan.result (e : EyeScan) (n lane rate now : Nat) (early : Bool) (errors : List Nat) : List Byte :=
  toLE 1 n ++ toLE 1 lane ++ toLE 1 e.eye ++ toLE 1 rate ++ toLE 1 e.dwell ++ toLE 1 (if early then 1 else 0) ++
  toLE 2 (saturate 16 e.suspends) ++ toLE 8 e.start ++ toLE 8 now ++ List.replicate 40 0 ++
  (List.range 2048).map (fun i => gridByte (errors.getD i 0))

/-- EYE_SCAN_END (R177): the result is written to T0 pool memory and EVENT is raised. A scan ends early where its lane has lost
lock or its port went link-down, at that tick, and otherwise complete; a suspended one goes on first. -/
def execEyeScanEnd (st : Station) (lane : LaneOf) (early : Bool) (errors : List Nat) (s : State) : Result :=
  let k := 8 * st.val + lane.val
  .next (match (s.lane k).scan with
    | none => s
    | some e =>
      if e.lost.isSome != early || ((s.lane k).margining && !early) then s
      else
        let s1 := s.modLane k (fun l => { l with scan := none })
        ({ s1 with pool := memPutBytes s1.pool e.addr (e.result st.val lane.val e.rate (e.lost.getD s.ftb) early errors) }).raiseVector e.event
          (some 0))

/-- PRBS_CHECKER_LOCK (R170). -/
def execPrbsCheckerLock (st : Station) (lane : LaneOf) (locks : Bool) (s : State) : Result :=
  let k := 8 * st.val + lane.val
  .next (if (s.lane k).test.active && (s.station st.val).sidingState == SidingState.awake then
    let s1 := (s.settleTest k).modLane k (fun l => { l with test := { l.test with lock := locks, lockedAt := s.ftb } })
    if locks then s1 else s1.endScan k
  else s)

/-! ### vPPB power and DPC (R306, R308, R595) -/

/-- POWER_CONTROLLER_OFF (R306, R308): ACTIVE or UNBIND_AT_DOWN moves to PRESENT; a managed removal is complete. -/
def execPowerControllerOff (v : Vcs) (b : VppbNo) (s : State) : Result :=
  let hp := s.get .vppbHp v.val b.val
  let s1 := s.modVppb v.val b.val (fun x => { x with powerOff := true })
  .next (if s.get .vppbKind v.val b.val = 0 then s1
    else if hp = 3 || hp = 6 then
      ((s1.setHp v.val b.val 2).modVppb v.val b.val (fun x => { x with linkActive := false, linkChanged := true })).emit
        (.hotPlug v.val b.val)
    else if hp = 4 then s1.unbindLater v.val b.val
    else s1)

/-- POWER_CONTROLLER_ON (R306): PRESENT moves to ACTIVE. -/
def execPowerControllerOn (v : Vcs) (b : VppbNo) (s : State) : Result :=
  let s1 := s.modVppb v.val b.val (fun x => { x with powerOff := false })
  .next (if s.get .vppbKind v.val b.val != 0 && s.get .vppbHp v.val b.val == 2 then
    ((s1.setHp v.val b.val 3).modVppb v.val b.val (fun x => { x with linkActive := true, linkChanged := true })).emit
      (.hotPlug v.val b.val)
  else s1)

/-- DPC_TRIGGER_CLEAR (R595): the host clears DPC Trigger Status; the port's DPC trigger is released when every vPPB that
triggered has cleared its own. -/
def execDpcTriggerClear (v : Vcs) (b : VppbNo) (s : State) : Result :=
  let s1 := s.modVppb v.val b.val (fun x => { x with dpcStatus := false, dpcReason := 0 })
  let p := s.get .vppbPort v.val b.val
  .next (if (s.port p).contained.dpc.contains (vppbKey v.val b.val) then
    s1.releasePort p (fun c => { c with dpc := c.dpc.filter (· != vppbKey v.val b.val) }) else s1)

/-! ### IDE of standard links (R556 to R558) -/

/-- The stream slot that a stream ID of a kind has, or a free one. -/
def PortState.slotFor (x : PortState) (kind : IdeKind) (id : Nat) : Option Nat :=
  match x.streams.find? (fun e => e.2.id == id && e.2.kind == kind && (e.2.secure || e.2.restore)) with
  | some e => some e.1
  | none => (List.range 8).find? (fun i => !(Tab.get ({} : IdeStream) x.streams i).secure)

/-- A stream of a port becomes secure, or its attempt fails. -/
def PortState.streamEnds (x : PortState) (kind : IdeKind) (id : Nat) (secure : Bool) : PortState :=
  match x.slotFor kind id with
  | some i => { x with streams := Tab.set x.streams i { id := id, kind := kind, keys := 0, secure := secure, restore := false } }
  | none => x

/-- Whether the link of a port carries CXL.cachemem (R557). -/
def PortState.cachemem (x : PortState) : Bool := match x.info with | some i => i.cxl | none => false

/-- Every stream of a port stops (R557). -/
def PortState.stopIde (x : PortState) : PortState := { x with streams := [], ideJob := none }

/-- Whether IDE can be established: in RETIRED it cannot (R563). -/
def State.ideOffered (s : State) : Bool := s.sec.lifecycle != 3

/-- IDE_KM_DONE (R557, R558, R563): an establishment or a refresh ends, for the link stream and, where the port carries CXL.cachemem, for
its IDE in containment mode; a stream re-established after a link-up raises no
event. -/
def execIdeKmDone (p : Port) (secure : Bool) (s : State) : Result :=
  let secure := secure && s.ideOffered
  .next (match (s.port p.val).ideJob with
    | none => s
    | some (op, id, ev) =>
      let s1 := s.modPort p.val (fun x =>
        let y : PortState := { x with ideJob := none }
        if op = 2 then
          { y with streams := y.streams.map (fun e =>
            (e.1, if e.2.secure then (if secure then { e.2 with keys := 1 - e.2.keys } else { e.2 with secure := false }) else e.2)) }
        else
          let z := y.streamEnds .link id secure
          if x.cachemem then z.streamEnds .cachememContainment id secure else z)
      let s2 := s1.modPort p.val (fun x =>
        match x.streams.find? (fun e => e.2.restore && !e.2.secure) with
        | some e => { x with ideJob := some (1, e.2.id, 0x2000) }
        | none => x)
      s2.raiseVector ev (some 0))

/-- INVOCATION_COUNTER_LIMIT (R558): the device, as requester, refreshes the stream's keys by itself. -/
def execInvocationCounterLimit (p : Port) (stream : Fin 8) (s : State) : Result :=
  .next (if (Tab.get ({} : IdeStream) (s.port p.val).streams stream.val).secure && (s.port p.val).role == .downstream &&
      (s.port p.val).ideJob.isNone then
    s.modPort p.val (fun x => { x with ideJob := some (2, (Tab.get ({} : IdeStream) x.streams stream.val).id, 0x2000) }) else s)

/-- IDE_KM_REQUEST (R556, R563): the device is responder on a USP; KEY_SET_GO makes a stream secure with the keys KEY_PROG gave,
KEY_SET_STOP stops it. -/
def execIdeKmRequest (v : Vcs) (stream : Fin 8) (msg : IdeKm) (s : State) : Result :=
  .next (match s.uspPort v.val with
    | none => s
    | some p =>
      if s.portUp p && (s.port p).role == .upstream then
        let x := Tab.get ({} : IdeStream) (s.port p).streams stream.val
        let put : IdeStream → State := fun y => s.modPort p (fun z => { z with streams := Tab.set z.streams stream.val y })
        match msg with
        | .query => s.emit (.ideMessage p 0)
        | .keyProg kind => (put { x with id := stream.val, kind := kind, keys := x.keys + 1 }).emit (.ideMessage p 1)
        | .keySetGo => (if 0 < x.keys && s.ideOffered then put { x with secure := true } else s).emit (.ideMessage p 2)
        | .keySetStop => (put { x with secure := false, keys := 0 }).emit (.ideMessage p 3)
      else s)

end Sys2Proof.Machine
end

