-- ==== Sys2Proof/Machine/LibFabric.lean ====
section
/-! DEFINITION. The library orders of ports, virtual switches, binding and the fabric (R104 to R107, R140, R295, R299 to
R303, R308, R310, R377, R421, R533). -/

namespace Sys2Proof

/-- Completion status as the reply of PPB_CFG codes it (R106). -/
def CplStatus.code : CplStatus → Nat
  | .success => 0
  | .unsupported => 1
  | .retry => 2
  | .abort => 4

end Sys2Proof

namespace Sys2Proof.Machine

/-! ### Ports (R104, R105, R140, R533) -/

/-- PORT_SET (R104, R533): the fields of a port under WRITE, in one commit. -/
def execPortSet (c : Core) (s : State) : Result :=
  .next (s.libRun c 0x0001 (fun s o =>
    let p := o.arg 0 1
    let m := o.arg 1 1
    let fields : List (Nat × Fld × Nat) :=
      [(0, .portProto, o.arg 2 1), (1, .portRateMax, o.arg 3 1), (2, .portSaf, o.arg 4 1), (3, .portDrop, o.arg 5 1),
       (4, .portEnable, o.arg 6 1)]
    let lockout := s.mgmtPort == some p && ((bitOf m 4 && o.arg 6 1 == 0) || (bitOf m 0 && o.arg 2 1 == 2))
    s.libArgs c (s.portOk p && m != 0 && m < 32 && o.zero 7 1 && maskedOk m p fields && !lockout) (fun s =>
      s.libCommit c (maskedEntries m p fields) noAction noReply)))

/-- BIFURCATE (R140, R533): one station, or both of an x16 pair; not so that the management port becomes vacant. -/
def execBifurcate (c : Core) (s : State) : Result :=
  .next (s.libRun c 0x0002 (fun s o =>
    let n := o.arg 0 1
    let b := o.arg 1 1
    let pair := b == 2 || s.get .stationBifurc n == 2
    let ns := if pair then [2 * (n / 2), 2 * (n / 2) + 1] else [n]
    let es := ns.map (fun i => putEntry .stationBifurc i 0 b)
    let kept := match s.mgmtPort with | some p => (s.stored es).portUsed p | none => true
    s.libArgs c (n < s.stationCount && b ≤ 2 && o.zero 2 6 && kept) (fun s => s.libCommit c es noAction noReply)))

/-- One option of PORT_CTL (R105, R642): its OP, its extra condition, and its action at the boundary. -/
def State.portCtl (s : State) (c : Core) (op : Nat) (ok : State → Nat → Bool) (act : Nat → State → State) : State :=
  s.libRun c 0x0003 (fun s o =>
    s.libOp c (o.arg 1 1) op (· ≤ 6) (fun s =>
      let p := o.arg 0 1
      let strapped := s.mgmtPort == some p && (op == 2 || op == 3 || op == 5)
      s.libArgs c (s.portOk p && o.zero 2 6 && !strapped && ok s p) (fun s => s.libCommit c [actionOn clsPort p] (act p) noReply)))

/-- A hold of PERST stands on a port, or ends; its slot's pin follows (R105, R463). -/
def State.holdPerst (s : State) (p : Nat) (hold : Bool) : State :=
  let s1 := s.modPort p (fun x => { x with perstHold := hold })
  match s1.slotOfPort p with
  | some n => s1.drivePerst n
  | none => s1

/-- PORT_CTL OP 0 (R105): assert PERST. -/
def execPortCtlAssertPerst (c : Core) (s : State) : Result :=
  .next (s.portCtl c 0 (fun s p => (s.slotOfPort p).isSome) (fun p s => s.holdPerst p true))

/-- PORT_CTL OP 1 (R105): release PERST. -/
def execPortCtlReleasePerst (c : Core) (s : State) : Result :=
  .next (s.portCtl c 1 (fun s p => (s.slotOfPort p).isSome) (fun p s => s.holdPerst p false))

/-- PORT_CTL OP 2 (R105): the port sends hot reset and holds LINK 10 for 2 ms, and the configuration state of its PPB is as after
reset. -/
def execPortCtlResetPpb (c : Core) (s : State) : Result :=
  .next (s.portCtl c 2 (fun s p => s.portUp p && (s.uspOf p).isNone && s.get .portProto p != 2) (fun p s =>
    ((s.linkDownTo p 10).modPort p (fun x => { x with hotResetUntil := s.ftb + 2000000, ppb := [] })).emit (.hotReset p)))

/-- PORT_CTL OP 3 (R105): disable the link. -/
def execPortCtlDisableLink (c : Core) (s : State) : Result :=
  .next (s.portCtl c 3 (fun _ _ => true) (fun p s =>
    (s.linkDownTo p 11).modPort p (fun x => { x with ctlDisabled := true, hotResetUntil := 0 })))

/-- PORT_CTL OP 4 (R105): leave LINK 11, and train if ENABLE is 1. -/
def execPortCtlEnableLink (c : Core) (s : State) : Result :=
  .next (s.portCtl c 4 (fun s p => s.get .portLink p == 11 && (s.port p).ctlDisabled) (fun p s =>
    (s.modPort p (fun x => { x with ctlDisabled := false })).startDetect p))

/-- PORT_CTL OP 5 (R105, R595): contain the port. -/
def execPortCtlContain (c : Core) (s : State) : Result :=
  .next (s.portCtl c 5 (fun _ _ => true) (fun p s => s.containPort p 3 (fun x => { x with ctl := true })))

/-- PORT_CTL OP 6 (R105, R595): release every trigger but that of the slot. -/
def execPortCtlReleaseContainment (c : Core) (s : State) : Result :=
  .next (s.portCtl c 6 (fun s p => s.get .portLink p == 12) (fun p s =>
    s.releasePort p (fun x => { x with ctl := false, dpc := [], replay := none })))

/-! ### PPB_CFG (R106) -/

/-- A core waits for an answer from outside, at most 900 µs (R106, R303). -/
def State.awaitOutside (s : State) (c : Core) : State := s.modCore c (fun k => { k with mode := .external (s.ftb + 900000) })

/-- One direction of PPB_CFG: the request goes to the device below the port, and the core waits. -/
def State.ppbCfg (s : State) (c : Core) (op : Nat) : State :=
  s.libRun c 0x0004 (fun s o =>
    s.libOp c (o.arg 1 1) op (· ≤ 1) (fun s =>
      let p := o.arg 0 1
      let reg := o.arg 2 2
      let be := o.arg 4 1
      let data := o.arg 8 4
      s.libArgs c (s.portOk p && s.portUp p && (s.port p).role == .downstream && s.get .portProto p != 2 && reg ≤ 4092 &&
          reg % 4 == 0 && 1 ≤ be && be ≤ 15 && o.zero 5 3 && (op == 1 || data == 0)) (fun s =>
        (s.emit (.configSent p (op == 1) reg be data)).awaitOutside c)))

/-- PPB_CFG with OP 0 (R106): a configuration read. -/
def execPpbCfgRead (c : Core) (s : State) : Result := .next (s.ppbCfg c 0)

/-- PPB_CFG with OP 1 (R106): a configuration write. -/
def execPpbCfgWrite (c : Core) (s : State) : Result := .next (s.ppbCfg c 1)

/-- Whether a core waits outside for an order of an ID, and until when. -/
def State.outsideFor (s : State) (c : Core) (id : Nat) : Option (Nat × Order) :=
  match (s.core c).mode, (s.core c).job with
  | .external t, some o => if o.library && o.libid == id then some (t, o) else none
  | _, _ => none

/-- PPB_CFG's completion (R106): its status, and the data of a read. DESIGN CHOICE, log entry 143: bytes 0 to 3 of the reply to a
read that did not complete successfully are zero. -/
def execPpbCfgCompletion (c : Core) (status : CplStatus) (data : BitVec 32) (s : State) : Result :=
  .next (match s.outsideFor c 0x0004 with
    | some (_, o) =>
      let d := if o.arg 1 1 = 0 && status = .success then data.toNat else 0
      s.libReply c (toLE 4 d ++ [BitVec.ofNat 8 status.code, 0, 0, 0])
    | none => s)

/-- PPB_CFG without a completion within 900 µs ends with ABORTED (R106). -/
def execPpbCfgTimeout (c : Core) (s : State) : Result :=
  .next (match s.outsideFor c 0x0004 with
    | some (t, _) => if t ≤ s.ftb then s.libEnds c .aborted else s
    | none => s)

/-! ### Virtual switches and routing (R295, R299, R533) -/

/-- VCS_SET (R2, R19, R295, R533): an absent or vacant USP is refused. -/
def execVcsSet (c : Core) (s : State) : Result :=
  .next (s.libRun c 0x0010 (fun s o =>
    let v := o.arg 0 1
    let usp := o.arg 1 1
    let en := o.arg 2 1
    let on := s.get .vcsEnable v == 1
    let bound := s.boundVppbs.any (fun e => e.1 == v)
    let taken := usp != 0xFF && (!(s.vppbsOfPort usp).isEmpty || s.get .portProto usp == 2)
    s.libArgs c (v < 128 && en ≤ 1 && o.zero 3 5 && !(on && usp != s.get .vcsUsp v) && !(en == 0 && bound) && !taken &&
        !(v == 0 && s.mgmtPort.isSome) && (usp == 0xFF || s.portOk usp)) (fun s =>
      s.libCommit c [putEntry .vcsUsp v 0 usp, putEntry .vcsEnable v 0 en] noAction noReply)))

/-- PBR_SET (R2, R19, R299): up to 128 entries in one commit. -/
def execPbrSet (c : Core) (s : State) : Result :=
  .next (s.libRun c 0x0013 (fun s o =>
    let n := o.arg 0 2
    let item := fun i => o.arg (8 + 8 * i) 8
    let ok := (List.range n).all (fun i =>
      bitsOf (item i) 12 4 == 0 && s.portOk (bitsOf (item i) 16 7) && bitsOf (item i) 23 8 == 0 && bitsOf (item i) 32 32 == 0)
    s.libArgs c (1 ≤ n && n ≤ 128 && o.zero 2 6 && ok) (fun s =>
      s.libCommit c ((List.range n).flatMap (fun i =>
        let d := bitsOf (item i) 0 12
        [putEntry .pbrPort d 0 (bitsOf (item i) 16 7), putEntry .pbrValid d 0 (bitsOf (item i) 31 1)])) noAction noReply)))

/-! ### Binding (R300 to R309) -/

/-- Whether BIND may bind what it names (R301). -/
def State.mayBind (s : State) (v b kind p ldid : Nat) : Bool :=
  let info := (s.port p).info
  s.get .vcsEnable v == 1 && s.get .vppbKind v b == 0 && (s.uspOf p).isNone && s.get .portProto p != 2 &&
  !(kind == 2 && s.get .portProto p != 1) &&
  (!s.portUp p || (match info with
    | some i => !i.gfd && (match i.mldDevices with
      | some n => kind == 2 && decide (ldid < n)
      | none => kind == 1)
    | none => true))

/-- BIND (R300, R301, R304): the binding is PENDING from the boundary, and goes on at once where it can. -/
def execBind (c : Core) (s : State) : Result :=
  .next (s.libRun c 0x0011 (fun s o =>
    let v := o.arg 0 1
    let b := o.arg 1 1
    let kind := o.arg 2 1
    let p := o.arg 3 1
    let ldid := o.arg 4 2
    let flags := o.arg 6 1
    s.libArgs c (v < 128 && (kind == 1 || kind == 2) && s.portOk p && (if kind == 1 then ldid == 0 else ldid ≤ 15) && flags ≤ 1 &&
        o.zero 7 1 && s.mayBind v b kind p ldid) (fun s =>
      let s1 := s.modVppb v b (fun x => { x with auto := flags == 1 })
      match s1.commitNow c [putEntry .vppbKind v b kind, putEntry .vppbPort v b p, putEntry .vppbLdid v b ldid] noAction with
      | .refused w s' => (s'.modVppb v b (fun x => { x with auto := (s.vppb v b).auto })).endOrder c w []
      | .later s' => s'.modVppb v b (fun x => { x with auto := (s.vppb v b).auto })
      | .passed s' => s'.endOrder c Status.ok.word [])))

/-- One option of UNBIND (R308). -/
def State.unbindBy (s : State) (c : Core) (mode : Nat) (act : Nat → Nat → State → State) : State :=
  s.libRun c 0x0012 (fun s o =>
    s.libOp c (o.arg 2 1) mode (· ≤ 2) (fun s =>
      let v := o.arg 0 1
      let b := o.arg 1 1
      s.libArgs c (v < 128 && o.zero 3 5 && s.get .vppbKind v b != 0) (fun s => s.libCommit c [.action clsVppb v b 0] (act v b) noReply)))

/-- UNBIND MODE 0 (R308): at once where the port is link-down or the binding is of a logical device, else when the port next
goes link-down. -/
def execUnbindWaitLinkDown (c : Core) (s : State) : Result :=
  .next (s.unbindBy c 0 (fun v b s =>
    if !s.portUp (s.get .vppbPort v b) || s.get .vppbKind v b == 2 then s.unbindNow v b else s.setHp v b 6))

/-- UNBIND MODE 1 (R308): a managed hot-remove is shown to the host. -/
def execUnbindManagedHotRemove (c : Core) (s : State) : Result :=
  .next (s.unbindBy c 1 (fun v b s =>
    ((s.setHp v b 4).modVppb v b (fun x => { x with attentionPressed := true, managedRemoval := true })).emit (.hotPlug v b)))

/-- UNBIND MODE 2 (R308): unbind at once. -/
def execUnbindSurpriseHotRemove (c : Core) (s : State) : Result := .next (s.unbindBy c 2 (fun v b s => s.unbindNow v b))

/-! ### Tunnels and AER (R107, R303) -/

/-- LD_TUNNEL (R303): the request goes to the MLD or the GFD, and the core waits. A port that is not link-up carries no
request, so the wait ends at its bound. -/
def execLdTunnel (c : Core) (s : State) : Result :=
  .next (s.libRun c 0x0014 (fun s o =>
    let p := o.arg 0 1
    let flags := o.arg 1 1
    s.libArgs c (s.portOk p && flags ≤ 1 && o.zero 4 4 && !(flags == 1 && 4096 ≤ o.arg 2 2)) (fun s =>
      (if s.portUp p then s.emit (.tunnel p (o.arg 2 2) (flags == 1) (o.args.drop 8)) else s).awaitOutside c)))

/-- The target's response to LD_TUNNEL is the reply (R303). -/
def execLdTunnelResponse (c : Core) (response : List Byte) (s : State) : Result :=
  .next (match s.outsideFor c 0x0014 with
    | some _ => s.libReply c (response.take 4096)
    | none => s)

/-- LD_TUNNEL without a response within 900 µs ends with ABORTED (R303). -/
def execLdTunnelTimeout (c : Core) (s : State) : Result :=
  .next (match s.outsideFor c 0x0014 with
    | some (t, _) => if t ≤ s.ftb then s.libEnds c .aborted else s
    | none => s)

/-- AER_GEN (R107): the status bit and the header log of the vPPB, and the message unless the bit is masked. -/
def execAerGen (c : Core) (s : State) : Result :=
  .next (s.libRun c 0x0015 (fun s o =>
    let v := o.arg 0 1
    let b := o.arg 1 1
    let e := o.arg 4 4
    let header := (o.args.drop 8).take 32
    let one := (List.range 32).any (fun i => e == 2 ^ i)
    s.libArgs c (v < 128 && o.zero 2 2 && one && s.get .vcsEnable v == 1) (fun s =>
      s.libCommit c [.action clsVppb v b 0] (fun s =>
        let x := s.vppb v b
        let s1 := s.modVppb v b (fun x => { x with
          aerStatus := x.aerStatus ||| e, aerHeader := header ++ List.replicate (32 - header.length) 0 })
        if x.aerMask &&& e != 0 then s1
        else match s1.uspPort v with
          | some _ => s1.emit (.aer v (x.aerSeverity &&& e != 0) e)
          | none => s1) noReply)))

/-! ### Mirrors, tenants of ports, class maps (R310, R377, R421) -/

/-- MIRROR_SET (R2, R19, R310): the index in byte 0, each field in the next byte. -/
def execMirrorSet (c : Core) (s : State) : Result :=
  .next (s.libRun c 0x0094 (fun s o =>
    let i := o.arg 0 1
    let fields : List (Fld × Nat) :=
      [(.mirrorSport, o.arg 1 1), (.mirrorDir, o.arg 2 1), (.mirrorDport, o.arg 3 1), (.mirrorTrunc, o.arg 4 1)]
    s.libArgs c (i < 16 && o.zero 5 3 && fields.all (fun e => e.1.accepts i e.2) && s.portOk (o.arg 1 1) && s.portOk (o.arg 3 1) &&
        (o.arg 2 1 == 0 || s.get .portProto (o.arg 3 1) == 2)) (fun s =>
      s.libCommit c (fields.map (fun e => putEntry e.1 i 0 e.2)) noAction noReply)))

/-- TENANT_MAP (R377): the tenant of a port or of a PBR ID. -/
def execTenantMap (c : Core) (s : State) : Result :=
  .next (s.libRun c 0x0099 (fun s o =>
    let kind := o.arg 0 1
    let target := o.arg 2 2
    let t := o.arg 4 2
    let inRange := if kind = 0 then s.portOk target else target < 4096
    s.libArgs c (kind ≤ 1 && o.zero 1 1 && o.zero 6 2 && inRange && (t == 0x1000 || (t < 4096 && s.get .tenantState t == 1))) (fun s =>
      s.libCommit c [putEntry (if kind = 0 then .portTenant else .pbrTenant) target 0 t] noAction noReply)))

/-- CLASS_SET (R421). -/
def execClassSet (c : Core) (s : State) : Result :=
  .next (s.libRun c 0x009C (fun s o =>
    let p := o.arg 0 1
    let cm := o.arg 2 3
    let mc := o.arg 5 2
    let req := bitsOf mc 0 3
    let snp := bitsOf mc 3 3
    let rsp := bitsOf mc 6 3
    s.libArgs c (s.portOk p && o.zero 1 1 && o.zero 7 1 && (List.range 8).all (fun i => bitsOf cm (3 * i) 3 < 6) && mc < 512 &&
        req < 6 && snp < 6 && rsp < 6 && req != snp && snp != rsp && req != rsp) (fun s =>
      s.libCommit c [putEntry .portClassmap p 0 cm, putEntry .portMemclass p 0 mc] noAction noReply)))

end Sys2Proof.Machine
end

