-- ==== Sys2Proof/Machine/LibTenant.lean ====
section
/-! DEFINITION. The library orders of tenants, rules, the Gleaner, the checkers, event vectors, counters and agents (R329,
R351, R365, R367, R382 to R385, R391 to R393, R398, R408, R409, R418, R577, R578), and the events of a tenant reset and of
the Gleaner (R405, R407, R410). -/

namespace Sys2Proof.Machine

/-! ### Creation and reset (R382, R383, R409, R410) -/

/-- TENANT_CREATE (R382, R383). -/
def execTenantCreate (c : Core) (s : State) : Result :=
  .next (s.libRun c 0x0020 (fun s o =>
    let t := o.arg 0 2
    let timeout := if o.arg 20 4 = 0 then 10000000 else o.arg 20 4
    let burst := if o.arg 28 4 = 0 then 65536 else o.arg 28 4
    let sheaf : List (Fld × Nat) :=
      [(.tenantShPerm, o.arg 2 2), (.tenantShRules, o.arg 4 4), (.tenantShQuota, o.arg 8 4), (.tenantShEvents, o.arg 12 2),
       (.tenantShCounters, o.arg 14 2), (.tenantShDirty, o.arg 16 4), (.tenantTimeout, timeout), (.tenantState, 1)]
    let shaper : List (Fld × Nat) := [(.tshaperRate, o.arg 24 4), (.tshaperBurst, burst)]
    s.libArgs c (1 ≤ t && t < 4096 && s.get .tenantState t == 0 && (sheaf ++ shaper).all (fun e => e.1.accepts t e.2) &&
        o.arg 4 4 ≤ 65536 && o.arg 12 2 ≤ 8192 && o.arg 14 2 ≤ 16384) (fun s =>
      s.libCommit c ((shaper ++ sheaf).map (fun e => putEntry e.1 t 0 e.2)) noAction noReply)))

/-- TENANT_RESET (R409): STATE 1 to 2; the device then runs the steps of R410. -/
def execTenantReset (c : Core) (s : State) : Result :=
  .next (s.libRun c 0x0021 (fun s o =>
    let t := o.arg 0 2
    let v := o.arg 2 2
    let own := o.priv == privTenant
    let st := s.get .tenantState t
    let vector := v == 0x2000 || s.ownsEvent t v || (!own && s.ownsEvent 0 v)
    if own && (t != o.tenant || !bitOf (s.get .tenantShPerm t) 7) then s.libEnds c .denied
    else if !(1 ≤ t && t < 4096 && st != 0 && o.zero 4 4 && vector) then s.libEnds c .badArg
    else if st = 2 then s.libEnds c .busy
    else s.libCommit c [putEntry .tenantState t 0 2] (fun s => s.modTenant t (fun x => { x with doneVector := v })) noReply))

/-- Whether a frame of the switch is a request or posted frame of a tenant (R410 step 3). -/
def Frame.requestOf (f : Frame) (t : Nat) : Bool := f.tenant == t && f.inp.kind.request && !f.copy

/-- Whether a non-posted request of a tenant is open: sent and unanswered, on its way, at a slice, or at the Junction
(R410 step 2). -/
def State.tenantBusy (s : State) (t : Nat) : Bool :=
  s.ports.any (fun e => e.2.opens.any (fun o => o.tenant == t)) ||
  s.sw.frames.any (fun e => e.2.requestOf t && e.2.inp.kind.nonPosted) ||
  s.coh.locks.any (fun e => (match e.2.work with | .request r => r.tenant == t | _ => false) || e.2.queue.any (fun r => r.tenant == t)) ||
  s.coh.reqBuffers.any (fun e => e.2.tenant == t) || s.coh.ring.any (fun x => x.tenant == t) ||
  s.junction.near.any (fun e => e.2.tenant == t) ||
  s.junction.bus.any (fun e => e.2.any (fun a => a.owner == t && !a.write))

/-- The requests still open at the timeout are answered as R395 answers their kind, and a completion that comes later is discarded
(R410 step 2). What holds a line lock or
a service bus ends by itself, under its own bound. -/
def State.answerTenant (s : State) (t : Nat) : State :=
  let opens := s.ports.flatMap (fun (e : Nat × PortState) => e.2.opens.filter (fun o => o.tenant == t))
  let s1 := { s with ports := s.ports.map (fun (e : Nat × PortState) => (e.1, { e.2 with opens := e.2.opens.filter (fun (o : OpenRequest) => o.tenant != t), closed := e.2.closed ++ e.2.opens.filter (fun (o : OpenRequest) => o.tenant == t) })) }
  let s2 := opens.foldl (fun s o => s.answerRefusal o.from_ o.tag o.kind) s1
  let queued := (s.sw.frames.filter (fun (e : Nat × Frame) => e.2.requestOf t && e.2.inp.kind.nonPosted)).map (·.2)
  let s3 := queued.foldl (fun s f => s.answerRefusal f.inp.port.val f.inp.tag f.inp.kind) s2
  let waiting := (s.coh.locks.flatMap (fun (e : Nat × Transaction) => (e.2.queue.filter (fun r => r.tenant == t)).map (fun r => (e.1, r)))) ++
    s.coh.reqBuffers.filter (fun e => e.2.tenant == t)
  let s4 := s3.modCoh (fun c =>
    { c with locks := c.locks.map (fun (e : Nat × Transaction) => (e.1, { e.2 with queue := e.2.queue.filter (fun r => r.tenant != t) })),
             ring := c.ring.filter (fun x => x.tenant != t)
             reqBuffers := c.reqBuffers.filter (fun e => e.2.tenant != t) })
  let s5 := waiting.foldl (fun s e => s.refuseRequest e.1 e.2) s4
  let s5 := (s.coh.ring.filter (fun x => x.tenant == t)).foldl (fun s x => s.answerRefusal x.port 0 (.memReq x.kind)) s5
  let near := s5.junction.near.filter (fun e => e.2.tenant == t)
  let s6 := s5.modJunction (fun j => { j with near := j.near.filter (fun e => e.2.tenant != t) })
  near.foldl (fun s e => s.emit (.answer e.2.host e.2.hostTag ansUR false)) s6

/-- The tenant's queued request and posted frames are discarded (R290, R410 steps 3 and 4): one that is not started at once, one of
which wagons lie in a siding with ABORT at its output, and its answer has been given; a frame whose sending has begun completes. -/
def State.discardTenant (s : State) (t : Nat) : State :=
  let mine := s.sw.frames.filter (fun e => e.2.requestOf t && (s.port e.2.dport).sending != some e.1)
  let s1 := mine.foldl (fun s e =>
    if s.notStarted e.1 e.2 then s.removeFrame e.1 else s.modFrame e.1 (fun f => { f with abort := true, answered := true })) s
  (s1.modSw (fun w => { w with quotaHold := w.quotaHold.filter (· != t) })).modTenant t (fun x => { x with reset := .wagons })

/-- TENANT_RESET_REQUESTS_DONE (R410 steps 2 to 4): every non-posted request of the tenant has its answer. -/
def execTenantResetRequestsDone (t : TenantId) (s : State) : Result :=
  .next (if (s.tenant t).reset = .requests && !s.tenantBusy t then s.discardTenant t else s)

/-- TENANT_RESET_TIMEOUT (R410 steps 2 to 4): the device answers the requests that are still open. -/
def execTenantResetTimeout (t : TenantId) (s : State) : Result :=
  .next (if (s.tenant t).reset = .requests && decide ((s.tenant t).resetAt ≤ s.ftb) then (s.answerTenant t).discardTenant t else s)

/-- TENANT_RESET_DONE (R410 steps 5 to 8): the shaper is emptied at the next round boundary, the Gleaner flushed, the vectors'
PENDING cleared, STATE returns to 1 and the done vector is raised. With the Turntable standing still no boundary is to come, and
the shaper is empty at once (R30). -/
def execTenantResetDone (t : TenantId) (s : State) : Result :=
  .next (if (s.tenant t).reset = .wagons && !s.sw.frames.any (fun e => e.2.requestOf t && e.2.answered) then
    let s1 := s.modTenant t (fun x => { x with emptying := true })
    let s1 := if s.sw.running then s1 else s1.emptyShapers
    let s2 := (s1.flushAllRecords t).modTenant t (fun x => { x with bitmap := [] })
    let s3 := (s2.eventsOf t).foldl (fun s n => s.devicePut .eventPending n 0 0) s2
    let s4 := (s3.devicePut .tenantState t 0 1).modWindow t (fun w => { w with resets := saturate 32 (w.resets + 1) })
    (s4.modTenant t (fun x => { x with reset := .none })).raiseVector (s.tenant t).doneVector none
  else s)

/-! ### Destruction (R384, R385) -/

/-- The pool objects a tenant owns: class and index. -/
def State.poolOf (s : State) (t : Nat) : List (Nat × Nat) :=
  (s.rulesOf t).map (fun i => (clsRule, i)) ++ (s.eventsOf t).map (fun i => (clsEvent, i)) ++
    (s.countersOf t).map (fun i => (clsCounter, i))

/-- The windows of a tenant that are still open (R384). -/
def State.openWindows (s : State) (t : Nat) : List Nat :=
  (s.listedIdx .windowOwner ++ s.listedIdx .windowKind).eraseDups.filter (fun w => s.get .windowOwner w == t && s.get .windowKind w != 0)

/-- One commit of TENANT_DESTROY, of at most 255 entries, from all that is left to do; the one that leaves nothing owned also sets
STATE to 0. -/
def destroyCut (t : Nat) (all : List Entry) : List Entry :=
  if all.length < 255 then all ++ [putEntry .tenantState t 0 0] else all.take (min 255 (all.length - 1))

/-- A later commit of TENANT_DESTROY: a window for which the first commit had no room, then the objects of the pools. -/
def State.destroyBatch (s : State) (t : Nat) : List Entry :=
  destroyCut t ((s.openWindows t).map (fun w => putEntry .windowKind w 0 0) ++ (s.poolOf t).map (fun e => Entry.delete e.1 e.2))

/-- The later commits of one call, at most so many; the order ends with the number of objects the tenant still owns. -/
def State.destroyMore (s : State) (c : Core) (t : Nat) : Nat → State
  | 0 => s.libReply c (toLE 4 (s.poolOf t).length)
  | k + 1 =>
    if s.get .tenantState t = 0 then s.libReply c (toLE 4 0)
    else match s.commitNow c (s.destroyBatch t) noAction with
      | .refused w s' => s'.endOrder c w []
      | .later s' => s'
      | .passed s' => s'.destroyMore c t k

/-- The first commit of TENANT_DESTROY: the Gleaner stops and the tenant's windows close; with nothing else owned it also ends
the tenant. -/
def State.destroyFirst (s : State) (t : Nat) : List Entry :=
  let head := putEntry .gleanerEnable t 0 0 :: (s.openWindows t).map (fun w => putEntry .windowKind w 0 0)
  if (s.poolOf t).isEmpty then destroyCut t head else head.take 255

/-- TENANT_DESTROY (R384, R385): at most 32 commits a call; the reply is the number of objects left. -/
def execTenantDestroy (c : Core) (s : State) : Result :=
  .next (s.libRun c 0x0022 (fun s o =>
    let t := o.arg 0 2
    let st := s.get .tenantState t
    let mapped := (s.listedIdx .portTenant).any (fun p => s.get .portTenant p == t) ||
      (s.listedIdx .pbrTenant).any (fun d => s.get .pbrTenant d == t)
    if s.libBegun c then s.destroyMore c t (32 - (s.core c).lib.done)
    else if !(1 ≤ t && t < 4096 && o.zero 2 6) then s.libEnds c .badArg
    else if st = 2 then s.libEnds c .busy
    else if st = 0 then s.libReply c (toLE 4 0)
    else if s.trackedOf t != 0 || mapped then s.libEnds c .badArg
    else match s.commitNow c (s.destroyFirst t) noAction with
      | .refused w s' => s'.endOrder c w []
      | .later s' => s'
      | .passed s' => s'.destroyMore c t 31))

/-! ### Rules (R391 to R393) -/

/-- Reserve the next free object of a pool for an owner. -/
def State.reserve (s : State) (c cls owner : Nat) : Option (State × Nat) :=
  (s.newObject cls owner).map (fun i => (s.modCore c (fun k => { k with reserved := k.reserved ++ [(cls, i)] }), i))

/-- Reserve `n` objects in a row: none where the pool is empty (R58 FULL). -/
def State.reserveMany (s : State) (c cls owner : Nat) : Nat → List Nat → Option (State × List Nat)
  | 0, l => some (s, l)
  | n + 1, l =>
    match s.reserve c cls owner with
    | none => none
    | some (s', i) => s'.reserveMany c cls owner n (l ++ [i])

/-- One item of RULE_STAGE. -/
structure RuleItem where
  op : Nat
  attr : Nat
  rule : Nat
  first : Nat
  last : Nat
  clean : Bool

/-- The items of a RULE_STAGE block. -/
def ruleItems (o : Order) (n : Nat) : List RuleItem :=
  (List.range n).map (fun i =>
    let b := 8 + 24 * i
    { op := o.arg b 1, attr := o.arg (b + 1) 1, rule := o.arg (b + 4) 4, first := o.arg (b + 8) 8, last := o.arg (b + 16) 8,
      clean := o.zero (b + 2) 2 })

/-- Whether an item of RULE_STAGE is within its encoding, and within the owner's SH_PERM (R380, R391). -/
def State.ruleItemOk (s : State) (t bank : Nat) (x : RuleItem) : Bool :=
  let perm := bitsOf x.attr 0 4
  let cache := bitsOf x.attr 5 2
  let mask := bitsOf (s.get .tenantShPerm t) 2 4
  let mine := x.rule < 65536 && s.allocated clsRule x.rule && s.get .ruleOwner x.rule == t && s.get .ruleBank x.rule == bank
  x.clean && x.op ≤ 2 && x.attr < 128 && cache ≤ 2 && (if x.op = 0 then x.rule == 0 else mine) &&
  (x.op == 2 || (Fld.ruleStart.accepts 0 x.first && Fld.ruleEnd.accepts 0 x.last &&
    (t == 0 || ((perm &&& mask == perm) && (cache != 2 || bitOf (s.get .tenantShPerm t) 6)))))

/-- The entries of a rule's attributes. -/
def ruleEntries (i bank : Nat) (x : RuleItem) : List Entry :=
  [putEntry .ruleBank i 0 bank, putEntry .ruleStart i 0 x.first, putEntry .ruleEnd i 0 x.last,
   putEntry .rulePerm i 0 (bitsOf x.attr 0 4), putEntry .ruleCache i 0 (bitsOf x.attr 5 2),
   putEntry .ruleOrder i 0 (bitsOf x.attr 4 1)]

/-- The entries of the items in order; the creates take the reserved indexes in order. -/
def stageRules (t bank : Nat) : List RuleItem → List Nat → List Entry
  | [], _ => []
  | x :: rest, l =>
    if x.op = 0 then
      match l with
      | i :: l' => Entry.create clsRule i t :: ruleEntries i bank x ++ [putEntry .ruleValid i 0 1] ++ stageRules t bank rest l'
      | [] => stageRules t bank rest []
    else if x.op = 1 then (ruleEntries x.rule bank x).drop 1 ++ stageRules t bank rest l
    else Entry.delete clsRule x.rule :: stageRules t bank rest l

/-- RULE_STAGE (R391, R392): create, change and delete rules of a bank, in one commit. -/
def execRuleStage (c : Core) (s : State) : Result :=
  .next (s.libRun c 0x0023 (fun s o =>
    let t := o.arg 0 2
    let bank := o.arg 2 1
    let n := o.arg 3 1
    let items := ruleItems o n
    s.libArgs c (t < 4096 && bank ≤ 1 && 1 ≤ n && n ≤ 32 && o.zero 4 4 && items.all (s.ruleItemOk t bank)) (fun s =>
      match s.reserveMany c clsRule t (items.filter (fun x => x.op == 0)).length [] with
      | none => s.libFault c .full
      | some (s1, l) => s1.libCommit c (stageRules t bank items l) noAction (fun _ => l.flatMap (toLE 4)))))

/-- BANK_SWAP (R393). -/
def execBankSwap (c : Core) (s : State) : Result :=
  .next (s.libRun c 0x0024 (fun s o =>
    let t := o.arg 0 2
    s.libArgs c (t < 4096 && o.arg 2 1 ≤ 1 && o.zero 3 5) (fun s =>
      s.libCommit c [putEntry .tenantBank t 0 (o.arg 2 1)] noAction noReply)))

/-! ### The Gleaner (R405 to R408) -/

/-- One OP of GLEANER_SET: its conditions and what it commits. -/
def State.gleanerSet (s : State) (c : Core) (op : Nat) (ok : State → Order → Nat → Bool) (es : Order → Nat → List Entry)
    (act : Nat → State → State) : State :=
  s.libRun c 0x0025 (fun s o =>
    s.libOp c (o.arg 2 1) op (· ≤ 3) (fun s =>
      let t := o.arg 0 2
      s.libArgs c (t < 4096 && o.zero 22 2 && ok s o t) (fun s => s.libCommit c (es o t) (act t) noReply)))

/-- Whether a rule of T0 with write permission covers a range (R408). -/
def State.t0Covers (s : State) (first last : Nat) : Bool :=
  (s.rulesOf 0).any (fun i => s.get .ruleValid i == 1 && s.get .ruleBank i == s.get .tenantBank 0 && bitOf (s.get .rulePerm i) 1 &&
    s.get .ruleStart i ≤ first && last ≤ s.get .ruleEnd i + 63)

/-- GLEANER_SET OP 0 (R408): stop logging. -/
def execGleanerStop (c : Core) (s : State) : Result :=
  .next (s.gleanerSet c 0 (fun _ _ _ => true) (fun _ t => [putEntry .gleanerEnable t 0 0]) (fun _ s => s))

/-- GLEANER_SET OP 1 (R408): start logging. -/
def execGleanerStart (c : Core) (s : State) : Result :=
  .next (s.gleanerSet c 1
    (fun s o t =>
      let n := o.arg 4 4
      let base := o.arg 8 8
      s.get .gleanerEnable t == 0 && o.arg 3 1 ≤ 1 && (List.range 26).any (fun k => n == 2 ^ (k + 6)) && n ≤ s.get .tenantShDirty t &&
      base % 64 == 0 && base + 8 * n ≤ 2 ^ 57 && s.t0Covers base (base + 8 * n - 1) && s.vectorOk (o.arg 20 2))
    (fun o t => [putEntry .gleanerEnable t 0 1, putEntry .gleanerGran t 0 (o.arg 3 1), putEntry .gleanerRingBase t 0 (o.arg 8 8),
      putEntry .gleanerRingRecs t 0 (o.arg 4 4), putEntry .gleanerEvent t 0 (o.arg 20 2)])
    (fun _ s => s))

/-- GLEANER_SET OP 2 (R406 to R408): a new pass, which ends the assume-all-dirty epoch. -/
def execGleanerNewPass (c : Core) (s : State) : Result :=
  .next (s.gleanerSet c 2
    (fun s _ t => s.get .gleanerEnable t == 1 &&
      (s.get .gleanerAlldirty t == 0 || decide (s.gleanerFill t < s.get .gleanerRingRecs t)))
    (fun _ t => [actionOn clsGleaner t])
    (fun t s => (s.put .gleanerAlldirty t 0 0).beginPass t (s.get .gleanerPass t + 1)))

/-- GLEANER_SET OP 3 (R408): the agent has consumed records up to TAIL. -/
def execGleanerSetTail (c : Core) (s : State) : Result :=
  .next (s.gleanerSet c 3
    (fun s o t => s.get .gleanerEnable t == 1 &&
      decide ((o.arg 16 4 + 2 ^ 32 - s.get .gleanerTail t) % 2 ^ 32 ≤ s.gleanerFill t))
    (fun o t => [putEntry .gleanerTail t 0 (o.arg 16 4)]) (fun _ s => s))

/-- Whether the switch holds a write of a tenant that was checked before its pass began (R407). -/
def State.passOpen (s : State) (t : Nat) : Bool :=
  s.sw.frames.any (fun e => decide (e.1 < (s.tenant t).passFrom) && e.2.tenant == t && e.2.inp.kind.marks && !e.2.copy)

/-- GLEANER_PASS_FINAL (R407): every write checked before the pass began has been accepted; one still in the switch has not. -/
def execGleanerPassFinal (t : TenantId) (s : State) : Result :=
  .next (if (s.tenant t).passAt.isSome && !s.passOpen t then
    (s.modTenant t (fun x => { x with passAt := none })).raiseT0 .gleanerEvent t.val else s)

/-- GLEANER_PASS_TIMEOUT (R407): the writes took longer than TENANT.TIMEOUT, so ALLDIRTY becomes 1 instead. -/
def execGleanerPassTimeout (t : TenantId) (s : State) : Result :=
  .next (match (s.tenant t).passAt with
    | some at_ => if at_ ≤ s.ftb then (s.put .gleanerAlldirty t 0 1).modTenant t (fun x => { x with passAt := none }) else s
    | none => s)

/-- GLEANER_RECORD_WRITE (R405): the records of one line are written to the ring. -/
def execGleanerRecordWrite (t : TenantId) (s : State) : Result :=
  .next (if (s.tenant t).pendingRecords.isEmpty then s else s.writeRecords t)

/-! ### Checkers (R398) -/

/-- CHECKER_CLEAR (R398): re-arm the captures of the selected stations; the reply is their LATER values. -/
def execCheckerClear (c : Core) (s : State) : Result :=
  .next (s.libRun c 0x009A (fun s o =>
    let ns := (List.range s.stationCount).filter (fun n => bitOf (o.arg 0 8) n)
    let later := ns.flatMap (fun n => toLE 8 (s.get .checkerLater n))
    s.libCommit c (ns.flatMap (fun n => [putEntry .checkerCapValid n 0 0, putEntry .checkerOvf n 0 0])) noAction (fun _ => later)))

/-! ### Event vectors (R418) -/

/-- One OP of EVENT_SET on allocated vectors. -/
def State.eventSet (s : State) (c : Core) (op : Nat) (e : Nat → Entry) : State :=
  s.libRun c 0x0060 (fun s o =>
    s.libOp c (o.arg 0 1) op (· ≤ 4) (fun s =>
      let n := o.arg 1 1
      let vs := (List.range n).map (fun i => o.arg (8 + 2 * i) 2)
      s.libArgs c (1 ≤ n && n ≤ 64 && o.zero 4 4) (fun s =>
        if !vs.all (fun v => v < 8192 && s.allocated clsEvent v) then s.libFault c .range
        else if !vs.all (fun v => o.owns (s.get .eventOwner v)) then s.libEnds c .denied
        else s.libCommit c (vs.map e) noAction noReply)))

/-- EVENT_SET OP 0 (R418): allocate vectors; the reply is their numbers. -/
def execEventAllocate (c : Core) (s : State) : Result :=
  .next (s.libRun c 0x0060 (fun s o =>
    s.libOp c (o.arg 0 1) 0 (· ≤ 4) (fun s =>
      let n := o.arg 1 1
      let t := o.arg 2 2
      s.libArgs c (1 ≤ n && n ≤ 64 && o.zero 4 4 && t < 4096) (fun s =>
        if !o.owns t then s.libEnds c .denied
        else match s.reserveMany c clsEvent t n [] with
          | none => s.libFault c .full
          | some (s1, l) => s1.libCommit c (l.map (fun i => Entry.create clsEvent i t)) noAction (fun _ => l.flatMap (toLE 2))))))

/-- EVENT_SET OP 1 (R418): enable. -/
def execEventEnable (c : Core) (s : State) : Result := .next (s.eventSet c 1 (fun v => putEntry .eventEnable v 0 1))

/-- EVENT_SET OP 2 (R418): disable. -/
def execEventDisable (c : Core) (s : State) : Result := .next (s.eventSet c 2 (fun v => putEntry .eventEnable v 0 0))

/-- EVENT_SET OP 3 (R418): clear PENDING. -/
def execEventClearPending (c : Core) (s : State) : Result := .next (s.eventSet c 3 (fun v => putEntry .eventPending v 0 0))

/-- EVENT_SET OP 4 (R418): free; a pending vector is cleared with it. -/
def execEventFree (c : Core) (s : State) : Result := .next (s.eventSet c 4 (fun v => Entry.delete clsEvent v))

/-! ### Counters (R577) -/

/-- The entries that program a filtered counter, or `none` where a value is outside its encoding. -/
def programEntries (idx sub : Nat) (fields : List (Fld × Nat)) : Option (List Entry) :=
  if fields.all (fun e => e.1.accepts idx e.2) then some (fields.map (fun e => putEntry e.1 idx sub e.2)) else none

/-- One item of COUNTER_SET OP 1: SELECT, the filters given or at their after-reset values, OVF_EV and ZERO. -/
def counterProgram (o : Order) (b : Nat) : Option (List Entry) :=
  let use := o.arg (b + 4) 1 == 1
  let pick : Fld → Nat → Nat := fun f v => if use then v else f.info.reset
  if 2 ≤ o.arg (b + 4) 1 then none
  else programEntries (o.arg b 2) 0
    [(.counterSelect, o.arg (b + 2) 2), (.counterFpriv, pick .counterFpriv (o.arg (b + 5) 1)),
     (.counterFclass, pick .counterFclass (o.arg (b + 6) 2)), (.counterFreqid, pick .counterFreqid (o.arg (b + 8) 2)),
     (.counterFreqmask, pick .counterFreqmask (o.arg (b + 10) 2)), (.counterFaddrLo, pick .counterFaddrLo (o.arg (b + 16) 8)),
     (.counterFaddrHi, pick .counterFaddrHi (o.arg (b + 24) 8)), (.counterOvfEv, o.arg (b + 12) 2), (.counterZero, 1)]

/-- A block of programmed items in one commit, or in two where it holds more than `k` of them (R577, R578): the first stays
where the second is refused, and the reply then counts the items applied. -/
def State.programAll (s : State) (c : Core) (items : List (List Entry)) (k : Nat) : State :=
  let parts := if items.length ≤ k then [items.flatten] else [(items.take k).flatten, (items.drop k).flatten]
  match s.commitAll c parts with
  | .passed s' => s'.endOrder c Status.ok.word []
  | .later s' => s'
  | .refused w s' => s'.endOrder c w (if s'.libBegun c then toLE 2 k else [])

/-- COUNTER_SET on allocated counters: the checks, then the body with the item offsets. -/
def State.counterSet (s : State) (c : Core) (op : Nat) (body : State → Order → List Nat → State) : State :=
  s.libRun c 0x0061 (fun s o =>
    s.libOp c (o.arg 0 1) op (· ≤ 5) (fun s =>
      let n := o.arg 1 1
      let bs := (List.range n).map (fun i => 8 + 40 * i)
      s.libArgs c (1 ≤ n && n ≤ 32 && o.zero 4 4 && bs.all (fun b => o.zero (b + 14) 2 && o.zero (b + 32) 8)) (fun s =>
        if s.libBegun c then body s o bs
        else if !bs.all (fun b => o.arg b 2 < 16384 && s.allocated clsCounter (o.arg b 2)) then s.libFault c .range
        else if !bs.all (fun b => o.owns (s.get .counterOwner (o.arg b 2))) then s.libEnds c .denied
        else body s o bs)))

/-- COUNTER_SET OP 0 (R577): allocate counters; the reply is their indexes. -/
def execCounterAllocate (c : Core) (s : State) : Result :=
  .next (s.libRun c 0x0061 (fun s o =>
    s.libOp c (o.arg 0 1) 0 (· ≤ 5) (fun s =>
      let n := o.arg 1 1
      let t := o.arg 2 2
      let bs := (List.range n).map (fun i => 8 + 40 * i)
      s.libArgs c (1 ≤ n && n ≤ 32 && o.zero 4 4 && t < 4096 &&
          bs.all (fun b => o.zero b 2 && o.zero (b + 14) 2 && o.zero (b + 32) 8)) (fun s =>
        if !o.owns t then s.libEnds c .denied
        else match s.reserveMany c clsCounter t n [] with
          | none => s.libFault c .full
          | some (s1, l) => s1.libCommit c (l.map (fun i => Entry.create clsCounter i t)) noAction (fun _ => l.flatMap (toLE 2))))))

/-- COUNTER_SET OP 1 (R577, R641): program and clear; OVF_EV names a vector of the counter's owner. -/
def execCounterProgram (c : Core) (s : State) : Result :=
  .next (s.counterSet c 1 (fun s o bs =>
    let items := bs.map (fun b => counterProgram o b)
    let vectors := bs.all (fun b => o.arg (b + 12) 2 == 0x2000 || s.ownsEvent (s.get .counterOwner (o.arg b 2)) (o.arg (b + 12) 2))
    s.libArgs c (items.all Option.isSome && vectors) (fun s => s.programAll c (items.filterMap id) 28)))

/-- COUNTER_SET OP 2 (R577): clear. -/
def execCounterClear (c : Core) (s : State) : Result :=
  .next (s.counterSet c 2 (fun s o bs => s.libCommit c (bs.map (fun b => putEntry .counterZero (o.arg b 2) 0 1)) noAction noReply))

/-- COUNTER_SET OP 3 (R577): run. -/
def execCounterRun (c : Core) (s : State) : Result :=
  .next (s.counterSet c 3 (fun s o bs => s.libCommit c (bs.map (fun b => putEntry .counterRun (o.arg b 2) 0 1)) noAction noReply))

/-- COUNTER_SET OP 4 (R577): stop. -/
def execCounterStop (c : Core) (s : State) : Result :=
  .next (s.counterSet c 4 (fun s o bs => s.libCommit c (bs.map (fun b => putEntry .counterRun (o.arg b 2) 0 0)) noAction noReply))

/-- COUNTER_SET OP 5 (R577): free. -/
def execCounterFree (c : Core) (s : State) : Result :=
  .next (s.counterSet c 5 (fun s o bs => s.libCommit c (bs.map (fun b => Entry.delete clsCounter (o.arg b 2))) noAction noReply))

/-! ### Unit counters (R578, R583) -/

/-- One item of UNIT_COUNTER_SET OP 1. -/
def unitProgram (o : Order) (b : Nat) : Option (List Entry) :=
  let use := o.arg (b + 3) 1 == 1
  let pick : Fld → Nat → Nat := fun f v => if use then v else f.info.reset
  if 2 ≤ o.arg (b + 3) 1 then none
  else programEntries (o.arg b 2) (o.arg (b + 2) 1)
    [(.unitctrSelect, o.arg (b + 4) 2), (.unitctrFpriv, pick .unitctrFpriv (o.arg (b + 6) 1)),
     (.unitctrFclass, pick .unitctrFclass (o.arg (b + 8) 2)), (.unitctrFreqid, pick .unitctrFreqid (o.arg (b + 10) 2)),
     (.unitctrFreqmask, pick .unitctrFreqmask (o.arg (b + 12) 2)), (.unitctrFtenant, pick .unitctrFtenant (o.arg (b + 14) 2)),
     (.unitctrFaddrLo, pick .unitctrFaddrLo (o.arg (b + 16) 8)), (.unitctrFaddrHi, pick .unitctrFaddrHi (o.arg (b + 24) 8)),
     (.unitctrOvfEv, o.arg (b + 32) 2), (.unitctrZero, 1)]

/-- One OP of UNIT_COUNTER_SET: whether it acts on a whole set, and its body with the item offsets. -/
def State.unitSet (s : State) (c : Core) (op : Nat) (whole : Bool) (body : State → Order → List Nat → State) : State :=
  s.libRun c 0x00A2 (fun s o =>
    s.libOp c (o.arg 0 1) op (fun x => (1 ≤ x && x ≤ 4) || x == 6) (fun s =>
      let n := o.arg 1 1
      let bs := (List.range n).map (fun i => 8 + 40 * i)
      s.libArgs c (1 ≤ n && n ≤ 32 && o.zero 2 6 && bs.all (fun b =>
          s.resourceOk clsUnitset (o.arg b 2) && o.arg b 2 < 88 && o.zero (b + 7) 1 && o.zero (b + 34) 6 &&
          (if whole then o.arg (b + 2) 1 == 0xFF else o.arg (b + 2) 1 < 8))) (fun s => body s o bs)))

/-- UNIT_COUNTER_SET OP 1 (R578, R641): program and clear counters; OVF_EV names a vector of T0. -/
def execUnitCounterProgram (c : Core) (s : State) : Result :=
  .next (s.unitSet c 1 false (fun s o bs =>
    let items := bs.map (fun b => unitProgram o b)
    s.libArgs c (items.all Option.isSome && bs.all (fun b => s.vectorOk (o.arg (b + 32) 2))) (fun s =>
      s.programAll c (items.filterMap id) 25)))

/-- UNIT_COUNTER_SET OP 2 (R578): clear counters. -/
def execUnitCounterClear (c : Core) (s : State) : Result :=
  .next (s.unitSet c 2 false (fun s o bs =>
    s.libCommit c (bs.map (fun b => putEntry .unitctrZero (o.arg b 2) (o.arg (b + 2) 1) 1)) noAction noReply))

/-- UNIT_COUNTER_SET OP 3 (R578): sets count. -/
def execUnitSetRun (c : Core) (s : State) : Result :=
  .next (s.unitSet c 3 true (fun s o bs => s.libCommit c (bs.map (fun b => putEntry .unitsetRun (o.arg b 2) 0 1)) noAction noReply))

/-- UNIT_COUNTER_SET OP 4 (R578, R583): sets stop at one round boundary. -/
def execUnitSetStop (c : Core) (s : State) : Result :=
  .next (s.unitSet c 4 true (fun s o bs => s.libCommit c (bs.map (fun b => putEntry .unitsetRun (o.arg b 2) 0 0)) noAction noReply))

/-- UNIT_COUNTER_SET OP 6 (R578): sets are cleared. -/
def execUnitSetZero (c : Core) (s : State) : Result :=
  .next (s.unitSet c 6 true (fun s o bs => s.libCommit c (bs.map (fun b => putEntry .unitsetZero (o.arg b 2) 0 1)) noAction noReply))

/-! ### The coherent pool agent (R329, R351, R365, R367) -/

/-- AGENT_SET (R329). -/
def execAgentSet (c : Core) (s : State) : Result :=
  .next (s.libRun c 0x0095 (fun s o =>
    let a := o.arg 0 2
    let kind := o.arg 2 1
    let p := o.arg 3 1
    let biid := o.arg 4 2
    let trunk := s.get .portProto p == 2
    let twin := (s.listedIdx .agentKind).any (fun x =>
      x != a && s.get .agentKind x != 0 && s.get .agentPort x == p && s.get .agentBiid x == biid)
    s.libArgs c (a < 512 && kind ≤ 3 && o.arg 6 1 ≤ 3 && o.zero 7 1 &&
        (kind == 0 || (s.portOk p && biid < 4096 && (kind == 3) == trunk && !twin))) (fun s =>
      s.libCommit c [putEntry .agentKind a 0 kind, putEntry .agentPort a 0 p, putEntry .agentBiid a 0 biid,
        putEntry .agentPrefetch a 0 (o.arg 6 1)] noAction noReply)))

/-- COHERENCE_SET (R351). -/
def execCoherenceSet (c : Core) (s : State) : Result :=
  .next (s.libRun c 0x0097 (fun s o =>
    let t := o.arg 0 4
    let n := o.arg 4 2
    let item := fun i => o.arg (8 + 4 * i) 4
    s.libArgs c (n ≤ 129 && o.zero 6 2 && (t == 0 || Fld.deviceDeadT.accepts 0 t) &&
        (List.range n).all (fun i => bitsOf (item i) 8 8 == 0 && s.objectInRange clsNear (bitsOf (item i) 0 8) 0)) (fun s =>
      s.libCommit c (entriesIf (t != 0) [putEntry .deviceDeadT 0 0 t] ++
        (List.range n).map (fun i => putEntry .nearLat (bitsOf (item i) 0 8) 0 (bitsOf (item i) 16 16))) noAction noReply)))

/-- COHERENT_FLUSH (R367): every slice recalls the tenant's entries; with MODE 1 the tenant's dirty Loft lines are written
back too. -/
def execCoherentFlush (c : Core) (s : State) : Result :=
  .next (s.libRun c 0x0098 (fun s o =>
    let t := o.arg 0 2
    let mode := o.arg 2 1
    let v := o.arg 4 2
    s.libArgs c (t < 4096 && mode ≤ 1 && o.zero 3 1 && o.zero 6 2 && s.ownsEvent 0 v) (fun s =>
      s.libCommit c [actionOn clsTenant t] (fun s =>
        let s1 := s.modCoh (fun x => { x with flushes := Tab.set x.flushes t (mode, v) })
        let s2 := if mode = 1 then s1.writeBack (fun l => l.tenant == t) else s1
        s2.flushTenant t) noReply)))

/-- A dead-agent record as DEADLOG_READ gives it (R365). -/
def DeadRecord.bytes (r : DeadRecord) : List Byte :=
  toLE 8 r.tick ++ toLE 8 (r.line * 64) ++ toLE 2 r.agent ++ toLE 2 r.tenant ++ toLE 1 r.reason ++ toLE 1 r.action ++
    toLE 1 r.slice ++ [0] ++ toLE 4 r.epoch ++ toLE 4 r.seq

/-- DEADLOG_READ (R365): up to 127 records from a sequence number on. -/
def execDeadlogRead (c : Core) (s : State) : Result :=
  .next (s.libRun c 0x0096 (fun s o =>
    let n := o.arg 4 2
    s.libArgs c (1 ≤ n && n ≤ 127 && o.zero 6 2) (fun s =>
      let log := s.coh.deadlog
      let oldest := match log with | r :: _ => r.seq | [] => s.coh.deadSeq
      let head := toLE 4 oldest ++ toLE 4 s.coh.deadSeq ++ toLE 4 s.coh.deadLost ++ toLE 4 0
      s.libReply c (head ++ ((log.filter (fun r => o.arg 0 4 ≤ r.seq)).take n).flatMap DeadRecord.bytes))))

end Sys2Proof.Machine
end

