-- ==== Sys2Proof/Machine/LibLinks.lean ====
section
/-! DEFINITION. The library orders of lanes, IDE and tokens, and the end of a channel measurement (R138, R150, R163 to
R177, R556 to R560). -/

namespace Sys2Proof.Machine

/-! ### Reports and measurement (R150, R163 to R166) -/

/-- A lane record (R164). -/
def Lane.record (l : Lane) : List Byte :=
  let flags := (if l.inverted then 1 else 0) + (if l.reversed then 2 else 0) + (if l.test.active then 4 else 0) +
    (if l.margining || l.scan.isSome then 8 else 0)
  toLE 1 l.logical ++ toLE 1 flags ++ toLE 2 (saturate 16 l.lossAdapt) ++ toLE 2 l.lossRefl ++ toLE 2 l.delay ++ toLE 1 l.mstatus ++
    toLE 1 l.band ++ toLE 1 l.txPreset ++ toLE 1 l.ctle ++ toLE 2 (saturate 16 l.skew) ++ toLE 2 0

/-- A port record (R165). PROTO is the protocol trained: a port whose partner declined CXL runs as PCIe (R188). -/
def State.portRecord (s : State) (p : Nat) : List Byte :=
  if !s.portUsed p then 0xFF :: List.replicate 31 0
  else
    let head := toLE 1 p ++ toLE 1 (s.get .portLink p)
    match (s.port p).info with
    | some i =>
      if s.portUp p then
        let proto := if s.get .portProto p = 1 && !i.cxl then 0 else s.get .portProto p
        head ++ toLE 1 i.width ++ toLE 1 i.rate.val ++ [i.pmax, i.pcaps] ++ toLE 1 proto ++
          toLE 1 (if i.reversed then 1 else 0) ++ toLE 8 (if s.get .portProto p = 2 then i.pfdi.toNat else 0) ++
          [i.ppreset, i.preq] ++ List.replicate 14 0
      else head ++ List.replicate 30 0
    | none => head ++ List.replicate 30 0

/-- The LANE_REPORT reply (R163): 208 bytes. -/
def State.laneReport (s : State) (n : Nat) : List Byte :=
  toLE 1 n ++ toLE 1 (s.get .stationBifurc n) ++ toLE 1 (s.get .domainState (stationDomain n)) ++ [0] ++
    toLE 2 (s.get .stationLoss n) ++ toLE 2 (s.get .stationLength n) ++ toLE 2 (s.station n).velocity ++ List.replicate 6 0 ++
    (List.range 8).flatMap (fun i => (s.lane (8 * n + i)).record) ++ s.portRecord (2 * n) ++ s.portRecord (2 * n + 1)

/-- LANE_REPORT (R163). -/
def execLaneReport (c : Core) (s : State) : Result :=
  .next (s.libRun c 0x0090 (fun s o =>
    let n := o.arg 0 1
    s.libArgs c (n < s.stationCount && o.zero 1 7) (fun s => s.libReply c (s.laneReport n))))

/-- The ports whose lanes a mask of a station selects. -/
def State.maskedPorts (s : State) (n mask : Nat) : List Nat :=
  (s.stationPorts n).filter (fun p => (List.range 8).any (fun i => bitOf mask i && (s.lanesOf p).contains (8 * n + i)))

/-- CHAN_MEASURE (R166): the velocity is kept, and the lanes of the mask are measured; the order waits for the end. -/
def execChanMeasure (c : Core) (s : State) : Result :=
  .next (s.libRun c 0x0091 (fun s o =>
    let n := o.arg 0 1
    let mask := o.arg 1 1
    let v := o.arg 2 2
    s.libArgs c (n < s.stationCount && (v == 0 || (50 ≤ v && v ≤ 300)) && o.zero 4 4 &&
        (s.maskedPorts n mask).all (fun p => !s.portUp p)) (fun s =>
      let s1 := if v = 0 then s else (s.modStation n (fun x => { x with velocity := v })).stationFigures n
      if mask = 0 then s1.libReply c ((s1.laneReport n).take 144)
      else (s1.modStation n (fun x => { x with measuring := x.measuring ||| mask })).awaitOutside c)))

/-- CHANNEL_MEASUREMENT_DONE (R150, R151, R153, R166): the lanes' values are recorded, and a CHAN_MEASURE that waits for
the station ends with its records. -/
def execChannelMeasurementDone (st : Station) (lanes : List LaneReflection) (s : State) : Result :=
  .next (if st.val < s.stationCount then
    (List.range 16).foldl (fun (s : State) (c : Nat) =>
      match s.outsideFor (Fin.ofNat 16 c) 0x0091 with
      | some (_, o) => if o.arg 0 1 = st.val then s.libReply (Fin.ofNat 16 c) ((s.laneReport st.val).take 144) else s
      | none => s) (s.recordMeasurement st.val lanes)
  else s)

/-! ### LANE_TEST (R138, R167 to R173) -/

/-- The lanes a mask of a station selects. -/
def maskLanes (n mask : Nat) : List Nat := ((List.range 8).filter (bitOf mask)).map (8 * n + ·)

/-- One OP of LANE_TEST, with its own condition. -/
def State.laneTest (s : State) (c : Core) (op : Nat) (ok : State → Order → Nat → Nat → Bool)
    (body : State → Order → List Nat → State) : State :=
  s.libRun c 0x0092 (fun s o =>
    s.libOp c (o.arg 2 1) op (· ≤ 3) (fun s =>
      let n := o.arg 0 1
      let mask := o.arg 1 1
      s.libArgs c (n < s.stationCount && o.arg 3 1 ≤ 7 && o.arg 4 1 ≤ 6 && o.arg 5 1 ≤ 2 && o.arg 7 1 ≤ 3 && ok s o n mask) (fun s =>
        body s o (maskLanes n mask))))

/-- LANE_TEST OP 0 (R167): stop. -/
def execLaneTestStop (c : Core) (s : State) : Result :=
  .next (s.laneTest c 0 (fun _ _ _ _ => true) (fun s _ ls => (ls.foldl (fun s k => s.stopTest k) s).libEnds c .ok))

/-- Whether a rate on some lanes puts two rates on one transmit PLL: the lanes of a port share theirs (R138). -/
def State.ratesMix (s : State) (n mask rate : Nat) : Bool :=
  (s.maskedPorts n mask).any (fun p => (s.lanesOf p).any (fun k =>
    let t := (s.lane k).test
    t.active && t.rate != rate && !(maskLanes n mask).contains k))

/-- LANE_TEST OP 1 (R168): start generator and checker on lanes of disabled ports. -/
def execLaneTestStart (c : Core) (s : State) : Result :=
  .next (s.laneTest c 1
    (fun s o n mask =>
      let pattern := o.arg 3 1
      let rate := o.arg 4 1
      (s.maskedPorts n mask).all (fun p => s.get .portEnable p == 0) && ((pattern != 5 && pattern != 6) || 5 ≤ rate) &&
      !s.ratesMix n mask rate)
    (fun s o ls =>
      let t : LaneTest := { active := true, pattern := o.arg 3 1, rate := o.arg 4 1, loopback := bitOf (o.arg 7 1) 0, user := o.arg 8 8 }
      (ls.foldl (fun s k => s.modLane k (fun l => { l with test := t })) s).libEnds c .ok))

/-- A lane's counts as OP 2 gives them (R171). -/
def LaneTest.record (t : LaneTest) : List Byte :=
  toLE 8 (t.bits + (if t.bitsOvf then 2 ^ 48 else 0)) ++
    toLE 8 (t.errors + (if t.errorsOvf then 2 ^ 48 else 0) + (if t.lock then 2 ^ 63 else 0))

/-- LANE_TEST OP 2 (R171): the counts of lanes 0 to 7, and those of the lanes of the mask cleared. -/
def execLaneTestRead (c : Core) (s : State) : Result :=
  .next (s.laneTest c 2 (fun _ _ _ _ => true) (fun s o ls =>
    let n := o.arg 0 1
    let s1 := (List.range 8).foldl (fun s i => s.settleTest (8 * n + i)) s
    let reply := (List.range 8).flatMap (fun i => (s1.lane (8 * n + i)).test.record)
    (ls.foldl (fun s k => s.modLane k (fun l => { l with test := { l.test with
      bits := 0, bitsOvf := false, errors := 0, errorsOvf := false } })) s1).libReply c reply))

/-- LANE_TEST OP 3 (R167, R172): inject errors, with FLAGS bit 1 into the symbols of links in L0. -/
def execLaneTestInject (c : Core) (s : State) : Result :=
  .next (s.laneTest c 3
    (fun _ o _ _ =>
      let k := o.arg 6 1
      if bitOf (o.arg 7 1) 1 then 20 ≤ k && k ≤ 40 else o.arg 5 1 != 2 || (10 ≤ k && k ≤ 40))
    (fun s o ls =>
      let n := o.arg 0 1
      let kind := o.arg 5 1
      if bitOf (o.arg 7 1) 1 then
        let hit := ls.filter (fun k => (s.stationPorts n).any (fun p => (s.lanesOf p).contains k && s.get .portLink p == 4))
        ((s.emit (.injected n ((hit.map (fun k => 2 ^ (k % 8))).sum) (if kind = 0 then 0 else if kind = 1 then 1 else 2 ^ o.arg 6 1))).libEnds
          c .ok)
      else
        (ls.foldl (fun s k => if (s.lane k).test.active then
          s.modLane k (fun l => { l with test := { l.test with inject := kind, injectN := o.arg 6 1 } }) else s) s).libEnds c .ok))

/-! ### EYE_SCAN (R174 to R176) -/

/-- Whether the clock recovery of a lane is locked: it is a lane in use of a link in L0 or L0p, or its checker is locked. -/
def State.cdrLocked (s : State) (k : Nat) : Bool :=
  ((s.lane k).test.active && (s.lane k).test.lock) ||
  ((s.stationPorts (k / 8)).any (fun p => (s.lanesOf p).contains k && (s.get .portLink p == 4 || s.get .portLink p == 5)) && (s.lane k).logical != 0xFF)

/-- EYE_SCAN (R174, R175): the request is committed, and the scan runs on by itself. -/
def execEyeScan (c : Core) (s : State) : Result :=
  .next (s.libRun c 0x0093 (fun s o =>
    let n := o.arg 0 1
    let lane := o.arg 1 1
    let e := o.arg 3 1
    let a := o.arg 4 8
    let v := o.arg 12 2
    let k := 8 * n + lane
    s.libArgs c (n < s.stationCount && lane < 8 && o.arg 2 1 ≤ 2 && 20 ≤ e && e ≤ 40 && a % 64 == 0 && o.zero 14 2 &&
        s.ownsEvent 0 v && s.t0Covers a (a + 2111) && s.cdrLocked k) (fun s =>
      if (s.lane k).scan.isSome then s.libEnds c .busy
      else s.libCommit c [actionOn clsStation n] (fun s => s.modLane k (fun l =>
        { l with scan := some { eye := o.arg 2 1, dwell := e, addr := a, event := v, start := s.ftb, suspends := 0,
                                   rate := s.laneRate k } })) noReply)))

/-! ### IDE_SET (R556 to R558) -/

/-- One OP of IDE_SET on a link-up port in the downstream-port role. -/
def State.ideSet (s : State) (c : Core) (op : Nat) (act : Nat → Nat → Nat → State → State) : State :=
  s.libRun c 0x009F (fun s o =>
    s.libOp c (o.arg 1 1) op (· ≤ 2) (fun s =>
      let p := o.arg 0 1
      let v := o.arg 4 2
      s.libArgs c (s.portOk p && s.portUp p && (s.port p).role == .downstream && s.get .portProto p != 2 && o.zero 3 1 && o.zero 6 2 &&
          s.ownsEvent 0 v) (fun s =>
        s.libCommit c [actionOn clsPort p] (act p (o.arg 2 1) v) noReply)))

/-- IDE_SET OP 0 (R557, R558): every stream of the port stops, and an establishment in progress is abandoned. -/
def execIdeStop (c : Core) (s : State) : Result :=
  .next (s.ideSet c 0 (fun p _ _ s => (s.abandonIde p).modPort p PortState.stopIde))

/-- IDE_SET OP 1 (R557): the MC establishes the link stream. -/
def execIdeEstablish (c : Core) (s : State) : Result :=
  .next (s.ideSet c 1 (fun p id v s => (s.abandonIde p).modPort p (fun x => { x with ideJob := some (1, id, v) })))

/-- IDE_SET OP 2 (R557): the MC refreshes the keys now. -/
def execIdeRefresh (c : Core) (s : State) : Result :=
  .next (s.ideSet c 2 (fun p _ v s => (s.abandonIde p).modPort p (fun x => { x with ideJob := some (2, 0, v) })))

/-! ### Tokens (R560) -/

/-- Draw random bytes: free values. -/
def State.randomBytes (s : State) : Nat → List Byte → State × List Byte
  | 0, l => (s, l)
  | n + 1, l => s.drawn.randomBytes n (l ++ [BitVec.ofNat 8 s.free])

/-- TOKEN_NONCE (R560): a fresh nonce takes the place of any earlier nonce and token. -/
def execTokenNonce (c : Core) (s : State) : Result :=
  .next (s.libRun c 0x00A0 (fun s _ =>
    let (s1, nonce) := s.randomBytes 32 []
    (s1.modLedger (fun l => { l with nonce := some nonce, token := none })).libReply c (s1.otp.serialBytes ++ nonce)))

/-- TOKEN_WRITE (R560): a token that verifies is kept for the next cold reset. -/
def execTokenWrite (c : Core) (s : State) : Result :=
  .next (s.libRun c 0x00A1 (fun s o =>
    s.libArgs c (s.tokenFault o.args).isNone (fun s =>
      (s.modLedger (fun l => { l with token := some o.args })).libEnds c .ok)))

end Sys2Proof.Machine
end

