-- ==== Sys2Proof/Machine/LibImages.lean ====
section
/-! DEFINITION. Standing orders, the image orders and the activation of a staged image (R109 to R114, R123 to R133). -/

namespace Sys2Proof.Machine

/-! ### The standing-order area (R109 to R113) -/



/-- Bytes that valid records take. -/
def Ledger.standingHeld (l : Ledger) : Nat := ((l.standing.filter (·.valid)).map (fun r => recordBytes r.frame.length)).sum

/-- Store a frame, reclaiming the space of cleared records where it would not otherwise fit; `none` where it does not fit
(R109, R113). -/
def State.storeStanding (s : State) (priv : Nat) (frame : List Byte) : Option (State × Nat) :=
  let size := recordBytes frame.length
  let l := s.ledger
  let r : StandingRecord := { seq := l.standingSeq + 1, priv, valid := true, crc := crc32 frame, frame }
  if l.standingUsed + size ≤ Config.standingBytes then
    some (s.modLedger (fun l => { l with
      standing := l.standing ++ [r], standingSeq := r.seq, standingUsed := l.standingUsed + size }), r.seq)
  else if l.standingHeld + size ≤ Config.standingBytes then
    some (s.modLedger (fun l => { l with
      standing := l.standing.filter (·.valid) ++ [r], standingSeq := r.seq, standingUsed := l.standingHeld + size }), r.seq)
  else none

/-- A BMC may store only library orders that it may itself submit (R110). -/
def State.mayStore (s : State) (priv : Nat) (head : List Byte) : Bool :=
  priv != privBMC ||
    (fieldAt head 0 1 == 1 && (match s.libEntry (fieldAt head 4 2) with | some e => bitOf e.1 privBMC | none => false))

/-- STANDING_WRITE (R109, R110): store one frame; the reply is its SEQ. -/
def execStandingWrite (c : Core) (s : State) : Result :=
  .next (s.libRun c 0x0070 (fun s o =>
    s.libArgs c (frameOk o.args 4096) (fun s =>
      if !s.mayStore o.priv o.args then s.libEnds c .denied
      else match s.storeStanding o.priv o.args with
        | none => s.libEnds c .noSpace
        | some (s', seq) => s'.libReply c (toLE 4 seq))))

/-- Whether the header of a long frame meets R79 with its TOTAL (R112). -/
def longHeaderOk (head : List Byte) (total : Nat) : Bool :=
  let kind := fieldAt head 0 1
  let codelen := fieldAt head 6 2
  (kind == 1 || kind == 2) && decide (1 ≤ fieldAt head 1 1) &&
  (if kind == 2 then fieldAt head 4 2 == 0 && decide (1 ≤ codelen) && decide (codelen ≤ 4096) else codelen == 0) &&
  decide (fieldAt head 8 2 ≤ 4096) && decide (fieldAt head 10 1 ≤ 1) && fieldAt head 11 1 == 0 && frameLength head == total

/-- The first part of a long frame: a session opens, and the reply is its number. -/
def State.firstPart (s : State) (c : Core) (o : Order) (total : Nat) (part : List Byte) : State :=
  if s.ord.session.isSome then s.libEnds c .busy
  else s.libArgs c (decide (16 ≤ part.length) && longHeaderOk part total) (fun s =>
    if !s.mayStore o.priv part then s.libEnds c .denied
    else
      let n := s.ord.nextSession
      (s.modOrd (fun q => { q with
        session := some { number := n, total, received := part, priv := o.priv, lastPart := s.ftb },
        nextSession := if n = 0xFFFF then 1 else n + 1 })).libReply c (toLE 2 n))

/-- A later part of a long frame: one out of place discards the session, and the last one stores the record. DESIGN CHOICE, log
entry 142: a part that is neither first nor last replies with SESSION, as the first does. -/
def State.laterPart (s : State) (c : Core) (total off number : Nat) (part : List Byte) : State :=
  match s.ord.session with
  | none => s.libEnds c .badArg
  | some x =>
    let got := x.received ++ part
    if number != x.number || off != x.received.length || total != x.total || decide (total < got.length) then
      (s.modOrd (fun q => { q with session := none })).libEnds c .badArg
    else if got.length < total then
      (s.modOrd (fun q => { q with session := some { x with received := got, lastPart := s.ftb } })).libReply c (toLE 2 number)
    else
      let s1 := s.modOrd (fun q => { q with session := none })
      match s1.storeStanding x.priv got with
      | none => s1.libEnds c .noSpace
      | some (s', seq) => s'.libReply c (toLE 4 seq)

/-- STANDING_WRITE_PART (R112): one part of a long frame. -/
def execStandingWritePart (c : Core) (s : State) : Result :=
  .next (s.libRun c 0x00A6 (fun s o =>
    let total := o.arg 0 4
    let off := o.arg 4 4
    let number := o.arg 8 2
    let part := o.args.drop 16
    s.libArgs c (4097 ≤ total && total ≤ 20496 && o.zero 10 6 && !part.isEmpty && part.length ≤ 4080) (fun s =>
      if number = 0 && off = 0 then s.firstPart c o total part else s.laterPart c total off number part)))

/-- STANDING_SESSION_TIMEOUT (R112): a session that received no part for 10 s is discarded. -/
def execStandingSessionTimeout (s : State) : Result :=
  .next (match s.ord.session with
    | some x => if x.lastPart + 10000000000 ≤ s.ftb then s.modOrd (fun q => { q with session := none }) else s
    | none => s)

/-- STANDING_CLEAR (R110, R113): the selected valid records become invalid; the reply is how many. -/
def State.clearStanding (s : State) (c : Core) (op : Nat) (sel : Order → StandingRecord → Bool) (ok : Order → Bool) : State :=
  s.libRun c 0x0071 (fun s o =>
    s.libOp c (o.arg 0 1) op (· ≤ 1) (fun s =>
      s.libArgs c (o.zero 1 3 && o.zero 12 4 && ok o) (fun s =>
        let hit : StandingRecord → Bool := fun r => r.valid && sel o r && (o.priv != privBMC || r.priv == privBMC)
        let n := (s.ledger.standing.filter hit).length
        (s.modLedger (fun l => { l with
          standing := l.standing.map (fun r => if hit r then { r with valid := false } else r) })).libReply c (toLE 4 n))))

/-- STANDING_CLEAR OP 0 (R113): the records from FIRST to LAST. -/
def execStandingClearRange (c : Core) (s : State) : Result :=
  .next (s.clearStanding c 0 (fun o r => o.arg 4 4 ≤ r.seq && r.seq ≤ o.arg 8 4) (fun _ => true))

/-- STANDING_CLEAR OP 1 (R113): every record. -/
def execStandingClearAll (c : Core) (s : State) : Result :=
  .next (s.clearStanding c 1 (fun _ _ => true) (fun o => o.zero 4 8))

/-- One entry of STANDING_LIST (R114). -/
def StandingRecord.entry (r : StandingRecord) : List Byte :=
  toLE 4 r.seq ++ toLE 2 r.frame.length ++ toLE 1 r.priv ++ toLE 1 (fieldAt r.frame 0 1) ++ toLE 4 r.crc ++
    toLE 2 (fieldAt r.frame 4 2) ++ toLE 1 (fieldAt r.frame 1 1) ++ [0]

/-- STANDING_LIST (R114): valid records from a SEQ on, ascending. -/
def execStandingList (c : Core) (s : State) : Result :=
  .next (s.libRun c 0x0072 (fun s o =>
    let n := o.arg 4 2
    s.libArgs c (1 ≤ n && n ≤ 255 && o.zero 6 2) (fun s =>
      let valid := s.ledger.standing.filter (·.valid)
      let head := toLE 4 valid.length ++ toLE 4 (Config.standingBytes - s.ledger.standingHeld)
      s.libReply c (head ++ ((valid.filter (fun r => o.arg 0 4 ≤ r.seq)).take n).flatMap StandingRecord.entry))))

/-! ### Writing the inactive bank (R123, R124) -/

/-- One OP of IMAGE_WRITE: the request is committed, a staged copy is discarded, and STAGE reads 1 while the MC works. -/
def State.imageWrite (s : State) (c : Core) (op : Nat) (ok : Order → Bool) (job : Order → FlashJob) : State :=
  s.libRun c 0x0080 (fun s o =>
    s.libOp c (o.arg 6 1) op (· ≤ 2) (fun s =>
      let len := o.arg 4 2
      if o.arg 7 1 = s.boot.bank then s.libEnds c .denied
      else if s.boot.stage = 1 || s.boot.stage = 2 || s.boot.act = 1 then s.libEnds c .busy
      else s.libArgs c (o.arg 0 4 + len ≤ bankBytes && o.args.length == 16 + len && o.arg 7 1 ≤ 1 && s.vectorOk (o.arg 8 2) &&
          o.zero 10 6 && ok o) (fun s =>
        s.libCommit c [actionOn clsDevice 0] (fun s => s.modBoot (fun b => { b with stage := 1, stageHash := [], flashJob := some (job o) })) noReply)))

/-- Whether LENGTH carries data bytes. -/
def Order.imageData (o : Order) : Bool := 1 ≤ o.arg 4 2 && o.arg 4 2 ≤ 4000

/-- IMAGE_WRITE OP 0 (R124): program. -/
def execImageWriteProgram (c : Core) (s : State) : Result :=
  .next (s.imageWrite c 0 Order.imageData (fun o => .program (o.arg 7 1) (o.arg 0 4) (o.args.drop 16) false (o.arg 8 2)))

/-- IMAGE_WRITE OP 1 (R124): erase the 64 KiB block at OFFSET. -/
def execImageWriteErase (c : Core) (s : State) : Result :=
  .next (s.imageWrite c 1 (fun o => o.arg 4 2 == 0 && o.arg 0 4 % 65536 == 0 && o.arg 0 4 < bankBytes)
    (fun o => .erase (o.arg 7 1) (o.arg 0 4 / 65536) (o.arg 8 2)))

/-- IMAGE_WRITE OP 2 (R124): erase each block whose first byte is written, then program. -/
def execImageWriteEraseProgram (c : Core) (s : State) : Result :=
  .next (s.imageWrite c 2 Order.imageData (fun o => .program (o.arg 7 1) (o.arg 0 4) (o.args.drop 16) true (o.arg 8 2)))

/-- Bytes of the flash take free values: what a failed erase or program leaves is not said (R124). -/
def State.spoilFlash (s : State) : Nat → Nat → State
  | _, 0 => s
  | a, n + 1 => (s.drawn.modBoot (fun x => { x with flash := memPut x.flash a (BitVec.ofNat 8 s.free) })).spoilFlash (a + 1) n

/-- The flash work of a request, done or failed, and the vector it raises. DESIGN CHOICE, log entry 139: a failed OP 2 leaves the
blocks it erases erased but for the data range, which takes free values. -/
def State.flashWork (s : State) (job : FlashJob) (ok : Bool) : State × Nat :=
  match job with
  | .erase bank block ev =>
    let at_ := bank * bankBytes + block * 65536
    (if ok then s.modBoot (fun b => { b with flash := eraseBlocks b.flash (at_ / 65536) (at_ / 65536) }) else s.spoilFlash at_ 65536, ev)
  | .program bank off data eraseFirst ev =>
    let at_ := bank * bankBytes + off
    let first := (at_ + 65535) / 65536
    let last := (at_ + data.length - 1) / 65536
    let s1 := if eraseFirst && first ≤ last then s.modBoot (fun b => { b with flash := eraseBlocks b.flash first last }) else s
    (if ok then s1.programFlash at_ data else s1.spoilFlash at_ data.length, ev)

/-- IMAGE_FLASH_WORK_DONE (R124): STAGE returns to 0, or becomes 4 with FAIL 0x09. -/
def execImageFlashWorkDone (ok : Bool) (s : State) : Result :=
  .next (match s.boot.flashJob with
    | none => s
    | some job =>
      let (s1, ev) := s.flashWork job ok
      (s1.modBoot (fun b => { b with flashJob := none, stage := if ok then 0 else 4, fail := if ok then b.fail else 0x09 })).raiseVector
        ev (some 0))

/-! ### Staging (R125 to R127) -/

/-- IMAGE_STAGE (R125, R126): the MC verifies the inactive bank and copies it. DESIGN CHOICE, log entry 140: the length and the
zeros are checked first, then BUSY, then the range and the vector. -/
def execImageStage (c : Core) (s : State) : Result :=
  .next (s.libRun c 0x0081 (fun s o =>
    let a := o.arg 0 8
    s.libArgs c (o.args.length == 16 && o.zero 10 6) (fun s =>
      if s.boot.stage = 1 || s.boot.stage = 2 || s.boot.act = 1 then s.libEnds c .busy
      else s.libArgs c (a % 64 == 0 && a + bankBytes ≤ 2 ^ 57 && s.t0Covers a (a + bankBytes - 1) && s.ownsEvent 0 (o.arg 8 2)) (fun s =>
        s.libCommit c [actionOn clsDevice 0] (fun s => s.modBoot (fun b =>
          { b with stage := 2, stageAddr := a, stageEvent := o.arg 8 2, stageBank := 1 - b.bank, stageHash := [] })) noReply))))

/-- The bytes of the image in the staged bank. -/
def Boot.stagedImage (b : Boot) : List Byte := b.bankData b.stageBank 0 (b.bankNat b.stageBank 0x08 4)

/-- The staged copy, as pool memory holds it now. -/
def State.stagedCopy (s : State) : List Byte := memBytes s.pool s.boot.stageAddr (s.boot.bankNat s.boot.stageBank 0x08 4)

/-- STAGING_DONE (R126, R127): STAGE becomes 3, or 4 with its code, and the vector is raised. A copy that met a memory
error leaves free values in the staging range. -/
def execStagingDone (memoryError : Bool) (s : State) : Result :=
  .next (if s.boot.stage = 2 then
    let s1 := s.readOther s.boot.bank
    let image := s.boot.stagedImage
    let s2 := match s1.verifyBank s.boot.stageBank with
      | some code => s1.modBoot (fun b => { b with stage := 4, fail := code })
      | none =>
        if memoryError then
          let (s3, bytes) := s1.randomBytes image.length []
          { s3.modBoot (fun b => { b with stage := 4, fail := 0x06 }) with pool := memPutBytes s3.pool s.boot.stageAddr bytes }
        else
          { s1.modBoot (fun b => { b with stage := 3, stageHash := Config.sha512 image }) with
            pool := memPutBytes s1.pool s.boot.stageAddr image }
    s2.raiseVector s.boot.stageEvent (some 0)
  else s)

/-! ### Activation (R128 to R133) -/

/-- ACTIVATE (R128): the MC begins to re-hash the staged copy. -/
def execActivate (c : Core) (s : State) : Result :=
  .next (s.libRun c 0x0082 (fun s o =>
    s.libArgs c (o.args.length == 8 && o.zero 0 8 && s.boot.stage == 3) (fun s =>
      if s.boot.act = 1 then s.libEnds c .busy
      else s.libCommit c [actionOn clsDevice 0] (fun s => s.modBoot (fun b => { b with act := 1, activation := .rehash })) noReply)))

/-- The copy in pool memory still has the hash kept at staging. -/
def State.copyIntact (s : State) : Bool := Config.sha512 s.stagedCopy == s.boot.stageHash

/-- An activation has ended: a Lever reset that waited for it is carried out (R610). -/
def State.activationEnds (s : State) : State :=
  if s.lev.reloadAfterActivation then s.leverReset else s

/-- The resident cores of the running image. -/
def State.residentCores (s : State) : List Nat := (List.range 16).filter (fun c => (s.core c).resident)

/-- ACTIVATION_REHASH_DONE (R128): on a match quiesce begins and resident cores with an empty buffer halt, the others at their next
instruction with an empty buffer; a mismatch ends the activation with FAIL 0x07. -/
def execActivationRehashDone (s : State) : Result :=
  .next (if s.boot.activation = .rehash then
    if s.copyIntact then
      let s1 := (s.modBoot (fun b => { b with activation := .quiesce, quiesceBy := s.ftb + 1000000 })).modOrd (fun q => { q with noStart := true })
      (s1.residentCores.filter (fun c => (s1.core c).buf.isEmpty)).foldl (fun s c => s.haltResident c) s1
    else (s.modBoot (fun b => { b with activation := .none, act := 0, fail := 0x07 })).activationEnds
  else s)

/-- Whether the quiesce point has been reached (R128): every order core is idle, and every resident core has halted, or 1,000 µs have
passed since quiesce began. -/
def State.quiesced (s : State) : Bool :=
  s.orderCores.all (fun c => (s.core c).job.isNone) &&
  (decide (s.boot.quiesceBy ≤ s.ftb) || s.residentCores.all (fun c => (s.core c).mode == .halted))

/-- ACTIVATION_QUIESCE_POINT (R128): every order core is idle, and the resident cores that still run 1,000 µs after quiesce began
discard their buffers and halt. SPDM sessions but those of Trunk ports end (R552). -/
def execActivationQuiescePoint (s : State) : Result :=
  .next (if s.boot.activation = .quiesce && s.quiesced then
    (s.residentCores.foldl (fun s c => s.haltResident c) (s.modBoot (fun b => { b with activation := .copy }))).modSec
      (fun x => { x with sessions := x.sessions.filter (fun e => e.2.trunk) })
  else s)

/-- The Lever and MC memories are loaded from the staged copy (R128). BANK still names the old bank. -/
def State.installCopy (s : State) : State :=
  let copy := s.stagedCopy
  let at_ := s.boot.stageBank * bankBytes
  let flash := (copy.zipIdx).foldl (fun m e => memPut m (at_ + e.2) (0xFF ^^^ e.1)) s.boot.flash
  let s1 := (s.modBoot (fun b => { b with flash := flash })).installImage s.boot.stageBank
  s1.modBoot (fun b => { b with flash := s.boot.flash, bank := s.boot.bank })

/-- ACTIVATION_COPY_DONE (R128, R131): the MC restarts on the new code; a hash that fails, or a memory error, reloads the
previous image with FAIL 0x08. -/
def execActivationCopyDone (memoryError : Bool) (s : State) : Result :=
  .next (if s.boot.activation = .copy then
    if s.copyIntact && !memoryError then (s.installCopy).modBoot (fun b => { b with activation := .restart })
    else s.modBoot (fun b => { b with activation := .reload, act := 0, fail := 0x08 })
  else s)

/-- Resident tasks start and the dispatcher resumes (R128, R131). -/
def State.policyResumes (s : State) : State :=
  ({ s with lev := { s.lev with cores := [], commitWait := [], granted := none } }.modOrd (fun q => { q with noStart := false })).startResidents

/-- ACTIVATION_RESUME (R128, R129, R232, R546): policy resumes on the new image, ACT becomes 2, BANK shows the new
bank, the Alias key is renewed (R552), and Trunk levels are agreed anew. -/
def execActivationResume (s : State) : Result :=
  .next (if s.boot.activation = .restart then
    let s1 := s.policyResumes.modBoot (fun b => { b with activation := .none, act := 2, bank := b.stageBank })
    let s2 := s1.deriveAlias.readOther s1.boot.bank
    let s3 := (s2.livePorts.filter (fun p => s2.get .portProto p == 2 && s2.portUp p)).foldl (fun s p => s.sendLevel p 0 0) s2
    s3.activationEnds
  else s)

/-- ACTIVATION_RELOAD_DONE (R131): the previous image is loaded again and policy resumes. -/
def execActivationReloadDone (s : State) : Result :=
  .next (if s.boot.activation = .reload then
    (((s.installImage s.boot.bank).modBoot (fun b => { b with activation := .none })).policyResumes).activationEnds
  else s)

/-- CONFIRM (R125, R133), checked in the order of log entry 140: the active bank is preferred, and SVN_FLOOR may rise. -/
def execConfirm (c : Core) (s : State) : Result :=
  .next (s.libRun c 0x0083 (fun s o =>
    s.libArgs c (o.args.length == 8 && o.arg 0 1 ≤ 1 && o.zero 1 7) (fun s =>
      if s.boot.act = 1 then s.libEnds c .busy
      else
        let s1 := s.modControl (fun l =>
          { l with svnFloor := if o.arg 0 1 = 1 then max l.svnFloor s.boot.image.svn else l.svnFloor })
        (s1.modBoot (fun b => { b with preferred := b.bank, act := 0 })).libEnds c .ok)))

end Sys2Proof.Machine
end

