-- ==== Sys2Proof/Machine/Wayside.lean ====
section
/-! DEFINITION. The two wires of the Wayside: symbols, frames as symbols, and the contention of senders (R517 to R519). The times
of a symbol are left out; a frame is one step. -/

namespace Sys2Proof.Machine

/-! ### Symbols (R517) -/

/-- A symbol of the Wayside. -/
inductive WaysideSymbol
  | zero | one | delimiter
  deriving DecidableEq, Repr

/-- The wires of the Wayside: whether WS_A, and whether WS_B, is low. -/
structure WaysideWires where
  aLow : Bool
  bLow : Bool
  deriving DecidableEq, Repr

/-- The wires a sender pulls low: WS_A for 0, WS_B for 1, both for a delimiter. -/
def WaysideSymbol.wires : WaysideSymbol → WaysideWires
  | .zero => ⟨true, false⟩
  | .one => ⟨false, true⟩
  | .delimiter => ⟨true, true⟩

/-- Open drain: a wire is low while any node pulls it low. -/
def WaysideWires.join (x y : WaysideWires) : WaysideWires := ⟨x.aLow || y.aLow, x.bLow || y.bLow⟩

/-- How a receiver classifies the wires; with both high there is no symbol. -/
def WaysideWires.symbol (w : WaysideWires) : Option WaysideSymbol :=
  match w.aLow, w.bLow with
  | true, true => some .delimiter
  | true, false => some .zero
  | false, true => some .one
  | false, false => none

/-- A sender of 1 that sees WS_A low drops back to a receiver (R518). -/
def WaysideSymbol.yields (x : WaysideSymbol) (w : WaysideWires) : Bool := x == .one && w.aLow

/-! ### Frames (R519) -/

/-- The 32-bit header word. -/
def waysideHeader (dst src type len reserved : Nat) : Nat :=
  dst + src * 2 ^ 5 + type * 2 ^ 10 + len * 2 ^ 14 + reserved * 2 ^ 25

/-- The header and the payload of a frame as bytes. -/
def waysideBody (dst src type len reserved : Nat) (payload : List Byte) : List Byte :=
  toLE 4 (waysideHeader dst src type len reserved) ++ payload

/-- The symbols of bytes, each least significant bit first. -/
def wireSymbols (l : List Byte) : List WaysideSymbol :=
  l.flatMap (fun b => (List.range 8).map (fun i => if bitOf b.toNat i then .one else .zero))

/-- A frame between its delimiters: header, payload and CRC-32. -/
def frameSymbols (body : List Byte) (crc : Nat) : List WaysideSymbol :=
  .delimiter :: wireSymbols (body ++ toLE 4 crc) ++ [.delimiter]

/-- Whether a sender's frame survives a frame that starts together with it (R518). -/
def survives : List WaysideSymbol → List WaysideSymbol → Bool
  | x :: xs, y :: ys =>
    let w := x.wires.join y.wires
    if x.yields w then false else if y.yields w then true else survives xs ys
  | _, _ => true

end Sys2Proof.Machine
end

