-- ==== Sys2Proof/Machine/QosEvents.lean ====
section
/-! DEFINITION. The events of scheduling and time: refills, timetables, queue samples, the Fabric Timebase, memory load,
and the Wayside (R431, R436 to R461, R519 to R522). An event whose condition the state does not meet, its instant among them,
changes nothing. -/

namespace Sys2Proof.Machine

/-! ### Shapers and timetables -/

/-- A refill: every shaper with a rate gains it, up to BURST, and waiting settings take effect (R431, R433). -/
def State.refill (s : State) : State :=
  s.modQos (fun q => { q with
    refillAt := s.ftb
    tshapers := q.tshapers.map (fun e => (e.1, e.2.refilled (s.get .tshaperRate e.1) (s.get .tshaperBurst e.1)))
    cshapers := q.cshapers.map (fun e =>
      (e.1, e.2.refilled (s.get .cshaperRate (e.1 / 8) (e.1 % 8)) (s.get .cshaperBurst (e.1 / 8) (e.1 % 8)))) })

/-- SHAPER_REFILL (R431): once at each tick that is a multiple of 1,000. -/
def execShaperRefill (s : State) : Result :=
  .next (if s.ftb % 1000 = 0 && s.qos.refillAt != s.ftb then s.refill else s)

/-- Whether a takeover of a port is due. -/
def State.takeoverDue (s : State) (p : Nat) : Bool :=
  match s.takeoverAt p with | some u => decide (u ≤ s.ftb) | none => false

/-- TIMETABLE_ENTRY_BOUNDARY (R436, R438): the next entry's gates apply; a takeover on the same tick replaces the
boundary. -/
def execTimetableEntryBoundary (p : Port) (s : State) : Result :=
  .next (if s.takeoverDue p.val then s.takeover p.val
    else if s.get .timetableLoaded p.val = 1 && decide ((s.timetable p.val).entryEnd ≤ s.ftb) then s.nextEntry p.val
    else s)

/-- TIMETABLE_TAKEOVER (R438). -/
def execTimetableTakeover (p : Port) (s : State) : Result :=
  .next (if s.takeoverDue p.val then s.takeover p.val else s)

/-! ### Queue samples (R447 to R449) -/

/-- Depth in wagons and the arrival of the head frame of one of a port's 17 queues. -/
def State.queueNow (s : State) (p sub : Nat) : Nat × Option Nat :=
  let ofFrames : List Nat → Nat × Option Nat := fun ns =>
    let fs := ns.filterMap s.frame
    ((fs.map (fun f => f.wagons)).sum, fs.head?.map (fun f => f.arrival))
  if sub < 8 then ofFrames (Tab.get [] s.sw.outQ (p * 16 + sub))
  else if sub = 8 then
    if s.get .portProto p = 2 then
      let b := (s.port p).trunk.bypass
      ((b.map (fun m => (m.slots * 32 + 63) / 64)).sum, b.head?.map (fun m => m.queued))
    else
      let b := Tab.get [] s.sw.bypass p
      ((b.map (fun e => e.2.wagons)).sum, b.head?.map (fun e => e.1))
  else ofFrames (Tab.get [] s.sw.adm (p * 8 + (sub - 9)))

/-- Sample one queue. -/
def State.sampleQueue (s : State) (p sub : Nat) : State :=
  let (depth, head) := s.queueNow p sub
  let d := saturate 21 depth
  let hold := match head with | some a => (s.ftb - a) % 2 ^ 32 | none => 0
  let s1 := ((s.put .queueDepth p sub d).put .queueHold p sub hold).put .queueStamp p sub s.ftb
  (s1.devicePut .queuePeakDepth p sub (max d (s.get .queuePeakDepth p sub))).devicePut .queuePeakHold p sub (max hold (s.get .queuePeakHold p sub))

/-- QUEUE_SAMPLE (R448): at each tick that is a multiple of QSAMPLE_PER µs, every queue of the device is sampled. -/
def execQueueSample (s : State) : Result :=
  .next (if s.ftb % (s.get .deviceQsamplePer 0 * 1000) = 0 then
    s.livePorts.foldl (fun s p => (List.range 17).foldl (fun s q => s.sampleQueue p q) s) s
  else s)

/-! ### The Fabric Timebase (R453 to R455) -/

/-- The device asks its PTM source, sends TIME on every Trunk port in L0, and a Wayside mark (R453, R522). -/
def State.syncOthers (s : State) : State :=
  let p := s.get .deviceFtbPort 0
  let s1 := if s.get .deviceFtbSrc 0 = 1 && s.portUp p then s.emit (.ptmRequest p) else s
  let trunks := s.livePorts.filter (fun q => s.get .portProto q == 2 && s.get .portLink q == 4)
  let s2 := trunks.foldl (fun s q => s.sendBypass q 0x01 8 []) s1
  (if s.get .deviceWsMark 0 = 1 && s.straps.ws.val != 31 then s2.waysideSend 31 2 [] else s2).modQos (fun q => { q with syncAt := s.ftb })

/-- SYNC_PERIOD (R453): once SYNC_PER has passed since the last time. -/
def execSyncPeriod (s : State) : Result :=
  .next (if s.qos.syncAt + s.get .deviceSyncPer 0 * 1000 ≤ s.ftb then s.syncOthers else s)

/-- FTB_HOLDOVER (R455): no measurement for 8 × SYNC_PER, or no reference clock. -/
def execFtbHoldover (s : State) : Result :=
  .next (if (s.get .deviceFtbSrc 0 != 0 && decide (s.qos.lastMeasure + 8 * s.get .deviceSyncPer 0 * 1000 ≤ s.ftb)) ||
      (!s.qos.refclkA && !s.qos.refclkB) then
    (s.put .deviceFtbState 0 0 3).modQos (fun q => { q with goodOffsets := 0 }) else s)

/-- PTM_REQUEST (R453): a downstream-role port answers from the FTB. -/
def execPtmRequest (p : Port) (s : State) : Result :=
  .next (if s.portUp p.val && (s.port p.val).role == .downstream && s.get .portProto p.val != 2 then
    s.emit (.ptmReply p.val s.ftb) else s)

/-- PTM_RESPONSE (R453, R455): the master time, corrected by the propagation delay, is the source time. -/
def execPtmResponse (p : Port) (master delay : BitVec 64) (s : State) : Result :=
  .next (if s.get .deviceFtbSrc 0 = 1 && s.get .deviceFtbPort 0 == p.val && s.portUp p.val && (s.port p.val).role == .upstream then
    s.servo ((master.toNat : Int) + (delay.toNat : Int) - (s.ftb : Int)) else s)

/-! ### Memory load (R459, R461) -/

/-- DEVLOAD_WINDOW (R459): the counts of the window of 10,000 ticks that ends become DL_HIST. DESIGN CHOICE, log entry 157: the
windows start at multiples of 10,000. -/
def execDevloadWindow (s : State) : Result :=
  .next (if s.ftb % 10000 = 0 && s.qos.devloadAt != s.ftb then
    s.livePorts.foldl (fun s p =>
      let h := ((List.range 4).map (fun n => saturate 16 (Tab.get 0 (s.port p).dlCount n) * 2 ^ (16 * n))).sum
      (s.put .portDlHist p 0 h).modPort p (fun x => { x with dlCount := [] })) (s.modQos (fun q => { q with devloadAt := s.ftb }))
  else s)

/-- The highest level with at least an eighth of the messages of some port of a mask; a port with no message has none. -/
def State.loadLevel (s : State) (mask : Nat) : Option Nat :=
  [3, 2, 1, 0].find? (fun n => s.livePorts.any (fun p =>
    let h := s.get .portDlHist p
    let total := ((List.range 4).map (fun i => bitsOf h (16 * i) 16)).sum
    bitOf mask p && decide (0 < total) && decide (total ≤ 8 * bitsOf h (16 * n) 16)))

/-- The rate the resident task gives an adaptive shaper (R461). -/
def adaptedRate (level rate ceiling floor : Nat) : Nat :=
  match level with
  | 3 => max floor (rate / 2)
  | 2 => max floor (rate * 7 / 8)
  | 1 => rate
  | _ => min ceiling (rate + ceiling / 16)

/-- The entries of the resident task's commit for one shaper: the new RATE, with APPLY 0 (R433, R461). -/
def State.adaptEntries (s : State) (t rate : Nat) : List Entry :=
  if s.get .tshaperApply t = 0 then [putEntry .tshaperRate t 0 rate] else [putEntry .tshaperApply t 0 0, putEntry .tshaperRate t 0 rate]

/-- The adaptive shapers whose rate changes, with the new rate (R461). -/
def State.adaptations (s : State) : List (Nat × Nat) :=
  s.tenants.filterMap (fun e =>
    if e.2.adapt then
      (s.loadLevel e.2.ports).bind (fun n =>
        let r := adaptedRate n (s.get .tshaperRate e.1) e.2.ceiling e.2.floor
        if r = s.get .tshaperRate e.1 then none else some (e.1, r))
    else none)

/-- Whether the resident task runs: its image declares a resident core, and that core is neither stopped nor halted (R128, R129). -/
def State.residentRuns (s : State) : Bool :=
  s.boot.image.residents != 0 &&
  (List.range 16).any (fun c => (s.core c).resident && (s.core c).mode != .idle && (s.core c).mode != .halted)

/-- A commit of the resident task (R62, R68, R461): it waits for no turn of the commit unit; what the unit does not take, or
refuses, is left to the task's next period. -/
def State.taskCommit (s : State) (es : List Entry) : State :=
  if es.isEmpty || !(s.lev.granted.isNone && s.holdFree) || (violated s (s.stored es) es).isSome || (s.boundaryRefuses es).isSome then s
  else (s.holdRounds es).applyEntries es id

/-- QOS_ADJUST (R34, R461): while a resident task runs, every 100 µs, each adaptive tenant shaper follows the load of its ports, in a commit of
up to 255 shapers. DESIGN CHOICE, log entry 152: the task is the device's own, so its commit takes no core's turn; shapers beyond
255, and a commit that the unit does not take or refuses, are left to the next period. -/
def execQosAdjust (s : State) : Result :=
  .next (if s.residentRuns && decide (s.qos.adjustAt + 100000 ≤ s.ftb) then
    (s.taskCommit ((s.adaptations.take 255).flatMap (fun x => s.adaptEntries x.1 x.2))).modQos (fun q => { q with adjustAt := s.ftb })
  else s)

/-! ### The Wayside (R519 to R522) -/

/-- The bytes of a received frame that its CRC covers (R519). -/
def frameBody (f : WaysideFrame) : List Byte :=
  waysideBody f.dst.toNat f.src.toNat f.type.toNat f.len.toNat f.reserved.toNat f.payload

/-- Whether the CRC-32 of a received frame is right (R519, R520). -/
def waysideCrcGood (f : WaysideFrame) : Bool := f.crc.toNat == crc32 (frameBody f)

/-- The payload a waiting frame has when it starts: a time mark holds the FTB of that moment (R522). -/
def State.startPayload (s : State) (o : WaysideOut) : List Byte := if o.type = 2 then toLE 8 s.ftb else o.payload

/-- The symbols of a waiting frame, were it to start now (R519). -/
def State.ownSymbols (s : State) (o : WaysideOut) : List WaysideSymbol :=
  let data := s.startPayload o
  let body := waysideBody o.dst s.straps.ws.val o.type data.length 0 data
  frameSymbols body (crc32 body)

/-- A waiting frame is on the wires. -/
def State.waysideSent (s : State) (o : WaysideOut) : State := s.emit (.waysideFrame o.dst o.type (s.startPayload o))

/-- The waiting frames that start together with a frame and survive it leave before it; the first that does not keeps waiting
(R518). -/
def State.contend (s : State) (rival : List WaysideSymbol) : List WaysideOut → State
  | [] => s.modPower (fun p => { p with waysideOut := [] })
  | o :: rest =>
    if survives (s.ownSymbols o) rival then (s.waysideSent o).contend rival rest
    else s.modPower (fun p => { p with waysideOut := o :: rest })

/-- A received frame against the device's waiting frames. DESIGN CHOICE, log entry 153: a frame that comes while the device has
frames waiting has started together with them. -/
def State.waysideContend (s : State) (f : WaysideFrame) : State :=
  if s.power.waysideOut.isEmpty then s else s.contend (frameSymbols (frameBody f) f.crc.toNat) s.power.waysideOut

/-- The wires are idle: the oldest waiting frame leaves (R517). -/
def State.waysideIdle (s : State) : State :=
  match s.power.waysideOut with
  | [] => s
  | o :: rest => (s.waysideSent o).modPower (fun p => { p with waysideOut := rest })

/-- Whether the node takes part in a frame's payload (R520): address 31 takes part in none (R531). -/
def State.waysideMine (s : State) (f : WaysideFrame) : Bool :=
  s.straps.ws.val != 31 && (f.dst.toNat == s.straps.ws.val || f.dst.toNat == 31)

/-- A frame that is consumed and discarded: bad CRC, reserved TYPE, LEN above 1,024, or a reserved header bit (R520). -/
def waysideBad (f : WaysideFrame) : Bool :=
  !waysideCrcGood f || decide (4 ≤ f.type.toNat) || decide (1024 < f.len.toNat) || f.reserved != 0

/-- A frame is discarded and counted. -/
def State.waysideDrop (s : State) : State := s.modPower (fun p => { p with waysideDiscarded := p.waysideDiscarded + 1 })

/-- A frame is on the wires: the device's own frames that started with it and win come first (R518), and then a node that takes part
consumes it (R520). -/
def State.waysideIn (s : State) (f : WaysideFrame) (body : State → State) : State :=
  let s1 := s.waysideContend f
  if s1.waysideMine f then body s1 else s1

/-- Whether the device sleeps, or is on its way out of sleep (R500, R513). -/
def State.asleep (s : State) : Bool :=
  match s.power.step with
  | .asleep _ => true
  | .wake k _ => k == 2 || k == 3
  | .wakeFailed k => k == 2 || k == 3
  | _ => false

/-- An order frame goes to the MC on the Wayside channel (R86); its DEADLINE runs from the tick at which it came (R93). -/
def State.waysideSubmit (s : State) (o : KeptOrder) : State :=
  s.submitFrame o.frame privBMC 0 2 1024 (.wayside o.src) o.arrived

/-- The order frame the AON kept is handed to the MC (R521). -/
def State.waysideKept (s : State) : State :=
  match s.power.waysideOrder with
  | some o => (s.modPower (fun p => { p with waysideOrder := none })).waysideSubmit o
  | none => s

/-- WAYSIDE_ORDER_FRAME (R81, R93, R520, R521): a sleeping device wakes, and keeps one order frame until the MC is ready; a further
one is discarded. A device that does not sleep submits the frame, which ends with BUSY in a phase that does not admit it. -/
def execWaysideOrderFrame (f : WaysideFrame) (s : State) : Result :=
  .next (s.waysideIn f (fun s =>
    let o : KeptOrder := { src := f.src.toNat, arrived := s.ftb, frame := f.payload }
    if waysideBad f || f.type.toNat != 0 then s.waysideDrop
    else if s.power.waysideOrder.isSome then s.waysideDrop.wakeBy 0
    else if s.asleep then (s.modPower (fun p => { p with waysideOrder := some o })).wakeBy 0
    else (s.waysideSubmit o).wakeBy 0))

/-- WAYSIDE_REPLY (R519, R520): a reply frame is consumed; the device awaits none of its own. -/
def execWaysideReply (f : WaysideFrame) (s : State) : Result :=
  .next (s.waysideIn f (fun s =>
    if waysideBad f || f.type.toNat != 1 then s.waysideDrop
    else s.modPower (fun p => { p with waysideReplies := p.waysideReplies ++ [(f.src.toNat, f.payload)] })))

/-- TIME_MARK (R453, R522): the sender's FTB, stamped at the first falling edge, is the source time of FTB_SRC 3. -/
def execTimeMark (f : WaysideFrame) (s : State) : Result :=
  .next (s.waysideIn f (fun s =>
    if waysideBad f || f.type.toNat != 2 || f.payload.length != 8 then s.waysideDrop
    else if s.get .deviceFtbSrc 0 = 3 then s.servo ((ofLE f.payload : Int) - (s.ftb : Int))
    else s))

/-- WAYSIDE_WAKE (R511, R521): a TYPE 3 frame, with LEN 0, wakes the device. -/
def execWaysideWake (f : WaysideFrame) (s : State) : Result :=
  .next (s.waysideIn f (fun s =>
    if waysideBad f || f.type.toNat != 3 || f.len.toNat != 0 then s.waysideDrop else s.wakeBy 0))

/-- WAYSIDE_STUCK (R522): every node releases both wires and discards the frame in progress, which of the frames that wait here can
only be the oldest. -/
def execWaysideStuck (s : State) : Result := .next (s.modPower (fun p => { p with waysideOut := p.waysideOut.drop 1 }))

end Sys2Proof.Machine
end

