-- ==== Sys2Proof/Machine/BootEvents.lean ====
section
/-! DEFINITION. Cold reset, the boot phases, the end of Lever and station resets, fatal errors, the error log's summaries,
and the hold of the boot ROM by JTAG (R115, R116, R541 to R545, R561 to R563, R600, R604, R606 to R612, R633). -/

namespace Sys2Proof.Machine

/-! ### Cold reset and phase 0 (R531, R540 to R542, R561, R562, R607, R633) -/

/-- COLD_RESET (R531, R607, R629): the straps and the clock inputs are sampled, and the chip-level wake begins. -/
def execColdReset (straps : Straps) (clkA clkB : Bool) (s : State) : Result := .next (s.coldStart straps clkA clkB)

/-- Whether a phase of the boot is ready to run. -/
def State.phaseReady (s : State) (n : Nat) : Bool := s.awake && s.boot.phase == n && s.boot.step == BootStep.ready

/-- Whether the management strap names a port that the part lacks (R532). -/
def State.strapAbsent (s : State) : Bool := s.otp.partH && decide (4 ≤ s.straps.mp.val) && decide (s.straps.mp.val ≤ 6)

/-- At a cold reset the ROM fuses UDS while it is blank, takes the lifecycle of OTP, and carries out a pending token (R540,
R561). -/
def State.coldWork (s : State) (fuseFailed : Bool) (random : List Byte) : State :=
  let s1 := if s.otp.uds.any (· != 0) then s else { s with otp := { s.otp with uds := random } }
  (s1.modSec (fun x => { x with lifecycle := s1.otp.lifecycle })).applyToken fuseFailed

/-- The lifecycle in use is noted; where it changed, the ROM has cleared what R562 names, which a reset has cleared here
already. -/
def State.noteLifecycle (s : State) : State :=
  if s.sec.lifecycle = s.ledger.lastLc then s
  else s.modControl (fun l => { l with lastLc := s.sec.lifecycle })

/-- BOOT_PHASE_0 (R541, R542, R546, R561 to R563). -/
def execBootPhase0 (otpError fuseFailed : Bool) (random : List Byte) (s : State) : Result :=
  .next (if s.phaseReady 0 && !s.boot.tapHold then
    let s := s.readControl
    if otpError then s.bootFails 0x12
    else if 4 ≤ s.otp.lifecycle then s.bootFails 0x11
    else if s.strapAbsent then s.bootFails 0x13
    else
      let s1 := if s.boot.cold then s.coldWork fuseFailed random else s
      s1.noteLifecycle.deriveDevice.enterPhase 1
  else s)

/-- JTAG_TEST_INSTRUCTION (R633): the boot ROM is held in phase 0 until the TAP is reset. -/
def execJtagTestInstruction (s : State) : Result := .next (s.modBoot (fun b => { b with tapHold := true }))

/-- TAP_RESET (R633): the hold ends. -/
def execTapReset (s : State) : Result := .next (s.modBoot (fun b => { b with tapHold := false }))

/-! ### Phases 1 to 4 (R115, R116, R122, R541 to R545) -/

/-- BOOT_PHASE_1 (R121, R122, R542): the first bank is verified, and the other where it fails. -/
def execBootPhase1 (flashAnswers : Bool) (s : State) : Result :=
  .next (if s.phaseReady 1 then
    if !flashAnswers then s.bootFails 0x10
    else match s.verifyBank s.firstBank with
      | none => s.loadImage s.firstBank false
      | some code => s.tryOther s.firstBank code
  else s)

/-- IMAGE_LOAD_DONE (R541, R542): the image is loaded, or an uncorrectable error in the memory being loaded ends this
bank. -/
def execImageLoadDone (memoryError : Bool) (s : State) : Result :=
  .next (if s.boot.phase = 1 && s.boot.step = .working then
    if memoryError then (if s.boot.fallback then s.bootFails 0x06 else s.tryOther s.boot.loadBank 0x06)
    else (s.installImage s.boot.loadBank).enterPhase 2
  else s)

/-- BOOT_PHASE_2 (R150, R245, R532, R541, R546): the MC and the resident tasks start, tables and management port are set
up, every lane is measured, and the Turntable starts with round count 0. -/
def execBootPhase2 (s : State) : Result :=
  .next (if s.phaseReady 2 then
    let s1 := s.setUpManagement.deriveAlias.startResidents
    let s2 := (List.range s1.stationCount).foldl (fun s n => s.modStation n (fun x => { x with measuring := 0xFF })) s1
    (s2.modSw (fun w => { w with running := true, windowS := s2.sidingsIn })).enterPhase 3
  else s)



/-- The records of a replay, in ascending SEQ, each SEQ once. -/
def replayOrder : Nat → List StandingRecord → List StandingRecord
  | 0, _ => []
  | k + 1, l =>
    match l.foldl (fun (m : Option StandingRecord) r => match m with | some x => if r.seq < x.seq then some r else some x | none => some r) none with
    | none => []
    | some r => r :: replayOrder k (l.filter (fun x => x.seq != r.seq))

/-- BOOT_PHASE_3 (R111, R115, R551): the replay begins; records with a wrong VALID or CRC are skipped and counted. -/
def execBootPhase3 (s : State) : Result :=
  .next (if s.phaseReady 3 then
    let l := replayOrder s.replayable.length s.replayable
    let s1 := ((s.modBoot (fun b => { b with step := .working, replayNext := 0, replayFail := 0 })).modLedger (fun x =>
      { x with replayLog := [], skipped := x.standing.length - s.replayable.length })).modSec (fun x =>
        { x with replayedDigest := Config.sha512 (l.flatMap StandingRecord.bytes) })
    if s.ledgerBad standingBase s.ledger.standingUsed then s1.ledgerError else s1
  else s)

/-- Whether a replayed order is queued or running. -/
def State.replaying (s : State) : Bool := s.ordersWhere (fun o => o.channel == 3) != 0

/-- STANDING_ORDER_REPLAY (R115): the next record runs with its stored privilege on channel 3. -/
def execStandingOrderReplay (s : State) : Result :=
  .next (if s.boot.phase = 3 && s.boot.step = .working && !s.replaying then
    match s.nextRecord with
    | some r => (s.modBoot (fun b => { b with replayNext := r.seq + 1 })).submitFrame r.frame r.priv 0 3 largestFrame (.ledger r.seq)
    | none => s
  else s)

/-- BOOT_PHASE_4 (R116, R521, R553): replay has ended; the boot result is logged, the order frame that the AON kept is
taken, and enabled ports train. -/
def execBootPhase4 (s : State) : Result :=
  .next (if s.boot.phase = 3 && s.boot.step = .working && !s.replaying && s.nextRecord.isNone then
    ((s.modBoot (fun b => { b with phase := 4, step := .done })).logSecurity (.bootResult 4 s.boot.error)).detectAll.waysideKept
  else s)

/-! ### The ends of resets (R609, R610) -/

/-- LEVER_RELOAD_DONE (R610): the reloaded memory is checked against measurement 3; resident tasks restart, or an abrupt
warm reset follows. -/
def execLeverReloadDone (s : State) : Result :=
  .next (if s.lev.reloading then
    if Config.sha512 (s.boot.sectionBytes s.boot.bank [3, 4, 5, 6]) == Config.sha512 s.boot.image.leverBytes then
      let s1 := s.installImage s.boot.bank
      (({ s1 with lev := { s1.lev with reloading := false } }.modOrd (fun q => { q with noStart := false })).startResidents)
    else s.abruptWarm 4
  else s)

/-- STATION_REJOIN (R609): a reset station takes part in the barrier again, and its enabled ports train. -/
def execStationRejoin (st : Station) (s : State) : Result :=
  .next (if (s.station st.val).resetting then
    let group := s.stationGroup st.val
    let s1 := group.foldl (fun s m => s.modStation m (fun x => { x with resetting := false, dark := false })) s
    group.foldl (fun s m => s.detectPorts m) s1
  else s)

/-! ### Fatal errors (R600, R603, R606) -/

/-- The code of a fatal error, and whether it is one of the MC itself. -/
def fatalNumber : FatalCode → Nat × Bool
  | .loftTags => (0x0203, false)
  | .sidingStuck => (0x0303, false)
  | .mcMemory => (0x0801, true)
  | .mcWatchdog => (0x0802, true)

/-- FATAL_ERROR (R600): logged and sent as AER; the action waits 1 ms. -/
def execFatalError (code : FatalCode) (detail : Nat) (s : State) : Result :=
  .next (if s.deepReset then s else s.fatal (fatalNumber code).1 0xFFFF (fatalNumber code).2 [detail])

/-- The device halts (R600): the Turntable stops, every port enters containment, and queued orders but the five end with
BUSY. -/
def State.halt (s : State) : State :=
  let s1 := (s.modSw (fun w => { w with running := false })).modPower (fun p => { p with haltAfterFatal := true, fatalAt := none })
  let s2 := s1.livePorts.foldl (fun s p => s.containPort p 3 (fun x => { x with ctl := true })) s1
  let stays : Order → Bool := fun o => o.library && haltLibrary.contains o.libid
  let gone := s2.ord.queue.filter (fun o => !stays o)
  gone.foldl (fun s o => s.endQueued o .busy) (s2.modOrd (fun q => { q with queue := q.queue.filter stays }))

/-- FATAL_ACTION (R600): 1 ms after a fatal error, by FATAL_ACT; one of the MC always resets. -/
def execFatalAction (s : State) : Result :=
  .next (match s.power.fatalAt with
    | some t =>
      if t ≤ s.ftb then
        if s.get .deviceFatalAct 0 = 1 && !s.power.fatalIsMc then s.halt else s.abruptWarm (if s.power.fatalIsMc then 2 else 1)
      else s
    | none => s)

/-- MC_WATCHDOG (R600, R606): the expiry is a fatal error of the MC, and an abrupt warm reset follows. -/
def execMcWatchdog (pc : Nat) (s : State) : Result :=
  .next (if s.deepReset then s else (s.fatal 0x0802 0xFFFF true [pc]).abruptWarm 3)

/-! ### Summaries (R604) -/

/-- CORRECTED_SUMMARY (R604): one record for each unit and code that saw corrected errors in the interval, and CE_EV. -/
def execCorrectedSummary (s : State) : Result :=
  .next (if s.errors.corrected.isEmpty then s
    else
      let s1 := s.errors.corrected.foldl (fun (s : State) w => s.logError 1 w.opened w.count
        (if w.code = 0x0B01 then { w.error with detail := w.detail ++ [w.count] } else w.error)) s
      ({ s1 with errors := { s1.errors with corrected := [] } } : State).raiseT0 .deviceCeEv)

/-- CONTAINED_WINDOW_END (R604): 10 ms after the first occurrence the record of a code at a place is written. -/
def execContainedWindowEnd (code whereNo : Nat) (s : State) : Result :=
  .next (match s.errors.windows.find? (fun w => w.code == code && w.place == whereNo) with
    | some w =>
      if w.opened + 10000000 ≤ s.ftb then
        let s1 := s.logError 2 w.opened w.count w.error
        { s1 with errors := { s1.errors with windows := s1.errors.windows.filter (fun x => !(x.code == code && x.place == whereNo)) } }
      else s
    | none => s)

end Sys2Proof.Machine
end

