-- ==== Sys2Proof/Machine/CoherenceEvents.lean ====
section
/-! DEFINITION. The events of the coherent pool agent: requests at a slice, snoop responses, memory, peers, and dead
agents (R327 to R373, R592 to R594). -/

namespace Sys2Proof.Machine

/-! ### Requests at a slice (R341, R343 to R345) -/

/-- The port that serves a line for a request that came over a Trunk link: that of any enabled virtual switch whose HDM
decoders hold it (R292, R354). -/
def State.homeAny (s : State) (line : Nat) : Option Nat :=
  (List.range 128).findSome? (fun v =>
    if s.get .vcsEnable v == 1 then
      match s.hdmTarget v (line * 64) with
      | some b => if s.get .vppbKind v b != 0 then some (s.get .vppbPort v b) else none
      | none => none
    else none)

/-- A request at a slice, from what arrives. Its home is the port that its own port's switch routes the line to, and for a
port without a switch that of any enabled switch. -/
def State.sliceRequest (s : State) (kind : CohKind) (r : CohReq) (write : Option WriteData) (atomic : Option AtomicOp)
    (keepShared : Bool) : SliceRequest :=
  { kind, port := r.port.val, agent := s.agentAt r.port.val (r.id.map (·.toNat)), tenant := r.tenant.val,
    home := (s.homePort r.port.val r.line.toNat).or (s.homeAny r.line.toNat), write, atomic, keepShared, peerTxn := none, arrived := s.ftb, waited := false }

/-- The Loft data of a line that holds an uncorrectable error is poisoned in place when it is read (R589). Which
of the 16 ways the line takes is not held: the record's way is a free value. A host whose request this answers with poison sees the
error on its USP (R598). -/
def State.readBadLoft (s : State) (line p : Nat) (kind : CohKind) : State :=
  if s.errors.badLoft.contains line then
    let s1 := { s with errors := { s.errors with badLoft := s.errors.badLoft.filter (· != line) } }
    match s1.loftLine line with
    | some l =>
      let s2 := (s1.modCoh (fun c => { c with loft := Tab.set c.loft line { l with poison := true } })).drawn.contain
        (ErrorAt.atUnit { code := 0x0202, addr := line * 64, tenant := l.tenant,
                          detail := [sliceOf line, line % 2 ^ 11, s.free % 16] } (sliceUnit line))
      if kind == .rdS || kind == .rdE || kind == .rdNc || kind == .at then s2.reportInternal p else s2
    | none => s1
  else s

/-- The Loft is looked up: where both copies of the tags of the line's set are bad the error is fatal (R589, R603). -/
def State.readLoft (s : State) (line p : Nat) (kind : CohKind) : State :=
  let set := (sliceOf line, line % 2 ^ 11)
  let s1 := if s.errors.badLoftTags.contains set
    then ({ s with errors := { s.errors with badLoftTags := s.errors.badLoftTags.erase set } } : State).fatal 0x0203 (sliceUnit line) false
      [set.1, set.2] else s
  s1.readBadLoft line p kind

/-- Whether a request that arrives at its slice is the one its home station handed over. A CXL.mem write is a WB where its sender
owns the line and a WR otherwise; one of CXL.cache says itself which it is (R341). -/
def RingRequest.isFor (x : RingRequest) (kind : CohKind) (owner : Bool) (r : CohReq) (w : Option WriteData) (a : Option AtomicOp) : Bool :=
  let write := x.kind == .wr || x.kind == .wb
  (if x.mem && write then kind == (if owner then .wb else .wr) else x.kind == kind) && x.line == r.line.toNat &&
  x.port == r.port.val && x.id == r.id.map (·.toNat) && x.tenant == r.tenant.val && a.map (fun o => o.op.val) == x.op &&
  (match w with | some d => x.data == toLE 64 d.data.toNat | none => true)

/-- A request acts at its slice once its home station has handed it over (R25); nothing arrives that has not. -/
def State.fromRing (s : State) (kind : CohKind) (r : CohReq) (w : Option WriteData) (a : Option AtomicOp)
    (act : RingRequest → State → State) : State :=
  let owner := (s.entry r.line.toNat).ownedBy (s.agentAt r.port.val (r.id.map (·.toNat)))
  match s.coh.ring.find? (fun x => x.isFor kind owner r w a) with
  | some x => act x (s.modCoh (fun c => { c with ring := c.ring.erase x }))
  | none => s

/-- A read or a write arrives at its slice. -/
def State.serve (s : State) (r : CohReq) (kind : CohKind) (w : Option WriteData) (a : Option AtomicOp) : State :=
  s.fromRing kind r w a (fun x s =>
    let s1 := s.readLoft r.line.toNat r.port.val kind
    s1.arriveRequest r.line.toNat { s1.sliceRequest kind r w a false with far := x.far })

/-- RD_S (R345): a shared read is served from the nearest holder. -/
def execRdS (r : CohReq) (s : State) : Result := .next (s.serve r .rdS none none)

/-- RD_E (R345): an ownership request invalidates the other holders. -/
def execRdE (r : CohReq) (s : State) : Result := .next (s.serve r .rdE none none)

/-- RD_NC (R345): a read that keeps no copy. -/
def execRdNc (r : CohReq) (s : State) : Result := .next (s.serve r .rdNc none none)

/-- WR (R345, R348): a write from a requester that is not the owner is merged into the Loft. -/
def execWr (r : CohReq) (w : WriteData) (s : State) : Result := .next (s.serve r .wr (some w) none)

/-- WB (R344, R345): a writeback is applied at once. -/
def execWb (r : CohReq) (w : WriteData) (keepShared : Bool) (s : State) : Result :=
  .next (s.fromRing .wb r (some w) none (fun _ s => s.release r.line.toNat (s.sliceRequest .wb r (some w) none keepShared)))

/-- EV (R344, R345): a clean eviction is applied at once. -/
def execEvictClean (r : CohReq) (s : State) : Result :=
  .next (s.fromRing .ev r none none (fun _ s => s.release r.line.toNat (s.sliceRequest .ev r none none false)))

/-- AT (R357 to R360): an atomic executes near or far by its line's counter. -/
def execAtomic (r : CohReq) (a : AtomicOp) (s : State) : Result := .next (s.serve r .at none (some a))

/-! ### Snoop responses (R327, R342, R362, R372, R373) -/

/-- A snoop response: one from a dead agent is discarded and counted, one that a writeback or eviction has already stood
for is consumed, and any other answers the open snoop. -/
def State.snoopResponse (s : State) (a line : Nat) (kept : Bool) (data : Option LineData) : State :=
  if !s.live a then s.countLost
  else if s.coh.consumed.contains (a, line) then s.modCoh (fun c => { c with consumed := c.consumed.erase (a, line) })
  else s.snoopAnswered line a kept (data.map (fun d => (d, false)))

/-- RSP_I (R342): the agent is left invalid. -/
def execRspI (agent : AgentId) (line : Line) (data : Option LineData) (s : State) : Result :=
  .next (s.snoopResponse agent.val line.toNat false data)

/-- RSP_S (R342): the agent kept a shared copy. -/
def execRspS (agent : AgentId) (line : Line) (data : Option LineData) (s : State) : Result :=
  .next (s.snoopResponse agent.val line.toNat true data)

/-- SNOOP_TIMEOUT (R330, R361): a snoop open for DEAD_T makes the agent dead with reason 2. -/
def execSnoopTimeout (agent : AgentId) (line : Line) (s : State) : Result :=
  .next (match s.lock line.toNat with
    | some x =>
      if x.snooped.contains agent.val && decide (x.snoopAt + s.get .deviceDeadT 0 * 1000 ≤ s.ftb) then s.agentDies agent.val 2 else s
    | none => s)

/-! ### Memory (R347, R351, R355, R360) -/

/-- A prefetch fill for a peer: a frame of FMT 5 with COPY set, in class 7, from the memory's station to the peer's Trunk
port (R281, R355). -/
def State.sendFill (s : State) (line port tenant home : Nat) (d : LineData) (bad : Bool) : State :=
  let f : FrameIn :=
    { port := Fin.ofNat 128 home, fmt := 5, len := 96, kind := .message, addr := line * 64, size := 64,
      data := [], unit := some (toLE 8 line ++ toLE 2 tenant ++ List.replicate 6 0 ++ toLE 64 d.toNat), made := true, tc := 0, cls := 7, tag := 0, reqId := 0,
      pasid := none, privBit := false, pbr := none, ldid := 0, cacheId := none, poison := bad, whole := true, good := true }
  s.takeIn (s.mkFrame f 96 7 3 1 tenant port true true false) false

/-- MEMORY_DATA (R347, R351, R459): a slice's memory read ends. -/
def execMemoryData (line : Line) (result : MemResult) (s : State) : Result :=
  .next (if s.memWaits line.toNat false then s else
    let s := s.memDone line.toNat false
    match s.lock line.toNat with
    | none => s
    | some x =>
      match x.work, x.wait, result with
      | .request r, .memory, .data d poison l =>
        let p := r.home.getD 0
        ((s.sampleNear line.toNat p (s.ftb - x.readAt)).noteDevLoad p l.val).readEnds line.toNat (some (d, poison)) l.val
      | .request _, .memory, .error => s.readEnds line.toNat none 0
      | .prefetch p t h, .memory, .data d bad l => ((s.noteDevLoad h l.val).sendFill line.toNat p t h d bad).unlock line.toNat x
      | .prefetch _ _ _, .memory, .error => s.unlock line.toNat x
      | _, _, _ => s)

/-- MEMORY_WRITE_COMPLETE (R340, R348, R360, R363, R593): a slice's memory write ends, and who waited for it goes on. -/
def execMemoryWriteComplete (line : Line) (ok : Bool) (s : State) : Result :=
  .next (if (Tab.find s.coh.writes line.toNat).isSome && !s.memWaits line.toNat true then (s.memWriteEnd line.toNat ok).resumeAfterWrite line.toNat else s)

/-- ATOMIC_COMPLETION (R360): the old value returns to the requester and the line unlocks. -/
def execAtomicCompletion (line : Line) (old : BitVec 128) (s : State) : Result :=
  .next (match s.lock line.toNat with
    | none => s
    | some x =>
      match x.work, x.wait with
      | .request r, .completion =>
        let e := s.entry line.toNat
        ((s.setEntry line.toNat (e.after r false x.keepers)).atomicAnswer line.toNat r old.toNat false).unlock line.toNat x
      | _, _ => s)

/-- LINE_LOCK_HANDOFF (R343): the lock passes to the next waiting request. -/
def execLineLockHandoff (line : Line) (s : State) : Result := .next (s.handOff line.toNat)

/-! ### Peers (R352 to R356) -/

/-- Whether coherence messages arrive on a Trunk port: it is up. -/
def State.peerPort (s : State) (p : Nat) : Bool := s.get .portProto p == 2 && s.portUp p

/-- The request that a C_REQ or C_WB carries. -/
def State.peerRequest (s : State) (p : Nat) (m : CohBypass) (kind : CohKind) : SliceRequest :=
  let line := m.line.toNat
  { kind, port := p, agent := s.peerAgent p, tenant := m.tenant.val, home := s.homeAny line,
    write := if kind = .wr || kind = .wb then some ⟨m.data, BitVec.allOnes 64, false⟩ else none,
    atomic := if kind = .at then
      some { op := Fin.ofNat 8 (bitsOf m.attr.toNat 2 3), size := Fin.ofNat 3 (bitsOf m.attr.toNat 0 2),
             offset := Fin.ofNat 64 m.offset.toNat, operand := m.operand.setWidth 128, compare := m.compare.setWidth 128 }
      else none,
    keepShared := bitOf m.attr.toNat 0, peerTxn := some m.txn.toNat, arrived := s.ftb, waited := false }

/-- A PREFETCH at the home (R355): served while the line is I or S, not locked, and not dirty in the Loft. -/
def State.servePrefetch (s : State) (p : Nat) (m : CohBypass) : State :=
  let line := m.line.toNat
  let e := s.entry line
  let dirty := match s.loftLine line with | some l => l.dirty | none => false
  match s.peerAgent p, s.homeAny line with
  | some a, some h =>
    if e.state = .exclusive || dirty || (s.lock line).isSome || !s.live a || !s.tracking ||
        (e.state = .invalid && decide (16 ≤ (s.dirSet line).length)) then s
    else
      let e' := if e.state = .invalid then { state := .shared, ptrs := [a], tenant := m.tenant.val, home := some h : DirEntry } else e.addSharer a
      ((s.setEntry line e').memAsk { port := h, line, write := false } (.memRead h line)).setLock line
        { work := .prefetch p m.tenant.val h, wait := .memory, readAt := s.ftb, lockedAt := s.ftb }
  | _, _ => s

/-- A peer's request as its station's checker sees it (R374, R387): of the message's tenant, on the bytes it touches. -/
def peerFrame (p : Port) (m : CohBypass) (kind : CohKind) : FrameIn :=
  let at_ := kind = .at
  { port := p, fmt := 1, len := 80, kind := .memReq kind, addr := m.line.toNat * 64 + (if at_ then m.offset.toNat else 0),
    size := if at_ then 4 * 2 ^ bitsOf m.attr.toNat 0 2 else 64, data := [], tc := 0, cls := 0, tag := m.txn.toNat, reqId := 0,
    pasid := none, privBit := false, pbr := none, ldid := 0, cacheId := none, poison := false, whole := true, good := true }

/-- A peer's request passes the checker of the station it arrives at, or is refused whole: counted, captured, and answered with
C_RSP OP 4 (R356, R374, R395, R397). -/
def State.checkedPeer (s : State) (p : Port) (m : CohBypass) (kind : CohKind) (go : State) : State :=
  let f := peerFrame p m kind
  let t := m.tenant.val
  let answer := fun (s : State) => s.refuseRequest m.line.toNat (s.peerRequest p.val m kind)
  match s.check f t with
  | .rule _ | .defaultMap => go
  | .reset => answer (s.countReset f t)
  | .refused reason rule => answer ((s.countRefusal f t).capture f t reason rule)

/-- C_REQ (R353, R355, R356, R374): a peer's request arrives at the home; a PREFETCH that the tenant's rules do not allow is ignored. -/
def execCReq (p : Port) (m : CohBypass) (s : State) : Result :=
  .next (if s.peerPort p.val then s.onMessage p.val 0x20 (cohBody 0x20 m) (fun s =>
    let go : CohKind → State := fun k =>
      let r := s.peerRequest p.val m k
      s.checkedPeer p m k
        (if r.home.isNone then s.refuseRequest m.line.toNat r else (s.readLoft m.line.toNat p.val k).arriveRequest m.line.toNat r)
    match m.op.toNat with
    | 0 => go .rdS
    | 1 => go .rdE
    | 2 => go .rdNc
    | 3 => go .wr
    | 4 => go .at
    | 5 => match s.check (peerFrame p m .rdS) m.tenant.val with
      | .rule _ | .defaultMap => s.servePrefetch p.val m
      | _ => s
    | _ => s)
  else s)

/-- C_SNP (R354): a snoop from the home snoops the local holders. It never waits on a local request: one that holds the
line is set aside meanwhile. -/
def execCSnp (p : Port) (m : CohBypass) (s : State) : Result :=
  .next (if s.peerPort p.val && decide (m.op.toNat ≤ 2) then s.onMessage p.val 0x21 (cohBody 0x21 m) (fun s =>
    let line := m.line.toNat
    let bad := s.errors.badDir.contains line
    let s := if bad then s.untrack line m.tenant.val (some p.val) else s
    let e := s.entry line
    let op := m.op.toNat
    let agents := if bad then (List.range 512).filter s.live else if op = 0 || e.state = .exclusive then s.holders e none else []
    let s1 := match s.lock line with
      | some x => s.modCoh (fun c => { c with suspended := Tab.set c.suspended line x })
      | none => s
    let x : Transaction := { work := .peerSnoop p.val m.txn.toNat op, wait := .snoops, snooped := agents, snoopKind := op,
                             snoopAt := s.ftb, lockedAt := s.ftb }
    let s2 := (s1.setLock line x).sendSnoops line op agents e.coarse
    if agents.isEmpty then s2.advance line else s2)
  else s)

/-- C_WB (R344, R356): a peer's writeback or eviction. -/
def execCWb (p : Port) (m : CohBypass) (s : State) : Result :=
  .next (if s.peerPort p.val then s.onMessage p.val 0x22 (cohBody 0x22 m) (fun s =>
    if m.op.toNat = 0 then s.release m.line.toNat (s.peerRequest p.val m .wb)
    else if m.op.toNat = 1 then s.release m.line.toNat { s.peerRequest p.val m .ev with keepShared := false }
    else s)
  else s)

/-- An answer that meets a transaction set aside waits in it (R354). -/
def State.lateAnswer (s : State) (line : Nat) (y : Transaction) (op old : Nat) (data : Option (LineData × Bool)) : State :=
  s.modCoh (fun c => { c with suspended := Tab.set c.suspended line { y with late := some (op, old, data) } })

/-- A C_RSP or C_DATA from a peer: the response to a snoop, or the answer to a request (R352, R353, R356). -/
def State.peerAnswer (s : State) (p : Nat) (m : CohBypass) (data : Option (LineData × Bool)) : State :=
  let line := m.line.toNat
  match s.lock line with
  | none => s
  | some x =>
    let snooped := match s.peerAgent p with | some a => if x.wait = .snoops && x.snooped.contains a then some a else none | none => none
    match snooped with
    | some a => s.snoopAnswered line a (m.op.toNat == 1 && data.isNone) data
    | none =>
      match x.work, x.wait with
      | .request r, .home txn => if txn = m.txn.toNat then s.homeAnswers line x r m.op.toNat m.operand.toNat data else s
      | _, _ =>
        match Tab.find s.coh.suspended line with
        | some y =>
          match y.wait with
          | .home txn => if txn = m.txn.toNat then s.lateAnswer line y m.op.toNat m.operand.toNat data else s
          | _ => s
        | none => s

/-- C_RSP (R352, R356). -/
def execCRsp (p : Port) (m : CohBypass) (s : State) : Result :=
  .next (if s.peerPort p.val then s.onMessage p.val 0x23 (cohBody 0x23 m) (fun s => s.peerAnswer p.val m none) else s)

/-- C_DATA (R356): data with its grant. -/
def execCData (p : Port) (m : CohBypass) (s : State) : Result :=
  .next (if s.peerPort p.val then
    s.onMessage p.val 0x24 (cohBody 0x24 m) (fun s => s.peerAnswer p.val { m with op := 0 } (some (m.data, bitOf m.attr.toNat 0)))
  else s)

/-- The unit of a fill: A[56:6], the tenant, and the line (R355). -/
def fillUnit (line tenant : Nat) (data : LineData) : List Byte :=
  toLE 7 line ++ [0] ++ toLE 2 tenant ++ List.replicate 6 0 ++ toLE 64 data.toNat

/-- A fill is installed in the Loft clean, in S, with no local holder, and with the poison of its frame (R594). A line that a transaction, an entry or the Loft has, or for
which no way is free, is left as it is (R355). -/
def State.installFill (s : State) (p l tenant : Nat) (data : LineData) (poison : Bool) : State :=
  if s.tracking && (s.lock l).isNone && (s.entry l).state == .invalid && (s.loftLine l).isNone &&
      decide ((s.dirSet l).length < 16) then
    match s.findWay l with
    | .free | .clean _ =>
      let s1 := (s.takeWay l).1
      (s1.loftPut l { data := data, dirty := false, poison, held := false, remote := true, tenant := tenant,
                      home := some p, used := 0 }).setEntry l
        { state := .shared, remote := true, tenant := tenant, home := some p }
    | _ => s
  else s

/-- PREFETCH_FILL (R355): a frame of FMT 5 in class 7 that a Trunk port has released, with the fill's unit. -/
def execPrefetchFill (p : Port) (line : Line) (tenant : TenantId) (data : LineData) (s : State) : Result :=
  .next (if s.peerPort p.val then
    match s.takeArrived p.val 0 (fun b => bitsOf (fieldAt b 0 8) 13 7 == 5 + 16 * 7 &&
        (b.drop 16).take 80 == fillUnit line.toNat tenant.val data) with
    | some (b, s1) =>
      s1.withCredit .response p.val 7 2 (fun s => s.installFill p.val line.toNat tenant.val data (bitOf (fieldAt b 0 8) 24))
    | none => s
  else s)

/-! ### Conflicts, deaths and flushes (R364, R367, R373) -/

/-- BICONFLICT (R373): answered once the eviction's completion has been sent. -/
def execBiConflict (agent : AgentId) (line : Line) (s : State) : Result :=
  let k := (agent.val, line.toNat)
  .next (if s.coh.evictAcks.contains k then
    (s.emit (.biAck agent.val line.toNat)).modCoh (fun c => { c with evictAcks := c.evictAcks.erase k })
  else s.modCoh (fun c => { c with biConflicts := c.biConflicts ++ [k] }))

/-- DEAD_AGENT_SCAN_DONE (R329, R364). -/
def execDeadAgentScanDone (a : AgentId) (s : State) : Result := .next (s.scanEnds a.val)

/-- COHERENT_FLUSH_DONE (R367): the event is raised when TRACKED reads 0; entries made meanwhile are recalled too. -/
def execCoherentFlushDone (t : TenantId) (s : State) : Result :=
  .next (match Tab.find s.coh.flushes t.val with
    | none => s
    | some (_, ev) =>
      if s.trackedOf t.val = 0 then
        (s.modCoh (fun c => { c with flushes := Tab.drop c.flushes t.val })).raiseVector ev (some 0)
      else s.flushTenant t.val)

end Sys2Proof.Machine
end

