-- ==== Sys2Proof/Machine/JunctionEvents.lean ====
section
/-! DEFINITION. The events of the Junction: wraps between two devices and the service buses (R312 to R325). An event whose
condition the state does not meet changes nothing. -/

namespace Sys2Proof.Machine

/-! ### Wraps (R315 to R319) -/

/-- The port that serves a far-side request, by the memory windows of any enabled virtual switch (R292, R318). -/
def State.memAny (s : State) (a : Nat) : Option Nat :=
  (List.range 128).findSome? (fun v =>
    if s.get .vcsEnable v == 1 then
      match s.memTarget v a with
      | some b => (match s.routeVppb v b with | .to p _ => some p | _ => none)
      | none => none
    else none)

/-- The frame a wrap stands for at the far end: a request of T0 on its Trunk port (R318). -/
def wrapFrame (p : Port) (w : Wrap) (tag : Nat) : FrameIn :=
  { port := p, fmt := 0, len := 48 + (if w.write then w.data.length else 0), kind := if w.write then .ioWrite else .ioRead,
    addr := w.addr, size := w.size, data := w.data, tc := 0, cls := 4, tag := tag, reqId := 0, pasid := none, privBit := false,
    pbr := none, ldid := 0, cacheId := none, poison := false, whole := true, good := true, made := true }

/-- A frame that carries no request, for a wrap the Junction makes itself. -/
def blankFrame (p : Nat) : FrameIn := wrapFrame (Fin.ofNat 128 p) ⟨0, 0, 0, 0, 0, false, 0, 0, []⟩ 0

/-- A late Junction error: discarded, logged and raised (R319, R603). -/
def State.lateJunction (s : State) (p win tag err : Nat) : State :=
  (s.modJunction (fun j => { j with discarded := j.discarded + 1 })).contain
    (ErrorAt.atUnit { code := 0x0601, place := p, detail := [win, tag, err] } 86)

/-- A wrapped request at the far end (R318): it takes a far-side tag, passes the default map as T0, and is routed. -/
def State.wrapRequest (s : State) (p : Port) (w : Wrap) : State :=
  let back : State → Nat → Nat → State := fun s tag err =>
    s.sendWrap (blankFrame p.val) p.val 5 0 tag (wrapHeader 2 w.win.toNat 0 tag err 0) [] 0
  if w.write then
    let f := wrapFrame p w 0
    match s.check f 0, s.memAny f.addr with
    | .refused _ _, _ => s.lateJunction p.val w.win.toNat w.tag.val 1
    | _, none => s.lateJunction p.val w.win.toNat w.tag.val 1
    | _, some q => if s.portUp q then s.sendFrame f 3 1 0 q none else s.lateJunction p.val w.win.toNat w.tag.val 2
  else
    match (List.range 4096).find? (fun k => (Tab.find s.junction.far k).isNone) with
    | none => back s w.tag.val 2
    | some k =>
      let r : FarRequest := { port := p.val, window := w.win.toNat, nearTag := w.tag.val, takenAt := s.ftb }
      let s1 := s.modJunction (fun j => { j with far := Tab.set j.far k r })
      let f := wrapFrame p w k
      match s.check f 0, s.memAny f.addr with
      | .refused _ _, _ => s1.farAnswer (blankFrame p.val) k 1 []
      | _, none => s1.farAnswer (blankFrame p.val) k 1 []
      | _, some q => s1.sendFrame f 3 1 0 q none

/-- A wrapped completion at the near end (R319): the host gets it under its own requester ID and tag, in its request's
class; an ERR code becomes Unsupported Request or Completer Abort. -/
def State.wrapCompletion (s : State) (p : Port) (w : Wrap) : State :=
  match Tab.find s.junction.near w.tag.val with
  | none => s.lateJunction p.val w.win.toNat w.tag.val w.err.toNat
  | some r =>
    let s1 := s.modJunction (fun j => { j with near := Tab.drop j.near w.tag.val })
    match w.err.toNat with
    | 0 =>
      let data := if r.lanes = 2 then reverseElems (elemBytes r.elem) w.data.length w.data else w.data
      let f : FrameIn := { wrapFrame p w r.hostTag with kind := .completion, data := data, reqId := BitVec.ofNat 16 r.reqId }
      s1.takeIn (s1.mkFrame f (32 + data.length) r.cls 3 1 r.tenant r.host false false false) false
    | 1 => s1.emit (.answer r.host r.hostTag ansUR false)
    | _ => s1.emit (.answer r.host r.hostTag ansCA false)

/-- Whether the first word of a Junction header is a wrap's (R315). -/
def wrapIs (w : Wrap) (h : Nat) : Bool :=
  bitsOf h 0 4 == w.jkind.toNat && bitsOf h 4 8 == w.win.toNat && bitsOf h 12 12 == w.tenant.val && bitsOf h 24 12 == w.tag.val &&
  bitsOf h 36 4 == w.err.toNat

/-- JUNCTION_WRAP_RECEIVE (R315, R318, R319): a request is unwrapped as T0, a completion goes back to its host, and a
mirror wrap or one of reserved JKIND is discarded and counted. -/
def execJunctionWrapReceive (p : Port) (w : Wrap) (s : State) : Result :=
  .next (if s.get .portProto p.val == 2 && s.portUp p.val then
    match s.takeArrived p.val 0 (fun b => bitsOf (fieldAt b 0 8) 13 4 == 13 && wrapIs w (fieldAt b 16 8)) with
    | none => s
    | some (b, s) =>
    s.withCredit .wrap p.val (bitsOf (fieldAt b 0 8) 17 3) ((bitsOf (fieldAt b 0 8) 0 13 + 63) / 64) (fun s =>
      match w.jkind.toNat with
      | 1 => s.wrapRequest p w
      | 2 => s.wrapCompletion p w
      | _ => s.modJunction (fun j => { j with discarded := j.discarded + 1 }))
  else s)

/-- JUNCTION_FAR_TIMEOUT (R318): no completion within 10 ms is answered with ERR 3. -/
def execJunctionFarTimeout (tag : Tag) (s : State) : Result :=
  .next (match Tab.find s.junction.far tag.val with
    | some r => if r.takenAt + 10000000 ≤ s.ftb then s.farAnswer (blankFrame r.port) tag.val 3 [] else s
    | none => s)

/-- JUNCTION_NEAR_TIMEOUT (R319): a request open 12 ms after its wrap was sent receives Completer Abort. -/
def execJunctionNearTimeout (tag : Tag) (s : State) : Result :=
  .next (match Tab.find s.junction.near tag.val with
    | some r =>
      if r.sentAt + 12000000 ≤ s.ftb then
        (s.modJunction (fun j => { j with near := Tab.drop j.near tag.val })).emit (.answer r.host r.hostTag ansCA false)
      else s
    | none => s)

/-- The device's own answers to far-side requests are wrapped back: Unsupported Request as ERR 1, any other as ERR 2
(R318). -/
def State.sendDue (s : State) : State :=
  s.junction.due.foldl (fun s e =>
    match Tab.find s.junction.far e.1 with
    | some r => s.farAnswer (blankFrame r.port) e.1 (if e.2 = ansUR then 1 else if e.2 = ansOk then 0 else 2) []
    | none => s) (s.modJunction (fun j => { j with due := [] }))

/-! ### Service buses (R320 to R325) -/

/-- The front access of a window is over, and the next begins (R323). -/
def State.nextAccess (s : State) (w : Nat) : State :=
  (s.modJunction (fun j => { j with bus := Tab.modify [] j.bus w (fun l => l.drop 1) })).startTransfer w

/-- An access fails (R323): a read receives Completer Abort; a write is logged and raised on EV. The bus status of the
record is 1 for a NACK and 2 for a bus that could not be had. -/
def State.failAccess (s : State) (w status : Nat) (a : BusAccess) : State :=
  if a.write then
    (s.contain (ErrorAt.atUnit { code := 0x0602, place := w, tenant := a.owner, detail := [w, status] } 86)).raiseVector a.ev (some a.owner)
  else s.emit (.answer a.host a.hostTag ansCA false)

/-- Change the front access of a window. -/
def State.modAccess (s : State) (w : Nat) (f : BusAccess → BusAccess) : State :=
  s.modJunction (fun j => { j with bus := Tab.modify [] j.bus w (fun l => match l with | a :: rest => f a :: rest | [] => []) })

/-- SB_TRANSFER_END (R322, R323): the next transfer starts, or the access ends. -/
def execSbTransferEnd (w : WindowNo) (nack : Bool) (bytes : List Byte) (s : State) : Result :=
  .next (match Tab.get [] s.junction.bus w.val with
    | [] => s
    | a :: _ =>
      match a.transfers with
      | [] => s
      | (_, n) :: rest =>
        if nack then (s.failAccess w.val 1 a).nextAccess w.val
        else
          let got := a.result ++ (if a.write then [] else bytes.take n ++ List.replicate (n - bytes.length) 0)
          if rest.isEmpty then
            let data := if a.lanes = 2 then reverseElems (elemBytes a.elem) got.length got else got
            (if a.write then s else s.emit (.completion a.host a.hostTag .success data)).nextAccess w.val
          else (s.modAccess w.val (fun a => { a with transfers := rest, result := got, reissues := 0 })).startTransfer w.val)

/-- SB_ARBITRATION_LOST (R324): the Junction yields; after 16 reissues of the transfer the access fails. -/
def execSbArbitrationLost (w : WindowNo) (s : State) : Result :=
  .next (match Tab.get [] s.junction.bus w.val with
    | [] => s
    | a :: _ =>
      if a.yielded then s
      else if 16 ≤ a.reissues then (s.failAccess w.val 2 a).nextAccess w.val
      else s.modAccess w.val (fun a => { a with yielded := true }))

/-- SB_REISSUE (R324): the bus has been free, and the interrupted transfer starts anew. -/
def execSbReissue (w : WindowNo) (s : State) : Result :=
  .next (match Tab.get [] s.junction.bus w.val with
    | [] => s
    | a :: _ =>
      if a.yielded then ((s.count 86 0x091).modAccess w.val (fun a => { a with yielded := false, reissues := a.reissues + 1 })).startTransfer w.val else s)

/-- SB_READ_TIMEOUT (R323): a read unfinished after 100 ms receives Completer Abort. -/
def execSbReadTimeout (w : WindowNo) (s : State) : Result :=
  let l := Tab.get [] s.junction.bus w.val
  .next (match l.findIdx? (fun a => !a.write && decide (a.takenAt + 100000000 ≤ s.ftb)) with
    | none => s
    | some i =>
      match l[i]? with
      | none => s
      | some a =>
        let s1 := s.emit (.answer a.host a.hostTag ansCA false)
        if i = 0 then s1.nextAccess w.val
        else s1.modJunction (fun j => { j with bus := Tab.set j.bus w.val (l.eraseIdx i) }))

/-- One sampled line of a window: 0 after a deasserted sample, 1 after one asserted sample that followed it, 2 otherwise.
The second result says that the event is due (R325). -/
def lineSample (before : Nat) (asserted : Bool) : Nat × Bool :=
  if asserted then (if before = 0 then (1, false) else if before = 1 then (2, true) else (2, false)) else (0, false)

/-- WINDOW_POLL (R325): the selected lines are sampled, and EV is raised at the second asserted sample after a deasserted
one. -/
def execWindowPoll (w : WindowNo) (alertLow gpiHigh : Bool) (s : State) : Result :=
  let r := s.get .windowRemote w.val
  let owner := s.get .windowOwner w.val
  .next (if s.get .windowKind w.val != 2 then s
    else
      let a := lineSample (Tab.get 2 s.junction.alertSeen w.val) alertLow
      let g := lineSample (Tab.get 2 s.junction.gpiSeen w.val) gpiHigh
      let s1 := if bitOf r 22 then s.modJunction (fun j => { j with alertSeen := Tab.set j.alertSeen w.val a.1 }) else s
      let s2 := if bitOf r 28 then s1.modJunction (fun j => { j with gpiSeen := Tab.set j.gpiSeen w.val g.1 }) else s1
      if (bitOf r 22 && a.2) || (bitOf r 28 && g.2) then s2.raiseVector (bitsOf r 32 13) (some owner) else s2)

end Sys2Proof.Machine
end

