-- ==== Sys2Proof/Machine/LeverAlu.lean ====
section
/-! DEFINITION. The register and immediate instructions of Lever (R45, R47, R49). -/

namespace Sys2Proof.Machine

/-- ADD (R49): G[rd] = G[ra] + G[rb]. -/
def execAdd (c : Core) (o : RRR) (s : State) : Result :=
  .next (s.aluRRR c o 0x000 (fun a b => a + b))

/-- SUB (R49): G[rd] = G[ra] - G[rb]. -/
def execSub (c : Core) (o : RRR) (s : State) : Result :=
  .next (s.aluRRR c o 0x001 (fun a b => a - b))

/-- AND (R49): G[rd] = G[ra] and G[rb]. -/
def execAndAlu (c : Core) (o : RRR) (s : State) : Result :=
  .next (s.aluRRR c o 0x002 (fun a b => a &&& b))

/-- OR (R49): G[rd] = G[ra] or G[rb]. -/
def execOrAlu (c : Core) (o : RRR) (s : State) : Result :=
  .next (s.aluRRR c o 0x003 (fun a b => a ||| b))

/-- XOR (R49): G[rd] = G[ra] exclusive-or G[rb]. -/
def execXorAlu (c : Core) (o : RRR) (s : State) : Result :=
  .next (s.aluRRR c o 0x004 (fun a b => a ^^^ b))

/-- SLL (R49): G[rd] = G[ra] shifted left by G[rb][5:0]. -/
def execSll (c : Core) (o : RRR) (s : State) : Result :=
  .next (s.aluRRR c o 0x005 (fun a b => a <<< (b.toNat % 64)))

/-- SRL (R49): G[rd] = G[ra] shifted right by G[rb][5:0]. -/
def execSrl (c : Core) (o : RRR) (s : State) : Result :=
  .next (s.aluRRR c o 0x006 (fun a b => a >>> (b.toNat % 64)))

/-- SRA (R49): G[rd] = G[ra] shifted right arithmetically by G[rb][5:0]. -/
def execSra (c : Core) (o : RRR) (s : State) : Result :=
  .next (s.aluRRR c o 0x007 (fun a b => a.sshiftRight (b.toNat % 64)))

/-- SLT (R49): G[rd] = 1 if G[ra] is less than G[rb], signed. -/
def execSlt (c : Core) (o : RRR) (s : State) : Result :=
  .next (s.aluRRR c o 0x008 (fun a b => if a.slt b then 1 else 0))

/-- SLTU (R49): G[rd] = 1 if G[ra] is less than G[rb], unsigned. -/
def execSltu (c : Core) (o : RRR) (s : State) : Result :=
  .next (s.aluRRR c o 0x009 (fun a b => if a.ult b then 1 else 0))

/-- MUL (R49): G[rd] = the low 64 bits of the product. -/
def execMul (c : Core) (o : RRR) (s : State) : Result :=
  .next (s.aluRRR c o 0x00A (fun a b => a * b))

/-- MULHU (R49): G[rd] = the high 64 bits of the unsigned product. -/
def execMulhu (c : Core) (o : RRR) (s : State) : Result :=
  .next (s.aluRRR c o 0x00B (fun a b => BitVec.ofNat 64 (a.toNat * b.toNat / 2 ^ 64)))

/-- DIVU (R49): G[rd] = the unsigned quotient, all ones if G[rb] is 0. -/
def execDivu (c : Core) (o : RRR) (s : State) : Result :=
  .next (s.aluRRR c o 0x00C (fun a b => if b = 0 then BitVec.allOnes 64 else a / b))

/-- REMU (R49): G[rd] = the unsigned remainder, G[ra] if G[rb] is 0. -/
def execRemu (c : Core) (o : RRR) (s : State) : Result :=
  .next (s.aluRRR c o 0x00D (fun a b => if b = 0 then a else a % b))

/-- MINU (R49): G[rd] = the unsigned minimum. -/
def execMinu (c : Core) (o : RRR) (s : State) : Result :=
  .next (s.aluRRR c o 0x00E (fun a b => if a.ult b then a else b))

/-- MAXU (R49): G[rd] = the unsigned maximum. -/
def execMaxu (c : Core) (o : RRR) (s : State) : Result :=
  .next (s.aluRRR c o 0x00F (fun a b => if a.ult b then b else a))

/-- pos of ext and ins: imm16[11:6]. -/
def fieldPos (o : IOp) : Nat := immBits o.imm 6 6

/-- len of ext and ins: imm16[5:0] + 1. -/
def fieldLen (o : IOp) : Nat := immBits o.imm 0 6 + 1

/-- The field of ext and ins as a mask. -/
def fieldMask (o : IOp) : Word := BitVec.ofNat 64 (2 ^ fieldLen o - 1) <<< fieldPos o

/-- imm16[15:12] is 0 and the field ends within the word (R49). -/
def fieldLegal (o : IOp) : Bool := immBits o.imm 12 4 = 0 && fieldPos o + fieldLen o ≤ 64

/-- imm16[15:6] of an immediate shift is 0 (R49). -/
def shiftLegal (o : IOp) : Bool := immBits o.imm 6 10 = 0

/-- ADDI (R49): G[rd] = G[ra] + sx16. -/
def execAddi (c : Core) (o : IOp) (s : State) : Result :=
  .next (s.aluImm c o 0x08 true (fun k => k.reg o.ra + sx16 o.imm))

/-- ANDI (R49): G[rd] = G[ra] and zx16. -/
def execAndi (c : Core) (o : IOp) (s : State) : Result :=
  .next (s.aluImm c o 0x09 true (fun k => k.reg o.ra &&& zx16 o.imm))

/-- ORI (R49): G[rd] = G[ra] or zx16. -/
def execOri (c : Core) (o : IOp) (s : State) : Result :=
  .next (s.aluImm c o 0x0A true (fun k => k.reg o.ra ||| zx16 o.imm))

/-- XORI (R49): G[rd] = G[ra] exclusive-or zx16. -/
def execXori (c : Core) (o : IOp) (s : State) : Result :=
  .next (s.aluImm c o 0x0B true (fun k => k.reg o.ra ^^^ zx16 o.imm))

/-- EXT (R49): G[rd] = the field of G[ra]; ILLEGAL if it runs beyond bit 63 or imm16[15:12] is not 0. -/
def execExtField (c : Core) (o : IOp) (s : State) : Result :=
  .next (s.aluImm c o 0x0C (fieldLegal o) (fun k => (k.reg o.ra >>> fieldPos o) &&& BitVec.ofNat 64 (2 ^ fieldLen o - 1)))

/-- INS (R49): G[rd] = G[rd] with the field replaced by the low bits of G[ra]. -/
def execInsField (c : Core) (o : IOp) (s : State) : Result :=
  .next (s.aluImm c o 0x0D (fieldLegal o) (fun k => (k.reg o.rd &&& ~~~(fieldMask o)) ||| ((k.reg o.ra <<< fieldPos o) &&& fieldMask o)))

/-- LUI (R49): G[rd] = sx16 shifted left by 16; ra must be 0. -/
def execLui (c : Core) (o : IOp) (s : State) : Result :=
  .next (s.aluImm c o 0x0E (o.ra = 0) (fun _ => sx16 o.imm <<< 16))

/-- SHOR (R49): G[rd] = G[ra] shifted left by 16, or zx16. -/
def execShor (c : Core) (o : IOp) (s : State) : Result :=
  .next (s.aluImm c o 0x0F true (fun k => (k.reg o.ra <<< 16) ||| zx16 o.imm))

/-- SLTI (R49): G[rd] = 1 if G[ra] is less than sx16, signed. -/
def execSlti (c : Core) (o : IOp) (s : State) : Result :=
  .next (s.aluImm c o 0x10 true (fun k => if (k.reg o.ra).slt (sx16 o.imm) then 1 else 0))

/-- SLTIU (R49): G[rd] = 1 if G[ra] is less than sx16, unsigned. -/
def execSltiu (c : Core) (o : IOp) (s : State) : Result :=
  .next (s.aluImm c o 0x11 true (fun k => if (k.reg o.ra).ult (sx16 o.imm) then 1 else 0))

/-- SLLI (R49): G[rd] = G[ra] shifted left by imm16[5:0]. -/
def execSlli (c : Core) (o : IOp) (s : State) : Result :=
  .next (s.aluImm c o 0x12 (shiftLegal o) (fun k => k.reg o.ra <<< immBits o.imm 0 6))

/-- SRLI (R49): G[rd] = G[ra] shifted right by imm16[5:0]. -/
def execSrli (c : Core) (o : IOp) (s : State) : Result :=
  .next (s.aluImm c o 0x13 (shiftLegal o) (fun k => k.reg o.ra >>> immBits o.imm 0 6))

/-- SRAI (R49): G[rd] = G[ra] shifted right arithmetically by imm16[5:0]. -/
def execSrai (c : Core) (o : IOp) (s : State) : Result :=
  .next (s.aluImm c o 0x14 (shiftLegal o) (fun k => (k.reg o.ra).sshiftRight (immBits o.imm 0 6)))

end Sys2Proof.Machine
end

