-- ==== Sys2Proof/Machine/LeverMemory.lean ====
section
/-! DEFINITION. The memory and control instructions of Lever (R49 to R51). -/

namespace Sys2Proof.Machine

/-- AMOADD (R49): t = M64[G[ra]]; M64[G[ra]] = t + G[rb]; G[rd] = t. -/
def execAmoadd (c : Core) (o : RRR) (s : State) : Result :=
  .next (s.amo c o 0x000 (fun t b => t + b))

/-- AMOSWAP (R49): t = M64[G[ra]]; M64[G[ra]] = G[rb]; G[rd] = t. -/
def execAmoswap (c : Core) (o : RRR) (s : State) : Result :=
  .next (s.amo c o 0x001 (fun _ b => b))

/-- AMOAND (R49): t = M64[G[ra]]; M64[G[ra]] = t and G[rb]; G[rd] = t. -/
def execAmoand (c : Core) (o : RRR) (s : State) : Result :=
  .next (s.amo c o 0x002 (fun t b => t &&& b))

/-- AMOOR (R49): t = M64[G[ra]]; M64[G[ra]] = t or G[rb]; G[rd] = t. -/
def execAmoor (c : Core) (o : RRR) (s : State) : Result :=
  .next (s.amo c o 0x003 (fun t b => t ||| b))

/-- LD (R49): G[rd] = the zero-extended 64-bit value at G[ra] + sx16. -/
def execLd (c : Core) (o : IOp) (s : State) : Result := .next (s.load c o 0x18 8)

/-- LW (R49): G[rd] = the zero-extended 32-bit value at G[ra] + sx16. -/
def execLw (c : Core) (o : IOp) (s : State) : Result := .next (s.load c o 0x19 4)

/-- LB (R49): G[rd] = the zero-extended 8-bit value at G[ra] + sx16. -/
def execLb (c : Core) (o : IOp) (s : State) : Result := .next (s.load c o 0x1A 1)

/-- SD (R49): the low 64 bits of G[rd] go to G[ra] + sx16. -/
def execSd (c : Core) (o : IOp) (s : State) : Result := .next (s.store c o 0x1C 8)

/-- SW (R49): the low 32 bits of G[rd] go to G[ra] + sx16. -/
def execSw (c : Core) (o : IOp) (s : State) : Result := .next (s.store c o 0x1D 4)

/-- SB (R49): the low 8 bits of G[rd] go to G[ra] + sx16. -/
def execSb (c : Core) (o : IOp) (s : State) : Result := .next (s.store c o 0x1E 1)

/-- JAL (R49): G[rd] = pc + 4; pc = pc + 4 + 4 * sx16; ra must be 0. -/
def execJal (c : Core) (o : IOp) (s : State) : Result :=
  .next (s.leverEncoded c (o.word 0x26) (o.ra = 0) (fun s => s.modCore c (fun k =>
    { k.setReg o.rd (k.pc + 4) with pc := k.pc + 4 + 4 * sx16 o.imm })))

/-- JALR (R49): the target is G[ra] + sx16 with its low two bits cleared; G[rd] = pc + 4. -/
def execJalr (c : Core) (o : IOp) (s : State) : Result :=
  .next (s.leverRun c (o.word 0x27) (fun s => s.modCore c (fun k =>
    { k.setReg o.rd (k.pc + 4) with pc := (k.reg o.ra + sx16 o.imm) &&& ~~~3 })))

/-- BEQ (R49): branch when G[ra] equals G[rb]. -/
def execBeq (c : Core) (o : BOp) (s : State) : Result :=
  .next (s.branch c o 0x20 (fun a b => a == b))

/-- BNE (R49): branch when G[ra] differs from G[rb]. -/
def execBne (c : Core) (o : BOp) (s : State) : Result :=
  .next (s.branch c o 0x21 (fun a b => a != b))

/-- BLT (R49): branch when G[ra] is less than G[rb], signed. -/
def execBlt (c : Core) (o : BOp) (s : State) : Result :=
  .next (s.branch c o 0x22 (fun a b => a.slt b))

/-- BGE (R49): branch when G[ra] is at least G[rb], signed. -/
def execBge (c : Core) (o : BOp) (s : State) : Result :=
  .next (s.branch c o 0x23 (fun a b => !a.slt b))

/-- BLTU (R49): branch when G[ra] is less than G[rb], unsigned. -/
def execBltu (c : Core) (o : BOp) (s : State) : Result :=
  .next (s.branch c o 0x24 (fun a b => a.ult b))

/-- BGEU (R49): branch when G[ra] is at least G[rb], unsigned. -/
def execBgeu (c : Core) (o : BOp) (s : State) : Result :=
  .next (s.branch c o 0x25 (fun a b => !a.ult b))

end Sys2Proof.Machine
end

