-- ==== Sys2Proof/Machine/LibPower.lean ====
section
/-! DEFINITION. The library orders of slots, domains, power, sensors and resets (R495 to R498, R500, R505, R506, R586, R605
to R611). -/

namespace Sys2Proof.Machine

/-! ### Slots (R495 to R498) -/

/-- The slots of a mask, ascending. -/
def maskSlots (m : Nat) : List Nat := (List.range 64).filter (bitOf m)

/-- The reply of SLOT_POWER: STATE, CAUSE, TRIPS and SEATED of each selected slot. -/
def State.slotReply (s : State) (ns : List Nat) : List Byte :=
  ns.flatMap (fun n => toLE 1 (s.slotState n) ++ toLE 1 (s.get .slotCause n) ++ toLE 1 (s.get .slotTrips n) ++
    toLE 1 (s.get .slotSeated n))

/-- One OP of SLOT_POWER, as the values of ENABLE it writes one commit after another. -/
def State.slotPower (s : State) (c : Core) (op : Nat) (values : List Nat) : State :=
  s.libRun c 0x0040 (fun s o =>
    s.libOp c (o.arg 8 1) op (· ≤ 2) (fun s =>
      let ns := maskSlots (o.arg 0 8)
      s.libArgs c (!ns.isEmpty && o.zero 9 7) (fun s =>
        match s.commitAll c (values.map (fun v => ns.map (fun n => putEntry .slotEnable n 0 v))) with
        | .passed s' => s'.endOrder c Status.ok.word (s'.slotReply ns)
        | .later s' => s'
        | .refused w s' => s'.endOrder c w [])))

/-- SLOT_POWER OP 0 (R495): ENABLE 0. -/
def execSlotPowerOff (c : Core) (s : State) : Result := .next (s.slotPower c 0 [0])

/-- SLOT_POWER OP 1 (R495): ENABLE 1. -/
def execSlotPowerOn (c : Core) (s : State) : Result := .next (s.slotPower c 1 [1])

/-- SLOT_POWER OP 2 (R495): ENABLE 0 in one commit, ENABLE 1 in a second. -/
def execSlotPowerCycle (c : Core) (s : State) : Result := .next (s.slotPower c 2 [0, 1])

/-- SLOT_LIMITS (R496). -/
def execSlotLimits (c : Core) (s : State) : Result :=
  .next (s.libRun c 0x0041 (fun s o =>
    let n := o.arg 0 1
    let m := o.arg 1 1
    let fields : List (Nat × Fld × Nat) :=
      [(0, .slotIlim, o.arg 2 2), (1, .slotPlim, o.arg 4 1), (2, .slotBlank, o.arg 5 1), (3, .slotRetries, o.arg 6 1),
       (4, .slotTempTrip, o.arg 7 1), (5, .slotRetryDly, o.arg 8 2), (6, .slotAbsence, o.arg 10 2), (7, .slotShortT, o.arg 12 2)]
    s.libArgs c (n < 64 && m != 0 && o.zero 14 2 && maskedOk m n fields) (fun s =>
      s.libCommit c (maskedEntries m n fields) noAction noReply)))

/-- SLOT_TIMING (R497). -/
def execSlotTiming (c : Core) (s : State) : Result :=
  .next (s.libRun c 0x009E (fun s o =>
    let n := o.arg 0 1
    let m := o.arg 1 1
    let fields : List (Nat × Fld × Nat) :=
      [(0, .slotPcTime, o.arg 2 2), (1, .slotRampT, o.arg 4 2), (2, .slotPfwLead, o.arg 6 2), (3, .slotPerstDly, o.arg 8 2),
       (4, .slotRpc, o.arg 10 2), (5, .slotEv, o.arg 12 2)]
    s.libArgs c (n < 64 && m != 0 && m < 64 && o.zero 14 2 && maskedOk m n fields &&
        (!bitOf m 5 || s.vectorOk (o.arg 12 2))) (fun s =>
      s.libCommit c (maskedEntries m n fields) noAction noReply)))

/-- SLOT_MAP (R498): the port of a slot, 0x7F for none. -/
def execSlotMap (c : Core) (s : State) : Result :=
  .next (s.libRun c 0x0042 (fun s o =>
    let p := o.arg 1 1
    s.libArgs c (o.arg 0 1 < 64 && o.zero 2 6 && (p == 0x7F || (p < 128 && s.portOk p))) (fun s =>
      s.libCommit c [putEntry .slotPort (o.arg 0 1) 0 p] noAction noReply)))

/-! ### Domains and power states (R500, R505, R506) -/

/-- DOMAIN_SET (R505): every item in one commit. -/
def execDomainSet (c : Core) (s : State) : Result :=
  .next (s.libRun c 0x0050 (fun s o =>
    let n := o.arg 0 2
    let items := (List.range n).map (fun i => (o.arg (8 + 2 * i) 1, o.arg (9 + 2 * i) 1))
    s.libArgs c (1 ≤ n && n ≤ 75 && o.zero 2 6 && items.all (fun e =>
        e.1 < 75 && !(11 ≤ e.1 && s.stationCount ≤ e.1 - 11) && Fld.domainReq.accepts e.1 e.2)) (fun s =>
      s.libCommit c (items.map (fun e => putEntry .domainReq e.1 0 e.2)) noAction noReply)))

/-- PSTATE_SET (R506), whose port mask is taken as log entry 144 says: the fields under WRITE; a replay never puts the device to sleep (R500). -/
def execPstateSet (c : Core) (s : State) : Result :=
  .next (s.libRun c 0x0051 (fun s o =>
    let m := o.arg 1 1
    let ports := o.arg 24 16
    let fields : List (Nat × Fld × Nat) :=
      [(0, .devicePstate, o.arg 0 1), (1, .deviceWatchPer, o.arg 2 2), (2, .deviceVcore, o.arg 4 2), (3, .deviceWakeEn, o.arg 8 2),
       (4, .deviceTempHi, o.arg 10 1), (5, .deviceAvs, o.arg 11 1), (6, .deviceWakeAt, o.arg 16 8),
       (7, .deviceWakePortsLo, ports % 2 ^ 64), (7, .deviceWakePortsHi, ports / 2 ^ 64)]
    let asleep := o.channel == 3 && bitOf m 0 && 2 ≤ o.arg 0 1
    s.libArgs c (m != 0 && o.zero 6 2 && o.zero 12 4 && maskedOk m 0 fields && !asleep) (fun s =>
      s.libCommit c (maskedEntries m 0 fields) noAction noReply)))

/-! ### Sensors (R586) -/

/-- SENSOR_SET (R586): ALARM with EV, and PEAK, of the sensors of a mask. -/
def execSensorSet (c : Core) (s : State) : Result :=
  .next (s.libRun c 0x00A3 (fun s o =>
    let m := o.arg 0 2
    let alarm := o.arg 2 1
    let flags := o.arg 3 1
    let ev := o.arg 4 2
    let ns := (List.range 13).filter (bitOf m)
    s.libArgs c (m < 2 ^ 13 && flags ≤ 3 && o.zero 6 2 &&
        (!bitOf flags 0 || (Fld.thermAlarm.accepts 0 alarm && s.vectorOk ev))) (fun s =>
      s.libCommit c (ns.flatMap (fun n =>
        entriesIf (bitOf flags 0) [putEntry .thermAlarm n 0 alarm, putEntry .thermEv n 0 ev] ++
        entriesIf (bitOf flags 1) [putEntry .thermPeak n 0 0])) noAction noReply)))

/-! ### Resets (R606 to R611) -/

/-- A RESET order ends the halt after a fatal error (R600): the Turntable turns again, and the ports stay contained until
they are released. -/
def State.haltEnds (s : State) : State :=
  if s.power.haltAfterFatal then
    (s.modSw (fun w => { w with running := true })).modPower (fun p => { p with haltAfterFatal := false })
  else s

/-- One TYPE of RESET (R611): its reply goes out first, and then the reset begins. -/
def State.resetBy (s : State) (c : Core) (type : Nat) (act : Nat → State → State) : State :=
  s.libRun c 0x00A4 (fun s o =>
    s.libOp c (o.arg 0 1) type (fun x => 1 ≤ x && x ≤ 3) (fun s =>
      let n := o.arg 1 1
      if type != 1 && o.priv == privBMC then s.libEnds c .denied
      else s.libArgs c (o.zero 2 6 && (if type = 2 then n < s.stationCount else n == 0)) (fun s =>
        match s.commitNow c [actionOn clsDevice 0] noAction with
        | .refused w s' => s'.endOrder c w []
        | .later s' => s'
        | .passed s' => act n ((s'.endOrder c Status.ok.word []).haltEnds))))

/-- RESET TYPE 1 (R608, R611): a controlled warm reset. -/
def execResetWarm (c : Core) (s : State) : Result := .next (s.resetBy c 1 (fun _ s => s.askWarm))

/-- RESET TYPE 2 (R609, R611): a station reset. -/
def execResetStation (c : Core) (s : State) : Result := .next (s.resetBy c 2 (fun n s => s.stationReset n))

/-- RESET TYPE 3 (R610, R611): a Lever reset. -/
def execResetLever (c : Core) (s : State) : Result := .next (s.resetBy c 3 (fun _ s => s.askLeverReset))

/-! ### The error log (R601, R602, R605) -/

/-- ERRLOG_READ (R555, R589, R605): up to 63 valid records from a sequence number on, after the head of DEADLOG_READ (R365), whose
lost count is that of the invalid records skipped; an uncorrectable word met in one is reported. -/
def execErrlogRead (c : Core) (s : State) : Result :=
  .next (s.libRun c 0x00A5 (fun s o =>
    let n := o.arg 4 2
    s.libArgs c (1 ≤ n && n ≤ 63 && o.zero 6 2) (fun s =>
      let log := s.ledger.errors
      let oldest := match log with | r :: _ => r.seq | [] => s.ledger.errorSeq + 1
      let from_ := log.filter (fun (r : ErrorRecord) => o.arg 0 4 ≤ r.seq)
      let given := (from_.filter s.errorValid).take n
      let met := match given.getLast? with
        | some last => if given.length = n then from_.filter (fun (r : ErrorRecord) => decide (r.seq ≤ last.seq)) else from_
        | none => from_
      let head := toLE 4 oldest ++ toLE 4 (s.ledger.errorSeq + 1) ++ toLE 4 (met.length - given.length) ++ toLE 4 0
      let s1 := if met.any (fun (r : ErrorRecord) => s.ledgerBad (errorSlot r.seq) 64) then s.ledgerError else s
      s1.libReply c (head ++ given.flatMap ErrorRecord.bytes))))

end Sys2Proof.Machine
end

