-- ==== Sys2Proof/Machine/LibQos.lean ====
section
/-! DEFINITION. The library orders of shapers, timetables, windows, queues and time (R313, R320, R380, R433, R435, R441,
R450, R457, R461). -/

namespace Sys2Proof.Machine

/-! ### SHAPER_SET (R435, R461) -/

/-- One item of SHAPER_SET. -/
structure ShaperItem where
  kind : Nat
  apply : Nat
  flags : Nat
  cls : Nat
  index : Nat
  mode : Nat
  weight : Nat
  rate : Nat
  burst : Nat
  floor : Nat
  ports : Nat
  clean : Bool

/-- The items of a SHAPER_SET block. -/
def shaperItems (o : Order) (n : Nat) : List ShaperItem :=
  (List.range n).map (fun i =>
    let b := 8 + 40 * i
    { kind := o.arg b 1, apply := o.arg (b + 1) 1, flags := o.arg (b + 2) 1, cls := o.arg (b + 3) 1, index := o.arg (b + 4) 2,
      mode := o.arg (b + 6) 1, weight := o.arg (b + 7) 1, rate := o.arg (b + 8) 4, burst := o.arg (b + 12) 4,
      floor := o.arg (b + 16) 4, ports := o.arg (b + 24) 16, clean := o.zero (b + 20) 4 })

/-- ADAPT of an item. -/
def ShaperItem.adapt (x : ShaperItem) : Bool := bitOf x.flags 0

/-- SCHED of an item. -/
def ShaperItem.sched (x : ShaperItem) : Bool := bitOf x.flags 1

/-- Whether an item is within its encoding and the limits of R435. DESIGN CHOICE, log entry 144: a bit of the PORTS mask for an absent
or vacant port names no port, and is accepted. -/
def State.shaperItemOk (s : State) (x : ShaperItem) : Bool :=
  let present := if x.kind = 0 then s.get .tshaperBurst x.index else s.get .cshaperBurst x.index x.cls
  let burst := if x.burst = 0 then present else x.burst
  x.clean && x.apply ≤ 2 && x.flags ≤ 3 && x.rate < 2 ^ 23 && x.rate ≤ burst &&
  (if x.kind = 0 then
    !x.sched && x.cls == 0 && x.index < 4096 && s.get .tenantState x.index == 1 && 8448 ≤ burst &&
    (!x.adapt || (x.rate != 0 && x.floor != 0 && x.floor ≤ x.rate && x.ports != 0))
  else
    x.kind == 1 && !x.adapt && x.cls < 8 && s.portOk x.index && 4352 ≤ burst &&
    (!x.sched || (Fld.cshaperMode.accepts x.index x.mode && Fld.cshaperWeight.accepts x.index x.weight)))

/-- What an item stages: at most five entries. -/
def ShaperItem.entries (x : ShaperItem) : List Entry :=
  if x.kind = 0 then
    [putEntry .tshaperApply x.index 0 x.apply, putEntry .tshaperRate x.index 0 x.rate] ++
      entriesIf (x.burst != 0) [putEntry .tshaperBurst x.index 0 x.burst]
  else
    [putEntry .cshaperApply x.index x.cls x.apply, putEntry .cshaperRate x.index x.cls x.rate] ++
      entriesIf (x.burst != 0) [putEntry .cshaperBurst x.index x.cls x.burst] ++
      entriesIf x.sched [putEntry .cshaperMode x.index x.cls x.mode, putEntry .cshaperWeight x.index x.cls x.weight]

/-- The adjustment of a tenant shaper starts with the item's ceiling, floor and ports, or ends (R461). -/
def State.adaptBy (s : State) (x : ShaperItem) : State :=
  if x.kind = 0 then
    s.modTenant x.index (fun t =>
      if x.adapt then { t with adapt := true, ceiling := x.rate, floor := x.floor, ports := x.ports } else { t with adapt := false })
  else s

/-- SHAPER_SET (R435): every item in one commit. -/
def execShaperSet (c : Core) (s : State) : Result :=
  .next (s.libRun c 0x0030 (fun s o =>
    let n := o.arg 0 1
    let items := shaperItems o n
    s.libArgs c (1 ≤ n && n ≤ 32 && o.zero 1 7 && items.all s.shaperItemOk) (fun s =>
      s.libCommit c (items.flatMap ShaperItem.entries) (fun s => items.foldl State.adaptBy s) noReply)))

/-! ### TIMETABLE_ARM (R441) -/

/-- The commits of TIMETABLE_ARM: entries in groups of at most 126, each group after the first alone, and the settings
with the last. -/
def timetableCommits (o : Order) (p bank n at_ : Nat) : List (List Entry) :=
  let entry := fun i => [putEntry .ttentryGates p (bank * 256 + i) (o.arg (16 + 8 * i) 1),
                         putEntry .ttentryDuration p (bank * 256 + i) (o.arg (20 + 8 * i) 4)]
  let arm := [putEntry .timetableLength p 0 n, putEntry .timetableTakeover p 0 at_,
              putEntry .timetableNextcycle p 0 (bitsOf (o.arg 1 1) 0 1), putEntry .timetableGuard p 0 (bitsOf (o.arg 1 1) 1 1)]
  let groups := (List.range ((n + 125) / 126)).map (fun g =>
    ((List.range 126).filter (fun i => 126 * g + i < n)).flatMap (fun i => entry (126 * g + i)))
  let k := groups.length
  groups.zipIdx.map (fun e =>
    entriesIf (e.2 = 0 && 1 < k) [putEntry .timetableTakeover p 0 noTakeover] ++ e.1 ++ entriesIf (e.2 + 1 = k) arm)

/-- TIMETABLE_ARM (R441): load the inactive bank and arm it, or only disarm. -/
def execTimetableArm (c : Core) (s : State) : Result :=
  .next (s.libRun c 0x0031 (fun s o =>
    let p := o.arg 0 1
    let n := o.arg 2 2
    let at_ := o.arg 8 8
    let bank := 1 - s.get .timetableActive p
    let ok := (List.range n).all (fun i => o.zero (17 + 8 * i) 3 && Fld.ttentryDuration.accepts p (o.arg (20 + 8 * i) 4))
    if at_ = noTakeover then
      s.libArgs c (s.portOk p && o.arg 1 1 ≤ 3 && n == 1 && o.zero 4 4) (fun s =>
        s.libCommit c [putEntry .timetableTakeover p 0 noTakeover] noAction noReply)
    else
      s.libArgs c (s.portOk p && o.arg 1 1 ≤ 3 && 1 ≤ n && n ≤ 256 && o.zero 4 4 && ok) (fun s =>
        match s.commitAll c (timetableCommits o p bank n at_) with
        | .passed s' => s'.endOrder c Status.ok.word []
        | .later s' => s'
        | .refused w s' => s'.endOrder c w [])))

/-! ### WINDOW_SET (R313, R320, R380) -/

/-- Whether REMOTE of a window of KIND 2 is laid out as R320 says. -/
def State.busRemoteOk (s : State) (owner remote size : Nat) : Bool :=
  let proto := bitsOf remote 9 1
  let reg := bitsOf remote 10 2
  let speed := bitsOf remote 12 2
  bitsOf remote 14 2 == 0 && bitsOf remote 29 3 == 0 && remote < 2 ^ 45 && reg ≤ 2 && (speed != 3 || proto == 1) &&
  s.ownsEvent owner (bitsOf remote 32 13) && (if reg = 0 then size == 4096 else size ≤ 2 ^ (8 * reg))

/-- WINDOW_SET (R313): every field of one window. -/
def execWindowSet (c : Core) (s : State) : Result :=
  .next (s.libRun c 0x0032 (fun s o =>
    let w := o.arg 0 1
    let kind := o.arg 1 1
    let owner := o.arg 4 2
    let base := o.arg 8 8
    let limit := o.arg 16 8
    let remote := o.arg 24 8
    let port := o.arg 32 1
    let fields : List (Fld × Nat) :=
      [(.windowOwner, owner), (.windowKind, kind), (.windowBase, base), (.windowLimit, limit), (.windowRemote, remote),
       (.windowPort, port), (.windowLanes, o.arg 2 1), (.windowElem, o.arg 3 1), (.windowPoll, o.arg 36 4)]
    s.libArgs c (owner < 4096 && o.zero 6 2 && o.zero 33 3 && base % 4096 == 0 && (limit + 1) % 4096 == 0 && base < limit + 1 &&
        fields.all (fun e => e.1.accepts w e.2) && (owner == 0 || bitOf (s.get .tenantShPerm owner) 8) &&
        s.portOk port && (kind != 1 || s.get .portProto port == 2) &&
        (kind != 2 || (port == 0 && s.busRemoteOk owner remote (limit + 1 - base)))) (fun s =>
      s.libCommit c (fields.map (fun e => putEntry e.1 w 0 e.2)) noAction noReply)))

/-! ### QUEUE_READ and TIME_SET (R450, R457) -/

/-- The reply of QUEUE_READ: STAMP and 17 records. -/
def State.queueReply (s : State) (p : Nat) : List Byte :=
  toLE 8 (s.get .queueStamp p 0) ++ (List.range 17).flatMap (fun i =>
    toLE 4 (s.get .queueDepth p i) ++ toLE 4 (s.get .queueHold p i) ++ toLE 4 (s.get .queuePeakDepth p i) ++
      toLE 4 (s.get .queuePeakHold p i))

/-- QUEUE_READ (R450): the samples as they were before the commit; the FM may clear the peaks and set the period. -/
def execQueueRead (c : Core) (s : State) : Result :=
  .next (s.libRun c 0x009B (fun s o =>
    let p := o.arg 0 1
    let flags := o.arg 1 1
    let per := o.arg 4 4
    if o.priv == privBMC && (flags != 0 || per != 0) then s.libEnds c .denied
    else s.libArgs c (s.portOk p && flags ≤ 1 && o.zero 2 2 && (per == 0 || Fld.deviceQsamplePer.accepts 0 per)) (fun s =>
      let reply := s.queueReply p
      s.libCommit c (entriesIf (flags = 1) ((List.range 17).flatMap (fun i =>
          [putEntry .queuePeakDepth p i 0, putEntry .queuePeakHold p i 0])) ++
        entriesIf (per != 0) [putEntry .deviceQsamplePer 0 0 per]) noAction (fun _ => reply))))

/-- TIME_SET (R457): the source of the FTB. -/
def execTimeSet (c : Core) (s : State) : Result :=
  .next (s.libRun c 0x009D (fun s o =>
    let src := o.arg 0 1
    let p := o.arg 1 1
    let per := o.arg 4 4
    let ptm := match (s.port p).info with | some i => bitOf i.pcaps.toNat 6 | none => false
    s.libArgs c (Fld.deviceFtbSrc.accepts 0 src && s.portOk p && o.arg 2 1 ≤ 1 && o.zero 3 1 &&
        (per == 0 || Fld.deviceSyncPer.accepts 0 per) &&
        (src != 1 || ((s.port p).role == .upstream && ptm && s.get .portProto p != 2)) &&
        (src != 2 || s.get .portProto p == 2)) (fun s =>
      s.libCommit c ([putEntry .deviceFtbSrc 0 0 src, putEntry .deviceFtbPort 0 0 p, putEntry .deviceWsMark 0 0 (o.arg 2 1)] ++
        entriesIf (per != 0) [putEntry .deviceSyncPer 0 0 per]) noAction noReply)))

end Sys2Proof.Machine
end

