-- ==== Sys2Proof/Machine/LibRead.lean ====
section
/-! DEFINITION. The library orders READ and INFO (R103, R108). -/

namespace Sys2Proof.Machine

/-! ### READ (R103) -/

/-- One item of READ: its value, or the fault that ends the order. -/
def State.readItem (s : State) (o : Order) (item : Nat) : Except LeverFault Nat :=
  let cls := bitsOf item 0 8
  let fid := bitsOf item 8 8
  let sub := bitsOf item 16 16
  let idx := bitsOf item 32 16
  if (classIndexes cls).isNone then .error .illegal
  else if !s.objectInRange cls idx sub || (classPool cls && !s.allocated cls idx) then .error .range
  else if !s.inScope o.priv o.tenant cls idx then .error .scope
  else match (s.touchObject cls idx sub).readField cls idx sub fid with
    | some v => .ok v
    | none => .error .illegal

/-- Read items one after another: a broken entry is found as it is read, and the first fault ends the list. -/
def State.readItems (s : State) (o : Order) : List Nat → List Byte → State × Except LeverFault (List Byte)
  | [], l => (s, .ok l)
  | i :: rest, l =>
    match s.readItem o i with
    | .error f => (s, .error f)
    | .ok v => (s.touchObject (bitsOf i 0 8) (bitsOf i 32 16) (bitsOf i 16 16)).readItems o rest (l ++ toLE 8 v)

/-- READ (R103): one 8-byte value per item, or the fault of the first item that faults. -/
def execReadFields (c : Core) (s : State) : Result :=
  .next (s.libRun c 0x0062 (fun s o =>
    let n := (o.args.length + 7) / 8
    let items := (List.range n).map (fun i => o.arg (8 * i) 8)
    s.libArgs c (n ≤ 512 && items.all (fun i => i < 2 ^ 48)) (fun s =>
      match s.readItems o items [] with
      | (s', .ok l) => s'.libReply c l
      | (s', .error f) => s'.libFault c f)))

/-! ### INFO (R108) -/

/-- Identify Switch Device: what the device says of itself. -/
def State.switchFacts (s : State) : List Nat :=
  let vs := (List.range 128).filter (fun v => s.get .vcsEnable v == 1)
  [2 * s.stationCount, 128, (s.livePorts.map (fun p => 2 ^ p)).sum, (vs.map (fun v => 2 ^ v)).sum, 128 * 256,
   s.boundVppbs.length, 32]

/-- What a port's record says; an absent or vacant port is one that is not present. -/
def State.portFacts (s : State) (p : Nat) : List Nat :=
  if s.portOk p then
    let x := s.port p
    let link : List Nat := match x.info with
      | some i => [i.width, i.rate.val, i.pmax.toNat, i.pcaps.toNat, if i.cxl then 1 else 0, if i.flit68 then 1 else 0,
                   i.mldDevices.getD 0, if i.gfd then 1 else 0]
      | none => []
    [p, 1, s.get .portLink p, s.get .portProto p, s.get .portEnable p, (s.portLanes p).2, s.get .portRateMax p,
     (match x.role with | .upstream => 0 | .downstream => 1 | .interSwitch => 2)] ++ link
  else [p, 0]

/-- What a virtual switch's record says, with its vPPBs from vPPB 0. -/
def State.vcsFacts (s : State) (v : Nat) : List Nat :=
  [v, s.get .vcsEnable v, s.get .vcsUsp v] ++ (List.range 256).flatMap (fun b =>
    [s.get .vppbKind v b, s.get .vppbPort v b, s.get .vppbLdid v b, s.get .vppbHp v b])

/-- The whole records that fit in 4,096 bytes with the payload's head. -/
def fitRecords (room : Nat) : List (List Byte) → List (List Byte)
  | [] => []
  | r :: rest => if r.length ≤ room then r :: fitRecords (room - r.length) rest else []

/-- A payload of records: its head gives the number of records that fit. -/
def recordPayload (kind : Nat) (records : List (List Byte)) : List Byte :=
  let fit := fitRecords (4096 - (Config.cxlRecord kind [0]).length) records
  Config.cxlRecord kind [fit.length] ++ fit.flatten

/-- The payload that INFO of a KIND gives, in the CXL 3.1 layout: records `start` on, `count` of them. -/
def State.infoPayload (s : State) (kind start count : Nat) : List Byte :=
  let which := (List.range count).filterMap (fun i => if start + i < 128 then some (start + i) else none)
  match kind with
  | 0 => Config.cxlRecord 0 s.switchFacts
  | 1 => recordPayload 1 (which.map (fun p => Config.cxlRecord 3 (s.portFacts p)))
  | _ => recordPayload 2 (which.map (fun v => Config.cxlRecord 4 (s.vcsFacts v)))

/-- One KIND of INFO. -/
def State.info (s : State) (c : Core) (kind : Nat) : State :=
  s.libRun c 0x0063 (fun s o =>
    s.libOp c (o.arg 0 1) kind (· ≤ 2) (fun s =>
      let start := o.arg 2 2
      let count := o.arg 4 2
      s.libArgs c (o.zero 1 1 && o.zero 6 2 &&
          (if kind = 0 then start == 0 && count == 0 else start ≤ 127 && 1 ≤ count && count ≤ 128)) (fun s =>
        s.libReply c (s.infoPayload kind start count))))

/-- INFO KIND 0 (R108): Identify Switch Device. -/
def execInfoIdentify (c : Core) (s : State) : Result := .next (s.info c 0)

/-- INFO KIND 1 (R108): Get Physical Port State. -/
def execInfoPortState (c : Core) (s : State) : Result := .next (s.info c 1)

/-- INFO KIND 2 (R108): Get Virtual CXL Switch Info. -/
def execInfoVcs (c : Core) (s : State) : Result := .next (s.info c 2)

end Sys2Proof.Machine
end

