-- ==== Sys2Proof/Machine/OrderEvents.lean ====
section
/-! DEFINITION. Orders and Fabric Manager API commands arriving on the mailbox and on MCTP, the dispatcher, deadlines, and
the end of a background command (R80 to R101, R512, R536). -/

namespace Sys2Proof.Machine

/-! ### Where a command comes from (R86 to R88) -/

/-- The mailbox holds a command of an opcode, its doorbell rung. -/
def State.mailboxHolds (s : State) (opcode : Nat) : Bool := s.ord.mailbox.doorbell && s.ord.mailbox.opcode == opcode

/-- MCTP VDMs on any port but the management port are discarded and counted (R87); a port that is down brings none. -/
def State.fromVdm (s : State) (p : Port) (body : State → State) : State :=
  if !s.portUp p.val then s
  else if s.mgmtPort = some p.val then body s
  else s.modSec (fun x => { x with discarded := x.discarded + 1 })

/-- What arrives on the management bus: a sleeping device wakes; in WATCH the AON answers with NACK, and in STANDBY the MC
takes it itself (R512). -/
def State.fromBus (s : State) (body : State → State) : State :=
  match s.power.step with
  | .asleep 2 => (body s).wakeBy 1
  | .asleep _ => s.wakeBy 1
  | .wakeFailed _ => s.wakeBy 1
  | .sagHold => s
  | _ => body s

/-- The MCTP message of SUBMIT_ORDER: one longer than reassembly takes is discarded and counted, and answered with nothing (R80,
R535). PRESUMED, log entry 135: the message type and the message header of CXL 3.1 put 13 bytes before the frame. -/
def State.reassembled (s : State) (frame : List Byte) (body : State → State) : State :=
  if 13 + frame.length ≤ largestMessage then body s else s.modSec (fun x => { x with discarded := x.discarded + 1 })

/-- SUBMIT_ORDER (R80, R86, R88, R97): an order frame on the mailbox or on MCTP. -/
def execSubmitOrder (src : OrderSource) (s : State) : Result :=
  .next (match src with
    | .mailbox =>
      if s.mailboxHolds 0xC000 then
        s.submitFrame (memBytes s.ord.mailbox.payload 0 s.ord.mailbox.payloadLen) privFM 0 0 largestFrame .mailbox
      else s
    | .vdm p eid frame =>
      s.fromVdm p (fun s => s.reassembled frame (fun s => s.submitFrame frame privFM 0 1 largestFrame (.vdm eid.toNat)))
    | .bus eid frame => s.fromBus (fun s => s.reassembled frame (fun s => s.submitFrame frame privBMC 0 1 largestFrame (.bus eid.toNat))))

/-! ### Fabric Manager API (R97 to R99, R536) -/

/-- Answer a command at once: its return code, its status word and its payload. -/
def State.answerApi (s : State) (src : RequestSource) (ret status : Nat) (data : List Byte) : State :=
  match src with
  | .mailbox => s.mailboxAnswer ret status data
  | .vdm _ eid => s.emit (.reply (.vdm eid.toNat) (toLE 2 ret ++ toLE 2 status ++ data))
  | .bus eid => s.emit (.reply (.bus eid.toNat) (toLE 2 ret ++ toLE 2 status ++ data))

/-- A command reaches the device on its source: on the mailbox, with its opcode and the doorbell. -/
def State.fromApi (s : State) (src : RequestSource) (opcodes : Nat → Bool) (body : State → State) : State :=
  match src with
  | .mailbox => if s.ord.mailbox.doorbell && opcodes s.ord.mailbox.opcode then body s else s
  | .vdm p _ => s.fromVdm p body
  | .bus _ => s.fromBus body

/-- The order that serves a command: PRIV FM, or BMC on the bus (R536). -/
def apiOrder (src : RequestSource) (libid : Nat) (args : List Byte) (replyTo : Option ReplyTo) : Order :=
  let (priv, ch, back) : Nat × Nat × ReplyTo := match src with
    | .mailbox => (privFM, 0, .mailbox)
    | .vdm _ eid => (privFM, 1, .vdm eid.toNat)
    | .bus eid => (privBMC, 1, .bus eid.toNat)
  { library := true, abi := 1, libid, args, priv, channel := ch, replyTo := replyTo.getD back, api := true, sender := back }

/-- A command that a library order serves (R98). -/
def State.apiCommand (s : State) (src : RequestSource) (opcodes : Nat → Bool) (libid : Nat) (args : List Byte) : State :=
  s.fromApi src opcodes (fun s => s.submit (apiOrder src libid args none) (decide (args.length ≤ 4096)))

/-- A background command (R99): its order is accepted and the command answers at once, or it answers with the status that
refuses it. One background command runs at a time. -/
def State.apiBackground (s : State) (src : RequestSource) (opcode libid : Nat) (args : List Byte) : State :=
  s.fromApi src (· == opcode) (fun s =>
    let o := apiOrder src libid args (some (.background opcode))
    let refusal := if s.ord.mailbox.bgOp then some Status.busy else s.admission o true
    match refusal with
    | some st => s.answerApi src (returnCode st.word) st.word []
    | none =>
      let s1 := (s.accept o).modMailbox (fun m =>
        { m with bgOp := true, bgOpcode := opcode, percent := 0, bgReturn := 0, bgVsStatus := 0, bgEnded := none })
      s1.answerApi src backgroundStarted Status.ok.word [])

/-- The opcodes the device supports by number (R97, R98). -/
def apiOpcodes : List Nat :=
  [0x5100, 0x5101, 0x5102, 0x5103, 0x5200, 0x5201, 0x5202, 0x5203, 0x5300, 0x5301, 0x5302, 0xC000]

/-- VENDOR_OPCODE_UNSUPPORTED (R97, R98): any other opcode returns Unsupported. No order ran, so VS_STATUS is a free value. -/
def execVendorOpcodeUnsupported (src : RequestSource) (opcode : BitVec 16) (s : State) : Result :=
  .next (if apiOpcodes.contains opcode.toNat then s
    else s.fromApi src (· == opcode.toNat) (fun s => s.drawn.answerApi src returnUnsupported (s.free % 65536) []))

/-- IDENTIFY_SWITCH_DEVICE (R98): INFO KIND 0. -/
def execIdentifySwitchDevice (src : RequestSource) (s : State) : Result :=
  .next (s.apiCommand src (· == 0x5100) 0x0063 (toLE 8 0))

/-- GET_PHYSICAL_PORT_STATE (R98): INFO KIND 1. -/
def execGetPhysicalPortState (src : RequestSource) (start count : BitVec 16) (s : State) : Result :=
  .next (s.apiCommand src (· == 0x5101) 0x0063 (toLE 2 1 ++ toLE 2 start.toNat ++ toLE 2 count.toNat ++ toLE 2 0))

/-- PHYSICAL_PORT_CONTROL (R98, R105): PORT_CTL OP 0 to 2; a higher action is no action of the command. -/
def execPhysicalPortControl (src : RequestSource) (port op : Byte) (s : State) : Result :=
  .next (s.apiCommand src (· == 0x5102) 0x0003 ([port, if op.toNat ≤ 2 then op else 0xFF] ++ toLE 6 0))

/-- SEND_PPB_CXLIO_CONFIG_REQUEST (R98): PPB_CFG. -/
def execSendPpbCxlioConfigRequest (src : RequestSource) (port op : Byte) (reg : BitVec 16) (be : Byte) (data : BitVec 32)
    (s : State) : Result :=
  .next (s.apiCommand src (· == 0x5103) 0x0004 ([port, op] ++ toLE 2 reg.toNat ++ [be, 0, 0, 0] ++ toLE 4 data.toNat))

/-- GET_VIRTUAL_CXL_SWITCH_INFO (R98): INFO KIND 2. -/
def execGetVirtualCxlSwitchInfo (src : RequestSource) (start count : BitVec 16) (s : State) : Result :=
  .next (s.apiCommand src (· == 0x5200) 0x0063 (toLE 2 2 ++ toLE 2 start.toNat ++ toLE 2 count.toNat ++ toLE 2 0))

/-- BIND_VPPB (R99): BIND as a background command. -/
def execBindVppb (src : RequestSource) (vcs vppb kind port : Byte) (ldid : BitVec 16) (s : State) : Result :=
  .next (s.apiBackground src 0x5201 0x0011 ([vcs, vppb, kind, port] ++ toLE 2 ldid.toNat ++ toLE 2 0))

/-- UNBIND_VPPB (R99): UNBIND as a background command. -/
def execUnbindVppb (src : RequestSource) (vcs vppb option : Byte) (s : State) : Result :=
  .next (s.apiBackground src 0x5202 0x0012 ([vcs, vppb, option] ++ toLE 5 0))

/-- GENERATE_AER_EVENT (R98): AER_GEN. -/
def execGenerateAerEvent (src : RequestSource) (vcs vppb : Byte) (error : BitVec 32) (header : List Byte) (s : State) : Result :=
  .next (s.apiCommand src (· == 0x5203) 0x0015 ([vcs, vppb, 0, 0] ++ toLE 4 error.toNat ++ header))

/-- The argument block of LD_TUNNEL (R303). -/
def tunnelArgs (port : Byte) (pbr : Bool) (target : Nat) (request : List Byte) : List Byte :=
  [port, if pbr then 1 else 0] ++ toLE 2 target ++ toLE 4 0 ++ request

/-- TUNNEL_MANAGEMENT_COMMAND (R98): LD_TUNNEL. -/
def execTunnelManagementCommand (src : RequestSource) (port : Byte) (target : BitVec 16) (request : List Byte) (s : State) : Result :=
  .next (s.apiCommand src (· == 0x5300) 0x0014 (tunnelArgs port false target.toNat request))

/-- SEND_LD_CXLIO_CONFIG_REQUEST (R98): LD_TUNNEL. -/
def execSendLdCxlioConfigRequest (src : RequestSource) (port : Byte) (ldid : BitVec 16) (request : List Byte) (s : State) : Result :=
  .next (s.apiCommand src (· == 0x5301) 0x0014 (tunnelArgs port false ldid.toNat request))

/-- SEND_LD_CXLIO_MEMORY_REQUEST (R98): LD_TUNNEL. -/
def execSendLdCxlioMemoryRequest (src : RequestSource) (port : Byte) (ldid : BitVec 16) (request : List Byte) (s : State) : Result :=
  .next (s.apiCommand src (· == 0x5302) 0x0014 (tunnelArgs port false ldid.toNat request))

/-- PBR_AND_GFD_COMMAND (R98): PBR_SET, READ, RULE_STAGE, or LD_TUNNEL to a GFD. Their opcodes are those of CXL 3.1, outside
the numbers of R98. -/
def execPbrAndGfdCommand (src : RequestSource) (cmd : FabricCommand) (s : State) : Result :=
  let other : Nat → Bool := fun op => !apiOpcodes.contains op && decide (op < 0xC000)
  .next (match cmd with
    | .pbrSet args => s.apiCommand src other 0x0013 args
    | .read args => s.apiCommand src other 0x0062 args
    | .ruleStage args => s.apiCommand src other 0x0023 args
    | .gfd port pbrId request => s.apiCommand src other 0x0014 (tunnelArgs port true pbrId.toNat request))

/-- BACKGROUND_COMPLETE (R94, R96, R99): the library order has ended; PERCENT is 100 and the background registers hold its
result. -/
def execBackgroundComplete (s : State) : Result :=
  .next (match s.ord.mailbox.bgEnded with
    | none => s
    | some st =>
      let s1 := s.modMailbox (fun m => { m with bgOp := false, percent := 100, bgReturn := returnCode st, bgVsStatus := st, bgEnded := none })
      if s.ord.mailbox.bgInt then s1.emit (.mailboxInterrupt true) else s1)

/-! ### Windows, the dispatcher and deadlines (R82, R90, R101) -/

/-- Whether a tenant window can be reached: in BAR0 over the management port, or in the tenant's aperture over a port of the tenant;
asleep every link is down (R93, R415). -/
def State.windowReached (s : State) (t : Nat) : Bool :=
  (match s.mgmtPort with | some p => s.portUp p | none => false) || s.livePorts.any (fun p => s.portUp p && s.get .portTenant p == t)

/-- TW_GO (R93, R100, R101, R415): a write of TW_CTL in a tenant window, in the tenant's aperture or in BAR0. -/
def execTwGo (t : TenantId) (ctl : BitVec 32) (s : State) : Result :=
  .next (if s.windowReached t.val then s.windowGo t.val ctl.toNat else s)

/-- ORDER_DISPATCH (R90). -/
def execOrderDispatch (c : Core) (s : State) : Result := .next (s.dispatch c.val)

/-- ORDER_DEADLINE (R82): an order still queued after DEADLINE µs ends with TIMEOUT. -/
def execOrderDeadline (id : Nat) (s : State) : Result :=
  .next (match s.ord.queue.find? (fun o => o.id == id) with
    | some o =>
      if s.expired o then
        (s.modOrd (fun q => { q with queue := q.queue.filter (fun x => x.id != id) })).endQueued o .timeout
      else s
    | none => s)

end Sys2Proof.Machine
end

