-- ==== Sys2Proof/WellFormed.lean ====
section
/-! DEFINITION. The checks on a command's operands that their types do not already make. -/

namespace Sys2Proof

/-- A Wayside frame holds as many payload bytes as its header says (R519). -/
def WaysideFrame.wellFormed (f : WaysideFrame) : Bool := f.payload.length = f.len.toNat

/-- The length of a frame fits its format: 16 header bytes and the unit, which is 16 or 80 bytes for a CXL message and up to 4,336
for a TLP or a wrap (R255, R257). -/
def frameFits (fmt len : Nat) : Bool :=
  match fmt with
  | 0 | 13 => 17 ≤ len && len ≤ 4352
  | 2 | 5 | 9 | 12 => len == 96
  | 1 | 3 | 4 | 6 | 7 | 8 | 10 | 11 => len == 32
  | _ => false

/-- The operation of a PCIe AtomicOp is FetchAdd, Swap or CAS (R357). -/
def FrameKind.opFits : FrameKind → Bool
  | .ioAtomic op => op.val ≤ 2
  | _ => true

/-- A frame has the length of its format, which is not reserved, it asks for at least one byte, and its atomic operation is one of
its kind (R255, R257, R357). -/
def FrameIn.wellFormed (f : FrameIn) : Bool := frameFits f.fmt.val f.len && 1 ≤ f.size && f.kind.opFits

/-- A trained width (R142). -/
def LinkInfo.wellFormed (i : LinkInfo) : Bool :=
  i.width = 1 || i.width = 2 || i.width = 4 || i.width = 8 || i.width = 16

/-- The operands are ones the rule of the command can meet. -/
def Instr.wellFormed : Instr → Bool
  | .frameAdmit f => f.wellFormed
  | .linkUp _ i => i.wellFormed
  | .trunkFlitReceive _ b c f => b.length = 242 && c.length = 8 && f.length = 6
  | .alignmentMarker _ _ b _ => b.length = 16
  | .channelMeasurementDone _ l => l.length = 8
  | .eyeScanEnd _ _ _ e => e.length ≤ 2048
  | .watchSample t _ _ => t.length = 4
  | .railSample v => v.length = 6
  | .sensorSample v => v.length = 13
  | .registerWrite a n _ => 1 ≤ n && n ≤ 8 && a % 8 + n ≤ 8
  | .waysideOrderFrame f => f.wellFormed
  | .waysideReply f => f.wellFormed
  | .timeMark f => f.wellFormed
  | .waysideWake f => f.wellFormed
  | .generateAerEvent _ _ _ _ h => h.length = 32
  | .bootPhase0 _ _ r => r.length = 32
  | _ => true

end Sys2Proof
end

