-- ==== Sys2Proof/Machine/SwitchEvents.lean ====
section
/-! DEFINITION. The events of the Turntable, the Granary and the output arbiter, and what a host does to its virtual
switch (R242 to R254, R270 to R292, R298, R305, R370, R423 to R431). A periodic event asserts its own instant; an event
whose condition the state does not meet changes nothing. -/

namespace Sys2Proof.Machine

/-! ### Rounds (R242 to R254, R504) -/

/-- The highest powered quadrant above G0 that DOZE may gate: its REQ is 1 (R504). -/
def State.autoCandidate (s : State) : Option Nat :=
  [3, 2, 1].find? (fun q => s.domainOn (quadrantDomain q) && s.domainReq (quadrantDomain q) == 1 && !s.sw.gating.contains q)

/-- Whether the occupied cells are below 25 % of the capacity without that quadrant. -/
def State.occupancyLow (s : State) : Bool :=
  s.autoCandidate.isSome && decide (4 * s.occupied < Config.quadrantWagons * (s.quadrantsOn.length - 1))

/-- Note since when occupancy has stayed low. -/
def State.noteOccupancy (s : State) : State :=
  s.modSw (fun w => { w with lowSince := if s.occupancyLow then (match w.lowSince with | some t => some t | none => some s.ftb) else none })

/-- The errors that the hardware finds by itself and repairs: each is counted as corrected for its unit, with the number of its
memory (R587, R589, R603). DESIGN CHOICE, log entry 159: the spec does not say when one is found; here the next round boundary
finds it. -/
def State.repairSingles (s : State) : State :=
  s.errors.singles.foldl (fun (s : State) e => s.corrected (ErrorAt.atUnit { code := 0x0B01, detail := [e.2] } e.1))
    { s with errors := { s.errors with singles := [] } }

/-- An uncorrectable error in the request tracker of a station resets the station (R606); it is found as a corrected one is. -/
def State.resetTrackers (s : State) : State :=
  s.errors.badTracker.foldl (fun (s : State) n => if s.stationIn n then s.stationReset n else s)
    { s with errors := { s.errors with badTracker := [] } }

/-- ROUND_BOUNDARY (R242 to R246, R286, R410, R591): a round ends. The core runs while the Turntable does (R249). -/
def execRoundBoundary (s : State) : Result :=
  .next (if s.sw.running then s.emptyShapers.round.lendAll.noteOccupancy.sendDue.repairSingles.resetTrackers else s)

/-- PARTICIPANT_STUCK (R250, R606): a stuck station goes dark, its ports go down, and it is reset; a stuck siding is fatal. -/
def execParticipantStuck (who : Participant) (s : State) : Result :=
  .next (match who with
    | .station n =>
      if s.stationIn n.val then
        let s1 := (s.stationReset n.val).modStation n.val (fun x => { x with dark := true })
        s1.contain (ErrorAt.atUnit { code := 0x0302, place := n.val, detail := [s.sw.rounds] } n.val)
      else s
    | .siding j => if s.sidingIn j.val then s.fatal 0x0303 0xFFFF false [j.val, s.sw.rounds] else s)

/-- The credits a port still owes are released within the new allowance (R252). -/
def State.payOwed (s : State) (p : Nat) : State :=
  (List.range 8).foldl (fun s c =>
    let owed := Tab.get 0 (s.port p).owed c
    let room := s.portAllowance p - (s.port p).creditUsed
    let w := min owed room
    if w = 0 then s
    else (s.modPort p (fun x => { x with owed := Tab.set x.owed c (owed - w) })).giveCredit p c w) s

/-- RATE_WINDOW (R251 to R253): a window of 1,024 ticks, aligned on the FTB, ends at its tick with the rounds it counted; every station's
allowance is formed anew, with the sidings that participate as the next window starts. Under a sag warning, and until one full
window after it, M counts as 819. -/
def execRateWindow (ends : Nat) (s : State) : Result :=
  .next (if s.ftb = ends && s.ftb % 1024 = 0 && s.sw.windowAt != s.ftb then
    let rounds := s.sw.rounds - s.sw.windowRounds
    let m := if s.sw.sagThrottle || s.sw.windowSags then min 819 rounds else rounds
    let s1 := s.modSw (fun w => { w with
      recentM := w.recentM.filter (fun e => s.ftb < e.1 + 1000000) ++ [(s.ftb, rounds)], windowSags := w.sagThrottle,
      windowAt := s.ftb, windowRounds := w.rounds, windowS := s.sidingsIn })
    let s2 := (List.range s.stationCount).foldl (fun s n =>
      s.modStation n (fun x => { x with allowance := allowanceFor m s.sidingsIn })) s1
    let s3 := if (List.range s.stationCount).any (fun n => (s2.station n).allowance < 2048) then s2.count 84 0x072 else s2
    s3.livePorts.foldl (fun s p => (s.modPort p (fun x => { x with creditUsed := 0 })).payOwed p) s3
  else s)

/-! ### Frames (R255 to R283, R423 to R431) -/

/-- Whether the bytes of a frame have a header of these fields: what a frame keeps across a Trunk link (R256, R259). -/
def frameIs (fmt len cls : Nat) (poison : Bool) (b : List Byte) : Bool :=
  let h := fieldAt b 0 8
  bitsOf h 0 13 == len && bitsOf h 13 4 == fmt && bitsOf h 17 3 == cls && bitOf h 24 == poison

/-- A frame arrives with its credit (R276), and is admitted. -/
def State.arrive (s : State) (f : FrameIn) : State :=
  s.withCredit f.kind f.port.val (s.frameClass f) ((f.len + 63) / 64) (fun s => s.admitFrame f)

/-- FRAME_ADMIT (R255, R270, R376, R395, R405, R415): a frame arrives at the input station of a port that is up. A frame
of FMT 13 is a wrap, which arrives by its own event. -/
def execFrameAdmit (f : FrameIn) (s : State) : Result :=
  .next (if f.wellFormed && s.sw.running && s.portOk f.port.val && s.portUp f.port.val && s.stationIn (portStation f.port.val) then
    if s.get .portProto f.port.val = 2 then
      match s.takeArrived f.port.val 0 (frameIs f.fmt.val f.len f.cls.val f.poison) with
      | some (b, s1) => s1.arrive { f with unit := some (b.drop 16), made := false }
      | none => s
    else s.arrive { f with unit := none, made := false }
  else s)

/-- LOAN_RETURN (R278): a block that has held no wagon for 10,000 ticks goes back to the spare. -/
def execLoanReturn (p : Port) (s : State) : Result :=
  let x := s.port p.val
  .next (if 0 < x.loanBlocks && decide (blocksFor (s.loanUsed p.val) < x.loanBlocks) &&
      decide ((x.loanIdle.getD (x.loanBlocks - 1) s.ftb) + 10000 ≤ s.ftb) then
    (s.modPort p.val (fun x => { x with loanBlocks := x.loanBlocks - 1, loanIdle := x.loanIdle.take (x.loanBlocks - 1) })).lendAll
  else s)

/-- ADMISSION_RELEASE (R429, R430): the head of an admission queue leaves when its tenant's shaper lets it, and pays. -/
def execAdmissionRelease (p : Port) (cl : Class) (s : State) : Result :=
  let key := p.val * 8 + cl.val
  .next (match Tab.get [] s.sw.adm key with
    | [] => s
    | n :: rest =>
      match s.frame n with
      | none => s
      | some f =>
        if s.tRate f.tenant = 0 || decide (0 < s.tTokens f.tenant) then
          ((s.modSw (fun w => { w with adm := Tab.set w.adm key rest })).chargeTenant f.tenant f.charge).toSpread n
        else s)

/-- The oldest message of a port's bypass channel starts. -/
def State.startBypass (s : State) (p : Nat) : State :=
  match Tab.get [] s.sw.bypass p with
  | [] => s
  | (_, m) :: rest =>
    if s.replayRoom p (64 * m.wagons) then
      (({ s with outbox := s.outbox ++ [m], sw := { s.sw with bypass := Tab.set s.sw.bypass p rest } }).modPort p
        (fun x => { x with sending := some 0, bypassRun := x.bypassRun + 1 })).holdFlits p (64 * m.wagons)
    else s

/-- FRAME_START (R424, R425): the arbiter of a PCIe or CXL port starts what it chooses. The event asserts the partner's
flow-control credit. A Trunk port starts its frames at its flit boundaries (R426). -/
def execFrameStart (p : Port) (s : State) : Result :=
  let l := s.get .portLink p.val
  .next (if s.get .portProto p.val != 2 && (l == 4 || l == 5) && (s.port p.val).sending.isNone then
    match s.choose p.val with
    | (s1, .bypass) => s1.startBypass p.val
    | (s1, .frame c n overrun) => (s1.startFrame p.val c n overrun).modPort p.val (fun x => { x with bypassRun := 0 })
    | (_, .nothing) => s
  else s)

/-- FRAME_SENT (R220, R423): sending ends; the frame has left, and its cells and credits are freed. -/
def execFrameSent (p : Port) (s : State) : Result :=
  .next (if s.get .portProto p.val = 2 then s
    else
      match (s.port p.val).sending with
      | none => s
      | some n =>
        match s.frame n with
        | some f => (s.emit (.send p.val (s.leaving p.val f))).endSending p.val
        | none => s.endSending p.val)

/-! ### Hosts and their virtual switches (R291, R292, R298, R305, R370) -/

/-- Slot Capabilities of a vPPB (R305), in the register layout of PCI Express Base 7.0: ILIM is in mA. -/
def State.slotCapabilities (s : State) (v b : Nat) : Nat :=
  let slot := if s.get .vppbKind v b = 0 then none else s.slotOfPort (s.get .vppbPort v b)
  let limit := match slot with | some n => s.get .slotIlim n * 12 / 1000 | none => 0
  let number := match slot with | some n => n + 1 | none => 0
  1 + 2 + 2 ^ 3 + 2 ^ 4 + 2 ^ 6 + limit * 2 ^ 7 + 2 ^ 18 + number * 2 ^ 19

/-- Slot Status of a vPPB, with Data Link Layer Link Active in bit 29, where Link Status holds it in its own word. -/
def State.slotStatus (s : State) (v b : Nat) : Nat :=
  let x := s.vppb v b
  let bit : Bool → Nat → Nat := fun c i => if c then 2 ^ i else 0
  bit x.attentionPressed 0 + bit x.presenceChanged 3 + bit x.presence 6 + bit x.linkChanged 8 + bit x.linkActive 29

/-- A configuration request for a bus below a virtual switch is routed by binding (R291, R292). -/
def State.configToBus (s : State) (v usp bus fn : Nat) (write : Bool) (reg data : Nat) : State :=
  match s.busTarget v bus with
  | some b =>
    match s.routeVppb v b with
    | .to p _ => if s.portUp p then s.emit (.configSent p write (fn * 4096 + reg) 0xF data) else s.emit (.answer usp 0 ansUR false)
    | _ => s.emit (.answer usp 0 ansUR false)
  | none => s.emit (.answer usp 0 ansUR false)

/-- The vPPB at a device and function number of a switch's internal bus: vPPB v is device v mod 32, function v div 32 (R291). -/
def vppbAt (device fn : Nat) : Nat := 32 * fn + device

/-- Whether an HDM decoder supports an interleave: the ways of CXL 3.1, and granularities from 256 B to 16 KiB (R292). -/
def hdmSupported (granularity ways : Nat) : Bool :=
  [256, 512, 1024, 2048, 4096, 8192, 16384].contains granularity && [1, 2, 3, 4, 6, 8, 12, 16].contains ways

/-- CONFIGURATION_REQUEST (R291, R292, R298, R305, R370, R595, R599): a host writes or reads the configuration of its
virtual switch, which is present while the switch is enabled. -/
def execConfigurationRequest (v : Vcs) (req : ConfigRequest) (s : State) : Result :=
  .next (match s.uspPort v.val with
    | none => s
    | some usp =>
      let vp : VppbNo → (VppbState → VppbState) → State := fun b f => s.modVppb v.val b.val f
      match req with
      | .readSlotCapabilities b => s.emit (.configData v.val (s.slotCapabilities v.val b.val))
      | .readSlotStatus b => s.emit (.configData v.val (s.slotStatus v.val b.val))
      | .readSlotStatusAt d fn => s.emit (.configData v.val (s.slotStatus v.val (vppbAt d.val fn.val)))
      | .readPortCapability _ c => s.emit (.configData v.val c.value)
      | .readEpoch => s.emit (.configData v.val s.ledger.epoch)
      | .busRange b lo hi => vp b (fun x => { x with secondary := lo.toNat, subordinate := hi.toNat })
      | .memoryWindow b base limit => vp b (fun x => { x with memBase := base, memLimit := limit })
      | .hdmDecoder i base size g ts =>
        if hdmSupported g ts.length then
          s.modVcs v.val (fun x => { x with hdm := Tab.set x.hdm i.val { base := base, size := size, granularity := g, targets := ts.map (·.val) } })
        else s
      | .fastEntry i base size idt => s.modVcs v.val (fun x => { x with fast := Tab.set x.fast i.val (base, size, idt) })
      | .idtEntry i d => s.modVcs v.val (fun x => { x with idt := Tab.set x.idt i.val d.toNat })
      | .indicators b att pow => vp b (fun x => { x with attention := att.val, power := pow.val })
      | .clearSlotChanges b => vp b (fun x => { x with presenceChanged := false, linkChanged := false, attentionPressed := false })
      | .dpcControl b en comp => vp b (fun x => { x with dpcEnabled := en, dpcCompletion := comp })
      | .aerMask b m => vp b (fun x => { x with aerMask := m.toNat })
      | .aerSeverity b m => vp b (fun x => { x with aerSeverity := m.toNat })
      | .aerClear b m => vp b (fun x => { x with aerStatus := x.aerStatus &&& (0xFFFFFFFF - m.toNat) })
      | .toBus bus fn w reg d => s.configToBus v.val usp bus.toNat fn.toNat w reg.toNat d.toNat)

end Sys2Proof.Machine
end

