-- ==== Sys2Proof/Machine/PowerEvents.lean ====
section
/-! DEFINITION. The events of Siding state, power domains, entry into STANDBY and WATCH, wakes, supplies, sensors and
reference clocks (R27 to R29, R179 to R187, R268, R269, R285, R368, R369, R499 to R516, R524 to R530, R585, R629). An event
whose condition the state does not meet changes nothing. -/

namespace Sys2Proof.Machine

/-! ### Siding state (R182 to R187, R235) -/

/-- Whether every station of a group asks for Siding state and may enter it. -/
def State.groupMayEnter (s : State) (n : Nat) : Bool :=
  (s.stationGroup n).all (fun m =>
    m < s.stationCount && s.get .domainState (stationDomain m) == 1 && (s.station m).sidingState == SidingState.awake &&
    s.stationReq m == 2 && s.sidingEligible m)

/-- SIDING_ENTRY (R182): a station, or an x16 pair, begins to enter Siding state. -/
def execSidingEntry (st : Station) (s : State) : Result :=
  .next (if s.groupMayEnter st.val then s.enterSiding st.val else s)

/-- SIDING_ENTRY_DONE (R182, R186): DOMAIN.STATE reads 2, and a latched wake starts the exit at once. -/
def execSidingEntryDone (st : Station) (s : State) : Result :=
  .next (if (s.station st.val).sidingState = SidingState.entering then
    let group := s.stationGroup st.val
    let latched := group.any (fun m => (s.station m).wakeLatched)
    let s1 := group.foldl (fun s m => (s.setDomain (stationDomain m) 2).modStation m (fun x =>
      { x with sidingState := .siding, wakeLatched := false })) s
    if latched then s1.wakeStation st.val else s1
  else s)

/-- Whether a wake source names something of the station that may wake it (R184, R235). -/
def State.wakesStation (s : State) (n : Nat) (src : SidingWakeSource) : Bool :=
  let mine := (s.stationGroup n).flatMap s.stationPorts
  match src with
  | .clkreq p => mine.contains p.val
  | .squelch p => mine.contains p.val &&
      ((!s.portUp p.val && s.get .portEnable p.val == 1) || (s.get .portProto p.val == 2 && s.get .portLink p.val == 9))
  | .wagonQueued p => mine.contains p.val && s.queuedFor p.val
  | .slotPower k => mine.contains (s.get .slotPort k.val) && (s.slot k.val).pgood

/-- SIDING_WAKE (R184, R186, R235): a wake source starts the exit, or is latched while the station enters. -/
def execSidingWake (st : Station) (src : SidingWakeSource) (s : State) : Result :=
  .next (if s.wakesStation st.val src then
    match src with
    | .squelch p => (if s.get .portLink p.val = 9 then s.unpark p.val else s).wakeStation st.val
    | _ => s.wakeStation st.val
  else s)

/-- SIDING_EXIT_READY (R185, R235): DOMAIN.STATE reads 1, enabled link-down ports enter Detect, and Trunk ports that are to
leave PARKED recover. -/
def execSidingExitReady (st : Station) (s : State) : Result :=
  .next (if (s.station st.val).sidingState = SidingState.exiting then
    let group := s.stationGroup st.val
    let s1 := group.foldl (fun s m => (s.setDomain (stationDomain m) 1).modStation m (fun x => { x with sidingState := .awake })) s
    let s2 := group.foldl (fun s m => s.detectPorts m) s1
    (group.flatMap s2.stationPorts).eraseDups.foldl (fun s p =>
      if (s.port p).ctl.parkExit && s.get .portLink p == 9 then
        (s.enterRecovery p).modCtl p (fun c => { c with parkExit := false }) else s) s2
  else s)

/-! ### Domains (R28, R29, R268, R269, R285, R369, R503, R504) -/

/-- DOMAIN_POWER_UP_DONE (R503): a domain that was coming up reaches LOGIC_RDY; one whose REQ returned to 0 does not come
up. -/
def execDomainPowerUpDone (d : Domain) (s : State) : Result :=
  .next (if (Tab.find s.power.powering d.val).isSome && s.awake then
    if s.domainReq d.val = 0 then s.modPower (fun p => { p with powering := Tab.drop p.powering d.val })
    else s.domainUp d.val
  else s)

/-- Whether a station has no port that is link-up or still being flushed (R28, R289). -/
def State.stationEmpty (s : State) (n : Nat) : Bool :=
  (s.stationPorts n).all (fun p => !s.portUp p && !(s.port p).flushing && !s.portHeld p)

/-- STATION_DOMAIN_OFF (R28, R503): with REQ 0 and every port flushed, the station's domain goes off; from then on its slots
are null. -/
def execStationDomainOff (st : Station) (s : State) : Result :=
  let d := stationDomain st.val
  .next (if st.val < s.stationCount && s.domainReq d == 0 && s.domainOn d && s.stationEmpty st.val then
    let s1 := (s.setDomain d 0).modStation st.val (fun x => { velocity := x.velocity })
    let s2 := (s1.stationPorts st.val).foldl (fun s p => s.put .portLink p 0 (s.restLink p)) s1
    let s3 := (List.range 8).foldl (fun s i => s.modLane (8 * st.val + i) (fun l => { l with test := {}, scan := none })) s2
    s3.drivePerst st.val
  else s)

/-- QUADRANT_GATE_DRAINED (R29, R268, R285): the sidings of the quadrant are empty, the remap has switched, and what stays
holds every wagon and every loan taken, so the quadrant is gated. -/
def execQuadrantGateDrained (q : Quadrant) (s : State) : Result :=
  let left := s.quadrantsOn.length - 1
  .next (if s.sw.gating.contains q.val && s.sw.gated.contains q.val && !s.quadrantHeld q.val &&
      decide (s.occupied ≤ Config.quadrantWagons * left) && decide (s.loansTaken ≤ s.poolWith left) then
    (s.setDomain (quadrantDomain q.val) 0).modSw (fun w => { w with gating := w.gating.filter (· != q.val) })
  else s)

/-- PINNED_REMAP (R267, R268): no siding holds a pinned wagon, so the remap changes, with the wagons that wait, and pinned spreading
resumes. -/
def execPinnedRemap (s : State) : Result :=
  .next (if s.sw.remapping && !s.pinnedHeld then
    (s.modSw (fun w => { w with gated := w.remapTo, remapping := false })).requeuePinned else s)

/-- QUADRANT_AUTO_GATE (R504): in DOZE, occupancy has stayed low for 100 µs, and the highest powered quadrant is gated. -/
def execQuadrantAutoGate (s : State) : Result :=
  .next (if s.awake && s.get .devicePstate 0 == 1 then
    match s.sw.lowSince, s.autoCandidate with
    | some t, some q => if t + 100000 ≤ s.ftb then (s.gateQuadrant q).modSw (fun w => { w with lowSince := none }) else s
    | _, _ => s
  else s)

/-- The lowest quadrant that DOZE has gated, or is gating, while its REQ is 1. -/
def State.autoGated (s : State) : Option Nat :=
  (List.range 4).find? (fun q => s.domainReq (quadrantDomain q) == 1 && (!s.domainOn (quadrantDomain q) || s.sw.gating.contains q))

/-- QUADRANT_AUTO_UNGATE (R504): in DOZE, occupancy passes 50 %, or a loan block could not be taken. -/
def execQuadrantAutoUngate (s : State) : Result :=
  .next (if s.awake && s.get .devicePstate 0 == 1 &&
      (decide (Config.quadrantWagons * s.quadrantsOn.length < 2 * s.occupied) || s.sw.loanFailed) then
    match s.autoGated with
    | some q =>
      let s1 := s.modSw (fun w => { w with loanFailed := false })
      if s.domainOn (quadrantDomain q) then s1.ungateQuadrant q else s1.powerUp (quadrantDomain q)
    | none => s
  else s)

/-- The Loft writes its dirty lines back; what it cannot write is lost and recorded (R368). -/
def State.emptyLoft (s : State) : State :=
  let s1 := s.writeBackAll.loseHeld
  s1.modCoh (fun c => { Coherence.cleared c with untracked := c.untracked })

/-- PD3_PD4_OFF (R368, R369): no line is tracked and nothing is under way, so what REQ 0 names goes off. -/
def execPd3Pd4Off (s : State) : Result :=
  .next (if s.coh.goingOff && !s.anyTracked && s.coh.locks.isEmpty && s.coh.suspended.isEmpty then
    let s1 := s.emptyLoft
    [3, 4].foldl (fun s d => if s.domainReq d = 0 then s.setDomain d 0 else s) s1
  else s)

/-! ### Entry into STANDBY and WATCH (R508, R509) -/

/-- Queued orders that an entry ends: those of the mailbox, the management VDM and the tenant windows. -/
def Order.endsAtEntry (o : Order) : Bool := o.channel == 0 || o.channel == 4 || (o.channel == 1 && o.priv != privBMC)

/-- No order runs: resident cores halt, and the queued orders that do not stay end with ABORTED (R508 step 2). -/
def State.entryEndsOrders (s : State) : State :=
  let s2 := s.residentCores.foldl (fun s c => s.haltResident c) s
  let gone := s2.ord.queue.filter Order.endsAtEntry
  let s3 := s2.modOrd (fun q => { q with queue := q.queue.filter (fun o => !o.endsAtEntry) })
  gone.foldl (fun s o => s.endQueued o .aborted) s3

/-- Resident cores that halted go on, and the dispatcher starts orders again. -/
def State.ordersResume (s : State) : State :=
  let s1 := s.residentCores.foldl (fun s c => s.modCore c (fun k =>
    if k.mode = .halted then { k with mode := .running, petAt := s.ftb } else k)) s
  s1.modOrd (fun q => { q with noStart := false })

/-- The tenants that still have a tracked line. -/
def State.trackedTenants (s : State) : List Nat :=
  ((s.coh.dir.filter (fun e => e.2.state != .invalid)).map (fun e => e.2.tenant)).eraseDups

/-- ENTRY_ORDERS_ENDED (R508 steps 1 to 3, R509): orders have ended, and while one runs nothing happens; where a line is tracked the entry is abandoned and
PSTATE returns to what it was, else the links are next. -/
def execEntryOrdersEnded (s : State) : Result :=
  .next (match s.power.step with
    | .entry b 1 =>
      if s.orderRunning then s
      else
      let s1 := s.entryEndsOrders
      match s1.trackedTenants with
      | t :: _ =>
        let s2 := (s1.modPower (fun p => { p with step := .run, wakeLatched := false })).ordersResume
        (s2.devicePut .devicePstate 0 0 s.power.priorPstate).contain { code := 0x0A01, tenant := t, detail := [t] }
      | [] => s1.modPower (fun p => { p with step := .entry b 2, entryAt := s.ftb })
    | _ => s)

/-- Whether a non-posted request is open: in the switch, or sent and unanswered (R508 step 4). -/
def State.requestsOpen (s : State) : Bool :=
  s.ports.any (fun e => !e.2.opens.isEmpty) || s.sw.frames.any (fun e => e.2.inp.kind.nonPosted && !e.2.copy)

/-- ENTRY_LINKS_DOWN (R508 step 4): once the open non-posted requests have completed, or after 1 ms, every link goes down and is
flushed; the agents die with reason 1. -/
def execEntryLinksDown (s : State) : Result :=
  .next (match s.power.step with
    | .entry b 2 => if s.requestsOpen && decide (s.ftb < s.power.entryAt + ms 1) then s else s.allLinksDown.modPower (fun p => { p with step := .entry b 3 })
    | _ => s)

/-- The device has gone to sleep: a wake latched during the entry starts the exit at once (R515). -/
def State.fallAsleep (s : State) (state : Nat) : State :=
  s.modPower (fun p => if p.wakeLatched then { p.wakeFrom state with wakeLatched := false } else { p with step := .asleep state })

/-- ENTRY_DOMAINS_OFF (R508 step 5, R249, R502): the Loft writes back, the domains go off, the Turntable stops holding its
round count, and PD2 and PD9 are retained. -/
def execEntryDomainsOff (s : State) : Result :=
  .next (match s.power.step with
    | .entry b 3 =>
      if s.ports.any (fun e => e.2.flushing) then s
      else
        let s1 := ((s.emptyLoft).setDomains standbyOff 0).setDomains [2, 9] 2
        let s2 : State := { s1 with
          sw := { rounds := s1.sw.rounds, windowAt := s1.sw.windowAt, windowRounds := s1.sw.windowRounds, sagThrottle := s1.sw.sagThrottle, windowSags := s1.sw.windowSags }
          stations := s1.stations.map (fun (e : Nat × StationState) => (e.1, ({ velocity := e.2.velocity } : StationState)))
          ports := s1.ports.map (fun (e : Nat × PortState) =>
            (e.1, { e.2 with loanBlocks := 0, loanIdle := [], credit := [], creditUsed := 0, owed := [], sending := none, opens := [] })) }
        let s3 := (List.range 64).foldl (fun s n => s.drivePerst n) s2
        if b = 3 then s3.modPower (fun p => { p with step := .entry 3 5, powering := [] })
        else (s3.modPower (fun p => { p with powering := [] })).fallAsleep 2
    | _ => s)

/-- ENTRY_RAILS_OFF (R508 step 6): PD1, PD2 and PD9 go off and the regulators are released. -/
def execEntryRailsOff (s : State) : Result :=
  .next (match s.power.step with
    | .entry 3 5 => ((s.setDomains [1, 2, 9] 0).modPower (fun p => { p with vrEn := [] })).fallAsleep 3
    | _ => s)

/-! ### Wakes (R511 to R516) -/

/-- WAKE (R511): an enabled source arrives; source 7 only once the FTB has reached WAKE_AT. -/
def execWake (src : Fin 8) (s : State) : Result :=
  .next (if src.val = 7 && !(s.get .deviceWakeAt 0 != 2 ^ 64 - 1 && s.get .deviceWakeAt 0 ≤ s.ftb) then s else s.wakeBy src.val)

/-- WATCH_SAMPLE (R511, R516): once every WATCH_PER, aligned to the FTB, temperatures, slot windows and squelch; each finding whose source is enabled wakes. -/
def execWatchSample (temps : List Nat) (slots : List SlotWindow) (squelch : List Port) (s : State) : Result :=
  let asleep := (match s.power.step with | .asleep _ => true | _ => false) && s.ftb % ms (s.get .deviceWatchPer 0) == 0
  let mask := s.get .deviceWakePortsLo 0 + 2 ^ 64 * s.get .deviceWakePortsHi 0
  let out := slots.any (fun w => if s.slotState w.slot.val = slotOn then w.belowNinety else w.aboveOneVolt)
  let hot := temps.any (fun t => s.get .deviceTempHi 0 ≤ t)
  let seen := squelch.any (fun p => bitOf mask p.val)
  let s1 := if out then s.wakeBy 4 else s
  let s2 := if hot then s1.wakeBy 5 else s1
  .next (if asleep then (if seen then s2.wakeBy 6 else s2) else s)

/-- The step of a wake moves on. -/
def State.wakeStep (s : State) (at_ : Nat) (body : Nat → State → State) : State :=
  match s.power.step with
  | .wake from_ k => if k = at_ then body from_ (s.modPower (fun p => { p with step := .wake from_ (k + 1) })) else s
  | _ => s

/-- PWR_RDY (R513, R514): the switches are closed; at a chip-level wake every regulator is good, and failures no longer
follow one another. -/
def execPwrRdy (s : State) : Result :=
  .next (s.wakeStep 0 (fun from_ s =>
    if 3 ≤ from_ then
      let s1 := s.modPower (fun p => { p with vrEn := [0, 1, 2, 3], wakeFailures := 0 })
      if s.ledger.wakeFailures = 0 then s1
      else s1.modControl (fun l => { l with wakeFailures := 0 })
    else s))

/-- OSC_RDY (R513). -/
def execOscRdy (s : State) : Result := .next (s.wakeStep 1 (fun _ s => s))

/-- MEM_RDY (R513). -/
def execMemRdy (s : State) : Result := .next (s.wakeStep 2 (fun _ s => s))

/-- The exit from STANDBY ends (R501, R510, R513): the domains follow their REQ, the Turntable goes on with the next round,
the directory and Loft are empty, PSTATE is 0, tasks and orders resume, and enabled ports enter Detect. -/
def State.leaveStandby (s : State) : State :=
  let s1 := s.domainsBack.modCoh Coherence.cleared
  let off := (List.range 4).filter (fun q => !s1.domainOn (quadrantDomain q))
  let s2 := (s1.modSw (fun w => { w with running := true, gated := off, remapTo := off })).modPower (fun p => { p with step := .run })
  let s3 := (s2.devicePut .devicePstate 0 0 0).ordersResume
  let s4 := if s3.domainOn 10 then s3.sequencerReady else s3
  let s5 := (List.range 64).foldl (fun s n => s.drivePerst n) s4
  s5.detectAll.waysideKept

/-- LOGIC_RDY (R16, R510, R513, R541): out of STANDBY the device resumes; at a chip-level wake the boot ROM starts at phase 0,
and a WATCH exit clears what a warm reset clears, keeps the orders that the entry kept (R508; DEDUCED, log entry 158), and loads the
bank it slept with. PD10 is ready, so retries that waited for it
count their delay from now. -/
def execLogicRdy (s : State) : Result :=
  .next (match s.power.step with
    | .wake from_ 3 =>
      if from_ = 2 then s.leaveStandby
      else if from_ = 3 then
        (((s.warmCleared 0 .run).modBoot (fun b => { b with loadBank := s.boot.bank })).modOrd (fun q =>
          { q with queue := s.ord.queue, nextId := s.ord.nextId })).sequencerReady
      else ((s.modPower (fun p => { p with step := .run })).modBoot (fun b => { b with step := .ready })).sequencerReady
    | _ => s)

/-- VR_PG_TIMEOUT (R514): the wake fails and every regulator is released; the third failure in a row leaves the device in
WATCH, ignoring wake sources. -/
def execVrPgTimeout (s : State) : Result :=
  .next (match s.power.step with
    | .wake from_ 0 =>
      if 3 ≤ from_ then
        let n := s.power.wakeFailures + 1
        let s1 := (s.modControl (fun l => { l with wakeFailures := saturate 8 (l.wakeFailures + 1) })).logSecurity (.wakeFailure s.ftb)
        s1.modPower (fun p => { p with
          vrEn := [], wakeFailures := n, retryAt := s.ftb + 100000000, ignoreWake := decide (3 ≤ n),
          step := if 3 ≤ n then .asleep 3 else .wakeFailed from_ })
      else s
    | _ => s)

/-- WAKE_RETRY (R514): 100 ms after a failed wake it is tried again. -/
def execWakeRetry (s : State) : Result :=
  .next (match s.power.step with
    | .wakeFailed from_ => if s.power.retryAt ≤ s.ftb then s.modPower (fun p => p.wakeFrom from_) else s
    | _ => s)

/-! ### Supplies (R524 to R530) -/

/-- The code on VCORE_VID5 to VCORE_VID0, for VDD_CORE's setpoint (R528). -/
def State.vcoreVid (s : State) : Nat := (s.get .deviceVcoreNow 0 - 650) / 5

/-- The setpoint the thresholds of a rail are taken from: for 100 µs after a change, the lower of old and new (R527). -/
def State.thresholdSetpoint (s : State) (r : Nat) : Nat :=
  let now := s.field .railSetpt r
  match s.power.vcoreOld with
  | some (old, until_) => if r = 0 && decide (s.ftb < until_) then min old now else now
  | none => now

/-- WARN_PCT in effect (R524). -/
def State.warnPct (s : State) (r : Nat) : Nat := min (s.get .railWarnPct r) (s.get .railResetPct r - 1)

/-- Whether a voltage lies a percentage below a setpoint or lower. -/
def below (mv setpoint pct : Nat) : Bool := mv * 100 < setpoint * (100 - pct)

/-- Whether the comparators of a rail are armed: the device enables it, and its PWR_RDY has come (R527). VDD_IO and VDD_AON
have no enable. -/
def State.railArmed (s : State) (r : Nat) : Bool :=
  decide (4 ≤ r) ||
  (match s.power.step with
    | .asleep 3 => false
    | .wakeFailed _ => false
    | .wake from_ 0 => decide (from_ < 3)
    | _ => true)

/-- SAG_WARNING (R253, R525): the warning stands and EV is raised; on VDD_CORE and VDD_SRAM credit release is throttled. -/
def execSagWarning (r : Rail) (mv : Nat) (s : State) : Result :=
  .next (if s.railArmed r.val && below mv (s.thresholdSetpoint r.val) (s.warnPct r.val) && s.get .railWarn r.val == 0 then
    let s1 := ((s.put .railWarn r.val 0 1).put .railWarns r.val 0 (saturate 32 (s.get .railWarns r.val + 1))).modPower
      (fun p => { p with sagWarnN := false })
    let s2 := if r.val ≤ 1 then (s1.modSw (fun w => { w with sagThrottle := true, windowSags := true })).sagAllowance else s1
    s2.raiseT0 .railEv r.val
  else s)

/-- SAG_WARN_RELEASE (R525): every armed rail has been above its threshold for 10 µs. -/
def execSagWarnRelease (s : State) : Result :=
  .next (((List.range 6).foldl (fun s r => if s.get .railWarn r = 0 then s else s.put .railWarn r 0 0) s).modPower
    (fun p => { p with sagWarnN := true }) |>.modSw (fun w => { w with sagThrottle := false }))

/-- SAG_RESET (R526, R612): a rail below its reset threshold; on VDD_AON it is a cold reset. The rail, the tick and the
lowest value go to the Ledger. -/
def execSagReset (r : Rail) (mv : Nat) (s : State) : Result :=
  .next (if s.railArmed r.val && below mv (s.thresholdSetpoint r.val) (s.get .railResetPct r.val) then
    if r.val = 5 then s.coldStart s.strapPins s.qos.refclkA s.qos.refclkB
    else if s.deepReset then s
    else (s.logSecurity (.sagReset r.val s.ftb mv)).sagDown r.val
  else s)

/-- SAG_RECOVERY (R526): every enabled rail has been above its warning threshold for 1 ms; the chip-level order runs. -/
def execSagRecovery (s : State) : Result :=
  .next (if s.power.step = .sagHold then s.modPower (fun p => { p with step := .wake 5 0 }) else s)

/-- The least M of the windows of the last `span` ticks, if one ended in them. -/
def State.leastM (s : State) (span : Nat) : Option Nat :=
  ((s.sw.recentM.filter (fun e => s.ftb < e.1 + span)).map (·.2)).foldl
    (fun (a : Option Nat) m => match a with | some x => some (min x m) | none => some m) none

/-- AVS_STEP (R530): with AVS 1, one step of 5 mV within the range. -/
def execAvsStep (s : State) : Result :=
  let now := s.get .deviceVcoreNow 0
  let ceiling := roundedVcore (s.get .deviceVcore 0)
  let since := s.ftb - s.power.avsAt
  let slow := match s.leastM 100000 with | some m => decide (m < 1331) | none => false
  let fast := match s.leastM 1000000 with | some m => decide (1434 ≤ m) | none => false
  let calm := s.get .railWarn 0 == 0 && s.get .railWarn 1 == 0
  let stepped : State → State := fun s => s.modPower (fun p => { p with avsAt := s.ftb })
  .next (if s.get .deviceAvs 0 = 1 && s.awake then
    if slow then (if 100000 ≤ since && now + 5 ≤ ceiling then stepped (s.setVcore (now + 5)) else s)
    else if fast && calm && decide (1000000 ≤ since) && decide (max s.vfloor 650 + 5 ≤ now) then stepped (s.setVcore (now - 5))
    else s
  else s)

/-- RAIL_SAMPLE (R524): VNOW of each rail. -/
def execRailSample (mv : List Nat) (s : State) : Result :=
  .next ((mv.zipIdx).foldl (fun s e => if e.2 < 6 then s.put .railVnow e.2 0 (saturate 11 e.1) else s) s)

/-! ### Sensors (R584, R585) -/

/-- Whether the logic of a sensor's die is powered. -/
def State.sensorOn (s : State) (i : Nat) : Bool :=
  if i < 4 then s.domainOn 1
  else if i < 12 then (List.range 8).any (fun k => s.domainOn (stationDomain (8 * (i - 4) + k)))
  else s.domainOn 10

/-- A signed 12-bit field as a number. -/
def signed12 (v : Nat) : Int := if v < 2048 then v else (v : Int) - 4096

/-- One reading of a sensor, in quarters of a degree: TEMP, PEAK, and the alarm with its hysteresis of 5 °C. -/
def State.readSensor (s : State) (i : Nat) (q : Int) : State :=
  let v := signedField 12 q
  let alarm : Int := 4 * (s.get .thermAlarm i : Int)
  let s1 := s.put .thermTemp i 0 v
  let s2 := if signed12 (s.get .thermPeak i) < q then s1.devicePut .thermPeak i 0 v else s1
  if s.alarms.contains i then
    if q ≤ alarm - 20 then { s2 with alarms := s2.alarms.filter (· != i) } else s2
  else if alarm ≤ q then ({ s2 with alarms := s2.alarms ++ [i] } : State).raiseT0 .thermEv i
  else s2

/-- SENSOR_SAMPLE (R585): each sensor of a powered die. -/
def execSensorSample (quarters : List Int) (s : State) : Result :=
  .next ((quarters.zipIdx).foldl (fun s e => if e.2 < 13 && s.sensorOn e.2 then s.readSensor e.2 e.1 else s) s)

/-! ### Reference clocks (R455, R629) -/

/-- Whether the die of a station runs from an input: dies 0 to 3 from A and 4 to 7 from B, or every die from the one input
that toggled at the cold reset. -/
def State.fedBy (s : State) (n : Nat) (b : Bool) : Bool :=
  match s.qos.singleClock with
  | some x => x == b
  | none => b == decide (32 ≤ n)

/-- REFCLK_LOSS (R455, R629): the ports on the dies of the input go link-down; without any clock the FTB holds over. -/
def execRefclkLoss (b : Bool) (s : State) : Result :=
  let s1 := s.modQos (fun q => if b then { q with refclkB := false } else { q with refclkA := false })
  let ns := (List.range s.stationCount).filter (fun n => s.fedBy n b)
  let s2 := ns.foldl (fun s n => s.modStation n (fun x => { x with clockLost := true })) s1
  let s3 := ns.foldl (fun s n => (s.stationPorts n).foldl (fun s p =>
    if s.portUp p then s.linkDownTo p 0 else s.put .portLink p 0 (s.restLink p)) s) s2
  .next (if !s3.qos.refclkA && !s3.qos.refclkB && s3.get .deviceFtbState 0 != 0 then s3.put .deviceFtbState 0 0 3 else s3)

/-- REFCLK_RETURN (R629): the dies of the input recover, and their enabled ports train. -/
def execRefclkReturn (b : Bool) (s : State) : Result :=
  let s1 := s.modQos (fun q => if b then { q with refclkB := true } else { q with refclkA := true })
  let ns := (List.range s.stationCount).filter (fun n => s.fedBy n b)
  let s2 := ns.foldl (fun s n => s.modStation n (fun x => { x with clockLost := false })) s1
  .next (ns.foldl (fun s n => s.detectPorts n) s2)

end Sys2Proof.Machine
end

