-- ==== Sys2Proof/Machine/RegisterEvents.lean ====
section
/-! DEFINITION. Host writes to BAR0 of the management function (R6, R94, R95, R100, R117, R532, R579). -/

namespace Sys2Proof.Machine

/-! ### What a host reads (R94, R117) -/

/-- A level register: ABI, TRUNK, TRUNK_MIN and RESIDENT (R117). -/
def Image.levels (i : Image) : Nat := i.abi % 256 + i.trunk % 256 * 2 ^ 8 + i.trunkMin % 256 * 2 ^ 16 + i.residents % 8 * 2 ^ 24

/-- The 32-bit register at an offset of the bootstrap block (R117). -/
def State.bootRegister (s : State) (off : Nat) : Nat :=
  let b := s.boot
  match off with
  | 0x00 => 0x9512 + 0xA1 * 2 ^ 16 + (if s.otp.partH then 1 else 0) * 2 ^ 24
  | 0x04 => b.phase % 16 + b.bank % 2 * 2 ^ 4 + (if b.fallback then 1 else 0) * 2 ^ 5 + b.error % 256 * 2 ^ 8 +
      b.replayFail % 2 ^ 16 * 2 ^ 16
  | 0x08 => b.image.version % 2 ^ 32
  | 0x0C => b.image.levels
  | 0x10 => b.other.version % 2 ^ 32
  | 0x14 => b.other.levels
  | 0x18 => b.preferred % 2 + (if b.otherValid then 1 else 0) * 2 + b.stage % 8 * 2 ^ 2 + b.act % 4 * 2 ^ 5 + b.fail % 256 * 2 ^ 8
  | 0x20 => s.otp.fdi % 2 ^ 32
  | 0x24 => s.otp.fdi / 2 ^ 32 % 2 ^ 32
  | 0x28 => s.ledger.epoch % 2 ^ 32
  | 0x2C => s.ledger.svnFloor % 2 ^ 16
  | 0x30 => b.scratch % 2 ^ 32
  | _ => 0

/-- The 64-bit register at an offset of the mailbox block (R94): capabilities and control in the words 0 and 4. -/
def State.mailboxRegister (s : State) (off : Nat) : Nat :=
  let m := s.ord.mailbox
  let one : Bool → Nat := fun x => if x then 1 else 0
  match off with
  | 0x00 => 15 + 2 ^ 5 + 2 ^ 6 + 2 * 2 ^ 11
  | 0x04 => one m.doorbell + one m.dbInt * 2 + one m.bgInt * 4
  | 0x08 => m.opcode % 2 ^ 16 + m.payloadLen % 2 ^ 21 * 2 ^ 16
  | 0x10 => one m.bgOp + m.returnCode % 2 ^ 16 * 2 ^ 32 + m.vsStatus % 2 ^ 16 * 2 ^ 48
  | 0x18 => m.bgOpcode % 2 ^ 16 + m.percent % 128 * 2 ^ 16 + m.bgReturn % 2 ^ 16 * 2 ^ 32 + m.bgVsStatus % 2 ^ 16 * 2 ^ 48
  | _ => 0

/-! ### Writes (R6) -/

/-- A read-only 64-bit word of the counter window, at an offset from 0x0200_0000 that is a multiple of 8 (R579). -/
def State.counterWindowWord (s : State) (off : Nat) : Nat :=
  if off < 0x20000 then s.counterWord (off / 8)
  else if 0x100000 ≤ off && off < 0x100000 + 0x100 * 88 then
    let u := (off - 0x100000) / 0x100
    let w := off % 0x100
    if w = 0 then s.get .unitsetTick u
    else if w = 8 then s.get .unitsetRun u + (if s.domainOn (unitDomain u) then 1 else 0) * 2
    else if 0x40 ≤ w && w < 0x80 then
      let i := (w - 0x40) / 8
      (if s.errors.broken.contains (clsUnitctr, u, i) then 2 ^ 48
       else s.get .unitctrValue u i + s.get .unitctrOvf u i * 2 ^ 48) + s.get .unitctrSelect u i * 2 ^ 49
    else 0
  else if 0x300000 ≤ off && off < 0x300000 + 8 * 13 then
    let n := (off - 0x300000) / 8
    s.get .thermTemp n + s.get .thermPeak n * 2 ^ 16
  else if 0x300100 ≤ off && off < 0x300100 + 8 * 6 then
    let r := (off - 0x300100) / 8
    s.get .railVnow r + s.get .railWarn r * 2 ^ 16 + s.get .railSetpt r * 2 ^ 32
  else if 0x301000 ≤ off && off < 0x301000 + 0x20 * 64 then
    let n := (off - 0x301000) / 0x20
    match off % 0x20 with
    | 0x00 => s.get .slotVin n + s.get .slotVout n * 2 ^ 16 + s.get .slotIout n * 2 ^ 32 + s.get .slotState n * 2 ^ 48 +
        s.get .slotSeated n * 2 ^ 52 + s.get .slotTfet n * 2 ^ 56
    | 0x08 => s.get .slotEnergy n
    | 0x10 => s.get .slotCbulk n
    | _ => 0
  else 0

/-- Byte `i` of a word, counted from the least significant. -/
def byteOf (w i : Nat) : Byte := BitVec.ofNat 8 (bitsOf w (8 * i) 8)

/-- A byte of BAR0 of the management function as it is read: the bootstrap block (R117), the primary mailbox (R94), the
tenant windows (R415) and the counter windows (R579); anything else reads as zero. -/
def State.barByte (s : State) (a : Nat) : Byte :=
  if a < 0x10000 then byteOf (s.bootRegister (a / 4 * 4)) (a % 4)
  else if a < 0x10008 then byteOf (s.mailboxRegister ((a - 0x10000) / 4 * 4)) (a % 4)
  else if a < 0x10020 then byteOf (s.mailboxRegister ((a - 0x10000) / 8 * 8)) (a % 8)
  else if a < 0x18020 then memByte s.ord.mailbox.payload (a - 0x10020)
  else if 0x1000000 ≤ a && a < 0x2000000 then s.windowByte ((a - 0x1000000) / 4096) ((a - 0x1000000) % 4096)
  else if 0x2000000 ≤ a then byteOf (s.counterWindowWord ((a - 0x2000000) / 8 * 8)) (a % 8)
  else 0

/-- What a read of BAR0 answers; `none` is Unsupported Request, which the counter window gives a read of more than 8 bytes or
across an 8-byte boundary (R579). The table has no command for this read: the function is what the device's map holds. -/
def State.barRead (s : State) (a n : Nat) : Option (List Byte) :=
  if 0x2000000 ≤ a && !smallAccess a n then none else some ((List.range n).map (fun k => s.barByte (a + k)))

/-- Replace one byte of a little-endian value of `n` bytes. -/
def patchByte (v i : Nat) (b : Byte) : Nat := patch v i [b]

/-- A byte written to the mailbox block (R94, R95): RO and reserved bits ignore it, and while DOORBELL is 1 the command
register and the payload do too. -/
def State.mailboxByte (s : State) (off : Nat) (b : Byte) : State :=
  let m := s.ord.mailbox
  if off = 4 then
    s.modMailbox (fun m => { m with doorbell := m.doorbell || bitOf b.toNat 0, dbInt := bitOf b.toNat 1, bgInt := bitOf b.toNat 2 })
  else if m.doorbell then s
  else if 8 ≤ off && off ≤ 9 then s.modMailbox (fun m => { m with opcode := patchByte m.opcode (off - 8) b })
  else if 10 ≤ off && off ≤ 12 then
    s.modMailbox (fun m => { m with payloadLen := patchByte m.payloadLen (off - 10) b % 2 ^ 21 })
  else if 0x20 ≤ off && off < 0x8020 then s.modMailbox (fun m => { m with payload := memPut m.payload (off - 0x20) b })
  else s

/-- A byte written below the tenant windows: SCRATCH and the mailbox take it, everything else ignores it (R6, R117). -/
def State.registerByte (s : State) (a : Nat) (b : Byte) : State :=
  if 0x30 ≤ a && a < 0x34 then { s with boot := { s.boot with scratch := patchByte s.boot.scratch (a - 0x30) b } }
  else if 0x10000 ≤ a && a < 0x18020 then s.mailboxByte (a - 0x10000) b
  else s

/-- Bytes written one after another. -/
def State.registerBytes (s : State) : Nat → List Byte → State
  | _, [] => s
  | a, b :: rest => (s.registerByte a b).registerBytes (a + 1) rest

/-- REGISTER_WRITE (R6): a write to BAR0 of the management function takes effect by the access code of each field; tenant
windows lie from 0x0100_0000 on (R415), and counter words ignore it (R579). It arrives on the strapped management port. -/
def execRegisterWrite (addr size : Nat) (value : BitVec 64) (s : State) : Result :=
  let bytes := toLE size value.toNat
  .next (match s.mgmtPort with
    | none => s
    | some p =>
      if !s.portUp p then s
      else if 0x1000000 ≤ addr && addr < 0x2000000 then s.windowWrite ((addr - 0x1000000) / 4096) ((addr - 0x1000000) % 4096) bytes
      else s.registerBytes addr bytes)

end Sys2Proof.Machine
end

