-- ==== Sys2Proof/Machine/SecurityEvents.lean ====
section
/-! DEFINITION. The management bus, MCTP control, SPDM, DOE and the debug masters (R400, R401, R534 to R537, R547 to R551,
R563, R631). -/

namespace Sys2Proof.Machine

/-! ### The management bus (R534, R631) -/

/-- SMBUS_TIMEOUT (R631): SCL low for 35 ms resets the target interface, which the strapped SMBus has. -/
def execSmbusTimeout (s : State) : Result :=
  .next (if s.straps.i3c then s else s.fromBus (fun s => s.emit .busTargetReset))

/-- DYNAMIC_ADDRESS_ASSIGNMENT (R534): ENTDAA or SETDASA assigns the dynamic address where the strap selects I3C. -/
def execDynamicAddressAssignment (_setdasa : Bool) (address : BitVec 7) (s : State) : Result :=
  .next (if s.straps.i3c then s.fromBus (fun s => s.modSec (fun x => { x with dynamicAddress := some address.toNat })) else s)

/-! ### MCTP control (R534, R535, R543) -/

/-- Whether the MC's code runs. -/
def State.mcRuns (s : State) : Bool := 2 ≤ s.boot.phase && s.boot.phase ≤ 4

/-- A control message reaches an endpoint: the bus answers while the MC runs, and by the ROM in PHASE 0xF (R543); the VDM
endpoint lies on the management port (R87) and a Trunk endpoint on an active Trunk port. -/
def State.atEndpoint (s : State) (e : Endpoint) (body : State → State) : State :=
  match e with
  | .bus => s.fromBus (fun s => if s.mcRuns || s.boot.phase == 0xF then body s else s)
  | .vdm => match s.mgmtPort with
    | some p => if s.portUp p && s.mcRuns then body s else s
    | none => s
  | .trunk p => if s.trunkAt p.val .active && s.mcRuns then body s else s

/-- A message on a Trunk port leaves in bypass messages of TYPE 0x07, LONG when needed (R214, R215). -/
def State.trunkMessage (s : State) (p : Nat) : Nat → List Byte → State
  | 0, _ => s
  | n + 1, l => if l.isEmpty then s else (s.sendBypass p 0x07 8 (l.take 94)).trunkMessage p n (l.drop 94)

/-- Send an answer of MCTP control. -/
def State.mctpAnswer (s : State) (e : Endpoint) (command : Nat) (bytes : List Byte) : State :=
  match e with
  | .trunk p => (s.trunkMessage p.val 8 bytes).emit (.mctp e command bytes)
  | _ => s.emit (.mctp e command bytes)

/-- The endpoint ID in use; 0 is the null EID (R534). -/
def State.eid (s : State) : Endpoint → Nat
  | .bus => s.sec.busEid
  | .vdm => s.sec.vdmEid
  | .trunk p => Tab.get 0 s.sec.trunkEids p.val

/-- Give an endpoint its ID. -/
def State.setEid (s : State) (e : Endpoint) (v : Nat) : State :=
  s.modSec (fun x => match e with
    | .bus => { x with busEid := v }
    | .vdm => { x with vdmEid := v }
    | .trunk p => { x with trunkEids := Tab.set x.trunkEids p.val v })

/-- The MCTP message types an endpoint accepts besides control (R535). -/
def mctpTypes : Endpoint → List Nat
  | .bus => [0x05, 0x06, 0x07]
  | .vdm => [0x05, 0x06, 0x07]
  | .trunk _ => [0x05, 0x06, 0x7E]

/-- SET_ENDPOINT_ID (R534): the bus owner assigns the ID. The null and the broadcast EID are no assignment, PRESUMED from
the MCTP base specification, as are the bytes of the answers below. -/
def execSetEndpointId (e : Endpoint) (eid : Byte) (s : State) : Result :=
  .next (s.atEndpoint e (fun s =>
    if eid = 0 || eid = 0xFF then s.mctpAnswer e 0x01 [2]
    else (s.setEid e eid.toNat).mctpAnswer e 0x01 [0, 0, eid, 0]))

/-- GET_ENDPOINT_ID (R534, R535). -/
def execGetEndpointId (e : Endpoint) (s : State) : Result :=
  .next (s.atEndpoint e (fun s => s.mctpAnswer e 0x02 [0, BitVec.ofNat 8 (s.eid e), 0, 0]))

/-- GET_MCTP_VERSION_SUPPORT (R535): the version numbers of an accepted type are free values. -/
def execGetMctpVersionSupport (e : Endpoint) (msgType : Byte) (s : State) : Result :=
  .next (s.atEndpoint e (fun s =>
    if msgType = 0xFF || (0 :: mctpTypes e).contains msgType.toNat then
      let (s1, version) := s.randomBytes 4 []
      s1.mctpAnswer e 0x04 ([0, 1] ++ version)
    else s.mctpAnswer e 0x04 [0x80]))

/-- GET_MESSAGE_TYPE_SUPPORT (R535). -/
def execGetMessageTypeSupport (e : Endpoint) (s : State) : Result :=
  .next (s.atEndpoint e (fun s =>
    s.mctpAnswer e 0x05 ([0, BitVec.ofNat 8 (mctpTypes e).length] ++ (mctpTypes e).map (BitVec.ofNat 8))))

/-- GET_VENDOR_MESSAGE_SUPPORT (R535): PCI vendor ID 0x1D74 on Trunk endpoints; the command set version is a free value. -/
def execGetVendorMessageSupport (e : Endpoint) (s : State) : Result :=
  .next (s.atEndpoint e (fun s =>
    match e with
    | .trunk _ =>
      let (s1, version) := s.randomBytes 2 []
      s1.mctpAnswer e 0x06 ([0, 0xFF, 0, 0x1D, 0x74] ++ version)
    | _ => s.mctpAnswer e 0x06 [2]))

/-! ### DOE and SPDM (R537, R547 to R551, R563) -/

/-- Whether the USP function of an enabled virtual switch can be reached (R537). -/
def State.uspReachable (s : State) (v : Nat) : Bool :=
  s.awake && s.mcRuns && s.get .vcsEnable v == 1 && s.portUp (s.get .vcsUsp v)

/-- DOE_DISCOVERY (R537): DOE Discovery, CMA-SPDM and Secured CMA-SPDM, in that order. The vendor ID and the type numbers
are PRESUMED from PCI Express. -/
def execDoeDiscovery (v : Vcs) (index : Byte) (s : State) : Result :=
  .next (if s.uspReachable v.val then
    s.emit (.doe v.val (if index.toNat ≤ 2 then [0x01, 0x00, index, if index.toNat = 2 then 0 else index + 1]
      else [0xFF, 0xFF, 0xFF, 0]))
  else s)

/-- Send an SPDM message. -/
def State.spdmAnswer (s : State) (e : SpdmEnd) (code : Nat) (bytes : List Byte) : State :=
  match e with
  | .trunk p => (s.trunkMessage p.val 256 bytes).emit (.spdm e code bytes)
  | _ => s.emit (.spdm e code bytes)

/-- An SPDM error. The codes are PRESUMED from SPDM: 1 invalid request, 2 invalid session, 7 unsupported request, 0x0A
session limit exceeded, 0x42 response not ready. -/
def State.spdmError (s : State) (e : SpdmEnd) (code : Nat) (more : List Byte := []) : State :=
  s.spdmAnswer e 0x7F ([BitVec.ofNat 8 code, 0] ++ more)

/-- Whether activation pauses the MC (R128): from the copy over the running code until the MC has restarted. -/
def State.mcPaused (s : State) : Bool :=
  s.boot.activation == ActivationStep.copy || s.boot.activation == ActivationStep.restart ||
  s.boot.activation == ActivationStep.reload

/-- A request reaches the responder (R549); while activation pauses the MC it receives ResponseNotReady with RDTExponent 13
(R550). -/
def State.atSpdm (s : State) (e : SpdmEnd) (body : State → State) : State :=
  let run := fun (s : State) =>
    if !s.mcRuns then s else if s.mcPaused then s.spdmError e 0x42 [13] else body s
  match e with
  | .bus => s.fromBus run
  | .vdm => match s.mgmtPort with
    | some p => if s.portUp p then run s else s
    | none => s
  | .trunk p => if s.trunkAt p.val .active then run s else s
  | .doe v => if s.uspReachable v.val then run s else s

/-- In RETIRED a request that needs a key is not offered (R563). -/
def State.offered (s : State) (e : SpdmEnd) (body : State → State) : State :=
  if s.sec.lifecycle = 3 then s.spdmError e 0x07 else body s

/-- The strap values in the order of R531 from bit 0, as 2 bytes (R551). -/
def strapBytes (x : Straps) : List Byte :=
  toLE 2 (x.mp.val + (if x.i3c then 8 else 0) + x.addr.val * 16 + x.spi.val * 128 + x.ws.val * 512)

/-- A root-key slot as R538 lays it out. -/
def Otp.rootBytes (o : Otp) (k : Nat) : List Byte :=
  (Tab.get [] o.roots k ++ List.replicate 64 0).take 64 ++ toLE 1 (Tab.get 0 o.rootFlags k)

/-- LIFECYCLE, SERIAL, FDI and ROOT0 to ROOT3 (R551). -/
def Otp.measured (o : Otp) : List Byte :=
  toLE 1 o.lifecycle ++ o.serialBytes ++ toLE 8 o.fdi ++ (List.range 4).flatMap o.rootBytes

/-- The eight measurement blocks (R551). -/
def State.measurements (s : State) : List (List Byte) :=
  [Config.sha512 (Config.bootRom 0), Config.sha512 s.boot.image.mcBytes, Config.sha512 s.boot.image.leverBytes,
    s.boot.image.header, Config.sha512 s.otp.measured, strapBytes s.straps, s.sec.replayedDigest,
    toLE 1 s.sec.lifecycle ++ toLE 1 s.ledger.tokenResult]

/-- GET_MEASUREMENTS (R550, R551, R563): the blocks, each with its index and length, then the signature by the Alias key
over them and the requester's nonce, which RETIRED lacks. -/
def execGetMeasurements (e : SpdmEnd) (nonce : List Byte) (s : State) : Result :=
  .next (s.atSpdm e (fun s =>
    let blocks := (s.measurements.zipIdx).flatMap (fun b => toLE 1 (b.2 + 1) ++ toLE 2 b.1.length ++ b.1)
    s.spdmAnswer e 0x60 (blocks ++ (if s.sec.lifecycle = 3 then [] else Config.sign s.sec.aliasKey (blocks ++ nonce)))))

/-- The chain of a certificate slot (R547): in DEBUG a self-signed DeviceID certificate stands in place of that of the
Ledger. -/
def State.chain (s : State) (k : Nat) : List Byte :=
  if k = 0 then
    s.ledger.cert0 ++
      (if s.sec.debugCert then Config.certificate (s.sec.deviceKey ++ Config.sign s.sec.deviceKey s.sec.deviceKey)
       else s.ledger.deviceCert) ++ s.sec.aliasCert
  else if k = 1 then s.ledger.cert1
  else []

/-- GET_CERTIFICATE (R547, R563): the chain of a slot; an empty slot is an invalid request. -/
def execGetCertificate (e : SpdmEnd) (certSlot : Fin 8) (s : State) : Result :=
  .next (s.atSpdm e (fun s => s.offered e (fun s =>
    let chain := s.chain certSlot.val
    if chain.isEmpty then s.spdmError e 0x01 else s.spdmAnswer e 0x02 chain)))

/-- CHALLENGE (R549, R550, R563): answered with a signature by the Alias key. -/
def execChallenge (e : SpdmEnd) (certSlot : Fin 8) (nonce : List Byte) (s : State) : Result :=
  .next (s.atSpdm e (fun s => s.offered e (fun s =>
    let chain := s.chain certSlot.val
    if chain.isEmpty then s.spdmError e 0x01
    else
      let (s1, own) := s.randomBytes 32 []
      let body := Config.sha512 chain ++ own
      s1.spdmAnswer e 0x03 (body ++ Config.sign s1.sec.aliasKey (body ++ nonce)))))

/-- Whether an SPDM place is a Trunk port. -/
def onTrunk : SpdmEnd → Bool
  | .trunk _ => true
  | _ => false

/-- Whether a new session is within R549: one reserved for each Trunk port and eight for all other requesters. -/
def State.sessionFree (s : State) (e : SpdmEnd) : Bool :=
  if onTrunk e then !(s.sec.sessions.any (fun x => x.2.place == e))
  else decide ((s.sec.sessions.filter (fun x => !x.2.trunk)).length < 8)

/-- KEY_EXCHANGE (R549, R550, R563): a session opens, or the limit is exceeded. The exchanged key is a free value. -/
def execKeyExchange (e : SpdmEnd) (s : State) : Result :=
  .next (s.atSpdm e (fun s => s.offered e (fun s =>
    if !s.sessionFree e then s.spdmError e 0x0A
    else
      let id := s.sec.nextSession
      let (s1, own) := s.randomBytes 132 []
      (s1.modSec (fun x =>
        { x with sessions := Tab.set x.sessions id { place := e, trunk := onTrunk e, keys := 0 }, nextSession := id + 1 })).spdmAnswer
        e 0x64 (toLE 2 id ++ own ++ Config.sign s1.sec.aliasKey own))))

/-- A request on an open session of the place it arrives at. -/
def State.inSession (s : State) (e : SpdmEnd) (session : Nat) (body : State → Session → State) : State :=
  match Tab.find s.sec.sessions session with
  | some x => if x.place = e then body s x else s.spdmError e 0x02
  | none => s.spdmError e 0x02

/-- KEY_UPDATE (R549): the session takes its next keys. -/
def execKeyUpdate (e : SpdmEnd) (session : Nat) (s : State) : Result :=
  .next (s.atSpdm e (fun s => s.inSession e session (fun s x =>
    (s.modSec (fun y => { y with sessions := Tab.set y.sessions session { x with keys := x.keys + 1 } })).spdmAnswer e 0x69 [])))

/-- HEARTBEAT (R549): acknowledged. -/
def execHeartbeat (e : SpdmEnd) (session : Nat) (s : State) : Result :=
  .next (s.atSpdm e (fun s => s.inSession e session (fun s _ => s.spdmAnswer e 0x68 [])))

/-- SET_CERTIFICATE (R547, R553): the owner chain of slot 1, up to 56 KiB, from the management VDM only. -/
def execSetCertificate (e : SpdmEnd) (certSlot : Fin 8) (chain : List Byte) (s : State) : Result :=
  .next (s.atSpdm e (fun s =>
    if e = .vdm && certSlot = 1 && decide (chain.length ≤ 56 * 1024) then
      (s.modLedger (fun l => { l with cert1 := chain })).spdmAnswer e 0x6E []
    else s.spdmError e 0x01))

/-! ### Debug masters (R400, R401) -/

/-- Whether a core runs an order of a tenant window (R400). -/
def State.runsTenant (s : State) (c : Nat) : Bool :=
  match (s.core c).job with
  | some o => o.priv == privTenant
  | none => false

/-- Whether the lifecycle in use leaves a debug access open (R400). -/
def State.debugOpen (s : State) (t : DebugTarget) (write : Bool) : Bool :=
  let locked := s.sec.lifecycle == 1 || s.sec.lifecycle == 3
  let otherMemory := !(locked && write)
  match t with
  | .tenantPool => !locked
  | .granaryLoftDirectory => !locked
  | .tenantLeverMemory c => if s.runsTenant c.val then !locked else otherMemory
  | .otherLeverMemory => otherMemory
  | .ledger => s.sec.lifecycle == 0 || (s.sec.lifecycle == 2 && !write)
  | .keyStore => false

/-! ### The places of debug accesses

The specification lays out Lever memory (R38), pool memory and the Ledger (R553). For the other memories it names what can be reached
and gives no addresses: there a place, which a debug address names in a way of the device's own, stands for one byte of one of them. -/

/-- The 128 bits of a directory entry (R332), with its check bits. -/
def State.entryBits (s : State) (line : Nat) : Nat :=
  let e := s.entry line
  let b : Bool → Nat := fun x => if x then 1 else 0
  let body := if e.coarse then (e.groups.map (fun g => 2 ^ g)).sum else ((e.ptrs.take 4).zipIdx.map (fun x => x.1 % 512 * 2 ^ (9 * x.2))).sum
  let v := (match e.state with | .invalid => 0 | .shared => 1 | .exclusive => 2) + b (s.lock line).isSome * 4 + b e.coarse * 8 +
    (if e.coarse then 0 else e.ptrs.length) * 16 + b e.remote * 128 + body % 2 ^ 64 * 2 ^ 8 + line / 2 ^ 15 % 2 ^ 36 * 2 ^ 72 +
    e.tenant % 4096 * 2 ^ 108
  v + (Config.secDed 120 v).toNat * 2 ^ 120

/-- A directory entry from its 128 bits (R332): the line, and the device's own notes of it, are those of the entry that stood there. -/
def DirEntry.ofBits (e : DirEntry) (v : Nat) : DirEntry :=
  let body := bitsOf v 8 64
  let coarse := bitOf v 3
  { e with
    state := match bitsOf v 0 2 with | 1 => .shared | 2 => .exclusive | _ => .invalid
    coarse := coarse
    remote := bitOf v 7
    ptrs := if coarse then [] else (List.range (min (bitsOf v 4 3) 4)).map (fun i => bitsOf body (9 * i) 9)
    groups := if coarse then (List.range 64).filter (bitOf body) else []
    tenant := bitsOf v 108 12 }

/-- A number with byte `i` of it replaced. -/
def putByte (v i : Nat) (b : Byte) : Nat := v - bitsOf v (8 * i) 8 * 2 ^ (8 * i) + b.toNat * 2 ^ (8 * i)

/-- A place in the Granary, the Loft or the directory: byte `i` of the wagons of a frame, of a Loft line's data, or of an entry. -/
def State.poolByte (s : State) (place : Nat) : Nat :=
  let k := place / 3
  match place % 3 with
  | 0 => match s.loftLine (k / 64) with | some l => bitsOf l.data.toNat (8 * (k % 64)) 8 | none => 0
  | 1 => bitsOf (s.entryBits (k / 16)) (8 * (k % 16)) 8
  | _ => match s.frame (k / 4352) with | some f => (f.byte (k % 4352)).toNat | none => 0

/-- A debug write of such a byte. What holds no frame, line or entry has no byte that anything reads, so nothing changes there. -/
def State.poolPoke (s : State) (place : Nat) (v : Byte) : State :=
  let k := place / 3
  match place % 3 with
  | 0 => match s.loftLine (k / 64) with
    | some l => s.modCoh (fun c => { c with loft := Tab.set c.loft (k / 64) { l with data := BitVec.ofNat 512 (putByte l.data.toNat (k % 64) v) } })
    | none => s
  | 1 =>
    let e := (s.entry (k / 16)).ofBits (putByte (s.entryBits (k / 16)) (k % 16) v)
    s.modCoh (fun c => { c with dir := if e.state = .invalid then Tab.drop c.dir (k / 16) else Tab.set c.dir (k / 16) e })
  | _ =>
    if k % 4352 < 16 then s
    else s.modFrame (k / 4352) (fun f =>
      { f with inp := { f.inp with unit := some (putAt ((List.range (f.len - 16)).map (fun i => f.byte (16 + i))) (k % 4352 - 16) v) } })

/-- The field of an object that a place names, with its object and the byte within it (R56, R57). -/
def placeField (place : Nat) : Option (Fld × Nat × Nat × Nat) :=
  let k := place / 8
  (Fld.ofId (k / 2 ^ 40) (k / 2 ^ 32 % 256)).map (fun f => (f, k / 65536 % 65536, k % 65536, place % 8))

/-- The byte that a target has at an address, or `none` where nothing says what stands there. -/
def State.debugByte (s : State) (t : DebugTarget) (a : Nat) : Option Nat :=
  match t with
  | .tenantPool => some (memByte s.pool a).toNat
  | .granaryLoftDirectory => some (s.poolByte (Config.debugPlace a))
  | .tenantLeverMemory c => if mayRead a then some (s.leverRead c.val a 1) else none
  | .otherLeverMemory =>
    if 0x1000000 ≤ a && mayRead a then some (s.leverRead 0 a 1)
    else match placeField (Config.debugPlace a) with
      | some (f, i, sub, b) => some (bitsOf (s.field f i sub) (8 * b) 8)
      | none => none
  | .ledger => (s.ledgerByte a).map (·.toNat)
  | .keyStore => none

/-- Write a byte of Lever memory, shared code included. -/
def State.debugLever (s : State) (c a : Nat) (v : Byte) : State :=
  if 0x1000000 ≤ a && a < 0x1400000 then
    { s with lev := { s.lev with sharedCode := memPut s.lev.sharedCode (a - 0x1000000) v } }
  else s.leverWrite c a 1 v.toNat

/-- Write a byte of a target. The values of OTP stand in no object, and the interlocks in no memory, so no write reaches them (R70,
R400). -/
def State.debugPut (s : State) (t : DebugTarget) (a : Nat) (v : Byte) : State :=
  match t with
  | .tenantPool => { s with pool := memPut s.pool a v }
  | .granaryLoftDirectory => s.poolPoke (Config.debugPlace a) v
  | .tenantLeverMemory c => if mayRead a then s.debugLever c.val a v else s
  | .otherLeverMemory =>
    if 0x1000000 ≤ a && mayRead a then s.debugLever 0 a v
    else match placeField (Config.debugPlace a) with
      | some (f, i, sub, b) => s.put f i sub (putByte (s.get f i sub) b v)
      | none => s
  | .ledger => s.ledgerPoke a v
  | .keyStore => s

/-- DEBUG_ACCESS (R400, R401): open, or locked and logged. A read where nothing says what stands there gives a free value. -/
def execDebugAccess (target : DebugTarget) (addr : Nat) (write : Option Byte) (s : State) : Result :=
  .next (if !s.awake then s
  else if !s.debugOpen target write.isSome then (s.logSecurity (.debugAccess addr s.ftb write.isSome)).emit (.debugReply 0 true)
  else
    match write with
    | some b => (s.debugPut target addr b).emit (.debugReply 0 false)
    | none =>
      match s.debugByte target addr with
      | some v => s.emit (.debugReply v false)
      | none => s.drawn.emit (.debugReply (s.free % 256) false))

end Sys2Proof.Machine
end

