-- ==== Sys2Proof/Machine/SlotEvents.lean ====
section
/-! DEFINITION. The events of the slots (R463, R470 to R494). An event whose condition the slot's state does not meet
changes nothing. -/

namespace Sys2Proof.Machine

/-- SEAT_DEBOUNCE (R470): SEAT_N low for 20 ms makes SEATED 1. -/
def execSeatDebounce (n : Slot) (s : State) : Result :=
  .next (if s.get .slotSeated n.val = 0 then s.gainSeat n.val else s)

/-- SEATING_LOST (R487): SEAT_N high for 10 µs makes SEATED 0 and moves the slot. -/
def execSeatingLost (n : Slot) (s : State) : Result :=
  .next (if s.get .slotSeated n.val = 1 then s.loseSeat n.val else s)

/-- SLOT_START (R472): a waiting slot takes a free start position. -/
def execSlotStart (n : Slot) (s : State) : Result :=
  .next (if s.waiting n.val then s.tryStart n.val else s)

/-- PRECHARGE_COMPLETE (R473): VOUT reaches 80 % of VIN and the slot moves to RAMP. -/
def execPrechargeComplete (n : Slot) (t20 t60 : Option Nat) (s : State) : Result :=
  .next (if s.slotState n.val = slotPrecharge && s.domainOn 10 then (s.estimateBulk n.val t20 t60).beginRamp n.val else s)

/-- PRECHARGE_TIMEOUT (R473): PC_TIME passes and the slot moves to RAMP. -/
def execPrechargeTimeout (n : Slot) (t20 t60 : Option Nat) (s : State) : Result :=
  .next (if s.slotState n.val = slotPrecharge && s.domainOn 10 && decide ((s.slot n.val).pcDeadline ≤ s.ftb) then
    (s.estimateBulk n.val t20 t60).beginRamp n.val else s)

/-- RAMP_ON (R475, R476): the slot enters ON; PGOOD and PFW_N are released, PERST_DLY starts, and the containment of the
slot's port is released. -/
def execRampOn (n : Slot) (s : State) : Result :=
  .next (if s.slotState n.val = slotRamp then
    ((s.modSlot n.val (fun x => { x with since := s.ftb, vinWarned := false,
                                         perstAt := some (s.ftb + ms (s.get .slotPerstDly n.val)) })).setSlot n.val slotOn).unwarnPort
      n.val
  else s)

/-- RAMP_SHORT (R475): VOUT stayed below 2 V for SHORT_T from the start of the ramp: a trip with cause 4. -/
def execRampShort (n : Slot) (s : State) : Result :=
  .next (if s.slotState n.val = slotRamp && decide ((s.slot n.val).since + us (s.limitsOf n.val).shortT ≤ s.ftb) then s.trip n.val 4
  else s)

/-- RAMP_TIMEOUT (R475): RAMP_T passes without ON: a trip with cause 5. -/
def execRampTimeout (n : Slot) (s : State) : Result :=
  .next (if s.slotState n.val = slotRamp && decide ((s.slot n.val).rampDeadline ≤ s.ftb) then s.trip n.val 5 else s)

/-- PERST_RELEASE (R463): PERST_DLY has passed in ON, and the pin goes high if nothing else holds it. -/
def execPerstRelease (n : Slot) (s : State) : Result :=
  .next (match (s.slot n.val).perstAt with
    | some t => if s.slotState n.val = slotOn && decide (t ≤ s.ftb) then
        (s.modSlot n.val (fun x => { x with perstAt := none })).drivePerst n.val else s
    | none => s)

/-- ON_TRIPS_CLEAR (R476): 60 s in ON clears TRIPS. -/
def execOnTripsClear (n : Slot) (s : State) : Result :=
  .next (if s.slotState n.val = slotOn && decide ((s.slot n.val).since + ms 60000 ≤ s.ftb) then s.put .slotTrips n.val 0 0 else s)

/-- CIRCUIT_BREAKER_TRIP (R479): IOUT above ILIM for BLANK in ON or DOWN: a trip with cause 1. -/
def execCircuitBreakerTrip (n : Slot) (iout : Nat) (s : State) : Result :=
  .next (if (s.slotState n.val = slotOn || s.slotState n.val = slotDown) && decide ((s.limitsOf n.val).ilim < iout) then
    s.trip n.val 1 else s)

/-- FAST_TRIP (R480): IOUT above the fast-trip threshold with the gate on: a trip with cause 2. -/
def execFastTrip (n : Slot) (iout : Nat) (s : State) : Result :=
  .next (if (s.slot n.val).gate && decide (s.fastTripLevel n.val < iout) then s.trip n.val 2 else s)

/-- THERMAL_TRIP (R482): TFET above TEMP_TRIP with the gate on: a trip with cause 3. -/
def execThermalTrip (n : Slot) (tfet : Nat) (s : State) : Result :=
  .next (if (s.slot n.val).gate && decide ((s.limitsOf n.val).tempTrip < tfet) then
    (s.put .slotTfet n.val 0 (saturate 8 tfet)).trip n.val 3 else s)

/-- VOUT_LOW_TRIP (R477): VOUT below 90 % of VIN for 20 µs in ON: a trip with cause 6. -/
def execVoutLowTrip (n : Slot) (vin vout : Nat) (s : State) : Result :=
  .next (if s.slotState n.val = slotOn && decide (vout * 100 < vin * 90) then s.trip n.val 6 else s)

/-- VIN_WARNING (R483): VIN falls below 10.4 V: an event on EV, and PFW_N low on a slot in ON, with the containment of its
port (R478). -/
def execVinWarning (n : Slot) (s : State) : Result :=
  let s1 := (s.modSlot n.val (fun x => { x with vinBad := true })).raiseT0 .slotEv n.val
  .next ((if s.slotState n.val = slotOn then
    (s1.modSlot n.val (fun x => { x with pfwN := false, vinWarned := true })).warnPort n.val else s1).slotWake)

/-- VIN_WARNING_CLEAR (R483): VIN rises above 10.6 V and PFW_N is released on a slot still in ON, with the containment of
that warning. -/
def execVinWarningClear (n : Slot) (s : State) : Result :=
  .next (if s.slotState n.val = slotOn && (s.slot n.val).vinWarned then
    (s.modSlot n.val (fun x => { x with pfwN := true, vinWarned := false })).unwarnPort n.val else s)

/-- VIN_UNDERVOLTAGE (R483): VIN below 9.0 V turns the gate off with cause 7. -/
def execVinUndervoltage (n : Slot) (s : State) : Result := .next (s.inhibit n.val 7)

/-- VIN_OVERVOLTAGE (R483): VIN above 15.5 V turns the gate off with cause 8. -/
def execVinOvervoltage (n : Slot) (s : State) : Result := .next (s.inhibit n.val 8)

/-- VIN_IN_RANGE (R483): VIN within the range for 10 ms: an inhibited slot may start. -/
def execVinInRange (n : Slot) (s : State) : Result :=
  let s1 := s.modSlot n.val (fun x => { x with vinBad := false })
  .next (if s.slotState n.val = slotInhibit then s1.tryStart n.val else s1)

/-- PFW_LEAD_END (R478): the warning lead of DOWN ends and the gate turns off. -/
def execPfwLeadEnd (n : Slot) (s : State) : Result :=
  .next (if s.slotState n.val = slotDown && decide ((s.slot n.val).leadEnd ≤ s.ftb) then s.endDown n.val else s)

/-- Whether the FET is cool enough for a retry: 20 °C below TEMP_TRIP (R485). -/
def State.fetCool (s : State) (n tfet : Nat) : Bool := tfet + 20 ≤ (s.limitsOf n).tempTrip

/-- RETRY_DELAY_EXPIRY (R485): RETRY_DLY has passed; with TFET cooled the slot starts, else it waits for FET_COOLED. -/
def execRetryDelayExpiry (n : Slot) (s : State) : Result :=
  let x := s.slot n.val
  .next (if s.slotState n.val = slotRetryWait && s.domainOn 10 && !x.tripLatched && decide (x.retryAt ≤ s.ftb) then
    if s.fetCool n.val (s.get .slotTfet n.val) then s.tryStart n.val
    else s.modSlot n.val (fun y => { y with retryPassed := true })
  else s)

/-- ABSENCE_EXPIRY (R489): TRIPS becomes 0, and a slot in ABSENT or LOCKOUT goes to EMPTY or OFF. -/
def execAbsenceExpiry (n : Slot) (s : State) : Result :=
  .next (match (s.slot n.val).absence with
    | some t =>
      if t ≤ s.ftb then
        let s1 := (s.put .slotTrips n.val 0 0).modSlot n.val (fun x => { x with absence := none })
        if s.slotState n.val = slotAbsent || s.slotState n.val = slotLockout then
          s1.setSlot n.val (if s.get .slotEnable n.val = 1 then slotEmpty else slotOff)
        else s1
      else s
    | none => s)

/-- SLOT_THRESHOLDS_READY (R484): the new analogue limits are in place. -/
def execSlotThresholdsReady (n : Slot) (s : State) : Result :=
  .next (s.modSlot n.val (fun x => { x with limits := none, limitsDue := false }))

/-- SLOT_SAMPLE (R493): VIN, VOUT and IOUT are sampled while PD10 is on. -/
def execSlotSample (n : Slot) (vin vout iout tfet : Nat) (s : State) : Result :=
  .next (if s.domainOn 10 then s.sampleSlot n.val vin vout iout tfet else s)

/-- FET_COOLED (R485): a slot whose retry delay has passed sees TFET 20 °C below TEMP_TRIP and starts. -/
def execFetCooled (n : Slot) (tfet : Nat) (s : State) : Result :=
  let s1 := s.put .slotTfet n.val 0 (saturate 8 tfet)
  .next (if s.slotState n.val = slotRetryWait && s.domainOn 10 && (s.slot n.val).retryPassed && s.fetCool n.val tfet then
    s1.tryStart n.val else s1)

end Sys2Proof.Machine
end

