-- ==== Sys2Proof/Machine/TrunkEvents.lean ====
section
/-! DEFINITION. The events of a Trunk port (R147 to R149, R199 to R241). An event that a port's state does not admit
changes nothing. -/

namespace Sys2Proof.Machine

/-- Receiver detection finds no partner: after having found one, the lanes of the port are measured (R150). -/
def State.partnerGone (s : State) (p : Nat) : State :=
  if (s.port p).partnerFound then
    (s.lanesOf p).foldl (fun s l => s.measureLane l) (s.modPort p (fun x => { x with partnerFound := false }))
  else s

/-- Receiver detection finds a partner: the port trains (R191, R199). A Trunk port begins Hello; a CXL port in the downstream-port
role proposes the Lerevos alternate protocol immediately before its CXL 3.1 entry (R195). -/
def State.partnerSeen (s : State) (p : Nat) : State :=
  let s1 := (s.put .portLink p 0 2).modPort p (fun x => { x with partnerFound := true })
  if s.get .portProto p = 2 then
    (s1.modTrunk p (fun x => { x with stage := .hello, since := s.ftb, hello := {} })).sendHello p
  else if s.get .portProto p = 1 && (s.uspOf p).isNone then s1.emit (.alternateProtocols p [0x1D74, 0x1E98])
  else s1

/-- DETECT_RETRY (R150, R191, R199): a partner found begins the training; one no longer found makes the station measure. A standard
port that loses its partner while it trains detects again. -/
def execDetectRetry (p : Port) (found : Bool) (s : State) : Result :=
  let l := s.get .portLink p.val
  .next (if s.restLink p.val == 1 && (l == 1 || (l == 2 && s.get .portProto p.val != 2)) then
    if found then (if l == 1 then s.partnerSeen p.val else s)
    else (s.put .portLink p.val 0 1).partnerGone p.val
  else s)

/-- HELLO (R202 to R204). -/
def execHello (p : Port) (h : Hello) (lanesOk : Nat) (downwards : Bool) (s : State) : Result :=
  .next (if s.trunkAt p.val .hello && s.get .portLink p.val == 2 then s.receiveHello p.val h lanesOk downwards else s)

/-- TRUNK_STAGE_TIMEOUT (R199): Hello, or the equalisation of one rate, has lasted 24 ms. -/
def execTrunkStageTimeout (p : Port) (s : State) : Result :=
  .next (if (s.trunkAt p.val .hello || s.trunkAt p.val .equalise) && s.get .portLink p.val == 2 &&
      decide ((s.port p.val).trunk.since + 24000000 ≤ s.ftb) then s.trunkStageFails p.val else s)

/-- TRUNK_EQUALISATION_DONE (R205, R206): the next rate is equalised, and after the link rate flits flow. -/
def execTrunkEqualisationDone (e : Equalised) (s : State) : Result :=
  .next (if s.trunkAt e.port.val .equalise && s.get .portLink e.port.val == 2 then
    let x := (s.port e.port.val).trunk
    let s1 := s.modCtl e.port.val (fun c => { c with equalised := c.equalised ++ [x.rate] })
    if x.rate < x.hello.rate then s1.modTrunk e.port.val (fun x => { x with rate := x.rate + 1, since := s.ftb })
    else s1.enterActive e.port.val e
  else s)

/-- ALIGNMENT_MARKER (R149, R229, R230). -/
def execAlignmentMarker (p : Port) (physical : Fin 16) (bytes : List Byte) (inverted : Bool) (s : State) : Result :=
  .next (if (s.trunkAt p.val .active || s.trunkAt p.val .recovery) && decide (physical.val < (s.portLanes p.val).2) then
    s.receiveMarker p.val physical.val bytes inverted else s)

/-- FLIT_BOUNDARY (R202, R216, R229): the transmitter sends its next flit; a port in Hello sends its next Hello; in recovery fresh
markers go out and the interval is wasted (R570). -/
def execFlitBoundary (p : Port) (s : State) : Result :=
  .next (if s.trunkAt p.val .active then s.sendFlit p.val
    else if s.trunkAt p.val .hello && s.get .portLink p.val == 2 then s.sendHello p.val
    else if s.trunkAt p.val .recovery then (s.nextMarker p.val).countSlots p.val [0x003]
    else s)

/-- TRUNK_FLIT_RECEIVE (R210, R224, R225, R241): 256 bytes arrive. -/
def execTrunkFlitReceive (p : Port) (body crc fec : List Byte) (s : State) : Result :=
  .next (if s.trunkAt p.val .active then s.receiveBytes p.val (body ++ crc ++ fec) else s)

/-- REPLAY_TIMER (R226): 4,000 ns without ACK advancing starts a replay. -/
def execReplayTimer (p : Port) (s : State) : Result :=
  .next (match (s.port p.val).trunk.replayTimer with
    | some t => if s.trunkAt p.val .active && decide (t ≤ s.ftb) then s.startReplay p.val else s
    | none => s)

/-- TRUNK_RECOVERY (R229, R230): an end enters recovery, on its own or because its partner did. -/
def execTrunkRecovery (p : Port) (byMarkers : Bool) (s : State) : Result :=
  .next (if s.trunkAt p.val .active then s.enterRecovery p.val
    else if byMarkers && s.get .portProto p.val == 2 && s.portOk p.val && (s.port p.val).trunk.stage == .parked then s.unpark p.val
    else s)

/-- TRUNK_RECOVERY_TIMEOUT (R229, R231): the link goes down. -/
def execTrunkRecoveryTimeout (p : Port) (s : State) : Result :=
  .next (if s.trunkAt p.val .recovery &&
      decide ((s.port p.val).trunk.since + (s.port p.val).ctl.recoveryLimit ≤ s.ftb) then s.dropLink p.val else s)

/-- CHANGE_REQ (R231): the initiator commands the least of its own wish and every request not yet served; a request that crossed its
CHANGE_GO is served only where the result does not already meet it. -/
def execChangeReq (p : Port) (width rate : Byte) (s : State) : Result :=
  .next (if s.trunkAt p.val .active && (s.port p.val).trunk.initiator && s.changeOk p.val (width.toNat, rate.toNat) then
    s.onMessage p.val 0x03 [width, rate] (fun s => s.serveChange p.val (width.toNat, rate.toNat))
  else s)

/-- CHANGE_GO (R231): the responder carries the change out; a request of its own that it crosses is withdrawn and counted.
A request crosses if its flit is not yet acknowledged. -/
def execChangeGo (p : Port) (width rate : Byte) (s : State) : Result :=
  .next (if s.trunkAt p.val .active && !(s.port p.val).trunk.initiator && s.changeOk p.val (width.toNat, rate.toNat) then
    s.onMessage p.val 0x04 [width, rate] (fun s =>
    let x := s.port p.val
    let crossed := x.ctl.changeSent.isSome &&
      (x.trunk.bypass.any (fun m => m.type == 0x03) || x.trunk.replay.any (fun e => x.ctl.changeSeq == some e.seq))
    let s1 := if crossed then
        (s.countPort p.val 0x018).modTrunk p.val (fun x => { x with bypass := x.bypass.filter (fun m => m.type != 0x03) })
      else s
    s1.applyChange p.val (width.toNat, rate.toNat))
  else s)

/-- LEVEL_MESSAGE (R135, R232): each end forms the common level; the initiator answers with it and a switch point of its
choice, which is a free value, and the responder takes them. With no level the port goes to LINK 13. -/
def execLevelMessage (p : Port) (trunk trunkMin result : Byte) (switchAt : BitVec 16) (s : State) : Result :=
  .next (if s.trunkAt p.val .active then s.onMessage p.val 0x02 ([trunk, trunkMin, result, 0] ++ toLE 2 switchAt.toNat) (fun s =>
    let s1 := s.modCtl p.val (fun c => { c with peerLevels := some (trunk.toNat, trunkMin.toNat) })
    match commonLevel s.boot.image.trunk s.boot.image.trunkMin trunk.toNat trunkMin.toNat with
    | none => s1.linkDownTo p.val 13
    | some level =>
      if (s.port p.val).trunk.initiator then
        let at_ := s.free % 4096
        ((s1.modCtl p.val (fun c => { c with levelAgreed := some (level, at_) })).sendLevel p.val level at_).drawn
      else if result.toNat = 0 then s1.sendLevel p.val 0 0
      else s1.modCtl p.val (fun c => { c with levelAgreed := some (result.toNat, switchAt.toNat % 4096) }))
  else s)

/-- TIME_MESSAGE (R454): an offset is formed where the message answers this end's last TIME; each message is t1 of the next
exchange. On the followed port the servo acts on it. -/
def execTimeMessage (p : Port) (tTx tRxPrev peerTxPrev : BitVec 64) (s : State) : Result :=
  .next (if s.trunkAt p.val .active then
    s.onMessage p.val 0x01 (toLE 8 tTx.toNat ++ toLE 8 tRxPrev.toNat ++ toLE 8 peerTxPrev.toNat) (fun s =>
    let c := (s.port p.val).ctl
    let s1 := s.modCtl p.val (fun c => { c with peerTx := some tTx.toNat, peerRxAt := some s.ftb })
    let follows := s.get .deviceFtbSrc 0 == 2 && s.get .deviceFtbPort 0 == p.val
    if follows && c.lastTx == some peerTxPrev.toNat then
      let t1 : Int := peerTxPrev.toNat
      let t2 : Int := tRxPrev.toNat
      let t3 : Int := tTx.toNat
      s1.servo (((t2 - t1) + (t3 - (s.ftb : Int))) / 2)
    else s1)
  else s)

/-- PARK_REQ (R234): answered by whether anything is unacknowledged or queued here. Where requests cross, the responder answers the
initiator's, and both requests of the responder and of the initiator's own turn are settled by that answer. -/
def execParkReq (p : Port) (s : State) : Result :=
  .next (if s.trunkAt p.val .active then s.onMessage p.val 0x05 [] (fun s =>
    let c := (s.port p.val).ctl
    if c.parkAsked && (s.port p.val).trunk.initiator then s
    else
      let agree := s.quiet p.val
      (s.sendBypass p.val 0x06 8 [if agree then 1 else 0]).modCtl p.val (fun c =>
        { c with parkAgreed := c.parkAgreed || agree, parkAsked := false }))
  else s)

/-- PARK_ACK (R234): on agreement the link goes idle once an IDLE flit has acknowledged it, and otherwise the end may ask again after
100 µs. -/
def execParkAck (p : Port) (agree : Bool) (s : State) : Result :=
  .next (if s.trunkAt p.val .active then s.onMessage p.val 0x06 [if agree then 1 else 0] (fun s =>
    if agree then s.modCtl p.val (fun c => { c with parkAgreed := true, parkAsked := false })
    else s.modCtl p.val (fun c => { c with parkAsked := false, parkRetry := s.ftb + 100000 }))
  else s)

/-- PARK_EXIT (R235): the squelch detector sees the partner leave electrical idle, or the port has something to send. -/
def execParkExit (p : Port) (s : State) : Result :=
  .next (if s.get .portProto p.val == 2 && s.portOk p.val && (s.port p.val).trunk.stage == .parked then s.unpark p.val else s)

/-- Trunk IDE is keyed (R237): the two controllers have derived one key per direction for each key set. -/
def State.keyTrunk (s : State) (p : Nat) : State :=
  let id := match s.sec.sessions.find? (fun e => match e.2.place with | .trunk q => q.val == p | _ => false) with
    | some e => e.1
    | none => s.sec.nextSession
  s.modCtl p (fun c => { c with
    ide := true, keying := false, session := id, derived := 0, ksetTx := false, ksetRx := false, epochTx := 1, epochRx := 1, epochFlits := 0,
    sealing := [], held := [],
    keys := (List.range 4).map (fun i => (i, Config.trunkKey id 0 (i / 2) (i % 2))) })

/-- MCTP_BYPASS (R134, R237, R240, R241): the end of the keying starts Trunk IDE, or takes the port to LINK 15 where SPDM
authentication failed; the initiator's key update reaches the responder; orders never cross a Trunk link and are discarded. Each packet
is a TYPE 0x07 message that the port has released. -/
def execMctpBypass (p : Port) (packet : TrunkMctp) (s : State) : Result :=
  .next (if s.trunkAt p.val .active then s.onMessage p.val 0x07 [] (fun s =>
    match packet with
    | .keyed true => s.keyTrunk p.val
    | .keyed false => (s.logSecurity (.spdmAuthFailure p.val)).linkDownTo p.val 15
    | .keyUpdate => if (s.port p.val).ctl.ide && !(s.port p.val).trunk.initiator then s.updateKeys p.val else s
    | .spdm _ => s
    | .order _ => s.modSec (fun x => { x with discarded := x.discarded + 1 }))
  else s)

/-- SPDM_KEY_UPDATE (R240): the initiator starts a key update; each transmitter takes the other key set from the first flit of its next
epoch. -/
def execSpdmKeyUpdate (p : Port) (s : State) : Result :=
  .next (if s.trunkAt p.val .active && (s.port p.val).ctl.ide && (s.port p.val).trunk.initiator && !(s.port p.val).ctl.keyUpdating then
    s.updateKeys p.val else s)

end Sys2Proof.Machine
end

