-- ==== Sys2Proof/Machine/Dispatch.lean ====
section
/-! DEFINITION. The dispatcher: one arm per command of the table. -/

namespace Sys2Proof.Machine

/-- The effect of a command on everything but the queue. -/
def exec (i : Instr) (s : State) : Host.Outcome State Fault Refusal :=
  match i with
  | .add c o => Sys2Proof.Machine.execAdd c o s
  | .sub c o => Sys2Proof.Machine.execSub c o s
  | .andAlu c o => Sys2Proof.Machine.execAndAlu c o s
  | .orAlu c o => Sys2Proof.Machine.execOrAlu c o s
  | .xorAlu c o => Sys2Proof.Machine.execXorAlu c o s
  | .sll c o => Sys2Proof.Machine.execSll c o s
  | .srl c o => Sys2Proof.Machine.execSrl c o s
  | .sra c o => Sys2Proof.Machine.execSra c o s
  | .slt c o => Sys2Proof.Machine.execSlt c o s
  | .sltu c o => Sys2Proof.Machine.execSltu c o s
  | .mul c o => Sys2Proof.Machine.execMul c o s
  | .mulhu c o => Sys2Proof.Machine.execMulhu c o s
  | .divu c o => Sys2Proof.Machine.execDivu c o s
  | .remu c o => Sys2Proof.Machine.execRemu c o s
  | .minu c o => Sys2Proof.Machine.execMinu c o s
  | .maxu c o => Sys2Proof.Machine.execMaxu c o s
  | .amoadd c o => Sys2Proof.Machine.execAmoadd c o s
  | .amoswap c o => Sys2Proof.Machine.execAmoswap c o s
  | .amoand c o => Sys2Proof.Machine.execAmoand c o s
  | .amoor c o => Sys2Proof.Machine.execAmoor c o s
  | .addi c o => Sys2Proof.Machine.execAddi c o s
  | .andi c o => Sys2Proof.Machine.execAndi c o s
  | .ori c o => Sys2Proof.Machine.execOri c o s
  | .xori c o => Sys2Proof.Machine.execXori c o s
  | .extField c o => Sys2Proof.Machine.execExtField c o s
  | .insField c o => Sys2Proof.Machine.execInsField c o s
  | .lui c o => Sys2Proof.Machine.execLui c o s
  | .shor c o => Sys2Proof.Machine.execShor c o s
  | .slti c o => Sys2Proof.Machine.execSlti c o s
  | .sltiu c o => Sys2Proof.Machine.execSltiu c o s
  | .slli c o => Sys2Proof.Machine.execSlli c o s
  | .srli c o => Sys2Proof.Machine.execSrli c o s
  | .srai c o => Sys2Proof.Machine.execSrai c o s
  | .ld c o => Sys2Proof.Machine.execLd c o s
  | .lw c o => Sys2Proof.Machine.execLw c o s
  | .lb c o => Sys2Proof.Machine.execLb c o s
  | .sd c o => Sys2Proof.Machine.execSd c o s
  | .sw c o => Sys2Proof.Machine.execSw c o s
  | .sb c o => Sys2Proof.Machine.execSb c o s
  | .jal c o => Sys2Proof.Machine.execJal c o s
  | .jalr c o => Sys2Proof.Machine.execJalr c o s
  | .beq c o => Sys2Proof.Machine.execBeq c o s
  | .bne c o => Sys2Proof.Machine.execBne c o s
  | .blt c o => Sys2Proof.Machine.execBlt c o s
  | .bge c o => Sys2Proof.Machine.execBge c o s
  | .bltu c o => Sys2Proof.Machine.execBltu c o s
  | .bgeu c o => Sys2Proof.Machine.execBgeu c o s
  | .openObj c o => Sys2Proof.Machine.execOpenObj c o s
  | .ldf c o => Sys2Proof.Machine.execLdf c o s
  | .stf c o => Sys2Proof.Machine.execStf c o s
  | .newObj c o => Sys2Proof.Machine.execNewObj c o s
  | .delObj c o => Sys2Proof.Machine.execDelObj c o s
  | .commitBuf c o => Sys2Proof.Machine.execCommitBuf c o s
  | .commitUnitGrant c => Sys2Proof.Machine.execCommitUnitGrant c s
  | .commitRoundBoundary => Sys2Proof.Machine.execCommitRoundBoundary s
  | .doneOrder c o => Sys2Proof.Machine.execDoneOrder c o s
  | .failOrder c o => Sys2Proof.Machine.execFailOrder c o s
  | .timeNow c o => Sys2Proof.Machine.execTimeNow c o s
  | .roundCount c o => Sys2Proof.Machine.execRoundCount c o s
  | .who c o => Sys2Proof.Machine.execWho c o s
  | .rlen c o => Sys2Proof.Machine.execRlen c o s
  | .raiseEvent c o => Sys2Proof.Machine.execRaiseEvent c o s
  | .waitUntil c o => Sys2Proof.Machine.execWaitUntil c o s
  | .waitExpiry c => Sys2Proof.Machine.execWaitExpiry c s
  | .fence c o => Sys2Proof.Machine.execFence c o s
  | .pet c o => Sys2Proof.Machine.execPet c o s
  | .brk c o => Sys2Proof.Machine.execBrk c o s
  | .coreNumber c o => Sys2Proof.Machine.execCoreNumber c o s
  | .leverTimeLimit c => Sys2Proof.Machine.execLeverTimeLimit c s
  | .residentWatchdog c => Sys2Proof.Machine.execResidentWatchdog c s
  | .submitOrder src => Sys2Proof.Machine.execSubmitOrder src s
  | .vendorOpcodeUnsupported src opcode => Sys2Proof.Machine.execVendorOpcodeUnsupported src opcode s
  | .twGo t ctl => Sys2Proof.Machine.execTwGo t ctl s
  | .orderDispatch c => Sys2Proof.Machine.execOrderDispatch c s
  | .orderDeadline id => Sys2Proof.Machine.execOrderDeadline id s
  | .identifySwitchDevice src => Sys2Proof.Machine.execIdentifySwitchDevice src s
  | .getPhysicalPortState src start count => Sys2Proof.Machine.execGetPhysicalPortState src start count s
  | .physicalPortControl src port op => Sys2Proof.Machine.execPhysicalPortControl src port op s
  | .sendPpbCxlioConfigRequest src port op reg be data => Sys2Proof.Machine.execSendPpbCxlioConfigRequest src port op reg be data s
  | .getVirtualCxlSwitchInfo src start count => Sys2Proof.Machine.execGetVirtualCxlSwitchInfo src start count s
  | .bindVppb src vcs vppb kind port ldid => Sys2Proof.Machine.execBindVppb src vcs vppb kind port ldid s
  | .unbindVppb src vcs vppb option => Sys2Proof.Machine.execUnbindVppb src vcs vppb option s
  | .generateAerEvent src vcs vppb error header => Sys2Proof.Machine.execGenerateAerEvent src vcs vppb error header s
  | .tunnelManagementCommand src port target request => Sys2Proof.Machine.execTunnelManagementCommand src port target request s
  | .sendLdCxlioConfigRequest src port ldid request => Sys2Proof.Machine.execSendLdCxlioConfigRequest src port ldid request s
  | .sendLdCxlioMemoryRequest src port ldid request => Sys2Proof.Machine.execSendLdCxlioMemoryRequest src port ldid request s
  | .pbrAndGfdCommand src cmd => Sys2Proof.Machine.execPbrAndGfdCommand src cmd s
  | .backgroundComplete => Sys2Proof.Machine.execBackgroundComplete s
  | .portSet c => Sys2Proof.Machine.execPortSet c s
  | .bifurcate c => Sys2Proof.Machine.execBifurcate c s
  | .laneRemap st => Sys2Proof.Machine.execLaneRemap st s
  | .portCtlAssertPerst c => Sys2Proof.Machine.execPortCtlAssertPerst c s
  | .portCtlReleasePerst c => Sys2Proof.Machine.execPortCtlReleasePerst c s
  | .portCtlResetPpb c => Sys2Proof.Machine.execPortCtlResetPpb c s
  | .hotResetEnd p => Sys2Proof.Machine.execHotResetEnd p s
  | .portCtlDisableLink c => Sys2Proof.Machine.execPortCtlDisableLink c s
  | .portCtlEnableLink c => Sys2Proof.Machine.execPortCtlEnableLink c s
  | .portCtlContain c => Sys2Proof.Machine.execPortCtlContain c s
  | .portCtlReleaseContainment c => Sys2Proof.Machine.execPortCtlReleaseContainment c s
  | .ppbCfgRead c => Sys2Proof.Machine.execPpbCfgRead c s
  | .ppbCfgWrite c => Sys2Proof.Machine.execPpbCfgWrite c s
  | .ppbCfgCompletion c status data => Sys2Proof.Machine.execPpbCfgCompletion c status data s
  | .ppbCfgTimeout c => Sys2Proof.Machine.execPpbCfgTimeout c s
  | .vcsSet c => Sys2Proof.Machine.execVcsSet c s
  | .bind c => Sys2Proof.Machine.execBind c s
  | .unbindWaitLinkDown c => Sys2Proof.Machine.execUnbindWaitLinkDown c s
  | .unbindManagedHotRemove c => Sys2Proof.Machine.execUnbindManagedHotRemove c s
  | .unbindSurpriseHotRemove c => Sys2Proof.Machine.execUnbindSurpriseHotRemove c s
  | .pbrSet c => Sys2Proof.Machine.execPbrSet c s
  | .ldTunnel c => Sys2Proof.Machine.execLdTunnel c s
  | .ldTunnelResponse c response => Sys2Proof.Machine.execLdTunnelResponse c response s
  | .ldTunnelTimeout c => Sys2Proof.Machine.execLdTunnelTimeout c s
  | .aerGen c => Sys2Proof.Machine.execAerGen c s
  | .tenantCreate c => Sys2Proof.Machine.execTenantCreate c s
  | .tenantReset c => Sys2Proof.Machine.execTenantReset c s
  | .tenantResetRequestsDone t => Sys2Proof.Machine.execTenantResetRequestsDone t s
  | .tenantResetTimeout t => Sys2Proof.Machine.execTenantResetTimeout t s
  | .tenantResetDone t => Sys2Proof.Machine.execTenantResetDone t s
  | .tenantDestroy c => Sys2Proof.Machine.execTenantDestroy c s
  | .tenantMap c => Sys2Proof.Machine.execTenantMap c s
  | .ruleStage c => Sys2Proof.Machine.execRuleStage c s
  | .bankSwap c => Sys2Proof.Machine.execBankSwap c s
  | .gleanerStop c => Sys2Proof.Machine.execGleanerStop c s
  | .gleanerStart c => Sys2Proof.Machine.execGleanerStart c s
  | .gleanerNewPass c => Sys2Proof.Machine.execGleanerNewPass c s
  | .gleanerSetTail c => Sys2Proof.Machine.execGleanerSetTail c s
  | .gleanerPassFinal t => Sys2Proof.Machine.execGleanerPassFinal t s
  | .gleanerPassTimeout t => Sys2Proof.Machine.execGleanerPassTimeout t s
  | .gleanerRecordWrite t => Sys2Proof.Machine.execGleanerRecordWrite t s
  | .shaperSet c => Sys2Proof.Machine.execShaperSet c s
  | .timetableArm c => Sys2Proof.Machine.execTimetableArm c s
  | .windowSet c => Sys2Proof.Machine.execWindowSet c s
  | .slotPowerOff c => Sys2Proof.Machine.execSlotPowerOff c s
  | .slotPowerOn c => Sys2Proof.Machine.execSlotPowerOn c s
  | .slotPowerCycle c => Sys2Proof.Machine.execSlotPowerCycle c s
  | .slotLimits c => Sys2Proof.Machine.execSlotLimits c s
  | .slotTiming c => Sys2Proof.Machine.execSlotTiming c s
  | .slotMap c => Sys2Proof.Machine.execSlotMap c s
  | .domainSet c => Sys2Proof.Machine.execDomainSet c s
  | .pstateSet c => Sys2Proof.Machine.execPstateSet c s
  | .eventAllocate c => Sys2Proof.Machine.execEventAllocate c s
  | .eventEnable c => Sys2Proof.Machine.execEventEnable c s
  | .eventDisable c => Sys2Proof.Machine.execEventDisable c s
  | .eventClearPending c => Sys2Proof.Machine.execEventClearPending c s
  | .eventFree c => Sys2Proof.Machine.execEventFree c s
  | .counterAllocate c => Sys2Proof.Machine.execCounterAllocate c s
  | .counterProgram c => Sys2Proof.Machine.execCounterProgram c s
  | .counterClear c => Sys2Proof.Machine.execCounterClear c s
  | .counterRun c => Sys2Proof.Machine.execCounterRun c s
  | .counterStop c => Sys2Proof.Machine.execCounterStop c s
  | .counterFree c => Sys2Proof.Machine.execCounterFree c s
  | .readFields c => Sys2Proof.Machine.execReadFields c s
  | .infoIdentify c => Sys2Proof.Machine.execInfoIdentify c s
  | .infoPortState c => Sys2Proof.Machine.execInfoPortState c s
  | .infoVcs c => Sys2Proof.Machine.execInfoVcs c s
  | .standingWrite c => Sys2Proof.Machine.execStandingWrite c s
  | .standingWritePart c => Sys2Proof.Machine.execStandingWritePart c s
  | .standingSessionTimeout => Sys2Proof.Machine.execStandingSessionTimeout s
  | .standingClearRange c => Sys2Proof.Machine.execStandingClearRange c s
  | .standingClearAll c => Sys2Proof.Machine.execStandingClearAll c s
  | .standingList c => Sys2Proof.Machine.execStandingList c s
  | .standingOrderReplay => Sys2Proof.Machine.execStandingOrderReplay s
  | .imageWriteProgram c => Sys2Proof.Machine.execImageWriteProgram c s
  | .imageWriteErase c => Sys2Proof.Machine.execImageWriteErase c s
  | .imageWriteEraseProgram c => Sys2Proof.Machine.execImageWriteEraseProgram c s
  | .imageFlashWorkDone ok => Sys2Proof.Machine.execImageFlashWorkDone ok s
  | .imageStage c => Sys2Proof.Machine.execImageStage c s
  | .stagingDone memoryError => Sys2Proof.Machine.execStagingDone memoryError s
  | .activate c => Sys2Proof.Machine.execActivate c s
  | .activationRehashDone => Sys2Proof.Machine.execActivationRehashDone s
  | .activationQuiescePoint => Sys2Proof.Machine.execActivationQuiescePoint s
  | .activationCopyDone memoryError => Sys2Proof.Machine.execActivationCopyDone memoryError s
  | .activationResume => Sys2Proof.Machine.execActivationResume s
  | .activationReloadDone => Sys2Proof.Machine.execActivationReloadDone s
  | .confirm c => Sys2Proof.Machine.execConfirm c s
  | .laneReport c => Sys2Proof.Machine.execLaneReport c s
  | .chanMeasure c => Sys2Proof.Machine.execChanMeasure c s
  | .channelMeasurementDone st lanes => Sys2Proof.Machine.execChannelMeasurementDone st lanes s
  | .laneTestStop c => Sys2Proof.Machine.execLaneTestStop c s
  | .laneTestStart c => Sys2Proof.Machine.execLaneTestStart c s
  | .laneTestRead c => Sys2Proof.Machine.execLaneTestRead c s
  | .laneTestInject c => Sys2Proof.Machine.execLaneTestInject c s
  | .eyeScan c => Sys2Proof.Machine.execEyeScan c s
  | .eyeScanEnd st lane early errors => Sys2Proof.Machine.execEyeScanEnd st lane early errors s
  | .laneMargining st lane => Sys2Proof.Machine.execLaneMargining st lane s
  | .marginingEnd st lane => Sys2Proof.Machine.execMarginingEnd st lane s
  | .mirrorSet c => Sys2Proof.Machine.execMirrorSet c s
  | .agentSet c => Sys2Proof.Machine.execAgentSet c s
  | .deadlogRead c => Sys2Proof.Machine.execDeadlogRead c s
  | .coherenceSet c => Sys2Proof.Machine.execCoherenceSet c s
  | .coherentFlush c => Sys2Proof.Machine.execCoherentFlush c s
  | .coherentFlushDone t => Sys2Proof.Machine.execCoherentFlushDone t s
  | .checkerClear c => Sys2Proof.Machine.execCheckerClear c s
  | .queueRead c => Sys2Proof.Machine.execQueueRead c s
  | .classSet c => Sys2Proof.Machine.execClassSet c s
  | .timeSet c => Sys2Proof.Machine.execTimeSet c s
  | .ideStop c => Sys2Proof.Machine.execIdeStop c s
  | .ideEstablish c => Sys2Proof.Machine.execIdeEstablish c s
  | .ideRefresh c => Sys2Proof.Machine.execIdeRefresh c s
  | .ideKmDone p secure => Sys2Proof.Machine.execIdeKmDone p secure s
  | .tokenNonce c => Sys2Proof.Machine.execTokenNonce c s
  | .tokenWrite c => Sys2Proof.Machine.execTokenWrite c s
  | .unitCounterProgram c => Sys2Proof.Machine.execUnitCounterProgram c s
  | .unitCounterClear c => Sys2Proof.Machine.execUnitCounterClear c s
  | .unitSetRun c => Sys2Proof.Machine.execUnitSetRun c s
  | .unitSetStop c => Sys2Proof.Machine.execUnitSetStop c s
  | .unitSetZero c => Sys2Proof.Machine.execUnitSetZero c s
  | .sensorSet c => Sys2Proof.Machine.execSensorSet c s
  | .resetWarm c => Sys2Proof.Machine.execResetWarm c s
  | .resetStation c => Sys2Proof.Machine.execResetStation c s
  | .resetLever c => Sys2Proof.Machine.execResetLever c s
  | .leverReloadDone => Sys2Proof.Machine.execLeverReloadDone s
  | .stationRejoin st => Sys2Proof.Machine.execStationRejoin st s
  | .errlogRead c => Sys2Proof.Machine.execErrlogRead c s
  | .registerWrite addr size value => Sys2Proof.Machine.execRegisterWrite addr size value s
  | .powerControllerOff v b => Sys2Proof.Machine.execPowerControllerOff v b s
  | .powerControllerOn v b => Sys2Proof.Machine.execPowerControllerOn v b s
  | .dpcTriggerClear v b => Sys2Proof.Machine.execDpcTriggerClear v b s
  | .configurationRequest v req => Sys2Proof.Machine.execConfigurationRequest v req s
  | .roundBoundary => Sys2Proof.Machine.execRoundBoundary s
  | .participantStuck who => Sys2Proof.Machine.execParticipantStuck who s
  | .rateWindow ends => Sys2Proof.Machine.execRateWindow ends s
  | .frameAdmit f => Sys2Proof.Machine.execFrameAdmit f s
  | .loanReturn p => Sys2Proof.Machine.execLoanReturn p s
  | .admissionRelease p cl => Sys2Proof.Machine.execAdmissionRelease p cl s
  | .frameStart p => Sys2Proof.Machine.execFrameStart p s
  | .frameSent p => Sys2Proof.Machine.execFrameSent p s
  | .shaperRefill => Sys2Proof.Machine.execShaperRefill s
  | .timetableEntryBoundary p => Sys2Proof.Machine.execTimetableEntryBoundary p s
  | .timetableTakeover p => Sys2Proof.Machine.execTimetableTakeover p s
  | .queueSample => Sys2Proof.Machine.execQueueSample s
  | .linkUp p info => Sys2Proof.Machine.execLinkUp p info s
  | .linkDown p cause => Sys2Proof.Machine.execLinkDown p cause s
  | .portFlushDone p => Sys2Proof.Machine.execPortFlushDone p s
  | .replayContainmentTimeout p => Sys2Proof.Machine.execReplayContainmentTimeout p s
  | .flitReceive p ev => Sys2Proof.Machine.execFlitReceive p ev s
  | .detectRetry p found => Sys2Proof.Machine.execDetectRetry p found s
  | .hello p h lanesOk downwards => Sys2Proof.Machine.execHello p h lanesOk downwards s
  | .trunkStageTimeout p => Sys2Proof.Machine.execTrunkStageTimeout p s
  | .trunkEqualisationDone e => Sys2Proof.Machine.execTrunkEqualisationDone e s
  | .alignmentMarker p physical bytes inverted => Sys2Proof.Machine.execAlignmentMarker p physical bytes inverted s
  | .flitBoundary p => Sys2Proof.Machine.execFlitBoundary p s
  | .trunkFlitReceive p body crc fec => Sys2Proof.Machine.execTrunkFlitReceive p body crc fec s
  | .replayTimer p => Sys2Proof.Machine.execReplayTimer p s
  | .trunkRecovery p byMarkers => Sys2Proof.Machine.execTrunkRecovery p byMarkers s
  | .trunkRecoveryTimeout p => Sys2Proof.Machine.execTrunkRecoveryTimeout p s
  | .changeReq p width rate => Sys2Proof.Machine.execChangeReq p width rate s
  | .changeGo p width rate => Sys2Proof.Machine.execChangeGo p width rate s
  | .levelMessage p trunk trunkMin result switchAt => Sys2Proof.Machine.execLevelMessage p trunk trunkMin result switchAt s
  | .timeMessage p tTx tRxPrev peerTxPrev => Sys2Proof.Machine.execTimeMessage p tTx tRxPrev peerTxPrev s
  | .parkReq p => Sys2Proof.Machine.execParkReq p s
  | .parkAck p agree => Sys2Proof.Machine.execParkAck p agree s
  | .parkExit p => Sys2Proof.Machine.execParkExit p s
  | .mctpBypass p packet => Sys2Proof.Machine.execMctpBypass p packet s
  | .spdmKeyUpdate p => Sys2Proof.Machine.execSpdmKeyUpdate p s
  | .ptmRequest p => Sys2Proof.Machine.execPtmRequest p s
  | .ptmResponse p master delay => Sys2Proof.Machine.execPtmResponse p master delay s
  | .syncPeriod => Sys2Proof.Machine.execSyncPeriod s
  | .ftbHoldover => Sys2Proof.Machine.execFtbHoldover s
  | .rdS r => Sys2Proof.Machine.execRdS r s
  | .rdE r => Sys2Proof.Machine.execRdE r s
  | .rdNc r => Sys2Proof.Machine.execRdNc r s
  | .wr r w => Sys2Proof.Machine.execWr r w s
  | .wb r w keepShared => Sys2Proof.Machine.execWb r w keepShared s
  | .evictClean r => Sys2Proof.Machine.execEvictClean r s
  | .atomic r a => Sys2Proof.Machine.execAtomic r a s
  | .rspI agent line data => Sys2Proof.Machine.execRspI agent line data s
  | .rspS agent line data => Sys2Proof.Machine.execRspS agent line data s
  | .memoryData line result => Sys2Proof.Machine.execMemoryData line result s
  | .memoryWriteComplete line ok => Sys2Proof.Machine.execMemoryWriteComplete line ok s
  | .atomicCompletion line old => Sys2Proof.Machine.execAtomicCompletion line old s
  | .lineLockHandoff line => Sys2Proof.Machine.execLineLockHandoff line s
  | .snoopTimeout agent line => Sys2Proof.Machine.execSnoopTimeout agent line s
  | .cReq p m => Sys2Proof.Machine.execCReq p m s
  | .cSnp p m => Sys2Proof.Machine.execCSnp p m s
  | .cWb p m => Sys2Proof.Machine.execCWb p m s
  | .cRsp p m => Sys2Proof.Machine.execCRsp p m s
  | .cData p m => Sys2Proof.Machine.execCData p m s
  | .prefetchFill p line tenant data => Sys2Proof.Machine.execPrefetchFill p line tenant data s
  | .biConflict agent line => Sys2Proof.Machine.execBiConflict agent line s
  | .junctionWrapReceive p w => Sys2Proof.Machine.execJunctionWrapReceive p w s
  | .junctionFarTimeout tag => Sys2Proof.Machine.execJunctionFarTimeout tag s
  | .junctionNearTimeout tag => Sys2Proof.Machine.execJunctionNearTimeout tag s
  | .sbTransferEnd w nack bytes => Sys2Proof.Machine.execSbTransferEnd w nack bytes s
  | .sbArbitrationLost w => Sys2Proof.Machine.execSbArbitrationLost w s
  | .sbReissue w => Sys2Proof.Machine.execSbReissue w s
  | .sbReadTimeout w => Sys2Proof.Machine.execSbReadTimeout w s
  | .windowPoll w alertLow gpiHigh => Sys2Proof.Machine.execWindowPoll w alertLow gpiHigh s
  | .seatDebounce n => Sys2Proof.Machine.execSeatDebounce n s
  | .seatingLost n => Sys2Proof.Machine.execSeatingLost n s
  | .slotStart n => Sys2Proof.Machine.execSlotStart n s
  | .prechargeComplete n t20 t60 => Sys2Proof.Machine.execPrechargeComplete n t20 t60 s
  | .prechargeTimeout n t20 t60 => Sys2Proof.Machine.execPrechargeTimeout n t20 t60 s
  | .rampOn n => Sys2Proof.Machine.execRampOn n s
  | .rampShort n => Sys2Proof.Machine.execRampShort n s
  | .rampTimeout n => Sys2Proof.Machine.execRampTimeout n s
  | .perstRelease n => Sys2Proof.Machine.execPerstRelease n s
  | .onTripsClear n => Sys2Proof.Machine.execOnTripsClear n s
  | .circuitBreakerTrip n iout => Sys2Proof.Machine.execCircuitBreakerTrip n iout s
  | .fastTrip n iout => Sys2Proof.Machine.execFastTrip n iout s
  | .thermalTrip n tfet => Sys2Proof.Machine.execThermalTrip n tfet s
  | .voutLowTrip n vin vout => Sys2Proof.Machine.execVoutLowTrip n vin vout s
  | .vinWarning n => Sys2Proof.Machine.execVinWarning n s
  | .vinWarningClear n => Sys2Proof.Machine.execVinWarningClear n s
  | .vinUndervoltage n => Sys2Proof.Machine.execVinUndervoltage n s
  | .vinOvervoltage n => Sys2Proof.Machine.execVinOvervoltage n s
  | .vinInRange n => Sys2Proof.Machine.execVinInRange n s
  | .pfwLeadEnd n => Sys2Proof.Machine.execPfwLeadEnd n s
  | .retryDelayExpiry n => Sys2Proof.Machine.execRetryDelayExpiry n s
  | .absenceExpiry n => Sys2Proof.Machine.execAbsenceExpiry n s
  | .slotThresholdsReady n => Sys2Proof.Machine.execSlotThresholdsReady n s
  | .slotSample n vin vout iout tfet => Sys2Proof.Machine.execSlotSample n vin vout iout tfet s
  | .sidingEntry st => Sys2Proof.Machine.execSidingEntry st s
  | .sidingWake st src => Sys2Proof.Machine.execSidingWake st src s
  | .sidingExitReady st => Sys2Proof.Machine.execSidingExitReady st s
  | .domainPowerUpDone d => Sys2Proof.Machine.execDomainPowerUpDone d s
  | .stationDomainOff st => Sys2Proof.Machine.execStationDomainOff st s
  | .quadrantGateDrained q => Sys2Proof.Machine.execQuadrantGateDrained q s
  | .pinnedRemap => Sys2Proof.Machine.execPinnedRemap s
  | .quadrantAutoGate => Sys2Proof.Machine.execQuadrantAutoGate s
  | .quadrantAutoUngate => Sys2Proof.Machine.execQuadrantAutoUngate s
  | .pd3Pd4Off => Sys2Proof.Machine.execPd3Pd4Off s
  | .entryOrdersEnded => Sys2Proof.Machine.execEntryOrdersEnded s
  | .entryLinksDown => Sys2Proof.Machine.execEntryLinksDown s
  | .entryDomainsOff => Sys2Proof.Machine.execEntryDomainsOff s
  | .entryRailsOff => Sys2Proof.Machine.execEntryRailsOff s
  | .wake src => Sys2Proof.Machine.execWake src s
  | .watchSample temps slots squelch => Sys2Proof.Machine.execWatchSample temps slots squelch s
  | .pwrRdy => Sys2Proof.Machine.execPwrRdy s
  | .oscRdy => Sys2Proof.Machine.execOscRdy s
  | .memRdy => Sys2Proof.Machine.execMemRdy s
  | .logicRdy => Sys2Proof.Machine.execLogicRdy s
  | .vrPgTimeout => Sys2Proof.Machine.execVrPgTimeout s
  | .wakeRetry => Sys2Proof.Machine.execWakeRetry s
  | .bootPhase0 otpError fuseFailed random => Sys2Proof.Machine.execBootPhase0 otpError fuseFailed random s
  | .bootPhase1 flashAnswers => Sys2Proof.Machine.execBootPhase1 flashAnswers s
  | .imageLoadDone memoryError => Sys2Proof.Machine.execImageLoadDone memoryError s
  | .bootPhase2 => Sys2Proof.Machine.execBootPhase2 s
  | .bootPhase3 => Sys2Proof.Machine.execBootPhase3 s
  | .bootPhase4 => Sys2Proof.Machine.execBootPhase4 s
  | .coldReset straps clkA clkB => Sys2Proof.Machine.execColdReset straps clkA clkB s
  | .sagWarning r mv => Sys2Proof.Machine.execSagWarning r mv s
  | .sagWarnRelease => Sys2Proof.Machine.execSagWarnRelease s
  | .sagReset r mv => Sys2Proof.Machine.execSagReset r mv s
  | .sagRecovery => Sys2Proof.Machine.execSagRecovery s
  | .avsStep => Sys2Proof.Machine.execAvsStep s
  | .railSample mv => Sys2Proof.Machine.execRailSample mv s
  | .sensorSample quarters => Sys2Proof.Machine.execSensorSample quarters s
  | .devloadWindow => Sys2Proof.Machine.execDevloadWindow s
  | .qosAdjust => Sys2Proof.Machine.execQosAdjust s
  | .refclkLoss b => Sys2Proof.Machine.execRefclkLoss b s
  | .refclkReturn b => Sys2Proof.Machine.execRefclkReturn b s
  | .waysideOrderFrame f => Sys2Proof.Machine.execWaysideOrderFrame f s
  | .waysideReply f => Sys2Proof.Machine.execWaysideReply f s
  | .timeMark f => Sys2Proof.Machine.execTimeMark f s
  | .waysideWake f => Sys2Proof.Machine.execWaysideWake f s
  | .waysideStuck => Sys2Proof.Machine.execWaysideStuck s
  | .smbusTimeout => Sys2Proof.Machine.execSmbusTimeout s
  | .setEndpointId e eid => Sys2Proof.Machine.execSetEndpointId e eid s
  | .getEndpointId e => Sys2Proof.Machine.execGetEndpointId e s
  | .getMctpVersionSupport e msgType => Sys2Proof.Machine.execGetMctpVersionSupport e msgType s
  | .getMessageTypeSupport e => Sys2Proof.Machine.execGetMessageTypeSupport e s
  | .getVendorMessageSupport e => Sys2Proof.Machine.execGetVendorMessageSupport e s
  | .getMeasurements e nonce => Sys2Proof.Machine.execGetMeasurements e nonce s
  | .getCertificate e certSlot => Sys2Proof.Machine.execGetCertificate e certSlot s
  | .challenge e certSlot nonce => Sys2Proof.Machine.execChallenge e certSlot nonce s
  | .keyExchange e => Sys2Proof.Machine.execKeyExchange e s
  | .setCertificate e certSlot chain => Sys2Proof.Machine.execSetCertificate e certSlot chain s
  | .doeDiscovery v index => Sys2Proof.Machine.execDoeDiscovery v index s
  | .debugAccess target addr write => Sys2Proof.Machine.execDebugAccess target addr write s
  | .jtagTestInstruction => Sys2Proof.Machine.execJtagTestInstruction s
  | .fatalError code detail => Sys2Proof.Machine.execFatalError code detail s
  | .fatalAction => Sys2Proof.Machine.execFatalAction s
  | .mcWatchdog pc => Sys2Proof.Machine.execMcWatchdog pc s
  | .correctedSummary => Sys2Proof.Machine.execCorrectedSummary s
  | .containedWindowEnd code whereNo => Sys2Proof.Machine.execContainedWindowEnd code whereNo s
  | .reservedOpcode c w => Sys2Proof.Machine.execReservedOpcode c w s
  | .deadAgentScanDone a => Sys2Proof.Machine.execDeadAgentScanDone a s
  | .sidingEntryDone st => Sys2Proof.Machine.execSidingEntryDone st s
  | .tapReset => Sys2Proof.Machine.execTapReset s
  | .fetCooled n tfet => Sys2Proof.Machine.execFetCooled n tfet s
  | .prbsCheckerLock st lane locks => Sys2Proof.Machine.execPrbsCheckerLock st lane locks s
  | .ideKmRequest v stream msg => Sys2Proof.Machine.execIdeKmRequest v stream msg s
  | .invocationCounterLimit p stream => Sys2Proof.Machine.execInvocationCounterLimit p stream s
  | .keyUpdate e session => Sys2Proof.Machine.execKeyUpdate e session s
  | .heartbeat e session => Sys2Proof.Machine.execHeartbeat e session s
  | .dynamicAddressAssignment setdasa address => Sys2Proof.Machine.execDynamicAddressAssignment setdasa address s

end Sys2Proof.Machine
end

