-- ==== Sys2Proof/Machine/Time.lean ====
section
/-! DEFINITION. What a tick of the FTB does when no command waits: Lever time, counter sets, the cells of a quadrant, and the
delivery slots of PCIe and CXL ports, the Gleaner's records that are due, and a waiting Wayside frame (R74, R405, R451, R517, R565, R569 to R573). -/

namespace Sys2Proof.Machine

/-- A port's raw rate in sixteenths of a byte per tick: its width times its rate in eighths of 1 GT/s per lane (R573). -/
def State.rate16 (s : State) (p : Nat) : Nat :=
  match (s.port p).info with
  | some i => i.width * (match i.rate.val with | 0 => 5 | 1 => 10 | 2 => 16 | 3 => 32 | 4 => 64 | 5 => 128 | _ => 256)
  | none => 0

/-- The intervals of 256 bytes that a PCIe or CXL port has begun since its link came up, by a tick (R570). -/
def State.intervalsBy (s : State) (p t : Nat) : Nat := (t - (s.port p).upAt) * s.rate16 p / 4096

/-- The intervals that end at this tick are classed (R570): those of a port that sends are retired, those in LINK 3 wasted,
and the rest idle. -/
def State.portSlots (s : State) (p : Nat) : State :=
  let l := s.get .portLink p
  if s.get .portProto p != 2 && (l == 3 || l == 4 || l == 5) then
    let n := s.intervalsBy p s.ftb - s.intervalsBy p (s.ftb - 1)
    if n = 0 then s
    else
      let evs := if l == 3 then [0x003] else if (s.port p).sending.isSome then [0x002] else s.idleEvents p
      (0x001 :: evs).foldl (fun s e => s.countPort p e {} (4 * n)) s
  else s

/-- Cells that hold a wagon in the sidings of a quadrant. -/
def State.quadrantCells (s : State) (q : Nat) : Nat :=
  ((s.sw.sidQ.filter (fun e => e.1 / 64 / 16 == q)).map (fun e => e.2.length)).sum

/-- At each multiple of 1,000 ticks the occupied cells of each quadrant are added (R569). -/
def State.cellTicks (s : State) : State :=
  if s.ftb % 1000 = 0 then
    (List.range 4).foldl (fun s q => if s.quadrantCells q = 0 then s else s.count (80 + q) 0x060 {} (s.quadrantCells q)) s
  else s

/-- One tick of the FTB passes with everything that a tick counts; a controlled warm reset that waited for running orders goes on
once they have ended (R608), and a waiting Wayside frame leaves (R517). -/
def State.pass (s : State) : State :=
  let s1 := s.tick.cellTicks.recordsDue
  (((s1.ports.filter (fun e => e.2.info.isSome)).map (·.1)).foldl (fun s p => s.portSlots p) s1).warmGoesOn.waysideIdle

end Sys2Proof.Machine
end

