-- ==== Sys2Proof/Safety.lean ====
section
/-! DEFINITION. The terms claims are stated in: what a run must keep (R70, R540), that a command leads to a state with a
property, and what an instruction of a core leaves alone. -/

namespace Sys2Proof.Machine

/-- What no command changes but the boot ROM in phase 0 of a cold reset, which burns fuses: OTP and the waiting commands. -/
structure Fixed where
  otp : Otp
  pending : List Instr
  deriving DecidableEq, Repr

/-- The fixed part of a state. -/
def State.fixed (s : State) : Fixed := ⟨s.otp, s.pending⟩

/-- Every bit of a number that is set is set in another. -/
def bitsKept (a b : Nat) : Prop := a ||| b = b

/-- Every bit set in a byte string is set at the same place of another. -/
def bytesKept (a b : List Byte) : Prop := ∀ i, a.getD i 0 ||| b.getD i 0 = b.getD i 0

/-- Every fuse blown in one image of OTP is blown in another (R540). -/
structure Otp.keeps (a b : Otp) : Prop where
  part : a.partH = b.partH
  lifecycle : bitsKept a.lifecycle b.lifecycle
  serial : a.serial = b.serial
  fdi : a.fdi = b.fdi
  uds : bytesKept a.uds b.uds
  roots : ∀ k, bytesKept (Tab.get [] a.roots k) (Tab.get [] b.roots k)
  rootFlags : ∀ k, bitsKept (Tab.get 0 a.rootFlags k) (Tab.get 0 b.rootFlags k)
  ilimCeil : bitsKept a.ilimCeil b.ilimCeil
  plimCeil : bitsKept a.plimCeil b.plimCeil
  tempCeil : bitsKept a.tempCeil b.tempCeil
  rsense : bitsKept a.rsense b.rsense
  tAmb : bitsKept a.tAmb b.tAmb
  fastPole : bitsKept a.fastPole b.fastPole
  slowPole : bitsKept a.slowPole b.slowPole
  vfloor : bitsKept a.vfloor b.vfloor

/-! ### Where a command leads -/

/-- A command answers a next state, which has a property. -/
def Leads (i : Instr) (s : State) (post : State → Prop) : Prop := ∃ t, exec i s = .next t ∧ post t

/-- A message has left, or waits in the bypass channel of the port it leaves by. -/
def State.sent (s : State) (m : Msg) : Prop := m ∈ s.outbox ∨ ∃ e ∈ s.sw.bypass, ∃ x ∈ e.2, x.2 = m

/-! ### Instructions of a core -/

/-- A core that runs and executes the instruction at its pc: its pc lies where its map lets it execute, in a word without an error,
its order has Lever time left, and no activation halts it there (R51, R71, R74, R128). -/
def State.runs (s : State) (c : Core) : Prop :=
  (s.core c).mode = .running ∧ mayExecute (s.core c).pc.toNat = true ∧ (s.core c).spent = false ∧
  s.badLever c (s.core c).pc.toNat = false ∧
  ¬ (s.boot.activation = .quiesce ∧ (s.core c).resident = true ∧ (s.core c).buf = [])

/-- Nothing but one core has changed. -/
def OnlyCore (s t : State) (c : Core) : Prop :=
  t = { s with lev := { s.lev with cores := t.lev.cores } } ∧ ∀ d : Nat, d ≠ c.val → t.core d = s.core d

/-- Of a core, nothing but its general registers and its pc has changed. -/
def OnlyRegisters (j k : CoreState) : Prop := k = { j with g := k.g, pc := k.pc }

/-- An instruction has put a value in G[rd] and moved on: a write to g0 is discarded (R39), and no other register, no byte of
memory and no other part of the state has changed. -/
def Writes (s t : State) (c : Core) (rd : BitVec 5) (v : Word) : Prop :=
  OnlyCore s t c ∧ OnlyRegisters (s.core c) (t.core c) ∧ (t.core c).pc = (s.core c).pc + 4 ∧
  ∀ r, (t.core c).reg r = if r = rd ∧ r ≠ 0 then v else (s.core c).reg r

/-- A core has stored `n` bytes at an address of its map: every other byte of every core's map is as before, and nothing but
memory, general registers and the pc of that core has changed, and that a whole word stored is a good one again (R589). -/
def Stored (s t : State) (c : Core) (a n : Nat) : Prop :=
  t = { s with
    lev := { s.lev with cores := t.lev.cores, sharedData := t.lev.sharedData }
    errors := { s.errors with
      badLever := if n = 8 then s.errors.badLever.filter (· != leverWord c a) else s.errors.badLever } } ∧
  (∀ d : Nat, d ≠ c.val → t.core d = s.core d) ∧
  t.core c = { s.core c with g := (t.core c).g, pc := (t.core c).pc, mem := (t.core c).mem } ∧
  ∀ d x : Nat, (x < a ∨ a + n ≤ x ∨ (a < 0x1000000 ∧ d ≠ c.val)) → t.leverRead d x 1 = s.leverRead d x 1

/-! ### Memory -/

/-- The commands that may write the bytes of T0 pool memory or the Lever's shared data: stores and AMOs; orders and events at whose
commit a Gleaner stops and writes its records; what loads or clears an image; an eye scan that ends; a debug access. -/
def mayWriteMemory : Instr → Bool
  | .amoadd .. | .amoswap .. | .amoand .. | .amoor .. | .sd .. | .sw .. | .sb .. | .commitRoundBoundary | .portSet ..
  | .bifurcate .. | .portCtlAssertPerst .. | .portCtlReleasePerst .. | .portCtlResetPpb .. | .portCtlDisableLink ..
  | .portCtlEnableLink .. | .portCtlContain .. | .portCtlReleaseContainment .. | .vcsSet .. | .bind ..
  | .unbindWaitLinkDown .. | .unbindManagedHotRemove .. | .unbindSurpriseHotRemove .. | .pbrSet .. | .aerGen ..
  | .tenantCreate .. | .tenantReset .. | .tenantResetDone .. | .tenantDestroy .. | .tenantMap .. | .ruleStage ..
  | .bankSwap .. | .gleanerStop .. | .gleanerStart .. | .gleanerNewPass .. | .gleanerSetTail .. | .gleanerRecordWrite ..
  | .shaperSet .. | .timetableArm .. | .windowSet .. | .slotPowerOff .. | .slotPowerOn .. | .slotPowerCycle ..
  | .slotLimits .. | .slotTiming .. | .slotMap .. | .domainSet .. | .pstateSet .. | .eventAllocate .. | .eventEnable ..
  | .eventDisable .. | .eventClearPending .. | .eventFree .. | .counterAllocate .. | .counterProgram .. | .counterClear ..
  | .counterRun .. | .counterStop .. | .counterFree .. | .imageWriteProgram .. | .imageWriteErase ..
  | .imageWriteEraseProgram .. | .imageStage .. | .stagingDone .. | .activate .. | .activationCopyDone ..
  | .activationReloadDone | .eyeScan .. | .eyeScanEnd .. | .mirrorSet .. | .agentSet .. | .coherenceSet ..
  | .coherentFlush .. | .checkerClear .. | .queueRead .. | .classSet .. | .timeSet .. | .ideStop .. | .ideEstablish ..
  | .ideRefresh .. | .unitCounterProgram .. | .unitCounterClear .. | .unitSetRun .. | .unitSetStop .. | .unitSetZero ..
  | .sensorSet .. | .resetWarm .. | .resetStation .. | .resetLever .. | .leverReloadDone | .logicRdy | .imageLoadDone ..
  | .commitUnitGrant .. | .qosAdjust | .coldReset .. | .sagReset .. | .debugAccess .. | .fatalAction | .mcWatchdog .. => true
  | _ => false

/-! ### Orders -/

/-- A Fabric Manager API command reaches the device: in the mailbox with its doorbell rung, on the management port, or on the
management bus while the device runs (R86 to R88). -/
def State.reached (s : State) (src : RequestSource) (opcodes : Nat → Bool) : Prop :=
  match src with
  | .mailbox => s.ord.mailbox.doorbell = true ∧ opcodes s.ord.mailbox.opcode = true
  | .vdm p _ => s.portUp p.val = true ∧ s.mgmtPort = some p.val
  | .bus _ => s.power.step = .run

/-- An order has been accepted: it waits last in the queue with the next number and the time, and no other part of the state
has changed (R89). -/
def Accepted (s t : State) (o : Order) : Prop :=
  t = { s with ord := { s.ord with
    queue := s.ord.queue ++ [{ o with id := s.ord.nextId, accepted := s.ftb }], nextId := s.ord.nextId + 1 } }

/-! ### Library orders -/

/-- A core runs the library order of an ID and has Lever time left, its run of commits stands at `l`, and the commit unit would serve it
at once: no commit is at the barrier, no other request must come first, and the spacing of holds has passed (R63, R68, R74). -/
def State.goesOn (s : State) (c : Core) (id : Nat) (o : Order) (l : LibraryRun) : Prop :=
  (s.core c).mode = .running ∧ (s.core c).job = some o ∧ o.library = true ∧ o.libid = id ∧ (s.core c).spent = false ∧
  (s.core c).lib = l ∧ s.turnOf c = true ∧ s.holdFree = true

/-- A core has begun the library order of an ID, and its code has made no commit yet. -/
def State.carries (s : State) (c : Core) (id : Nat) (o : Order) : Prop := s.goesOn c id o {}

/-- The commit unit takes a buffer: the state its entries produce keeps every invariant, and the round boundary does not
refuse it (R62, R440). -/
def State.passes (s : State) (es : List Entry) : Prop := violated s (s.stored es) es = none ∧ s.boundaryRefuses es = none

/-- The state after a commit of a core's code: the commit unit has served the core, the barrier has held, every entry and every
action has taken effect at one round boundary, and the vectors it raises are raised (R61, R63, R66, R68); an empty commit is done
at once. -/
def State.committed (s : State) (c : Core) (es : List Entry) (act : State → State) : State :=
  if es.isEmpty then s
  else ((((s.served c).modCore c (fun k => { k with lib := { done := k.lib.done + 1 } })).holdRounds es).applyEntries es act).raiseStaged es

/-- An order has made one commit, and has ended with OK and the reply data of the state after it (R84). -/
def Commits (s t : State) (c : Core) (es : List Entry) (act : State → State) (data : State → List Byte) : Prop :=
  t = (s.committed c es act).endOrder c Status.ok.word (data (s.committed c es act))

/-- An order has ended with OK and reply data, and its code has changed nothing. -/
def Replies (s t : State) (c : Core) (data : List Byte) : Prop := t = s.endOrder c Status.ok.word data

/-! ### Lines of the coherent pool -/

/-- A slice can begin a request for a line at once: the pool's domains are on, nothing holds or waits for the line, its table has
room, no error waits to be found, and no agent's entries are being reclaimed. -/
def State.lineQuiet (s : State) (line : Nat) : Prop :=
  s.domainOn 3 = true ∧ s.domainOn 4 = true ∧ s.lock line = none ∧ Tab.find s.coh.suspended line = none ∧ s.lockCount line < 128 ∧
  line ∉ s.errors.badLoft ∧ (sliceOf line, line % 2 ^ 11) ∉ s.errors.badLoftTags ∧ line ∉ s.errors.badDir ∧ ∀ e ∈ s.coh.agents, e.2.scanning = false

/-- The home station of a line has handed over the request that arrives at its slice (R25, R341). -/
def State.handsOver (s : State) (kind : CohKind) (q : CohReq) (w : Option WriteData) (o : Option AtomicOp) (x : RingRequest) : Prop :=
  s.coh.ring.find? (fun x => x.isFor kind ((s.entry q.line.toNat).ownedBy (s.agentAt q.port.val (q.id.map (·.toNat)))) q w o) = some x

/-- The transaction that holds a line waits for one agent's answer to a snoop, for a request. -/
def Snooping (t : State) (line a kind : Nat) (r : SliceRequest) : Prop :=
  t.sent (.snoop a line kind (snoopForm (t.get .agentKind a) kind)) ∧ ∃ x, t.lock line = some x ∧ x.work = .request r ∧ x.snooped = [a] ∧ x.snoopKind = kind

/-- A Trunk port has released a message of a type whose bytes begin with `body`; taking it leaves `s1` (R220, R241). -/
def State.takes (s : State) (p type : Nat) (body : List Byte) (s1 : State) : Prop :=
  ∃ b, s.takeArrived p type (fun x => x.take body.length == body) = some (b, s1)

/-- A message of a coherence type waits on a Trunk port for a transaction number (R215, R356). -/
def PeerSent (t : State) (p type : Nat) : Prop := ∃ m ∈ (t.port p).trunk.bypass, m.type = type

end Sys2Proof.Machine
end

