-- ==== Sys2Proof/Certificates/Slice0/Obligations.lean ====
section
/-! DEFINITION. The statements for the provers, from the numbered rules of the specification: family by family what each command does
where it can act, then what holds of every command and every step. `Leads c s post` says that command `c` answers a next state at
`s`, and that state has `post`. -/

open Sys2Proof Sys2Proof.Machine

/-- The sixteen register instructions of R49: the value each puts in G[rd], for every core that runs, with a write to g0
discarded, and everything else left alone. -/
def Obligations.RegisterArithmetic : Prop :=
  ∀ (c : Core) (o : RRR) (s : State), s.runs c →
    let a := (s.core c).reg o.ra
    let b := (s.core c).reg o.rb
    let w : Word → State → Prop := fun v t => Writes s t c o.rd v
    Leads (.add c o) s (w (a + b)) ∧
    Leads (.sub c o) s (w (a - b)) ∧
    Leads (.andAlu c o) s (w (a &&& b)) ∧
    Leads (.orAlu c o) s (w (a ||| b)) ∧
    Leads (.xorAlu c o) s (w (a ^^^ b)) ∧
    Leads (.sll c o) s (w (a <<< (b.toNat % 64))) ∧
    Leads (.srl c o) s (w (a >>> (b.toNat % 64))) ∧
    Leads (.sra c o) s (w (a.sshiftRight (b.toNat % 64))) ∧
    Leads (.slt c o) s (w (if a.toInt < b.toInt then 1 else 0)) ∧
    Leads (.sltu c o) s (w (if a.toNat < b.toNat then 1 else 0)) ∧
    Leads (.mul c o) s (w (BitVec.ofNat 64 (a.toNat * b.toNat))) ∧
    Leads (.mulhu c o) s (w (BitVec.ofNat 64 (a.toNat * b.toNat / 2 ^ 64))) ∧
    Leads (.divu c o) s (w (if b.toNat = 0 then BitVec.allOnes 64 else BitVec.ofNat 64 (a.toNat / b.toNat))) ∧
    Leads (.remu c o) s (w (if b.toNat = 0 then a else BitVec.ofNat 64 (a.toNat % b.toNat))) ∧
    Leads (.minu c o) s (w (BitVec.ofNat 64 (min a.toNat b.toNat))) ∧
    Leads (.maxu c o) s (w (BitVec.ofNat 64 (max a.toNat b.toNat)))

/-- The thirteen immediate instructions of R49, each where the bits it does not use are zero and its field lies in the word. -/
def Obligations.ImmediateArithmetic : Prop :=
  ∀ (c : Core) (o : IOp) (s : State), s.runs c →
    let a := (s.core c).reg o.ra
    let sx : Word := o.imm.signExtend 64
    let zx : Word := o.imm.setWidth 64
    let sh := o.imm.toNat % 64
    let pos := o.imm.toNat / 64 % 64
    let len := o.imm.toNat % 64 + 1
    let m : Word := BitVec.ofNat 64 ((2 ^ len - 1) * 2 ^ pos)
    let w : Word → State → Prop := fun v t => Writes s t c o.rd v
    Leads (.addi c o) s (w (a + sx)) ∧
    Leads (.andi c o) s (w (a &&& zx)) ∧
    Leads (.ori c o) s (w (a ||| zx)) ∧
    Leads (.xori c o) s (w (a ^^^ zx)) ∧
    (o.ra = 0 → Leads (.lui c o) s (w (sx <<< 16))) ∧
    Leads (.shor c o) s (w (a <<< 16 ||| zx)) ∧
    Leads (.slti c o) s (w (if a.toInt < sx.toInt then 1 else 0)) ∧
    Leads (.sltiu c o) s (w (if a.toNat < sx.toNat then 1 else 0)) ∧
    (o.imm.toNat < 64 → Leads (.slli c o) s (w (a <<< sh)) ∧ Leads (.srli c o) s (w (a >>> sh)) ∧
      Leads (.srai c o) s (w (a.sshiftRight sh))) ∧
    (o.imm.toNat < 4096 → pos + len ≤ 64 →
      Leads (.extField c o) s (w (BitVec.ofNat 64 (a.toNat / 2 ^ pos % 2 ^ len))) ∧
      Leads (.insField c o) s (w (((s.core c).reg o.rd &&& ~~~m) ||| ((a <<< pos) &&& m))))

/-- Loads of R49 to R51: within the regions a core may read, with the address a multiple of the size, and from a word that holds no
uncorrectable error (R589), G[rd] is the bytes at G[ra] + sx16, zero-extended. Stores of R49 to R51: the bytes at G[ra] + sx16 are
the low bytes of G[rd], and every other byte of every core's map, every register and every other part of the state is unchanged. AMO
group of R49 and R50: in the shared data region, at an address that is a multiple of 8 whose word holds no uncorrectable error, G[rd]
is the old word and the word at G[ra] is the new one; every other byte and register is unchanged. -/
def Obligations.MemoryInstructions : Prop :=
  (∀ (c : Core) (o : IOp) (s : State), s.runs c →
     let a := ((s.core c).reg o.ra + o.imm.signExtend 64).toNat
     mayRead a = true → s.badLever c a = false →
       (a % 8 = 0 → Leads (.ld c o) s (fun t => Writes s t c o.rd (BitVec.ofNat 64 (s.leverRead c a 8)))) ∧
       (a % 4 = 0 → Leads (.lw c o) s (fun t => Writes s t c o.rd (BitVec.ofNat 64 (s.leverRead c a 4)))) ∧
       Leads (.lb c o) s (fun t => Writes s t c o.rd (BitVec.ofNat 64 (s.leverRead c a 1)))) ∧
  (∀ (c : Core) (o : IOp) (s : State), s.runs c →
     let a := ((s.core c).reg o.ra + o.imm.signExtend 64).toNat
     let v := ((s.core c).reg o.rd).toNat
     let stored : Nat → State → Prop := fun n t =>
       Stored s t c a n ∧ t.leverRead c a n = v % 256 ^ n ∧ (t.core c).pc = (s.core c).pc + 4 ∧
       ∀ r, (t.core c).reg r = (s.core c).reg r
     mayWrite (s.core c).use a = true →
       (a % 8 = 0 → Leads (.sd c o) s (stored 8)) ∧
       (a % 4 = 0 → Leads (.sw c o) s (stored 4)) ∧
       Leads (.sb c o) s (stored 1)) ∧
  (∀ (c : Core) (o : RRR) (s : State), s.runs c →
     let a := ((s.core c).reg o.ra).toNat
     let old := s.leverRead c a 8
     let b := ((s.core c).reg o.rb).toNat
     let swapped : Nat → State → Prop := fun v t =>
       Stored s t c a 8 ∧ t.leverRead c a 8 = v % 2 ^ 64 ∧ (t.core c).pc = (s.core c).pc + 4 ∧
       ∀ r, (t.core c).reg r = if r = o.rd ∧ r ≠ 0 then BitVec.ofNat 64 old else (s.core c).reg r
     mayAmo (s.core c).use a = true → a % 8 = 0 → s.badLever c a = false →
       Leads (.amoadd c o) s (swapped (old + b)) ∧
       Leads (.amoswap c o) s (swapped b) ∧
       Leads (.amoand c o) s (swapped (old &&& b)) ∧
       Leads (.amoor c o) s (swapped (old ||| b)))

/-- Jumps and branches of R49: the pc, and the link register of jal and jalr; nothing else changes. -/
def Obligations.Branches : Prop :=
  ∀ (c : Core) (s : State), s.runs c →
    let k := s.core c
    let to_ : Word → State → Prop := fun pc t => OnlyCore s t c ∧ t.core c = { k with pc := pc }
    let when : Bool → BitVec 16 → State → Prop := fun b i =>
      to_ (if b then k.pc + 4 + 4 * i.signExtend 64 else k.pc + 4)
    let linked : BitVec 5 → Word → State → Prop := fun rd pc t =>
      OnlyCore s t c ∧ OnlyRegisters k (t.core c) ∧ (t.core c).pc = pc ∧
      ∀ r, (t.core c).reg r = if r = rd ∧ r ≠ 0 then k.pc + 4 else k.reg r
    (∀ o : BOp,
      let a := k.reg o.ra
      let b := k.reg o.rb
      Leads (.beq c o) s (when (a == b) o.imm) ∧
      Leads (.bne c o) s (when (a != b) o.imm) ∧
      Leads (.blt c o) s (when (decide (a.toInt < b.toInt)) o.imm) ∧
      Leads (.bge c o) s (when (decide (b.toInt ≤ a.toInt)) o.imm) ∧
      Leads (.bltu c o) s (when (decide (a.toNat < b.toNat)) o.imm) ∧
      Leads (.bgeu c o) s (when (decide (b.toNat ≤ a.toNat)) o.imm)) ∧
    (∀ o : IOp,
      (o.ra = 0 → Leads (.jal c o) s (linked o.rd (k.pc + 4 + 4 * o.imm.signExtend 64))) ∧
      Leads (.jalr c o) s (linked o.rd ((k.reg o.ra + o.imm.signExtend 64) &&& ~~~3)))

/-- Access faults (R50, R51, R71, R72, R589): the regions a core may read, write and execute, and where an AMO may act; an access
outside them raises BOUNDS even where it is misaligned as well, one within them whose address is not a multiple of its size raises
ALIGN, and a load or an AMO that meets an uncorrectable error takes MEMERR, on an order core and on a resident core. A fault of an order
core ends its order with the status of the fault, its code in the detail, and the 12 bytes of R72, and leaves the core idle. -/
def Obligations.AccessFaults : Prop :=
  (∀ (u : CoreUse) (a : Nat),
    (mayRead a = true ↔ a < 0x40000 ∨ (0x1000000 ≤ a ∧ a < 0x1800000)) ∧
    (mayWrite u a = true ↔ a < 0x3F000 ∨ (u ≠ .inline_ ∧ 0x1400000 ≤ a ∧ a < 0x1800000)) ∧
    (mayExecute a = true ↔ a < 0x3E000 ∨ (0x1000000 ≤ a ∧ a < 0x1400000)) ∧
    (mayAmo u a = true ↔ u ≠ .inline_ ∧ 0x1400000 ≤ a ∧ a < 0x1800000)) ∧
  (∀ (c : Core) (s : State), s.runs c →
    let k := s.core c
    let raises : LeverFault → BitVec 32 → Instr → Prop := fun f w i => exec i s = .next (s.leverFault c f w)
    let breaks : Nat → BitVec 32 → Instr → Prop := fun a w i => exec i s = .next (s.leverMemErr c a w)
    (∀ o : IOp,
      let a := (k.reg o.ra + o.imm.signExtend 64).toNat
      (mayRead a = false → raises .bounds (o.word 0x18) (.ld c o) ∧ raises .bounds (o.word 0x19) (.lw c o) ∧
        raises .bounds (o.word 0x1A) (.lb c o)) ∧
      (mayRead a = true → (a % 8 ≠ 0 → raises .align (o.word 0x18) (.ld c o)) ∧ (a % 4 ≠ 0 → raises .align (o.word 0x19) (.lw c o))) ∧
      (mayRead a = true → s.badLever c a = true →
        (a % 8 = 0 → breaks a (o.word 0x18) (.ld c o)) ∧ (a % 4 = 0 → breaks a (o.word 0x19) (.lw c o)) ∧
        breaks a (o.word 0x1A) (.lb c o)) ∧
      (mayWrite k.use a = false → raises .bounds (o.word 0x1C) (.sd c o) ∧ raises .bounds (o.word 0x1D) (.sw c o) ∧
        raises .bounds (o.word 0x1E) (.sb c o)) ∧
      (mayWrite k.use a = true → (a % 8 ≠ 0 → raises .align (o.word 0x1C) (.sd c o)) ∧
        (a % 4 ≠ 0 → raises .align (o.word 0x1D) (.sw c o)))) ∧
    (∀ o : RRR,
      let a := (k.reg o.ra).toNat
      let all : (BitVec 32 → Instr → Prop) → Prop := fun f => f (o.word 0x01 0x000) (.amoadd c o) ∧
        f (o.word 0x01 0x001) (.amoswap c o) ∧ f (o.word 0x01 0x002) (.amoand c o) ∧ f (o.word 0x01 0x003) (.amoor c o)
      (mayAmo k.use a = false → all (raises .bounds)) ∧ (mayAmo k.use a = true → a % 8 ≠ 0 → all (raises .align)) ∧
      (mayAmo k.use a = true → a % 8 = 0 → s.badLever c a = true → all (breaks a)))) ∧
  (∀ (c : Nat) (s : State) (j : Order) (f : LeverFault) (w : BitVec 32), (s.core c).job = some j → (s.core c).resident = false →
    Memory.wf (s.core c).mem = true →
    let t := s.leverFault c f w
    let data := toLE 8 (s.core c).pc.toNat ++ toLE 4 w.toNat
    t = (s.modCore c (fun k => { k with mem := (t.core c).mem, replyLen := 12 })).endOrder c f.status data ∧
    (t.core c).mode = .idle ∧ (t.core c).job = none ∧ (t.core c).buf = [] ∧ (t.core c).reserved = [] ∧
      memBytes (t.core c).mem 0x3E000 12 = data ∧ f.status / 256 = f.code)

/-- Table access of R58: open fills the handle, ldf reads a field (a staged value where flags is 0), stf stages a value in a CO
field, new stages a creation and reserves its index, del stages a deletion and invalidates the handle. -/
def Obligations.TableAccess : Prop :=
  ∀ (c : Core) (o : TOp) (s : State), s.runs c →
    let k := s.core c
    let h := k.handle o.h
    let moved : CoreState → State → Prop := fun k' t => OnlyCore s t c ∧ t.core c = k'.next
    let cls := o.sel.toNat
    let idx := (k.reg o.rg).toNat
    let sub := (k.reg o.rx).toNat
    (o.flags = 0 → s.objectInRange cls idx sub = true → (classPool cls = true → s.allocated cls idx = true) →
      s.inScope k.priv k.tenant cls idx = true →
      Leads (.openObj c o) s (moved (k.setHandle o.h ⟨true, cls, idx, sub, s.generation cls idx sub⟩))) ∧
    (o.rx = 0 → o.flags.toNat ≤ 1 → h.valid = true → (h.cls, h.idx, h.sub) ∉ s.errors.badObjects →
      ∀ v, s.readField h.cls h.idx h.sub cls = some v →
        Leads (.ldf c o) s (fun t => Writes s t c o.rg (BitVec.ofNat 64
          (if o.flags = 0 then (stagedValue k.buf h.cls h.idx h.sub cls).getD v else v)))) ∧
    (∀ f : Fld, o.rx = 0 → o.flags = 0 → h.valid = true → cls ≠ 0 → cls ≠ 0xFF → Fld.ofId h.cls cls = some f → f.info.co = true →
      s.mayStage k.priv k.tenant h.cls h.idx cls idx = true → f.accepts h.idx idx = true →
      stagedValue k.buf h.cls h.idx h.sub cls = none → k.buf.length < 256 →
      Leads (.stf c o) s (moved { k with buf := k.buf ++ [.write h.cls h.idx h.sub cls idx],
                                         named := k.named ++ [(genKey h.cls h.idx h.sub, h.gen)] })) ∧
    (∀ i, o.flags = 0 → classPool cls = true → ownerInScope k.priv k.tenant idx = true → classWritable cls k.priv = true →
      s.newObject cls idx = some i → k.buf.length < 256 →
      Leads (.newObj c o) s (fun t => OnlyCore s t c ∧ (t.core c).buf = k.buf ++ [.create cls i idx] ∧
        (t.core c).reserved = k.reserved ++ [(cls, i)] ∧
        (t.core c).handle o.h = ⟨true, cls, i, 0, s.generation cls i 0⟩ ∧
        (∀ r, (t.core c).reg r = if r = o.rx ∧ r ≠ 0 then BitVec.ofNat 64 i else k.reg r) ∧ (t.core c).pc = k.pc + 4)) ∧
    (o.rg = 0 → o.rx = 0 → o.sel = 0 → o.flags = 0 → h.valid = true → classPool h.cls = true → classWritable h.cls k.priv = true →
      k.buf.length < 256 →
      Leads (.delObj c o) s (moved { k.setHandle o.h { h with valid := false } with
        buf := k.buf ++ [.delete h.cls h.idx], named := k.named ++ [(genKey h.cls h.idx h.sub, h.gen)] }))

/-- The system instructions of R48 that only read or write the core: the value each puts in G[rd], the reply length, the event
staged, the wait, the watchdog, the breakpoint a debugger takes. -/
def Obligations.SystemInstructions : Prop :=
  ∀ (c : Core) (o : SOp) (s : State), s.runs c →
    let k := s.core c
    let w : Word → State → Prop := fun v t => Writes s t c o.rd v
    let moved : CoreState → State → Prop := fun k' t => OnlyCore s t c ∧ t.core c = { k' with pc := k.pc + 4 }
    (o.ra = 0 →
      Leads (.timeNow c o) s (w (BitVec.ofNat 64 s.ftb)) ∧
      Leads (.roundCount c o) s (w (BitVec.ofNat 64 s.sw.rounds)) ∧
      Leads (.who c o) s (w k.submitter) ∧
      Leads (.coreNumber c o) s (w (BitVec.ofNat 64 c.val)) ∧
      (k.buf = [] → Leads (.commitBuf c o) s (w 0)) ∧
      (k.buf ≠ [] → Leads (.commitBuf c o) s (fun t => (t.core c).mode = .committing o.rd.toNat ∧ (t.core c).buf = k.buf ∧
        t.lev.commitWait = s.lev.commitWait ++ [c.val]))) ∧
    (o.rd = 0 →
      let n := (k.reg o.ra).toNat
      (n ≤ 4096 → Leads (.rlen c o) s (moved { k with replyLen := n })) ∧
      (n < 8192 → s.allocated clsEvent n = true → s.inScope k.priv k.tenant clsEvent n = true → k.buf.length < 256 →
        Leads (.raiseEvent c o) s (moved { k with buf := k.buf ++ [.raise n] })) ∧
      (n ≤ s.ftb → Leads (.waitUntil c o) s (moved k)) ∧
      (s.ftb < n → Leads (.waitUntil c o) s (fun t => OnlyCore s t c ∧ t.core c = { k with mode := .waiting n }))) ∧
    (o.rd = 0 → o.ra = 0 →
      Leads (.fence c o) s (moved k) ∧
      (k.resident = true → Leads (.pet c o) s (moved { k with petAt := s.ftb })) ∧
      (k.resident = false → Leads (.pet c o) s (moved k)) ∧
      (s.lev.debugger = true → Leads (.brk c o) s (fun t => OnlyCore s t c ∧ t.core c = { k with mode := .halted })))

/-- How an order's run ends (R46 to R48, R71 to R75): done, fail, a breakpoint with no debugger, a word that no instruction has, and
the Lever time limit each leave the core idle, with its order, its buffer and its reservations gone; a word that an instruction has
is no event of that row. Every instruction has one word, and every word one instruction or none (R43 to R48). -/
def Obligations.OrderRunEnds : Prop :=
  (∀ (i : Instr) (c : Core) (w : BitVec 32), encodeLever i = some (c, w) ↔ decodeLever c w = some i) ∧
  ∀ (c : Core) (s : State) (j : Order), (s.core c).job = some j → (s.core c).resident = false →
    let idle : State → Prop := fun t =>
      (t.core c).mode = .idle ∧ (t.core c).job = none ∧ (t.core c).buf = [] ∧ (t.core c).reserved = []
    (s.runs c →
      (∀ o : SOp, o.rd = 0 → o.ra = 0 →
        ((s.core c).buf = [] → Leads (.doneOrder c o) s idle) ∧
        (s.lev.debugger = false → Leads (.brk c o) s idle)) ∧
      (∀ o : SOp, o.rd = 0 → Leads (.failOrder c o) s idle) ∧
      (∀ w, decodeLever c w = none → Leads (.reservedOpcode c w) s idle) ∧
      (∀ w, decodeLever c w ≠ none → Leads (.reservedOpcode c w) s (fun t => t = s))) ∧
    (1000000 ≤ (s.core c).used → Leads (.leverTimeLimit c) s idle) ∧
    ((s.core c).used < 1000000 → Leads (.leverTimeLimit c) s (fun t => t = s))

/-- A wait that has come to its tick ends (R48). A resident core that has not executed pet within its period restarts its task at its
entry address, with an empty buffer; with two earlier expiries within 10 s a Lever reset is asked for (R76, R606). The commit unit
(R62, R63, R92): a request waits while another that has lost 8 times in a row must be served first; one that is served makes every
other lose once more, and ends with BUSY where an object it has recorded has changed, ends with INTERLOCK where its entries break an
invariant, waits as the granted commit for the round boundary, or takes effect at once while the Turntable stands still (R30). At a
round boundary no nearer than the spacing of holds (R68) the granted commit ends: with the status of the boundary's refusal, or with
0. -/
def Obligations.WaitsAndCommitUnit : Prop :=
  (∀ (c : Core) (s : State) (n : Nat), (s.core c).mode = .waiting n → n ≤ s.ftb →
     ∃ t, exec (.waitExpiry c) s = .next t ∧ OnlyCore s t c ∧
       t.core c = { s.core c with mode := .running, pc := (s.core c).pc + 4 }) ∧
  (∀ (c : Core) (s : State),
     let k := s.core c
     let recent := k.expiries.filter (fun t => s.ftb < t + 10000000000) ++ [s.ftb]
     k.resident = true → k.mode ≠ .idle → k.mode ≠ .halted → k.petAt + s.boot.image.watchdogMs * 1000000 ≤ s.ftb →
     (recent.length < 3 → ∃ t, exec (.residentWatchdog c) s = .next t ∧ (t.core c).mode = .running ∧ (t.core c).buf = [] ∧
       (t.core c).reserved = [] ∧ (t.core c).pc = BitVec.ofNat 64 (s.boot.image.tasks.getD c 0) ∧
       (t.core c).petAt = s.ftb ∧ (t.core c).expiries = recent ∧ t.lev.reloading = s.lev.reloading) ∧
     (3 ≤ recent.length → s.boot.act ≠ 1 → ∃ t, exec (.residentWatchdog c) s = .next t ∧ t.lev.reloading = true ∧ t.lev.cores = [])) ∧
  (∀ (c : Core) (s : State) (rd : Nat), (s.core c).mode = .committing rd → rd < 32 →
     let k := s.core c
     let late : Nat → State → Prop := fun w t => (t.core c).mode = .running ∧ (t.core c).buf = [] ∧ (t.core c).reserved = [] ∧
       (t.core c).reg (BitVec.ofNat 5 rd) = (if rd = 0 then 0 else BitVec.ofNat 64 w)
     (c.val ∈ s.lev.commitWait → s.turnOf c = true → s.lev.commitWait.Nodup →
       let lose : State → Prop := fun t => ∀ d ∈ s.lev.commitWait, d ≠ c.val → (t.core d).losses = (s.core d).losses + 1
       (s.gensCurrent k = false → ∃ t, exec (.commitUnitGrant c) s = .next t ∧ late (Status.busy.word) t ∧ lose t) ∧
       (∀ n, s.gensCurrent k = true → violated s (s.stored k.buf) k.buf = some n →
         ∃ t, exec (.commitUnitGrant c) s = .next t ∧ late (Status.interlock.word n) t ∧ lose t) ∧
       (s.gensCurrent k = true → violated s (s.stored k.buf) k.buf = none → s.sw.running = true →
         ∃ t, exec (.commitUnitGrant c) s = .next t ∧ t.lev.granted = some c.val ∧ c.val ∉ t.lev.commitWait ∧ t.obj = s.obj ∧ lose t) ∧
       (s.gensCurrent k = true → violated s (s.stored k.buf) k.buf = none → s.sw.running = false →
         (s.served c).boundaryRefuses k.buf = none → ∃ t, exec (.commitUnitGrant c) s = .next t ∧ late 0 t)) ∧
     (∀ d ∈ s.lev.commitWait, d ≠ c.val → 8 ≤ (s.core d).losses → (∀ e ∈ s.lev.commitWait, e ≠ d → (s.core e).losses < 8) →
       exec (.commitUnitGrant c) s = .next s) ∧
     (s.lev.granted = some c.val → (s.sw.running = true → s.lev.nextHold ≤ s.ftb) →
       ((s.holdRounds k.buf).boundaryRefuses k.buf = none → ∃ t, exec .commitRoundBoundary s = .next t ∧ late 0 t) ∧
       (∀ w, (s.holdRounds k.buf).boundaryRefuses k.buf = some w → ∃ t, exec .commitRoundBoundary s = .next t ∧ late w t)) ∧
     (s.lev.granted = some c.val → s.sw.running = true → s.ftb < s.lev.nextHold → exec .commitRoundBoundary s = .next s))

/-- The commands of R98 that a library order serves, from any source that reaches the device and admitted by R80: each waits in
the order queue as the order of its ID with its argument block. Bind and Unbind vPPB (R99): with no background command running
and the order admitted, the order waits in the queue, BG_OP is 1 and PERCENT 0; when the order has ended, PERCENT is 100 and the
background registers hold its status word. -/
def Obligations.ApiRequests : Prop :=
  (∀ (src : RequestSource) (s : State),
     let other : Nat → Bool := fun op => !apiOpcodes.contains op && decide (op < 0xC000)
     let runs : Instr → (Nat → Bool) → Nat → List Byte → Prop := fun i op libid args =>
       s.reached src op → args.length ≤ 4096 → s.admission (apiOrder src libid args none) true = none →
       Leads i s (fun t => Accepted s t (apiOrder src libid args none))
     runs (.identifySwitchDevice src) (· == 0x5100) 0x0063 (toLE 8 0) ∧
     (∀ a n, runs (.getPhysicalPortState src a n) (· == 0x5101) 0x0063 (toLE 2 1 ++ toLE 2 a.toNat ++ toLE 2 n.toNat ++ toLE 2 0)) ∧
     (∀ p op, op.toNat ≤ 2 → runs (.physicalPortControl src p op) (· == 0x5102) 0x0003 ([p, op] ++ toLE 6 0)) ∧
     (∀ p op reg be d, runs (.sendPpbCxlioConfigRequest src p op reg be d) (· == 0x5103) 0x0004
       ([p, op] ++ toLE 2 reg.toNat ++ [be, 0, 0, 0] ++ toLE 4 d.toNat)) ∧
     (∀ a n, runs (.getVirtualCxlSwitchInfo src a n) (· == 0x5200) 0x0063 (toLE 2 2 ++ toLE 2 a.toNat ++ toLE 2 n.toNat ++ toLE 2 0)) ∧
     (∀ v b e h, runs (.generateAerEvent src v b e h) (· == 0x5203) 0x0015 ([v, b, 0, 0] ++ toLE 4 e.toNat ++ h)) ∧
     (∀ p x r, runs (.tunnelManagementCommand src p x r) (· == 0x5300) 0x0014 (tunnelArgs p false x.toNat r)) ∧
     (∀ p x r, runs (.sendLdCxlioConfigRequest src p x r) (· == 0x5301) 0x0014 (tunnelArgs p false x.toNat r)) ∧
     (∀ p x r, runs (.sendLdCxlioMemoryRequest src p x r) (· == 0x5302) 0x0014 (tunnelArgs p false x.toNat r)) ∧
     (∀ a, runs (.pbrAndGfdCommand src (.pbrSet a)) other 0x0013 a) ∧
     (∀ a, runs (.pbrAndGfdCommand src (.read a)) other 0x0062 a) ∧
     (∀ a, runs (.pbrAndGfdCommand src (.ruleStage a)) other 0x0023 a) ∧
     (∀ p x r, runs (.pbrAndGfdCommand src (.gfd p x r)) other 0x0014 (tunnelArgs p true x.toNat r))) ∧
  (∀ (s : State),
     let begun : Nat → Order → State → Prop := fun opcode o t =>
       t.ord.queue = s.ord.queue ++ [{ o with id := s.ord.nextId, accepted := s.ftb }] ∧
       t.ord.mailbox.bgOp = true ∧ t.ord.mailbox.bgOpcode = opcode ∧ t.ord.mailbox.percent = 0
     (∀ (src : RequestSource) (v b k p : Byte) (l : BitVec 16),
       let o := apiOrder src 0x0011 ([v, b, k, p] ++ toLE 2 l.toNat ++ toLE 2 0) (some (.background 0x5201))
       s.reached src (· == 0x5201) → s.ord.mailbox.bgOp = false → s.admission o true = none →
       Leads (.bindVppb src v b k p l) s (begun 0x5201 o)) ∧
     (∀ (src : RequestSource) (v b x : Byte),
       let o := apiOrder src 0x0012 ([v, b, x] ++ toLE 5 0) (some (.background 0x5202))
       s.reached src (· == 0x5202) → s.ord.mailbox.bgOp = false → s.admission o true = none →
       Leads (.unbindVppb src v b x) s (begun 0x5202 o)) ∧
     (∀ w, s.ord.mailbox.bgEnded = some w →
       Leads .backgroundComplete s (fun t => t.ord.mailbox.bgOp = false ∧ t.ord.mailbox.percent = 100 ∧
         t.ord.mailbox.bgReturn = returnCode w ∧ t.ord.mailbox.bgVsStatus = w ∧ t.ord.queue = s.ord.queue)))

/-- SUBMIT_ORDER (R80, R86 to R89, R96): a frame that R80 admits, on any channel that brings frames, waits last in the order queue; one
that R80 refuses is answered on its channel with the status of the first check that fails and no reply data, in the mailbox with its
return code too. An MCTP message longer than reassembly takes yields no order and no reply (R535; that 13 bytes stand before the frame
is the model's, log entry 135). The checks of R80 in their order, each with the status of its failure, and BUSY with no room or no free
core; a halted device admits its five orders alone (R600). -/
def Obligations.FrameAdmission : Prop :=
  (∀ (s : State),
     let mail := memBytes s.ord.mailbox.payload 0 s.ord.mailbox.payloadLen
     let o := frameOrder mail privFM 0 0 .mailbox
     s.ord.mailbox.doorbell = true → s.ord.mailbox.opcode = 0xC000 →
     (s.admission o (frameOk mail 20496) = none → o.resets = none →
       ∃ t, exec (.submitOrder .mailbox) s = .next t ∧ Accepted s t o) ∧
     (∀ st, s.admission o (frameOk mail 20496) = some st →
       ∃ t, exec (.submitOrder .mailbox) s = .next t ∧ t.ord.queue = s.ord.queue ∧ t.ord.mailbox.doorbell = false ∧
         t.ord.mailbox.vsStatus = st.code ∧ t.ord.mailbox.returnCode = returnCode st.code ∧ t.ord.mailbox.payloadLen = 16)) ∧
  (∀ (s : State) (eid : Byte) (frame : List Byte),
     let sends : OrderSource → Order → ReplyTo → Prop := fun src o back =>
       (frame.length ≤ 20499 → s.admission o (frameOk frame 20496) = none → o.resets = none →
         ∃ t, exec (.submitOrder src) s = .next t ∧ Accepted s t o) ∧
       (∀ st, frame.length ≤ 20499 → s.admission o (frameOk frame 20496) = some st →
         ∃ t, exec (.submitOrder src) s = .next t ∧ t.ord = s.ord ∧
           t.sent (.reply back (toLE 2 (returnCode st.code) ++ toLE 2 st.code ++ replyHeader o.tag st.code 0 0 0))) ∧
       (20499 < frame.length → ∃ t, exec (.submitOrder src) s = .next t ∧ t.ord = s.ord ∧ t.outbox = s.outbox)
     (∀ p : Port, s.portUp p.val = true → s.mgmtPort = some p.val →
       sends (.vdm p eid frame) (frameOrder frame privFM 0 1 (.vdm eid.toNat)) (.vdm eid.toNat)) ∧
     (s.power.step = .run → sends (.bus eid frame) (frameOrder frame privBMC 0 1 (.bus eid.toNat)) (.bus eid.toNat))) ∧
  (∀ (s : State) (o : Order) (wellFormed : Bool),
     let phase := s.boot.phase = 4 ∨ (s.boot.phase = 3 ∧ o.channel = 3)
     let halted := s.power.haltAfterFatal = true ∧ ¬ (o.library = true ∧ o.libid ∈ [0x0062, 0x0063, 0x0096, 0x00A5, 0x00A4])
     let known := o.library = true → (s.libEntry o.libid).isSome = true
     let allowed := if o.library then libAdmits o.libid o.priv = true ∧ bitOf ((s.libEntry o.libid).getD (0, 0)).1 o.priv = true
       else o.priv = privFM ∨ o.priv = privInternal
     let room := s.channelRoom o = true ∧ if o.nowait then s.freeCore.isSome = true else s.queueRoom o = true
     (¬ phase ∨ halted → s.admission o wellFormed = some .busy) ∧
     (phase → ¬ halted →
       (wellFormed = false → s.admission o wellFormed = some .badArg) ∧
       (wellFormed = true → s.boot.image.abi < o.abi → s.admission o wellFormed = some .level) ∧
       (wellFormed = true → o.abi ≤ s.boot.image.abi → ¬ known → s.admission o wellFormed = some .badArg) ∧
       (wellFormed = true → o.abi ≤ s.boot.image.abi → known → ¬ allowed → s.admission o wellFormed = some .denied) ∧
       (wellFormed = true → o.abi ≤ s.boot.image.abi → known → allowed → ¬ room → s.admission o wellFormed = some .busy) ∧
       (wellFormed = true → o.abi ≤ s.boot.image.abi → known → allowed → room → s.admission o wellFormed = none)))

/-- The dispatcher (R41, R81, R82, R90, R130): a free order core starts the order that R90 picks, at its entry, with its submitter
word, its argument length and the address of the reply block in the registers, its memory clear but for the argument block and an inline
program, and the order leaves the queue; one whose ABI the image no longer has ends with LEVEL. The order picked is none whose DEADLINE
has passed, and none but a replayed one before phase 4; a tenant order that has waited 10 ms goes first, then the oldest other order,
then the oldest tenant order. An order whose DEADLINE has passed leaves the queue (R82). A write of TW_CTL (R100, R101) keeps EV_EN and
EVENT, submits the window's order where GO reads 0 and SH_PERM allows it, is answered with DENIED where SH_PERM does not allow it, and
leaves an order that runs alone. An opcode without a command is answered with Unsupported (R97). -/
def Obligations.Dispatching : Prop :=
  (∀ (c : Core) (s : State) (o : Order), c.val ∈ s.orderCores → (s.core c).mode = .idle → (s.core c).job = none →
     s.ord.noStart = false → s.nextOrder = some o →
     (o.abi ≤ s.boot.image.abi → o.code.length ≤ 16384 →
       ∃ t, exec (.orderDispatch c) s = .next t ∧
         (t.core c).mode = .running ∧ (t.core c).job = some { o with started := s.ftb } ∧
         (t.core c).pc = (if o.library then BitVec.ofNat 64 ((s.libEntry o.libid).getD (0, 0)).2 else 0) ∧
         (t.core c).reg 1 = BitVec.ofNat 64 o.args.length ∧
         (t.core c).reg 2 = submitterWord o.priv o.tenant o.channel o.abi ∧ (t.core c).reg 30 = 0x3E000 ∧
         (t.core c).buf = [] ∧ (t.core c).replyLen = 0 ∧
         memBytes (t.core c).mem 0x3F000 (min o.args.length 4096) = o.args.take 4096 ∧
         (o.library = false → memBytes (t.core c).mem 0 o.code.length = o.code) ∧
         t.ord.queue = s.ord.queue.filter (fun x => x.id != o.id)) ∧
     (s.boot.image.abi < o.abi → ∃ t, exec (.orderDispatch c) s = .next t ∧ t.core c = s.core c ∧
       t.ord.queue = s.ord.queue.filter (fun x => x.id != o.id))) ∧
  (∀ (s : State) (o : Order), s.nextOrder = some o →
     o ∈ s.ord.queue ∧ s.mayStart o = true ∧
     (o.deadline = 0 ∨ s.ftb < o.accepted + 1000 * o.deadline) ∧ (o.channel = 3 ∨ s.boot.phase = 4) ∧
     ((∃ x ∈ s.ord.queue, s.mayStart x = true ∧ x.priv = privTenant ∧ x.accepted + 10000000 ≤ s.ftb) →
       o.priv = privTenant ∧ o.accepted + 10000000 ≤ s.ftb) ∧
     ((∃ x ∈ s.ord.queue, s.mayStart x = true ∧ x.priv ≠ privTenant) →
       o.priv ≠ privTenant ∨ o.accepted + 10000000 ≤ s.ftb)) ∧
  (∀ (s : State) (id : Nat) (o : Order), s.ord.queue.find? (fun x => x.id == id) = some o → o.deadline ≠ 0 →
     o.accepted + 1000 * o.deadline ≤ s.ftb →
     ∃ t, exec (.orderDeadline id) s = .next t ∧ t.ord.queue = s.ord.queue.filter (fun x => x.id != id)) ∧
  (∀ (s : State) (n : TenantId) (ctl : BitVec 32),
     let ctlKept : State → Prop := fun t => (t.window n.val).evEn = bitOf ctl.toNat 1 ∧ (t.window n.val).event = bitsOf ctl.toNat 16 13
     let len := frameLength (memBytes (s.window n.val).frame 0 1024)
     let whole := (memBytes (s.window n.val).frame 0 1024).take len
     let o := frameOrder whole privTenant n.val 4 (.window n.val)
     (s.windowReached n.val = false → exec (.twGo n ctl) s = .next s) ∧
     (s.windowReached n.val = true →
       ((s.window n.val).go = true → ∃ t, exec (.twGo n ctl) s = .next t ∧ t.ord.queue = s.ord.queue ∧ (t.window n.val).go = true ∧ ctlKept t) ∧
       ((s.window n.val).go = false → bitOf ctl.toNat 0 = false → ∃ t, exec (.twGo n ctl) s = .next t ∧ t.ord.queue = s.ord.queue ∧ (t.window n.val).go = false ∧ ctlKept t) ∧
       ((s.window n.val).go = false → bitOf ctl.toNat 0 = true → bitOf (s.get .tenantShPerm n.val) 0 = false →
         ∃ t, exec (.twGo n ctl) s = .next t ∧ (t.window n.val).go = false ∧ (t.window n.val).status = Status.denied.word ∧
           t.ord.queue = s.ord.queue ∧ ctlKept t) ∧
       ((s.window n.val).go = false → bitOf ctl.toNat 0 = true → bitOf (s.get .tenantShPerm n.val) 0 = true →
         s.get .tenantState n.val ≠ 2 → bitOf ctl.toNat 1 = false → o.resets = none →
         s.admission o (decide (len ≤ 1024) && frameOk whole 1024) = none →
         ∃ t, exec (.twGo n ctl) s = .next t ∧ (t.window n.val).go = true ∧ ctlKept t ∧
           t.ord.queue = s.ord.queue ++ [{ o with id := s.ord.nextId, accepted := s.ftb }]))) ∧
  (∀ (s : State) (op : BitVec 16), s.ord.mailbox.doorbell = true → s.ord.mailbox.opcode = op.toNat → op.toNat ∉ apiOpcodes →
     ∃ t, exec (.vendorOpcodeUnsupported .mailbox op) s = .next t ∧
       t.ord.mailbox.doorbell = false ∧ t.ord.mailbox.returnCode = returnUnsupported ∧ t.ord.queue = s.ord.queue)

/-- Host writes to BAR0 (R6, R94, R95, R117): SCRATCH takes a word; the doorbell is set by a 1; while DOORBELL is 1 the command
register and the payload ignore a write; everything else in the block ignores it. -/
def Obligations.RegisterWrites : Prop :=
  ∀ (s : State) (p : Nat), s.mgmtPort = some p → s.portUp p = true →
    (∀ v, Leads (.registerWrite 0x30 4 v) s (fun t => t.boot.scratch % 2 ^ 32 = v.toNat % 2 ^ 32 ∧ t.ord = s.ord)) ∧
    (∀ v : BitVec 64, Leads (.registerWrite 0x10004 1 v) s (fun t =>
      t.ord.mailbox.doorbell = (s.ord.mailbox.doorbell || bitOf v.toNat 0) ∧ t.ord.mailbox.dbInt = bitOf v.toNat 1 ∧
      t.ord.mailbox.bgInt = bitOf v.toNat 2 ∧ t.ord.mailbox.payload = s.ord.mailbox.payload)) ∧
    (∀ (a n : Nat) (v : BitVec 64), s.ord.mailbox.doorbell = true → 0x10008 ≤ a → a + n ≤ 0x18020 →
      Leads (.registerWrite a n v) s (fun t => t.ord.mailbox.payload = s.ord.mailbox.payload ∧
        t.ord.mailbox.opcode = s.ord.mailbox.opcode ∧ t.ord.mailbox.payloadLen = s.ord.mailbox.payloadLen)) ∧
    (∀ (a n : Nat) (v : BitVec 64), a + n ≤ 0x30 → Leads (.registerWrite a n v) s (fun t => t = s))

/-- Rows of R345 for a line that one agent owns: a request of any kind but a writeback, handed over by the home station of its line,
snoops that owner with the snoop its row gives, in the form its kind takes (R342), and waits for it in the line-lock table. -/
def Obligations.OwnerSnooped : Prop :=
  ∀ (q : CohReq) (s : State) (b : Nat) (x : RingRequest),
    let line := q.line.toNat
    let req : CohKind → Option WriteData → Option AtomicOp → SliceRequest := fun k w o => { s.sliceRequest k q w o false with far := x.far }
    s.lineQuiet line → (s.entry line).state = .exclusive → (s.entry line).coarse = false → (s.entry line).ptrs = [b] →
    s.get .agentKind b ≠ 3 → (∀ a, s.agentAt q.port.val (q.id.map (·.toNat)) = some a → a ≠ b ∧ s.died a = false) →
    (s.handsOver .rdS q none none x → s.cacheable line (req .rdS none none) = true →
      Leads (.rdS q) s (fun t => Snooping t line b 1 (req .rdS none none))) ∧
    (s.handsOver .rdE q none none x → s.cacheable line (req .rdE none none) = true →
      Leads (.rdE q) s (fun t => Snooping t line b 0 (req .rdE none none))) ∧
    (s.handsOver .rdE q none none x → s.cacheable line (req .rdE none none) = false →
      Leads (.rdE q) s (fun t => Snooping t line b 2 (req .rdE none none))) ∧
    (s.handsOver .rdNc q none none x → Leads (.rdNc q) s (fun t => Snooping t line b 2 (req .rdNc none none))) ∧
    (∀ w, s.handsOver .wr q (some w) none x → Leads (.wr q w) s (fun t => Snooping t line b 0 (req .wr (some w) none))) ∧
    (∀ o, s.handsOver .at q none (some o) x → Leads (.atomic q o) s (fun t => Snooping t line b 0 (req .at none (some o))))

/-- Requests that need no snoop and no memory (R345, R348, R349, R357, R359): a read served by the Loft with the state it is granted
and the entry it leaves; ownership for the only sharer, without data; a whole-line write stored dirty; an atomic executed near, with the
old value to its requester, in a far-atomic response where it came in a far-atomic message. A request that no home station has handed
over is none (R25). -/
def Obligations.ServedAtOnce : Prop :=
  ∀ (q : CohReq) (s : State),
    let line := q.line.toNat
    (∀ x : RingRequest,
      let req : CohKind → SliceRequest := fun k => { s.sliceRequest k q none none false with far := x.far }
      s.lineQuiet line → (∀ a, s.agentAt q.port.val (q.id.map (·.toNat)) = some a → s.died a = false) →
      s.remoteHome (req .rdS) = none →
      (∀ l, s.loftLine line = some l → (s.entry line).state ≠ .exclusive →
        (s.handsOver .rdNc q none none x → s.nearest line (req .rdNc) false = .loft →
          Leads (.rdNc q) s (fun t => t.sent (.grant q.port.val (req .rdNc).agent line 0 (some l.data) l.poison 0) ∧
            (t.entry line).state = (s.entry line).state ∧ t.loftLine line = some l)) ∧
        (∀ a, s.handsOver .rdS q none none x → (req .rdS).agent = some a → s.cacheable line (req .rdS) = true →
          s.nearest line (req .rdS) false = .loft → (s.entry line).state = .invalid → (s.dirSet line).length < 16 →
          Leads (.rdS q) s (fun t => t.sent (.grant q.port.val (some a) line 1 (some l.data) l.poison 0) ∧
            (t.entry line).state = .shared ∧ (t.entry line).ptrs = [a] ∧ (t.entry line).coarse = false)) ∧
        (∀ o : AtomicOp, s.handsOver .at q none (some o) x → 3 ≤ o.op.val → (s.entry line).state = .invalid →
          s.nearest line { s.sliceRequest .at q none (some o) false with far := x.far } false = .loft →
          Leads (.atomic q o) s (fun t =>
            (x.far = none → t.sent (.atomicResult q.port.val line (o.old l.data) l.poison)) ∧
            (∀ tag txn, x.far = some (tag, txn) → t.sent (.farAtomicResponse q.port.val
              (farPayload txn line q.tenant.val (if l.poison then 1 else 0) (o.old l.data) tag))) ∧
            (t.entry line).state = .invalid ∧
            ∃ l', t.loftLine line = some l' ∧ l'.data = o.apply l.data ∧ l'.dirty = true ∧ l'.poison = l.poison))) ∧
      (∀ a, s.handsOver .rdE q none none x → (req .rdE).agent = some a → s.cacheable line (req .rdE) = true →
        (s.entry line).state = .shared → (s.entry line).coarse = false → (s.entry line).ptrs = [a] →
        Leads (.rdE q) s (fun t => t.sent (.grant q.port.val (some a) line 2 none false 0) ∧
          (t.entry line).state = .exclusive ∧ (t.entry line).ptrs = [a])) ∧
      (∀ w : WriteData, s.handsOver .wr q (some w) none x → w.mask = BitVec.allOnes 64 → (s.entry line).state = .invalid →
        s.findWay line = .free →
        Leads (.wr q w) s (fun t => t.sent (.written q.port.val line) ∧ (t.entry line).state = .invalid ∧
          ∃ l', t.loftLine line = some l' ∧ l'.data = w.data ∧ l'.dirty = true ∧ l'.poison = w.poison))) ∧
    (s.coh.ring = [] →
      exec (.rdS q) s = .next s ∧ exec (.rdE q) s = .next s ∧ exec (.rdNc q) s = .next s ∧ exec (.evictClean q) s = .next s ∧
      (∀ w, exec (.wr q w) s = .next s) ∧ (∀ w k, exec (.wb q w k) s = .next s) ∧ (∀ o, exec (.atomic q o) s = .next s))

/-- A writeback and a clean eviction by the owner act at once (R344, R345): the entry is free, the data of the writeback is dirty
in the Loft, and the sender has its completion. One from no live agent is discarded and counted (R327). With a domain of the pool off,
the ring stop sends a writeback straight to its memory, with its mask (R27, R369). -/
def Obligations.OwnerReleases : Prop :=
  ∀ (q : CohReq) (s : State) (a : Nat) (x : RingRequest),
    let line := q.line.toNat
    s.agentAt q.port.val (q.id.map (·.toNat)) = some a →
    (s.lineQuiet line → (s.entry line).coarse = false → s.live a = true → (s.entry line).state = .exclusive → (s.entry line).ptrs = [a] →
      (∀ w : WriteData, s.handsOver .wb q (some w) none x → w.mask = BitVec.allOnes 64 → s.findWay line = .free →
        Leads (.wb q w false) s (fun t => t.sent (.written q.port.val line) ∧ (t.entry line).state = .invalid ∧
          ∃ l', t.loftLine line = some l' ∧ l'.data = w.data ∧ l'.dirty = true)) ∧
      (s.handsOver .ev q none none x →
        Leads (.evictClean q) s (fun t => t.sent (.written q.port.val line) ∧ (t.entry line).state = .invalid ∧
          t.coh.loft = s.coh.loft))) ∧
    (s.lineQuiet line → s.live a = false → s.handsOver .ev q none none x →
      Leads (.evictClean q) s (fun t => t.coh.dir = s.coh.dir ∧ t.coh.loft = s.coh.loft ∧
        t.sw.lostFrames = s.sw.lostFrames + 1)) ∧
    (∀ w p, s.handsOver .wb q (some w) none x → (s.domainOn 3 && s.domainOn 4) = false → s.live a = true →
      line ∉ s.errors.badDir → (∀ e ∈ s.coh.agents, e.2.scanning = false) →
      (s.sliceRequest .wb q (some w) none false).home = some p → s.portUp p = true → s.get .portProto p ≠ 2 →
      s.coh.memOpen = [] → s.coh.memWaiting = [] →
      Leads (.wb q w false) s (fun t => t.sent (.memWrite p line w.data w.mask w.poison) ∧ t.coh.loft = s.coh.loft))

/-- Answers to snoops (R342, R345): the data of an owner that was snooped for a read serves the reader and is dirty in the Loft;
an owner that keeps a shared copy is recorded beside the reader; the last answer ends the transaction. Memory answers a slice
(R345, R347, R348, R357, R360): data for a shared read fills the Loft clean and records the reader; an error gives poison and records
no one; a finished writeback leaves the line clean; a far atomic's old value returns. -/
def Obligations.SliceAnswers : Prop :=
  (∀ (a : AgentId) (ln : Line) (s : State) (x : Transaction) (r : SliceRequest) (d : LineData),
     let line := ln.toNat
     s.live a.val = true → (a.val, line) ∉ s.coh.consumed → s.lock line = some x → x.work = .request r → x.wait = .snoops →
     x.snooped = [a.val] → x.failed = false → r.peerTxn = none → r.write = none → s.remoteHome r = none → s.findWay line = .free →
     r.agent.any s.died = false → (s.entry line).state = .exclusive → (s.entry line).ptrs = [a.val] →
     (r.kind = .rdNc →
       Leads (.rspI a ln (some d)) s (fun t => t.sent (.grant r.port r.agent line 0 (some d) false x.devLoad) ∧
         (∃ l, t.loftLine line = some l ∧ l.data = d ∧ l.dirty = true) ∧ (t.entry line).state = .exclusive)) ∧
     (∀ b, r.kind = .rdS → r.agent = some b → b ≠ a.val → s.cacheable line r = true → x.keepers = [] →
       Leads (.rspS a ln (some d)) s (fun t => t.sent (.grant r.port (some b) line 1 (some d) false x.devLoad) ∧
         (t.entry line).state = .shared ∧ (t.entry line).ptrs = [a.val, b]))) ∧
  (∀ (ln : Line) (s : State) (x : Transaction) (r : SliceRequest),
     let line := ln.toNat
     s.lock line = some x → x.work = .request r → r.peerTxn = none → s.domainOn 3 = true → s.domainOn 4 = true →
     r.agent.any s.died = false →
     (∀ a (d : LineData) (p : Bool) (l : Fin 4), s.memWaits line false = false → x.wait = .memory → r.kind = .rdS → r.agent = some a →
       s.cacheable line r = true → s.remoteHome r = none → (s.entry line).state = .invalid → s.loftLine line = none → s.findWay line = .free →
       Leads (.memoryData ln (.data d p l)) s (fun t => t.sent (.grant r.port (some a) line 1 (some d) p l.val) ∧
         (t.entry line).state = .shared ∧ (t.entry line).ptrs = [a] ∧
         ∃ y, t.loftLine line = some y ∧ y.data = d ∧ y.poison = p ∧ y.dirty = false)) ∧
     (s.memWaits line false = false → x.wait = .memory → r.kind = .rdNc →
       Leads (.memoryData ln .error) s (fun t => (∃ d, t.sent (.grant r.port r.agent line 0 (some d) true 0)) ∧
         t.coh.loft = s.coh.loft)) ∧
     (x.wait = .completion → r.kind = .at → ∀ old : BitVec 128,
       Leads (.atomicCompletion ln old) s (fun t =>
         (r.far = none → t.sent (.atomicResult r.port line old.toNat false)) ∧
         (∀ tag txn, r.far = some (tag, txn) → t.sent (.farAtomicResponse r.port (farPayload txn line r.tenant 0 old.toNat tag))) ∧
         (t.entry line).state = .invalid)) ∧
     (∀ l, s.memWaits line true = false → s.loftLine line = some l → Tab.find s.coh.writes line = some .writeback →
       Tab.wf s.coh.writes = true → (∀ e ∈ s.coh.locks, e.2.wait ≠ .way line ∧ e.2.wait ≠ .writeback) →
       Leads (.memoryWriteComplete ln true) s (fun t => Tab.find t.coh.writes line = none ∧
         t.loftLine line = some { l with dirty := false })))

/-- The line lock passes to the next request (R343), an unanswered snoop makes its agent dead (R361, R362), a finished scan ends
the reclaim (R364), a flush ends once nothing is tracked (R367), and BIConflict is answered after the eviction's completion
(R373). -/
def Obligations.CoherenceEvents : Prop :=
  ∀ (s : State),
    (∀ (ln : Line) (x : Transaction) (r : SliceRequest) (rest : List SliceRequest) (b : Nat),
      let line := ln.toNat
      s.lock line = some x → x.wait = .handoff → x.queue = r :: rest → r.kind = .rdNc → (s.entry line).state = .exclusive →
      (s.entry line).coarse = false → (s.entry line).ptrs = [b] → r.agent ≠ some b → s.get .agentKind b ≠ 3 →
      line ∉ s.errors.badDir → (∀ e ∈ s.coh.agents, e.2.scanning = false) →
      Leads (.lineLockHandoff ln) s (fun t => Snooping t line b 2 r ∧ ∃ y, t.lock line = some y ∧ y.queue = rest)) ∧
    (∀ (a : AgentId) (ln : Line) (x : Transaction), s.lock ln.toNat = some x → a.val ∈ x.snooped → s.live a.val = true →
      s.get .agentKind a.val ≠ 3 → x.snoopAt + s.get .deviceDeadT 0 * 1000 ≤ s.ftb →
      Leads (.snoopTimeout a ln) s (fun t => t.live a.val = false)) ∧
    (∀ (a : AgentId), (s.agent a.val).scanning = true →
      Leads (.deadAgentScanDone a) s (fun t => (t.agent a.val).scanning = false ∧ (t.agent a.val).staged = none)) ∧
    (∀ (t : TenantId) (fl : Nat × Nat), Tab.find s.coh.flushes t.val = some fl → Tab.wf s.coh.flushes = true →
      s.trackedOf t.val = 0 →
      Leads (.coherentFlushDone t) s (fun u => Tab.find u.coh.flushes t.val = none)) ∧
    (∀ (a : AgentId) (ln : Line), (a.val, ln.toNat) ∈ s.coh.evictAcks →
      Leads (.biConflict a ln) s (fun t => t.sent (.biAck a.val ln.toNat))) ∧
    (∀ (a : AgentId) (ln : Line), (a.val, ln.toNat) ∉ s.coh.evictAcks →
      Leads (.biConflict a ln) s (fun t => t.coh.biConflicts = s.coh.biConflicts ++ [(a.val, ln.toNat)] ∧ t.outbox = s.outbox))

/-- Messages between this device and a peer on a Trunk link (R353 to R356), each taken as the port has released it (R241): the home
serves a peer's read that its checker admits from its Loft with C_DATA, and refuses with C_RSP OP 4 one that the checker does not admit
(R356, R374); it applies a peer owner's writeback, and answers a snoop of the home for a line it does not hold; an answer of the home
ends the local request that waits for it; a prefetch fill enters the Loft clean, with the poison of its frame (R594). A message that the
port has not released is none. -/
def Obligations.PeerMessages : Prop :=
  ∀ (p : Port) (m : CohBypass) (s : State), s.peerPort p.val = true →
    let line := m.line.toNat
    (∀ s1, s.takes p.val 0x20 (cohBody 0x20 m) s1 → m.op = 2 →
      let verdict := s1.check (peerFrame p m .rdNc) m.tenant.val
      (∀ l h, verdict = .defaultMap ∨ (∃ i, verdict = .rule i) → s1.lineQuiet line → s1.homeAny line = some h →
        s1.get .portProto h ≠ 2 → (∀ a, s1.peerAgent p.val = some a → s1.died a = false) → (s1.entry line).state = .invalid →
        s1.loftLine line = some l → s1.nearest line (s1.peerRequest p.val m .rdNc) false = .loft →
        Leads (.cReq p m) s (fun t => PeerSent t p.val 0x24 ∧ (t.entry line).state = .invalid ∧ t.loftLine line = some l)) ∧
      (∀ reason i, verdict = .refused reason i →
        Leads (.cReq p m) s (fun t => PeerSent t p.val 0x23 ∧ t.coh.dir = s.coh.dir ∧ t.coh.loft = s.coh.loft))) ∧
    (∀ a s1, s.takes p.val 0x22 (cohBody 0x22 m) s1 → s1.lineQuiet line → s1.peerAgent p.val = some a → s1.live a = true → m.op = 0 →
      (s1.entry line).state = .exclusive → (s1.entry line).coarse = false → (s1.entry line).ptrs = [a] → bitOf m.attr.toNat 0 = false →
      s1.findWay line = .free →
      Leads (.cWb p m) s (fun t => (t.entry line).state = .invalid ∧
        ∃ l, t.loftLine line = some l ∧ l.data = m.data ∧ l.dirty = true)) ∧
    (∀ s1, s.takes p.val 0x21 (cohBody 0x21 m) s1 → s1.lock line = none → Tab.find s1.coh.dir line = none → s1.loftLine line = none →
      Tab.find s1.coh.suspended line = none → line ∉ s1.errors.badDir → m.op.toNat ≤ 2 →
      Leads (.cSnp p m) s (fun t => PeerSent t p.val 0x23 ∧ ∀ l, t.entry l = s.entry l)) ∧
    (∀ x r s1, s1.lock line = some x → x.work = .request r → x.wait = .home m.txn.toNat → x.snooped = [] → r.peerTxn = none →
      r.agent.any s1.died = false →
      (s.takes p.val 0x23 (cohBody 0x23 m) s1 → r.kind = .wr → m.op = 3 →
        Leads (.cRsp p m) s (fun t => t.sent (.written r.port line))) ∧
      (s.takes p.val 0x24 (cohBody 0x24 m) s1 → r.kind = .rdNc → s1.domainOn 3 = true → s1.domainOn 4 = true → s1.findWay line = .free →
        Leads (.cData p m) s (fun t => t.sent (.grant r.port r.agent line 0 (some m.data) (bitOf m.attr.toNat 0) 0)))) ∧
    (∀ (ln : Line) (tn : TenantId) (d : LineData) (b : List Byte) (s1 : State), s.tracking = true → s.lock ln.toNat = none →
      s.entry ln.toNat = {} → s.loftLine ln.toNat = none → (s.dirSet ln.toNat).length < 16 → s.findWay ln.toNat = .free →
      s.takeArrived p.val 0 (fun b => bitsOf (fieldAt b 0 8) 13 7 == 5 + 16 * 7 &&
        (b.drop 16).take 80 == fillUnit ln.toNat tn.val d) = some (b, s1) →
      Leads (.prefetchFill p ln tn d) s (fun t => (t.entry ln.toNat).state = .shared ∧ (t.entry ln.toNat).ptrs = [] ∧
        ∃ l, t.loftLine ln.toNat = some l ∧ l.data = d ∧ l.dirty = false ∧ l.poison = bitOf (fieldAt b 0 8) 24)) ∧
    ((s.port p.val).ctl.arrived = [] → exec (.cReq p m) s = .next s ∧ exec (.cWb p m) s = .next s ∧ exec (.cSnp p m) s = .next s ∧
      exec (.cRsp p m) s = .next s ∧ exec (.cData p m) s = .next s)

/-- Orders that set ports, switches, routing, mirrors, mappings and classes, each by one commit of the fields it names: PORT_SET
(R104), BIFURCATE (R140), VCS_SET (R295), PBR_SET (R299), MIRROR_SET (R310), TENANT_MAP (R377) and CLASS_SET (R421). -/
def Obligations.FabricOrders : Prop :=
  ∀ (c : Core) (s : State) (o : Order),
    let ends : List Entry → State → Prop := fun es t => Commits s t c es noAction noReply
    let a := o.arg
    (s.carries c 0x0001 o → s.portOk (a 0 1) = true → 0 < a 1 1 → a 1 1 < 32 → o.zero 7 1 = true → s.mgmtPort ≠ some (a 0 1) →
      let fields := [(0, Fld.portProto, a 2 1), (1, .portRateMax, a 3 1), (2, .portSaf, a 4 1), (3, .portDrop, a 5 1), (4, .portEnable, a 6 1)]
      maskedOk (a 1 1) (a 0 1) fields = true → s.passes (maskedEntries (a 1 1) (a 0 1) fields) →
      Leads (.portSet c) s (ends (maskedEntries (a 1 1) (a 0 1) fields))) ∧
    (s.carries c 0x0002 o → a 0 1 < s.stationCount → a 1 1 ≤ 1 → s.get .stationBifurc (a 0 1) ≠ 2 → o.zero 2 6 = true → s.mgmtPort = none →
      s.passes [putEntry .stationBifurc (a 0 1) 0 (a 1 1)] →
      Leads (.bifurcate c) s (ends [putEntry .stationBifurc (a 0 1) 0 (a 1 1)])) ∧
    (s.carries c 0x0002 o → a 0 1 < s.stationCount → a 1 1 = 2 → o.zero 2 6 = true → s.mgmtPort = none →
      let both := [putEntry .stationBifurc (2 * (a 0 1 / 2)) 0 2, putEntry .stationBifurc (2 * (a 0 1 / 2) + 1) 0 2]
      s.passes both → Leads (.bifurcate c) s (ends both)) ∧
    (s.carries c 0x0010 o → 0 < a 0 1 → a 0 1 < 128 → a 2 1 = 1 → o.zero 3 5 = true → s.get .vcsEnable (a 0 1) = 0 →
      s.portOk (a 1 1) = true → s.vppbsOfPort (a 1 1) = [] → s.get .portProto (a 1 1) ≠ 2 →
      let es := [putEntry .vcsUsp (a 0 1) 0 (a 1 1), putEntry .vcsEnable (a 0 1) 0 1]
      s.passes es → Leads (.vcsSet c) s (ends es)) ∧
    (s.carries c 0x0013 o → 1 ≤ a 0 2 → a 0 2 ≤ 128 → o.zero 2 6 = true →
      (∀ i, i < a 0 2 → a (8 + 8 * i) 8 % 2 ^ 16 < 4096 ∧ a (8 + 8 * i) 8 < 2 ^ 32 ∧ a (8 + 8 * i) 8 / 2 ^ 16 % 2 ^ 15 < 128 ∧
        s.portOk (a (8 + 8 * i) 8 / 2 ^ 16 % 128) = true) →
      let es := (List.range (a 0 2)).flatMap (fun i =>
        [putEntry .pbrPort (a (8 + 8 * i) 8 % 4096) 0 (a (8 + 8 * i) 8 / 2 ^ 16 % 128),
         putEntry .pbrValid (a (8 + 8 * i) 8 % 4096) 0 (a (8 + 8 * i) 8 / 2 ^ 31 % 2)])
      s.passes es → Leads (.pbrSet c) s (ends es)) ∧
    (s.carries c 0x0094 o → a 0 1 < 16 → o.zero 5 3 = true →
      let fields := [(Fld.mirrorSport, a 1 1), (.mirrorDir, a 2 1), (.mirrorDport, a 3 1), (.mirrorTrunc, a 4 1)]
      (∀ e ∈ fields, e.1.accepts (a 0 1) e.2 = true) → s.portOk (a 1 1) = true → s.portOk (a 3 1) = true → (a 2 1 = 0 ∨ s.get .portProto (a 3 1) = 2) →
      s.passes (fields.map (fun e => putEntry e.1 (a 0 1) 0 e.2)) →
      Leads (.mirrorSet c) s (ends (fields.map (fun e => putEntry e.1 (a 0 1) 0 e.2)))) ∧
    (s.carries c 0x0099 o → a 0 1 ≤ 1 → o.zero 1 1 = true → o.zero 6 2 = true →
      (if a 0 1 = 0 then s.portOk (a 2 2) = true else a 2 2 < 4096) →
      (a 4 2 = 0x1000 ∨ (a 4 2 < 4096 ∧ s.get .tenantState (a 4 2) = 1)) →
      let es := [putEntry (if a 0 1 = 0 then .portTenant else .pbrTenant) (a 2 2) 0 (a 4 2)]
      s.passes es → Leads (.tenantMap c) s (ends es)) ∧
    (s.carries c 0x009C o → s.portOk (a 0 1) = true → o.zero 1 1 = true → o.zero 7 1 = true →
      (∀ i, i < 8 → a 2 3 / 2 ^ (3 * i) % 8 < 6) → a 5 2 < 512 →
      a 5 2 % 8 < 6 → a 5 2 / 8 % 8 < 6 → a 5 2 / 64 % 8 < 6 → a 5 2 % 8 ≠ a 5 2 / 8 % 8 → a 5 2 / 8 % 8 ≠ a 5 2 / 64 % 8 →
      a 5 2 % 8 ≠ a 5 2 / 64 % 8 →
      let es := [putEntry .portClassmap (a 0 1) 0 (a 2 3), putEntry .portMemclass (a 0 1) 0 (a 5 2)]
      s.passes es → Leads (.classSet c) s (ends es))

/-- PORT_CTL (R105): each OP's action at the round boundary of its commit, on a port that is not the management port. Orders
that ask a device outside (R106, R303): the request leaves, the core waits at most 900 µs, the answer is the reply, and without
one the order ends with ABORTED. -/
def Obligations.PortAndOutsideOrders : Prop :=
  (∀ (c : Core) (s : State) (o : Order),
     let p := o.arg 0 1
     let acts : Nat → Instr → (State → State) → Prop := fun op i act =>
       o.arg 1 1 = op → s.carries c 0x0003 o → s.portOk p = true → o.zero 2 6 = true → s.mgmtPort ≠ some p → s.passes [actionOn clsPort p] →
       Leads i s (fun t => Commits s t c [actionOn clsPort p] act noReply)
     (∀ n, s.slotOfPort p = some n →
       acts 0 (.portCtlAssertPerst c) (fun s => s.holdPerst p true) ∧
       acts 1 (.portCtlReleasePerst c) (fun s => s.holdPerst p false)) ∧
     (s.portUp p = true → s.uspOf p = none → s.get .portProto p ≠ 2 →
       acts 2 (.portCtlResetPpb c) (fun s =>
         ((s.linkDownTo p 10).modPort p (fun x => { x with hotResetUntil := s.ftb + 2000000, ppb := [] })).emit (.hotReset p))) ∧
     acts 3 (.portCtlDisableLink c) (fun s =>
       (s.linkDownTo p 11).modPort p (fun x => { x with ctlDisabled := true, hotResetUntil := 0 })) ∧
     (s.get .portLink p = 11 → (s.port p).ctlDisabled = true →
       acts 4 (.portCtlEnableLink c) (fun s => (s.modPort p (fun x => { x with ctlDisabled := false })).startDetect p)) ∧
     acts 5 (.portCtlContain c) (fun s => s.containPort p 3 (fun x => { x with ctl := true })) ∧
     (s.get .portLink p = 12 →
       acts 6 (.portCtlReleaseContainment c) (fun s =>
         s.releasePort p (fun x => { x with ctl := false, dpc := [], replay := none })))) ∧
  (∀ (c : Core) (s : State) (o : Order),
     let a := o.arg
     let waits : Msg → State → Prop := fun m t =>
       t.sent m ∧ (t.core c).mode = .external (s.ftb + 900000) ∧ (t.core c).job = some o ∧ t.obj = s.obj
     let outside : Nat → Nat → Prop := fun id until_ =>
       (s.core c).mode = .external until_ ∧ (s.core c).job = some o ∧ o.library = true ∧ o.libid = id
     let legal := s.portOk (a 0 1) = true ∧ s.portUp (a 0 1) = true ∧ (s.port (a 0 1)).role = .downstream ∧
       s.get .portProto (a 0 1) ≠ 2 ∧ a 2 2 ≤ 4092 ∧ a 2 2 % 4 = 0 ∧ 1 ≤ a 4 1 ∧ a 4 1 ≤ 15 ∧ o.zero 5 3 = true
     (s.carries c 0x0004 o → legal → a 1 1 = 0 → a 8 4 = 0 →
       Leads (.ppbCfgRead c) s (waits (.configSent (a 0 1) false (a 2 2) (a 4 1) 0))) ∧
     (s.carries c 0x0004 o → legal → a 1 1 = 1 →
       Leads (.ppbCfgWrite c) s (waits (.configSent (a 0 1) true (a 2 2) (a 4 1) (a 8 4)))) ∧
     (∀ n st (d : BitVec 32), outside 0x0004 n →
       Leads (.ppbCfgCompletion c st d) s (fun t => Replies s t c
         (toLE 4 (if a 1 1 = 0 ∧ st = .success then d.toNat else 0) ++
           toLE 4 (match st with | .success => 0 | .unsupported => 1 | .retry => 2 | .abort => 4)))) ∧
     (∀ n, outside 0x0004 n → n ≤ s.ftb →
       Leads (.ppbCfgTimeout c) s (fun t => t = s.endOrder c Status.aborted.word [])) ∧
     (s.carries c 0x0014 o → s.portOk (a 0 1) = true → s.portUp (a 0 1) = true → a 1 1 ≤ 1 → o.zero 4 4 = true →
       (a 1 1 = 1 → a 2 2 < 4096) →
       Leads (.ldTunnel c) s (waits (.tunnel (a 0 1) (a 2 2) (a 1 1 == 1) (o.args.drop 8)))) ∧
     (∀ n r, outside 0x0014 n → Leads (.ldTunnelResponse c r) s (fun t => Replies s t c (r.take 4096))) ∧
     (∀ n, outside 0x0014 n → n ≤ s.ftb →
       Leads (.ldTunnelTimeout c) s (fun t => t = s.endOrder c Status.aborted.word [])))

/-- BIND, UNBIND and AER_GEN (R107, R300, R308): a binding is PENDING from the commit that writes it; an unbinding acts at the
boundary as its MODE says; AER_GEN sets the bit and the header log, and sends the message unless the bit is masked. -/
def Obligations.BindingOrders : Prop :=
  ∀ (c : Core) (s : State) (o : Order),
    let a := o.arg
    let v := a 0 1
    let b := a 1 1
    (s.carries c 0x0011 o → v < 128 → a 2 1 = 1 ∨ a 2 1 = 2 → s.portOk (a 3 1) = true →
      (if a 2 1 = 1 then a 4 2 = 0 else a 4 2 ≤ 15) → a 6 1 ≤ 1 → o.zero 7 1 = true →
      s.mayBind v b (a 2 1) (a 3 1) (a 4 2) = true →
      let s1 := s.modVppb v b (fun x => { x with auto := a 6 1 == 1 })
      let es := [putEntry .vppbKind v b (a 2 1), putEntry .vppbPort v b (a 3 1), putEntry .vppbLdid v b (a 4 2)]
      s1.passes es → Leads (.bind c) s (fun t => Commits s1 t c es noAction noReply)) ∧
    (s.carries c 0x0012 o → v < 128 → o.zero 3 5 = true → s.get .vppbKind v b ≠ 0 → s.passes [.action clsVppb v b 0] →
      (a 2 1 = 0 → Leads (.unbindWaitLinkDown c) s (fun t => Commits s t c [.action clsVppb v b 0]
        (fun s => if s.portUp (s.get .vppbPort v b) = false ∨ s.get .vppbKind v b = 2 then s.unbindNow v b else s.setHp v b 6) noReply)) ∧
      (a 2 1 = 1 → Leads (.unbindManagedHotRemove c) s (fun t => Commits s t c [.action clsVppb v b 0]
        (fun s => ((s.setHp v b 4).modVppb v b (fun x => { x with attentionPressed := true, managedRemoval := true })).emit
          (.hotPlug v b)) noReply)) ∧
      (a 2 1 = 2 → Leads (.unbindSurpriseHotRemove c) s (fun t => Commits s t c [.action clsVppb v b 0] (fun s => s.unbindNow v b) noReply))) ∧
    (s.carries c 0x0015 o → v < 128 → o.zero 2 2 = true → (∃ i, i < 32 ∧ a 4 4 = 2 ^ i) → s.get .vcsEnable v = 1 → s.passes [.action clsVppb v b 0] →
      let header := (o.args.drop 8).take 32
      let marked : State → State := fun u => u.modVppb v b (fun x =>
        { x with aerStatus := x.aerStatus ||| a 4 4, aerHeader := header ++ List.replicate (32 - header.length) 0 })
      Leads (.aerGen c) s (fun t => Commits s t c [.action clsVppb v b 0] (fun u =>
        if (u.vppb v b).aerMask &&& a 4 4 = 0 ∧ ((marked u).uspPort v).isSome = true
        then (marked u).emit (.aer v ((u.vppb v b).aerSeverity &&& a 4 4 != 0) (a 4 4)) else marked u) noReply))

/-- Standing orders (R110, R112, R113, R114): a frame is stored with the next SEQ, which is the reply; a long frame is stored by
parts under a session number; the records selected become invalid, and the reply is how many; a list gives the valid records; a
session with no part for 10 s is discarded. What a malformed frame or a wrong part ends with is the model's reading (log entry
102). -/
def Obligations.StandingOrders : Prop :=
  ∀ (c : Core) (s : State) (o : Order),
    let a := o.arg
    let l := s.ledger
    let added : Nat → List Byte → State → State := fun priv f u => u.modLedger (fun l => { l with
      standing := l.standing ++ [⟨l.standingSeq + 1, priv, true, crc32 f, f⟩], standingSeq := l.standingSeq + 1,
      standingUsed := l.standingUsed + recordBytes f.length })
    let part := o.args.drop 16
    let partOk := 4097 ≤ a 0 4 ∧ a 0 4 ≤ 20496 ∧ o.zero 10 6 = true ∧ part ≠ [] ∧ part.length ≤ 4080
    let hit : (StandingRecord → Bool) → StandingRecord → Bool := fun sel r =>
      r.valid && sel r && (o.priv != privBMC || r.priv == privBMC)
    let cleared : (StandingRecord → Bool) → State → Prop := fun sel t =>
      Replies (s.modLedger (fun l => { l with
        standing := l.standing.map (fun r => if hit sel r then { r with valid := false } else r) })) t c
        (toLE 4 (l.standing.filter (hit sel)).length)
    (s.carries c 0x0070 o → frameOk o.args 4096 = true → s.mayStore o.priv o.args = true →
      l.standingUsed + recordBytes o.args.length ≤ 262144 →
      Leads (.standingWrite c) s (fun t => Replies (added o.priv o.args s) t c (toLE 4 (l.standingSeq + 1)))) ∧
    (s.carries c 0x0070 o → frameOk o.args 4096 = true → s.mayStore o.priv o.args = true →
      262144 < l.standingUsed + recordBytes o.args.length → 262144 < l.standingHeld + recordBytes o.args.length →
      Leads (.standingWrite c) s (fun t => t = s.endOrder c Status.noSpace.word [])) ∧
    (s.carries c 0x00A6 o → partOk → a 8 2 = 0 → a 4 4 = 0 → s.ord.session = none → 16 ≤ part.length →
      longHeaderOk part (a 0 4) = true → s.mayStore o.priv part = true →
      Leads (.standingWritePart c) s (fun t => Replies (s.modOrd (fun q => { q with
        session := some ⟨s.ord.nextSession, a 0 4, part, o.priv, s.ftb⟩,
        nextSession := if s.ord.nextSession = 0xFFFF then 1 else s.ord.nextSession + 1 })) t c (toLE 2 s.ord.nextSession))) ∧
    (∀ x, s.carries c 0x00A6 o → partOk → ¬(a 8 2 = 0 ∧ a 4 4 = 0) → s.ord.session = some x → a 8 2 = x.number →
      a 4 4 = x.received.length → a 0 4 = x.total →
      (x.received.length + part.length < x.total →
        Leads (.standingWritePart c) s (fun t => Replies (s.modOrd (fun q => { q with
          session := some { x with received := x.received ++ part, lastPart := s.ftb } })) t c (toLE 2 x.number))) ∧
      (x.received.length + part.length = x.total → l.standingUsed + recordBytes x.total ≤ 262144 →
        Leads (.standingWritePart c) s (fun t => Replies (added x.priv (x.received ++ part)
          (s.modOrd (fun q => { q with session := none }))) t c (toLE 4 (l.standingSeq + 1))))) ∧
    (s.carries c 0x0071 o → a 0 1 = 0 → o.zero 1 3 = true → o.zero 12 4 = true →
      Leads (.standingClearRange c) s (cleared (fun r => a 4 4 ≤ r.seq && r.seq ≤ a 8 4))) ∧
    (s.carries c 0x0071 o → a 0 1 = 1 → o.zero 1 3 = true → o.zero 4 8 = true → o.zero 12 4 = true →
      Leads (.standingClearAll c) s (cleared (fun _ => true))) ∧
    (s.carries c 0x0072 o → 1 ≤ a 4 2 → a 4 2 ≤ 255 → o.zero 6 2 = true →
      let valid := l.standing.filter (·.valid)
      Leads (.standingList c) s (fun t => Replies s t c (toLE 4 valid.length ++ toLE 4 (262144 - l.standingHeld) ++
        ((valid.filter (fun r => a 0 4 ≤ r.seq)).take (a 4 2)).flatMap (fun r =>
          toLE 4 r.seq ++ toLE 2 r.frame.length ++ toLE 1 r.priv ++ toLE 1 (fieldAt r.frame 0 1) ++ toLE 4 r.crc ++
            toLE 2 (fieldAt r.frame 4 2) ++ toLE 1 (fieldAt r.frame 1 1) ++ [0])))) ∧
    (∀ x, s.ord.session = some x → x.lastPart + 10000000000 ≤ s.ftb →
      Leads .standingSessionTimeout s (fun t => t = s.modOrd (fun q => { q with session := none })))

/-- Image orders (R124, R125, R128, R133): each writes, stages, activates or confirms; one that the MC serves starts its work
and ends with OK, and STAGE or ACT says so. The work of the MC on images (R124, R126, R128, R131): flash work ends; staging ends
with STAGE 3, or 4 and its code; an activation re-hashes the copy, waits for the order cores, and for the resident cores up to
1,000 µs, loads the copy, and policy resumes on it; a failure ends it with FAIL 0x07, or reloads the previous image with FAIL 0x08. -/
def Obligations.ImageRules : Prop :=
  (∀ (c : Core) (s : State) (o : Order),
     let a := o.arg
     let idle := s.boot.stage ≠ 1 ∧ s.boot.stage ≠ 2 ∧ s.boot.act ≠ 1
     let works : FlashJob → State → Prop := fun job t => Commits s t c [actionOn clsDevice 0]
       (fun u => u.modBoot (fun b => { b with stage := 1, stageHash := [], flashJob := some job })) noReply
     (s.carries c 0x0080 o → a 7 1 ≤ 1 → a 7 1 ≠ s.boot.bank → idle → a 0 4 + a 4 2 ≤ bankBytes → o.args.length = 16 + a 4 2 →
       s.vectorOk (a 8 2) = true → o.zero 10 6 = true → s.passes [actionOn clsDevice 0] →
       (a 6 1 = 0 → 1 ≤ a 4 2 → a 4 2 ≤ 4000 →
         Leads (.imageWriteProgram c) s (works (.program (a 7 1) (a 0 4) (o.args.drop 16) false (a 8 2)))) ∧
       (a 6 1 = 1 → a 4 2 = 0 → a 0 4 % 65536 = 0 → a 0 4 < bankBytes →
         Leads (.imageWriteErase c) s (works (.erase (a 7 1) (a 0 4 / 65536) (a 8 2)))) ∧
       (a 6 1 = 2 → 1 ≤ a 4 2 → a 4 2 ≤ 4000 →
         Leads (.imageWriteEraseProgram c) s (works (.program (a 7 1) (a 0 4) (o.args.drop 16) true (a 8 2))))) ∧
     (s.carries c 0x0080 o → a 6 1 = 0 → a 7 1 = s.boot.bank →
       Leads (.imageWriteProgram c) s (fun t => t = s.endOrder c Status.denied.word [])) ∧
     (s.carries c 0x0081 o → o.args.length = 16 → o.zero 10 6 = true → idle → a 0 8 % 64 = 0 → a 0 8 + bankBytes ≤ 2 ^ 57 →
       s.t0Covers (a 0 8) (a 0 8 + bankBytes - 1) = true → s.ownsEvent 0 (a 8 2) = true → s.passes [actionOn clsDevice 0] →
       Leads (.imageStage c) s (fun t => Commits s t c [actionOn clsDevice 0] (fun u => u.modBoot (fun b =>
         { b with stage := 2, stageAddr := a 0 8, stageEvent := a 8 2, stageBank := 1 - b.bank, stageHash := [] })) noReply)) ∧
     (s.carries c 0x0082 o → o.args.length = 8 → o.zero 0 8 = true → s.boot.stage = 3 → s.boot.act ≠ 1 → s.passes [actionOn clsDevice 0] →
       Leads (.activate c) s (fun t => Commits s t c [actionOn clsDevice 0]
         (fun u => u.modBoot (fun b => { b with act := 1, activation := .rehash })) noReply)) ∧
     (s.carries c 0x0083 o → o.args.length = 8 → a 0 1 ≤ 1 → o.zero 1 7 = true → s.boot.act ≠ 1 →
       Leads (.confirm c) s (fun t => Replies ((s.modControl (fun l =>
         { l with svnFloor := if a 0 1 = 1 then max l.svnFloor s.boot.image.svn else l.svnFloor })).modBoot (fun b =>
           { b with preferred := b.bank, act := 0 })) t c []))) ∧
  (∀ (s : State),
     (∀ job ok, s.boot.flashJob = some job →
       Leads (.imageFlashWorkDone ok) s (fun t => t.boot.flashJob = none ∧ t.boot.stage = (if ok then 0 else 4) ∧
         (ok = false → t.boot.fail = 0x09))) ∧
     (∀ bank block ev, s.boot.flashJob = some (.erase bank block ev) →
       Leads (.imageFlashWorkDone true) s (fun t =>
         t.boot.flash = eraseBlocks s.boot.flash (bank * 256 + block) (bank * 256 + block))) ∧
     (s.boot.stage = 2 →
       Leads (.stagingDone false) s (fun t =>
         match s.verifyBank s.boot.stageBank with
         | some code => t.boot.stage = 4 ∧ t.boot.fail = code ∧ t.pool = s.pool
         | none => t.boot.stage = 3 ∧ t.boot.stageHash = Config.sha512 s.boot.stagedImage ∧
           t.pool = memPutBytes s.pool s.boot.stageAddr s.boot.stagedImage) ∧
       Leads (.stagingDone true) s (fun t => t.boot.stage = 4 ∧ t.boot.fail = (s.verifyBank s.boot.stageBank).getD 0x06)) ∧
     (s.boot.activation = .rehash → s.lev.reloadAfterActivation = false →
       Leads .activationRehashDone s (fun t =>
         if s.copyIntact then t.boot.activation = .quiesce ∧ t.ord.noStart = true ∧ t.boot.act = s.boot.act ∧
           ∀ c, c < 16 → (s.core c).resident = true → (s.core c).buf = [] → (t.core c).mode = .halted
         else t.boot.activation = .none ∧ t.boot.act = 0 ∧ t.boot.fail = 0x07)) ∧
     (s.boot.activation = .quiesce → (∀ c ∈ s.orderCores, (s.core c).job = none) →
       (s.boot.quiesceBy ≤ s.ftb ∨ ∀ c, c < 16 → (s.core c).resident = true → (s.core c).mode = .halted) →
       Leads .activationQuiescePoint s (fun t => t.boot.activation = .copy ∧
         (∀ e ∈ t.sec.sessions, e.2.trunk = true ∧ e ∈ s.sec.sessions) ∧
         ∀ c, c < 16 → (s.core c).resident = true → (t.core c).mode = .halted ∧ (t.core c).buf = [])) ∧
     ((∃ c ∈ s.orderCores, (s.core c).job ≠ none) → exec .activationQuiescePoint s = .next s) ∧
     (s.boot.activation = .copy →
       Leads (.activationCopyDone true) s (fun t => t.boot.activation = .reload ∧ t.boot.act = 0 ∧ t.boot.fail = 0x08 ∧
         t.boot.bank = s.boot.bank ∧ t.boot.image = s.boot.image) ∧
       Leads (.activationCopyDone false) s (fun t => t.boot.activation = (if s.copyIntact then .restart else .reload) ∧
         t.boot.bank = s.boot.bank)) ∧
     (s.boot.activation = .restart → s.lev.reloadAfterActivation = false →
       Leads .activationResume s (fun t => t.boot.activation = .none ∧ t.boot.act = 2 ∧ t.boot.bank = s.boot.stageBank ∧
         t.ord.noStart = false)) ∧
     (s.boot.activation = .reload → s.lev.reloadAfterActivation = false →
       Leads .activationReloadDone s (fun t => t.boot.activation = .none ∧ t.boot.bank = s.boot.bank ∧ t.ord.noStart = false)))

/-- Lane orders (R163, R166 to R175): the report; a measurement that waits for its end and replies with its records; tests that
start, stop, are read and cleared, and are given errors; and an eye scan that begins. Details of the tests and the end of a
measurement are the model's reading (log entries 100 and 101). -/
def Obligations.LaneOrders : Prop :=
  ∀ (c : Core) (s : State) (o : Order),
    let a := o.arg
    let n := a 0 1
    let lanes := ((List.range 8).filter (bitOf (a 1 1))).map (8 * n + ·)
    let testOk := n < s.stationCount ∧ a 3 1 ≤ 7 ∧ a 4 1 ≤ 6 ∧ a 5 1 ≤ 2 ∧ a 7 1 ≤ 3
    (s.carries c 0x0090 o → n < s.stationCount → o.zero 1 7 = true →
      Leads (.laneReport c) s (fun t => Replies s t c (s.laneReport n))) ∧
    (s.carries c 0x0091 o → n < s.stationCount → o.zero 4 4 = true → (∀ p ∈ s.maskedPorts n (a 1 1), s.portUp p = false) → a 2 2 = 0 →
      (a 1 1 = 0 → Leads (.chanMeasure c) s (fun t => Replies s t c ((s.laneReport n).take 144))) ∧
      (a 1 1 ≠ 0 → Leads (.chanMeasure c) s (fun t => (t.core c).mode = .external (s.ftb + 900000) ∧
        (t.station n).measuring = (s.station n).measuring ||| a 1 1 ∧ t.obj = s.obj))) ∧
    (∀ (st : Station) ls, st.val < s.stationCount → (∀ d, d < 16 → ∀ u, (s.core d).mode ≠ .external u) →
      Leads (.channelMeasurementDone st ls) s (fun t => t = s.recordMeasurement st.val ls)) ∧
    (s.carries c 0x0092 o → testOk → a 2 1 = 0 →
      Leads (.laneTestStop c) s (fun t => Replies (lanes.foldl (fun s k => s.stopTest k) s) t c [])) ∧
    (s.carries c 0x0092 o → testOk → a 2 1 = 1 → (∀ p ∈ s.maskedPorts n (a 1 1), s.get .portEnable p = 0) →
      (a 3 1 = 5 ∨ a 3 1 = 6 → 5 ≤ a 4 1) → s.ratesMix n (a 1 1) (a 4 1) = false →
      Leads (.laneTestStart c) s (fun t => Replies (lanes.foldl (fun s k => s.modLane k (fun l => { l with test :=
        { active := true, pattern := a 3 1, rate := a 4 1, loopback := bitOf (a 7 1) 0, user := a 8 8 } })) s) t c [])) ∧
    (s.carries c 0x0092 o → testOk → a 2 1 = 2 →
      let s1 := (List.range 8).foldl (fun s i => s.settleTest (8 * n + i)) s
      Leads (.laneTestRead c) s (fun t => Replies (lanes.foldl (fun s k => s.modLane k (fun l => { l with test := { l.test with
        bits := 0, bitsOvf := false, errors := 0, errorsOvf := false } })) s1) t c
          ((List.range 8).flatMap (fun i => (s1.lane (8 * n + i)).test.record)))) ∧
    (s.carries c 0x0092 o → testOk → a 2 1 = 3 → bitOf (a 7 1) 1 = false → (a 5 1 = 2 → 10 ≤ a 6 1 ∧ a 6 1 ≤ 40) →
      Leads (.laneTestInject c) s (fun t => Replies (lanes.foldl (fun s k => if (s.lane k).test.active = true then
        s.modLane k (fun l => { l with test := { l.test with inject := a 5 1, injectN := a 6 1 } }) else s) s) t c [])) ∧
    (let k := 8 * n + a 1 1
     s.carries c 0x0093 o → n < s.stationCount → a 1 1 < 8 → a 2 1 ≤ 2 → 20 ≤ a 3 1 → a 3 1 ≤ 40 → a 4 8 % 64 = 0 →
      o.zero 14 2 = true → s.ownsEvent 0 (a 12 2) = true → s.t0Covers (a 4 8) (a 4 8 + 2111) = true → s.cdrLocked k = true →
      (s.lane k).scan = none → s.passes [actionOn clsStation n] →
      Leads (.eyeScan c) s (fun t => Commits s t c [actionOn clsStation n] (fun u => u.modLane k (fun l =>
        { l with scan := some { eye := a 2 1, dwell := a 3 1, addr := a 4 8, event := a 12 2, start := u.ftb, suspends := 0,
                                rate := u.laneRate k } }))
        noReply))

/-- IDE_SET and the token orders (R557, R558, R560): streams stop, or the MC begins a job; a nonce takes the place of any earlier one;
a token that verifies is kept for the next cold reset, and another ends with BADARG. -/
def Obligations.SecurityOrders : Prop :=
  ∀ (c : Core) (s : State) (o : Order),
    let a := o.arg
    let p := a 0 1
    (s.carries c 0x009F o → s.portOk p = true → s.portUp p = true → (s.port p).role = .downstream → s.get .portProto p ≠ 2 →
      o.zero 3 1 = true → o.zero 6 2 = true → s.ownsEvent 0 (a 4 2) = true → s.passes [actionOn clsPort p] →
      (a 1 1 = 0 → Leads (.ideStop c) s (fun t => Commits s t c [actionOn clsPort p]
        (fun s => (s.abandonIde p).modPort p (fun x => { x with streams := [], ideJob := none })) noReply)) ∧
      (a 1 1 = 1 → Leads (.ideEstablish c) s (fun t => Commits s t c [actionOn clsPort p]
        (fun s => (s.abandonIde p).modPort p (fun x => { x with ideJob := some (1, a 2 1, a 4 2) })) noReply)) ∧
      (a 1 1 = 2 → Leads (.ideRefresh c) s (fun t => Commits s t c [actionOn clsPort p]
        (fun s => (s.abandonIde p).modPort p (fun x => { x with ideJob := some (2, 0, a 4 2) })) noReply))) ∧
    (s.carries c 0x00A0 o →
      Leads (.tokenNonce c) s (fun t => ∃ nonce : List Byte, nonce.length = 32 ∧ t.ledger.nonce = some nonce ∧
        t.ledger.token = none ∧ t.otp = s.otp)) ∧
    (s.carries c 0x00A1 o →
      Leads (.tokenWrite c) s (fun t =>
        if s.tokenFault o.args = none then Replies (s.modLedger (fun l => { l with token := some o.args })) t c []
        else t = s.endOrder c Status.badArg.word []))

/-- Power orders (R495 to R498, R505, R506, R586, R605, R611): what each writes and in how many commits, the replies of
SLOT_POWER and ERRLOG_READ, and a RESET that begins once its reply has left. That the work of a warm reset is one step after the
reply is the model's reading (log entry 61). -/
def Obligations.PowerOrders : Prop :=
  ∀ (c : Core) (s : State) (o : Order),
    let a := o.arg
    let ends : List Entry → State → Prop := fun es t => Commits s t c es noAction noReply
    let slots := (List.range 64).filter (bitOf (a 0 8))
    let enable : Nat → List Entry := fun v => slots.map (fun n => putEntry .slotEnable n 0 v)
    let states : State → List Byte := fun u => slots.flatMap (fun n =>
      toLE 1 (u.slotState n) ++ toLE 1 (u.get .slotCause n) ++ toLE 1 (u.get .slotTrips n) ++ toLE 1 (u.get .slotSeated n))
    (s.carries c 0x0040 o → slots ≠ [] → o.zero 9 7 = true →
      (a 8 1 = 0 → s.passes (enable 0) → Leads (.slotPowerOff c) s (fun t => Commits s t c (enable 0) noAction states)) ∧
      (a 8 1 = 1 → s.passes (enable 1) → Leads (.slotPowerOn c) s (fun t => Commits s t c (enable 1) noAction states)) ∧
      (a 8 1 = 2 → s.passes (enable 0) → let s1 := s.committed c (enable 0) noAction
        (s1.core c).lib = { done := 1 } →
          (s1.turnOf c = true → s1.holdFree = true → s1.passes (enable 1) →
            Leads (.slotPowerCycle c) s (fun t => Commits s1 t c (enable 1) noAction states)) ∧
          (s1.holdFree = false → Leads (.slotPowerCycle c) s (fun t => t = s1.waitTurn c (s1.recorded (enable 1)) 0)))) ∧
    (∀ gens tries, s.goesOn c 0x0040 o { done := 1, waits := some gens, tries := tries } → a 8 1 = 2 → slots ≠ [] → o.zero 9 7 = true →
      (∀ e ∈ gens, Tab.get 0 s.gen e.1 = e.2) → s.passes (enable 1) →
      Leads (.slotPowerCycle c) s (fun t => Commits s t c (enable 1) noAction states)) ∧
    (s.carries c 0x0041 o → a 0 1 < 64 → a 1 1 ≠ 0 → o.zero 14 2 = true →
      let fields := [(0, Fld.slotIlim, a 2 2), (1, .slotPlim, a 4 1), (2, .slotBlank, a 5 1), (3, .slotRetries, a 6 1),
        (4, .slotTempTrip, a 7 1), (5, .slotRetryDly, a 8 2), (6, .slotAbsence, a 10 2), (7, .slotShortT, a 12 2)]
      maskedOk (a 1 1) (a 0 1) fields = true → s.passes (maskedEntries (a 1 1) (a 0 1) fields) →
      Leads (.slotLimits c) s (ends (maskedEntries (a 1 1) (a 0 1) fields))) ∧
    (s.carries c 0x009E o → a 0 1 < 64 → a 1 1 ≠ 0 → a 1 1 < 64 → o.zero 14 2 = true → s.vectorOk (a 12 2) = true →
      let fields := [(0, Fld.slotPcTime, a 2 2), (1, .slotRampT, a 4 2), (2, .slotPfwLead, a 6 2), (3, .slotPerstDly, a 8 2),
        (4, .slotRpc, a 10 2), (5, .slotEv, a 12 2)]
      maskedOk (a 1 1) (a 0 1) fields = true → s.passes (maskedEntries (a 1 1) (a 0 1) fields) →
      Leads (.slotTiming c) s (ends (maskedEntries (a 1 1) (a 0 1) fields))) ∧
    (s.carries c 0x0042 o → a 0 1 < 64 → o.zero 2 6 = true → (a 1 1 = 0x7F ∨ (a 1 1 < 128 ∧ s.portOk (a 1 1) = true)) →
      s.passes [putEntry .slotPort (a 0 1) 0 (a 1 1)] →
      Leads (.slotMap c) s (ends [putEntry .slotPort (a 0 1) 0 (a 1 1)])) ∧
    (s.carries c 0x0050 o → 1 ≤ a 0 2 → a 0 2 ≤ 75 → o.zero 2 6 = true →
      (∀ i, i < a 0 2 → a (8 + 2 * i) 1 < 75 ∧ a (8 + 2 * i) 1 < 11 + s.stationCount ∧
        Fld.domainReq.accepts (a (8 + 2 * i) 1) (a (9 + 2 * i) 1) = true) →
      let es := (List.range (a 0 2)).map (fun i => putEntry .domainReq (a (8 + 2 * i) 1) 0 (a (9 + 2 * i) 1))
      s.passes es → Leads (.domainSet c) s (ends es)) ∧
    (s.carries c 0x0051 o → a 1 1 ≠ 0 → o.zero 6 2 = true → o.zero 12 4 = true → (o.channel = 3 → bitOf (a 1 1) 0 = true → a 0 1 < 2) →
      let fields := [(0, Fld.devicePstate, a 0 1), (1, .deviceWatchPer, a 2 2), (2, .deviceVcore, a 4 2), (3, .deviceWakeEn, a 8 2),
        (4, .deviceTempHi, a 10 1), (5, .deviceAvs, a 11 1), (6, .deviceWakeAt, a 16 8),
        (7, .deviceWakePortsLo, a 24 16 % 2 ^ 64), (7, .deviceWakePortsHi, a 24 16 / 2 ^ 64)]
      maskedOk (a 1 1) 0 fields = true → s.passes (maskedEntries (a 1 1) 0 fields) →
      Leads (.pstateSet c) s (ends (maskedEntries (a 1 1) 0 fields))) ∧
    (s.carries c 0x00A3 o → a 0 2 < 2 ^ 13 → a 3 1 ≤ 3 → o.zero 6 2 = true → Fld.thermAlarm.accepts 0 (a 2 1) = true →
      s.vectorOk (a 4 2) = true →
      let es := ((List.range 13).filter (bitOf (a 0 2))).flatMap (fun n =>
        (if bitOf (a 3 1) 0 then [putEntry .thermAlarm n 0 (a 2 1), putEntry .thermEv n 0 (a 4 2)] else []) ++
        (if bitOf (a 3 1) 1 then [putEntry .thermPeak n 0 0] else []))
      s.passes es → Leads (.sensorSet c) s (ends es)) ∧
    (s.carries c 0x00A4 o → o.zero 2 6 = true → s.passes [actionOn clsDevice 0] →
      let replied := (s.committed c [actionOn clsDevice 0] noAction).endOrder c Status.ok.word []
      (a 0 1 = 1 → a 1 1 = 0 → Leads (.resetWarm c) s (fun t => t = replied.haltEnds.askWarm)) ∧
      (a 0 1 = 2 → o.priv ≠ privBMC → a 1 1 < s.stationCount →
        Leads (.resetStation c) s (fun t => t = replied.haltEnds.stationReset (a 1 1))) ∧
      (a 0 1 = 3 → o.priv ≠ privBMC → a 1 1 = 0 → Leads (.resetLever c) s (fun t => t = replied.haltEnds.askLeverReset))) ∧
    (s.carries c 0x00A5 o → 1 ≤ a 4 2 → a 4 2 ≤ 63 → o.zero 6 2 = true →
      let log := s.ledger.errors.filter (fun r => a 0 4 ≤ r.seq)
      let head : Nat → List Byte := fun lost =>
        toLE 4 ((s.ledger.errors.map (·.seq)).headD (s.ledger.errorSeq + 1)) ++ toLE 4 (s.ledger.errorSeq + 1) ++ toLE 4 lost ++ toLE 4 0
      ((s.ledger.errors.map (·.seq)).Pairwise (· < ·) → (∀ r ∈ log, s.errorValid r = true) →
        Leads (.errlogRead c) s (fun t => Replies s t c (head 0 ++ (log.take (a 4 2)).flatMap ErrorRecord.bytes))) ∧
      ((log.filter s.errorValid).length < a 4 2 →
        Leads (.errlogRead c) s (fun t => Replies (if log.any (fun r => s.ledgerBad (errorSlot r.seq) 64) then s.ledgerError else s) t c
          (head (log.length - (log.filter s.errorValid).length) ++ (log.filter s.errorValid).flatMap ErrorRecord.bytes))))

/-- Orders of shapers, timetables, windows, queues and time (R313, R435, R441, R450, R457). -/
def Obligations.QosOrders : Prop :=
  ∀ (c : Core) (s : State) (o : Order),
    let a := o.arg
    let ends : List Entry → State → Prop := fun es t => Commits s t c es noAction noReply
    (s.carries c 0x0030 o → 1 ≤ a 0 1 → a 0 1 ≤ 32 → o.zero 1 7 = true → (∀ x ∈ shaperItems o (a 0 1), s.shaperItemOk x = true) →
      let es := (shaperItems o (a 0 1)).flatMap ShaperItem.entries
      s.passes es →
      Leads (.shaperSet c) s (fun t => Commits s t c es (fun u => (shaperItems o (a 0 1)).foldl State.adaptBy u) noReply)) ∧
    (s.carries c 0x0031 o → s.portOk (a 0 1) = true → a 1 1 ≤ 3 → o.zero 4 4 = true →
      (a 2 2 = 1 → a 8 8 = noTakeover → s.passes [putEntry .timetableTakeover (a 0 1) 0 noTakeover] →
        Leads (.timetableArm c) s (ends [putEntry .timetableTakeover (a 0 1) 0 noTakeover])) ∧
      (1 ≤ a 2 2 → a 2 2 ≤ 126 → a 8 8 ≠ noTakeover →
        (∀ i, i < a 2 2 → o.zero (17 + 8 * i) 3 = true ∧ Fld.ttentryDuration.accepts (a 0 1) (a (20 + 8 * i) 4) = true) →
        let bank := 1 - s.get .timetableActive (a 0 1)
        let es := (List.range (a 2 2)).flatMap (fun i => [putEntry .ttentryGates (a 0 1) (bank * 256 + i) (a (16 + 8 * i) 1),
            putEntry .ttentryDuration (a 0 1) (bank * 256 + i) (a (20 + 8 * i) 4)]) ++
          [putEntry .timetableLength (a 0 1) 0 (a 2 2), putEntry .timetableTakeover (a 0 1) 0 (a 8 8),
            putEntry .timetableNextcycle (a 0 1) 0 (a 1 1 % 2), putEntry .timetableGuard (a 0 1) 0 (a 1 1 / 2 % 2)]
        s.passes es → Leads (.timetableArm c) s (ends es))) ∧
    (s.carries c 0x0032 o → a 4 2 < 4096 → o.zero 6 2 = true → o.zero 33 3 = true → a 8 8 % 4096 = 0 → (a 16 8 + 1) % 4096 = 0 →
      a 8 8 < a 16 8 + 1 → (a 4 2 ≠ 0 → bitOf (s.get .tenantShPerm (a 4 2)) 8 = true) → s.portOk (a 32 1) = true →
      (a 1 1 = 1 → s.get .portProto (a 32 1) = 2) →
      (a 1 1 = 2 → a 32 1 = 0 ∧ s.busRemoteOk (a 4 2) (a 24 8) (a 16 8 + 1 - a 8 8) = true) →
      let fields := [(Fld.windowOwner, a 4 2), (.windowKind, a 1 1), (.windowBase, a 8 8), (.windowLimit, a 16 8), (.windowRemote, a 24 8),
        (.windowPort, a 32 1), (.windowLanes, a 2 1), (.windowElem, a 3 1), (.windowPoll, a 36 4)]
      (∀ e ∈ fields, e.1.accepts (a 0 1) e.2 = true) → s.passes (fields.map (fun e => putEntry e.1 (a 0 1) 0 e.2)) →
      Leads (.windowSet c) s (ends (fields.map (fun e => putEntry e.1 (a 0 1) 0 e.2)))) ∧
    (s.carries c 0x009B o → s.portOk (a 0 1) = true → a 1 1 ≤ 1 → o.zero 2 2 = true →
      (a 4 4 = 0 ∨ Fld.deviceQsamplePer.accepts 0 (a 4 4) = true) → (o.priv = privBMC → a 1 1 = 0 ∧ a 4 4 = 0) →
      let es := (if a 1 1 = 1 then (List.range 17).flatMap (fun i =>
          [putEntry .queuePeakDepth (a 0 1) i 0, putEntry .queuePeakHold (a 0 1) i 0]) else []) ++
        (if a 4 4 ≠ 0 then [putEntry .deviceQsamplePer 0 0 (a 4 4)] else [])
      s.passes es →
      Leads (.queueRead c) s (fun t => Commits s t c es noAction (fun _ => toLE 8 (s.get .queueStamp (a 0 1) 0) ++
        (List.range 17).flatMap (fun i => toLE 4 (s.get .queueDepth (a 0 1) i) ++ toLE 4 (s.get .queueHold (a 0 1) i) ++
          toLE 4 (s.get .queuePeakDepth (a 0 1) i) ++ toLE 4 (s.get .queuePeakHold (a 0 1) i))))) ∧
    (s.carries c 0x009D o → Fld.deviceFtbSrc.accepts 0 (a 0 1) = true → s.portOk (a 1 1) = true → a 2 1 ≤ 1 → o.zero 3 1 = true →
      a 4 4 = 0 → a 0 1 ≠ 1 → (a 0 1 = 2 → s.get .portProto (a 1 1) = 2) →
      let es := [putEntry .deviceFtbSrc 0 0 (a 0 1), putEntry .deviceFtbPort 0 0 (a 1 1), putEntry .deviceWsMark 0 0 (a 2 1)]
      s.passes es → Leads (.timeSet c) s (ends es))

/-- READ and INFO (R103, R108): READ replies one 8-byte value per item, of objects the submitter may read; INFO replies the payload of
its KIND. -/
def Obligations.ReadOrders : Prop :=
  ∀ (c : Core) (s : State) (o : Order),
    let a := o.arg
    (∀ values : List Nat, s.carries c 0x0062 o → o.args.length = 8 * values.length → values.length ≤ 512 → s.errors.badObjects = [] →
      (∀ i, i < values.length →
        let cls := a (8 * i) 8 % 2 ^ 8
        let fid := a (8 * i) 8 / 2 ^ 8 % 2 ^ 8
        let sub := a (8 * i) 8 / 2 ^ 16 % 2 ^ 16
        let idx := a (8 * i) 8 / 2 ^ 32
        idx < 2 ^ 16 ∧ s.objectInRange cls idx sub = true ∧ (classPool cls = true → s.allocated cls idx = true) ∧
        (classIndexes cls).isSome = true ∧
        s.inScope o.priv o.tenant cls idx = true ∧ s.readField cls idx sub fid = some (values.getD i 0)) →
      Leads (.readFields c) s (fun t => Replies s t c (values.flatMap (toLE 8)))) ∧
    (s.carries c 0x0063 o → o.zero 1 1 = true → o.zero 6 2 = true →
      (a 0 1 = 0 → a 2 2 = 0 → a 4 2 = 0 → Leads (.infoIdentify c) s (fun t => Replies s t c (s.infoPayload 0 0 0))) ∧
      (a 2 2 ≤ 127 → 1 ≤ a 4 2 → a 4 2 ≤ 128 →
        (a 0 1 = 1 → Leads (.infoPortState c) s (fun t => Replies s t c (s.infoPayload 1 (a 2 2) (a 4 2)))) ∧
        (a 0 1 = 2 → Leads (.infoVcs c) s (fun t => Replies s t c (s.infoPayload 2 (a 2 2) (a 4 2))))))

/-- Orders and events of tenants (R382 to R384, R393, R409, R410): creation in one commit; a reset that makes STATE 2 and runs its steps
until STATE is 1 again; destruction of a tenant that owns nothing. -/
def Obligations.TenantOrders : Prop :=
  ∀ (c : Core) (s : State) (o : Order),
    let a := o.arg
    let t := a 0 2
    (s.carries c 0x0020 o → 1 ≤ t → t < 4096 → s.get .tenantState t = 0 → a 4 4 ≤ 65536 → a 12 2 ≤ 8192 → a 14 2 ≤ 16384 →
      let fields := [(Fld.tshaperRate, a 24 4), (.tshaperBurst, if a 28 4 = 0 then 65536 else a 28 4), (.tenantShPerm, a 2 2),
        (.tenantShRules, a 4 4), (.tenantShQuota, a 8 4), (.tenantShEvents, a 12 2), (.tenantShCounters, a 14 2), (.tenantShDirty, a 16 4),
        (.tenantTimeout, if a 20 4 = 0 then 10000000 else a 20 4), (.tenantState, 1)]
      (∀ e ∈ fields, e.1.accepts t e.2 = true) → s.passes (fields.map (fun e => putEntry e.1 t 0 e.2)) →
      Leads (.tenantCreate c) s (fun u => Commits s u c (fields.map (fun e => putEntry e.1 t 0 e.2)) noAction noReply)) ∧
    (s.carries c 0x0021 o → o.priv ≠ privTenant → 1 ≤ t → t < 4096 → s.get .tenantState t = 1 → o.zero 4 4 = true →
      (a 2 2 = 0x2000 ∨ s.ownsEvent t (a 2 2) = true ∨ s.ownsEvent 0 (a 2 2) = true) → s.passes [putEntry .tenantState t 0 2] →
      Leads (.tenantReset c) s (fun u => Commits s u c [putEntry .tenantState t 0 2]
        (fun s => s.modTenant t (fun x => { x with doneVector := a 2 2 })) noReply)) ∧
    (s.carries c 0x0021 o → o.priv ≠ privTenant → 1 ≤ t → t < 4096 → s.get .tenantState t = 2 → o.zero 4 4 = true → a 2 2 = 0x2000 →
      Leads (.tenantReset c) s (fun u => u = s.endOrder c Status.busy.word [])) ∧
    (s.carries c 0x0022 o → 1 ≤ t → t < 4096 → o.zero 2 6 = true → s.get .tenantState t = 1 → s.trackedOf t = 0 →
      (∀ p, s.get .portTenant p ≠ t) → (∀ d, s.get .pbrTenant d ≠ t) → s.poolOf t = [] →
      (∀ w, s.get .windowOwner w = t → s.get .windowKind w = 0) →
      let es := [putEntry .gleanerEnable t 0 0, putEntry .tenantState t 0 0]
      s.passes es → (s.committed c es noAction).get .tenantState t = 0 →
      Leads (.tenantDestroy c) s (fun u => Commits s u c es noAction (fun _ => [0, 0, 0, 0]))) ∧
    (∀ x : TenantId, (s.tenant x.val).reset = .requests →
      (s.tenantBusy x.val = false →
        Leads (.tenantResetRequestsDone x) s (fun u => (u.tenant x.val).reset = .wagons)) ∧
      ((s.tenant x.val).resetAt ≤ s.ftb → Leads (.tenantResetTimeout x) s (fun u => (u.tenant x.val).reset = .wagons))) ∧
    (∀ x : TenantId, (s.tenant x.val).reset = .wagons → (∀ e ∈ s.sw.frames, e.2.requestOf x.val = true → e.2.answered = false) →
      Leads (.tenantResetDone x) s (fun u => (u.tenant x.val).reset = .none ∧ u.get .tenantState x.val = 1 ∧
        (u.tenant x.val).pendingRecords = [] ∧ (u.tenant x.val).bitmap = [])) ∧
    (s.carries c 0x0024 o → t < 4096 → a 2 1 ≤ 1 → o.zero 3 5 = true → s.passes [putEntry .tenantBank t 0 (a 2 1)] →
      Leads (.bankSwap c) s (fun u => Commits s u c [putEntry .tenantBank t 0 (a 2 1)] noAction noReply))

/-- RULE_STAGE, GLEANER_SET, CHECKER_CLEAR and the Gleaner's events (R391, R392, R398, R405 to R408). EVENT_SET, COUNTER_SET and
UNIT_COUNTER_SET (R418, R577, R578): each OP's entries for every item, and the reply of an allocation. -/
def Obligations.RuleVectorCounterOrders : Prop :=
  (∀ (c : Core) (s : State) (o : Order),
     let a := o.arg
     let t := a 0 2
     (∀ s1 l, s.carries c 0x0023 o → t < 4096 → a 2 1 ≤ 1 → 1 ≤ a 3 1 → a 3 1 ≤ 32 → o.zero 4 4 = true →
       let items := ruleItems o (a 3 1)
       (∀ x ∈ items, s.ruleItemOk t (a 2 1) x = true) →
       s.reserveMany c clsRule t (items.filter (fun x => x.op == 0)).length [] = some (s1, l) → s1.passes (stageRules t (a 2 1) items l) →
       Leads (.ruleStage c) s (fun u => Commits s1 u c (stageRules t (a 2 1) items l) noAction (fun _ => l.flatMap (toLE 4)))) ∧
     (s.carries c 0x0025 o → t < 4096 → o.zero 22 2 = true →
       (a 2 1 = 0 → s.passes [putEntry .gleanerEnable t 0 0] →
         Leads (.gleanerStop c) s (fun u => Commits s u c [putEntry .gleanerEnable t 0 0] noAction noReply)) ∧
       (a 2 1 = 1 → s.get .gleanerEnable t = 0 → a 3 1 ≤ 1 → (∃ k, k < 26 ∧ a 4 4 = 2 ^ (k + 6)) → a 4 4 ≤ s.get .tenantShDirty t →
         a 8 8 % 64 = 0 → a 8 8 + 8 * a 4 4 ≤ 2 ^ 57 → s.t0Covers (a 8 8) (a 8 8 + 8 * a 4 4 - 1) = true → s.vectorOk (a 20 2) = true →
         let es := [putEntry .gleanerEnable t 0 1, putEntry .gleanerGran t 0 (a 3 1), putEntry .gleanerRingBase t 0 (a 8 8),
           putEntry .gleanerRingRecs t 0 (a 4 4), putEntry .gleanerEvent t 0 (a 20 2)]
         s.passes es → Leads (.gleanerStart c) s (fun u => Commits s u c es noAction noReply)) ∧
       (a 2 1 = 2 → s.get .gleanerEnable t = 1 → (s.get .gleanerAlldirty t = 0 ∨ s.gleanerFill t < s.get .gleanerRingRecs t) → s.passes [actionOn clsGleaner t] →
         Leads (.gleanerNewPass c) s (fun u => Commits s u c [actionOn clsGleaner t]
           (fun s => (s.put .gleanerAlldirty t 0 0).beginPass t (s.get .gleanerPass t + 1)) noReply)) ∧
       (a 2 1 = 3 → s.get .gleanerEnable t = 1 → (a 16 4 + 2 ^ 32 - s.get .gleanerTail t) % 2 ^ 32 ≤ s.gleanerFill t →
         s.passes [putEntry .gleanerTail t 0 (a 16 4)] →
         Leads (.gleanerSetTail c) s (fun u => Commits s u c [putEntry .gleanerTail t 0 (a 16 4)] noAction noReply))) ∧
     (s.carries c 0x009A o →
       let ns := (List.range s.stationCount).filter (fun n => bitOf (a 0 8) n)
       let es := ns.flatMap (fun n => [putEntry .checkerCapValid n 0 0, putEntry .checkerOvf n 0 0])
       s.passes es →
       Leads (.checkerClear c) s (fun u => Commits s u c es noAction (fun _ => ns.flatMap (fun n => toLE 8 (s.get .checkerLater n))))) ∧
     (∀ x : TenantId,
       (∀ at_, (s.tenant x.val).passAt = some at_ →
         Leads (.gleanerPassFinal x) s (fun u => (u.tenant x.val).passAt = none ∧ u.get .gleanerAlldirty x.val = s.get .gleanerAlldirty x.val) ∧
         (at_ ≤ s.ftb → Leads (.gleanerPassTimeout x) s (fun u => (u.tenant x.val).passAt = none ∧ u.get .gleanerAlldirty x.val = 1))) ∧
       ((s.tenant x.val).pendingRecords ≠ [] →
         Leads (.gleanerRecordWrite x) s (fun u => (u.tenant x.val).pendingRecords.length < (s.tenant x.val).pendingRecords.length ∧
           u.obj = s.obj)))) ∧
  (∀ (c : Core) (s : State) (o : Order),
     let a := o.arg
     let n := a 1 1
     let ends : List Entry → State → Prop := fun es t => Commits s t c es noAction noReply
     let at_ := (List.range n).map (fun i => 8 + 40 * i)
     let vectors := (List.range n).map (fun i => a (8 + 2 * i) 2)
     let mine : Nat → Prop := fun owner => o.priv = privTenant → owner = o.tenant
     let vecOp : Nat → Instr → (Nat → Entry) → Prop := fun op i e => a 0 1 = op → s.carries c 0x0060 o → 1 ≤ n → n ≤ 64 → o.zero 4 4 = true →
       (∀ v ∈ vectors, v < 8192 ∧ s.allocated clsEvent v = true ∧ mine (s.get .eventOwner v)) → s.passes (vectors.map e) →
       Leads i s (ends (vectors.map e))
     let ctrOp : Nat → Instr → (Nat → Entry) → Prop := fun op i e => a 0 1 = op → s.carries c 0x0061 o → 1 ≤ n → n ≤ 32 → o.zero 4 4 = true →
       (∀ b ∈ at_, o.zero (b + 14) 2 = true ∧ o.zero (b + 32) 8 = true ∧ a b 2 < 16384 ∧ s.allocated clsCounter (a b 2) = true ∧
         mine (s.get .counterOwner (a b 2))) → s.passes (at_.map (fun b => e (a b 2))) →
       Leads i s (ends (at_.map (fun b => e (a b 2))))
     let setOp : Nat → Bool → Instr → (Nat → Nat → Entry) → Prop := fun op whole i e => a 0 1 = op → s.carries c 0x00A2 o → 1 ≤ n → n ≤ 32 →
       o.zero 2 6 = true →
       (∀ b ∈ at_, s.resourceOk clsUnitset (a b 2) = true ∧ a b 2 < 88 ∧ o.zero (b + 7) 1 = true ∧ o.zero (b + 34) 6 = true ∧
         (if whole then a (b + 2) 1 = 0xFF else a (b + 2) 1 < 8)) → s.passes (at_.map (fun b => e (a b 2) (a (b + 2) 1))) →
       Leads i s (ends (at_.map (fun b => e (a b 2) (a (b + 2) 1))))
     (∀ s1 l, a 0 1 = 0 → s.carries c 0x0060 o → 1 ≤ n → n ≤ 64 → o.zero 4 4 = true → a 2 2 < 4096 → mine (a 2 2) →
       s.reserveMany c clsEvent (a 2 2) n [] = some (s1, l) → s1.passes (l.map (fun i => Entry.create clsEvent i (a 2 2))) →
       Leads (.eventAllocate c) s (fun t => Commits s1 t c (l.map (fun i => Entry.create clsEvent i (a 2 2))) noAction
         (fun _ => l.flatMap (toLE 2)))) ∧
     vecOp 1 (.eventEnable c) (fun v => putEntry .eventEnable v 0 1) ∧
     vecOp 2 (.eventDisable c) (fun v => putEntry .eventEnable v 0 0) ∧
     vecOp 3 (.eventClearPending c) (fun v => putEntry .eventPending v 0 0) ∧
     vecOp 4 (.eventFree c) (fun v => .delete clsEvent v) ∧
     (∀ s1 l, a 0 1 = 0 → s.carries c 0x0061 o → 1 ≤ n → n ≤ 32 → o.zero 4 4 = true → a 2 2 < 4096 → mine (a 2 2) →
       (∀ b ∈ at_, o.zero b 2 = true ∧ o.zero (b + 14) 2 = true ∧ o.zero (b + 32) 8 = true) →
       s.reserveMany c clsCounter (a 2 2) n [] = some (s1, l) → s1.passes (l.map (fun i => Entry.create clsCounter i (a 2 2))) →
       Leads (.counterAllocate c) s (fun t => Commits s1 t c (l.map (fun i => Entry.create clsCounter i (a 2 2))) noAction
         (fun _ => l.flatMap (toLE 2)))) ∧
     (∀ es : List (List Entry), a 0 1 = 1 → s.carries c 0x0061 o → 1 ≤ n → n ≤ 28 → o.zero 4 4 = true →
       (∀ b ∈ at_, o.zero (b + 14) 2 = true ∧ o.zero (b + 32) 8 = true ∧ a b 2 < 16384 ∧ s.allocated clsCounter (a b 2) = true ∧
         mine (s.get .counterOwner (a b 2)) ∧
         (a (b + 12) 2 = 0x2000 ∨ s.ownsEvent (s.get .counterOwner (a b 2)) (a (b + 12) 2) = true)) → at_.map (counterProgram o) = es.map some → s.passes es.flatten →
       Leads (.counterProgram c) s (ends es.flatten)) ∧
     ctrOp 2 (.counterClear c) (fun i => putEntry .counterZero i 0 1) ∧
     ctrOp 3 (.counterRun c) (fun i => putEntry .counterRun i 0 1) ∧
     ctrOp 4 (.counterStop c) (fun i => putEntry .counterRun i 0 0) ∧
     ctrOp 5 (.counterFree c) (fun i => .delete clsCounter i) ∧
     (∀ es : List (List Entry), a 0 1 = 1 → s.carries c 0x00A2 o → 1 ≤ n → n ≤ 25 → o.zero 2 6 = true →
       (∀ b ∈ at_, s.resourceOk clsUnitset (a b 2) = true ∧ a b 2 < 88 ∧ o.zero (b + 7) 1 = true ∧ o.zero (b + 34) 6 = true ∧
         a (b + 2) 1 < 8 ∧ s.vectorOk (a (b + 32) 2) = true) → at_.map (unitProgram o) = es.map some → s.passes es.flatten →
       Leads (.unitCounterProgram c) s (ends es.flatten)) ∧
     setOp 2 false (.unitCounterClear c) (fun i k => putEntry .unitctrZero i k 1) ∧
     setOp 3 true (.unitSetRun c) (fun i _ => putEntry .unitsetRun i 0 1) ∧
     setOp 4 true (.unitSetStop c) (fun i _ => putEntry .unitsetRun i 0 0) ∧
     setOp 6 true (.unitSetZero c) (fun i _ => putEntry .unitsetZero i 0 1))

/-- Orders of the coherent pool (R329, R351, R365, R367). -/
def Obligations.PoolOrders : Prop :=
  ∀ (c : Core) (s : State) (o : Order),
    let a := o.arg
    (s.carries c 0x0095 o → a 0 2 < 512 → a 6 1 ≤ 3 → o.zero 7 1 = true →
      (a 2 1 = 0 ∨ (a 2 1 ≤ 3 ∧ s.portOk (a 3 1) = true ∧ a 4 2 < 4096 ∧ (a 2 1 = 3 ↔ s.get .portProto (a 3 1) = 2) ∧
        ∀ x, x ≠ a 0 2 → s.get .agentKind x ≠ 0 → s.get .agentPort x = a 3 1 → s.get .agentBiid x ≠ a 4 2)) →
      let es := [putEntry .agentKind (a 0 2) 0 (a 2 1), putEntry .agentPort (a 0 2) 0 (a 3 1), putEntry .agentBiid (a 0 2) 0 (a 4 2),
        putEntry .agentPrefetch (a 0 2) 0 (a 6 1)]
      s.passes es → Leads (.agentSet c) s (fun t => Commits s t c es noAction noReply)) ∧
    (s.carries c 0x0097 o → a 4 2 ≤ 129 → o.zero 6 2 = true → a 0 4 ≠ 0 → Fld.deviceDeadT.accepts 0 (a 0 4) = true →
      (∀ i, i < a 4 2 → a (8 + 4 * i) 4 / 256 % 256 = 0 ∧ s.objectInRange clsNear (a (8 + 4 * i) 4 % 256) 0 = true) →
      let es := putEntry .deviceDeadT 0 0 (a 0 4) ::
        (List.range (a 4 2)).map (fun i => putEntry .nearLat (a (8 + 4 * i) 4 % 256) 0 (a (8 + 4 * i) 4 / 65536 % 65536))
      s.passes es → Leads (.coherenceSet c) s (fun t => Commits s t c es noAction noReply)) ∧
    (s.carries c 0x0098 o → a 0 2 < 4096 → a 2 1 = 0 → o.zero 3 1 = true → o.zero 6 2 = true → s.ownsEvent 0 (a 4 2) = true → s.passes [actionOn clsTenant (a 0 2)] →
      Leads (.coherentFlush c) s (fun t => Commits s t c [actionOn clsTenant (a 0 2)]
        (fun u => (u.modCoh (fun x => { x with flushes := Tab.set x.flushes (a 0 2) (0, a 4 2) })).flushTenant (a 0 2)) noReply)) ∧
    (s.carries c 0x0098 o → a 0 2 < 4096 → a 2 1 = 1 → o.zero 3 1 = true → o.zero 6 2 = true → s.ownsEvent 0 (a 4 2) = true → s.passes [actionOn clsTenant (a 0 2)] →
      Leads (.coherentFlush c) s (fun t => Commits s t c [actionOn clsTenant (a 0 2)]
        (fun u => ((u.modCoh (fun x => { x with flushes := Tab.set x.flushes (a 0 2) (1, a 4 2) })).writeBack
          (fun l => l.tenant == a 0 2)).flushTenant (a 0 2)) noReply)) ∧
    (s.carries c 0x0096 o → 1 ≤ a 4 2 → a 4 2 ≤ 127 → o.zero 6 2 = true →
      Leads (.deadlogRead c) s (fun t => Replies s t c
        (toLE 4 ((s.coh.deadlog.map (·.seq)).headD s.coh.deadSeq) ++ toLE 4 s.coh.deadSeq ++ toLE 4 s.coh.deadLost ++ toLE 4 0 ++
          ((s.coh.deadlog.filter (fun r => a 0 4 ≤ r.seq)).take (a 4 2)).flatMap DeadRecord.bytes)))

/-- A cold reset and the boot phases (R115, R116, R122, R531, R541 to R543, R561, R607): the straps taken at a cold reset; the
failures of phase 0 in their order; the banks of phase 1; what phase 2 starts; the standing records of phases 3 and 4. The order
of the errors of phase 0 and when UDS is fused are the model's reading (log entry 113). -/
def Obligations.BootPhases : Prop :=
  ∀ (s : State),
    (∀ (x : Straps) (a b : Bool), Leads (.coldReset x a b) s (fun t => t.straps = x ∧ t.otp = s.otp ∧ t.ftb = 0 ∧
      t.boot.phase = 0 ∧ t.boot.cold = true ∧ t.power.step = .wake 4 0 ∧ t.ledger.epoch = nextEpoch s.ledger.epoch)) ∧
    (s.phaseReady 0 = true → s.boot.tapHold = false → ∀ (bad fuse : Bool) (r : List Byte),
      let fails : Nat → State → Prop := fun code t => t.boot.phase = 0xF ∧ t.boot.error = code ∧ t.otp = s.otp
      (bad = true → Leads (.bootPhase0 bad fuse r) s (fails 0x12)) ∧
      (bad = false → 4 ≤ s.otp.lifecycle → Leads (.bootPhase0 bad fuse r) s (fails 0x11)) ∧
      (bad = false → s.otp.lifecycle < 4 → s.strapAbsent = true → Leads (.bootPhase0 bad fuse r) s (fails 0x13)) ∧
      (bad = false → s.otp.lifecycle < 4 → s.strapAbsent = false →
        Leads (.bootPhase0 bad fuse r) s (fun t => t.boot.phase = 1 ∧ t.boot.step = .ready ∧ t.sec.udsOpen = false ∧
          (s.boot.cold = false → t.otp = s.otp)))) ∧
    (s.phaseReady 1 = true →
      Leads (.bootPhase1 false) s (fun t => t.boot.phase = 0xF ∧ t.boot.error = 0x10) ∧
      (∀ e, s.verifyBank s.firstBank = e →
        Leads (.bootPhase1 true) s (fun t =>
          (e = none → t.boot.phase = 1 ∧ t.boot.step = .working ∧ t.boot.loadBank = s.firstBank ∧ t.boot.fallback = false) ∧
          (∀ code, e = some code → t.boot.loadBank = 1 - s.firstBank ∧ t.boot.fallback = true ∧ t.boot.error = code ∨
            t.boot.phase = 0xF)))) ∧
    (s.boot.phase = 1 → s.boot.step = .working →
      Leads (.imageLoadDone false) s (fun t => t.boot.phase = 2 ∧ t.boot.step = .ready ∧ t.boot.bank = s.boot.loadBank ∧
        t.boot.image = s.boot.readImage s.boot.loadBank) ∧
      (s.boot.fallback = true → Leads (.imageLoadDone true) s (fun t => t.boot.phase = 0xF ∧ t.boot.error = 0x06))) ∧
    (s.phaseReady 2 = true →
      Leads .bootPhase2 s (fun t => t.boot.phase = 3 ∧ t.boot.step = .ready ∧ t.sw.running = true ∧
        (∀ n, n < s.stationCount → (t.station n).measuring = 0xFF) ∧
        ∀ p, s.mgmtPort = some p → t.get .portEnable p = 1 ∧ t.get .portProto p = 1 ∧ t.get .vcsEnable 0 = 1 ∧ t.get .vcsUsp 0 = p)) ∧
    (s.phaseReady 3 = true →
      Leads .bootPhase3 s (fun t => t.boot.phase = 3 ∧ t.boot.step = .working ∧ t.boot.replayNext = 0 ∧
        t.ledger.skipped = s.ledger.standing.length - s.replayable.length)) ∧
    (s.boot.phase = 3 → s.boot.step = .working → s.replaying = false →
      (∀ r, s.nextRecord = some r → Leads .standingOrderReplay s (fun t => t.boot.replayNext = r.seq + 1)) ∧
      (s.nextRecord = none → Leads .bootPhase4 s (fun t => t.boot.phase = 4 ∧ t.boot.step = .done)))

/-- Resets below a cold one, and the error log (R600, R604, R606, R609, R610, R633). What outlives a warm reset beside R607's
words is the model's reading (log entry 62). -/
def Obligations.ResetsAndErrors : Prop :=
  ∀ (s : State),
    (s.lev.reloading = true → s.boot.sectionBytes s.boot.bank [3, 4, 5, 6] = s.boot.image.leverBytes →
      Leads .leverReloadDone s (fun t => t.lev.reloading = false ∧ t.ord.noStart = false)) ∧
    (∀ st : Station, (s.station st.val).resetting = true → s.stationGroup st.val = [st.val] →
      Leads (.stationRejoin st) s (fun t => (t.station st.val).resetting = false)) ∧
    (s.deepReset = false → ∀ (f : FatalCode) (d : Nat), s.power.fatalAt = none →
      Leads (.fatalError f d) s (fun t => t.power.fatalAt = some (s.ftb + 1000000) ∧
        t.power.fatalIsMc = (s.power.fatalIsMc || (fatalNumber f).2))) ∧
    (∀ n, s.power.fatalAt = some n → n ≤ s.ftb → s.power.fatalIsMc = false →
      (s.get .deviceFatalAct 0 = 1 → Leads .fatalAction s (fun t => t.sw.running = false ∧ t.power.haltAfterFatal = true ∧
        t.power.fatalAt = none)) ∧
      (s.get .deviceFatalAct 0 ≠ 1 → s.deepReset = false → Leads .fatalAction s (fun t => t.sw.running = false ∧ t.boot.phase = 0 ∧
        t.power.fatalAt = none ∧ t.coh.dir = [] ∧ t.otp = s.otp ∧ t.straps = s.straps))) ∧
    (s.deepReset = false → ∀ pc, Leads (.mcWatchdog pc) s (fun t => t.boot.phase = 0 ∧ t.boot.cold = false ∧ t.lev.cores = [] ∧
      t.coh.dir = [] ∧ t.otp = s.otp)) ∧
    (s.errors.corrected ≠ [] → Leads .correctedSummary s (fun t => t.errors.corrected = [])) ∧
    (∀ (code place : Nat) (w : ErrorWindow), s.errors.windows.find? (fun w => w.code == code && w.place == place) = some w →
      w.opened + 10000000 ≤ s.ftb →
      Leads (.containedWindowEnd code place) s (fun t => t.ledger.errorSeq = s.ledger.errorSeq + 1 ∧
        t.errors.windows.find? (fun w => w.code == code && w.place == place) = none)) ∧
    Leads .jtagTestInstruction s (fun t => t = { s with boot := { s.boot with tapHold := true } }) ∧
    Leads .tapReset s (fun t => t = { s with boot := { s.boot with tapHold := false } })

/-- MCTP control on every endpoint and DOE discovery (R534 to R537), and the management bus itself (R534, R631). Debug masters
(R400, R401): where the lifecycle leaves the target open a byte is read or written; where not, the access is logged, answered as
locked, and reads nothing. Answer bytes and object types are those of other standards, and when answers come, the bus time-out
and the debug addresses are the model's reading (log entries 83, 84 and 90 to 92); a byte that no layout gives is a free value. -/
def Obligations.ManagementAndDebug : Prop :=
  (∀ (s : State), s.power.step = .run →
     (s.straps.i3c = false → Leads .smbusTimeout s (fun t => t.sent .busTargetReset)) ∧
     (s.straps.i3c = true → ∀ (b : Bool) (a : BitVec 7),
       Leads (.dynamicAddressAssignment b a) s (fun t => t.sec.dynamicAddress = some a.toNat)) ∧
     (∀ e : Endpoint, s.mcRuns = true →
       (match e with
         | .bus => True
         | .vdm => ∃ p, s.mgmtPort = some p ∧ s.portUp p = true
         | .trunk p => s.trunkAt p.val .active = true) →
       (∀ eid : Byte, eid ≠ 0 → eid ≠ 0xFF →
         Leads (.setEndpointId e eid) s (fun t => t.eid e = eid.toNat ∧ t.sent (.mctp e 0x01 [0, 0, eid, 0]))) ∧
       Leads (.getEndpointId e) s (fun t => t.sent (.mctp e 0x02 [0, BitVec.ofNat 8 (s.eid e), 0, 0])) ∧
       (∀ ty : Byte, ty.toNat ∈ mctpTypes e →
         Leads (.getMctpVersionSupport e ty) s (fun t => ∃ v : List Byte, v.length = 4 ∧ t.sent (.mctp e 0x04 ([0, 1] ++ v)))) ∧
       Leads (.getMessageTypeSupport e) s (fun t =>
         t.sent (.mctp e 0x05 ([0, BitVec.ofNat 8 (mctpTypes e).length] ++ (mctpTypes e).map (BitVec.ofNat 8)))) ∧
       (∀ p, e = .trunk p → Leads (.getVendorMessageSupport e) s (fun t =>
         ∃ v : List Byte, v.length = 2 ∧ t.sent (.mctp e 0x06 ([0, 0xFF, 0, 0x1D, 0x74] ++ v))))) ∧
     (∀ v : Vcs, s.uspReachable v.val = true →
       Leads (.doeDiscovery v 0) s (fun t => t.sent (.doe v.val [0x01, 0x00, 0, 1])) ∧
       Leads (.doeDiscovery v 1) s (fun t => t.sent (.doe v.val [0x01, 0x00, 1, 2])) ∧
       Leads (.doeDiscovery v 2) s (fun t => t.sent (.doe v.val [0x01, 0x00, 2, 0])))) ∧
  (∀ (target : DebugTarget) (addr : Nat) (s : State), s.power.step = .run →
     (s.debugOpen target false = true → ∀ v, s.debugByte target addr = some v →
       Leads (.debugAccess target addr none) s (fun t => t.sent (.debugReply v false) ∧ t.pool = s.pool ∧ t.lev = s.lev)) ∧
     (s.debugOpen target false = true → s.debugByte target addr = none →
       Leads (.debugAccess target addr none) s (fun t => ∃ v, v < 256 ∧ t.sent (.debugReply v false))) ∧
     (∀ (b : Byte) (c : Core), target = .tenantLeverMemory c → s.debugOpen target true = true → addr < 0x40000 → Memory.wf (s.core c).mem = true →
       Leads (.debugAccess target addr (some b)) s (fun t => t.leverRead c.val addr 1 = b.toNat ∧ t.pool = s.pool ∧
         ∀ d a, d ≠ c.val ∨ a ≠ addr → t.leverRead d a 1 = s.leverRead d a 1)) ∧
     (∀ b : Byte, target = .tenantPool → s.debugOpen target true = true → Memory.wf s.pool = true →
       Leads (.debugAccess target addr (some b)) s (fun t => memByte t.pool addr = b ∧ t.lev = s.lev ∧
         ∀ a, a ≠ addr → memByte t.pool a = memByte s.pool a)) ∧
     (∀ w : Option Byte, s.debugOpen target w.isSome = false →
       Leads (.debugAccess target addr w) s (fun t => t.sent (.debugReply 0 true) ∧ t.pool = s.pool ∧ t.lev = s.lev ∧
         (s.ledger.excess = 0 → s.ledger.securityTicks.length < securityLimit →
           t.ledger.security = s.ledger.security ++ [.debugAccess addr s.ftb w.isSome]))))

/-- SPDM requests (R547, R549 to R551, R563): the eight blocks and their signature, the chain of a slot, a session that opens
and takes its next keys, the owner chain of slot 1, and what RETIRED and a paused MC answer. The codes of the answers and the
error while the controller pauses are the model's (log entries 85 and 86). -/
def Obligations.SpdmRequests : Prop :=
  ∀ (e : SpdmEnd) (s : State), s.power.step = .run → s.mcRuns = true →
    (match e with
      | .bus => True
      | .vdm => ∃ p, s.mgmtPort = some p ∧ s.portUp p = true
      | .trunk p => s.trunkAt p.val .active = true
      | .doe v => s.uspReachable v.val = true) →
    (s.mcPaused = true → ∀ n, Leads (.getMeasurements e n) s (fun t => t.sent (.spdm e 0x7F [0x42, 0, 13]))) ∧
    (s.mcPaused = false →
      (∀ n, s.sec.lifecycle ≠ 3 → Leads (.getMeasurements e n) s (fun t =>
        let blocks := (s.measurements.zipIdx).flatMap (fun b => toLE 1 (b.2 + 1) ++ toLE 2 b.1.length ++ b.1)
        t.sent (.spdm e 0x60 (blocks ++ Config.sign s.sec.aliasKey (blocks ++ n))))) ∧
      (s.sec.lifecycle = 3 → Leads (.getCertificate e 0) s (fun t => t.sent (.spdm e 0x7F [7, 0]))) ∧
      (s.sec.lifecycle ≠ 3 →
        (∀ k : Fin 8, s.chain k.val ≠ [] →
          Leads (.getCertificate e k) s (fun t => t.sent (.spdm e 0x02 (s.chain k.val))) ∧
          ∀ n, Leads (.challenge e k n) s (fun t => ∃ own : List Byte, own.length = 32 ∧
            t.sent (.spdm e 0x03 (Config.sha512 (s.chain k.val) ++ own ++
              Config.sign s.sec.aliasKey (Config.sha512 (s.chain k.val) ++ own ++ n))))) ∧
        (∀ k : Fin 8, s.chain k.val = [] → Leads (.getCertificate e k) s (fun t => t.sent (.spdm e 0x7F [1, 0]))) ∧
        (s.sessionFree e = true → Leads (.keyExchange e) s (fun t =>
          Tab.find t.sec.sessions s.sec.nextSession = some { place := e, trunk := onTrunk e, keys := 0 } ∧
          t.sec.nextSession = s.sec.nextSession + 1))) ∧
      (∀ (n : Nat) (x : Session), Tab.find s.sec.sessions n = some x → x.place = e →
        Leads (.keyUpdate e n) s (fun t => Tab.find t.sec.sessions n = some { x with keys := x.keys + 1 } ∧
          t.sent (.spdm e 0x69 [])) ∧
        Leads (.heartbeat e n) s (fun t => t.sent (.spdm e 0x68 []) ∧ t.sec = s.sec)) ∧
      (e = .vdm → ∀ chain : List Byte, chain.length ≤ 56 * 1024 →
        Leads (.setCertificate e 1 chain) s (fun t => t.ledger.cert1 = chain ∧ t.sent (.spdm e 0x6E []))))

/-- A port goes up and down (R160, R191, R192, R558, R595): what a link brings on its port, the value each cause leaves LINK at,
and that nothing of the link layer outlives the link. What a link brings and why it goes are operands of the commands, and the
end of a hot reset is the model's reading (log entries 76 and 126). -/
def Obligations.LinkChanges : Prop :=
  ∀ (p : Port) (s : State), s.portOk p.val = true →
    let down : Nat → State → Prop := fun link t => t.get .portLink p.val = link ∧
      (s.portUp p.val = true → (t.port p.val).info = none ∧ (t.port p.val).ideJob = none ∧ ∀ e ∈ (t.port p.val).streams, e.2.secure = false)
    (∀ i : LinkInfo, s.get .portProto p.val ≠ 2 → s.get .portLink p.val = 1 ∨ s.get .portLink p.val = 2 → s.restLink p.val = 1 →
      i.state = .l0 → s.linkOk p.val i = true →
      Leads (.linkUp p i) s (fun t => t.get .portLink p.val = 4 ∧ (t.port p.val).info = some (s.settled p.val i) ∧
        (t.port p.val).partnerFound = true ∧ (t.port p.val).upAt = s.ftb)) ∧
    (∀ i : LinkInfo, s.get .portProto p.val ≠ 2 → s.lit p.val = true →
      (i.state = .recovery → s.portUp p.val = true → Leads (.linkUp p i) s (fun t => t = s.put .portLink p.val 0 3)) ∧
      (i.state = .l1 → s.get .portLink p.val = 4 ∨ s.get .portLink p.val = 5 → Leads (.linkUp p i) s (fun t =>
        t.get .portLink p.val = 6 ∧ (t.port p.val).info = (s.port p.val).info)) ∧
      (i.state = .l1_1 → s.get .portLink p.val = 6 → s.clkreqLow p.val = false →
        (∀ x, (s.port p.val).info = some x → bitOf x.pcaps.toNat 4 = true) → (s.port p.val).info ≠ none →
        Leads (.linkUp p i) s (fun t => t = s.put .portLink p.val 0 7)) ∧
      (i.state = .l0 → 5 ≤ s.get .portLink p.val → s.get .portLink p.val ≤ 8 →
        Leads (.linkUp p i) s (fun t => t = s.put .portLink p.val 0 4))) ∧
    Leads (.linkDown p .disabled) s (down 11) ∧
    Leads (.linkDown p .hotReset) s (fun t => down 10 t ∧ (t.port p.val).hotResetUntil = s.ftb + 1) ∧
    Leads (.linkDown p .security) s (down 15) ∧
    (s.get .portProto p.val = 2 → Leads (.linkDown p .protocolError) s (down 14)) ∧
    (s.portUp p.val = true → Leads (.linkDown p .lost) s (fun t => t.portUp p.val = false ∧ (t.port p.val).info = none)) ∧
    (s.get .portProto p.val ≠ 2 → s.get .portLink p.val ≠ 12 →
      Leads (.linkDown p .replayError) s (fun t => down 12 t ∧ (t.port p.val).contained.replay = some (s.ftb + 100000000))) ∧
    (∀ (v : Vcs) (b : VppbNo), s.get .vppbPort v.val b.val = p.val → s.get .vppbKind v.val b.val ≠ 0 →
      (s.vppb v.val b.val).dpcEnabled = true → s.get .portLink p.val ≠ 12 →
      Leads (.linkDown p (.dpc v b)) s (fun t => down 12 t ∧ vppbKey v.val b.val ∈ (t.port p.val).contained.dpc ∧
        (t.vppb v.val b.val).dpcStatus = true)) ∧
    ((s.port p.val).hotResetUntil ≠ 0 → (s.port p.val).hotResetUntil ≤ s.ftb → s.get .portLink p.val = 10 → s.mayTrain p.val = true →
      (s.port p.val).contained.any = false → (s.port p.val).ctlDisabled = false →
      Leads (.hotResetEnd p) s (fun t => t.get .portLink p.val = 1 ∧ (t.port p.val).hotResetUntil = 0)) ∧
    ((s.port p.val).flushing = true → s.portHeld p.val = false →
      Leads (.portFlushDone p) s (fun t => t = s.modPort p.val (fun x => { x with flushing := false }))) ∧
    (∀ n, (s.port p.val).contained.replay = some n → n ≤ s.ftb →
      Leads (.replayContainmentTimeout p) s (fun t => (t.port p.val).contained = { (s.port p.val).contained with replay := none } ∧
        ((t.port p.val).contained.any = false → s.get .portLink p.val = 12 → t.get .portLink p.val ≠ 12)))

/-- What a flit of a standard link brings (R87, R197, R302, R459, R598): a bad flit and a replay are correctable errors of the
vPPBs or the USP; DevLoad is kept; a completion or a response that nothing waits for, and an MCTP message beside the management
port, are discarded and counted. Power controllers and DPC of a vPPB, and IDE of standard links (R306, R308, R556 to R558,
R595). -/
def Obligations.FlitsAndVppbs : Prop :=
  (∀ (p : Port) (s : State), s.portUp p.val = true → s.get .portProto p.val ≠ 2 →
     Leads (.flitReceive p .good) s (fun t => t = s) ∧
     (∀ v, s.uspOf p.val = some v →
       Leads (.flitReceive p .bad) s (fun t => (t.vcs v).uspCorrectable = (s.vcs v).uspCorrectable ||| 1) ∧
       ∀ n, Leads (.flitReceive p (.replayed n)) s (fun t => (t.vcs v).uspCorrectable = (s.vcs v).uspCorrectable ||| 2 ^ 12)) ∧
     (∀ l : Fin 4, Leads (.flitReceive p (.devLoad l)) s (fun t => t.get .portDevload p.val = l.val)) ∧
     (∀ m, s.mgmtPort ≠ some p.val → Leads (.flitReceive p (.mctpVdm m)) s (fun t => t = { s with sec := { s.sec with
       discarded := s.sec.discarded + 1 } })) ∧
     (∀ tag, (∀ o ∈ (s.port p.val).opens, o.tag ≠ tag) →
       Leads (.flitReceive p (.lateCompletion tag)) s (fun t => t = s.countLost)) ∧
     (∀ ld, s.vppbBelow p.val ld.toNat = none → Leads (.flitReceive p (.ldResponse ld)) s (fun t => t = s.countLost))) ∧
  (∀ (s : State),
     (∀ (v : Vcs) (b : VppbNo),
       let hp := s.get .vppbHp v.val b.val
       s.get .vppbKind v.val b.val ≠ 0 →
       (hp = 3 ∨ hp = 6 → Leads (.powerControllerOff v b) s (fun t => t.get .vppbHp v.val b.val = 2 ∧
         (t.vppb v.val b.val).powerOff = true ∧ t.sent (.hotPlug v.val b.val))) ∧
       (hp = 4 → Leads (.powerControllerOff v b) s (fun t => t.get .vppbHp v.val b.val = 0 ∧ t.get .vppbKind v.val b.val = 0)) ∧
       (hp = 2 → Leads (.powerControllerOn v b) s (fun t => t.get .vppbHp v.val b.val = 3 ∧
         (t.vppb v.val b.val).powerOff = false ∧ (t.vppb v.val b.val).linkActive = true ∧ t.sent (.hotPlug v.val b.val)))) ∧
     (∀ (v : Vcs) (b : VppbNo), Leads (.dpcTriggerClear v b) s (fun t => (t.vppb v.val b.val).dpcStatus = false ∧
       (t.vppb v.val b.val).dpcReason = 0 ∧ vppbKey v.val b.val ∉ (t.port (s.get .vppbPort v.val b.val)).contained.dpc)) ∧
     (∀ (p : Port) (id ev i : Nat) (secure : Bool), (s.port p.val).ideJob = some (1, id, ev) →
       (s.port p.val).slotFor .link id = some i →
       let now := secure && s.ideOffered
       ((s.port p.val).cachemem = false → Leads (.ideKmDone p secure) s (fun t => Tab.get {} (t.port p.val).streams i =
         { id := id, kind := .link, keys := 0, secure := now, restore := false })) ∧
       (∀ j, (s.port p.val).cachemem = true → ((s.port p.val).streamEnds .link id now).slotFor .cachememContainment id = some j →
         Leads (.ideKmDone p secure) s (fun t => Tab.get {} (t.port p.val).streams j =
           { id := id, kind := .cachememContainment, keys := 0, secure := now, restore := false }))) ∧
     (∀ (p : Port) (st : Fin 8), (Tab.get ({} : IdeStream) (s.port p.val).streams st.val).secure = true →
       (s.port p.val).role = .downstream → (s.port p.val).ideJob = none →
       Leads (.invocationCounterLimit p st) s (fun t => t = s.modPort p.val (fun x =>
         { x with ideJob := some (2, (Tab.get ({} : IdeStream) x.streams st.val).id, 0x2000) }))) ∧
     (∀ (v : Vcs) (st : Fin 8) (p : Nat), s.uspPort v.val = some p → s.portUp p = true → (s.port p).role = .upstream →
       let x := Tab.get ({} : IdeStream) (s.port p).streams st.val
       let holds : IdeStream → Nat → State → Prop := fun y m t => Tab.get {} (t.port p).streams st.val = y ∧ t.sent (.ideMessage p m)
       Leads (.ideKmRequest v st .query) s (holds x 0) ∧
       (∀ kind, Leads (.ideKmRequest v st (.keyProg kind)) s (holds { x with id := st.val, kind := kind, keys := x.keys + 1 } 1)) ∧
       (0 < x.keys → s.ideOffered = true → Leads (.ideKmRequest v st .keySetGo) s (holds { x with secure := true } 2)) ∧
       Leads (.ideKmRequest v st .keySetStop) s (holds { x with secure := false, keys := 0 } 3)))

/-- Lanes of a station (R141, R170, R177, R178): a remap gives the ports that appear or vanish their after-reset state and
leaves the others; margining suspends a scan; a scan ends with its grid in T0 pool memory; a checker locks. -/
def Obligations.LaneEvents : Prop :=
  ∀ (st : Station) (s : State),
    (∀ old, (s.station st.val).remapFrom = some old → Tab.wf s.ports = true →
      Leads (.laneRemap st) s (fun t => (t.station st.val).remapFrom = none ∧
        ∀ p, t.port p = if (p = 2 * st.val ∨ p = 2 * st.val + 1) ∧
          (bifurcPorts st.val (s.get .stationBifurc st.val)).contains p ≠ (bifurcPorts st.val old).contains p then {} else s.port p)) ∧
    ∀ ln : LaneOf,
      let k := 8 * st.val + ln.val
      let l := s.lane k
      (l.margining = false → s.canMargin k = true → Leads (.laneMargining st ln) s (fun t => t = s.modLane k (fun _ =>
        { l with margining := true, scan := l.scan.map (fun e => { e with suspends := e.suspends + 1 }) }))) ∧
      Leads (.marginingEnd st ln) s (fun t => t = s.modLane k (fun x => { x with margining := false })) ∧
      (∀ (e : EyeScan) (early : Bool) (errors : List Nat), l.scan = some e → (l.margining = true → early = true) →
        early = e.lost.isSome → Memory.wf s.pool = true →
        let r := e.result st.val ln.val e.rate (e.lost.getD s.ftb) early errors
        Leads (.eyeScanEnd st ln early errors) s (fun t => (t.lane k).scan = none ∧ memBytes t.pool e.addr r.length = r ∧
          ∀ a, a < e.addr ∨ e.addr + r.length ≤ a → memByte t.pool a = memByte s.pool a)) ∧
      (∀ b : Bool, l.test.active = true → (s.station st.val).sidingState = .awake →
        Leads (.prbsCheckerLock st ln b) s (fun t => (t.lane k).test.lock = b ∧ (t.lane k).test.lockedAt = s.ftb))

/-- A Trunk link trains (R199 to R206, R229): Detect, the Hello handshake, the rates one after the other, Active and recovery; a device
in RETIRED has no keys, and its port goes to LINK 15 (R563). That one Hello answers each Hello received is the model's reading (log
entry 67). -/
def Obligations.TrunkTraining : Prop :=
  ∀ (p : Port) (s : State),
    let x := (s.port p.val).trunk
    (s.trunkAt p.val .detect = true → s.get .portLink p.val = 1 → s.restLink p.val = 1 →
      Leads (.detectRetry p true) s (fun t => t.get .portLink p.val = 2 ∧ t.trunkAt p.val .hello = true ∧
        (t.port p.val).partnerFound = true ∧
        ∃ l, t.sent (.helloSent p.val l) ∧ l.length = (s.portLanes p.val).2 ∧ ∀ b ∈ l, b.length = 32)) ∧
    (s.trunkAt p.val .hello = true → s.get .portLink p.val = 2 → ∀ (h : Hello) (lanes : Nat) (back : Bool),
      (h.crcGood = false → Leads (.hello p h lanes back) s (fun t => t = s)) ∧
      (h.crcGood = true → h.fdi.toNat = s.otp.fdi → h.portnum.toNat = p.val →
        Leads (.hello p h lanes back) s (fun t => t.get .portLink p.val = 14)) ∧
      (h.crcGood = true → (h.fdi.toNat ≠ s.otp.fdi ∨ h.portnum.toNat ≠ p.val) → h.peerFdi.toNat = s.otp.fdi →
        (∃ l, x.hello.last = some l ∧ l.same h = true) →
        (x.hello.sent < 15 → Leads (.hello p h lanes back) s (fun t => (t.port p.val).trunk.hello.good = x.hello.good + 1 ∧
          ∃ l, t.sent (.helloSent p.val l) ∧ l.length = (s.portLanes p.val).2 ∧ ∀ b ∈ l, b.length = 32)) ∧
        (∀ level, x.hello.sent = 15 → 7 ≤ x.hello.good → s.offeredRate p.val ≠ 0xFF → h.rate ≠ 0xFF →
          commonLevel s.boot.image.trunk s.boot.image.trunkMin h.trunk.toNat h.trunkMin.toNat = some level →
          Leads (.hello p h lanes back) s (fun t => t.trunkAt p.val .equalise = true ∧ (t.port p.val).trunk.level = level ∧
            (t.port p.val).trunk.rate = 4 ∧ (t.port p.val).trunk.hello.rate = min (s.offeredRate p.val) h.rate.toNat ∧
            (t.port p.val).trunk.initiator =
              (decide (s.otp.fdi < h.fdi.toNat) || (s.otp.fdi == h.fdi.toNat && decide (p.val < h.portnum.toNat))))))) ∧
    (s.trunkAt p.val .hello = true ∨ s.trunkAt p.val .equalise = true → s.get .portLink p.val = 2 → x.since + 24000000 ≤ s.ftb →
      Leads (.trunkStageTimeout p) s (fun t => t.portUp p.val = false ∧ (t.port p.val).trunk.failures = x.failures + 1)) ∧
    (s.trunkAt p.val .equalise = true → s.get .portLink p.val = 2 → ∀ e : Equalised, e.port = p →
      (x.rate < x.hello.rate → Leads (.trunkEqualisationDone e) s (fun t => (t.port p.val).trunk.rate = x.rate + 1 ∧
        t.trunkAt p.val .equalise = true)) ∧
      (x.hello.rate ≤ x.rate → s.sec.lifecycle ≠ 3 → Leads (.trunkEqualisationDone e) s (fun t => t.get .portLink p.val = 4 ∧
        t.trunkAt p.val .active = true ∧ (t.port p.val).trunk.failures = 0 ∧ (t.port p.val).trunk.nextSeq = 0)) ∧
      (x.hello.rate ≤ x.rate → s.sec.lifecycle = 3 → Leads (.trunkEqualisationDone e) s (fun t => t.get .portLink p.val = 15))) ∧
    (s.trunkAt p.val .active = true → ∀ (ln : Fin 16) (b : List Byte) (inv : Bool), ln.val < (s.portLanes p.val).2 →
      (s.port p.val).ctl.markerOk ln.val x.width b = true → fieldAt b 10 2 ≠ 0xFFFF →
      Leads (.alignmentMarker p ln b inv) s (fun t => (t.lane ((s.portLanes p.val).1 + ln.val)).inverted = inv ∧
        Tab.get 0 (t.port p.val).ctl.markerGood ln.val = Tab.get 0 (s.port p.val).ctl.markerGood ln.val + 1)) ∧
    (s.trunkAt p.val .active = true → ∀ b,
      Leads (.trunkRecovery p b) s (fun t => t.get .portLink p.val = 3 ∧ t.trunkAt p.val .recovery = true)) ∧
    (s.trunkAt p.val .recovery = true → x.since + (s.port p.val).ctl.recoveryLimit ≤ s.ftb →
      Leads (.trunkRecoveryTimeout p) s (fun t => t.portUp p.val = false))

/-- Flits of a Trunk link (R207 to R210, R216, R224 to R226, R229, R234, R240, R241): a flit that arrives as its 256 bytes were sent
is good and reads back whole; an idle transmitter sends an IDLE flit and spends no sequence number; after recovery IDLE flits come
first; a replay goes out as it was; an agreement to park ends with an IDLE flit and LINK 9; a flit in sequence moves the expected
number on and releases its messages, and a bad one asks for a replay; what an arrived TYPE 0x07 message does. -/
def Obligations.TrunkFlits : Prop :=
  (∀ f : TrunkFlit, f.payload.length = 234 → (flitBytes f).length = 256 ∧ fecDecode (flitBytes f) = flitBytes f ∧
     flitGood (flitBytes f) = true ∧ flitOf (flitBytes f) = f) ∧
  ∀ (p : Port) (s : State), s.trunkAt p.val .active = true →
    let x := (s.port p.val).trunk
    let c := (s.port p.val).ctl
    (x.bypass = [] → x.replaying = [] → c.ide = false → c.idleLeft = 0 →
      Leads (.flitBoundary p) s (fun t => (t.port p.val).trunk.nextSeq = x.nextSeq ∧ (t.port p.val).trunk.replay = x.replay ∧
        (∃ f, t.sent (.flit p.val f) ∧ f.type = 0 ∧ f.ack = BitVec.ofNat 12 (x.expect + 4095)) ∧
        (c.parkAgreed = true → c.epochFlits = 0 → x.replay = [] → t.get .portLink p.val = 9 ∧ t.trunkAt p.val .parked = true))) ∧
    (∀ n, c.idleLeft = n + 1 →
      Leads (.flitBoundary p) s (fun t => (t.port p.val).trunk.nextSeq = x.nextSeq ∧ (t.port p.val).ctl.idleLeft = n ∧
        ∃ f, t.sent (.flit p.val f) ∧ f.type = 0)) ∧
    (∀ e rest, x.replaying = e :: rest → c.ide = false → c.idleLeft = 0 →
      Leads (.flitBoundary p) s (fun t => (t.port p.val).trunk.replaying = rest ∧
        ∃ f, t.sent (.flit p.val f) ∧ f.seq = BitVec.ofNat 12 e.seq ∧ f.type = BitVec.ofNat 4 e.type ∧ f.payload = e.payload)) ∧
    (∀ b crc fec : List Byte, flitGood (fecDecode (b ++ crc ++ fec)) = false → x.lastNak = none → x.nakLeft = 0 →
      Leads (.trunkFlitReceive p b crc fec) s (fun t => (t.port p.val).trunk.nakLeft = 4 ∧ (t.port p.val).trunk.expect = x.expect)) ∧
    (∀ b crc fec : List Byte,
      let arrived := fecDecode (b ++ crc ++ fec)
      let f := flitOf arrived
      flitGood arrived = true → f.type = 2 → f.cvc = 15 → f.nak = false → f.seq.toNat = x.expect → x.replay = [] → c.ide = false →
      Leads (.trunkFlitReceive p b crc fec) s (fun t => (t.port p.val).trunk.expect = (x.expect + 1) % 4096 ∧
        (t.port p.val).trunk.lastNak = none ∧ (t.port p.val).ctl.arrived = c.arrived ++
          (readBypass 7 (min (fieldAt f.payload 0 1) 7) (f.payload.drop 10)).filter (fun m => 1 ≤ m.1 && m.1 ≤ 7))) ∧
    (∀ n, x.replayTimer = some n → n ≤ s.ftb → x.replay ≠ [] → x.replays < 3 →
      Leads (.replayTimer p) s (fun t => (t.port p.val).trunk.replaying = x.replay ∧ (t.port p.val).trunk.replays = x.replays + 1)) ∧
    (c.ide = true → x.initiator = true → c.keyUpdating = false →
      Leads (.spdmKeyUpdate p) s (fun t => (t.port p.val).ctl.keyUpdating = true ∧ (t.port p.val).ctl.derived = c.derived + 1 ∧
        PeerSent t p.val 0x07)) ∧
    (∀ s1, s.takes p.val 0x07 [] s1 →
      Leads (.mctpBypass p (.keyed true)) s (fun t => (t.port p.val).ctl.ide = true ∧ (t.port p.val).ctl.epochTx = 1 ∧
        (t.port p.val).ctl.epochRx = 1) ∧
      Leads (.mctpBypass p (.keyed false)) s (fun t => t.get .portLink p.val = 15) ∧
      (c.ide = true → x.initiator = false →
        Leads (.mctpBypass p .keyUpdate) s (fun t => (t.port p.val).ctl.keyUpdating = true)) ∧
      (∀ b, Leads (.mctpBypass p (.spdm b)) s (fun t => t = s1)) ∧
      (∀ b, Leads (.mctpBypass p (.order b)) s (fun t => t = { s1 with sec := { s1.sec with discarded := s1.sec.discarded + 1 } })))

/-- Control messages of a Trunk link (R135, R231 to R235, R454): a change of width or rate, and a request that joins one queued or that
crossed one done; the level two ends agree, the time stamps, and parking by agreement. When a change begins, the choice of S, how
requests to park cross and which requests have crossed are the model's reading (log entries 69 to 71). -/
def Obligations.TrunkControl : Prop :=
  ∀ (p : Port) (s : State),
    let x := s.port p.val
    (s.trunkAt p.val .active = true →
      (∀ (w r : Byte) (s1 : State), s.changeOk p.val (w.toNat, r.toNat) = true →
        (x.trunk.initiator = true → s.takes p.val 0x03 [w, r] s1 → x.ctl.servedAfter = none →
          let asked := leastOf (s.ownWish p.val) (w.toNat, r.toNat)
          (x.ctl.goAt = none →
            Leads (.changeReq p w r) s (fun t => PeerSent t p.val 0x04 ∧
              (t.port p.val).ctl.changeSent = some (match x.ctl.changeSent with | some g => leastOf g asked | none => asked))) ∧
          (∀ n, x.ctl.goAt = some n → s.ftb ≤ n + 100000 → x.trunk.width ≤ w.toNat → x.trunk.rate ≤ r.toNat →
            Leads (.changeReq p w r) s (fun t => (t.port p.val).trunk.bypass = x.trunk.bypass ∧
              (t.port p.val).ctl.changeSent = x.ctl.changeSent))) ∧
        (x.trunk.initiator = false → s.takes p.val 0x04 [w, r] s1 →
          Leads (.changeGo p w r) s (fun t => t.get .portLink p.val = 3 ∧ t.trunkAt p.val .recovery = true ∧
            (t.port p.val).trunk.width = w.toNat ∧ (t.port p.val).trunk.rate = r.toNat))) ∧
      (∀ (a b r : Byte) (n : BitVec 16) (s1 : State), s.takes p.val 0x02 ([a, b, r, 0] ++ toLE 2 n.toNat) s1 →
        let level := commonLevel s.boot.image.trunk s.boot.image.trunkMin a.toNat b.toNat
        (level = none → Leads (.levelMessage p a b r n) s (fun t => t.get .portLink p.val = 13)) ∧
        (∀ l, level = some l → x.trunk.initiator = true →
          Leads (.levelMessage p a b r n) s (fun t => PeerSent t p.val 0x02 ∧ ∃ k, k < 4096 ∧ (t.port p.val).ctl.levelAgreed = some (l, k))) ∧
        (∀ l, level = some l → x.trunk.initiator = false → r ≠ 0 →
          Leads (.levelMessage p a b r n) s (fun t => (t.port p.val).ctl.levelAgreed = some (r.toNat, n.toNat % 4096))) ∧
        (∀ l, level = some l → x.trunk.initiator = false → r = 0 →
          Leads (.levelMessage p a b r n) s (fun t => PeerSent t p.val 0x02))) ∧
      (∀ (a b c : BitVec 64) (s1 : State), s.takes p.val 0x01 (toLE 8 a.toNat ++ toLE 8 b.toNat ++ toLE 8 c.toNat) s1 →
        (s.get .deviceFtbSrc 0 = 2 → s.get .deviceFtbPort 0 ≠ p.val) →
        Leads (.timeMessage p a b c) s (fun t => t = s1.modCtl p.val (fun c =>
          { c with peerTx := some a.toNat, peerRxAt := some s.ftb }))) ∧
      (∀ s1, s.takes p.val 0x05 [] s1 →
        ((x.ctl.parkAsked = true → x.trunk.initiator = false) →
          Leads (.parkReq p) s (fun t => PeerSent t p.val 0x06 ∧ (t.port p.val).ctl.parkAsked = false ∧
            (t.port p.val).ctl.parkAgreed = (x.ctl.parkAgreed || s.quiet p.val))) ∧
        (x.ctl.parkAsked = true → x.trunk.initiator = true → Leads (.parkReq p) s (fun t => t = s1))) ∧
      (∀ s1, s.takes p.val 0x06 [1] s1 →
        Leads (.parkAck p true) s (fun t => t = s1.modCtl p.val (fun c => { c with parkAgreed := true, parkAsked := false }))) ∧
      (∀ s1, s.takes p.val 0x06 [0] s1 →
        Leads (.parkAck p false) s (fun t => t = s1.modCtl p.val (fun c => { c with parkAsked := false, parkRetry := s.ftb + 100000 })))) ∧
    (s.trunkAt p.val .parked = true → s.get .portLink p.val = 9 →
      (∀ n ∈ s.portStations p.val, (s.station n).sidingState = .awake) →
      Leads (.parkExit p) s (fun t => t.get .portLink p.val = 3 ∧ t.trunkAt p.val .recovery = true))

/-- Frames in the core (R244, R250 to R252, R255, R270, R277, R278, R395, R424, R429, R590): a round, the credit allowance, admission
and refusal, and the sending of a port; a poisoned frame that its port or format cannot carry is discarded. That a command brings a
frame, the allowance under a sag, the formats that carry poison and the reset of a stuck station are the model's reading (log entries
46, 51, 81, 82 and 149). -/
def Obligations.FrameFlow : Prop :=
  ∀ (s : State),
    (s.sw.running = true → Leads .roundBoundary s (fun t => t.sw.rounds = s.sw.rounds + 1)) ∧
    (∀ n : Station, s.stationIn n.val = true →
      Leads (.participantStuck (.station n)) s (fun t => (t.station n.val).dark = true ∧ (t.station n.val).resetting = true)) ∧
    (∀ j : Fin 64, s.sidingIn j.val = true → s.power.fatalAt = none →
      Leads (.participantStuck (.siding j)) s (fun t => t.power.fatalAt = some (s.ftb + 1000000))) ∧
    (s.ftb % 1024 = 0 → s.sw.windowAt ≠ s.ftb →
      let m := s.sw.rounds - s.sw.windowRounds
      Leads (.rateWindow s.ftb) s (fun t => ∀ n, n < s.stationCount → (t.station n).allowance =
        allowanceFor (if s.sw.sagThrottle || s.sw.windowSags then min 819 m else m) ((List.range 64).filter s.sidingIn).length)) ∧
    (∀ f : FrameIn, f.wellFormed = true → s.sw.running = true → s.portOk f.port.val = true → s.portUp f.port.val = true →
      s.stationIn (portStation f.port.val) = true → s.errors.badObjects = [] → s.get .portProto f.port.val ≠ 2 →
      (f.good = false → f.len ≤ 128 → Leads (.frameAdmit f) s (fun t => t.sw.lostFrames = s.sw.lostFrames + 1 ∧
        t.sw.frames = s.sw.frames ∧ t.outbox = s.outbox)) ∧
      (f.good = true → f.kind = .ioRead → Tab.find s.junction.far f.tag = none → s.requesterTenant f < 4096 →
        ∀ reason rule, s.check f (s.requesterTenant f) = .refused reason rule →
        Leads (.frameAdmit f) s (fun t => t.sent (.answer f.port.val f.tag ansUR false) ∧ t.sw.frames = s.sw.frames ∧
          ((s.window (s.requesterTenant f)).violCount + 1 < 2 ^ 48 →
            (t.window (s.requesterTenant f)).violCount = (s.window (s.requesterTenant f)).violCount + 1))) ∧
      (∀ q vppb, f.good = true → f.whole = true → f.kind = .message →
        s.routeRequest f.port.val (f.pbr.map (fun x => x.2.toNat)) f.ldid.toNat f.kind f.addr = .to q vppb → s.portUp q = true →
        (∀ m, m < 16 → s.get .mirrorDir m = 0) → (∀ e ∈ s.sw.frames, e.1 < s.sw.nextFrame) →
        let g : FrameIn := { f with unit := none, made := false }
        let fr : Frame := { s.mkFrame g f.len (s.frameClass f) 3 1 0 q false false false with
          toLd := s.ldOf vppb, fabric := s.edgeHeader f.port.val f.kind f.addr }
        s.classUsed f.port.val fr.cls + fr.wagons ≤ classFloor →
        Leads (.frameAdmit f) s (fun t => t.sw.nextFrame = s.sw.nextFrame + 1 ∧
          (s.sw.nextFrame, { fr with acct := 0 }) ∈ t.sw.frames))) ∧
    (∀ p : Port, 0 < (s.port p.val).loanBlocks → blocksFor (s.loanUsed p.val) < (s.port p.val).loanBlocks →
      (s.port p.val).loanIdle.getD ((s.port p.val).loanBlocks - 1) s.ftb + 10000 ≤ s.ftb →
      let s1 := s.modPort p.val (fun x => { x with loanBlocks := x.loanBlocks - 1, loanIdle := x.loanIdle.take (x.loanBlocks - 1) })
      (∀ q ∈ s1.livePorts, 2048 ≤ s1.freeBacking q) → Leads (.loanReturn p) s (fun t => t = s1)) ∧
    (∀ (p : Port) (cl : Sys2Proof.Class) (n : Nat) (rest : List Nat) (f : Frame), Tab.get [] s.sw.adm (p.val * 8 + cl.val) = n :: rest →
      s.frame n = some f → s.tRate f.tenant = 0 →
      Leads (.admissionRelease p cl) s (fun t => Tab.get [] t.sw.adm (p.val * 8 + cl.val) = rest ∧
        (f.pin = false → n ∈ Tab.get [] t.sw.spray (portStation f.inp.port.val)))) ∧
    (∀ p : Port, s.get .portProto p.val ≠ 2 → s.get .portLink p.val = 4 ∨ s.get .portLink p.val = 5 → (s.port p.val).sending = none →
      (∀ tick m rest, Tab.get [] s.sw.bypass p.val = (tick, m) :: rest → (s.port p.val).bypassRun < 4 →
        s.replayRoom p.val (64 * m.wagons) = true →
        Leads (.frameStart p) s (fun t => t.outbox = s.outbox ++ [m] ∧ Tab.get [] t.sw.bypass p.val = rest ∧
          (t.port p.val).sending.isSome = true)) ∧
      (∀ s1 c n overrun f, s.choose p.val = (s1, .frame c n overrun) → s1.frame n = some f → n ∉ s.errors.badGranary →
        (f.poison = false ∨ s.carriesPoison p.val f = true →
          Leads (.frameStart p) s (fun t => (t.port p.val).sending = some n ∧ n ∉ Tab.get [] t.sw.outQ (p.val * 16 + c))) ∧
        (f.poison = true → s.carriesPoison p.val f = false →
          Leads (.frameStart p) s (fun t => t.frame n = none ∧ (t.port p.val).sending = none)))) ∧
    (∀ (p : Port) (n : Nat) (f : Frame), s.get .portProto p.val ≠ 2 → (s.port p.val).sending = some n → s.frame n = some f →
      Tab.wf s.sw.frames = true →
      Leads (.frameSent p) s (fun t => t.sent (.send p.val (s.leaving p.val f)) ∧ t.frame n = none ∧ (t.port p.val).sending = none))

/-- What a host does to its virtual switch (R291, R292, R298, R305, R370, R595, R599): it reads the epoch and the slot
registers, and writes bus ranges, windows, decoders, indicators, DPC control and AER. The bit places of the standards' registers
are the model's (log entry 77). -/
def Obligations.HostConfiguration : Prop :=
  ∀ (v : Vcs) (s : State) (usp : Nat), s.uspPort v.val = some usp →
    let does : ConfigRequest → (State → Prop) → Prop := fun r post => Leads (.configurationRequest v r) s post
    let vp : VppbNo → (VppbState → VppbState) → State → Prop := fun b f t => t = s.modVppb v.val b.val f
    does .readEpoch (fun t => t.sent (.configData v.val s.ledger.epoch)) ∧
    (∀ b, does (.readSlotCapabilities b) (fun t => t.sent (.configData v.val (s.slotCapabilities v.val b.val))) ∧
      does (.readSlotStatus b) (fun t => t.sent (.configData v.val (s.slotStatus v.val b.val))) ∧
      (∀ lo hi : Byte, does (.busRange b lo hi) (vp b (fun x => { x with secondary := lo.toNat, subordinate := hi.toNat }))) ∧
      (∀ base limit, does (.memoryWindow b base limit) (vp b (fun x => { x with memBase := base, memLimit := limit }))) ∧
      (∀ i j : Fin 4, does (.indicators b i j) (vp b (fun x => { x with attention := i.val, power := j.val }))) ∧
      does (.clearSlotChanges b) (vp b (fun x => { x with presenceChanged := false, linkChanged := false, attentionPressed := false })) ∧
      (∀ en comp, does (.dpcControl b en comp) (vp b (fun x => { x with dpcEnabled := en, dpcCompletion := comp }))) ∧
      ∀ m : BitVec 32, does (.aerMask b m) (vp b (fun x => { x with aerMask := m.toNat })) ∧
        does (.aerSeverity b m) (vp b (fun x => { x with aerSeverity := m.toNat })) ∧
        does (.aerClear b m) (vp b (fun x => { x with aerStatus := x.aerStatus &&& (0xFFFFFFFF - m.toNat) }))) ∧
    (∀ d fn, does (.readSlotStatusAt d fn) (fun t => t.sent (.configData v.val (s.slotStatus v.val (32 * fn.val + d.val))))) ∧
    (∀ b c, does (.readPortCapability b c) (fun t => t.sent (.configData v.val c.value))) ∧
    (∀ (i : Fin 32) base size g ts, hdmSupported g ts.length = true → does (.hdmDecoder i base size g ts) (fun t =>
      Tab.find (t.vcs v.val).hdm i.val = some { base := base, size := size, granularity := g, targets := ts.map (·.val) })) ∧
    (∀ (i : Fin 64) base size idt, does (.fastEntry i base size idt) (fun t => Tab.find (t.vcs v.val).fast i.val = some (base, size, idt))) ∧
    (∀ (i : Fin 64) d, does (.idtEntry i d) (fun t => Tab.find (t.vcs v.val).idt i.val = some d.toNat)) ∧
    (∀ (bus : Byte) (fn : BitVec 8) (w : Bool) (reg : BitVec 12) (d : BitVec 32),
      (∀ b p e, s.busTarget v.val bus.toNat = some b → s.routeVppb v.val b = .to p e → s.portUp p = true →
        does (.toBus bus fn w reg d) (fun t => t.sent (.configSent p w (fn.toNat * 4096 + reg.toNat) 0xF d.toNat))) ∧
      (s.busTarget v.val bus.toNat = none → Tab.find s.junction.far 0 = none →
        does (.toBus bus fn w reg d) (fun t => t.sent (.answer usp 0 ansUR false))))

/-- Wraps between two devices (R315, R318, R319): a request takes a far-side tag; an error code becomes the host's answer; a
mirror wrap and a late completion are discarded and counted; what stays open too long is answered. The service buses (R322 to
R325): transfers one after the other, a NACK, lost arbitration and its reissue, a read that takes too long, and the sampled
lines of a window. What the first sample of a window's lines is compared with is the model's reading (log entry 79). -/
def Obligations.JunctionRules : Prop :=
  (∀ (s : State),
     (∀ (p : Port) (w : Wrap) (b : List Byte) (s1 : State), s.get .portProto p.val = 2 → s.portUp p.val = true →
       s.takeArrived p.val 0 (fun b => bitsOf (fieldAt b 0 8) 13 4 == 13 && wrapIs w (fieldAt b 16 8)) = some (b, s1) →
       (w.jkind ≠ 1 → w.jkind ≠ 2 → Leads (.junctionWrapReceive p w) s (fun t =>
         t.junction = { s.junction with discarded := s.junction.discarded + 1 } ∧ t.outbox = s.outbox ∧ t.sw.frames = s.sw.frames)) ∧
       (w.jkind = 2 → Tab.find s.junction.near w.tag.val = none →
         Leads (.junctionWrapReceive p w) s (fun t => t.junction.discarded = s.junction.discarded + 1)) ∧
       (∀ r, w.jkind = 2 → Tab.find s.junction.near w.tag.val = some r → Tab.wf s.junction.near = true →
         Tab.find s.junction.far r.hostTag = none → w.err ≠ 0 →
         Leads (.junctionWrapReceive p w) s (fun t => Tab.find t.junction.near w.tag.val = none ∧
           t.sent (.answer r.host r.hostTag (if w.err = 1 then ansUR else ansCA) false))) ∧
       (∀ k q, w.jkind = 1 → w.write = false → (List.range 4096).find? (fun k => (Tab.find s.junction.far k).isNone) = some k →
         (∀ reason rule, s.check (wrapFrame p w k) 0 ≠ .refused reason rule) → s.memAny w.addr = some q →
         Leads (.junctionWrapReceive p w) s (fun t => Tab.find t.junction.far k =
           some { port := p.val, window := w.win.toNat, nearTag := w.tag.val, takenAt := s.ftb }))) ∧
     (∀ (p : Port) (w : Wrap), s.takeArrived p.val 0 (fun b => bitsOf (fieldAt b 0 8) 13 4 == 13 && wrapIs w (fieldAt b 16 8)) = none →
       Leads (.junctionWrapReceive p w) s (fun t => t = s)) ∧
     (∀ (tag : Tag) (r : FarRequest), Tab.find s.junction.far tag.val = some r → r.takenAt + 10000000 ≤ s.ftb →
       Tab.wf s.junction.far = true →
       Leads (.junctionFarTimeout tag) s (fun t => Tab.find t.junction.far tag.val = none)) ∧
     (∀ (tag : Tag) (r : NearRequest), Tab.find s.junction.near tag.val = some r → r.sentAt + 12000000 ≤ s.ftb →
       Tab.wf s.junction.near = true → Tab.find s.junction.far r.hostTag = none →
       Leads (.junctionNearTimeout tag) s (fun t => Tab.find t.junction.near tag.val = none ∧
         t.sent (.answer r.host r.hostTag ansCA false)))) ∧
  (∀ (w : WindowNo) (s : State),
     let line := Tab.get [] s.junction.bus w.val
     (∀ a rest reg n (bytes : List Byte), line = a :: rest → a.transfers = [(reg, n)] → a.lanes ≠ 2 →
       (a.write = false → bytes.length = n →
         Leads (.sbTransferEnd w false bytes) s (fun t => t.sent (.completion a.host a.hostTag .success (a.result ++ bytes)) ∧
           Tab.get [] t.junction.bus w.val = rest)) ∧
       (a.write = true → Leads (.sbTransferEnd w false bytes) s (fun t => Tab.get [] t.junction.bus w.val = rest)) ∧
       (a.write = false → Tab.find s.junction.far a.hostTag = none →
         Leads (.sbTransferEnd w true bytes) s (fun t => t.sent (.answer a.host a.hostTag ansCA false) ∧
           Tab.get [] t.junction.bus w.val = rest))) ∧
     (∀ a rest, line = a :: rest → a.yielded = false → a.reissues < 16 →
       Leads (.sbArbitrationLost w) s (fun t => Tab.get [] t.junction.bus w.val = { a with yielded := true } :: rest)) ∧
     (∀ a rest, line = a :: rest → a.yielded = true →
       Leads (.sbReissue w) s (fun t => Tab.get [] t.junction.bus w.val =
         { a with yielded := false, reissues := a.reissues + 1 } :: rest)) ∧
     (∀ a rest, line = a :: rest → a.write = false → a.takenAt + 100000000 ≤ s.ftb → Tab.find s.junction.far a.hostTag = none →
       Leads (.sbReadTimeout w) s (fun t => t.sent (.answer a.host a.hostTag ansCA false) ∧
         Tab.get [] t.junction.bus w.val = rest)) ∧
     (∀ low high : Bool,
       let r := s.get .windowRemote w.val
       let ev := bitsOf r 32 13
       s.get .windowKind w.val = 2 → bitOf r 22 = true → bitOf r 28 = false →
       Leads (.windowPoll w low high) s (fun t =>
         Tab.get 2 t.junction.alertSeen w.val = (if low then (if Tab.get 2 s.junction.alertSeen w.val = 0 then 1 else 2) else 0) ∧
         (low = true → Tab.get 2 s.junction.alertSeen w.val = 1 → s.eventLive ev (some (s.get .windowOwner w.val)) = true → ev < 8192 →
           t.get .eventPending ev = 1))))

/-- Shapers, timetables and queue samples (R431, R436, R438, R448, R459, R461). -/
def Obligations.ScheduleEvents : Prop :=
  ∀ (s : State),
    (s.ftb % 1000 = 0 → s.qos.refillAt ≠ s.ftb → Leads .shaperRefill s (fun t => ∀ k x, Tab.find s.qos.tshapers k = some x → s.get .tshaperRate k ≠ 0 →
      Tab.find t.qos.tshapers k = some { tokens := some (min (x.count (x.burst (s.get .tshaperBurst k)) + (s.get .tshaperRate k : Int))
        (s.get .tshaperBurst k : Int)) })) ∧
    (s.ftb % 1000 ≠ 0 → Leads .shaperRefill s (fun t => t = s)) ∧
    (∀ p : Port,
      (s.takeoverDue p.val = false → s.get .timetableLoaded p.val = 1 → (s.timetable p.val).entryEnd ≤ s.ftb →
        Leads (.timetableEntryBoundary p) s (fun t => (t.timetable p.val).entry =
          if (s.timetable p.val).entry + 1 < s.activeLength p.val then (s.timetable p.val).entry + 1 else 0)) ∧
      (s.takeoverDue p.val = true → Leads (.timetableTakeover p) s (fun t =>
        t.get .timetableActive p.val = 1 - s.get .timetableActive p.val ∧ t.get .timetableLoaded p.val = 1 ∧
        t.get .timetableArmed p.val = 0 ∧ (t.timetable p.val).entry = 0))) ∧
    (s.ftb % (s.get .deviceQsamplePer 0 * 1000) = 0 → Leads .queueSample s (fun t => ∀ p q, s.portOk p = true → p < 128 → q < 17 →
      t.get .queueDepth p q = saturate 21 (s.queueNow p q).1 ∧ t.get .queueStamp p q = s.ftb % 2 ^ 64)) ∧
    (s.ftb % 10000 = 0 → s.qos.devloadAt ≠ s.ftb → Leads .devloadWindow s (fun t => ∀ p, s.portOk p = true → p < 128 → (t.port p).dlCount = [] ∧
      t.get .portDlHist p = ((List.range 4).map (fun n => saturate 16 (Tab.get 0 (s.port p).dlCount n) * 2 ^ (16 * n))).sum)) ∧
    (∀ k r, (k, r) ∈ s.adaptations ↔ r ≠ s.get .tshaperRate k ∧ ∃ x n, (k, x) ∈ s.tenants ∧ x.adapt = true ∧
      s.loadLevel x.ports = some n ∧ r = adaptedRate n (s.get .tshaperRate k) x.ceiling x.floor) ∧
    (s.residentRuns = true → s.qos.adjustAt + 100000 ≤ s.ftb →
      let es := (s.adaptations.take 255).flatMap (fun x =>
        if s.get .tshaperApply x.1 = 0 then [putEntry .tshaperRate x.1 0 x.2]
        else [putEntry .tshaperApply x.1 0 0, putEntry .tshaperRate x.1 0 x.2])
      (es ≠ [] → s.lev.granted = none → s.holdFree = true → s.passes es →
        Leads .qosAdjust s (fun t => t = ((s.holdRounds es).applyEntries es id).modQos (fun q => { q with adjustAt := s.ftb }))) ∧
      (es = [] → Leads .qosAdjust s (fun t => t = s.modQos (fun q => { q with adjustAt := s.ftb }))))

/-- The Fabric Timebase (R453 to R455, R522) and the Wayside (R518 to R522): what a sync asks, holdover, the offset a source gives; a
frame that takes part, one that is dropped, one that meets a waiting frame of the device, and wires that are stuck. That a received
frame meets the waiting ones is the model's reading (log entry 153). -/
def Obligations.TimeAndWayside : Prop :=
  ∀ (s : State),
    (s.qos.syncAt + s.get .deviceSyncPer 0 * 1000 ≤ s.ftb → Leads .syncPeriod s (fun t =>
      (s.get .deviceFtbSrc 0 = 1 → s.portUp (s.get .deviceFtbPort 0) = true → t.sent (.ptmRequest (s.get .deviceFtbPort 0))) ∧
      (∀ q, q < 128 → s.portOk q = true → s.get .portProto q = 2 → s.get .portLink q = 4 → PeerSent t q 0x01) ∧
      (s.get .deviceWsMark 0 = 1 → s.straps.ws.val ≠ 31 → ∃ o ∈ t.power.waysideOut, o.dst = 31 ∧ o.type = 2) ∧
      t.qos.syncAt = s.ftb)) ∧
    ((s.get .deviceFtbSrc 0 ≠ 0 ∧ s.qos.lastMeasure + 8 * s.get .deviceSyncPer 0 * 1000 ≤ s.ftb) ∨
        (s.qos.refclkA = false ∧ s.qos.refclkB = false) →
      Leads .ftbHoldover s (fun t => t.get .deviceFtbState 0 = 3 ∧ t.qos.goodOffsets = 0)) ∧
    (∀ p : Port, s.portUp p.val = true → (s.port p.val).role = .downstream → s.get .portProto p.val ≠ 2 →
      Leads (.ptmRequest p) s (fun t => t.sent (.ptmReply p.val s.ftb))) ∧
    (∀ (p : Port) (m d : BitVec 64), s.get .deviceFtbSrc 0 = 1 → s.get .deviceFtbPort 0 = p.val → s.portUp p.val = true →
      (s.port p.val).role = .upstream → (m.toNat : Int) + d.toNat - s.ftb < 10000 →
      Leads (.ptmResponse p m d) s (fun t => t.get .deviceFtbOffset 0 = offsetField ((m.toNat : Int) + d.toNat - s.ftb) ∧
        t.qos.lastMeasure = s.ftb ∧ t.ftb = s.ftb)) ∧
    (∀ f : WaysideFrame, s.waysideMine f = true → s.power.waysideOut = [] →
      let dropped : State → Prop := fun t => t.power = { s.power with waysideDiscarded := s.power.waysideDiscarded + 1 }
      (waysideBad f = true → Leads (.waysideOrderFrame f) s dropped ∧ Leads (.waysideReply f) s dropped ∧
        Leads (.timeMark f) s dropped ∧ Leads (.waysideWake f) s dropped) ∧
      (waysideBad f = false →
        (f.type = 0 → s.power.waysideOrder = none →
          (s.asleep = true → Leads (.waysideOrderFrame f) s (fun t =>
            t.power.waysideOrder = some { src := f.src.toNat, arrived := s.ftb, frame := f.payload } ∧ t.ord = s.ord)) ∧
          (let o := frameOrder f.payload privBMC 0 2 (.wayside f.src.toNat)
           s.power.step = .run → s.admission o (frameOk f.payload 1024) = none → o.resets = none →
             Leads (.waysideOrderFrame f) s (fun t => Accepted s t o))) ∧
        (f.type = 1 → Leads (.waysideReply f) s (fun t => t.power.waysideReplies = s.power.waysideReplies ++ [(f.src.toNat, f.payload)])) ∧
        (f.type = 2 → f.payload.length = 8 → s.get .deviceFtbSrc 0 = 3 → (ofLE f.payload : Int) - s.ftb < 10000 →
          Leads (.timeMark f) s (fun t => t.get .deviceFtbOffset 0 = offsetField ((ofLE f.payload : Int) - s.ftb))) ∧
        (∀ k, f.type = 3 → f.len = 0 → s.power.step = .asleep k → s.power.ignoreWake = false →
          Leads (.waysideWake f) s (fun t => t.power.step = .wake k 0)))) ∧
    (∀ (f : WaysideFrame) (o : WaysideOut), s.waysideMine f = false → s.power.waysideOut = [o] →
      let wins := survives (s.ownSymbols o) (frameSymbols (frameBody f) f.crc.toNat)
      (wins = true → Leads (.waysideReply f) s (fun t => t.sent (.waysideFrame o.dst o.type (s.startPayload o)) ∧ t.power.waysideOut = [])) ∧
      (wins = false → Leads (.waysideReply f) s (fun t => t = s))) ∧
    Leads .waysideStuck s (fun t => t.power = { s.power with waysideOut := s.power.waysideOut.drop 1 })

/-- A slot's seating and power-up (R463, R470 to R476, R487, R488): SEATED and what it moves, the start of a slot that may
start, the ramp, ON with its pins, and the release of PERST. STATE during the debounce and the VIN that allows a start are the
model's reading (log entries 56 and 58). -/
def Obligations.SlotPowerUp : Prop :=
  ∀ (n : Slot) (s : State),
    let k := n.val
    let st := s.slotState k
    let mayStart := s.get .slotEnable k = 1 ∧ s.get .slotSeated k = 1 ∧ s.domainOn 10 = true ∧ (s.slot k).limitsDue = false ∧
      s.startFree k = true
    let lowVout := s.get .slotVin k = 0 ∨ s.get .slotVout k * 100 < s.get .slotVin k * 80
    let precharges : State → Prop := fun t => t.slotState k = slotPrecharge ∧ (t.slot k).pcDeadline = s.ftb + ms (s.get .slotPcTime k) ∧
      (t.slot k).pcgate = true ∧ (t.slot k).gate = false
    let ramps : State → Prop := fun t => t.slotState k = slotRamp ∧ (t.slot k).gate = true ∧
      (t.slot k).rampDeadline = s.ftb + ms (s.get .slotRampT k)
    (s.get .slotSeated k = 0 → Leads (.seatDebounce n) s (fun t => t.get .slotSeated k = 1 ∧ (t.slot k).absence = none ∧
      (st = slotEmpty → s.get .slotEnable k = 1 → t.slotState k = slotSeating) ∧ (st = slotAbsent → t.slotState k = slotRetryWait))) ∧
    (s.get .slotSeated k = 1 → Leads (.seatingLost n) s (fun t => t.get .slotSeated k = 0 ∧
      (st = slotOn → t.slotState k = slotDown ∧ t.get .slotCause k = 9 ∧ (t.slot k).leadEnd = s.ftb + us (s.get .slotPfwLead k)) ∧
      (st = slotPrecharge ∨ st = slotRamp → t.slotState k = slotAbsent ∧ t.get .slotCause k = 9 ∧ (t.slot k).gate = false) ∧
      (st = slotSeating → t.slotState k = slotEmpty))) ∧
    (s.waiting k = true → mayStart →
      ((s.slot k).vinBad = false → lowVout → Leads (.slotStart n) s precharges) ∧
      ((s.slot k).vinBad = true → Leads (.slotStart n) s (fun t => t.slotState k = slotInhibit))) ∧
    (st = slotInhibit → mayStart → lowVout → Leads (.vinInRange n) s precharges) ∧
    (st = slotPrecharge → s.domainOn 10 = true → ∀ a b : Option Nat,
      Leads (.prechargeComplete n a b) s ramps ∧ ((s.slot k).pcDeadline ≤ s.ftb → Leads (.prechargeTimeout n a b) s ramps)) ∧
    (st = slotRamp → Leads (.rampOn n) s (fun t => t.slotState k = slotOn ∧ (t.slot k).pgood = true ∧ (t.slot k).pfwN = true ∧
      (t.slot k).gate = true ∧ (t.slot k).perstAt = some (s.ftb + ms (s.get .slotPerstDly k)))) ∧
    (∀ d, (s.slot k).perstAt = some d → st = slotOn → d ≤ s.ftb →
      Leads (.perstRelease n) s (fun t => (t.slot k).perstAt = none ∧ (t.slot k).perstN = t.perstAllowed k)) ∧
    (st = slotRetryWait → s.domainOn 10 = true →
      ((s.slot k).tripLatched = false → (s.slot k).retryAt ≤ s.ftb →
        (s.fetCool k (s.get .slotTfet k) = false → Leads (.retryDelayExpiry n) s (fun t => (t.slot k).retryPassed = true ∧
          t.slotState k = slotRetryWait)) ∧
        (s.fetCool k (s.get .slotTfet k) = true → mayStart → (s.slot k).vinBad = false → lowVout →
          Leads (.retryDelayExpiry n) s precharges)) ∧
      (∀ tfet, (s.slot k).retryPassed = true → s.fetCool k tfet = true → mayStart → (s.slot k).vinBad = false → lowVout →
        Leads (.fetCooled n tfet) s precharges))

/-- A slot's electronic fuse (R475, R477, R479, R480, R482 to R485): a trip turns the gate off, counts, records its cause and
waits for a retry or locks the slot out; VIN outside its window warns or turns the gate off; a power-down ends. The hysteresis
of VIN is the model's reading (log entry 58). -/
def Obligations.SlotTrips : Prop :=
  ∀ (n : Slot) (s : State),
    let k := n.val
    let st := s.slotState k
    let trips := s.get .slotTrips k + 1
    let tripped : Nat → State → Prop := fun cause t => t.get .slotCause k = cause ∧ t.get .slotTrips k = saturate 4 trips ∧
      t.get .slotTripTotal k = saturate 32 (s.get .slotTripTotal k + 1) ∧ (t.slot k).gate = false ∧ (t.slot k).pgood = false ∧
      t.slotState k = if s.get .slotRetries k < trips then slotLockout else slotRetryWait
    (st = slotRamp → ((s.slot k).since + us (s.limitsOf k).shortT ≤ s.ftb → Leads (.rampShort n) s (tripped 4)) ∧
      ((s.slot k).rampDeadline ≤ s.ftb → Leads (.rampTimeout n) s (tripped 5))) ∧
    (st = slotOn →
      (∀ i, (s.limitsOf k).ilim < i → Leads (.circuitBreakerTrip n i) s (tripped 1)) ∧
      (∀ vin vout, vout * 100 < vin * 90 → Leads (.voutLowTrip n vin vout) s (tripped 6)) ∧
      Leads (.vinWarning n) s (fun t => (t.slot k).pfwN = false ∧ (t.slot k).vinWarned = true ∧ (t.slot k).vinBad = true ∧
        t.slotState k = slotOn) ∧
      ((s.slot k).vinWarned = true → Leads (.vinWarningClear n) s (fun t => (t.slot k).pfwN = true ∧ (t.slot k).vinWarned = false)) ∧
      Leads (.vinUndervoltage n) s (fun t => t.slotState k = slotInhibit ∧ t.get .slotCause k = 7 ∧ (t.slot k).gate = false ∧
        t.get .slotTrips k = s.get .slotTrips k) ∧
      Leads (.vinOvervoltage n) s (fun t => t.slotState k = slotInhibit ∧ t.get .slotCause k = 8 ∧ (t.slot k).gate = false) ∧
      ((s.slot k).since + ms 60000 ≤ s.ftb → Leads (.onTripsClear n) s (fun t => t.get .slotTrips k = 0))) ∧
    ((s.slot k).gate = true → st ≠ slotDown →
      (∀ i, s.fastTripLevel k < i → Leads (.fastTrip n i) s (tripped 2)) ∧
      (∀ tf, (s.limitsOf k).tempTrip < tf → Leads (.thermalTrip n tf) s (tripped 3))) ∧
    (st = slotDown → (s.slot k).leadEnd ≤ s.ftb →
      ((s.slot k).downCause = 10 → s.get .slotEnable k = 0 → Leads (.pfwLeadEnd n) s (fun t => t.slotState k = slotOff ∧
        t.get .slotTrips k = 0 ∧ (t.slot k).gate = false)) ∧
      ((s.slot k).downCause ≠ 10 → s.get .slotSeated k = 0 → Leads (.pfwLeadEnd n) s (fun t => t.slotState k = slotAbsent ∧
        (t.slot k).gate = false))) ∧
    (∀ d, (s.slot k).absence = some d → d ≤ s.ftb → Leads (.absenceExpiry n) s (fun t => t.get .slotTrips k = 0 ∧
      (t.slot k).absence = none ∧ (st = slotAbsent ∨ st = slotLockout → t.slotState k =
        if s.get .slotEnable k = 1 then slotEmpty else slotOff))) ∧
    Leads (.slotThresholdsReady n) s (fun t => (t.slot k).limits = none ∧ t.limitsOf k = s.committedLimits k) ∧
    (s.domainOn 10 = true → ∀ vin vout iout tfet : Nat,
      Leads (.slotSample n vin vout iout tfet) s (fun t => t.get .slotTfet k = saturate 8 tfet ∧
        t.get .slotEnergy k = (s.get .slotEnergy k + ((s.slot k).energyFrac + vout * iout * 10) / 1000000000) % 2 ^ 48))

/-- Siding state, power domains and quadrants (R28, R29, R182 to R187, R268, R285, R368, R369, R503, R504). -/
def Obligations.DomainsAndSidings : Prop :=
  ∀ (s : State),
    (∀ st : Station, s.stationGroup st.val = [st.val] →
      let n := st.val
      (s.groupMayEnter n = true → Leads (.sidingEntry st) s (fun t => (t.station n).sidingState = .entering)) ∧
      ((s.station n).sidingState = .entering → (s.station n).wakeLatched = false →
        Leads (.sidingEntryDone st) s (fun t => (t.station n).sidingState = .siding ∧ t.get .domainState (stationDomain n) = 2)) ∧
      ((s.station n).sidingState = .entering → (s.station n).wakeLatched = true →
        Leads (.sidingEntryDone st) s (fun t => (t.station n).sidingState = .exiting)) ∧
      (∀ p : Port, s.wakesStation n (.clkreq p) = true →
        ((s.station n).sidingState = .siding → Leads (.sidingWake st (.clkreq p)) s (fun t => (t.station n).sidingState = .exiting)) ∧
        ((s.station n).sidingState = .entering → Leads (.sidingWake st (.clkreq p)) s (fun t => (t.station n).wakeLatched = true))) ∧
      ((s.station n).sidingState = .exiting →
        Leads (.sidingExitReady st) s (fun t => (t.station n).sidingState = .awake ∧ t.get .domainState (stationDomain n) = 1)) ∧
      (n < s.stationCount → s.domainReq (stationDomain n) = 0 → s.domainOn (stationDomain n) = true → s.stationEmpty n = true →
        Leads (.stationDomainOff st) s (fun t => t.get .domainState (stationDomain n) = 0))) ∧
    (∀ d : Domain, (Tab.find s.power.powering d.val).isSome = true → s.awake = true → Tab.wf s.power.powering = true →
      (s.domainReq d.val ≠ 0 → Leads (.domainPowerUpDone d) s (fun t => t.get .domainState d.val = 1 ∧
        Tab.find t.power.powering d.val = none)) ∧
      (s.domainReq d.val = 0 → Leads (.domainPowerUpDone d) s (fun t => t.get .domainState d.val = s.get .domainState d.val ∧
        Tab.find t.power.powering d.val = none))) ∧
    (∀ q : Quadrant, q.val ∈ s.sw.gating → q.val ∈ s.sw.gated → s.quadrantHeld q.val = false →
      s.occupied ≤ Config.quadrantWagons * (s.quadrantsOn.length - 1) → s.loansTaken ≤ s.poolWith (s.quadrantsOn.length - 1) →
      Leads (.quadrantGateDrained q) s (fun t => t.get .domainState (quadrantDomain q.val) = 0 ∧ q.val ∉ t.sw.gating)) ∧
    (s.sw.remapping = true → s.pinnedHeld = false →
      Leads .pinnedRemap s (fun t => t.sw.gated = s.sw.remapTo ∧ t.sw.remapping = false)) ∧
    (∀ since q, s.awake = true → s.get .devicePstate 0 = 1 → s.sw.lowSince = some since → s.autoCandidate = some q →
      since + 100000 ≤ s.ftb → (∃ x ∈ s.quadrantsOn, x ≠ q ∧ x ∉ s.sw.gating) →
      Leads .quadrantAutoGate s (fun t => q ∈ t.sw.gating ∧ t.sw.lowSince = none ∧ t.sw.remapping = true)) ∧
    (∀ q, s.awake = true → s.get .devicePstate 0 = 1 → s.sw.loanFailed = true → s.autoGated = some q →
      Leads .quadrantAutoUngate s (fun t => t.sw.loanFailed = false ∧
        (s.domainOn (quadrantDomain q) = true → q ∉ t.sw.gating) ∧
        (s.get .domainState (quadrantDomain q) = 0 → Tab.find t.power.powering (quadrantDomain q) = some s.ftb))) ∧
    (s.coh.goingOff = true → s.anyTracked = false → s.coh.locks = [] → s.coh.suspended = [] → s.domainReq 3 = 0 →
      Leads .pd3Pd4Off s (fun t => t.get .domainState 3 = 0 ∧ t.coh.dir = [] ∧ t.coh.loft = []))

/-- Entry into STANDBY and WATCH and the way out (R499, R508 to R516): the steps of an entry in their order, the sources that
wake, the steps of a wake, and a wake that fails. The bank tried first at a WATCH exit, the orders kept across one and the count of
failed wakes are the model's reading (log entries 65, 111 and 158). -/
def Obligations.SleepAndWake : Prop :=
  ∀ (s : State),
    (∀ b, s.power.step = .entry b 1 →
      (s.orderRunning = true → exec .entryOrdersEnded s = .next s) ∧
      (s.orderRunning = false → s.entryEndsOrders.trackedTenants = [] →
        Leads .entryOrdersEnded s (fun t => t.power.step = .entry b 2 ∧ ∀ o ∈ t.ord.queue, o.endsAtEntry = false)) ∧
      (∀ tn rest, s.orderRunning = false → s.entryEndsOrders.trackedTenants = tn :: rest →
        Leads .entryOrdersEnded s (fun t => t.power.step = .run ∧ t.ord.noStart = false))) ∧
    (∀ b, s.power.step = .entry b 2 →
      (s.requestsOpen = true → s.ftb < s.power.entryAt + 1000000 → exec .entryLinksDown s = .next s) ∧
      (s.requestsOpen = false ∨ s.power.entryAt + 1000000 ≤ s.ftb → Leads .entryLinksDown s (fun t => t.power.step = .entry b 3 ∧
        ∀ p, p < 128 → t.portOk p = true → t.portUp p = false))) ∧
    ((∀ e ∈ s.ports, e.2.flushing = false) →
      (s.power.step = .entry 2 3 → s.power.wakeLatched = false →
        Leads .entryDomainsOff s (fun t => t.power.step = .asleep 2 ∧ t.sw.running = false ∧ t.sw.rounds = s.sw.rounds ∧
          (∀ d ∈ standbyOff, t.get .domainState d = 0) ∧ t.coh.dir = [] ∧ t.coh.loft = [])) ∧
      (s.power.step = .entry 3 3 → Leads .entryDomainsOff s (fun t => t.power.step = .entry 3 5))) ∧
    (s.power.step = .entry 3 5 → Leads .entryRailsOff s (fun t =>
      t.power.step = (if s.power.wakeLatched then .wake 3 0 else .asleep 3) ∧
      t.power.vrEn = (if s.power.wakeLatched then [0, 1] else []) ∧ t.get .domainState 1 = 0)) ∧
    (∀ k, s.power.step = .asleep k → s.power.ignoreWake = false →
      (∀ src : Fin 8, s.wakeEnabled src.val = true → src.val ≠ 7 →
        Leads (.wake src) s (fun t => t.power.step = .wake k 0 ∧ (3 ≤ k → t.power.vrEn = [0, 1]) ∧
          t.get .deviceWakeCause 0 = (s.get .deviceWakeCause 0 ||| 2 ^ src.val) % 2 ^ 16)) ∧
      (∀ (temps : List Nat) (slots : List SlotWindow) (sq : List Port), (∃ t ∈ temps, s.get .deviceTempHi 0 ≤ t) → slots = [] →
        s.wakeEnabled 5 = true → s.ftb % (s.get .deviceWatchPer 0 * 1000000) = 0 → Leads (.watchSample temps slots sq) s (fun t => t.power.step = .wake k 0))) ∧
    (∀ b, s.power.step = .wake b 0 → Leads .pwrRdy s (fun t => t.power.step = .wake b 1 ∧
      (3 ≤ b → t.power.vrEn = [0, 1, 2, 3] ∧ t.power.wakeFailures = 0 ∧ t.ledger.wakeFailures = 0))) ∧
    (∀ b, s.power.step = .wake b 1 → Leads .oscRdy s (fun t => t = s.modPower (fun p => { p with step := .wake b 2 }))) ∧
    (∀ b, s.power.step = .wake b 2 → Leads .memRdy s (fun t => t = s.modPower (fun p => { p with step := .wake b 3 }))) ∧
    (s.power.step = .wake 2 3 → Leads .logicRdy s (fun t => t.power.step = .run ∧ t.sw.running = true ∧ t.get .devicePstate 0 = 0 ∧
      t.coh.dir = [] ∧ t.coh.loft = [])) ∧
    (s.power.step = .wake 3 3 → Leads .logicRdy s (fun t => t.power.step = .run ∧ t.boot.phase = 0 ∧ t.boot.step = .ready ∧
      t.boot.loadBank = s.boot.bank ∧ t.sw.rounds = 0 ∧ t.ord.queue = s.ord.queue)) ∧
    (∀ b, 4 ≤ b → s.power.step = .wake b 3 → Leads .logicRdy s (fun t => t.power.step = .run ∧ t.boot = { s.boot with step := .ready })) ∧
    (∀ b, 3 ≤ b → s.power.step = .wake b 0 →
      (s.power.wakeFailures < 2 → Leads .vrPgTimeout s (fun t => t.power.step = .wakeFailed b ∧ t.power.vrEn = [] ∧
        t.power.retryAt = s.ftb + 100000000 ∧ t.power.ignoreWake = false)) ∧
      (2 ≤ s.power.wakeFailures → Leads .vrPgTimeout s (fun t => t.power.step = .asleep 3 ∧ t.power.vrEn = [] ∧
        t.power.ignoreWake = true))) ∧
    (∀ b, s.power.step = .wakeFailed b → s.power.retryAt ≤ s.ftb →
      Leads .wakeRetry s (fun t => t = s.modPower (fun p => { p with step := .wake b 0, vrEn := if 3 ≤ b then [0, 1] else p.vrEn })))

/-- Supplies, sensors and reference clocks (R253, R455, R524 to R530, R585, R612, R629). -/
def Obligations.SuppliesAndClocks : Prop :=
  ∀ (s : State),
    (∀ (r : Rail) (mv : Nat), s.railArmed r.val = true →
      (below mv (s.thresholdSetpoint r.val) (s.warnPct r.val) = true → s.get .railWarn r.val = 0 →
        Leads (.sagWarning r mv) s (fun t => t.get .railWarn r.val = 1 ∧
          t.get .railWarns r.val = saturate 32 (s.get .railWarns r.val + 1) ∧ t.power.sagWarnN = false ∧
          (r.val ≤ 1 → t.sw.sagThrottle = true))) ∧
      (below mv (s.thresholdSetpoint r.val) (s.get .railResetPct r.val) = true →
        (r.val ≠ 5 → s.deepReset = false → Leads (.sagReset r mv) s (fun t => t.power.step = .sagHold ∧ t.otp = s.otp ∧ t.coh.dir = [] ∧
          t.sw.rounds = s.sw.rounds)) ∧
        (r.val = 5 → Leads (.sagReset r mv) s (fun t => t.power.step = .wake 4 0 ∧ t.boot.cold = true ∧ t.otp = s.otp)))) ∧
    Leads .sagWarnRelease s (fun t => t.power.sagWarnN = true ∧ t.sw.sagThrottle = false ∧ ∀ r, r < 6 → t.get .railWarn r = 0) ∧
    (s.power.step = .sagHold → Leads .sagRecovery s (fun t => t = s.modPower (fun p => { p with step := .wake 5 0 }))) ∧
    (s.get .deviceAvs 0 = 1 → s.awake = true → ∀ m, s.leastM 100000 = some m → m < 1331 → s.power.avsAt + 100000 ≤ s.ftb →
      s.get .deviceVcoreNow 0 + 5 ≤ roundedVcore (s.get .deviceVcore 0) →
      Leads .avsStep s (fun t => t.get .deviceVcoreNow 0 = (s.get .deviceVcoreNow 0 + 5) % 2 ^ 10 ∧ t.power.avsAt = s.ftb)) ∧
    (s.get .deviceAvs 0 = 1 → s.awake = true → ∀ m k, s.leastM 100000 = some k → 1331 ≤ k → s.leastM 1000000 = some m → 1434 ≤ m →
      s.get .railWarn 0 = 0 → s.get .railWarn 1 = 0 → s.power.avsAt + 1000000 ≤ s.ftb →
      max s.vfloor 650 + 5 ≤ s.get .deviceVcoreNow 0 →
      Leads .avsStep s (fun t => t.get .deviceVcoreNow 0 = (s.get .deviceVcoreNow 0 - 5) % 2 ^ 10 ∧ t.power.avsAt = s.ftb)) ∧
    (∀ mv : List Nat, Leads (.railSample mv) s (fun t => ∀ i, i < 6 → ∀ v, mv[i]? = some v → t.get .railVnow i = saturate 11 v)) ∧
    (∀ l : List Int, Leads (.sensorSample l) s (fun t => ∀ i q, i < 13 → l[i]? = some q → s.sensorOn i = true →
      t.get .thermTemp i = signedField 12 q)) ∧
    (∀ b : Bool, Leads (.refclkLoss b) s (fun t => ∀ n, n < s.stationCount → s.fedBy n b = true → (t.station n).clockLost = true)) ∧
    (∀ b : Bool, Leads (.refclkReturn b) s (fun t => ∀ n, n < s.stationCount → s.fedBy n b = true → (t.station n).clockLost = false))

/-- A step takes the command at the front of the queue, and the queue's rest stands while it acts; on an empty queue one tick of
the Fabric Timebase passes, which writes no byte of pool memory unless a Gleaner's records are due (R405; that a step is a tick is the
model's own choice, log entry 1). -/
def Obligations.StepTakesTheFront : Prop :=
  (∀ (c : Instr) (rest : List Instr) (s : State), s.pending = c :: rest → step s = exec c { s with pending := rest }) ∧
  (∀ s : State, s.pending = [] → ∃ t, step s = .next t ∧ t.ftb = s.ftb + 1 ∧ t.pending = [] ∧ t.otp = s.otp ∧
    ((∀ e ∈ s.tenants, e.2.pendingRecords = [] ∨ s.ftb + 1 < e.2.recordDue) → t.pool = s.pool))

/-- The machine right after reset, as the specification gives it (R61, R245, R469, R541, R607): the boot has not begun, the
Turntable does not run, every field reads its after-reset value, no line is cached, OTP is blank and nothing waits. The blank
OTP and the empty byte memory are the model's choice (log entries 3 and 4). -/
def Obligations.AfterReset : Prop :=
  State.reset.pending = [] ∧ State.reset.boot.phase = 0 ∧ State.reset.boot.cold = true ∧ State.reset.sw.running = false ∧
  State.reset.sw.rounds = 0 ∧ State.reset.coh.dir = [] ∧ State.reset.coh.loft = [] ∧
  (∀ c : Nat, (State.reset.core c).mode = .idle ∧ (State.reset.core c).job = none) ∧
  (∀ k : Nat, State.reset.slotState k = slotOff ∧ (State.reset.slot k).gate = false ∧ (State.reset.slot k).pgood = false) ∧
  (∀ p : Nat, State.reset.get .portLink p = 0 ∧ State.reset.portUp p = false) ∧
  (∀ o : Otp, o.keeps State.reset.otp → o.lifecycle = 0 ∧ ∀ k i, (Tab.get [] o.roots k).getD i 0 = 0) ∧
  Memory.wf State.reset.pool = true ∧ Memory.wf State.reset.lev.sharedData = true

/-- No command changes the queue it was taken from: what waits after it is what waited before. The queue is the model's own
field (log entry 1). -/
def Obligations.QueueKept : Prop := ∀ (i : Instr) (s t : State), exec i s = .next t → t.pending = s.pending

/-- A fuse once written is never cleared (R540): what is blown stays blown over every step of every machine. -/
def Obligations.FusesKept : Prop := ∀ (o : Otp) (s t : State), o.keeps s.otp → step s = .next t → o.keeps t.otp

/-- Who writes OTP (R540): the boot ROM in phase 0 of a cold reset, to fuse UDS while it is blank or to carry out a pending token
that verifies; every other command leaves OTP alone, and no command clears a fuse. -/
def Obligations.OtpWriters : Prop :=
  ∀ (i : Instr) (s t : State), exec i s = .next t →
    s.otp.keeps t.otp ∧
    (t.otp ≠ s.otp → ∃ (bad fuse : Bool) (random : List Byte), i = .bootPhase0 bad fuse random ∧ s.boot.cold = true ∧
      s.phaseReady 0 = true ∧ s.boot.tapHold = false ∧
      let now := s.readControl
      let fused : State := if now.otp.uds.any (· != 0) then now else { now with otp := { now.otp with uds := random } }
      let booted := fused.modSec (fun x => { x with lifecycle := fused.otp.lifecycle })
      t.otp = fused.otp ∨
        ∃ token u, s.ledger.token = some token ∧ booted.tokenFault token = none ∧ booted.tokenEffect token = some u ∧ t.otp = u.otp)

/-- Register g0 (R39) reads as zero in every state, and an instruction whose destination it is leaves every register of every core as
it was. -/
def Obligations.ZeroRegister : Prop :=
  (∀ (s : State) (c : Nat), (s.core c).reg 0 = 0) ∧
  ∀ (c : Core) (s : State), s.runs c →
    let same : State → Prop := fun t => ∀ (d : Nat) (r : BitVec 5), (t.core d).reg r = (s.core d).reg r
    (∀ o : RRR, o.rd = 0 → Leads (.add c o) s same ∧ Leads (.sub c o) s same ∧ Leads (.mul c o) s same ∧ Leads (.divu c o) s same) ∧
    (∀ o : IOp, o.rd = 0 → Leads (.addi c o) s same ∧ Leads (.shor c o) s same ∧ Leads (.jalr c o) s same ∧
      (mayRead ((s.core c).reg o.ra + o.imm.signExtend 64).toNat = true →
        s.badLever c ((s.core c).reg o.ra + o.imm.signExtend 64).toNat = false → Leads (.lb c o) s same)) ∧
    (∀ o : SOp, o.rd = 0 → o.ra = 0 → Leads (.timeNow c o) s same ∧ Leads (.who c o) s same)

/-- What a commit stores (R61, R62, R511): a field holds the last value that an entry gives it, within its width and with the bits of
WAKE_EN that always read 1; a field that no entry names holds what it held. -/
def Obligations.FieldsCommitted : Prop :=
  ∀ (s : State) (f : Fld) (idx sub : Nat), idx < 65536 → sub < 65536 →
    let other : Entry → Prop := fun e => ∃ (g : Fld) (j d w : Nat), e = .write g.info.cls j d g.info.id w ∧ j < 65536 ∧ d < 65536 ∧
      (g ≠ f ∨ j ≠ idx ∨ d ≠ sub)
    (∀ (es fs : List Entry) (v : Nat), (∀ e ∈ fs, other e) →
      (s.stored (es ++ .write f.info.cls idx sub f.info.id v :: fs)).get f idx sub =
        (if f = .deviceWakeEn then v ||| 0xB else v) % 2 ^ f.info.width) ∧
    (∀ fs : List Entry, (∀ e ∈ fs, other e) → (s.stored fs).get f idx sub = s.get f idx sub)

/-- Byte memory: every step keeps the canonical form of T0 pool memory and of the Lever's shared data (addresses rise, and no entry
holds what an unlisted address reads as), and a command outside those that `mayWriteMemory` names leaves every byte of both alone. -/
def Obligations.MemoryKept : Prop :=
  (∀ s t : State, Memory.wf s.pool = true → Memory.wf s.lev.sharedData = true → step s = .next t →
    Memory.wf t.pool = true ∧ Memory.wf t.lev.sharedData = true) ∧
  ∀ (i : Instr) (s t : State), mayWriteMemory i = false → exec i s = .next t →
    t.pool = s.pool ∧ t.lev.sharedData = s.lev.sharedData
end

