-- ==== Sys2Proof/Laws/Fec.lean ====
section
/-! SUPPORT. Laws of the forward error correction of a flit (R207, R210): byte `i` belongs to code `i mod 3`, and a flit arrives as it
was sent where no byte of it has changed. -/

namespace Sys2Proof.Machine

/-- Three bytes are one byte of each code. -/
theorem fecPart_cons (a b c : Byte) (t : List Byte) (n r : Nat) (hr : r < 3) :
    (((a :: b :: c :: t).zipIdx (3 * n)).filter (fun e => e.2 % 3 == r)).map (·.1) =
      [a, b, c].getD r 0 :: ((t.zipIdx (3 * (n + 1))).filter (fun e => e.2 % 3 == r)).map (·.1) := by
  have h0 : 3 * n % 3 = 0 := by omega
  have h1 : (3 * n + 1) % 3 = 1 := by omega
  have h2 : (3 * n + 1 + 1) % 3 = 2 := by omega
  have h3 : 3 * n + 1 + 1 + 1 = 3 * (n + 1) := by omega
  simp only [List.zipIdx_cons, h3]
  interval_cases r <;> simp [h0, h1, h2]

/-- Byte `i` of a flit is byte `i / 3` of code `i mod 3`. -/
theorem fecPart_at : (l : List Byte) → (n i : Nat) →
    (((l.zipIdx (3 * n)).filter (fun e => e.2 % 3 == i % 3)).map (·.1)).getD (i / 3) 0 = l.getD i 0
  | [], n, i => by simp
  | [a], n, i => by
    have h0 : 3 * n % 3 = 0 := by omega
    by_cases hi : i = 0
    · subst hi; simp
    · have : i % 3 ≠ 0 ∨ 1 ≤ i / 3 := by omega
      rcases h : i with _ | j
      · omega
      · rcases Nat.lt_or_ge 0 ((j+1)/3) with g | g
        · obtain ⟨m, hm⟩ : ∃ m, (j+1)/3 = m+1 := ⟨_, (Nat.succ_pred_eq_of_pos g).symm⟩
          simp only [hm, List.zipIdx_cons, List.filter_cons, h0]
          split <;> simp
        · have : (j+1) % 3 ≠ 0 := by omega
          simp [List.zipIdx_cons, List.filter_cons, h0, Ne.symm this]
  | [a, b], n, i => by
    have h0 : 3 * n % 3 = 0 := by omega
    have h1 : (3 * n + 1) % 3 = 1 := by omega
    have h : i = 0 ∨ i = 1 ∨ i = 2 ∨ 3 ≤ i := by omega
    rcases h with rfl | rfl | rfl | h
    · simp [List.zipIdx_cons, List.filter_cons]
    · simp [List.zipIdx_cons, List.filter_cons]
    · simp [List.zipIdx_cons, List.filter_cons]
    · obtain ⟨m, hm⟩ : ∃ m, i/3 = m+1 := ⟨i/3 - 1, by omega⟩
      obtain ⟨k, hk⟩ : ∃ k, i = k+1+1 := ⟨i - 2, by omega⟩
      subst hk
      simp only [hm, List.zipIdx_cons, List.filter_cons, h0, h1]
      have : (k + 1 + 1) % 3 = 0 ∨ (k + 1 + 1) % 3 = 1 ∨ (k + 1 + 1) % 3 = 2 := by omega
      rcases this with g | g | g <;> simp [g]
  | a :: b :: c :: t, n, i => by
    rw [fecPart_cons a b c t n (i % 3) (by omega)]
    by_cases hi : i < 3
    · rw [show i / 3 = 0 by omega, show i % 3 = i by omega]; interval_cases i <;> rfl
    · obtain ⟨j, rfl⟩ : ∃ j, i = j + 3 := ⟨i - 3, by omega⟩
      have := fecPart_at t (n + 1) j
      rw [show (j + 3) / 3 = j / 3 + 1 by omega, show (j + 3) % 3 = j % 3 by omega]
      simpa using this

/-- A word that fits the check bytes of its three codes is not corrected. -/
theorem fecDecode_fits (l : List Byte) (h : ∀ k, k < 3 → fecFits (fecPart k l) = true) : fecDecode l = l := by
  have e : ∀ k, k < 3 → fecCorrect (fecPart k l) = fecPart k l := fun k hk => by simp [fecCorrect, h k hk]
  unfold fecDecode
  simp only [e 0 (by decide), e 1 (by decide), e 2 (by decide)]
  apply List.ext_getElem (by simp)
  intro i h1 h2
  have g := fecPart_at l 0 i
  simp only [List.getElem_map, List.getElem_range]
  have q : (if i % 3 = 0 then fecPart 0 l else if i % 3 = 1 then fecPart 1 l else fecPart 2 l) = fecPart (i % 3) l := by
    have : i % 3 = 0 ∨ i % 3 = 1 ∨ i % 3 = 2 := by omega
    rcases this with r | r | r <;> simp [r]
  rw [q, fecPart]
  simp only [Nat.mul_zero] at g
  rw [g, List.getD_eq_getElem _ _ h2]

/-- The check bytes that go out fit. -/
theorem fecFits_sent (m : List Byte) (hm : m.length = 250) (k : Nat) (hk : k < 3) : fecFits (fecPart k (m ++ fecBytes m)) = true := by
  have e : fecPart k (m ++ fecBytes m) = fecPart k m ++ [(Config.fecCheck (fecPart k m)).1, (Config.fecCheck (fecPart k m)).2] := by
    simp only [fecPart, List.zipIdx_append, List.filter_append, List.map_append, fecBytes, hm]
    interval_cases k <;> simp [List.zipIdx_cons, List.filter_cons]
  rw [e]
  simp [fecFits]

/-- No correction changes a flit as it was sent. -/
theorem fecDecode_flit (f : TrunkFlit) : fecDecode (flitBytes f) = flitBytes f := by
  have hm : (toLE 8 (flitHeader f) ++ (f.payload ++ List.replicate (234 - f.payload.length) 0).take 234 ++
      toLE 8 (crc64 (toLE 8 (flitHeader f) ++ (f.payload ++ List.replicate (234 - f.payload.length) 0).take 234))).length = 250 := by
    simp [toLE]; omega
  exact fecDecode_fits _ (fun k hk => fecFits_sent _ hm k hk)
end Sys2Proof.Machine
end

