-- ==== Sys2Proof/Laws/Frames.lean ====
section
/-! SUPPORT. The operations the families share leave OTP and the waiting commands alone (R70, R540):
what each does to the fixed part of a state. -/

namespace Sys2Proof.Machine

/-- The fixed part, from its two fields. -/
@[simp] theorem fixed_mk' (s : State) : Fixed.mk s.otp s.pending = s.fixed := rfl
@[simp ↓] theorem fixed_ite (c : Prop) [Decidable c] (a b : State) : (if c then a else b).fixed = if c then a.fixed else b.fixed := apply_ite _ _ _ _
@[simp ↓] theorem State.fixed_mk (otp : Otp) (strapPins : Straps) (straps : Straps) (ftb : Nat) (obj : Tab Nat) (gen : Tab Nat) (alloc : List Nat) (lev : Lever) (ord : Orders) (boot : Boot) (ledger : Ledger) (sec : Security) (stations : Tab StationState) (lanes : Tab Lane) (ports : Tab PortState) (sw : Switch) (vppbs : Tab VppbState) (vcss : Tab VcsState) (junction : Junction) (coh : Coherence) (tenants : Tab TenantState) (qos : Qos) (slots : Tab SlotState) (power : Power) (errors : Errors) (alarms : List Nat) (pool : Mem) (freeCount : Nat) (outbox : List Msg) (pending : List Instr) :
    (State.mk otp strapPins straps ftb obj gen alloc lev ord boot ledger sec stations lanes ports sw vppbs vcss junction coh tenants qos slots power errors alarms pool freeCount outbox pending).fixed = ⟨otp, pending⟩ := rfl

theorem foldl_fixed {α : Type} {f : State → α → State} (h : ∀ s a, (f s a).fixed = s.fixed) (l : List α) (s : State) :
    (l.foldl f s).fixed = s.fixed := by
  induction l generalizing s with
  | nil => rfl
  | cons a l ih => exact (ih _).trans (h s a)
@[simp ↓] theorem foldl_fixed' {α : Type} {f : State → α → State} (l : List α) (s : State) (h : ∀ s a, (f s a).fixed = s.fixed) :
    (l.foldl f s).fixed = s.fixed := foldl_fixed h l s

/-- A command that answers a next state keeps OTP and the queue. -/
def Result.keeps (r : Result) (s : State) : Prop := ∀ t, r = .next t → t.fixed = s.fixed
@[simp] theorem keeps_next (x s : State) : Result.keeps (.next x) s ↔ x.fixed = s.fixed :=
  ⟨fun h => h x rfl, fun h t e => by cases e; exact h⟩
@[simp] theorem keeps_refused (x : Refusal) (s : State) : Result.keeps (.refused x) s ↔ True := ⟨fun _ => trivial, fun _ t e => by cases e⟩

@[simp ↓] theorem State.modCore_fixed (s : State) (c : Nat) (f : CoreState → CoreState) : (State.modCore s c f).fixed = s.fixed := by
  simp [State.modCore]

@[simp ↓] theorem State.modPort_fixed (s : State) (p : Nat) (f : PortState → PortState) : (State.modPort s p f).fixed = s.fixed := by
  simp [State.modPort]

@[simp ↓] theorem State.modStation_fixed (s : State) (n : Nat) (f : StationState → StationState) : (State.modStation s n f).fixed = s.fixed := by
  simp [State.modStation]

@[simp ↓] theorem State.modLane_fixed (s : State) (l : Nat) (f : Lane → Lane) : (State.modLane s l f).fixed = s.fixed := by
  simp [State.modLane]

@[simp ↓] theorem State.modVppb_fixed (s : State) (v : Nat) (b : Nat) (f : VppbState → VppbState) : (State.modVppb s v b f).fixed = s.fixed := by
  simp [State.modVppb]

@[simp ↓] theorem State.modVcs_fixed (s : State) (v : Nat) (f : VcsState → VcsState) : (State.modVcs s v f).fixed = s.fixed := by
  simp [State.modVcs]

@[simp ↓] theorem State.modTenant_fixed (s : State) (t : Nat) (f : TenantState → TenantState) : (State.modTenant s t f).fixed = s.fixed := by
  simp [State.modTenant]

@[simp ↓] theorem State.modWindow_fixed (s : State) (t : Nat) (f : TenantWindow → TenantWindow) : (State.modWindow s t f).fixed = s.fixed := by
  simp [State.modWindow]

@[simp ↓] theorem State.modSlot_fixed (s : State) (n : Nat) (f : SlotState → SlotState) : (State.modSlot s n f).fixed = s.fixed := by
  simp [State.modSlot]

@[simp ↓] theorem State.drawn_fixed (s : State) : (State.drawn s).fixed = s.fixed := by
  simp [State.drawn]

@[simp ↓] theorem State.put_fixed (s : State) (f : Fld) (idx : Nat) (sub : Nat) (v : Nat) : (State.put s f idx sub v).fixed = s.fixed := by
  simp [State.put]

@[simp ↓] theorem State.unput_fixed (s : State) (f : Fld) (idx : Nat) (sub : Nat) : (State.unput s f idx sub).fixed = s.fixed := by
  simp [State.unput]

@[simp ↓] theorem State.bump_fixed (s : State) (cls : Nat) (idx : Nat) (sub : Nat) : (State.bump s cls idx sub).fixed = s.fixed := by
  simp [State.bump]

@[simp ↓] theorem State.devicePut_fixed (s : State) (f : Fld) (idx : Nat) (sub : Nat) (v : Nat) : (State.devicePut s f idx sub v).fixed = s.fixed := by
  simp [State.devicePut]

@[simp ↓] theorem State.emit_fixed (s : State) (m : Msg) : (State.emit s m).fixed = s.fixed := by
  unfold State.emit
  try dsimp only
  repeat' (first
    | assumption
    | (simp [*]; done)
    | (intro _)
    | split)

@[simp ↓] theorem State.eventMsi_fixed (s : State) (t : Nat) : (State.eventMsi s t).fixed = s.fixed := by
  unfold State.eventMsi
  try dsimp only
  repeat' (first
    | assumption
    | (simp [*]; done)
    | (intro _)
    | split)

@[simp ↓] theorem State.missRaise_fixed (s : State) : (State.missRaise s).fixed = s.fixed := by
  simp [State.missRaise]

@[simp ↓] theorem State.raiseVector_fixed (s : State) (n : Nat) (owner : Option Nat) : (State.raiseVector s n owner).fixed = s.fixed := by
  simp [State.raiseVector]

@[simp ↓] theorem State.raiseT0_fixed (s : State) (f : Fld) (idx : Nat) : (State.raiseT0 s f idx).fixed = s.fixed := by
  simp [State.raiseT0]

@[simp ↓] theorem State.addUnit_fixed (s : State) (u : Nat) (i : Nat) (n : Nat) : (State.addUnit s u i n).fixed = s.fixed := by
  simp [State.addUnit]

@[simp ↓] theorem State.addCounter_fixed (s : State) (i : Nat) (n : Nat) : (State.addCounter s i n).fixed = s.fixed := by
  simp [State.addCounter]

@[simp ↓] theorem State.unitSees_fixed (s : State) (u : Nat) (ev : Nat) (n : Nat) (a : EventAttrs) (i : Nat) : (State.unitSees s u ev n a i).fixed = s.fixed := by
  simp [State.unitSees]

@[simp ↓] theorem State.counterSees_fixed (s : State) (ev : Nat) (n : Nat) (a : EventAttrs) (i : Nat) : (State.counterSees s ev n a i).fixed = s.fixed := by
  simp [State.counterSees]

@[simp ↓] theorem State.count_fixed (s : State) (u : Nat) (ev : Nat) (a : EventAttrs) (n : Nat) : (State.count s u ev a n).fixed = s.fixed := by
  unfold State.count
  try dsimp only
  repeat' (first
    | assumption
    | (simp [*]; done)
    | (intro _)
    | split)

@[simp ↓] theorem State.countPort_fixed (s : State) (p : Nat) (ev : Nat) (a : EventAttrs) (n : Nat) : (State.countPort s p ev a n).fixed = s.fixed := by
  simp [State.countPort]

@[simp ↓] theorem State.tick_fixed (s : State) : (State.tick s).fixed = s.fixed := by
  simp [State.tick]

@[simp ↓] theorem State.logError_fixed (s : State) (cls : Nat) (tick : Nat) (count : Nat) (e : ErrorAt) : (State.logError s cls tick count e).fixed = s.fixed := by
  simp [State.logError]

@[simp ↓] theorem State.window10ms_fixed (s : State) (e : ErrorAt) : (State.window10ms s e).fixed = s.fixed := by
  simp [State.window10ms]

@[simp ↓] theorem State.contain_fixed (s : State) (e : ErrorAt) : (State.contain s e).fixed = s.fixed := by
  simp [State.contain]

@[simp ↓] theorem State.writeLoss_fixed (s : State) (port : Nat) (addr : Nat) (tenant : Nat) (cause : Nat) : (State.writeLoss s port addr tenant cause).fixed = s.fixed := by
  simp [State.writeLoss]

@[simp ↓] theorem State.corrected_fixed (s : State) (e : ErrorAt) : (State.corrected s e).fixed = s.fixed := by
  simp [State.corrected]

@[simp ↓] theorem State.logSecurity_fixed (s : State) (r : SecurityRecord) : (State.logSecurity s r).fixed = s.fixed := by
  simp [State.logSecurity]

@[simp ↓] theorem State.modControl_fixed (s : State) (f : Ledger → Ledger) : (State.modControl s f).fixed = s.fixed := by
  simp [State.modControl]

@[simp ↓] theorem State.mailboxAnswer_fixed (s : State) (ret : Nat) (status : Nat) (resp : List Byte) : (State.mailboxAnswer s ret status resp).fixed = s.fixed := by
  simp [State.mailboxAnswer]

@[simp ↓] theorem State.windowAnswer_fixed (s : State) (t : Nat) (tag : Nat) (status : Nat) (header : List Byte) (data : List Byte) : (State.windowAnswer s t tag status header data).fixed = s.fixed := by
  simp [State.windowAnswer]

@[simp ↓] theorem State.waysideSend_fixed (s : State) (dst : Nat) (type : Nat) (payload : List Byte) : (State.waysideSend s dst type payload).fixed = s.fixed := by
  simp [State.waysideSend]

@[simp ↓] theorem State.deliver_fixed (s : State) (o : Order) (status : Nat) (ticks : Nat) (queued : Nat) (data : List Byte) : (State.deliver s o status ticks queued data).fixed = s.fixed := by
  unfold State.deliver
  try dsimp only
  repeat' (first
    | assumption
    | (simp [*]; done)
    | (intro _)
    | split)

@[simp ↓] theorem State.commitRefused_fixed (s : State) (c : Nat) : (State.commitRefused s c).fixed = s.fixed := by
  simp [State.commitRefused]

@[simp ↓] theorem State.refuseOrder_fixed (s : State) (o : Order) (st : Status) : (State.refuseOrder s o st).fixed = s.fixed := by
  simp [State.refuseOrder]

@[simp ↓] theorem State.leaveCommit_fixed (s : State) (c : Nat) : (State.leaveCommit s c).fixed = s.fixed := by
  simp [State.leaveCommit]

@[simp ↓] theorem State.unfreeze_fixed (s : State) (o : Order) : (State.unfreeze s o).fixed = s.fixed := by
  unfold State.unfreeze
  try dsimp only
  repeat' (first
    | assumption
    | simp [*]
    | (intro _)
    | split)

@[simp ↓] theorem State.endQueued_fixed (s : State) (o : Order) (st : Status) : (State.endQueued s o st).fixed = s.fixed := by
  simp [State.endQueued]

@[simp ↓] theorem State.endOrder_fixed (s : State) (c : Nat) (status : Nat) (data : List Byte) : (State.endOrder s c status data).fixed = s.fixed := by
  unfold State.endOrder
  try dsimp only
  repeat' (first
    | assumption
    | simp [*]
    | (intro _)
    | split)

@[simp ↓] theorem State.restartResident_fixed (s : State) (c : Nat) : (State.restartResident s c).fixed = s.fixed := by
  simp [State.restartResident]

@[simp ↓] theorem State.haltResident_fixed (s : State) (c : Nat) : (State.haltResident s c).fixed = s.fixed := by
  simp [State.haltResident]

@[simp ↓] theorem State.leverFault_fixed (s : State) (c : Nat) (f : LeverFault) (word : BitVec 32) : (State.leverFault s c f word).fixed = s.fixed := by
  simp [State.leverFault]

@[simp ↓] theorem State.leverReset_fixed (s : State) : (State.leverReset s).fixed = s.fixed := by
  simp [State.leverReset]

@[simp ↓] theorem State.askLeverReset_fixed (s : State) : (State.askLeverReset s).fixed = s.fixed := by
  simp [State.askLeverReset]

@[simp ↓] theorem State.leverMemErr_fixed (s : State) (c : Nat) (a : Nat) (word : BitVec 32) : (State.leverMemErr s c a word).fixed = s.fixed := by
  simp [State.leverMemErr]

@[simp ↓] theorem State.leverWrite_fixed (s : State) (c : Nat) (a : Nat) (n : Nat) (v : Nat) : (State.leverWrite s c a n v).fixed = s.fixed := by
  simp [State.leverWrite]

@[simp ↓] theorem State.leverRepair_fixed (s : State) (c : Nat) (a : Nat) (n : Nat) : (State.leverRepair s c a n).fixed = s.fixed := by
  simp [State.leverRepair]

@[simp ↓] theorem State.retire_fixed (s : State) (c : Nat) (f : CoreState → CoreState) : (State.retire s c f).fixed = s.fixed := by
  simp [State.retire]

@[simp ↓] theorem State.leverRun_fixed (s : State) (c : Nat) (word : BitVec 32) (body : State → State) (hbody : ∀ b0, (body b0).fixed = b0.fixed) : (State.leverRun s c word body).fixed = s.fixed := by
  unfold State.leverRun
  try dsimp only
  repeat' (first
    | assumption
    | simp [*])

@[simp ↓] theorem State.leverEncoded_fixed (s : State) (c : Nat) (word : BitVec 32) (zero : Bool) (body : State → State) (hbody : ∀ b0, (body b0).fixed = b0.fixed) : (State.leverEncoded s c word zero body).fixed = s.fixed := by
  unfold State.leverEncoded
  try dsimp only
  repeat' (first
    | assumption
    | simp [*])

@[simp ↓] theorem State.aluRRR_fixed (s : State) (c : Core) (o : RRR) (fn : Nat) (f : Word → Word → Word) : (State.aluRRR s c o fn f).fixed = s.fixed := by
  simp [State.aluRRR]

@[simp ↓] theorem State.aluImm_fixed (s : State) (c : Core) (o : IOp) (op : Nat) (legal : Bool) (f : CoreState → Word) : (State.aluImm s c o op legal f).fixed = s.fixed := by
  simp [State.aluImm]

@[simp ↓] theorem State.amo_fixed (s : State) (c : Core) (o : RRR) (fn : Nat) (f : Word → Word → Word) : (State.amo s c o fn f).fixed = s.fixed := by
  simp [State.amo]

@[simp ↓] theorem State.load_fixed (s : State) (c : Core) (o : IOp) (op : Nat) (size : Nat) : (State.load s c o op size).fixed = s.fixed := by
  simp [State.load]

@[simp ↓] theorem State.store_fixed (s : State) (c : Core) (o : IOp) (op : Nat) (size : Nat) : (State.store s c o op size).fixed = s.fixed := by
  simp [State.store]

@[simp ↓] theorem State.branch_fixed (s : State) (c : Core) (o : BOp) (op : Nat) (cond : Word → Word → Bool) : (State.branch s c o op cond).fixed = s.fixed := by
  simp [State.branch]

@[simp ↓] theorem State.sys_fixed (s : State) (c : Core) (o : SOp) (sysfn : Nat) (usesRd : Bool) (usesRa : Bool) (body : State → State) (hbody : ∀ b0, (body b0).fixed = b0.fixed) : (State.sys s c o sysfn usesRd usesRa body).fixed = s.fixed := by
  unfold State.sys
  try dsimp only
  repeat' (first
    | assumption
    | simp [*])

@[simp ↓] theorem State.uspReport_fixed (s : State) (v : Nat) (fatal : Bool) (status : Nat) : (State.uspReport s v fatal status).fixed = s.fixed := by
  unfold State.uspReport
  try dsimp only
  repeat' (first
    | assumption
    | simp [*]
    | (intro _)
    | split)

@[simp ↓] theorem State.reportInternal_fixed (s : State) (p : Nat) : (State.reportInternal s p).fixed = s.fixed := by
  unfold State.reportInternal
  try dsimp only
  repeat' (first
    | assumption
    | simp [*]
    | (intro _)
    | split)

@[simp ↓] theorem State.countLost_fixed (s : State) : (State.countLost s).fixed = s.fixed := by
  simp [State.countLost]

@[simp ↓] theorem State.answerDiscarded_fixed (s : State) (unrouted : Bool) (frm : Nat) (to_ : Nat) (tag : Nat) (ldid : Nat) (kind : FrameKind) (vppb : Option (Nat × Nat)) (addr : Nat) (tenant : Nat) : (State.answerDiscarded s unrouted frm to_ tag ldid kind vppb addr tenant).fixed = s.fixed := by
  unfold State.answerDiscarded
  try dsimp only
  repeat' (first
    | assumption
    | (simp [*]; done)
    | (intro _)
    | split)

@[simp ↓] theorem State.assumeAllDirty_fixed (s : State) (t : Nat) : (State.assumeAllDirty s t).fixed = s.fixed := by
  simp [State.assumeAllDirty]

@[simp ↓] theorem State.logRecord_fixed (s : State) (t : Nat) (body : Nat) : (State.logRecord s t body).fixed = s.fixed := by
  simp [State.logRecord]

@[simp ↓] theorem State.evictBitmap_fixed (s : State) : (State.evictBitmap s).fixed = s.fixed := by
  simp [State.evictBitmap]

@[simp ↓] theorem State.gleanerMark_fixed (s : State) (t : Nat) (addr : Nat) : (State.gleanerMark s t addr).fixed = s.fixed := by
  unfold State.gleanerMark
  try dsimp only
  repeat' (first
    | assumption
    | (simp [*]; done)
    | (intro _)
    | split)

@[simp ↓] theorem State.writeRecords_fixed (s : State) (t : Nat) : (State.writeRecords s t).fixed = s.fixed := by
  rfl

@[simp ↓] theorem State.flushRecords_fixed (s : State) (t : Nat) (a2 : Nat) : (State.flushRecords s t a2).fixed = s.fixed := by
  fun_induction State.flushRecords s t a2 <;> simp_all

@[simp ↓] theorem State.flushAllRecords_fixed (s : State) (t : Nat) : (State.flushAllRecords s t).fixed = s.fixed := by
  simp [State.flushAllRecords]

@[simp ↓] theorem State.recordsDue_fixed (s : State) : (State.recordsDue s).fixed = s.fixed := by
  simp [State.recordsDue]

@[simp ↓] theorem State.beginPass_fixed (s : State) (t : Nat) (pass : Nat) : (State.beginPass s t pass).fixed = s.fixed := by
  simp [State.beginPass]

@[simp ↓] theorem State.modCoh_fixed (s : State) (f : Coherence → Coherence) : (State.modCoh s f).fixed = s.fixed := by
  simp [State.modCoh]

@[simp ↓] theorem State.setLock_fixed (s : State) (line : Nat) (x : Transaction) : (State.setLock s line x).fixed = s.fixed := by
  simp [State.setLock]

@[simp ↓] theorem State.setEntry_fixed (s : State) (line : Nat) (e : DirEntry) : (State.setEntry s line e).fixed = s.fixed := by
  simp [State.setEntry]

@[simp ↓] theorem State.countLine_fixed (s : State) (line : Nat) (ev : Nat) (tenant : Option Nat) (n : Nat) : (State.countLine s line ev tenant n).fixed = s.fixed := by
  simp [State.countLine]

@[simp ↓] theorem State.modAgent_fixed (s : State) (a : Nat) (f : AgentState → AgentState) : (State.modAgent s a f).fixed = s.fixed := by
  simp [State.modAgent]

@[simp ↓] theorem State.loftPut_fixed (s : State) (line : Nat) (l : LoftLine) : (State.loftPut s line l).fixed = s.fixed := by
  simp [State.loftPut]

@[simp ↓] theorem State.loftDrop_fixed (s : State) (line : Nat) : (State.loftDrop s line).fixed = s.fixed := by
  simp [State.loftDrop]

@[simp ↓] theorem State.loftStore_fixed (s : State) (line : Nat) (data : LineData) (poison : Bool) (remote : Bool) (tenant : Nat) (home : Option Nat) : (State.loftStore s line data poison remote tenant home).fixed = s.fixed := by
  simp [State.loftStore]

@[simp ↓] theorem State.sendBypass_fixed (s : State) (p : Nat) (type : Nat) (pool : Nat) (body : List Byte) : (State.sendBypass s p type pool body).fixed = s.fixed := by
  simp [State.sendBypass]

theorem State.takeArrived_next {s t : State} {p type : Nat} {ok : List Byte → Bool} {b : List Byte}
    (h : s.takeArrived p type ok = some (b, t)) : t.fixed = s.fixed := by
  obtain ⟨e, _, h⟩ := Option.map_eq_some_iff.1 h
  cases h
  simp
@[simp ↓] theorem State.onMessage_fixed (s : State) (p : Nat) (type : Nat) (body : List Byte) (act : State → State) (hact : ∀ b0, (act b0).fixed = b0.fixed) : (State.onMessage s p type body act).fixed = s.fixed := by
  unfold State.onMessage
  split
  · exact (hact _).trans (State.takeArrived_next ‹_›)
  · rfl

@[simp ↓] theorem State.sendPeer_fixed (s : State) (p : Nat) (type : Nat) (txn : Nat) (line : Nat) (op : Nat) (tenant : Nat) (attr : Nat) (data : Option LineData) (offset : Nat) (operand : Nat) (compare : Nat) : (State.sendPeer s p type txn line op tenant attr data offset operand compare).fixed = s.fixed := by
  simp [State.sendPeer]

@[simp ↓] theorem State.takeTxn_fixed (s : State) : (State.takeTxn s).fixed = s.fixed := by
  simp [State.takeTxn]

@[simp ↓] theorem State.appendDead_fixed (s : State) (line : Nat) (agent : Nat) (reason : Nat) (tenant : Nat) (tick : Nat) (action : Nat) : (State.appendDead s line agent reason tenant tick action).fixed = s.fixed := by
  simp [State.appendDead]

@[simp ↓] theorem State.holdLine_fixed (s : State) (line : Nat) : (State.holdLine s line).fixed = s.fixed := by
  unfold State.holdLine
  try dsimp only
  repeat' (first
    | assumption
    | simp [*]
    | (intro _)
    | split)

@[simp ↓] theorem State.memAsk_fixed (s : State) (a : MemAsk) (m : Msg) : (State.memAsk s a m).fixed = s.fixed := by
  simp [State.memAsk]

@[simp ↓] theorem State.memDone_fixed (s : State) (line : Nat) (write : Bool) : (State.memDone s line write).fixed = s.fixed := by
  unfold State.memDone
  try dsimp only
  repeat' (first
    | assumption
    | (simp [*]; done)
    | (intro _)
    | split)

@[simp ↓] theorem State.memWriteEnd_fixed (s : State) (line : Nat) (ok : Bool) : (State.memWriteEnd s line ok).fixed = s.fixed := by
  unfold State.memWriteEnd
  try dsimp only
  repeat' (first
    | assumption
    | (simp [*]; done)
    | (intro _)
    | split)

@[simp ↓] theorem State.memWrite_fixed (s : State) (line : Nat) (home : Option Nat) (data : LineData) (poison : Bool) (w : MemWrite) (mask : BitVec 64) : (State.memWrite s line home data poison w mask).fixed = s.fixed := by
  unfold State.memWrite
  try dsimp only
  repeat' (first
    | assumption
    | (simp [*]; done)
    | (intro _)
    | split)

@[simp ↓] theorem State.give_fixed (s : State) (line : Nat) (r : SliceRequest) (state : Nat) (data : Option LineData) (poison : Bool) (devLoad : Nat) : (State.give s line r state data poison devLoad).fixed = s.fixed := by
  unfold State.give
  try dsimp only
  repeat' (first
    | assumption
    | (simp [*]; done)
    | (intro _)
    | split)

@[simp ↓] theorem State.owed_fixed (s : State) (r : SliceRequest) (answer : State → State) (hanswer : ∀ b0, (answer b0).fixed = b0.fixed) : (State.owed s r answer).fixed = s.fixed := by
  unfold State.owed
  try dsimp only
  repeat' (first
    | assumption
    | simp [*])

@[simp ↓] theorem State.grant_fixed (s : State) (line : Nat) (r : SliceRequest) (state : Nat) (data : Option LineData) (poison : Bool) (devLoad : Nat) : (State.grant s line r state data poison devLoad).fixed = s.fixed := by
  unfold State.grant
  try dsimp only
  repeat' (first
    | assumption
    | simp [*])

@[simp ↓] theorem State.ack_fixed (s : State) (line : Nat) (r : SliceRequest) : (State.ack s line r).fixed = s.fixed := by
  unfold State.ack
  try dsimp only
  repeat' (first
    | assumption
    | simp [*]
    | (intro _)
    | split)

@[simp ↓] theorem State.noteEvicted_fixed (s : State) (a : Option Nat) (line : Nat) : (State.noteEvicted s a line).fixed = s.fixed := by
  unfold State.noteEvicted
  try dsimp only
  repeat' (first
    | assumption
    | (simp [*]; done)
    | (intro _)
    | split)

@[simp ↓] theorem State.ackRelease_fixed (s : State) (line : Nat) (r : SliceRequest) : (State.ackRelease s line r).fixed = s.fixed := by
  simp [State.ackRelease]

@[simp ↓] theorem State.atomicAnswer_fixed (s : State) (line : Nat) (r : SliceRequest) (old : Nat) (poison : Bool) : (State.atomicAnswer s line r old poison).fixed = s.fixed := by
  unfold State.atomicAnswer
  try dsimp only
  repeat' (first
    | assumption
    | simp [*]
    | (intro _)
    | split)

@[simp ↓] theorem State.refuseRequest_fixed (s : State) (line : Nat) (r : SliceRequest) : (State.refuseRequest s line r).fixed = s.fixed := by
  unfold State.refuseRequest
  try dsimp only
  repeat' (first
    | assumption
    | (simp [*]; done)
    | (intro _)
    | split)

@[simp ↓] theorem State.learnAtomic_fixed (s : State) (line : Nat) (r : SliceRequest) (holders : Bool) : (State.learnAtomic s line r holders).fixed = s.fixed := by
  simp [State.learnAtomic]

@[simp ↓] theorem State.sendSnoop_fixed (s : State) (line : Nat) (kind : Nat) (a : Nat) : (State.sendSnoop s line kind a).fixed = s.fixed := by
  simp [State.sendSnoop]

@[simp ↓] theorem State.sendSnoops_fixed (s : State) (line : Nat) (kind : Nat) (agents : List Nat) (coarse : Bool) : (State.sendSnoops s line kind agents coarse).fixed = s.fixed := by
  simp [State.sendSnoops]

@[simp ↓] theorem State.reclaimEntry_fixed (s : State) (line : Nat) (a : Nat) : (State.reclaimEntry s line a).fixed = s.fixed := by
  unfold State.reclaimEntry
  try dsimp only
  repeat' (first
    | assumption
    | (simp [*]; done)
    | (intro _)
    | split)

@[simp ↓] theorem State.reclaimTouched_fixed (s : State) (line : Nat) : (State.reclaimTouched s line).fixed = s.fixed := by
  simp [State.reclaimTouched]

@[simp ↓] theorem State.prefetch_fixed (s : State) (line : Nat) (p : Nat) (tenant : Nat) : (State.prefetch s line p tenant).fixed = s.fixed := by
  unfold State.prefetch
  split
  · refine foldl_fixed (fun s a => ?_) _ _
    split <;> simp
  · rfl

@[simp ↓] theorem State.fetchLine_fixed (s : State) (line : Nat) (r : SliceRequest) (x : Transaction) (noPeer : Bool) : (State.fetchLine s line r x noPeer).1.fixed = s.fixed := by
  unfold State.fetchLine
  try dsimp only
  repeat' (first
    | assumption
    | (simp [*]; done)
    | (intro _)
    | split)

@[simp ↓] theorem State.unlock_fixed (s : State) (line : Nat) (x : Transaction) : (State.unlock s line x).fixed = s.fixed := by
  unfold State.unlock
  try dsimp only
  repeat' (first
    | assumption
    | (simp [*]; done)
    | (intro _)
    | split)

@[simp ↓] theorem State.takeWayFuel_fixed (a0 : Nat) (a1 : State) (a2 : Nat) : (State.takeWayFuel a0 a1 a2).1.fixed = a1.fixed := by
  induction a0 generalizing a1 with
  | zero => rfl
  | succ k ih =>
    unfold State.takeWayFuel
    dsimp only
    repeat' split
    all_goals simp [ih]

@[simp ↓] theorem State.takeWay_fixed (s : State) (line : Nat) : (State.takeWay s line).1.fixed = s.fixed := by
  unfold State.takeWay
  try dsimp only
  repeat' (first
    | assumption
    | simp [*])

@[simp ↓] theorem State.concludeRequest_fixed (s : State) (line : Nat) (x : Transaction) (r : SliceRequest) (cached : Bool) : (State.concludeRequest s line x r cached).fixed = s.fixed := by
  unfold State.concludeRequest
  try dsimp only
  repeat' (first
    | assumption
    | (simp [*]; done)
    | (intro _)
    | split)

@[simp ↓] theorem State.completeRequest_fixed (s : State) (line : Nat) (x : Transaction) (r : SliceRequest) (cached : Bool) : (State.completeRequest s line x r cached).fixed = s.fixed := by
  unfold State.completeRequest
  try dsimp only
  repeat' (first
    | assumption
    | (simp [*]; done)
    | (intro _)
    | split
    | (refine (foldl_fixed ?_ _ _).trans ?_)
    | (refine ((congrArg (fun z => State.fixed z.1) ‹_ = (_, _)›).symm.trans ?_))
    | simp)

@[simp ↓] theorem State.farAtomic_fixed (s : State) (line : Nat) (x : Transaction) (r : SliceRequest) (o : AtomicOp) : (State.farAtomic s line x r o).fixed = s.fixed := by
  unfold State.farAtomic
  try dsimp only
  repeat' (first
    | assumption
    | (simp [*]; done)
    | (intro _)
    | split)

@[simp ↓] theorem State.remoteAct_fixed (s : State) (line : Nat) (p : Nat) (x : Transaction) (r : SliceRequest) : (State.remoteAct s line p x r).fixed = s.fixed := by
  unfold State.remoteAct
  try dsimp only
  repeat' (first
    | assumption
    | (simp [*]; done)
    | (intro _)
    | split)

@[simp ↓] theorem State.advanceRequest_fixed (s : State) (line : Nat) (x : Transaction) (r : SliceRequest) : (State.advanceRequest s line x r).fixed = s.fixed := by
  unfold State.advanceRequest
  try dsimp only
  repeat' (first
    | assumption
    | (simp [*]; done)
    | (intro _)
    | split)

@[simp ↓] theorem State.openRequest_fixed (s : State) (line : Nat) (r : SliceRequest) (queue : List SliceRequest) : (State.openRequest s line r queue).fixed = s.fixed := by
  unfold State.openRequest
  try dsimp only
  repeat' (first
    | assumption
    | (simp [*]; done)
    | (intro _)
    | split)

@[simp ↓] theorem State.recallLine_fixed (s : State) (line : Nat) (work : Work) (queue : List SliceRequest) (agents : List Nat) : (State.recallLine s line work queue agents).fixed = s.fixed := by
  simp [State.recallLine]

@[simp ↓] theorem State.untrack_fixed (s : State) (line : Nat) (tenant : Nat) (home : Option Nat) : (State.untrack s line tenant home).fixed = s.fixed := by
  simp [State.untrack]

@[simp ↓] theorem State.recoverDir_fixed (s : State) (line : Nat) (r : SliceRequest) (queue : List SliceRequest) : (State.recoverDir s line r queue).fixed = s.fixed := by
  simp [State.recoverDir]

@[simp ↓] theorem State.beginRequest_fixed (s : State) (line : Nat) (r : SliceRequest) (queue : List SliceRequest) : (State.beginRequest s line r queue).fixed = s.fixed := by
  unfold State.beginRequest
  try dsimp only
  repeat' (first
    | assumption
    | (simp [*]; done)
    | (intro _)
    | split)

@[simp ↓] theorem State.direct_fixed (s : State) (line : Nat) (r : SliceRequest) : (State.direct s line r).fixed = s.fixed := by
  unfold State.direct
  try dsimp only
  repeat' (first
    | assumption
    | (simp [*]; done)
    | (intro _)
    | split)

@[simp ↓] theorem State.arriveRequest_fixed (s : State) (line : Nat) (r : SliceRequest) : (State.arriveRequest s line r).fixed = s.fixed := by
  unfold State.arriveRequest
  try dsimp only
  repeat' (first
    | assumption
    | (simp [*]; done)
    | (intro _)
    | split)

@[simp ↓] theorem State.handOff_fixed (s : State) (line : Nat) : (State.handOff s line).fixed = s.fixed := by
  unfold State.handOff
  try dsimp only
  repeat' (first
    | assumption
    | (simp [*]; done)
    | (intro _)
    | split)

@[simp ↓] theorem State.recallDone_fixed (s : State) (line : Nat) (x : Transaction) (waiter : Option Nat) : (State.recallDone s line x waiter).fixed = s.fixed := by
  unfold State.recallDone
  try dsimp only
  repeat' (first
    | assumption
    | (simp [*]; done)
    | (intro _)
    | split
    | (refine (foldl_fixed ?_ _ _).trans ?_)
    | (refine ((congrArg (fun z => State.fixed z.1) ‹_ = (_, _)›).symm.trans ?_))
    | simp)

@[simp ↓] theorem State.answerHome_fixed (s : State) (line : Nat) (x : Transaction) (p : Nat) (txn : Nat) (op : Nat) : (State.answerHome s line x p txn op).fixed = s.fixed := by
  unfold State.answerHome
  try dsimp only
  repeat' (first
    | assumption
    | (simp [*]; done)
    | (intro _)
    | split)

@[simp ↓] theorem State.readEnds_fixed (s : State) (line : Nat) (data : Option (LineData × Bool)) (devLoad : Nat) : (State.readEnds s line data devLoad).fixed = s.fixed := by
  unfold State.readEnds
  try dsimp only
  repeat' (first
    | assumption
    | (simp [*]; done)
    | (intro _)
    | split)

@[simp ↓] theorem State.homeAnswers_fixed (s : State) (line : Nat) (x : Transaction) (r : SliceRequest) (op : Nat) (old : Nat) (data : Option (LineData × Bool)) : (State.homeAnswers s line x r op old data).fixed = s.fixed := by
  unfold State.homeAnswers
  try dsimp only
  repeat' (first
    | assumption
    | (simp [*]; done)
    | (intro _)
    | split)

@[simp ↓] theorem State.resumeAside_fixed (s : State) (line : Nat) : (State.resumeAside s line).fixed = s.fixed := by
  unfold State.resumeAside
  try dsimp only
  repeat' (first
    | assumption
    | (simp [*]; done)
    | (intro _)
    | split)

@[simp ↓] theorem State.advance_fixed (s : State) (line : Nat) : (State.advance s line).fixed = s.fixed := by
  unfold State.advance
  try dsimp only
  repeat' (first
    | assumption
    | (simp [*]; done)
    | (intro _)
    | split)

@[simp ↓] theorem State.snoopAnswered_fixed (s : State) (line : Nat) (a : Nat) (kept : Bool) (data : Option (LineData × Bool)) : (State.snoopAnswered s line a kept data).fixed = s.fixed := by
  unfold State.snoopAnswered
  try dsimp only
  repeat' (first
    | assumption
    | (simp [*]; done)
    | (intro _)
    | split)

@[simp ↓] theorem State.discardRequests_fixed (s : State) (a : Nat) : (State.discardRequests s a).fixed = s.fixed := by
  simp [State.discardRequests]

@[simp ↓] theorem State.agentDies_fixed (s : State) (a : Nat) (reason : Nat) : (State.agentDies s a reason).fixed = s.fixed := by
  simp [State.agentDies]

@[simp ↓] theorem State.agentWakes_fixed (s : State) (a : Nat) : (State.agentWakes s a).fixed = s.fixed := by
  simp [State.agentWakes]

@[simp ↓] theorem State.scanEnds_fixed (s : State) (a : Nat) : (State.scanEnds s a).fixed = s.fixed := by
  unfold State.scanEnds
  try dsimp only
  repeat' (first
    | assumption
    | (simp [*]; done)
    | (intro _)
    | split)

@[simp ↓] theorem State.storeWb_fixed (s : State) (line : Nat) (r : SliceRequest) : (State.storeWb s line r).fixed = s.fixed := by
  unfold State.storeWb
  try dsimp only
  repeat' (first
    | assumption
    | simp [*]
    | (intro _)
    | split)

@[simp ↓] theorem State.release_fixed (s : State) (line : Nat) (r : SliceRequest) : (State.release s line r).fixed = s.fixed := by
  unfold State.release
  try dsimp only
  repeat' (first
    | assumption
    | (simp [*]; done)
    | (intro _)
    | split)

@[simp ↓] theorem State.sampleNear_fixed (s : State) (line : Nat) (p : Nat) (ticks : Nat) : (State.sampleNear s line p ticks).fixed = s.fixed := by
  simp [State.sampleNear]

@[simp ↓] theorem State.noteDevLoad_fixed (s : State) (p : Nat) (level : Nat) : (State.noteDevLoad s p level).fixed = s.fixed := by
  simp [State.noteDevLoad]

@[simp ↓] theorem State.resumeAfterWrite_fixed (s : State) (line : Nat) : (State.resumeAfterWrite s line).fixed = s.fixed := by
  unfold State.resumeAfterWrite
  try dsimp only
  repeat' (first
    | assumption
    | (simp [*]; done)
    | (intro _)
    | split
    | (refine (foldl_fixed ?_ _ _).trans ?_)
    | (refine ((congrArg (fun z => State.fixed z.1) ‹_ = (_, _)›).symm.trans ?_))
    | simp)

@[simp ↓] theorem State.flushTenant_fixed (s : State) (t : Nat) : (State.flushTenant s t).fixed = s.fixed := by
  simp [State.flushTenant]

@[simp ↓] theorem State.writeBack_fixed (s : State) (sel : LoftLine → Bool) : (State.writeBack s sel).fixed = s.fixed := by
  simp [State.writeBack]

@[simp ↓] theorem State.loseHeld_fixed (s : State) : (State.loseHeld s).fixed = s.fixed := by
  simp [State.loseHeld]

@[simp ↓] theorem State.failReads_fixed (s : State) (p : Nat) : (State.failReads s p).fixed = s.fixed := by
  unfold State.failReads
  try dsimp only
  repeat' (first
    | assumption
    | (simp [*]; done)
    | (intro _)
    | split
    | (refine (foldl_fixed ?_ _ _).trans ?_))

@[simp ↓] theorem State.failWrites_fixed (s : State) (p : Nat) : (State.failWrites s p).fixed = s.fixed := by
  unfold State.failWrites
  try dsimp only
  repeat' (first
    | assumption
    | simp [*]
    | (intro _)
    | split
    | (refine (foldl_fixed ?_ _ _).trans ?_))

@[simp ↓] theorem State.writeHeld_fixed (s : State) (p : Nat) : (State.writeHeld s p).fixed = s.fixed := by
  simp [State.writeHeld]

@[simp ↓] theorem State.modSw_fixed (s : State) (f : Switch → Switch) : (State.modSw s f).fixed = s.fixed := by
  simp [State.modSw]

@[simp ↓] theorem State.modFrame_fixed (s : State) (n : Nat) (f : Frame → Frame) : (State.modFrame s n f).fixed = s.fixed := by
  simp [State.modFrame]

@[simp ↓] theorem State.sagAllowance_fixed (s : State) : (State.sagAllowance s).fixed = s.fixed := by
  simp [State.sagAllowance]

@[simp ↓] theorem State.grantCredit_fixed (s : State) (p : Nat) : (State.grantCredit s p).fixed = s.fixed := by
  simp [State.grantCredit]

@[simp ↓] theorem State.spendCredit_fixed (s : State) (p : Nat) (c : Nat) (w : Nat) : (State.spendCredit s p c w).fixed = s.fixed := by
  simp [State.spendCredit]

@[simp ↓] theorem State.giveCredit_fixed (s : State) (p : Nat) (c : Nat) (w : Nat) : (State.giveCredit s p c w).fixed = s.fixed := by
  simp [State.giveCredit]

@[simp ↓] theorem State.releaseCredit_fixed (s : State) (p : Nat) (c : Nat) (w : Nat) : (State.releaseCredit s p c w).fixed = s.fixed := by
  simp [State.releaseCredit]

@[simp ↓] theorem State.freeCredit_fixed (s : State) (kind : FrameKind) (p : Nat) (c : Nat) (w : Nat) : (State.freeCredit s kind p c w).fixed = s.fixed := by
  unfold State.freeCredit
  try dsimp only
  repeat' (first
    | assumption
    | simp [*]
    | (intro _)
    | split)

@[simp ↓] theorem State.removeFrame_fixed (s : State) (n : Nat) : (State.removeFrame s n).fixed = s.fixed := by
  unfold State.removeFrame
  try dsimp only
  repeat' (first
    | assumption
    | (simp [*]; done)
    | (intro _)
    | split)

@[simp ↓] theorem State.discardFrame_fixed (s : State) (n : Nat) (answer : Bool) : (State.discardFrame s n answer).fixed = s.fixed := by
  unfold State.discardFrame
  try dsimp only
  repeat' (first
    | assumption
    | (simp [*]; done)
    | (intro _)
    | split)

@[simp ↓] theorem State.countDropped_fixed (s : State) (f : Frame) : (State.countDropped s f).fixed = s.fixed := by
  simp [State.countDropped]

@[simp ↓] theorem State.pushOut_fixed (s : State) (below : Nat) (need : Nat) (a3 : Nat) : (State.pushOut s below need a3).fixed = s.fixed := by
  fun_induction State.pushOut s below need a3 <;> simp_all

theorem State.makeRoom_fixed {s t : State} {below need : Nat} (h : s.makeRoom below need = some t) : t.fixed = s.fixed := by
  unfold State.makeRoom at h
  dsimp only at h
  split at h
  · cases h; simp
  · cases h
@[simp ↓] theorem State.takeLoans_fixed (s : State) (p : Nat) (a2 : Nat) : (State.takeLoans s p a2).fixed = s.fixed := by
  induction a2 generalizing s with
  | zero => rfl
  | succ k ih =>
    unfold State.takeLoans
    repeat' split
    · rename_i h
      simp [ih, State.makeRoom_fixed h]
    · simp
    · rfl

@[simp ↓] theorem State.lendAll_fixed (s : State) : (State.lendAll s).fixed = s.fixed := by
  simp [State.lendAll]

@[simp ↓] theorem State.overdraw_fixed (s : State) (f : Frame) : (State.overdraw s f).fixed = s.fixed := by
  simp [State.overdraw]

@[simp ↓] theorem State.toSpread_fixed (s : State) (n : Nat) : (State.toSpread s n).fixed = s.fixed := by
  unfold State.toSpread
  try dsimp only
  repeat' (first
    | assumption
    | simp [*]
    | (intro _)
    | split)

theorem State.charge_fixed {s t : State} {f : Frame} {n : Nat} (h : s.charge f = some (t, n)) : t.fixed = s.fixed := by
  unfold State.charge at h
  dsimp only at h
  repeat' split at h
  all_goals first
    | (cases h; done)
    | (cases h; rfl)
    | (cases h; simp)
    | (obtain ⟨x, hx, e⟩ := Option.map_eq_some_iff.1 h; cases e; exact State.makeRoom_fixed hx)
@[simp ↓] theorem State.takeIn_fixed (s : State) (f : Frame) (admission : Bool) : (State.takeIn s f admission).fixed = s.fixed := by
  unfold State.takeIn
  split
  · simp
  · rename_i s1 acct h
    have e := State.charge_fixed h
    dsimp only
    split <;> simp [e]

@[simp ↓] theorem State.spreadWagon_fixed (s : State) (i : Nat) (j : Nat) (w : Wagon) : (State.spreadWagon s i j w).fixed = s.fixed := by
  unfold State.spreadWagon
  try dsimp only
  repeat' (first
    | assumption
    | simp [*]
    | (intro _)
    | split)

@[simp ↓] theorem State.spreadQueued_fixed (s : State) (i : Nat) (j : Nat) (a3 : Nat) : (State.spreadQueued s i j a3).1.fixed = s.fixed := by
  fun_induction State.spreadQueued s i j a3 <;> simp_all

@[simp ↓] theorem State.startSprayed_fixed (s : State) (i : Nat) (j : Nat) (a3 : Nat) : (State.startSprayed s i j a3).fixed = s.fixed := by
  induction a3 generalizing s with
  | zero => rfl
  | succ k ih =>
    unfold State.startSprayed
    dsimp only
    repeat' split
    all_goals simp [ih]

@[simp ↓] theorem State.spreadFrom_fixed (s : State) (k : Nat) (i : Nat) : (State.spreadFrom s k i).fixed = s.fixed := by
  simp [State.spreadFrom]

@[simp ↓] theorem State.abortFrame_fixed (s : State) (n : Nat) (f : Frame) : (State.abortFrame s n f).fixed = s.fixed := by
  simp [State.abortFrame]

@[simp ↓] theorem State.toRing_fixed (s : State) (f : Frame) : (State.toRing s f).fixed = s.fixed := by
  simp [State.toRing]

@[simp ↓] theorem State.frameWhole_fixed (s : State) (n : Nat) (f : Frame) : (State.frameWhole s n f).fixed = s.fixed := by
  simp [State.frameWhole]

@[simp ↓] theorem State.deliverWagon_fixed (s : State) (w : Wagon) : (State.deliverWagon s w).fixed = s.fixed := by
  unfold State.deliverWagon
  try dsimp only
  repeat' (first
    | assumption
    | simp [*]
    | (intro _)
    | split)

@[simp ↓] theorem State.badTag_fixed (s : State) (j : Nat) (st : Nat) (q : List Wagon) : (State.badTag s j st q).1.fixed = s.fixed := by
  unfold State.badTag
  try dsimp only
  repeat' (first
    | assumption
    | (simp [*]; done)
    | (intro _)
    | split
    | (refine (foldl_fixed ?_ _ _).trans ?_)
    | (refine ((congrArg (fun z => State.fixed z.1) ‹_ = (_, _)›).symm.trans ?_))
    | simp)

@[simp ↓] theorem State.deliverFrom_fixed (s : State) (k : Nat) (j : Nat) : (State.deliverFrom s k j).fixed = s.fixed := by
  unfold State.deliverFrom
  try dsimp only
  repeat' (first
    | assumption
    | (simp [*]; done)
    | (intro _)
    | split)

@[simp ↓] theorem State.flushFrame_fixed (s : State) (p : Nat) (n : Nat) : (State.flushFrame s p n).fixed = s.fixed := by
  unfold State.flushFrame
  try dsimp only
  repeat' (first
    | assumption
    | (simp [*]; done)
    | (intro _)
    | split)

@[simp ↓] theorem State.answerOpens_fixed (s : State) (p : Nat) : (State.answerOpens s p).fixed = s.fixed := by
  simp [State.answerOpens]

@[simp ↓] theorem State.flushPort_fixed (s : State) (p : Nat) : (State.flushPort s p).fixed = s.fixed := by
  simp [State.flushPort]

@[simp ↓] theorem State.round_fixed (s : State) : (State.round s).fixed = s.fixed := by
  simp [State.round]

@[simp ↓] theorem State.mirror_fixed (s : State) (p : Nat) (dir : Nat) (f : FrameIn) (len : Nat) (tenant : Nat) : (State.mirror s p dir f len tenant).fixed = s.fixed := by
  simp [State.mirror]

@[simp ↓] theorem State.modQos_fixed (s : State) (f : Qos → Qos) : (State.modQos s f).fixed = s.fixed := by
  simp [State.modQos]

@[simp ↓] theorem State.emptyShapers_fixed (s : State) : (State.emptyShapers s).fixed = s.fixed := by
  simp [State.emptyShapers]

@[simp ↓] theorem State.chargeTenant_fixed (s : State) (t : Nat) (n : Nat) : (State.chargeTenant s t n).fixed = s.fixed := by
  simp [State.chargeTenant]

@[simp ↓] theorem State.chargeClass_fixed (s : State) (p : Nat) (c : Nat) (n : Nat) : (State.chargeClass s p c n).fixed = s.fixed := by
  simp [State.chargeClass]

@[simp ↓] theorem State.modTimetable_fixed (s : State) (p : Nat) (f : TimetableState → TimetableState) : (State.modTimetable s p f).fixed = s.fixed := by
  simp [State.modTimetable]

@[simp ↓] theorem State.noteOpened_fixed (s : State) (p : Nat) (before : Nat) : (State.noteOpened s p before).fixed = s.fixed := by
  simp [State.noteOpened]

@[simp ↓] theorem State.nextEntry_fixed (s : State) (p : Nat) : (State.nextEntry s p).fixed = s.fixed := by
  simp [State.nextEntry]

@[simp ↓] theorem State.takeover_fixed (s : State) (p : Nat) : (State.takeover s p).fixed = s.fixed := by
  simp [State.takeover]

@[simp ↓] theorem State.catchUp_fixed (s : State) (p : Nat) (a2 : Nat) : (State.catchUp s p a2).fixed = s.fixed := by
  fun_induction State.catchUp s p a2 <;> simp_all

@[simp ↓] theorem State.stepTimetable_fixed (s : State) (p : Nat) : (State.stepTimetable s p).fixed = s.fixed := by
  unfold State.stepTimetable
  try dsimp only
  repeat' (first
    | assumption
    | (simp [*]; done)
    | (intro _)
    | split)

@[simp ↓] theorem State.clearTimetable_fixed (s : State) (p : Nat) : (State.clearTimetable s p).fixed = s.fixed := by
  simp [State.clearTimetable]

@[simp ↓] theorem State.holdFlits_fixed (s : State) (p : Nat) (len : Nat) : (State.holdFlits s p len).fixed = s.fixed := by
  simp [State.holdFlits]

@[simp ↓] theorem State.visit_fixed (s : State) (p : Nat) (a2 : Nat) (a3 : Nat) : (State.visit s p a2 a3).1.fixed = s.fixed := by
  fun_induction State.visit s p a2 a3 <;> simp_all

@[simp ↓] theorem State.chooseFrame_fixed (s : State) (p : Nat) : (State.chooseFrame s p).1.fixed = s.fixed := by
  unfold State.chooseFrame
  try dsimp only
  repeat' (first
    | assumption
    | simp [*]
    | (intro _)
    | split)

@[simp ↓] theorem State.choose_fixed (s : State) (p : Nat) : (State.choose s p).1.fixed = s.fixed := by
  unfold State.choose
  try dsimp only
  repeat' (first
    | assumption
    | (simp [*]; done)
    | (intro _)
    | split)

@[simp ↓] theorem State.readGranary_fixed (s : State) (n : Nat) (f : Frame) : (State.readGranary s n f).fixed = s.fixed := by
  simp [State.readGranary]

@[simp ↓] theorem State.sendOff_fixed (s : State) (p : Nat) (c : Nat) (n : Nat) (overrun : Bool) : (State.sendOff s p c n overrun).fixed = s.fixed := by
  unfold State.sendOff
  try dsimp only
  repeat' (first
    | assumption
    | (simp [*]; done)
    | (intro _)
    | split)

@[simp ↓] theorem State.startFrame_fixed (s : State) (p : Nat) (c : Nat) (n : Nat) (overrun : Bool) : (State.startFrame s p c n overrun).fixed = s.fixed := by
  unfold State.startFrame
  try dsimp only
  repeat' (first
    | assumption
    | (simp [*]; done)
    | (intro _)
    | split)

@[simp ↓] theorem State.stepFtb_fixed (s : State) (d : Nat) : (State.stepFtb s d).fixed = s.fixed := by
  simp [State.stepFtb]

@[simp ↓] theorem State.servo_fixed (s : State) (offset : Int) : (State.servo s offset).fixed = s.fixed := by
  simp [State.servo]

@[simp ↓] theorem State.modOrd_fixed (s : State) (f : Orders → Orders) : (State.modOrd s f).fixed = s.fixed := by
  simp [State.modOrd]

@[simp ↓] theorem State.modMailbox_fixed (s : State) (f : Mailbox → Mailbox) : (State.modMailbox s f).fixed = s.fixed := by
  simp [State.modMailbox]

@[simp ↓] theorem State.freeze_fixed (s : State) (o : Order) : (State.freeze s o).fixed = s.fixed := by
  unfold State.freeze
  try dsimp only
  repeat' (first
    | assumption
    | (simp [*]; done)
    | (intro _)
    | split)

@[simp ↓] theorem State.accept_fixed (s : State) (o : Order) (arrived : Nat) : (State.accept s o arrived).fixed = s.fixed := by
  simp [State.accept]

@[simp ↓] theorem State.submit_fixed (s : State) (o : Order) (wellFormed : Bool) (arrived : Nat) : (State.submit s o wellFormed arrived).fixed = s.fixed := by
  unfold State.submit
  try dsimp only
  repeat' (first
    | assumption
    | simp [*]
    | (intro _)
    | split)

@[simp ↓] theorem State.submitFrame_fixed (s : State) (frame : List Byte) (priv : Nat) (tenant : Nat) (channel : Nat) (largest : Nat) (replyTo : ReplyTo) (arrived : Nat) : (State.submitFrame s frame priv tenant channel largest replyTo arrived).fixed = s.fixed := by
  simp [State.submitFrame]

@[simp ↓] theorem State.dispatch_fixed (s : State) (c : Nat) : (State.dispatch s c).fixed = s.fixed := by
  unfold State.dispatch
  try dsimp only
  repeat' (first
    | assumption
    | (simp [*]; done)
    | (intro _)
    | split)

@[simp ↓] theorem State.windowGo_fixed (s : State) (t : Nat) (ctl : Nat) : (State.windowGo s t ctl).fixed = s.fixed := by
  simp [State.windowGo]

@[simp ↓] theorem State.windowWrite_fixed (s : State) (t : Nat) (off : Nat) (bytes : List Byte) : (State.windowWrite s t off bytes).fixed = s.fixed := by
  simp [State.windowWrite]

@[simp ↓] theorem State.breakObject_fixed (s : State) (cls : Nat) (idx : Nat) (sub : Nat) : (State.breakObject s cls idx sub).fixed = s.fixed := by
  simp [State.breakObject]

@[simp ↓] theorem State.findBroken_fixed (s : State) (classes : List Nat) : (State.findBroken s classes).fixed = s.fixed := by
  simp [State.findBroken]

@[simp ↓] theorem State.answerRefusal_fixed (s : State) (p : Nat) (tag : Nat) (kind : FrameKind) : (State.answerRefusal s p tag kind).fixed = s.fixed := by
  unfold State.answerRefusal
  try dsimp only
  repeat' (first
    | assumption
    | simp [*]
    | (intro _)
    | split)

@[simp ↓] theorem State.refusedAnswer_fixed (s : State) (f : FrameIn) : (State.refusedAnswer s f).fixed = s.fixed := by
  simp [State.refusedAnswer]

@[simp ↓] theorem State.notice_fixed (s : State) (f : FrameIn) (t : Nat) : (State.notice s f t).fixed = s.fixed := by
  unfold State.notice
  try dsimp only
  repeat' (first
    | assumption
    | (simp [*]; done)
    | (intro _)
    | split)

@[simp ↓] theorem State.capture_fixed (s : State) (f : FrameIn) (t : Nat) (reason : Nat) (rule : Option Nat) : (State.capture s f t reason rule).fixed = s.fixed := by
  simp [State.capture]

@[simp ↓] theorem State.countViolation_fixed (s : State) (t : Nat) : (State.countViolation s t).fixed = s.fixed := by
  simp [State.countViolation]

@[simp ↓] theorem State.countRefusal_fixed (s : State) (f : FrameIn) (t : Nat) : (State.countRefusal s f t).fixed = s.fixed := by
  simp [State.countRefusal]

@[simp ↓] theorem State.refuseFrame_fixed (s : State) (f : FrameIn) (t : Nat) (reason : Nat) (rule : Option Nat) : (State.refuseFrame s f t reason rule).fixed = s.fixed := by
  simp [State.refuseFrame]

@[simp ↓] theorem State.countReset_fixed (s : State) (f : FrameIn) (t : Nat) : (State.countReset s f t).fixed = s.fixed := by
  simp [State.countReset]

@[simp ↓] theorem State.rejectReset_fixed (s : State) (f : FrameIn) (t : Nat) : (State.rejectReset s f t).fixed = s.fixed := by
  simp [State.rejectReset]

@[simp ↓] theorem State.windowAccess_fixed (s : State) (f : FrameIn) (t : Nat) : (State.windowAccess s f t).fixed = s.fixed := by
  unfold State.windowAccess
  try dsimp only
  repeat' (first
    | assumption
    | (simp [*]; done)
    | (intro _)
    | split)

@[simp ↓] theorem State.counterAccess_fixed (s : State) (f : FrameIn) (t : Nat) : (State.counterAccess s f t).fixed = s.fixed := by
  simp [State.counterAccess]

@[simp ↓] theorem State.modJunction_fixed (s : State) (f : Junction → Junction) : (State.modJunction s f).fixed = s.fixed := by
  simp [State.modJunction]

@[simp ↓] theorem State.sendWrap_fixed (s : State) (src : FrameIn) (port : Nat) (cls : Nat) (tenant : Nat) (tag : Nat) (header : List Byte) (body : List Byte) (len : Nat) : (State.sendWrap s src port cls tenant tag header body len).fixed = s.fixed := by
  simp [State.sendWrap]

@[simp ↓] theorem State.junctionRefuse_fixed (s : State) (f : FrameIn) (answer : Nat) : (State.junctionRefuse s f answer).fixed = s.fixed := by
  unfold State.junctionRefuse
  try dsimp only
  repeat' (first
    | assumption
    | (simp [*]; done)
    | (intro _)
    | split)

@[simp ↓] theorem State.trunkRequest_fixed (s : State) (f : FrameIn) (w : Nat) (t : Nat) : (State.trunkRequest s f w t).fixed = s.fixed := by
  unfold State.trunkRequest
  extract_lets
  repeat' split
  all_goals simp

@[simp ↓] theorem State.startTransfer_fixed (s : State) (w : Nat) : (State.startTransfer s w).fixed = s.fixed := by
  unfold State.startTransfer
  try dsimp only
  repeat' (first
    | assumption
    | simp [*]
    | (intro _)
    | split)

@[simp ↓] theorem State.busAccess_fixed (s : State) (f : FrameIn) (w : Nat) (t : Nat) : (State.busAccess s f w t).fixed = s.fixed := by
  simp [State.busAccess]

@[simp ↓] theorem State.junctionRequest_fixed (s : State) (f : FrameIn) (w : Nat) (t : Nat) : (State.junctionRequest s f w t).fixed = s.fixed := by
  simp [State.junctionRequest]

@[simp ↓] theorem State.sendFrame_fixed (s : State) (f : FrameIn) (cache : Nat) (order : Nat) (tenant : Nat) (dport : Nat) (vppb : Option (Nat × Nat)) (toLd : Option Nat) (fabric : Option (BitVec 12 × BitVec 12)) : (State.sendFrame s f cache order tenant dport vppb toLd fabric).fixed = s.fixed := by
  simp [State.sendFrame]

@[simp ↓] theorem State.sendRouted_fixed (s : State) (f : FrameIn) (cache : Nat) (order : Nat) (tenant : Nat) : (State.sendRouted s f cache order tenant).fixed = s.fixed := by
  unfold State.sendRouted
  try dsimp only
  repeat' (first
    | assumption
    | simp [*]
    | (intro _)
    | split)

@[simp ↓] theorem State.admitAllowed_fixed (s : State) (f : FrameIn) (t : Nat) (cache : Nat) (order : Nat) (byRule : Bool) : (State.admitAllowed s f t cache order byRule).fixed = s.fixed := by
  unfold State.admitAllowed
  try dsimp only
  repeat' (first
    | assumption
    | (simp [*]; done)
    | (intro _)
    | split)

@[simp ↓] theorem State.admitRequest_fixed (s : State) (f : FrameIn) : (State.admitRequest s f).fixed = s.fixed := by
  unfold State.admitRequest
  try dsimp only
  repeat' (first
    | assumption
    | simp [*]
    | (intro _)
    | split)

@[simp ↓] theorem State.farAnswer_fixed (s : State) (src : FrameIn) (tag : Nat) (err : Nat) (data : List Byte) : (State.farAnswer s src tag err data).fixed = s.fixed := by
  unfold State.farAnswer
  try dsimp only
  repeat' (first
    | assumption
    | simp [*]
    | (intro _)
    | split)

@[simp ↓] theorem State.admitResponse_fixed (s : State) (f : FrameIn) : (State.admitResponse s f).fixed = s.fixed := by
  unfold State.admitResponse
  try dsimp only
  repeat' (first
    | assumption
    | (simp [*]; done)
    | (intro _)
    | split)

@[simp ↓] theorem State.admitFrame_fixed (s : State) (f : FrameIn) : (State.admitFrame s f).fixed = s.fixed := by
  unfold State.admitFrame
  try dsimp only
  repeat' (first
    | assumption
    | (simp [*]; done)
    | (intro _)
    | split)

@[simp ↓] theorem State.withCredit_fixed (s : State) (kind : FrameKind) (p : Nat) (c : Nat) (w : Nat) (act : State → State) (hact : ∀ b0, (act b0).fixed = b0.fixed) : (State.withCredit s kind p c w act).fixed = s.fixed := by
  unfold State.withCredit
  try dsimp only
  repeat' (first
    | assumption
    | simp [*])

@[simp ↓] theorem State.setHp_fixed (s : State) (v : Nat) (b : Nat) (hp : Nat) : (State.setHp s v b hp).fixed = s.fixed := by
  simp [State.setHp]

@[simp ↓] theorem State.chooseBands_fixed (s : State) (p : Nat) : (State.chooseBands s p).fixed = s.fixed := by
  simp [State.chooseBands]

@[simp ↓] theorem State.stationFigures_fixed (s : State) (n : Nat) : (State.stationFigures s n).fixed = s.fixed := by
  simp [State.stationFigures]

@[simp ↓] theorem State.measureLane_fixed (s : State) (l : Nat) : (State.measureLane s l).fixed = s.fixed := by
  simp [State.measureLane]

@[simp ↓] theorem State.settleTest_fixed (s : State) (k : Nat) : (State.settleTest s k).fixed = s.fixed := by
  simp [State.settleTest]

@[simp ↓] theorem State.unlockTest_fixed (s : State) (k : Nat) : (State.unlockTest s k).fixed = s.fixed := by
  simp [State.unlockTest]

@[simp ↓] theorem State.endScan_fixed (s : State) (k : Nat) : (State.endScan s k).fixed = s.fixed := by
  simp [State.endScan]

@[simp ↓] theorem State.stopTest_fixed (s : State) (k : Nat) : (State.stopTest s k).fixed = s.fixed := by
  simp [State.stopTest]

@[simp ↓] theorem State.startDetect_fixed (s : State) (p : Nat) : (State.startDetect s p).fixed = s.fixed := by
  simp [State.startDetect]

@[simp ↓] theorem State.unbindNow_fixed (s : State) (v : Nat) (b : Nat) : (State.unbindNow s v b).fixed = s.fixed := by
  simp [State.unbindNow]

@[simp ↓] theorem State.unbindLater_fixed (s : State) (v : Nat) (b : Nat) : (State.unbindLater s v b).fixed = s.fixed := by
  simp [State.unbindLater]

@[simp ↓] theorem State.vppbDown_fixed (s : State) (v : Nat) (b : Nat) : (State.vppbDown s v b).fixed = s.fixed := by
  simp [State.vppbDown]

@[simp ↓] theorem State.settleVppb_fixed (s : State) (v : Nat) (b : Nat) : (State.settleVppb s v b).fixed = s.fixed := by
  simp [State.settleVppb]

@[simp ↓] theorem State.vppbsUp_fixed (s : State) (p : Nat) : (State.vppbsUp s p).fixed = s.fixed := by
  simp [State.vppbsUp]

@[simp ↓] theorem State.junctionPortDown_fixed (s : State) (p : Nat) : (State.junctionPortDown s p).fixed = s.fixed := by
  simp [State.junctionPortDown]

@[simp ↓] theorem State.portAgentsDie_fixed (s : State) (p : Nat) : (State.portAgentsDie s p).fixed = s.fixed := by
  simp [State.portAgentsDie]

@[simp ↓] theorem State.abandonIde_fixed (s : State) (p : Nat) : (State.abandonIde s p).fixed = s.fixed := by
  unfold State.abandonIde
  try dsimp only
  repeat' (first
    | assumption
    | simp [*]
    | (intro _)
    | split)

@[simp ↓] theorem State.linkDownTo_fixed (s : State) (p : Nat) (link : Nat) : (State.linkDownTo s p link).fixed = s.fixed := by
  simp [State.linkDownTo]

@[simp ↓] theorem State.dropLink_fixed (s : State) (p : Nat) : (State.dropLink s p).fixed = s.fixed := by
  simp [State.dropLink]

@[simp ↓] theorem State.assignLanes_fixed (s : State) (p : Nat) (width : Nat) (reversed : Bool) : (State.assignLanes s p width reversed).fixed = s.fixed := by
  simp [State.assignLanes]

@[simp ↓] theorem State.recordTraining_fixed (s : State) (p : Nat) (i : LinkInfo) : (State.recordTraining s p i).fixed = s.fixed := by
  simp [State.recordTraining]

@[simp ↓] theorem State.linkUp_fixed (s : State) (p : Nat) (i : LinkInfo) : (State.linkUp s p i).fixed = s.fixed := by
  simp [State.linkUp]

@[simp ↓] theorem State.dpcTrigger_fixed (s : State) (p : Nat) (reason : Nat) : (State.dpcTrigger s p reason).fixed = s.fixed := by
  simp [State.dpcTrigger]

@[simp ↓] theorem State.containPort_fixed (s : State) (p : Nat) (trigger : Nat) (f : Containment → Containment) : (State.containPort s p trigger f).fixed = s.fixed := by
  simp [State.containPort]

@[simp ↓] theorem State.releasePort_fixed (s : State) (p : Nat) (f : Containment → Containment) : (State.releasePort s p f).fixed = s.fixed := by
  simp [State.releasePort]

@[simp ↓] theorem State.containBySlot_fixed (s : State) (p : Nat) : (State.containBySlot s p).fixed = s.fixed := by
  simp [State.containBySlot]

@[simp ↓] theorem State.releaseSlot_fixed (s : State) (p : Nat) : (State.releaseSlot s p).fixed = s.fixed := by
  simp [State.releaseSlot]

@[simp ↓] theorem State.modPower_fixed (s : State) (f : Power → Power) : (State.modPower s f).fixed = s.fixed := by
  simp [State.modPower]

@[simp ↓] theorem State.setDomain_fixed (s : State) (d : Nat) (v : Nat) : (State.setDomain s d v).fixed = s.fixed := by
  simp [State.setDomain]

@[simp ↓] theorem State.latchCause_fixed (s : State) (src : Nat) : (State.latchCause s src).fixed = s.fixed := by
  simp [State.latchCause]

@[simp ↓] theorem State.wakeBy_fixed (s : State) (src : Nat) : (State.wakeBy s src).fixed = s.fixed := by
  unfold State.wakeBy
  try dsimp only
  repeat' (first
    | assumption
    | (simp [*]; done)
    | (intro _)
    | split)

@[simp ↓] theorem State.drivePerst_fixed (s : State) (n : Nat) : (State.drivePerst s n).fixed = s.fixed := by
  simp [State.drivePerst]

@[simp ↓] theorem State.enterSiding_fixed (s : State) (n : Nat) : (State.enterSiding s n).fixed = s.fixed := by
  simp [State.enterSiding]

@[simp ↓] theorem State.wakeStation_fixed (s : State) (n : Nat) : (State.wakeStation s n).fixed = s.fixed := by
  simp [State.wakeStation]

@[simp ↓] theorem State.detectPorts_fixed (s : State) (n : Nat) : (State.detectPorts s n).fixed = s.fixed := by
  simp [State.detectPorts]

@[simp ↓] theorem State.gateQuadrant_fixed (s : State) (q : Nat) : (State.gateQuadrant s q).fixed = s.fixed := by
  simp [State.gateQuadrant]

@[simp ↓] theorem State.meetGates_fixed (s : State) : (State.meetGates s).fixed = s.fixed := by
  simp [State.meetGates]

@[simp ↓] theorem State.ungateQuadrant_fixed (s : State) (q : Nat) : (State.ungateQuadrant s q).fixed = s.fixed := by
  simp [State.ungateQuadrant]

@[simp ↓] theorem State.requeuePinned_fixed (s : State) : (State.requeuePinned s).fixed = s.fixed := by
  unfold State.requeuePinned
  try dsimp only
  repeat' (first
    | assumption
    | (simp [*]; done)
    | (intro _)
    | split
    | (refine (foldl_fixed ?_ _ _).trans ?_))

@[simp ↓] theorem State.powerUp_fixed (s : State) (d : Nat) : (State.powerUp s d).fixed = s.fixed := by
  simp [State.powerUp]

@[simp ↓] theorem State.followReq_fixed (s : State) (d : Nat) : (State.followReq s d).fixed = s.fixed := by
  simp [State.followReq]

@[simp ↓] theorem State.sequencerReady_fixed (s : State) : (State.sequencerReady s).fixed = s.fixed := by
  simp [State.sequencerReady]

@[simp ↓] theorem State.domainUp_fixed (s : State) (d : Nat) : (State.domainUp s d).fixed = s.fixed := by
  simp [State.domainUp]

@[simp ↓] theorem State.setDomains_fixed (s : State) (ds : List Nat) (v : Nat) : (State.setDomains s ds v).fixed = s.fixed := by
  simp [State.setDomains]

@[simp ↓] theorem State.domainsBack_fixed (s : State) : (State.domainsBack s).fixed = s.fixed := by
  simp [State.domainsBack]

@[simp ↓] theorem State.allLinksDown_fixed (s : State) : (State.allLinksDown s).fixed = s.fixed := by
  simp [State.allLinksDown]

@[simp ↓] theorem State.detectAll_fixed (s : State) : (State.detectAll s).fixed = s.fixed := by
  simp [State.detectAll]

@[simp ↓] theorem State.setSlot_fixed (s : State) (n : Nat) (st : Nat) : (State.setSlot s n st).fixed = s.fixed := by
  simp [State.setSlot]

@[simp ↓] theorem State.setCause_fixed (s : State) (n : Nat) (c : Nat) : (State.setCause s n c).fixed = s.fixed := by
  simp [State.setCause]

@[simp ↓] theorem State.warnPort_fixed (s : State) (n : Nat) : (State.warnPort s n).fixed = s.fixed := by
  unfold State.warnPort
  try dsimp only
  repeat' (first
    | assumption
    | simp [*]
    | (intro _)
    | split)

@[simp ↓] theorem State.warnFrom_fixed (s : State) (n : Nat) (wasHigh : Bool) : (State.warnFrom s n wasHigh).fixed = s.fixed := by
  simp [State.warnFrom]

@[simp ↓] theorem State.unwarnPort_fixed (s : State) (n : Nat) : (State.unwarnPort s n).fixed = s.fixed := by
  unfold State.unwarnPort
  try dsimp only
  repeat' (first
    | assumption
    | simp [*]
    | (intro _)
    | split)

@[simp ↓] theorem State.beginRamp_fixed (s : State) (n : Nat) : (State.beginRamp s n).fixed = s.fixed := by
  simp [State.beginRamp]

@[simp ↓] theorem State.beginPrecharge_fixed (s : State) (n : Nat) : (State.beginPrecharge s n).fixed = s.fixed := by
  simp [State.beginPrecharge]

@[simp ↓] theorem State.tryStart_fixed (s : State) (n : Nat) : (State.tryStart s n).fixed = s.fixed := by
  simp [State.tryStart]

@[simp ↓] theorem State.enterDown_fixed (s : State) (n : Nat) (cause : Nat) (lead : Nat) : (State.enterDown s n cause lead).fixed = s.fixed := by
  simp [State.enterDown]

@[simp ↓] theorem State.reachOff_fixed (s : State) (n : Nat) : (State.reachOff s n).fixed = s.fixed := by
  simp [State.reachOff]

@[simp ↓] theorem State.retryFromNow_fixed (s : State) (n : Nat) : (State.retryFromNow s n).fixed = s.fixed := by
  simp [State.retryFromNow]

@[simp ↓] theorem State.awaitRetry_fixed (s : State) (n : Nat) : (State.awaitRetry s n).fixed = s.fixed := by
  simp [State.awaitRetry]

@[simp ↓] theorem State.endDown_fixed (s : State) (n : Nat) : (State.endDown s n).fixed = s.fixed := by
  simp [State.endDown]

@[simp ↓] theorem State.slotWake_fixed (s : State) : (State.slotWake s).fixed = s.fixed := by
  simp [State.slotWake]

@[simp ↓] theorem State.trip_fixed (s : State) (n : Nat) (cause : Nat) : (State.trip s n cause).fixed = s.fixed := by
  simp [State.trip]

@[simp ↓] theorem State.inhibit_fixed (s : State) (n : Nat) (cause : Nat) : (State.inhibit s n cause).fixed = s.fixed := by
  simp [State.inhibit]

@[simp ↓] theorem State.setSeated_fixed (s : State) (n : Nat) (v : Nat) : (State.setSeated s n v).fixed = s.fixed := by
  simp [State.setSeated]

@[simp ↓] theorem State.startAbsence_fixed (s : State) (n : Nat) : (State.startAbsence s n).fixed = s.fixed := by
  simp [State.startAbsence]

@[simp ↓] theorem State.loseSeat_fixed (s : State) (n : Nat) : (State.loseSeat s n).fixed = s.fixed := by
  simp [State.loseSeat]

@[simp ↓] theorem State.gainSeat_fixed (s : State) (n : Nat) : (State.gainSeat s n).fixed = s.fixed := by
  simp [State.gainSeat]

@[simp ↓] theorem State.enableSlot_fixed (s : State) (n : Nat) (v : Nat) : (State.enableSlot s n v).fixed = s.fixed := by
  simp [State.enableSlot]

@[simp ↓] theorem State.holdLimits_fixed (s : State) (n : Nat) (old : SlotLimits) : (State.holdLimits s n old).fixed = s.fixed := by
  simp [State.holdLimits]

@[simp ↓] theorem State.estimateBulk_fixed (s : State) (n : Nat) (t20 : Option Nat) (t60 : Option Nat) : (State.estimateBulk s n t20 t60).fixed = s.fixed := by
  unfold State.estimateBulk
  try dsimp only
  repeat' (first
    | assumption
    | simp [*]
    | (intro _)
    | split)

@[simp ↓] theorem State.sampleSlot_fixed (s : State) (n : Nat) (vin : Nat) (vout : Nat) (iout : Nat) (tfet : Nat) : (State.sampleSlot s n vin vout iout tfet).fixed = s.fixed := by
  simp [State.sampleSlot]

@[simp ↓] theorem State.reborn_fixed (s : State) (f : Ledger → Ledger) : (State.reborn s f).fixed = s.fixed := by
  simp [State.reborn]

@[simp ↓] theorem State.warmCleared_fixed (s : State) (rounds : Nat) (step : PowerStep) : (State.warmCleared s rounds step).fixed = s.fixed := by
  simp [State.warmCleared]

@[simp ↓] theorem State.logReset_fixed (s : State) (type : Nat) (trigger : Nat) (lost : Nat) : (State.logReset s type trigger lost).fixed = s.fixed := by
  simp [State.logReset]

@[simp ↓] theorem State.abruptWarm_fixed (s : State) (trigger : Nat) : (State.abruptWarm s trigger).fixed = s.fixed := by
  simp [State.abruptWarm]

@[simp ↓] theorem State.writeBackAll_fixed (s : State) : (State.writeBackAll s).fixed = s.fixed := by
  simp [State.writeBackAll]

@[simp ↓] theorem State.controlledWarm_fixed (s : State) : (State.controlledWarm s).fixed = s.fixed := by
  simp [State.controlledWarm]

@[simp ↓] theorem State.warmGoesOn_fixed (s : State) : (State.warmGoesOn s).fixed = s.fixed := by
  simp [State.warmGoesOn]

@[simp ↓] theorem State.askWarm_fixed (s : State) : (State.askWarm s).fixed = s.fixed := by
  simp [State.askWarm]

@[simp ↓] theorem State.sagDown_fixed (s : State) (trigger : Nat) : (State.sagDown s trigger).fixed = s.fixed := by
  simp [State.sagDown]

@[simp ↓] theorem State.coldSlot_fixed (s : State) (old : State) (n : Nat) : (State.coldSlot s old n).fixed = s.fixed := by
  simp [State.coldSlot]

@[simp ↓] theorem State.coldStart_fixed (s : State) (straps : Straps) (clkA : Bool) (clkB : Bool) : (State.coldStart s straps clkA clkB).fixed = s.fixed := by
  simp [State.coldStart]

@[simp ↓] theorem State.stationReset_fixed (s : State) (n : Nat) : (State.stationReset s n).fixed = s.fixed := by
  simp [State.stationReset]

@[simp ↓] theorem State.fatal_fixed (s : State) (code : Nat) (unit : Nat) (ofMc : Bool) (detail : List Nat) : (State.fatal s code unit ofMc detail).fixed = s.fixed := by
  simp [State.fatal]

@[simp ↓] theorem State.modBoot_fixed (s : State) (f : Boot → Boot) : (State.modBoot s f).fixed = s.fixed := by
  simp [State.modBoot]

@[simp ↓] theorem State.modSec_fixed (s : State) (f : Security → Security) : (State.modSec s f).fixed = s.fixed := by
  simp [State.modSec]

@[simp ↓] theorem State.modLedger_fixed (s : State) (f : Ledger → Ledger) : (State.modLedger s f).fixed = s.fixed := by
  simp [State.modLedger]

@[simp ↓] theorem State.programFlash_fixed (s : State) (a1 : Nat) (a2 : List Byte) : (State.programFlash s a1 a2).fixed = s.fixed := by
  fun_induction State.programFlash s a1 a2 <;> simp_all

@[simp ↓] theorem State.deriveDevice_fixed (s : State) : (State.deriveDevice s).fixed = s.fixed := by
  simp [State.deriveDevice]

@[simp ↓] theorem State.deriveAlias_fixed (s : State) : (State.deriveAlias s).fixed = s.fixed := by
  simp [State.deriveAlias]

@[simp ↓] theorem State.bootFails_fixed (s : State) (code : Nat) : (State.bootFails s code).fixed = s.fixed := by
  simp [State.bootFails]

@[simp ↓] theorem State.enterPhase_fixed (s : State) (n : Nat) : (State.enterPhase s n).fixed = s.fixed := by
  simp [State.enterPhase]

@[simp ↓] theorem State.readOther_fixed (s : State) (bank : Nat) : (State.readOther s bank).fixed = s.fixed := by
  simp [State.readOther]

@[simp ↓] theorem State.loadImage_fixed (s : State) (bank : Nat) (fallback : Bool) : (State.loadImage s bank fallback).fixed = s.fixed := by
  simp [State.loadImage]

@[simp ↓] theorem State.tryOther_fixed (s : State) (first : Nat) (code : Nat) : (State.tryOther s first code).fixed = s.fixed := by
  unfold State.tryOther
  try dsimp only
  repeat' (first
    | assumption
    | simp [*]
    | (intro _)
    | split)

@[simp ↓] theorem State.installImage_fixed (s : State) (bank : Nat) : (State.installImage s bank).fixed = s.fixed := by
  simp [State.installImage]

@[simp ↓] theorem State.startResident_fixed (s : State) (c : Nat) : (State.startResident s c).fixed = s.fixed := by
  simp [State.startResident]

@[simp ↓] theorem State.startResidents_fixed (s : State) : (State.startResidents s).fixed = s.fixed := by
  simp [State.startResidents]

@[simp ↓] theorem State.setUpManagement_fixed (s : State) : (State.setUpManagement s).fixed = s.fixed := by
  unfold State.setUpManagement
  try dsimp only
  repeat' (first
    | assumption
    | simp [*]
    | (intro _)
    | split)

@[simp ↓] theorem State.modTrunk_fixed (s : State) (p : Nat) (f : Trunk → Trunk) : (State.modTrunk s p f).fixed = s.fixed := by
  simp [State.modTrunk]

@[simp ↓] theorem State.modCtl_fixed (s : State) (p : Nat) (f : TrunkCtl → TrunkCtl) : (State.modCtl s p f).fixed = s.fixed := by
  simp [State.modCtl]

@[simp ↓] theorem State.countSlots_fixed (s : State) (p : Nat) (evs : List Nat) : (State.countSlots s p evs).fixed = s.fixed := by
  simp [State.countSlots]

@[simp ↓] theorem State.endSending_fixed (s : State) (p : Nat) : (State.endSending s p).fixed = s.fixed := by
  unfold State.endSending
  try dsimp only
  repeat' (first
    | assumption
    | simp [*]
    | (intro _)
    | split)

@[simp ↓] theorem State.protocolError_fixed (s : State) (p : Nat) : (State.protocolError s p).fixed = s.fixed := by
  simp [State.protocolError]

@[simp ↓] theorem State.trunkTagFails_fixed (s : State) (p : Nat) : (State.trunkTagFails s p).fixed = s.fixed := by
  simp [State.trunkTagFails]

@[simp ↓] theorem State.settleHello_fixed (s : State) (p : Nat) (h : Hello) (lanesOk : Nat) (downwards : Bool) : (State.settleHello s p h lanesOk downwards).fixed = s.fixed := by
  unfold State.settleHello
  try dsimp only
  repeat' (first
    | assumption
    | (simp [*]; done)
    | (intro _)
    | split)

@[simp ↓] theorem State.sendHello_fixed (s : State) (p : Nat) : (State.sendHello s p).fixed = s.fixed := by
  unfold State.sendHello
  try dsimp only
  repeat' (first
    | assumption
    | (simp [*]; done)
    | (intro _)
    | split)

@[simp ↓] theorem State.receiveHello_fixed (s : State) (p : Nat) (h : Hello) (lanesOk : Nat) (downwards : Bool) : (State.receiveHello s p h lanesOk downwards).fixed = s.fixed := by
  simp [State.receiveHello]

@[simp ↓] theorem State.sendLevel_fixed (s : State) (p : Nat) (result : Nat) (at_ : Nat) : (State.sendLevel s p result at_).fixed = s.fixed := by
  simp [State.sendLevel]

@[simp ↓] theorem State.enterActive_fixed (s : State) (p : Nat) (e : Equalised) : (State.enterActive s p e).fixed = s.fixed := by
  simp [State.enterActive]

@[simp ↓] theorem State.trunkStageFails_fixed (s : State) (p : Nat) : (State.trunkStageFails s p).fixed = s.fixed := by
  simp [State.trunkStageFails]

@[simp ↓] theorem State.sendMarker_fixed (s : State) (p : Nat) (count : Nat) : (State.sendMarker s p count).fixed = s.fixed := by
  simp [State.sendMarker]

@[simp ↓] theorem State.nextMarker_fixed (s : State) (p : Nat) : (State.nextMarker s p).fixed = s.fixed := by
  simp [State.nextMarker]

@[simp ↓] theorem State.enterRecovery_fixed (s : State) (p : Nat) : (State.enterRecovery s p).fixed = s.fixed := by
  simp [State.enterRecovery]

@[simp ↓] theorem State.startReplay_fixed (s : State) (p : Nat) : (State.startReplay s p).fixed = s.fixed := by
  unfold State.startReplay
  try dsimp only
  repeat' (first
    | assumption
    | (simp [*]; done)
    | (intro _)
    | split)

@[simp ↓] theorem State.applyAck_fixed (s : State) (p : Nat) (ack : Nat) : (State.applyAck s p ack).fixed = s.fixed := by
  simp [State.applyAck]

@[simp ↓] theorem State.applyNak_fixed (s : State) (p : Nat) (ack : Nat) : (State.applyNak s p ack).fixed = s.fixed := by
  unfold State.applyNak
  try dsimp only
  repeat' (first
    | assumption
    | (simp [*]; done)
    | (intro _)
    | split)

@[simp ↓] theorem State.askReplay_fixed (s : State) (p : Nat) : (State.askReplay s p).fixed = s.fixed := by
  simp [State.askReplay]

@[simp ↓] theorem State.applyCredit_fixed (s : State) (p : Nat) (pool : Nat) (credit : Nat) : (State.applyCredit s p pool credit).fixed = s.fixed := by
  simp [State.applyCredit]

@[simp ↓] theorem State.applyChange_fixed (s : State) (p : Nat) (c : Nat × Nat) : (State.applyChange s p c).fixed = s.fixed := by
  simp [State.applyChange]

@[simp ↓] theorem State.commandChange_fixed (s : State) (p : Nat) (c : Nat × Nat) : (State.commandChange s p c).fixed = s.fixed := by
  simp [State.commandChange]

@[simp ↓] theorem State.wantChange_fixed (s : State) (p : Nat) (c : Nat × Nat) : (State.wantChange s p c).fixed = s.fixed := by
  simp [State.wantChange]

@[simp ↓] theorem State.serveChange_fixed (s : State) (p : Nat) (c : Nat × Nat) : (State.serveChange s p c).fixed = s.fixed := by
  simp [State.serveChange]

@[simp ↓] theorem State.endRecovery_fixed (s : State) (p : Nat) : (State.endRecovery s p).fixed = s.fixed := by
  unfold State.endRecovery
  try dsimp only
  repeat' (first
    | assumption
    | simp [*])

@[simp ↓] theorem State.dropLane_fixed (s : State) (p : Nat) (lane : Nat) : (State.dropLane s p lane).fixed = s.fixed := by
  simp [State.dropLane]

@[simp ↓] theorem State.badMarker_fixed (s : State) (p : Nat) (lane : Nat) : (State.badMarker s p lane).fixed = s.fixed := by
  simp [State.badMarker]

@[simp ↓] theorem State.setReversed_fixed (s : State) (p : Nat) (r : Bool) : (State.setReversed s p r).fixed = s.fixed := by
  simp [State.setReversed]

@[simp ↓] theorem State.receiveMarker_fixed (s : State) (p : Nat) (lane : Nat) (b : List Byte) (inverted : Bool) : (State.receiveMarker s p lane b inverted).fixed = s.fixed := by
  simp [State.receiveMarker]

@[simp ↓] theorem State.tryPark_fixed (s : State) (p : Nat) : (State.tryPark s p).fixed = s.fixed := by
  simp [State.tryPark]

@[simp ↓] theorem State.askPark_fixed (s : State) (p : Nat) : (State.askPark s p).fixed = s.fixed := by
  simp [State.askPark]

@[simp ↓] theorem State.unpark_fixed (s : State) (p : Nat) : (State.unpark s p).fixed = s.fixed := by
  simp [State.unpark]

@[simp ↓] theorem State.putFlit_fixed (s : State) (p : Nat) (seq : Nat) (type : Nat) (kset : Bool) (payload : List Byte) : (State.putFlit s p seq type kset payload).fixed = s.fixed := by
  simp [State.putFlit]

@[simp ↓] theorem State.updateKeys_fixed (s : State) (p : Nat) : (State.updateKeys s p).fixed = s.fixed := by
  simp [State.updateKeys]

@[simp ↓] theorem State.dueKeys_fixed (s : State) (p : Nat) : (State.dueKeys s p).fixed = s.fixed := by
  simp [State.dueKeys]

@[simp ↓] theorem State.sendSequenced_fixed (s : State) (p : Nat) (type : Nat) (payload : List Byte) : (State.sendSequenced s p type payload).fixed = s.fixed := by
  simp [State.sendSequenced]

@[simp ↓] theorem State.sendBypassFlit_fixed (s : State) (p : Nat) (x : Trunk) (sent : List BypassMsg) (left : List BypassMsg) : (State.sendBypassFlit s p x sent left).fixed = s.fixed := by
  unfold State.sendBypassFlit
  try dsimp only
  repeat' (first
    | assumption
    | (simp [*]; done)
    | (intro _)
    | split)

theorem State.chooseFrame_next {s t : State} {p : Nat} {c : Choice} (h : s.chooseFrame p = (t, c)) : t.fixed = s.fixed := by
  have e := State.chooseFrame_fixed s p
  rw [h] at e
  exact e
@[simp ↓] theorem State.fillData_fixed (s : State) (p : Nat) (a2 : Nat) (a3 : Nat) (a4 : List Byte) : (State.fillData s p a2 a3 a4).1.fixed = s.fixed := by
  induction a2 generalizing s a3 a4 with
  | zero => rfl
  | succ k ih =>
    unfold State.fillData
    dsimp only
    repeat' (first
      | (simp [ih]; done)
      | split
      | (simp [ih]; exact State.chooseFrame_next ‹_›))

@[simp ↓] theorem State.sendFlit_fixed (s : State) (p : Nat) : (State.sendFlit s p).fixed = s.fixed := by
  unfold State.sendFlit
  try dsimp only
  repeat' (first
    | assumption
    | (simp [*]; done)
    | (intro _)
    | split)

@[simp ↓] theorem State.releaseFlit_fixed (s : State) (p : Nat) (type : Nat) (payload : List Byte) : (State.releaseFlit s p type payload).fixed = s.fixed := by
  unfold State.releaseFlit
  try dsimp only
  repeat' (first
    | assumption
    | (simp [*]; done)
    | (intro _)
    | split)

@[simp ↓] theorem State.acceptFlit_fixed (s : State) (p : Nat) (f : TrunkFlit) : (State.acceptFlit s p f).fixed = s.fixed := by
  simp [State.acceptFlit]

@[simp ↓] theorem State.receiveFlit_fixed (s : State) (p : Nat) (f : TrunkFlit) : (State.receiveFlit s p f).fixed = s.fixed := by
  simp [State.receiveFlit]

@[simp ↓] theorem State.receiveBytes_fixed (s : State) (p : Nat) (bytes : List Byte) : (State.receiveBytes s p bytes).fixed = s.fixed := by
  simp [State.receiveBytes]

@[simp ↓] theorem State.wipeObject_fixed (s : State) (cls : Nat) (idx : Nat) (sub : Nat) : (State.wipeObject s cls idx sub).fixed = s.fixed := by
  simp [State.wipeObject]

@[simp ↓] theorem State.storeEntry_fixed (s : State) (e : Entry) : (State.storeEntry s e).fixed = s.fixed := by
  unfold State.storeEntry
  try dsimp only
  repeat' (first
    | assumption
    | simp [*]
    | (intro _)
    | split)

@[simp ↓] theorem State.stored_fixed (s : State) (es : List Entry) : (State.stored s es).fixed = s.fixed := by
  simp [State.stored]

@[simp ↓] theorem State.portCommitted_fixed (s0 : State) (old : State) (es : List Entry) (p : Nat) : (State.portCommitted s0 old es p).fixed = s0.fixed := by
  simp [State.portCommitted]

@[simp ↓] theorem State.rolesCommitted_fixed (s : State) : (State.rolesCommitted s).fixed = s.fixed := by
  simp [State.rolesCommitted]

@[simp ↓] theorem State.tenantCommitted_fixed (s : State) (old : State) (t : Nat) : (State.tenantCommitted s old t).fixed = s.fixed := by
  simp [State.tenantCommitted]

@[simp ↓] theorem State.vppbCommitted_fixed (s : State) (old : State) (v : Nat) (b : Nat) : (State.vppbCommitted s old v b).fixed = s.fixed := by
  simp [State.vppbCommitted]

@[simp ↓] theorem State.tshaperCommitted_fixed (s : State) (old : State) (es : List Entry) (t : Nat) : (State.tshaperCommitted s old es t).fixed = s.fixed := by
  simp [State.tshaperCommitted]

@[simp ↓] theorem State.cshaperCommitted_fixed (s : State) (old : State) (es : List Entry) (p : Nat) (c : Nat) : (State.cshaperCommitted s old es p c).fixed = s.fixed := by
  simp [State.cshaperCommitted]

@[simp ↓] theorem State.timetableCommitted_fixed (s : State) (es : List Entry) (p : Nat) : (State.timetableCommitted s es p).fixed = s.fixed := by
  simp [State.timetableCommitted]

@[simp ↓] theorem State.countersCommitted_fixed (s : State) (cls : Nat) (idx : Nat) (sub : Nat) : (State.countersCommitted s cls idx sub).fixed = s.fixed := by
  simp [State.countersCommitted]

@[simp ↓] theorem State.slotCommitted_fixed (s : State) (old : State) (es : List Entry) (n : Nat) : (State.slotCommitted s old es n).fixed = s.fixed := by
  simp [State.slotCommitted]

@[simp ↓] theorem State.gleanerCommitted_fixed (s : State) (old : State) (t : Nat) : (State.gleanerCommitted s old t).fixed = s.fixed := by
  simp [State.gleanerCommitted]

@[simp ↓] theorem State.setVcore_fixed (s : State) (mv : Nat) : (State.setVcore s mv).fixed = s.fixed := by
  simp [State.setVcore]

@[simp ↓] theorem State.pstateCommitted_fixed (s : State) (old : State) : (State.pstateCommitted s old).fixed = s.fixed := by
  simp [State.pstateCommitted]

@[simp ↓] theorem State.deviceCommitted_fixed (s : State) (old : State) (es : List Entry) : (State.deviceCommitted s old es).fixed = s.fixed := by
  simp [State.deviceCommitted]

@[simp ↓] theorem State.agentCommitted_fixed (s : State) (old : State) (a : Nat) : (State.agentCommitted s old a).fixed = s.fixed := by
  simp [State.agentCommitted]

@[simp ↓] theorem State.agentsCommitted_fixed (s : State) : (State.agentsCommitted s).fixed = s.fixed := by
  simp [State.agentsCommitted]

@[simp ↓] theorem State.objectCommitted_fixed (s : State) (old : State) (es : List Entry) (o : Nat × Nat × Nat) : (State.objectCommitted s old es o).fixed = s.fixed := by
  simp [State.objectCommitted]

@[simp ↓] theorem State.repairObjects_fixed (s : State) (es : List Entry) : (State.repairObjects s es).fixed = s.fixed := by
  simp [State.repairObjects]

@[simp ↓] theorem State.applyEntries_fixed (s : State) (es : List Entry) (act : State → State) (hact : ∀ b0, (act b0).fixed = b0.fixed) : (State.applyEntries s es act).fixed = s.fixed := by
  unfold State.applyEntries
  try dsimp only
  repeat' (first
    | assumption
    | simp [*])

@[simp ↓] theorem State.raiseStaged_fixed (s : State) (es : List Entry) : (State.raiseStaged s es).fixed = s.fixed := by
  unfold State.raiseStaged
  try dsimp only
  repeat' (first
    | assumption
    | simp [*]
    | (intro _)
    | split
    | (refine (foldl_fixed ?_ _ _).trans ?_))

@[simp ↓] theorem State.holdRounds_fixed (s : State) (es : List Entry) : (State.holdRounds s es).fixed = s.fixed := by
  simp [State.holdRounds]

@[simp ↓] theorem State.served_fixed (s : State) (c : Nat) : (State.served s c).fixed = s.fixed := by
  simp [State.served]

@[simp ↓] theorem State.waitTurn_fixed (s : State) (c : Nat) (gens : List (Nat × Nat)) (tries : Nat) : (State.waitTurn s c gens tries).fixed = s.fixed := by
  simp [State.waitTurn]

@[simp ↓] theorem State.turnedDown_fixed (s : State) (c : Nat) : (State.turnedDown s c).fixed = s.fixed := by
  simp [State.turnedDown]

@[simp ↓] theorem State.touchObject_fixed (s : State) (cls : Nat) (idx : Nat) (sub : Nat) : (State.touchObject s cls idx sub).fixed = s.fixed := by
  simp [State.touchObject]

theorem execOpenObj_fixed (c : Core) (o : TOp) (s : State) : Result.keeps (execOpenObj c o s) s := by
  simp [execOpenObj]

theorem execLdf_fixed (c : Core) (o : TOp) (s : State) : Result.keeps (execLdf c o s) s := by
  unfold execLdf
  refine (keeps_next _ _).2 ?_
  try dsimp only
  repeat' (first
    | assumption
    | (simp [*]; done)
    | (refine State.leverEncoded_fixed _ _ _ _ _ ?_)
    | (intro _)
    | split)

@[simp ↓] theorem State.stage_fixed (s : State) (c : Nat) (word : BitVec 32) (e : Entry) (named : Option (Nat × Nat)) (f : CoreState → CoreState) : (State.stage s c word e named f).fixed = s.fixed := by
  simp [State.stage]

theorem execStf_fixed (c : Core) (o : TOp) (s : State) : Result.keeps (execStf c o s) s := by
  unfold execStf
  refine (keeps_next _ _).2 ?_
  try dsimp only
  repeat' (first
    | assumption
    | (simp [*]; done)
    | (refine State.leverEncoded_fixed _ _ _ _ _ ?_)
    | (intro _)
    | split)

theorem execNewObj_fixed (c : Core) (o : TOp) (s : State) : Result.keeps (execNewObj c o s) s := by
  unfold execNewObj
  refine (keeps_next _ _).2 ?_
  try dsimp only
  repeat' (first
    | assumption
    | (simp [*]; done)
    | (refine State.leverEncoded_fixed _ _ _ _ _ ?_)
    | (intro _)
    | split)

theorem execDelObj_fixed (c : Core) (o : TOp) (s : State) : Result.keeps (execDelObj c o s) s := by
  simp [execDelObj]

@[simp ↓] theorem State.commitEnds_fixed (s : State) (c : Nat) (rd : Nat) (status : Nat) : (State.commitEnds s c rd status).fixed = s.fixed := by
  simp [State.commitEnds]

theorem execCommitBuf_fixed (c : Core) (o : SOp) (s : State) : Result.keeps (execCommitBuf c o s) s := by
  simp [execCommitBuf]

@[simp ↓] theorem State.imageActions_fixed (s : State) (es : List Entry) : (State.imageActions s es).fixed = s.fixed := by
  unfold State.imageActions
  try dsimp only
  repeat' (first
    | assumption
    | simp [*]
    | (intro _)
    | split
    | (refine (foldl_fixed ?_ _ _).trans ?_))

@[simp ↓] theorem State.refreshHandles_fixed (s : State) (c : Nat) : (State.refreshHandles s c).fixed = s.fixed := by
  simp [State.refreshHandles]

@[simp ↓] theorem State.commitBuffer_fixed (s : State) (c : Nat) (rd : Nat) : (State.commitBuffer s c rd).fixed = s.fixed := by
  unfold State.commitBuffer
  try dsimp only
  repeat' (first
    | assumption
    | simp [*]
    | (refine State.applyEntries_fixed _ _ _ ?_)
    | (intro _)
    | split)

theorem execCommitUnitGrant_fixed (c : Core) (s : State) : Result.keeps (execCommitUnitGrant c s) s := by
  unfold execCommitUnitGrant
  refine (keeps_next _ _).2 ?_
  try dsimp only
  repeat' (first
    | assumption
    | (simp [*]; done)
    | (intro _)
    | split)

theorem execCommitRoundBoundary_fixed (s : State) : Result.keeps (execCommitRoundBoundary s) s := by
  unfold execCommitRoundBoundary
  refine (keeps_next _ _).2 ?_
  try dsimp only
  repeat' (first
    | assumption
    | simp [*]
    | (refine State.applyEntries_fixed _ _ _ ?_)
    | (intro _)
    | split)

theorem execDoneOrder_fixed (c : Core) (o : SOp) (s : State) : Result.keeps (execDoneOrder c o s) s := by
  simp [execDoneOrder]

theorem execFailOrder_fixed (c : Core) (o : SOp) (s : State) : Result.keeps (execFailOrder c o s) s := by
  simp [execFailOrder]

theorem execTimeNow_fixed (c : Core) (o : SOp) (s : State) : Result.keeps (execTimeNow c o s) s := by
  simp [execTimeNow]

theorem execRoundCount_fixed (c : Core) (o : SOp) (s : State) : Result.keeps (execRoundCount c o s) s := by
  simp [execRoundCount]

theorem execWho_fixed (c : Core) (o : SOp) (s : State) : Result.keeps (execWho c o s) s := by
  simp [execWho]

theorem execRlen_fixed (c : Core) (o : SOp) (s : State) : Result.keeps (execRlen c o s) s := by
  simp [execRlen]

theorem execRaiseEvent_fixed (c : Core) (o : SOp) (s : State) : Result.keeps (execRaiseEvent c o s) s := by
  simp [execRaiseEvent]

theorem execWaitUntil_fixed (c : Core) (o : SOp) (s : State) : Result.keeps (execWaitUntil c o s) s := by
  simp [execWaitUntil]

theorem execWaitExpiry_fixed (c : Core) (s : State) : Result.keeps (execWaitExpiry c s) s := by
  unfold execWaitExpiry
  refine (keeps_next _ _).2 ?_
  try dsimp only
  repeat' (first
    | assumption
    | simp [*]
    | (intro _)
    | split)

theorem execFence_fixed (c : Core) (o : SOp) (s : State) : Result.keeps (execFence c o s) s := by
  simp [execFence]

theorem execPet_fixed (c : Core) (o : SOp) (s : State) : Result.keeps (execPet c o s) s := by
  simp [execPet]

theorem execBrk_fixed (c : Core) (o : SOp) (s : State) : Result.keeps (execBrk c o s) s := by
  simp [execBrk]

theorem execCoreNumber_fixed (c : Core) (o : SOp) (s : State) : Result.keeps (execCoreNumber c o s) s := by
  simp [execCoreNumber]

theorem execReservedOpcode_fixed (c : Core) (w : BitVec 32) (s : State) : Result.keeps (execReservedOpcode c w s) s := by
  simp [execReservedOpcode]

theorem execLeverTimeLimit_fixed (c : Core) (s : State) : Result.keeps (execLeverTimeLimit c s) s := by
  simp [execLeverTimeLimit]

theorem execResidentWatchdog_fixed (c : Core) (s : State) : Result.keeps (execResidentWatchdog c s) s := by
  simp [execResidentWatchdog]

@[simp ↓] theorem State.libRun_fixed (s : State) (c : Core) (id : Nat) (body : State → Order → State) (hbody : ∀ b0 b1, (body b0 b1).fixed = b0.fixed) : (State.libRun s c id body).fixed = s.fixed := by
  unfold State.libRun
  try dsimp only
  repeat' (first
    | assumption
    | (simp [*]; done)
    | (intro _)
    | split)

@[simp ↓] theorem State.libEnds_fixed (s : State) (c : Core) (st : Status) : (State.libEnds s c st).fixed = s.fixed := by
  simp [State.libEnds]

@[simp ↓] theorem State.libReply_fixed (s : State) (c : Core) (data : List Byte) : (State.libReply s c data).fixed = s.fixed := by
  simp [State.libReply]

theorem State.commitNow_fixed (s : State) (c : Nat) (es : List Entry) (act : State → State)
    (hact : ∀ x, (act x).fixed = x.fixed) : (s.commitNow c es act).after.fixed = s.fixed := by
  unfold State.commitNow
  dsimp only
  repeat' split
  all_goals simp [hact, Attempt.after]
@[simp ↓] theorem State.libCommit_fixed (s : State) (c : Core) (es : List Entry) (act : State → State) (reply : State → List Byte) (hact : ∀ b0, (act b0).fixed = b0.fixed) : (State.libCommit s c es act reply).fixed = s.fixed := by
  have k := State.commitNow_fixed s c es act hact
  unfold State.libCommit
  split
  all_goals
    rename_i h
    rw [h] at k
    simpa [Attempt.after] using k

@[simp ↓] theorem noAction_fixed (s : State) : (noAction s).fixed = s.fixed := by
  simp [noAction]

theorem State.commitNow_refused {s t : State} {c : Nat} {es : List Entry} {w : Nat} (h : s.commitNow c es noAction = .refused w t) : t.fixed = s.fixed := by
  have k := State.commitNow_fixed s c es noAction (fun _ => rfl)
  rw [h] at k
  exact k
theorem State.commitNow_later {s t : State} {c : Nat} {es : List Entry} (h : s.commitNow c es noAction = .later t) : t.fixed = s.fixed := by
  have k := State.commitNow_fixed s c es noAction (fun _ => rfl)
  rw [h] at k
  exact k
theorem State.commitNow_passed {s t : State} {c : Nat} {es : List Entry} (h : s.commitNow c es noAction = .passed t) : t.fixed = s.fixed := by
  have k := State.commitNow_fixed s c es noAction (fun _ => rfl)
  rw [h] at k
  exact k
theorem State.commitEach_fixed (s : State) (c : Nat) (l : List (List Entry)) : (s.commitEach c l).after.fixed = s.fixed := by
  induction l generalizing s with
  | nil => rfl
  | cons es rest ih =>
    unfold State.commitEach
    split
    · rename_i h
      exact (ih _).trans (State.commitNow_passed h)
    · exact State.commitNow_fixed s c es noAction (fun _ => rfl)
theorem State.commitAll_refused {s t : State} {c : Nat} {parts : List (List Entry)} {w : Nat} (h : s.commitAll c parts = .refused w t) : t.fixed = s.fixed := by
  have k := State.commitEach_fixed s c (parts.drop (s.core c).lib.done)
  rw [show s.commitEach c (parts.drop (s.core c).lib.done) = _ from h] at k
  exact k
theorem State.commitAll_later {s t : State} {c : Nat} {parts : List (List Entry)} (h : s.commitAll c parts = .later t) : t.fixed = s.fixed := by
  have k := State.commitEach_fixed s c (parts.drop (s.core c).lib.done)
  rw [show s.commitEach c (parts.drop (s.core c).lib.done) = _ from h] at k
  exact k
theorem State.commitAll_passed {s t : State} {c : Nat} {parts : List (List Entry)} (h : s.commitAll c parts = .passed t) : t.fixed = s.fixed := by
  have k := State.commitEach_fixed s c (parts.drop (s.core c).lib.done)
  rw [show s.commitEach c (parts.drop (s.core c).lib.done) = _ from h] at k
  exact k
@[simp ↓] theorem State.libOp_fixed (s : State) (c : Core) (op : Nat) (mine : Nat) (legal : Nat → Bool) (body : State → State) (hbody : ∀ b0, (body b0).fixed = b0.fixed) : (State.libOp s c op mine legal body).fixed = s.fixed := by
  unfold State.libOp
  try dsimp only
  repeat' (first
    | assumption
    | simp [*])

@[simp ↓] theorem State.libArgs_fixed (s : State) (c : Core) (ok : Bool) (body : State → State) (hbody : ∀ b0, (body b0).fixed = b0.fixed) : (State.libArgs s c ok body).fixed = s.fixed := by
  unfold State.libArgs
  try dsimp only
  repeat' (first
    | assumption
    | simp [*])

@[simp ↓] theorem State.libFault_fixed (s : State) (c : Core) (f : LeverFault) : (State.libFault s c f).fixed = s.fixed := by
  simp [State.libFault]

end Sys2Proof.Machine
end

