-- ==== Sys2Proof/Laws/FramesLever.lean ====
section
/-! SUPPORT. The operations and commands of the Lever, its library and the links leave OTP and the waiting commands alone (R70, R540):
what each does to the fixed part of a state. -/

namespace Sys2Proof.Machine


@[simp ↓] theorem State.refill_fixed (s : State) : (State.refill s).fixed = s.fixed := by
  simp [State.refill]

theorem execShaperRefill_fixed (s : State) : Result.keeps (execShaperRefill s) s := by
  simp [execShaperRefill]

theorem execTimetableEntryBoundary_fixed (p : Port) (s : State) : Result.keeps (execTimetableEntryBoundary p s) s := by
  simp [execTimetableEntryBoundary]

theorem execTimetableTakeover_fixed (p : Port) (s : State) : Result.keeps (execTimetableTakeover p s) s := by
  simp [execTimetableTakeover]

@[simp ↓] theorem State.sampleQueue_fixed (s : State) (p : Nat) (sub : Nat) : (State.sampleQueue s p sub).fixed = s.fixed := by
  simp [State.sampleQueue]

theorem execQueueSample_fixed (s : State) : Result.keeps (execQueueSample s) s := by
  simp [execQueueSample]

@[simp ↓] theorem State.syncOthers_fixed (s : State) : (State.syncOthers s).fixed = s.fixed := by
  simp [State.syncOthers]

theorem execSyncPeriod_fixed (s : State) : Result.keeps (execSyncPeriod s) s := by
  simp [execSyncPeriod]

theorem execFtbHoldover_fixed (s : State) : Result.keeps (execFtbHoldover s) s := by
  simp [execFtbHoldover]

theorem execPtmRequest_fixed (p : Port) (s : State) : Result.keeps (execPtmRequest p s) s := by
  simp [execPtmRequest]

theorem execPtmResponse_fixed (p : Port) (master : BitVec 64) (delay : BitVec 64) (s : State) : Result.keeps (execPtmResponse p master delay s) s := by
  simp [execPtmResponse]

theorem execDevloadWindow_fixed (s : State) : Result.keeps (execDevloadWindow s) s := by
  simp [execDevloadWindow]

@[simp ↓] theorem State.taskCommit_fixed (s : State) (es : List Entry) : (State.taskCommit s es).fixed = s.fixed := by
  simp [State.taskCommit]

theorem execQosAdjust_fixed (s : State) : Result.keeps (execQosAdjust s) s := by
  unfold execQosAdjust
  rw [keeps_next]
  split <;> simp

@[simp ↓] theorem State.waysideSent_fixed (s : State) (o : WaysideOut) : (State.waysideSent s o).fixed = s.fixed := by
  simp [State.waysideSent]

@[simp ↓] theorem State.contend_fixed (s : State) (rival : List WaysideSymbol) (a2 : List WaysideOut) : (State.contend s rival a2).fixed = s.fixed := by
  fun_induction State.contend s rival a2 <;> simp_all

@[simp ↓] theorem State.waysideContend_fixed (s : State) (f : WaysideFrame) : (State.waysideContend s f).fixed = s.fixed := by
  simp [State.waysideContend]

@[simp ↓] theorem State.waysideIdle_fixed (s : State) : (State.waysideIdle s).fixed = s.fixed := by
  unfold State.waysideIdle
  try dsimp only
  repeat' (first
    | assumption
    | simp [*]
    | (intro _)
    | split)

@[simp ↓] theorem State.waysideDrop_fixed (s : State) : (State.waysideDrop s).fixed = s.fixed := by
  simp [State.waysideDrop]

@[simp ↓] theorem State.waysideIn_fixed (s : State) (f : WaysideFrame) (body : State → State) (hbody : ∀ b0, (body b0).fixed = b0.fixed) : (State.waysideIn s f body).fixed = s.fixed := by
  unfold State.waysideIn
  try dsimp only
  repeat' (first
    | assumption
    | simp [*])

@[simp ↓] theorem State.waysideSubmit_fixed (s : State) (o : KeptOrder) : (State.waysideSubmit s o).fixed = s.fixed := by
  simp [State.waysideSubmit]

@[simp ↓] theorem State.waysideKept_fixed (s : State) : (State.waysideKept s).fixed = s.fixed := by
  unfold State.waysideKept
  try dsimp only
  repeat' (first
    | assumption
    | simp [*]
    | (intro _)
    | split)

theorem execWaysideOrderFrame_fixed (f : WaysideFrame) (s : State) : Result.keeps (execWaysideOrderFrame f s) s := by
  simp [execWaysideOrderFrame]

theorem execWaysideReply_fixed (f : WaysideFrame) (s : State) : Result.keeps (execWaysideReply f s) s := by
  simp [execWaysideReply]

theorem execTimeMark_fixed (f : WaysideFrame) (s : State) : Result.keeps (execTimeMark f s) s := by
  simp [execTimeMark]

theorem execWaysideWake_fixed (f : WaysideFrame) (s : State) : Result.keeps (execWaysideWake f s) s := by
  simp [execWaysideWake]

theorem execWaysideStuck_fixed (s : State) : Result.keeps (execWaysideStuck s) s := by
  simp [execWaysideStuck]

@[simp ↓] theorem State.moveUp_fixed (s : State) (p : Nat) (i : LinkInfo) : (State.moveUp s p i).fixed = s.fixed := by
  unfold State.moveUp
  try dsimp only
  repeat' (first
    | assumption
    | (simp [*]; done)
    | (intro _)
    | split)

theorem execLinkUp_fixed (p : Port) (info : LinkInfo) (s : State) : Result.keeps (execLinkUp p info s) s := by
  simp [execLinkUp]

@[simp ↓] theorem State.linkError_fixed (s : State) (p : Nat) (bit : Nat) : (State.linkError s p bit).fixed = s.fixed := by
  unfold State.linkError
  try dsimp only
  repeat' (first
    | assumption
    | simp [*]
    | (intro _)
    | split)

theorem execLinkDown_fixed (p : Port) (cause : DownCause) (s : State) : Result.keeps (execLinkDown p cause s) s := by
  unfold execLinkDown
  refine (keeps_next _ _).2 ?_
  try dsimp only
  repeat' (first
    | assumption
    | (simp [*]; done)
    | (intro _)
    | split)

theorem execPortFlushDone_fixed (p : Port) (s : State) : Result.keeps (execPortFlushDone p s) s := by
  simp [execPortFlushDone]

theorem execReplayContainmentTimeout_fixed (p : Port) (s : State) : Result.keeps (execReplayContainmentTimeout p s) s := by
  unfold execReplayContainmentTimeout
  refine (keeps_next _ _).2 ?_
  try dsimp only
  repeat' (first
    | assumption
    | simp [*]
    | (intro _)
    | split)

theorem execFlitReceive_fixed (p : Port) (ev : FlitEvent) (s : State) : Result.keeps (execFlitReceive p ev s) s := by
  unfold execFlitReceive
  refine (keeps_next _ _).2 ?_
  try dsimp only
  repeat' (first
    | assumption
    | (simp [*]; done)
    | (intro _)
    | split)

theorem execHotResetEnd_fixed (p : Port) (s : State) : Result.keeps (execHotResetEnd p s) s := by
  simp [execHotResetEnd]

@[simp ↓] theorem State.clearObject_fixed (s : State) (cls : Nat) (idx : Nat) (sub : Nat) : (State.clearObject s cls idx sub).fixed = s.fixed := by
  simp [State.clearObject]

theorem execLaneRemap_fixed (st : Station) (s : State) : Result.keeps (execLaneRemap st s) s := by
  unfold execLaneRemap
  refine (keeps_next _ _).2 ?_
  try dsimp only
  repeat' (first
    | assumption
    | (simp [*]; done)
    | (intro _)
    | split)

@[simp ↓] theorem State.recordMeasurement_fixed (s : State) (n : Nat) (ls : List LaneReflection) : (State.recordMeasurement s n ls).fixed = s.fixed := by
  simp [State.recordMeasurement]

theorem execLaneMargining_fixed (st : Station) (lane : LaneOf) (s : State) : Result.keeps (execLaneMargining st lane s) s := by
  simp [execLaneMargining]

theorem execMarginingEnd_fixed (st : Station) (lane : LaneOf) (s : State) : Result.keeps (execMarginingEnd st lane s) s := by
  simp [execMarginingEnd]

theorem execEyeScanEnd_fixed (st : Station) (lane : LaneOf) (early : Bool) (errors : List Nat) (s : State) : Result.keeps (execEyeScanEnd st lane early errors s) s := by
  unfold execEyeScanEnd
  refine (keeps_next _ _).2 ?_
  try dsimp only
  repeat' (first
    | assumption
    | (simp [*]; done)
    | (intro _)
    | split)

theorem execPrbsCheckerLock_fixed (st : Station) (lane : LaneOf) (locks : Bool) (s : State) : Result.keeps (execPrbsCheckerLock st lane locks s) s := by
  simp [execPrbsCheckerLock]

theorem execPowerControllerOff_fixed (v : Vcs) (b : VppbNo) (s : State) : Result.keeps (execPowerControllerOff v b s) s := by
  simp [execPowerControllerOff]

theorem execPowerControllerOn_fixed (v : Vcs) (b : VppbNo) (s : State) : Result.keeps (execPowerControllerOn v b s) s := by
  simp [execPowerControllerOn]

theorem execDpcTriggerClear_fixed (v : Vcs) (b : VppbNo) (s : State) : Result.keeps (execDpcTriggerClear v b s) s := by
  simp [execDpcTriggerClear]

theorem execIdeKmDone_fixed (p : Port) (secure : Bool) (s : State) : Result.keeps (execIdeKmDone p secure s) s := by
  unfold execIdeKmDone
  refine (keeps_next _ _).2 ?_
  try dsimp only
  repeat' (first
    | assumption
    | (simp [*]; done)
    | (intro _)
    | split)

theorem execInvocationCounterLimit_fixed (p : Port) (stream : Fin 8) (s : State) : Result.keeps (execInvocationCounterLimit p stream s) s := by
  simp [execInvocationCounterLimit]

theorem execIdeKmRequest_fixed (v : Vcs) (stream : Fin 8) (msg : IdeKm) (s : State) : Result.keeps (execIdeKmRequest v stream msg s) s := by
  unfold execIdeKmRequest
  refine (keeps_next _ _).2 ?_
  try dsimp only
  repeat' (first
    | assumption
    | (simp [*]; done)
    | (intro _)
    | split)

theorem execPortSet_fixed (c : Core) (s : State) : Result.keeps (execPortSet c s) s := by
  unfold execPortSet
  refine (keeps_next _ _).2 ?_
  try dsimp only
  repeat' (first
    | assumption
    | (simp [*]; done)
    | (refine State.libRun_fixed _ _ _ _ ?_))

theorem execBifurcate_fixed (c : Core) (s : State) : Result.keeps (execBifurcate c s) s := by
  unfold execBifurcate
  refine (keeps_next _ _).2 ?_
  try dsimp only
  repeat' (first
    | assumption
    | (simp [*]; done)
    | (refine State.libRun_fixed _ _ _ _ ?_))

@[simp ↓] theorem State.portCtl_fixed (s : State) (c : Core) (op : Nat) (ok : State → Nat → Bool) (act : Nat → State → State) (hact : ∀ b0 b1, (act b0 b1).fixed = b1.fixed) : (State.portCtl s c op ok act).fixed = s.fixed := by
  unfold State.portCtl
  try dsimp only
  repeat' (first
    | assumption
    | (simp [*]; done)
    | (refine State.libRun_fixed _ _ _ _ ?_)
    | (refine State.libCommit_fixed _ _ _ _ _ ?_)
    | (refine State.libOp_fixed _ _ _ _ _ _ ?_)
    | (refine State.libArgs_fixed _ _ _ _ ?_)
    | (intro _))

@[simp ↓] theorem State.holdPerst_fixed (s : State) (p : Nat) (hold : Bool) : (State.holdPerst s p hold).fixed = s.fixed := by
  unfold State.holdPerst
  try dsimp only
  repeat' (first
    | assumption
    | simp [*]
    | (intro _)
    | split)

theorem execPortCtlAssertPerst_fixed (c : Core) (s : State) : Result.keeps (execPortCtlAssertPerst c s) s := by
  simp [execPortCtlAssertPerst]

theorem execPortCtlReleasePerst_fixed (c : Core) (s : State) : Result.keeps (execPortCtlReleasePerst c s) s := by
  simp [execPortCtlReleasePerst]

theorem execPortCtlResetPpb_fixed (c : Core) (s : State) : Result.keeps (execPortCtlResetPpb c s) s := by
  simp [execPortCtlResetPpb]

theorem execPortCtlDisableLink_fixed (c : Core) (s : State) : Result.keeps (execPortCtlDisableLink c s) s := by
  simp [execPortCtlDisableLink]

theorem execPortCtlEnableLink_fixed (c : Core) (s : State) : Result.keeps (execPortCtlEnableLink c s) s := by
  simp [execPortCtlEnableLink]

theorem execPortCtlContain_fixed (c : Core) (s : State) : Result.keeps (execPortCtlContain c s) s := by
  simp [execPortCtlContain]

theorem execPortCtlReleaseContainment_fixed (c : Core) (s : State) : Result.keeps (execPortCtlReleaseContainment c s) s := by
  simp [execPortCtlReleaseContainment]

@[simp ↓] theorem State.awaitOutside_fixed (s : State) (c : Core) : (State.awaitOutside s c).fixed = s.fixed := by
  simp [State.awaitOutside]

@[simp ↓] theorem State.ppbCfg_fixed (s : State) (c : Core) (op : Nat) : (State.ppbCfg s c op).fixed = s.fixed := by
  unfold State.ppbCfg
  try dsimp only
  repeat' (first
    | assumption
    | simp [*]
    | (refine State.libRun_fixed _ _ _ _ ?_))

theorem execPpbCfgRead_fixed (c : Core) (s : State) : Result.keeps (execPpbCfgRead c s) s := by
  simp [execPpbCfgRead]

theorem execPpbCfgWrite_fixed (c : Core) (s : State) : Result.keeps (execPpbCfgWrite c s) s := by
  simp [execPpbCfgWrite]

theorem execPpbCfgCompletion_fixed (c : Core) (status : CplStatus) (data : BitVec 32) (s : State) : Result.keeps (execPpbCfgCompletion c status data s) s := by
  unfold execPpbCfgCompletion
  refine (keeps_next _ _).2 ?_
  try dsimp only
  repeat' (first
    | assumption
    | (simp [*]; done)
    | (intro _)
    | split)

theorem execPpbCfgTimeout_fixed (c : Core) (s : State) : Result.keeps (execPpbCfgTimeout c s) s := by
  unfold execPpbCfgTimeout
  refine (keeps_next _ _).2 ?_
  try dsimp only
  repeat' (first
    | assumption
    | simp [*]
    | (intro _)
    | split)

theorem execVcsSet_fixed (c : Core) (s : State) : Result.keeps (execVcsSet c s) s := by
  unfold execVcsSet
  refine (keeps_next _ _).2 ?_
  try dsimp only
  repeat' (first
    | assumption
    | (simp [*]; done)
    | (refine State.libRun_fixed _ _ _ _ ?_))

theorem execPbrSet_fixed (c : Core) (s : State) : Result.keeps (execPbrSet c s) s := by
  unfold execPbrSet
  refine (keeps_next _ _).2 ?_
  try dsimp only
  repeat' (first
    | assumption
    | simp [*]
    | (refine State.libRun_fixed _ _ _ _ ?_))

theorem execBind_fixed (c : Core) (s : State) : Result.keeps (execBind c s) s := by
  unfold execBind
  refine (keeps_next _ _).2 ?_
  repeat' (first
    | assumption
    | (simp [*]; done)
    | (refine State.libRun_fixed _ _ _ _ ?_)
    | (refine State.libArgs_fixed _ _ _ _ ?_)
    | (refine State.libOp_fixed _ _ _ _ _ _ ?_)
    | (refine State.eventSet_fixed _ _ _ _ ?_)
    | (refine State.counterSet_fixed _ _ _ _ ?_)
    | (intro _)
    | split
    | (exact (State.commitNow_refused ‹_›).trans (by simp))
    | (exact (State.commitNow_later ‹_›).trans (by simp))
    | (exact (State.commitNow_passed ‹_›).trans (by simp))
    | simp)

@[simp ↓] theorem State.unbindBy_fixed (s : State) (c : Core) (mode : Nat) (act : Nat → Nat → State → State) (hact : ∀ b0 b1 b2, (act b0 b1 b2).fixed = b2.fixed) : (State.unbindBy s c mode act).fixed = s.fixed := by
  unfold State.unbindBy
  try dsimp only
  repeat' (first
    | assumption
    | simp [*]
    | (refine State.libRun_fixed _ _ _ _ ?_)
    | (refine State.libCommit_fixed _ _ _ _ _ ?_)
    | (refine State.libOp_fixed _ _ _ _ _ _ ?_)
    | (refine State.libArgs_fixed _ _ _ _ ?_)
    | (intro _))

theorem execUnbindWaitLinkDown_fixed (c : Core) (s : State) : Result.keeps (execUnbindWaitLinkDown c s) s := by
  simp [execUnbindWaitLinkDown]

theorem execUnbindManagedHotRemove_fixed (c : Core) (s : State) : Result.keeps (execUnbindManagedHotRemove c s) s := by
  simp [execUnbindManagedHotRemove]

theorem execUnbindSurpriseHotRemove_fixed (c : Core) (s : State) : Result.keeps (execUnbindSurpriseHotRemove c s) s := by
  simp [execUnbindSurpriseHotRemove]

theorem execLdTunnel_fixed (c : Core) (s : State) : Result.keeps (execLdTunnel c s) s := by
  simp [execLdTunnel]

theorem execLdTunnelResponse_fixed (c : Core) (response : List Byte) (s : State) : Result.keeps (execLdTunnelResponse c response s) s := by
  unfold execLdTunnelResponse
  refine (keeps_next _ _).2 ?_
  try dsimp only
  repeat' (first
    | assumption
    | simp [*]
    | (intro _)
    | split)

theorem execLdTunnelTimeout_fixed (c : Core) (s : State) : Result.keeps (execLdTunnelTimeout c s) s := by
  unfold execLdTunnelTimeout
  refine (keeps_next _ _).2 ?_
  try dsimp only
  repeat' (first
    | assumption
    | simp [*]
    | (intro _)
    | split)

theorem execAerGen_fixed (c : Core) (s : State) : Result.keeps (execAerGen c s) s := by
  unfold execAerGen
  refine (keeps_next _ _).2 ?_
  try dsimp only
  repeat' (first
    | assumption
    | (simp [*]; done)
    | (refine State.libRun_fixed _ _ _ _ ?_)
    | (refine State.libCommit_fixed _ _ _ _ _ ?_)
    | (refine State.libArgs_fixed _ _ _ _ ?_)
    | (intro _)
    | split)

theorem execMirrorSet_fixed (c : Core) (s : State) : Result.keeps (execMirrorSet c s) s := by
  unfold execMirrorSet
  refine (keeps_next _ _).2 ?_
  try dsimp only
  repeat' (first
    | assumption
    | (simp [*]; done)
    | (refine State.libRun_fixed _ _ _ _ ?_))

theorem execTenantMap_fixed (c : Core) (s : State) : Result.keeps (execTenantMap c s) s := by
  unfold execTenantMap
  refine (keeps_next _ _).2 ?_
  try dsimp only
  repeat' (first
    | assumption
    | simp [*]
    | (refine State.libRun_fixed _ _ _ _ ?_))

theorem execClassSet_fixed (c : Core) (s : State) : Result.keeps (execClassSet c s) s := by
  unfold execClassSet
  refine (keeps_next _ _).2 ?_
  try dsimp only
  repeat' (first
    | assumption
    | simp [*]
    | (refine State.libRun_fixed _ _ _ _ ?_))

theorem execTenantCreate_fixed (c : Core) (s : State) : Result.keeps (execTenantCreate c s) s := by
  unfold execTenantCreate
  refine (keeps_next _ _).2 ?_
  try dsimp only
  repeat' (first
    | assumption
    | (simp [*]; done)
    | (refine State.libRun_fixed _ _ _ _ ?_))

theorem execTenantReset_fixed (c : Core) (s : State) : Result.keeps (execTenantReset c s) s := by
  simp [execTenantReset]

@[simp ↓] theorem State.answerTenant_fixed (s : State) (t : Nat) : (State.answerTenant s t).fixed = s.fixed := by
  simp [State.answerTenant]

@[simp ↓] theorem State.discardTenant_fixed (s : State) (t : Nat) : (State.discardTenant s t).fixed = s.fixed := by
  simp [State.discardTenant]

theorem execTenantResetRequestsDone_fixed (t : TenantId) (s : State) : Result.keeps (execTenantResetRequestsDone t s) s := by
  simp [execTenantResetRequestsDone]

theorem execTenantResetTimeout_fixed (t : TenantId) (s : State) : Result.keeps (execTenantResetTimeout t s) s := by
  simp [execTenantResetTimeout]

theorem execTenantResetDone_fixed (t : TenantId) (s : State) : Result.keeps (execTenantResetDone t s) s := by
  simp [execTenantResetDone]

@[simp ↓] theorem State.destroyMore_fixed (s : State) (c : Core) (t : Nat) (a3 : Nat) : (State.destroyMore s c t a3).fixed = s.fixed := by
  induction a3 generalizing s with
  | zero => simp [State.destroyMore]
  | succ k ih =>
    unfold State.destroyMore
    split
    · simp
    · split
      · simp; exact State.commitNow_refused ‹_›
      · exact State.commitNow_later ‹_›
      · exact (ih _).trans (State.commitNow_passed ‹_›)

theorem execTenantDestroy_fixed (c : Core) (s : State) : Result.keeps (execTenantDestroy c s) s := by
  unfold execTenantDestroy
  refine (keeps_next _ _).2 ?_
  repeat' (first
    | assumption
    | (simp [*]; done)
    | (refine State.libRun_fixed _ _ _ _ ?_)
    | (refine State.libArgs_fixed _ _ _ _ ?_)
    | (refine State.libOp_fixed _ _ _ _ _ _ ?_)
    | (refine State.eventSet_fixed _ _ _ _ ?_)
    | (refine State.counterSet_fixed _ _ _ _ ?_)
    | (intro _)
    | split
    | (exact (State.commitNow_refused ‹_›).trans (by simp))
    | (exact (State.commitNow_later ‹_›).trans (by simp))
    | (exact (State.commitNow_passed ‹_›).trans (by simp))
    | simp)

theorem State.reserve_next {s t : State} {c cls owner n : Nat} (h : s.reserve c cls owner = some (t, n)) : t.fixed = s.fixed := by
  obtain ⟨i, _, e⟩ := Option.map_eq_some_iff.1 h
  cases e
  simp
theorem State.reserveMany_next {s t : State} {c cls owner : Nat} {n : Nat} {l l' : List Nat}
    (h : s.reserveMany c cls owner n l = some (t, l')) : t.fixed = s.fixed := by
  induction n generalizing s l with
  | zero => cases h; rfl
  | succ n ih =>
    unfold State.reserveMany at h
    split at h
    · cases h
    · rename_i e
      exact (ih h).trans (State.reserve_next e)
theorem execRuleStage_fixed (c : Core) (s : State) : Result.keeps (execRuleStage c s) s := by
  unfold execRuleStage
  refine (keeps_next _ _).2 ?_
  repeat' (first
    | assumption
    | (simp [*]; done)
    | (refine State.libRun_fixed _ _ _ _ ?_)
    | (refine State.libArgs_fixed _ _ _ _ ?_)
    | (refine State.libOp_fixed _ _ _ _ _ _ ?_)
    | (refine State.eventSet_fixed _ _ _ _ ?_)
    | (refine State.counterSet_fixed _ _ _ _ ?_)
    | (intro _)
    | split
    | (exact (State.reserveMany_next ‹_›).trans (by simp))
    | simp)

theorem execBankSwap_fixed (c : Core) (s : State) : Result.keeps (execBankSwap c s) s := by
  unfold execBankSwap
  refine (keeps_next _ _).2 ?_
  try dsimp only
  repeat' (first
    | assumption
    | simp [*]
    | (refine State.libRun_fixed _ _ _ _ ?_))

@[simp ↓] theorem State.gleanerSet_fixed (s : State) (c : Core) (op : Nat) (ok : State → Order → Nat → Bool) (es : Order → Nat → List Entry) (act : Nat → State → State) (hact : ∀ b0 b1, (act b0 b1).fixed = b1.fixed) : (State.gleanerSet s c op ok es act).fixed = s.fixed := by
  unfold State.gleanerSet
  try dsimp only
  repeat' (first
    | assumption
    | simp [*]
    | (refine State.libRun_fixed _ _ _ _ ?_)
    | (refine State.libCommit_fixed _ _ _ _ _ ?_)
    | (refine State.libOp_fixed _ _ _ _ _ _ ?_)
    | (refine State.libArgs_fixed _ _ _ _ ?_)
    | (intro _))

theorem execGleanerStop_fixed (c : Core) (s : State) : Result.keeps (execGleanerStop c s) s := by
  simp [execGleanerStop]

theorem execGleanerStart_fixed (c : Core) (s : State) : Result.keeps (execGleanerStart c s) s := by
  simp [execGleanerStart]

theorem execGleanerNewPass_fixed (c : Core) (s : State) : Result.keeps (execGleanerNewPass c s) s := by
  simp [execGleanerNewPass]

theorem execGleanerSetTail_fixed (c : Core) (s : State) : Result.keeps (execGleanerSetTail c s) s := by
  simp [execGleanerSetTail]

theorem execGleanerPassFinal_fixed (t : TenantId) (s : State) : Result.keeps (execGleanerPassFinal t s) s := by
  simp [execGleanerPassFinal]

theorem execGleanerPassTimeout_fixed (t : TenantId) (s : State) : Result.keeps (execGleanerPassTimeout t s) s := by
  unfold execGleanerPassTimeout
  refine (keeps_next _ _).2 ?_
  try dsimp only
  repeat' (first
    | assumption
    | simp [*]
    | (intro _)
    | split)

theorem execGleanerRecordWrite_fixed (t : TenantId) (s : State) : Result.keeps (execGleanerRecordWrite t s) s := by
  simp [execGleanerRecordWrite]

theorem execCheckerClear_fixed (c : Core) (s : State) : Result.keeps (execCheckerClear c s) s := by
  simp [execCheckerClear]

@[simp ↓] theorem State.eventSet_fixed (s : State) (c : Core) (op : Nat) (e : Nat → Entry) : (State.eventSet s c op e).fixed = s.fixed := by
  unfold State.eventSet
  try dsimp only
  repeat' (first
    | assumption
    | (simp [*]; done)
    | (refine State.libRun_fixed _ _ _ _ ?_)
    | (refine State.libCommit_fixed _ _ _ _ _ ?_)
    | (refine State.libOp_fixed _ _ _ _ _ _ ?_)
    | (refine State.libArgs_fixed _ _ _ _ ?_)
    | (intro _))

theorem execEventAllocate_fixed (c : Core) (s : State) : Result.keeps (execEventAllocate c s) s := by
  unfold execEventAllocate
  refine (keeps_next _ _).2 ?_
  repeat' (first
    | assumption
    | (simp [*]; done)
    | (refine State.libRun_fixed _ _ _ _ ?_)
    | (refine State.libArgs_fixed _ _ _ _ ?_)
    | (refine State.libOp_fixed _ _ _ _ _ _ ?_)
    | (refine State.eventSet_fixed _ _ _ _ ?_)
    | (refine State.counterSet_fixed _ _ _ _ ?_)
    | (intro _)
    | split
    | (exact (State.reserveMany_next ‹_›).trans (by simp))
    | simp)

theorem execEventEnable_fixed (c : Core) (s : State) : Result.keeps (execEventEnable c s) s := by
  simp [execEventEnable]

theorem execEventDisable_fixed (c : Core) (s : State) : Result.keeps (execEventDisable c s) s := by
  simp [execEventDisable]

theorem execEventClearPending_fixed (c : Core) (s : State) : Result.keeps (execEventClearPending c s) s := by
  simp [execEventClearPending]

theorem execEventFree_fixed (c : Core) (s : State) : Result.keeps (execEventFree c s) s := by
  simp [execEventFree]

@[simp ↓] theorem State.programAll_fixed (s : State) (c : Core) (items : List (List Entry)) (k : Nat) : (State.programAll s c items k).fixed = s.fixed := by
  unfold State.programAll
  try dsimp only
  repeat' (first
    | assumption
    | (simp [*]; done)
    | (refine State.libRun_fixed _ _ _ _ ?_)
    | (refine State.libArgs_fixed _ _ _ _ ?_)
    | (refine State.libOp_fixed _ _ _ _ _ _ ?_)
    | (refine State.eventSet_fixed _ _ _ _ ?_)
    | (refine State.counterSet_fixed _ _ _ _ ?_)
    | (intro _)
    | split
    | (exact (State.commitAll_refused ‹_›).trans (by simp))
    | (exact (State.commitAll_later ‹_›).trans (by simp))
    | (exact (State.commitAll_passed ‹_›).trans (by simp))
    | simp)

@[simp ↓] theorem State.counterSet_fixed (s : State) (c : Core) (op : Nat) (body : State → Order → List Nat → State) (hbody : ∀ b0 b1 b2, (body b0 b1 b2).fixed = b0.fixed) : (State.counterSet s c op body).fixed = s.fixed := by
  unfold State.counterSet
  try dsimp only
  repeat' (first
    | assumption
    | (simp [*]; done)
    | (refine State.libRun_fixed _ _ _ _ ?_))

theorem execCounterAllocate_fixed (c : Core) (s : State) : Result.keeps (execCounterAllocate c s) s := by
  unfold execCounterAllocate
  refine (keeps_next _ _).2 ?_
  repeat' (first
    | assumption
    | (simp [*]; done)
    | (refine State.libRun_fixed _ _ _ _ ?_)
    | (refine State.libArgs_fixed _ _ _ _ ?_)
    | (refine State.libOp_fixed _ _ _ _ _ _ ?_)
    | (refine State.eventSet_fixed _ _ _ _ ?_)
    | (refine State.counterSet_fixed _ _ _ _ ?_)
    | (intro _)
    | split
    | (exact (State.reserveMany_next ‹_›).trans (by simp))
    | simp)

theorem execCounterProgram_fixed (c : Core) (s : State) : Result.keeps (execCounterProgram c s) s := by
  simp [execCounterProgram]

theorem execCounterClear_fixed (c : Core) (s : State) : Result.keeps (execCounterClear c s) s := by
  simp [execCounterClear]

theorem execCounterRun_fixed (c : Core) (s : State) : Result.keeps (execCounterRun c s) s := by
  simp [execCounterRun]

theorem execCounterStop_fixed (c : Core) (s : State) : Result.keeps (execCounterStop c s) s := by
  simp [execCounterStop]

theorem execCounterFree_fixed (c : Core) (s : State) : Result.keeps (execCounterFree c s) s := by
  simp [execCounterFree]

@[simp ↓] theorem State.unitSet_fixed (s : State) (c : Core) (op : Nat) (whole : Bool) (body : State → Order → List Nat → State) (hbody : ∀ b0 b1 b2, (body b0 b1 b2).fixed = b0.fixed) : (State.unitSet s c op whole body).fixed = s.fixed := by
  unfold State.unitSet
  try dsimp only
  repeat' (first
    | assumption
    | (simp [*]; done)
    | (refine State.libRun_fixed _ _ _ _ ?_))

theorem execUnitCounterProgram_fixed (c : Core) (s : State) : Result.keeps (execUnitCounterProgram c s) s := by
  simp [execUnitCounterProgram]

theorem execUnitCounterClear_fixed (c : Core) (s : State) : Result.keeps (execUnitCounterClear c s) s := by
  simp [execUnitCounterClear]

theorem execUnitSetRun_fixed (c : Core) (s : State) : Result.keeps (execUnitSetRun c s) s := by
  simp [execUnitSetRun]

theorem execUnitSetStop_fixed (c : Core) (s : State) : Result.keeps (execUnitSetStop c s) s := by
  simp [execUnitSetStop]

theorem execUnitSetZero_fixed (c : Core) (s : State) : Result.keeps (execUnitSetZero c s) s := by
  simp [execUnitSetZero]

theorem execAgentSet_fixed (c : Core) (s : State) : Result.keeps (execAgentSet c s) s := by
  unfold execAgentSet
  refine (keeps_next _ _).2 ?_
  try dsimp only
  repeat' (first
    | assumption
    | simp [*]
    | (refine State.libRun_fixed _ _ _ _ ?_))

theorem execCoherenceSet_fixed (c : Core) (s : State) : Result.keeps (execCoherenceSet c s) s := by
  unfold execCoherenceSet
  refine (keeps_next _ _).2 ?_
  try dsimp only
  repeat' (first
    | assumption
    | simp [*]
    | (refine State.libRun_fixed _ _ _ _ ?_))

theorem execCoherentFlush_fixed (c : Core) (s : State) : Result.keeps (execCoherentFlush c s) s := by
  unfold execCoherentFlush
  refine (keeps_next _ _).2 ?_
  try dsimp only
  repeat' (first
    | assumption
    | simp [*]
    | (refine State.libRun_fixed _ _ _ _ ?_))

theorem execDeadlogRead_fixed (c : Core) (s : State) : Result.keeps (execDeadlogRead c s) s := by
  simp [execDeadlogRead]

theorem execLaneReport_fixed (c : Core) (s : State) : Result.keeps (execLaneReport c s) s := by
  simp [execLaneReport]

theorem execChanMeasure_fixed (c : Core) (s : State) : Result.keeps (execChanMeasure c s) s := by
  simp [execChanMeasure]

theorem execChannelMeasurementDone_fixed (st : Station) (lanes : List LaneReflection) (s : State) : Result.keeps (execChannelMeasurementDone st lanes s) s := by
  unfold execChannelMeasurementDone
  refine (keeps_next _ _).2 ?_
  try dsimp only
  repeat' (first
    | assumption
    | (simp [*]; done)
    | (intro _)
    | split
    | (refine (foldl_fixed ?_ _ _).trans ?_))

@[simp ↓] theorem State.laneTest_fixed (s : State) (c : Core) (op : Nat) (ok : State → Order → Nat → Nat → Bool) (body : State → Order → List Nat → State) (hbody : ∀ b0 b1 b2, (body b0 b1 b2).fixed = b0.fixed) : (State.laneTest s c op ok body).fixed = s.fixed := by
  unfold State.laneTest
  try dsimp only
  repeat' (first
    | assumption
    | simp [*]
    | (refine State.libRun_fixed _ _ _ _ ?_))

theorem execLaneTestStop_fixed (c : Core) (s : State) : Result.keeps (execLaneTestStop c s) s := by
  simp [execLaneTestStop]

theorem execLaneTestStart_fixed (c : Core) (s : State) : Result.keeps (execLaneTestStart c s) s := by
  simp [execLaneTestStart]

theorem execLaneTestRead_fixed (c : Core) (s : State) : Result.keeps (execLaneTestRead c s) s := by
  simp [execLaneTestRead]

theorem execLaneTestInject_fixed (c : Core) (s : State) : Result.keeps (execLaneTestInject c s) s := by
  simp [execLaneTestInject]

theorem execEyeScan_fixed (c : Core) (s : State) : Result.keeps (execEyeScan c s) s := by
  unfold execEyeScan
  refine (keeps_next _ _).2 ?_
  try dsimp only
  repeat' (first
    | assumption
    | simp [*]
    | (refine State.libRun_fixed _ _ _ _ ?_))

@[simp ↓] theorem State.ideSet_fixed (s : State) (c : Core) (op : Nat) (act : Nat → Nat → Nat → State → State) (hact : ∀ b0 b1 b2 b3, (act b0 b1 b2 b3).fixed = b3.fixed) : (State.ideSet s c op act).fixed = s.fixed := by
  unfold State.ideSet
  try dsimp only
  repeat' (first
    | assumption
    | simp [*]
    | (refine State.libRun_fixed _ _ _ _ ?_)
    | (refine State.libCommit_fixed _ _ _ _ _ ?_)
    | (refine State.libOp_fixed _ _ _ _ _ _ ?_)
    | (refine State.libArgs_fixed _ _ _ _ ?_)
    | (intro _))

theorem execIdeStop_fixed (c : Core) (s : State) : Result.keeps (execIdeStop c s) s := by
  simp [execIdeStop]

theorem execIdeEstablish_fixed (c : Core) (s : State) : Result.keeps (execIdeEstablish c s) s := by
  simp [execIdeEstablish]

theorem execIdeRefresh_fixed (c : Core) (s : State) : Result.keeps (execIdeRefresh c s) s := by
  simp [execIdeRefresh]

@[simp ↓] theorem State.randomBytes_fixed (s : State) (a1 : Nat) (a2 : List Byte) : (State.randomBytes s a1 a2).1.fixed = s.fixed := by
  fun_induction State.randomBytes s a1 a2 <;> simp_all

theorem execTokenNonce_fixed (c : Core) (s : State) : Result.keeps (execTokenNonce c s) s := by
  simp [execTokenNonce]

theorem execTokenWrite_fixed (c : Core) (s : State) : Result.keeps (execTokenWrite c s) s := by
  simp [execTokenWrite]

@[simp ↓] theorem State.ledgerError_fixed (s : State) : (State.ledgerError s).fixed = s.fixed := by
  simp [State.ledgerError]

@[simp ↓] theorem State.useCopy_fixed (s : State) (x : ControlCopy) : (State.useCopy s x).fixed = s.fixed := by
  simp [State.useCopy]

@[simp ↓] theorem State.readControl_fixed (s : State) : (State.readControl s).fixed = s.fixed := by
  simp [State.readControl]

@[simp ↓] theorem State.ledgerPoke_fixed (s : State) (a : Nat) (v : Byte) : (State.ledgerPoke s a v).fixed = s.fixed := by
  simp [State.ledgerPoke]

theorem State.storeStanding_next {s t : State} {priv n : Nat} {frame : List Byte} (h : s.storeStanding priv frame = some (t, n)) :
    t.fixed = s.fixed := by
  unfold State.storeStanding at h
  dsimp only at h
  repeat' split at h
  all_goals cases h
  all_goals simp
theorem execStandingWrite_fixed (c : Core) (s : State) : Result.keeps (execStandingWrite c s) s := by
  unfold execStandingWrite
  refine (keeps_next _ _).2 ?_
  repeat' (first
    | assumption
    | (simp [*]; done)
    | (refine State.libRun_fixed _ _ _ _ ?_)
    | (refine State.libArgs_fixed _ _ _ _ ?_)
    | (refine State.libOp_fixed _ _ _ _ _ _ ?_)
    | (refine State.eventSet_fixed _ _ _ _ ?_)
    | (refine State.counterSet_fixed _ _ _ _ ?_)
    | (intro _)
    | split
    | (exact (State.storeStanding_next ‹_›).trans (by simp))
    | simp)

@[simp ↓] theorem State.firstPart_fixed (s : State) (c : Core) (o : Order) (total : Nat) (part : List Byte) : (State.firstPart s c o total part).fixed = s.fixed := by
  simp [State.firstPart]

@[simp ↓] theorem State.laterPart_fixed (s : State) (c : Core) (total : Nat) (off : Nat) (number : Nat) (part : List Byte) : (State.laterPart s c total off number part).fixed = s.fixed := by
  unfold State.laterPart
  try dsimp only
  repeat' (first
    | assumption
    | (simp [*]; done)
    | (refine State.libRun_fixed _ _ _ _ ?_)
    | (refine State.libArgs_fixed _ _ _ _ ?_)
    | (refine State.libOp_fixed _ _ _ _ _ _ ?_)
    | (refine State.eventSet_fixed _ _ _ _ ?_)
    | (refine State.counterSet_fixed _ _ _ _ ?_)
    | (intro _)
    | split
    | (exact (State.storeStanding_next ‹_›).trans (by simp))
    | simp)

theorem execStandingWritePart_fixed (c : Core) (s : State) : Result.keeps (execStandingWritePart c s) s := by
  simp [execStandingWritePart]

theorem execStandingSessionTimeout_fixed (s : State) : Result.keeps (execStandingSessionTimeout s) s := by
  unfold execStandingSessionTimeout
  refine (keeps_next _ _).2 ?_
  try dsimp only
  repeat' (first
    | assumption
    | simp [*]
    | (intro _)
    | split)

@[simp ↓] theorem State.clearStanding_fixed (s : State) (c : Core) (op : Nat) (sel : Order → StandingRecord → Bool) (ok : Order → Bool) : (State.clearStanding s c op sel ok).fixed = s.fixed := by
  unfold State.clearStanding
  try dsimp only
  repeat' (first
    | assumption
    | (simp [*]; done)
    | (refine State.libRun_fixed _ _ _ _ ?_))

theorem execStandingClearRange_fixed (c : Core) (s : State) : Result.keeps (execStandingClearRange c s) s := by
  simp [execStandingClearRange]

theorem execStandingClearAll_fixed (c : Core) (s : State) : Result.keeps (execStandingClearAll c s) s := by
  simp [execStandingClearAll]

theorem execStandingList_fixed (c : Core) (s : State) : Result.keeps (execStandingList c s) s := by
  simp [execStandingList]

@[simp ↓] theorem State.imageWrite_fixed (s : State) (c : Core) (op : Nat) (ok : Order → Bool) (job : Order → FlashJob) : (State.imageWrite s c op ok job).fixed = s.fixed := by
  unfold State.imageWrite
  try dsimp only
  repeat' (first
    | assumption
    | (simp [*]; done)
    | (refine State.libRun_fixed _ _ _ _ ?_)
    | (refine State.libCommit_fixed _ _ _ _ _ ?_)
    | (refine State.libOp_fixed _ _ _ _ _ _ ?_)
    | (refine State.libArgs_fixed _ _ _ _ ?_)
    | (intro _))

theorem execImageWriteProgram_fixed (c : Core) (s : State) : Result.keeps (execImageWriteProgram c s) s := by
  simp [execImageWriteProgram]

theorem execImageWriteErase_fixed (c : Core) (s : State) : Result.keeps (execImageWriteErase c s) s := by
  simp [execImageWriteErase]

theorem execImageWriteEraseProgram_fixed (c : Core) (s : State) : Result.keeps (execImageWriteEraseProgram c s) s := by
  simp [execImageWriteEraseProgram]

@[simp ↓] theorem State.spoilFlash_fixed (s : State) (a1 : Nat) (a2 : Nat) : (State.spoilFlash s a1 a2).fixed = s.fixed := by
  fun_induction State.spoilFlash s a1 a2 <;> simp_all

@[simp ↓] theorem State.flashWork_fixed (s : State) (job : FlashJob) (ok : Bool) : (State.flashWork s job ok).1.fixed = s.fixed := by
  unfold State.flashWork
  try dsimp only
  repeat' (first
    | assumption
    | (simp [*]; done)
    | (intro _)
    | split)

theorem execImageFlashWorkDone_fixed (ok : Bool) (s : State) : Result.keeps (execImageFlashWorkDone ok s) s := by
  unfold execImageFlashWorkDone
  refine (keeps_next _ _).2 ?_
  try dsimp only
  repeat' (first
    | assumption
    | simp [*]
    | (intro _)
    | split)

theorem execImageStage_fixed (c : Core) (s : State) : Result.keeps (execImageStage c s) s := by
  unfold execImageStage
  refine (keeps_next _ _).2 ?_
  try dsimp only
  repeat' (first
    | assumption
    | (simp [*]; done)
    | (refine State.libRun_fixed _ _ _ _ ?_)
    | (refine State.libCommit_fixed _ _ _ _ _ ?_)
    | (refine State.libArgs_fixed _ _ _ _ ?_)
    | (intro _))

theorem execStagingDone_fixed (memoryError : Bool) (s : State) : Result.keeps (execStagingDone memoryError s) s := by
  unfold execStagingDone
  refine (keeps_next _ _).2 ?_
  try dsimp only
  repeat' (first
    | assumption
    | (simp [*]; done)
    | (intro _)
    | split)

theorem execActivate_fixed (c : Core) (s : State) : Result.keeps (execActivate c s) s := by
  unfold execActivate
  refine (keeps_next _ _).2 ?_
  try dsimp only
  repeat' (first
    | assumption
    | simp [*]
    | (refine State.libRun_fixed _ _ _ _ ?_))

@[simp ↓] theorem State.activationEnds_fixed (s : State) : (State.activationEnds s).fixed = s.fixed := by
  simp [State.activationEnds]

theorem execActivationRehashDone_fixed (s : State) : Result.keeps (execActivationRehashDone s) s := by
  simp [execActivationRehashDone]

theorem execActivationQuiescePoint_fixed (s : State) : Result.keeps (execActivationQuiescePoint s) s := by
  simp [execActivationQuiescePoint]

@[simp ↓] theorem State.installCopy_fixed (s : State) : (State.installCopy s).fixed = s.fixed := by
  simp [State.installCopy]

theorem execActivationCopyDone_fixed (memoryError : Bool) (s : State) : Result.keeps (execActivationCopyDone memoryError s) s := by
  simp [execActivationCopyDone]

@[simp ↓] theorem State.policyResumes_fixed (s : State) : (State.policyResumes s).fixed = s.fixed := by
  simp [State.policyResumes]

theorem execActivationResume_fixed (s : State) : Result.keeps (execActivationResume s) s := by
  simp [execActivationResume]

theorem execActivationReloadDone_fixed (s : State) : Result.keeps (execActivationReloadDone s) s := by
  simp [execActivationReloadDone]

theorem execConfirm_fixed (c : Core) (s : State) : Result.keeps (execConfirm c s) s := by
  simp [execConfirm]

end Sys2Proof.Machine
end

