-- ==== Sys2Proof/Laws/FramesEvents.lean ====
section
/-! SUPPORT. The commands of boot, coherence, the Junction, the cores, orders and the switch leave OTP and the waiting commands alone (R70, R540):
what each does to the fixed part of a state. -/

namespace Sys2Proof.Machine


theorem execColdReset_fixed (straps : Straps) (clkA : Bool) (clkB : Bool) (s : State) : Result.keeps (execColdReset straps clkA clkB s) s := by
  simp [execColdReset]

@[simp ↓] theorem State.noteLifecycle_fixed (s : State) : (State.noteLifecycle s).fixed = s.fixed := by
  simp [State.noteLifecycle]

theorem execJtagTestInstruction_fixed (s : State) : Result.keeps (execJtagTestInstruction s) s := by
  simp [execJtagTestInstruction]

theorem execTapReset_fixed (s : State) : Result.keeps (execTapReset s) s := by
  simp [execTapReset]

theorem execBootPhase1_fixed (flashAnswers : Bool) (s : State) : Result.keeps (execBootPhase1 flashAnswers s) s := by
  unfold execBootPhase1
  refine (keeps_next _ _).2 ?_
  try dsimp only
  repeat' (first
    | assumption
    | (simp [*]; done)
    | (intro _)
    | split)

theorem execImageLoadDone_fixed (memoryError : Bool) (s : State) : Result.keeps (execImageLoadDone memoryError s) s := by
  simp [execImageLoadDone]

theorem execBootPhase2_fixed (s : State) : Result.keeps (execBootPhase2 s) s := by
  simp [execBootPhase2]

theorem execBootPhase3_fixed (s : State) : Result.keeps (execBootPhase3 s) s := by
  simp [execBootPhase3]

theorem execStandingOrderReplay_fixed (s : State) : Result.keeps (execStandingOrderReplay s) s := by
  unfold execStandingOrderReplay
  refine (keeps_next _ _).2 ?_
  try dsimp only
  repeat' (first
    | assumption
    | (simp [*]; done)
    | (intro _)
    | split)

theorem execBootPhase4_fixed (s : State) : Result.keeps (execBootPhase4 s) s := by
  simp [execBootPhase4]

theorem execLeverReloadDone_fixed (s : State) : Result.keeps (execLeverReloadDone s) s := by
  simp [execLeverReloadDone]

theorem execStationRejoin_fixed (st : Station) (s : State) : Result.keeps (execStationRejoin st s) s := by
  simp [execStationRejoin]

theorem execFatalError_fixed (code : FatalCode) (detail : Nat) (s : State) : Result.keeps (execFatalError code detail s) s := by
  simp [execFatalError]

@[simp ↓] theorem State.halt_fixed (s : State) : (State.halt s).fixed = s.fixed := by
  simp [State.halt]

theorem execFatalAction_fixed (s : State) : Result.keeps (execFatalAction s) s := by
  unfold execFatalAction
  refine (keeps_next _ _).2 ?_
  try dsimp only
  repeat' (first
    | assumption
    | (simp [*]; done)
    | (intro _)
    | split)

theorem execMcWatchdog_fixed (pc : Nat) (s : State) : Result.keeps (execMcWatchdog pc s) s := by
  simp [execMcWatchdog]

theorem execCorrectedSummary_fixed (s : State) : Result.keeps (execCorrectedSummary s) s := by
  simp [execCorrectedSummary]

theorem execContainedWindowEnd_fixed (code : Nat) (whereNo : Nat) (s : State) : Result.keeps (execContainedWindowEnd code whereNo s) s := by
  unfold execContainedWindowEnd
  refine (keeps_next _ _).2 ?_
  try dsimp only
  repeat' (first
    | assumption
    | (simp [*]; done)
    | (intro _)
    | split)

@[simp ↓] theorem State.readBadLoft_fixed (s : State) (line : Nat) (p : Nat) (kind : CohKind) : (State.readBadLoft s line p kind).fixed = s.fixed := by
  unfold State.readBadLoft
  try dsimp only
  repeat' (first
    | assumption
    | (simp [*]; done)
    | (intro _)
    | split)

@[simp ↓] theorem State.readLoft_fixed (s : State) (line : Nat) (p : Nat) (kind : CohKind) : (State.readLoft s line p kind).fixed = s.fixed := by
  simp [State.readLoft]

@[simp ↓] theorem State.fromRing_fixed (s : State) (kind : CohKind) (r : CohReq) (w : Option WriteData) (a : Option AtomicOp) (act : RingRequest → State → State) (hact : ∀ b0 b1, (act b0 b1).fixed = b1.fixed) : (State.fromRing s kind r w a act).fixed = s.fixed := by
  unfold State.fromRing
  try dsimp only
  repeat' (first
    | assumption
    | simp [*]
    | (intro _)
    | split)

@[simp ↓] theorem State.serve_fixed (s : State) (r : CohReq) (kind : CohKind) (w : Option WriteData) (a : Option AtomicOp) : (State.serve s r kind w a).fixed = s.fixed := by
  simp [State.serve]

theorem execRdS_fixed (r : CohReq) (s : State) : Result.keeps (execRdS r s) s := by
  simp [execRdS]

theorem execRdE_fixed (r : CohReq) (s : State) : Result.keeps (execRdE r s) s := by
  simp [execRdE]

theorem execRdNc_fixed (r : CohReq) (s : State) : Result.keeps (execRdNc r s) s := by
  simp [execRdNc]

theorem execWr_fixed (r : CohReq) (w : WriteData) (s : State) : Result.keeps (execWr r w s) s := by
  simp [execWr]

theorem execWb_fixed (r : CohReq) (w : WriteData) (keepShared : Bool) (s : State) : Result.keeps (execWb r w keepShared s) s := by
  simp [execWb]

theorem execEvictClean_fixed (r : CohReq) (s : State) : Result.keeps (execEvictClean r s) s := by
  simp [execEvictClean]

theorem execAtomic_fixed (r : CohReq) (a : AtomicOp) (s : State) : Result.keeps (execAtomic r a s) s := by
  simp [execAtomic]

@[simp ↓] theorem State.snoopResponse_fixed (s : State) (a : Nat) (line : Nat) (kept : Bool) (data : Option LineData) : (State.snoopResponse s a line kept data).fixed = s.fixed := by
  simp [State.snoopResponse]

theorem execRspI_fixed (agent : AgentId) (line : Line) (data : Option LineData) (s : State) : Result.keeps (execRspI agent line data s) s := by
  simp [execRspI]

theorem execRspS_fixed (agent : AgentId) (line : Line) (data : Option LineData) (s : State) : Result.keeps (execRspS agent line data s) s := by
  simp [execRspS]

theorem execSnoopTimeout_fixed (agent : AgentId) (line : Line) (s : State) : Result.keeps (execSnoopTimeout agent line s) s := by
  unfold execSnoopTimeout
  refine (keeps_next _ _).2 ?_
  try dsimp only
  repeat' (first
    | assumption
    | (simp [*]; done)
    | (intro _)
    | split)

@[simp ↓] theorem State.sendFill_fixed (s : State) (line : Nat) (port : Nat) (tenant : Nat) (home : Nat) (d : LineData) (bad : Bool) : (State.sendFill s line port tenant home d bad).fixed = s.fixed := by
  simp [State.sendFill]

theorem execMemoryData_fixed (line : Line) (result : MemResult) (s : State) : Result.keeps (execMemoryData line result s) s := by
  unfold execMemoryData
  refine (keeps_next _ _).2 ?_
  try dsimp only
  repeat' (first
    | assumption
    | (simp [*]; done)
    | (intro _)
    | split)

theorem execMemoryWriteComplete_fixed (line : Line) (ok : Bool) (s : State) : Result.keeps (execMemoryWriteComplete line ok s) s := by
  simp [execMemoryWriteComplete]

theorem execAtomicCompletion_fixed (line : Line) (old : BitVec 128) (s : State) : Result.keeps (execAtomicCompletion line old s) s := by
  unfold execAtomicCompletion
  refine (keeps_next _ _).2 ?_
  try dsimp only
  repeat' (first
    | assumption
    | simp [*]
    | (intro _)
    | split)

theorem execLineLockHandoff_fixed (line : Line) (s : State) : Result.keeps (execLineLockHandoff line s) s := by
  simp [execLineLockHandoff]

@[simp ↓] theorem State.servePrefetch_fixed (s : State) (p : Nat) (m : CohBypass) : (State.servePrefetch s p m).fixed = s.fixed := by
  unfold State.servePrefetch
  extract_lets
  repeat' split
  all_goals simp

@[simp ↓] theorem State.checkedPeer_fixed (s : State) (p : Port) (m : CohBypass) (kind : CohKind) (go : State) (hgo : go.fixed = s.fixed) : (State.checkedPeer s p m kind go).fixed = s.fixed := by
  unfold State.checkedPeer
  dsimp only
  split <;> simp [hgo]

theorem execCReq_fixed (p : Port) (m : CohBypass) (s : State) : Result.keeps (execCReq p m s) s := by
  unfold execCReq
  refine (keeps_next _ _).2 ?_
  try dsimp only
  repeat' (first
    | assumption
    | (simp [*]; done)
    | (refine State.onMessage_fixed _ _ _ _ _ ?_)
    | (intro _)
    | split)

theorem execCSnp_fixed (p : Port) (m : CohBypass) (s : State) : Result.keeps (execCSnp p m s) s := by
  unfold execCSnp
  refine (keeps_next _ _).2 ?_
  split
  · refine State.onMessage_fixed _ _ _ _ _ ?_
    intro s
    dsimp only
    repeat' split
    all_goals simp
  · rfl

theorem execCWb_fixed (p : Port) (m : CohBypass) (s : State) : Result.keeps (execCWb p m s) s := by
  simp [execCWb]

@[simp ↓] theorem State.lateAnswer_fixed (s : State) (line : Nat) (y : Transaction) (op : Nat) (old : Nat) (data : Option (LineData × Bool)) : (State.lateAnswer s line y op old data).fixed = s.fixed := by
  simp [State.lateAnswer]

@[simp ↓] theorem State.peerAnswer_fixed (s : State) (p : Nat) (m : CohBypass) (data : Option (LineData × Bool)) : (State.peerAnswer s p m data).fixed = s.fixed := by
  unfold State.peerAnswer
  extract_lets
  repeat' split
  all_goals simp

theorem execCRsp_fixed (p : Port) (m : CohBypass) (s : State) : Result.keeps (execCRsp p m s) s := by
  simp [execCRsp]

theorem execCData_fixed (p : Port) (m : CohBypass) (s : State) : Result.keeps (execCData p m s) s := by
  simp [execCData]

@[simp ↓] theorem State.installFill_fixed (s : State) (p : Nat) (l : Nat) (tenant : Nat) (data : LineData) (poison : Bool) : (State.installFill s p l tenant data poison).fixed = s.fixed := by
  unfold State.installFill
  try dsimp only
  repeat' (first
    | assumption
    | (simp [*]; done)
    | (intro _)
    | split)

theorem execPrefetchFill_fixed (p : Port) (line : Line) (tenant : TenantId) (data : LineData) (s : State) : Result.keeps (execPrefetchFill p line tenant data s) s := by
  unfold execPrefetchFill
  refine (keeps_next _ _).2 ?_
  repeat' (first
    | assumption
    | (simp [*]; done)
    | (refine State.libRun_fixed _ _ _ _ ?_)
    | (refine State.libArgs_fixed _ _ _ _ ?_)
    | (refine State.libOp_fixed _ _ _ _ _ _ ?_)
    | (refine State.eventSet_fixed _ _ _ _ ?_)
    | (refine State.counterSet_fixed _ _ _ _ ?_)
    | (intro _)
    | split
    | (refine (State.withCredit_fixed _ _ _ _ _ _ ?_).trans ?_)
    | (refine (State.arrive_fixed _ _).trans ?_)
    | (exact State.takeArrived_next ‹_›))

theorem execBiConflict_fixed (agent : AgentId) (line : Line) (s : State) : Result.keeps (execBiConflict agent line s) s := by
  simp [execBiConflict]

theorem execDeadAgentScanDone_fixed (a : AgentId) (s : State) : Result.keeps (execDeadAgentScanDone a s) s := by
  simp [execDeadAgentScanDone]

theorem execCoherentFlushDone_fixed (t : TenantId) (s : State) : Result.keeps (execCoherentFlushDone t s) s := by
  unfold execCoherentFlushDone
  refine (keeps_next _ _).2 ?_
  try dsimp only
  repeat' (first
    | assumption
    | simp [*]
    | (intro _)
    | split)

@[simp ↓] theorem State.lateJunction_fixed (s : State) (p : Nat) (win : Nat) (tag : Nat) (err : Nat) : (State.lateJunction s p win tag err).fixed = s.fixed := by
  simp [State.lateJunction]

@[simp ↓] theorem State.wrapRequest_fixed (s : State) (p : Port) (w : Wrap) : (State.wrapRequest s p w).fixed = s.fixed := by
  unfold State.wrapRequest
  dsimp only
  repeat' (first
    | (simp; done)
    | split)

@[simp ↓] theorem State.wrapCompletion_fixed (s : State) (p : Port) (w : Wrap) : (State.wrapCompletion s p w).fixed = s.fixed := by
  unfold State.wrapCompletion
  try dsimp only
  repeat' (first
    | assumption
    | simp [*]
    | (intro _)
    | split)

theorem execJunctionWrapReceive_fixed (p : Port) (w : Wrap) (s : State) : Result.keeps (execJunctionWrapReceive p w s) s := by
  unfold execJunctionWrapReceive
  refine (keeps_next _ _).2 ?_
  repeat' (first
    | assumption
    | (simp [*]; done)
    | (refine State.libRun_fixed _ _ _ _ ?_)
    | (refine State.libArgs_fixed _ _ _ _ ?_)
    | (refine State.libOp_fixed _ _ _ _ _ _ ?_)
    | (refine State.eventSet_fixed _ _ _ _ ?_)
    | (refine State.counterSet_fixed _ _ _ _ ?_)
    | (intro _)
    | split
    | (refine (State.withCredit_fixed _ _ _ _ _ _ ?_).trans ?_)
    | (refine (State.arrive_fixed _ _).trans ?_)
    | (exact State.takeArrived_next ‹_›))

theorem execJunctionFarTimeout_fixed (tag : Tag) (s : State) : Result.keeps (execJunctionFarTimeout tag s) s := by
  unfold execJunctionFarTimeout
  refine (keeps_next _ _).2 ?_
  try dsimp only
  repeat' (first
    | assumption
    | simp [*]
    | (intro _)
    | split)

theorem execJunctionNearTimeout_fixed (tag : Tag) (s : State) : Result.keeps (execJunctionNearTimeout tag s) s := by
  unfold execJunctionNearTimeout
  refine (keeps_next _ _).2 ?_
  try dsimp only
  repeat' (first
    | assumption
    | simp [*]
    | (intro _)
    | split)

@[simp ↓] theorem State.sendDue_fixed (s : State) : (State.sendDue s).fixed = s.fixed := by
  unfold State.sendDue
  try dsimp only
  repeat' (first
    | assumption
    | (simp [*]; done)
    | (intro _)
    | split
    | (refine (foldl_fixed ?_ _ _).trans ?_))

@[simp ↓] theorem State.nextAccess_fixed (s : State) (w : Nat) : (State.nextAccess s w).fixed = s.fixed := by
  simp [State.nextAccess]

@[simp ↓] theorem State.failAccess_fixed (s : State) (w : Nat) (status : Nat) (a : BusAccess) : (State.failAccess s w status a).fixed = s.fixed := by
  simp [State.failAccess]

@[simp ↓] theorem State.modAccess_fixed (s : State) (w : Nat) (f : BusAccess → BusAccess) : (State.modAccess s w f).fixed = s.fixed := by
  simp [State.modAccess]

theorem execSbTransferEnd_fixed (w : WindowNo) (nack : Bool) (bytes : List Byte) (s : State) : Result.keeps (execSbTransferEnd w nack bytes s) s := by
  unfold execSbTransferEnd
  refine (keeps_next _ _).2 ?_
  try dsimp only
  repeat' (first
    | assumption
    | (simp [*]; done)
    | (intro _)
    | split)

theorem execSbArbitrationLost_fixed (w : WindowNo) (s : State) : Result.keeps (execSbArbitrationLost w s) s := by
  unfold execSbArbitrationLost
  refine (keeps_next _ _).2 ?_
  try dsimp only
  repeat' (first
    | assumption
    | simp [*]
    | (intro _)
    | split)

theorem execSbReissue_fixed (w : WindowNo) (s : State) : Result.keeps (execSbReissue w s) s := by
  unfold execSbReissue
  refine (keeps_next _ _).2 ?_
  try dsimp only
  repeat' (first
    | assumption
    | simp [*]
    | (intro _)
    | split)

theorem execSbReadTimeout_fixed (w : WindowNo) (s : State) : Result.keeps (execSbReadTimeout w s) s := by
  unfold execSbReadTimeout
  refine (keeps_next _ _).2 ?_
  try dsimp only
  repeat' (first
    | assumption
    | simp [*]
    | (intro _)
    | split)

theorem execWindowPoll_fixed (w : WindowNo) (alertLow : Bool) (gpiHigh : Bool) (s : State) : Result.keeps (execWindowPoll w alertLow gpiHigh s) s := by
  simp [execWindowPoll]

theorem execAdd_fixed (c : Core) (o : RRR) (s : State) : Result.keeps (execAdd c o s) s := by
  simp [execAdd]

theorem execSub_fixed (c : Core) (o : RRR) (s : State) : Result.keeps (execSub c o s) s := by
  simp [execSub]

theorem execAndAlu_fixed (c : Core) (o : RRR) (s : State) : Result.keeps (execAndAlu c o s) s := by
  simp [execAndAlu]

theorem execOrAlu_fixed (c : Core) (o : RRR) (s : State) : Result.keeps (execOrAlu c o s) s := by
  simp [execOrAlu]

theorem execXorAlu_fixed (c : Core) (o : RRR) (s : State) : Result.keeps (execXorAlu c o s) s := by
  simp [execXorAlu]

theorem execSll_fixed (c : Core) (o : RRR) (s : State) : Result.keeps (execSll c o s) s := by
  simp [execSll]

theorem execSrl_fixed (c : Core) (o : RRR) (s : State) : Result.keeps (execSrl c o s) s := by
  simp [execSrl]

theorem execSra_fixed (c : Core) (o : RRR) (s : State) : Result.keeps (execSra c o s) s := by
  simp [execSra]

theorem execSlt_fixed (c : Core) (o : RRR) (s : State) : Result.keeps (execSlt c o s) s := by
  simp [execSlt]

theorem execSltu_fixed (c : Core) (o : RRR) (s : State) : Result.keeps (execSltu c o s) s := by
  simp [execSltu]

theorem execMul_fixed (c : Core) (o : RRR) (s : State) : Result.keeps (execMul c o s) s := by
  simp [execMul]

theorem execMulhu_fixed (c : Core) (o : RRR) (s : State) : Result.keeps (execMulhu c o s) s := by
  simp [execMulhu]

theorem execDivu_fixed (c : Core) (o : RRR) (s : State) : Result.keeps (execDivu c o s) s := by
  simp [execDivu]

theorem execRemu_fixed (c : Core) (o : RRR) (s : State) : Result.keeps (execRemu c o s) s := by
  simp [execRemu]

theorem execMinu_fixed (c : Core) (o : RRR) (s : State) : Result.keeps (execMinu c o s) s := by
  simp [execMinu]

theorem execMaxu_fixed (c : Core) (o : RRR) (s : State) : Result.keeps (execMaxu c o s) s := by
  simp [execMaxu]

theorem execAddi_fixed (c : Core) (o : IOp) (s : State) : Result.keeps (execAddi c o s) s := by
  simp [execAddi]

theorem execAndi_fixed (c : Core) (o : IOp) (s : State) : Result.keeps (execAndi c o s) s := by
  simp [execAndi]

theorem execOri_fixed (c : Core) (o : IOp) (s : State) : Result.keeps (execOri c o s) s := by
  simp [execOri]

theorem execXori_fixed (c : Core) (o : IOp) (s : State) : Result.keeps (execXori c o s) s := by
  simp [execXori]

theorem execExtField_fixed (c : Core) (o : IOp) (s : State) : Result.keeps (execExtField c o s) s := by
  simp [execExtField]

theorem execInsField_fixed (c : Core) (o : IOp) (s : State) : Result.keeps (execInsField c o s) s := by
  simp [execInsField]

theorem execLui_fixed (c : Core) (o : IOp) (s : State) : Result.keeps (execLui c o s) s := by
  simp [execLui]

theorem execShor_fixed (c : Core) (o : IOp) (s : State) : Result.keeps (execShor c o s) s := by
  simp [execShor]

theorem execSlti_fixed (c : Core) (o : IOp) (s : State) : Result.keeps (execSlti c o s) s := by
  simp [execSlti]

theorem execSltiu_fixed (c : Core) (o : IOp) (s : State) : Result.keeps (execSltiu c o s) s := by
  simp [execSltiu]

theorem execSlli_fixed (c : Core) (o : IOp) (s : State) : Result.keeps (execSlli c o s) s := by
  simp [execSlli]

theorem execSrli_fixed (c : Core) (o : IOp) (s : State) : Result.keeps (execSrli c o s) s := by
  simp [execSrli]

theorem execSrai_fixed (c : Core) (o : IOp) (s : State) : Result.keeps (execSrai c o s) s := by
  simp [execSrai]

theorem execAmoadd_fixed (c : Core) (o : RRR) (s : State) : Result.keeps (execAmoadd c o s) s := by
  simp [execAmoadd]

theorem execAmoswap_fixed (c : Core) (o : RRR) (s : State) : Result.keeps (execAmoswap c o s) s := by
  simp [execAmoswap]

theorem execAmoand_fixed (c : Core) (o : RRR) (s : State) : Result.keeps (execAmoand c o s) s := by
  simp [execAmoand]

theorem execAmoor_fixed (c : Core) (o : RRR) (s : State) : Result.keeps (execAmoor c o s) s := by
  simp [execAmoor]

theorem execLd_fixed (c : Core) (o : IOp) (s : State) : Result.keeps (execLd c o s) s := by
  simp [execLd]

theorem execLw_fixed (c : Core) (o : IOp) (s : State) : Result.keeps (execLw c o s) s := by
  simp [execLw]

theorem execLb_fixed (c : Core) (o : IOp) (s : State) : Result.keeps (execLb c o s) s := by
  simp [execLb]

theorem execSd_fixed (c : Core) (o : IOp) (s : State) : Result.keeps (execSd c o s) s := by
  simp [execSd]

theorem execSw_fixed (c : Core) (o : IOp) (s : State) : Result.keeps (execSw c o s) s := by
  simp [execSw]

theorem execSb_fixed (c : Core) (o : IOp) (s : State) : Result.keeps (execSb c o s) s := by
  simp [execSb]

theorem execJal_fixed (c : Core) (o : IOp) (s : State) : Result.keeps (execJal c o s) s := by
  simp [execJal]

theorem execJalr_fixed (c : Core) (o : IOp) (s : State) : Result.keeps (execJalr c o s) s := by
  simp [execJalr]

theorem execBeq_fixed (c : Core) (o : BOp) (s : State) : Result.keeps (execBeq c o s) s := by
  simp [execBeq]

theorem execBne_fixed (c : Core) (o : BOp) (s : State) : Result.keeps (execBne c o s) s := by
  simp [execBne]

theorem execBlt_fixed (c : Core) (o : BOp) (s : State) : Result.keeps (execBlt c o s) s := by
  simp [execBlt]

theorem execBge_fixed (c : Core) (o : BOp) (s : State) : Result.keeps (execBge c o s) s := by
  simp [execBge]

theorem execBltu_fixed (c : Core) (o : BOp) (s : State) : Result.keeps (execBltu c o s) s := by
  simp [execBltu]

theorem execBgeu_fixed (c : Core) (o : BOp) (s : State) : Result.keeps (execBgeu c o s) s := by
  simp [execBgeu]

@[simp ↓] theorem State.slotPower_fixed (s : State) (c : Core) (op : Nat) (values : List Nat) : (State.slotPower s c op values).fixed = s.fixed := by
  unfold State.slotPower
  try dsimp only
  repeat' (first
    | assumption
    | (simp [*]; done)
    | (refine State.libRun_fixed _ _ _ _ ?_)
    | (refine State.libArgs_fixed _ _ _ _ ?_)
    | (refine State.libOp_fixed _ _ _ _ _ _ ?_)
    | (refine State.eventSet_fixed _ _ _ _ ?_)
    | (refine State.counterSet_fixed _ _ _ _ ?_)
    | (intro _)
    | split
    | (exact (State.commitAll_refused ‹_›).trans (by simp))
    | (exact (State.commitAll_later ‹_›).trans (by simp))
    | (exact (State.commitAll_passed ‹_›).trans (by simp))
    | simp)

theorem execSlotPowerOff_fixed (c : Core) (s : State) : Result.keeps (execSlotPowerOff c s) s := by
  simp [execSlotPowerOff]

theorem execSlotPowerOn_fixed (c : Core) (s : State) : Result.keeps (execSlotPowerOn c s) s := by
  simp [execSlotPowerOn]

theorem execSlotPowerCycle_fixed (c : Core) (s : State) : Result.keeps (execSlotPowerCycle c s) s := by
  simp [execSlotPowerCycle]

theorem execSlotLimits_fixed (c : Core) (s : State) : Result.keeps (execSlotLimits c s) s := by
  unfold execSlotLimits
  refine (keeps_next _ _).2 ?_
  try dsimp only
  repeat' (first
    | assumption
    | simp [*]
    | (refine State.libRun_fixed _ _ _ _ ?_))

theorem execSlotTiming_fixed (c : Core) (s : State) : Result.keeps (execSlotTiming c s) s := by
  unfold execSlotTiming
  refine (keeps_next _ _).2 ?_
  try dsimp only
  repeat' (first
    | assumption
    | simp [*]
    | (refine State.libRun_fixed _ _ _ _ ?_))

theorem execSlotMap_fixed (c : Core) (s : State) : Result.keeps (execSlotMap c s) s := by
  unfold execSlotMap
  refine (keeps_next _ _).2 ?_
  try dsimp only
  repeat' (first
    | assumption
    | simp [*]
    | (refine State.libRun_fixed _ _ _ _ ?_))

theorem execDomainSet_fixed (c : Core) (s : State) : Result.keeps (execDomainSet c s) s := by
  unfold execDomainSet
  refine (keeps_next _ _).2 ?_
  try dsimp only
  repeat' (first
    | assumption
    | (simp [*]; done)
    | (refine State.libRun_fixed _ _ _ _ ?_))

theorem execPstateSet_fixed (c : Core) (s : State) : Result.keeps (execPstateSet c s) s := by
  unfold execPstateSet
  refine (keeps_next _ _).2 ?_
  try dsimp only
  repeat' (first
    | assumption
    | (simp [*]; done)
    | (refine State.libRun_fixed _ _ _ _ ?_))

theorem execSensorSet_fixed (c : Core) (s : State) : Result.keeps (execSensorSet c s) s := by
  unfold execSensorSet
  refine (keeps_next _ _).2 ?_
  try dsimp only
  repeat' (first
    | assumption
    | (simp [*]; done)
    | (refine State.libRun_fixed _ _ _ _ ?_))

@[simp ↓] theorem State.haltEnds_fixed (s : State) : (State.haltEnds s).fixed = s.fixed := by
  simp [State.haltEnds]

@[simp ↓] theorem State.resetBy_fixed (s : State) (c : Core) (type : Nat) (act : Nat → State → State) (hact : ∀ b0 b1, (act b0 b1).fixed = b1.fixed) : (State.resetBy s c type act).fixed = s.fixed := by
  unfold State.resetBy
  try dsimp only
  repeat' (first
    | assumption
    | (simp [*]; done)
    | (refine State.libRun_fixed _ _ _ _ ?_)
    | (refine State.libArgs_fixed _ _ _ _ ?_)
    | (refine State.libOp_fixed _ _ _ _ _ _ ?_)
    | (refine State.eventSet_fixed _ _ _ _ ?_)
    | (refine State.counterSet_fixed _ _ _ _ ?_)
    | (intro _)
    | split
    | (refine (hact _ _).trans ?_; simp; exact State.commitNow_passed ‹_›)
    | (exact (State.commitNow_refused ‹_›).trans (by simp))
    | (exact (State.commitNow_later ‹_›).trans (by simp))
    | simp)

theorem execResetWarm_fixed (c : Core) (s : State) : Result.keeps (execResetWarm c s) s := by
  simp [execResetWarm]

theorem execResetStation_fixed (c : Core) (s : State) : Result.keeps (execResetStation c s) s := by
  simp [execResetStation]

theorem execResetLever_fixed (c : Core) (s : State) : Result.keeps (execResetLever c s) s := by
  simp [execResetLever]

theorem execErrlogRead_fixed (c : Core) (s : State) : Result.keeps (execErrlogRead c s) s := by
  simp [execErrlogRead]

@[simp ↓] theorem State.adaptBy_fixed (s : State) (x : ShaperItem) : (State.adaptBy s x).fixed = s.fixed := by
  simp [State.adaptBy]

theorem execShaperSet_fixed (c : Core) (s : State) : Result.keeps (execShaperSet c s) s := by
  unfold execShaperSet
  refine (keeps_next _ _).2 ?_
  try dsimp only
  repeat' (first
    | assumption
    | simp [*]
    | (refine State.libRun_fixed _ _ _ _ ?_)
    | (refine State.libCommit_fixed _ _ _ _ _ ?_)
    | (refine State.libArgs_fixed _ _ _ _ ?_)
    | (intro _))

theorem execTimetableArm_fixed (c : Core) (s : State) : Result.keeps (execTimetableArm c s) s := by
  unfold execTimetableArm
  refine (keeps_next _ _).2 ?_
  repeat' (first
    | assumption
    | (simp [*]; done)
    | (refine State.libRun_fixed _ _ _ _ ?_)
    | (refine State.libArgs_fixed _ _ _ _ ?_)
    | (refine State.libOp_fixed _ _ _ _ _ _ ?_)
    | (refine State.eventSet_fixed _ _ _ _ ?_)
    | (refine State.counterSet_fixed _ _ _ _ ?_)
    | (intro _)
    | split
    | (exact (State.commitAll_refused ‹_›).trans (by simp))
    | (exact (State.commitAll_later ‹_›).trans (by simp))
    | (exact (State.commitAll_passed ‹_›).trans (by simp))
    | simp)

theorem execWindowSet_fixed (c : Core) (s : State) : Result.keeps (execWindowSet c s) s := by
  unfold execWindowSet
  refine (keeps_next _ _).2 ?_
  try dsimp only
  repeat' (first
    | assumption
    | (simp [*]; done)
    | (refine State.libRun_fixed _ _ _ _ ?_))

theorem execQueueRead_fixed (c : Core) (s : State) : Result.keeps (execQueueRead c s) s := by
  unfold execQueueRead
  refine (keeps_next _ _).2 ?_
  try dsimp only
  repeat' (first
    | assumption
    | (simp [*]; done)
    | (refine State.libRun_fixed _ _ _ _ ?_))

theorem execTimeSet_fixed (c : Core) (s : State) : Result.keeps (execTimeSet c s) s := by
  unfold execTimeSet
  refine (keeps_next _ _).2 ?_
  try dsimp only
  repeat' (first
    | assumption
    | (simp [*]; done)
    | (refine State.libRun_fixed _ _ _ _ ?_))

@[simp ↓] theorem State.readItems_fixed (s : State) (o : Order) (a2 : List Nat) (a3 : List Byte) : (State.readItems s o a2 a3).1.fixed = s.fixed := by
  fun_induction State.readItems s o a2 a3 <;> simp_all

theorem execReadFields_fixed (c : Core) (s : State) : Result.keeps (execReadFields c s) s := by
  unfold execReadFields
  refine (keeps_next _ _).2 ?_
  try dsimp only
  repeat' (first
    | assumption
    | (simp [*]; done)
    | (refine State.libRun_fixed _ _ _ _ ?_)
    | (refine State.libArgs_fixed _ _ _ _ ?_)
    | (intro _)
    | split
    | (refine (foldl_fixed ?_ _ _).trans ?_)
    | (refine ((congrArg (fun z => State.fixed z.1) ‹_ = (_, _)›).symm.trans ?_))
    | simp)

@[simp ↓] theorem State.info_fixed (s : State) (c : Core) (kind : Nat) : (State.info s c kind).fixed = s.fixed := by
  unfold State.info
  try dsimp only
  repeat' (first
    | assumption
    | simp [*]
    | (refine State.libRun_fixed _ _ _ _ ?_))

theorem execInfoIdentify_fixed (c : Core) (s : State) : Result.keeps (execInfoIdentify c s) s := by
  simp [execInfoIdentify]

theorem execInfoPortState_fixed (c : Core) (s : State) : Result.keeps (execInfoPortState c s) s := by
  simp [execInfoPortState]

theorem execInfoVcs_fixed (c : Core) (s : State) : Result.keeps (execInfoVcs c s) s := by
  simp [execInfoVcs]

@[simp ↓] theorem State.fromVdm_fixed (s : State) (p : Port) (body : State → State) (hbody : ∀ b0, (body b0).fixed = b0.fixed) : (State.fromVdm s p body).fixed = s.fixed := by
  unfold State.fromVdm
  try dsimp only
  repeat' (first
    | assumption
    | simp [*])

@[simp ↓] theorem State.fromBus_fixed (s : State) (body : State → State) (hbody : ∀ b0, (body b0).fixed = b0.fixed) : (State.fromBus s body).fixed = s.fixed := by
  unfold State.fromBus
  try dsimp only
  repeat' (first
    | assumption
    | simp [*]
    | (intro _)
    | split)

@[simp ↓] theorem State.reassembled_fixed (s : State) (frame : List Byte) (body : State → State) (hbody : ∀ b0, (body b0).fixed = b0.fixed) : (State.reassembled s frame body).fixed = s.fixed := by
  unfold State.reassembled
  try dsimp only
  repeat' (first
    | assumption
    | simp [*])

theorem execSubmitOrder_fixed (src : OrderSource) (s : State) : Result.keeps (execSubmitOrder src s) s := by
  unfold execSubmitOrder
  refine (keeps_next _ _).2 ?_
  try dsimp only
  repeat' (first
    | assumption
    | simp [*]
    | (refine State.fromVdm_fixed _ _ _ ?_)
    | (refine State.fromBus_fixed _ _ ?_)
    | (intro _)
    | split)

@[simp ↓] theorem State.answerApi_fixed (s : State) (src : RequestSource) (ret : Nat) (status : Nat) (data : List Byte) : (State.answerApi s src ret status data).fixed = s.fixed := by
  unfold State.answerApi
  try dsimp only
  repeat' (first
    | assumption
    | (simp [*]; done)
    | (intro _)
    | split)

@[simp ↓] theorem State.fromApi_fixed (s : State) (src : RequestSource) (opcodes : Nat → Bool) (body : State → State) (hbody : ∀ b0, (body b0).fixed = b0.fixed) : (State.fromApi s src opcodes body).fixed = s.fixed := by
  unfold State.fromApi
  try dsimp only
  repeat' (first
    | assumption
    | (simp [*]; done)
    | (intro _)
    | split)

@[simp ↓] theorem State.apiCommand_fixed (s : State) (src : RequestSource) (opcodes : Nat → Bool) (libid : Nat) (args : List Byte) : (State.apiCommand s src opcodes libid args).fixed = s.fixed := by
  simp [State.apiCommand]

@[simp ↓] theorem State.apiBackground_fixed (s : State) (src : RequestSource) (opcode : Nat) (libid : Nat) (args : List Byte) : (State.apiBackground s src opcode libid args).fixed = s.fixed := by
  unfold State.apiBackground
  try dsimp only
  repeat' (first
    | assumption
    | simp [*]
    | (refine State.fromApi_fixed _ _ _ _ ?_)
    | (intro _)
    | split)

theorem execVendorOpcodeUnsupported_fixed (src : RequestSource) (opcode : BitVec 16) (s : State) : Result.keeps (execVendorOpcodeUnsupported src opcode s) s := by
  simp [execVendorOpcodeUnsupported]

theorem execIdentifySwitchDevice_fixed (src : RequestSource) (s : State) : Result.keeps (execIdentifySwitchDevice src s) s := by
  simp [execIdentifySwitchDevice]

theorem execGetPhysicalPortState_fixed (src : RequestSource) (start : BitVec 16) (count : BitVec 16) (s : State) : Result.keeps (execGetPhysicalPortState src start count s) s := by
  simp [execGetPhysicalPortState]

theorem execPhysicalPortControl_fixed (src : RequestSource) (port : Byte) (op : Byte) (s : State) : Result.keeps (execPhysicalPortControl src port op s) s := by
  simp [execPhysicalPortControl]

theorem execSendPpbCxlioConfigRequest_fixed (src : RequestSource) (port : Byte) (op : Byte) (reg : BitVec 16) (be : Byte) (data : BitVec 32) (s : State) : Result.keeps (execSendPpbCxlioConfigRequest src port op reg be data s) s := by
  simp [execSendPpbCxlioConfigRequest]

theorem execGetVirtualCxlSwitchInfo_fixed (src : RequestSource) (start : BitVec 16) (count : BitVec 16) (s : State) : Result.keeps (execGetVirtualCxlSwitchInfo src start count s) s := by
  simp [execGetVirtualCxlSwitchInfo]

theorem execBindVppb_fixed (src : RequestSource) (vcs : Byte) (vppb : Byte) (kind : Byte) (port : Byte) (ldid : BitVec 16) (s : State) : Result.keeps (execBindVppb src vcs vppb kind port ldid s) s := by
  simp [execBindVppb]

theorem execUnbindVppb_fixed (src : RequestSource) (vcs : Byte) (vppb : Byte) (option : Byte) (s : State) : Result.keeps (execUnbindVppb src vcs vppb option s) s := by
  simp [execUnbindVppb]

theorem execGenerateAerEvent_fixed (src : RequestSource) (vcs : Byte) (vppb : Byte) (error : BitVec 32) (header : List Byte) (s : State) : Result.keeps (execGenerateAerEvent src vcs vppb error header s) s := by
  simp [execGenerateAerEvent]

theorem execTunnelManagementCommand_fixed (src : RequestSource) (port : Byte) (target : BitVec 16) (request : List Byte) (s : State) : Result.keeps (execTunnelManagementCommand src port target request s) s := by
  simp [execTunnelManagementCommand]

theorem execSendLdCxlioConfigRequest_fixed (src : RequestSource) (port : Byte) (ldid : BitVec 16) (request : List Byte) (s : State) : Result.keeps (execSendLdCxlioConfigRequest src port ldid request s) s := by
  simp [execSendLdCxlioConfigRequest]

theorem execSendLdCxlioMemoryRequest_fixed (src : RequestSource) (port : Byte) (ldid : BitVec 16) (request : List Byte) (s : State) : Result.keeps (execSendLdCxlioMemoryRequest src port ldid request s) s := by
  simp [execSendLdCxlioMemoryRequest]

theorem execPbrAndGfdCommand_fixed (src : RequestSource) (cmd : FabricCommand) (s : State) : Result.keeps (execPbrAndGfdCommand src cmd s) s := by
  unfold execPbrAndGfdCommand
  refine (keeps_next _ _).2 ?_
  try dsimp only
  repeat' (first
    | assumption
    | (simp [*]; done)
    | (intro _)
    | split)

theorem execBackgroundComplete_fixed (s : State) : Result.keeps (execBackgroundComplete s) s := by
  unfold execBackgroundComplete
  refine (keeps_next _ _).2 ?_
  try dsimp only
  repeat' (first
    | assumption
    | simp [*]
    | (intro _)
    | split)

theorem execTwGo_fixed (t : TenantId) (ctl : BitVec 32) (s : State) : Result.keeps (execTwGo t ctl s) s := by
  simp [execTwGo]

theorem execOrderDispatch_fixed (c : Core) (s : State) : Result.keeps (execOrderDispatch c s) s := by
  simp [execOrderDispatch]

theorem execOrderDeadline_fixed (id : Nat) (s : State) : Result.keeps (execOrderDeadline id s) s := by
  unfold execOrderDeadline
  refine (keeps_next _ _).2 ?_
  try dsimp only
  repeat' (first
    | assumption
    | simp [*]
    | (intro _)
    | split)

@[simp ↓] theorem State.noteOccupancy_fixed (s : State) : (State.noteOccupancy s).fixed = s.fixed := by
  simp [State.noteOccupancy]

@[simp ↓] theorem State.repairSingles_fixed (s : State) : (State.repairSingles s).fixed = s.fixed := by
  simp [State.repairSingles]

@[simp ↓] theorem State.resetTrackers_fixed (s : State) : (State.resetTrackers s).fixed = s.fixed := by
  simp [State.resetTrackers]

theorem execRoundBoundary_fixed (s : State) : Result.keeps (execRoundBoundary s) s := by
  simp [execRoundBoundary]

theorem execParticipantStuck_fixed (who : Participant) (s : State) : Result.keeps (execParticipantStuck who s) s := by
  unfold execParticipantStuck
  refine (keeps_next _ _).2 ?_
  try dsimp only
  repeat' (first
    | assumption
    | simp [*]
    | (intro _)
    | split)

@[simp ↓] theorem State.payOwed_fixed (s : State) (p : Nat) : (State.payOwed s p).fixed = s.fixed := by
  simp [State.payOwed]

theorem execRateWindow_fixed (ends : Nat) (s : State) : Result.keeps (execRateWindow ends s) s := by
  simp [execRateWindow]

@[simp ↓] theorem State.arrive_fixed (s : State) (f : FrameIn) : (State.arrive s f).fixed = s.fixed := by
  simp [State.arrive]

theorem execFrameAdmit_fixed (f : FrameIn) (s : State) : Result.keeps (execFrameAdmit f s) s := by
  unfold execFrameAdmit
  refine (keeps_next _ _).2 ?_
  repeat' (first
    | assumption
    | (simp [*]; done)
    | (refine State.libRun_fixed _ _ _ _ ?_)
    | (refine State.libArgs_fixed _ _ _ _ ?_)
    | (refine State.libOp_fixed _ _ _ _ _ _ ?_)
    | (refine State.eventSet_fixed _ _ _ _ ?_)
    | (refine State.counterSet_fixed _ _ _ _ ?_)
    | (intro _)
    | split
    | (refine (State.withCredit_fixed _ _ _ _ _ _ ?_).trans ?_)
    | (refine (State.arrive_fixed _ _).trans ?_)
    | (exact State.takeArrived_next ‹_›))

theorem execLoanReturn_fixed (p : Port) (s : State) : Result.keeps (execLoanReturn p s) s := by
  simp [execLoanReturn]

theorem execAdmissionRelease_fixed (p : Port) (cl : Class) (s : State) : Result.keeps (execAdmissionRelease p cl s) s := by
  unfold execAdmissionRelease
  refine (keeps_next _ _).2 ?_
  try dsimp only
  repeat' (first
    | assumption
    | (simp [*]; done)
    | (intro _)
    | split)

@[simp ↓] theorem State.startBypass_fixed (s : State) (p : Nat) : (State.startBypass s p).fixed = s.fixed := by
  unfold State.startBypass
  try dsimp only
  repeat' (first
    | assumption
    | simp [*]
    | (intro _)
    | split)

theorem execFrameStart_fixed (p : Port) (s : State) : Result.keeps (execFrameStart p s) s := by
  unfold execFrameStart
  refine (keeps_next _ _).2 ?_
  try dsimp only
  repeat' (first
    | assumption
    | (simp [*]; done)
    | (intro _)
    | split
    | (refine (foldl_fixed ?_ _ _).trans ?_)
    | (refine ((congrArg (fun z => State.fixed z.1) ‹_ = (_, _)›).symm.trans ?_))
    | simp)

theorem execFrameSent_fixed (p : Port) (s : State) : Result.keeps (execFrameSent p s) s := by
  unfold execFrameSent
  refine (keeps_next _ _).2 ?_
  try dsimp only
  repeat' (first
    | assumption
    | (simp [*]; done)
    | (intro _)
    | split)

@[simp ↓] theorem State.configToBus_fixed (s : State) (v : Nat) (usp : Nat) (bus : Nat) (fn : Nat) (write : Bool) (reg : Nat) (data : Nat) : (State.configToBus s v usp bus fn write reg data).fixed = s.fixed := by
  unfold State.configToBus
  try dsimp only
  repeat' (first
    | assumption
    | simp [*]
    | (intro _)
    | split)

theorem execConfigurationRequest_fixed (v : Vcs) (req : ConfigRequest) (s : State) : Result.keeps (execConfigurationRequest v req s) s := by
  unfold execConfigurationRequest
  refine (keeps_next _ _).2 ?_
  try dsimp only
  repeat' (first
    | assumption
    | simp [*]
    | (intro _)
    | split)

end Sys2Proof.Machine
end

