-- ==== Sys2Proof/Laws/FramesRest.lean ====
section
/-! SUPPORT. The commands of power, registers, security, slots, the Trunk and time leave OTP and the waiting commands alone (R70, R540):
what each does to the fixed part of a state. -/

namespace Sys2Proof.Machine


theorem execSidingEntry_fixed (st : Station) (s : State) : Result.keeps (execSidingEntry st s) s := by
  simp [execSidingEntry]

theorem execSidingEntryDone_fixed (st : Station) (s : State) : Result.keeps (execSidingEntryDone st s) s := by
  simp [execSidingEntryDone]

theorem execSidingWake_fixed (st : Station) (src : SidingWakeSource) (s : State) : Result.keeps (execSidingWake st src s) s := by
  unfold execSidingWake
  refine (keeps_next _ _).2 ?_
  try dsimp only
  repeat' (first
    | assumption
    | (simp [*]; done)
    | (intro _)
    | split)

theorem execSidingExitReady_fixed (st : Station) (s : State) : Result.keeps (execSidingExitReady st s) s := by
  simp [execSidingExitReady]

theorem execDomainPowerUpDone_fixed (d : Domain) (s : State) : Result.keeps (execDomainPowerUpDone d s) s := by
  simp [execDomainPowerUpDone]

theorem execStationDomainOff_fixed (st : Station) (s : State) : Result.keeps (execStationDomainOff st s) s := by
  simp [execStationDomainOff]

theorem execQuadrantGateDrained_fixed (q : Quadrant) (s : State) : Result.keeps (execQuadrantGateDrained q s) s := by
  simp [execQuadrantGateDrained]

theorem execPinnedRemap_fixed (s : State) : Result.keeps (execPinnedRemap s) s := by
  simp [execPinnedRemap]

theorem execQuadrantAutoGate_fixed (s : State) : Result.keeps (execQuadrantAutoGate s) s := by
  unfold execQuadrantAutoGate
  refine (keeps_next _ _).2 ?_
  try dsimp only
  repeat' (first
    | assumption
    | (simp [*]; done)
    | (intro _)
    | split)

theorem execQuadrantAutoUngate_fixed (s : State) : Result.keeps (execQuadrantAutoUngate s) s := by
  unfold execQuadrantAutoUngate
  refine (keeps_next _ _).2 ?_
  try dsimp only
  repeat' (first
    | assumption
    | (simp [*]; done)
    | (intro _)
    | split)

@[simp ↓] theorem State.emptyLoft_fixed (s : State) : (State.emptyLoft s).fixed = s.fixed := by
  simp [State.emptyLoft]

theorem execPd3Pd4Off_fixed (s : State) : Result.keeps (execPd3Pd4Off s) s := by
  simp [execPd3Pd4Off]

@[simp ↓] theorem State.entryEndsOrders_fixed (s : State) : (State.entryEndsOrders s).fixed = s.fixed := by
  simp [State.entryEndsOrders]

@[simp ↓] theorem State.ordersResume_fixed (s : State) : (State.ordersResume s).fixed = s.fixed := by
  simp [State.ordersResume]

theorem execEntryOrdersEnded_fixed (s : State) : Result.keeps (execEntryOrdersEnded s) s := by
  unfold execEntryOrdersEnded
  refine (keeps_next _ _).2 ?_
  try dsimp only
  repeat' (first
    | assumption
    | (simp [*]; done)
    | (intro _)
    | split)

theorem execEntryLinksDown_fixed (s : State) : Result.keeps (execEntryLinksDown s) s := by
  unfold execEntryLinksDown
  refine (keeps_next _ _).2 ?_
  try dsimp only
  repeat' (first
    | assumption
    | (simp [*]; done)
    | (intro _)
    | split)

@[simp ↓] theorem State.fallAsleep_fixed (s : State) (state : Nat) : (State.fallAsleep s state).fixed = s.fixed := by
  simp [State.fallAsleep]

theorem execEntryDomainsOff_fixed (s : State) : Result.keeps (execEntryDomainsOff s) s := by
  unfold execEntryDomainsOff
  refine (keeps_next _ _).2 ?_
  try dsimp only
  repeat' (first
    | assumption
    | simp [*]
    | (intro _)
    | split)

theorem execEntryRailsOff_fixed (s : State) : Result.keeps (execEntryRailsOff s) s := by
  unfold execEntryRailsOff
  refine (keeps_next _ _).2 ?_
  try dsimp only
  repeat' (first
    | assumption
    | simp [*]
    | (intro _)
    | split)

theorem execWake_fixed (src : Fin 8) (s : State) : Result.keeps (execWake src s) s := by
  simp [execWake]

theorem execWatchSample_fixed (temps : List Nat) (slots : List SlotWindow) (squelch : List Port) (s : State) : Result.keeps (execWatchSample temps slots squelch s) s := by
  simp [execWatchSample]

@[simp ↓] theorem State.wakeStep_fixed (s : State) (at_ : Nat) (body : Nat → State → State) (hbody : ∀ b0 b1, (body b0 b1).fixed = b1.fixed) : (State.wakeStep s at_ body).fixed = s.fixed := by
  unfold State.wakeStep
  try dsimp only
  repeat' (first
    | assumption
    | simp [*]
    | (intro _)
    | split)

theorem execPwrRdy_fixed (s : State) : Result.keeps (execPwrRdy s) s := by
  simp [execPwrRdy]

theorem execOscRdy_fixed (s : State) : Result.keeps (execOscRdy s) s := by
  simp [execOscRdy]

theorem execMemRdy_fixed (s : State) : Result.keeps (execMemRdy s) s := by
  simp [execMemRdy]

@[simp ↓] theorem State.leaveStandby_fixed (s : State) : (State.leaveStandby s).fixed = s.fixed := by
  simp [State.leaveStandby]

theorem execLogicRdy_fixed (s : State) : Result.keeps (execLogicRdy s) s := by
  unfold execLogicRdy
  refine (keeps_next _ _).2 ?_
  try dsimp only
  repeat' (first
    | assumption
    | simp [*]
    | (intro _)
    | split)

theorem execVrPgTimeout_fixed (s : State) : Result.keeps (execVrPgTimeout s) s := by
  unfold execVrPgTimeout
  refine (keeps_next _ _).2 ?_
  try dsimp only
  repeat' (first
    | assumption
    | (simp [*]; done)
    | (intro _)
    | split)

theorem execWakeRetry_fixed (s : State) : Result.keeps (execWakeRetry s) s := by
  unfold execWakeRetry
  refine (keeps_next _ _).2 ?_
  try dsimp only
  repeat' (first
    | assumption
    | simp [*]
    | (intro _)
    | split)

theorem execSagWarning_fixed (r : Rail) (mv : Nat) (s : State) : Result.keeps (execSagWarning r mv s) s := by
  simp [execSagWarning]

theorem execSagWarnRelease_fixed (s : State) : Result.keeps (execSagWarnRelease s) s := by
  simp [execSagWarnRelease]

theorem execSagReset_fixed (r : Rail) (mv : Nat) (s : State) : Result.keeps (execSagReset r mv s) s := by
  simp [execSagReset]

theorem execSagRecovery_fixed (s : State) : Result.keeps (execSagRecovery s) s := by
  simp [execSagRecovery]

theorem execAvsStep_fixed (s : State) : Result.keeps (execAvsStep s) s := by
  simp [execAvsStep]

theorem execRailSample_fixed (mv : List Nat) (s : State) : Result.keeps (execRailSample mv s) s := by
  simp [execRailSample]

@[simp ↓] theorem State.readSensor_fixed (s : State) (i : Nat) (q : Int) : (State.readSensor s i q).fixed = s.fixed := by
  simp [State.readSensor]

theorem execSensorSample_fixed (quarters : List Int) (s : State) : Result.keeps (execSensorSample quarters s) s := by
  simp [execSensorSample]

theorem execRefclkLoss_fixed (b : Bool) (s : State) : Result.keeps (execRefclkLoss b s) s := by
  simp [execRefclkLoss]

theorem execRefclkReturn_fixed (b : Bool) (s : State) : Result.keeps (execRefclkReturn b s) s := by
  simp [execRefclkReturn]

@[simp ↓] theorem State.mailboxByte_fixed (s : State) (off : Nat) (b : Byte) : (State.mailboxByte s off b).fixed = s.fixed := by
  simp [State.mailboxByte]

@[simp ↓] theorem State.registerByte_fixed (s : State) (a : Nat) (b : Byte) : (State.registerByte s a b).fixed = s.fixed := by
  simp [State.registerByte]

@[simp ↓] theorem State.registerBytes_fixed (s : State) (a1 : Nat) (a2 : List Byte) : (State.registerBytes s a1 a2).fixed = s.fixed := by
  fun_induction State.registerBytes s a1 a2 <;> simp_all

theorem execRegisterWrite_fixed (addr : Nat) (size : Nat) (value : BitVec 64) (s : State) : Result.keeps (execRegisterWrite addr size value s) s := by
  unfold execRegisterWrite
  refine (keeps_next _ _).2 ?_
  try dsimp only
  repeat' (first
    | assumption
    | (simp [*]; done)
    | (intro _)
    | split)

theorem execSmbusTimeout_fixed (s : State) : Result.keeps (execSmbusTimeout s) s := by
  simp [execSmbusTimeout]

theorem execDynamicAddressAssignment_fixed (_setdasa : Bool) (address : BitVec 7) (s : State) : Result.keeps (execDynamicAddressAssignment _setdasa address s) s := by
  simp [execDynamicAddressAssignment]

@[simp ↓] theorem State.atEndpoint_fixed (s : State) (e : Endpoint) (body : State → State) (hbody : ∀ b0, (body b0).fixed = b0.fixed) : (State.atEndpoint s e body).fixed = s.fixed := by
  unfold State.atEndpoint
  try dsimp only
  repeat' (first
    | assumption
    | (simp [*]; done)
    | (intro _)
    | split)

@[simp ↓] theorem State.trunkMessage_fixed (s : State) (p : Nat) (a2 : Nat) (a3 : List Byte) : (State.trunkMessage s p a2 a3).fixed = s.fixed := by
  fun_induction State.trunkMessage s p a2 a3 <;> simp_all

@[simp ↓] theorem State.mctpAnswer_fixed (s : State) (e : Endpoint) (command : Nat) (bytes : List Byte) : (State.mctpAnswer s e command bytes).fixed = s.fixed := by
  unfold State.mctpAnswer
  try dsimp only
  repeat' (first
    | assumption
    | simp [*]
    | (intro _)
    | split)

@[simp ↓] theorem State.setEid_fixed (s : State) (e : Endpoint) (v : Nat) : (State.setEid s e v).fixed = s.fixed := by
  simp [State.setEid]

theorem execSetEndpointId_fixed (e : Endpoint) (eid : Byte) (s : State) : Result.keeps (execSetEndpointId e eid s) s := by
  simp [execSetEndpointId]

theorem execGetEndpointId_fixed (e : Endpoint) (s : State) : Result.keeps (execGetEndpointId e s) s := by
  simp [execGetEndpointId]

theorem execGetMctpVersionSupport_fixed (e : Endpoint) (msgType : Byte) (s : State) : Result.keeps (execGetMctpVersionSupport e msgType s) s := by
  simp [execGetMctpVersionSupport]

theorem execGetMessageTypeSupport_fixed (e : Endpoint) (s : State) : Result.keeps (execGetMessageTypeSupport e s) s := by
  simp [execGetMessageTypeSupport]

theorem execGetVendorMessageSupport_fixed (e : Endpoint) (s : State) : Result.keeps (execGetVendorMessageSupport e s) s := by
  unfold execGetVendorMessageSupport
  refine (keeps_next _ _).2 ?_
  try dsimp only
  repeat' (first
    | assumption
    | (simp [*]; done)
    | (refine State.atEndpoint_fixed _ _ _ ?_)
    | (intro _)
    | split)

theorem execDoeDiscovery_fixed (v : Vcs) (index : Byte) (s : State) : Result.keeps (execDoeDiscovery v index s) s := by
  simp [execDoeDiscovery]

@[simp ↓] theorem State.spdmAnswer_fixed (s : State) (e : SpdmEnd) (code : Nat) (bytes : List Byte) : (State.spdmAnswer s e code bytes).fixed = s.fixed := by
  unfold State.spdmAnswer
  try dsimp only
  repeat' (first
    | assumption
    | simp [*]
    | (intro _)
    | split)

@[simp ↓] theorem State.spdmError_fixed (s : State) (e : SpdmEnd) (code : Nat) (more : List Byte) : (State.spdmError s e code more).fixed = s.fixed := by
  simp [State.spdmError]

@[simp ↓] theorem State.atSpdm_fixed (s : State) (e : SpdmEnd) (body : State → State) (hbody : ∀ b0, (body b0).fixed = b0.fixed) : (State.atSpdm s e body).fixed = s.fixed := by
  unfold State.atSpdm
  try dsimp only
  repeat' (first
    | assumption
    | (simp [*]; done)
    | (intro _)
    | split)

@[simp ↓] theorem State.offered_fixed (s : State) (e : SpdmEnd) (body : State → State) (hbody : ∀ b0, (body b0).fixed = b0.fixed) : (State.offered s e body).fixed = s.fixed := by
  unfold State.offered
  try dsimp only
  repeat' (first
    | assumption
    | simp [*])

theorem execGetMeasurements_fixed (e : SpdmEnd) (nonce : List Byte) (s : State) : Result.keeps (execGetMeasurements e nonce s) s := by
  simp [execGetMeasurements]

theorem execGetCertificate_fixed (e : SpdmEnd) (certSlot : Fin 8) (s : State) : Result.keeps (execGetCertificate e certSlot s) s := by
  simp [execGetCertificate]

theorem execChallenge_fixed (e : SpdmEnd) (certSlot : Fin 8) (nonce : List Byte) (s : State) : Result.keeps (execChallenge e certSlot nonce s) s := by
  simp [execChallenge]

theorem execKeyExchange_fixed (e : SpdmEnd) (s : State) : Result.keeps (execKeyExchange e s) s := by
  simp [execKeyExchange]

@[simp ↓] theorem State.inSession_fixed (s : State) (e : SpdmEnd) (session : Nat) (body : State → Session → State) (hbody : ∀ b0 b1, (body b0 b1).fixed = b0.fixed) : (State.inSession s e session body).fixed = s.fixed := by
  unfold State.inSession
  try dsimp only
  repeat' (first
    | assumption
    | simp [*]
    | (intro _)
    | split)

theorem execKeyUpdate_fixed (e : SpdmEnd) (session : Nat) (s : State) : Result.keeps (execKeyUpdate e session s) s := by
  simp [execKeyUpdate]

theorem execHeartbeat_fixed (e : SpdmEnd) (session : Nat) (s : State) : Result.keeps (execHeartbeat e session s) s := by
  simp [execHeartbeat]

theorem execSetCertificate_fixed (e : SpdmEnd) (certSlot : Fin 8) (chain : List Byte) (s : State) : Result.keeps (execSetCertificate e certSlot chain s) s := by
  simp [execSetCertificate]

@[simp ↓] theorem State.poolPoke_fixed (s : State) (place : Nat) (v : Byte) : (State.poolPoke s place v).fixed = s.fixed := by
  unfold State.poolPoke
  try dsimp only
  repeat' (first
    | assumption
    | simp [*]
    | (intro _)
    | split)

@[simp ↓] theorem State.debugLever_fixed (s : State) (c : Nat) (a : Nat) (v : Byte) : (State.debugLever s c a v).fixed = s.fixed := by
  simp [State.debugLever]

@[simp ↓] theorem State.debugPut_fixed (s : State) (t : DebugTarget) (a : Nat) (v : Byte) : (State.debugPut s t a v).fixed = s.fixed := by
  unfold State.debugPut
  try dsimp only
  repeat' (first
    | assumption
    | (simp [*]; done)
    | (intro _)
    | split)

theorem execDebugAccess_fixed (target : DebugTarget) (addr : Nat) (write : Option Byte) (s : State) : Result.keeps (execDebugAccess target addr write s) s := by
  unfold execDebugAccess
  repeat' split
  all_goals simp

theorem execSeatDebounce_fixed (n : Slot) (s : State) : Result.keeps (execSeatDebounce n s) s := by
  simp [execSeatDebounce]

theorem execSeatingLost_fixed (n : Slot) (s : State) : Result.keeps (execSeatingLost n s) s := by
  simp [execSeatingLost]

theorem execSlotStart_fixed (n : Slot) (s : State) : Result.keeps (execSlotStart n s) s := by
  simp [execSlotStart]

theorem execPrechargeComplete_fixed (n : Slot) (t20 : Option Nat) (t60 : Option Nat) (s : State) : Result.keeps (execPrechargeComplete n t20 t60 s) s := by
  simp [execPrechargeComplete]

theorem execPrechargeTimeout_fixed (n : Slot) (t20 : Option Nat) (t60 : Option Nat) (s : State) : Result.keeps (execPrechargeTimeout n t20 t60 s) s := by
  simp [execPrechargeTimeout]

theorem execRampOn_fixed (n : Slot) (s : State) : Result.keeps (execRampOn n s) s := by
  simp [execRampOn]

theorem execRampShort_fixed (n : Slot) (s : State) : Result.keeps (execRampShort n s) s := by
  simp [execRampShort]

theorem execRampTimeout_fixed (n : Slot) (s : State) : Result.keeps (execRampTimeout n s) s := by
  simp [execRampTimeout]

theorem execPerstRelease_fixed (n : Slot) (s : State) : Result.keeps (execPerstRelease n s) s := by
  unfold execPerstRelease
  refine (keeps_next _ _).2 ?_
  try dsimp only
  repeat' (first
    | assumption
    | (simp [*]; done)
    | (intro _)
    | split)

theorem execOnTripsClear_fixed (n : Slot) (s : State) : Result.keeps (execOnTripsClear n s) s := by
  simp [execOnTripsClear]

theorem execCircuitBreakerTrip_fixed (n : Slot) (iout : Nat) (s : State) : Result.keeps (execCircuitBreakerTrip n iout s) s := by
  simp [execCircuitBreakerTrip]

theorem execFastTrip_fixed (n : Slot) (iout : Nat) (s : State) : Result.keeps (execFastTrip n iout s) s := by
  simp [execFastTrip]

theorem execThermalTrip_fixed (n : Slot) (tfet : Nat) (s : State) : Result.keeps (execThermalTrip n tfet s) s := by
  simp [execThermalTrip]

theorem execVoutLowTrip_fixed (n : Slot) (vin : Nat) (vout : Nat) (s : State) : Result.keeps (execVoutLowTrip n vin vout s) s := by
  simp [execVoutLowTrip]

theorem execVinWarning_fixed (n : Slot) (s : State) : Result.keeps (execVinWarning n s) s := by
  simp [execVinWarning]

theorem execVinWarningClear_fixed (n : Slot) (s : State) : Result.keeps (execVinWarningClear n s) s := by
  simp [execVinWarningClear]

theorem execVinUndervoltage_fixed (n : Slot) (s : State) : Result.keeps (execVinUndervoltage n s) s := by
  simp [execVinUndervoltage]

theorem execVinOvervoltage_fixed (n : Slot) (s : State) : Result.keeps (execVinOvervoltage n s) s := by
  simp [execVinOvervoltage]

theorem execVinInRange_fixed (n : Slot) (s : State) : Result.keeps (execVinInRange n s) s := by
  simp [execVinInRange]

theorem execPfwLeadEnd_fixed (n : Slot) (s : State) : Result.keeps (execPfwLeadEnd n s) s := by
  simp [execPfwLeadEnd]

theorem execRetryDelayExpiry_fixed (n : Slot) (s : State) : Result.keeps (execRetryDelayExpiry n s) s := by
  simp [execRetryDelayExpiry]

theorem execAbsenceExpiry_fixed (n : Slot) (s : State) : Result.keeps (execAbsenceExpiry n s) s := by
  unfold execAbsenceExpiry
  refine (keeps_next _ _).2 ?_
  try dsimp only
  repeat' (first
    | assumption
    | (simp [*]; done)
    | (intro _)
    | split)

theorem execSlotThresholdsReady_fixed (n : Slot) (s : State) : Result.keeps (execSlotThresholdsReady n s) s := by
  simp [execSlotThresholdsReady]

theorem execSlotSample_fixed (n : Slot) (vin : Nat) (vout : Nat) (iout : Nat) (tfet : Nat) (s : State) : Result.keeps (execSlotSample n vin vout iout tfet s) s := by
  simp [execSlotSample]

theorem execFetCooled_fixed (n : Slot) (tfet : Nat) (s : State) : Result.keeps (execFetCooled n tfet s) s := by
  simp [execFetCooled]

@[simp ↓] theorem State.partnerGone_fixed (s : State) (p : Nat) : (State.partnerGone s p).fixed = s.fixed := by
  simp [State.partnerGone]

@[simp ↓] theorem State.partnerSeen_fixed (s : State) (p : Nat) : (State.partnerSeen s p).fixed = s.fixed := by
  simp [State.partnerSeen]

theorem execDetectRetry_fixed (p : Port) (found : Bool) (s : State) : Result.keeps (execDetectRetry p found s) s := by
  simp [execDetectRetry]

theorem execHello_fixed (p : Port) (h : Hello) (lanesOk : Nat) (downwards : Bool) (s : State) : Result.keeps (execHello p h lanesOk downwards s) s := by
  simp [execHello]

theorem execTrunkStageTimeout_fixed (p : Port) (s : State) : Result.keeps (execTrunkStageTimeout p s) s := by
  simp [execTrunkStageTimeout]

theorem execTrunkEqualisationDone_fixed (e : Equalised) (s : State) : Result.keeps (execTrunkEqualisationDone e s) s := by
  simp [execTrunkEqualisationDone]

theorem execAlignmentMarker_fixed (p : Port) (physical : Fin 16) (bytes : List Byte) (inverted : Bool) (s : State) : Result.keeps (execAlignmentMarker p physical bytes inverted s) s := by
  simp [execAlignmentMarker]

theorem execFlitBoundary_fixed (p : Port) (s : State) : Result.keeps (execFlitBoundary p s) s := by
  simp [execFlitBoundary]

theorem execTrunkFlitReceive_fixed (p : Port) (body crc fec : List Byte) (s : State) : Result.keeps (execTrunkFlitReceive p body crc fec s) s := by
  simp [execTrunkFlitReceive]

theorem execReplayTimer_fixed (p : Port) (s : State) : Result.keeps (execReplayTimer p s) s := by
  unfold execReplayTimer
  refine (keeps_next _ _).2 ?_
  try dsimp only
  repeat' (first
    | assumption
    | (simp [*]; done)
    | (intro _)
    | split)

theorem execTrunkRecovery_fixed (p : Port) (byMarkers : Bool) (s : State) : Result.keeps (execTrunkRecovery p byMarkers s) s := by
  simp [execTrunkRecovery]

theorem execTrunkRecoveryTimeout_fixed (p : Port) (s : State) : Result.keeps (execTrunkRecoveryTimeout p s) s := by
  simp [execTrunkRecoveryTimeout]

theorem execChangeReq_fixed (p : Port) (width : Byte) (rate : Byte) (s : State) : Result.keeps (execChangeReq p width rate s) s := by
  simp [execChangeReq]

theorem execChangeGo_fixed (p : Port) (width : Byte) (rate : Byte) (s : State) : Result.keeps (execChangeGo p width rate s) s := by
  simp [execChangeGo]

theorem execLevelMessage_fixed (p : Port) (trunk : Byte) (trunkMin : Byte) (result : Byte) (switchAt : BitVec 16) (s : State) : Result.keeps (execLevelMessage p trunk trunkMin result switchAt s) s := by
  unfold execLevelMessage
  refine (keeps_next _ _).2 ?_
  try dsimp only
  repeat' (first
    | assumption
    | (simp [*]; done)
    | (refine State.onMessage_fixed _ _ _ _ _ ?_)
    | (intro _)
    | split)

theorem execTimeMessage_fixed (p : Port) (tTx : BitVec 64) (tRxPrev : BitVec 64) (peerTxPrev : BitVec 64) (s : State) : Result.keeps (execTimeMessage p tTx tRxPrev peerTxPrev s) s := by
  simp [execTimeMessage]

theorem execParkReq_fixed (p : Port) (s : State) : Result.keeps (execParkReq p s) s := by
  simp [execParkReq]

theorem execParkAck_fixed (p : Port) (agree : Bool) (s : State) : Result.keeps (execParkAck p agree s) s := by
  simp [execParkAck]

theorem execParkExit_fixed (p : Port) (s : State) : Result.keeps (execParkExit p s) s := by
  simp [execParkExit]

@[simp ↓] theorem State.keyTrunk_fixed (s : State) (p : Nat) : (State.keyTrunk s p).fixed = s.fixed := by
  simp [State.keyTrunk]

theorem execMctpBypass_fixed (p : Port) (packet : TrunkMctp) (s : State) : Result.keeps (execMctpBypass p packet s) s := by
  unfold execMctpBypass
  refine (keeps_next _ _).2 ?_
  try dsimp only
  repeat' (first
    | assumption
    | (simp [*]; done)
    | (intro _)
    | split)

theorem execSpdmKeyUpdate_fixed (p : Port) (s : State) : Result.keeps (execSpdmKeyUpdate p s) s := by
  simp [execSpdmKeyUpdate]

@[simp ↓] theorem State.portSlots_fixed (s : State) (p : Nat) : (State.portSlots s p).fixed = s.fixed := by
  simp [State.portSlots]

@[simp ↓] theorem State.cellTicks_fixed (s : State) : (State.cellTicks s).fixed = s.fixed := by
  simp [State.cellTicks]

@[simp ↓] theorem State.pass_fixed (s : State) : (State.pass s).fixed = s.fixed := by
  simp [State.pass]

@[simp ↓] theorem State.committed_fixed (s : State) (c : Core) (es : List Entry) (act : State → State) (hact : ∀ b0, (act b0).fixed = b0.fixed) : (State.committed s c es act).fixed = s.fixed := by
  unfold State.committed
  try dsimp only
  repeat' (first
    | assumption
    | simp [*])

end Sys2Proof.Machine
end

