-- ==== Sys2Proof/Laws/Tab.lean ====
section
/-! SUPPORT. The laws of sparse tables and of byte memory: what a read gives after a write, and that every operation keeps
the canonical form. -/

namespace Sys2Proof

variable {α : Type}

/-! ### Reading after writing -/

@[simp] theorem Tab.get_nil (d : α) (k : Nat) : Tab.get d [] k = d := rfl

@[simp] theorem Tab.find_nil (k : Nat) : Tab.find ([] : Tab α) k = none := rfl

theorem Tab.get_set (d : α) (t : Tab α) (k j : Nat) (v : α) :
    Tab.get d (Tab.set t k v) j = if k = j then v else Tab.get d t j := by
  induction t with
  | nil => simp [Tab.set, Tab.get]
  | cons e t ih =>
    obtain ⟨i, w⟩ := e
    simp only [Tab.set]
    split
    · simp [Tab.get]
    · split
      · next h => subst h; simp only [Tab.get]; split <;> rfl
      · simp only [Tab.get, ih]
        split
        · next h => subst h; rw [if_neg (by omega)]
        · rfl

@[simp] theorem Tab.get_set_self (d : α) (t : Tab α) (k : Nat) (v : α) : Tab.get d (Tab.set t k v) k = v := by
  simp [Tab.get_set]

theorem Tab.get_set_ne (d : α) (t : Tab α) {k j : Nat} (v : α) (h : k ≠ j) :
    Tab.get d (Tab.set t k v) j = Tab.get d t j := by
  simp [Tab.get_set, h]

theorem Tab.find_set (t : Tab α) (k j : Nat) (v : α) :
    Tab.find (Tab.set t k v) j = if k = j then some v else Tab.find t j := by
  induction t with
  | nil => simp [Tab.set, Tab.find]
  | cons e t ih =>
    obtain ⟨i, w⟩ := e
    simp only [Tab.set]
    split
    · simp [Tab.find]
    · split
      · next h => subst h; simp only [Tab.find]; split <;> rfl
      · simp only [Tab.find, ih]
        split
        · next h => subst h; rw [if_neg (by omega)]
        · rfl

@[simp] theorem Tab.find_set_self (t : Tab α) (k : Nat) (v : α) : Tab.find (Tab.set t k v) k = some v := by
  simp [Tab.find_set]

theorem Tab.get_modify (d : α) (t : Tab α) (k j : Nat) (f : α → α) :
    Tab.get d (Tab.modify d t k f) j = if k = j then f (Tab.get d t k) else Tab.get d t j := Tab.get_set ..

@[simp] theorem Tab.get_modify_self (d : α) (t : Tab α) (k : Nat) (f : α → α) :
    Tab.get d (Tab.modify d t k f) k = f (Tab.get d t k) := Tab.get_set_self ..

theorem Tab.get_drop_ne (d : α) (t : Tab α) {k j : Nat} (h : k ≠ j) : Tab.get d (Tab.drop t k) j = Tab.get d t j := by
  induction t with
  | nil => rfl
  | cons e t ih =>
    obtain ⟨i, w⟩ := e
    simp only [Tab.drop]
    split
    · next h' => subst h'; simp [Tab.get, h, ih]
    · simp only [Tab.get, ih]

theorem Tab.find_drop_ne (t : Tab α) {k j : Nat} (h : k ≠ j) : Tab.find (Tab.drop t k) j = Tab.find t j := by
  induction t with
  | nil => rfl
  | cons e t ih =>
    obtain ⟨i, w⟩ := e
    simp only [Tab.drop]
    split
    · next h' => subst h'; simp [Tab.find, h, ih]
    · simp only [Tab.find, ih]

/-- A table holds the default at an index taken away. -/
@[simp] theorem Tab.get_drop_self (d : α) (t : Tab α) (k : Nat) : Tab.get d (Tab.drop t k) k = d := by
  induction t with
  | nil => rfl
  | cons e t ih =>
    obtain ⟨i, w⟩ := e
    simp only [Tab.drop]
    split
    · exact ih
    · next h => simp only [Tab.get, if_neg h, ih]

/-- A table lists nothing at an index taken away. -/
@[simp] theorem Tab.find_drop_self (t : Tab α) (k : Nat) : Tab.find (Tab.drop t k) k = none := by
  induction t with
  | nil => rfl
  | cons e t ih =>
    obtain ⟨i, w⟩ := e
    simp only [Tab.drop]
    split
    · exact ih
    · next h => simp only [Tab.find, if_neg h, ih]

/-! ### The canonical form -/

/-- Every index of a table lies above a number. -/
def Tab.above (n : Nat) (t : Tab α) : Prop := ∀ e ∈ t, n < e.1

theorem Tab.wf_cons (i : Nat) (w : α) (t : Tab α) (h : Tab.wf ((i, w) :: t) = true) :
    Tab.above i t ∧ Tab.wf t = true := by
  induction t generalizing i w with
  | nil => exact ⟨fun e he => (List.not_mem_nil he).elim, rfl⟩
  | cons e t ih =>
    obtain ⟨j, x⟩ := e
    simp only [Tab.wf, Bool.and_eq_true, decide_eq_true_eq] at h
    have hj : Tab.wf ((j, x) :: t) = true := by simp only [Tab.wf, Bool.and_eq_true]; exact h.2
    refine ⟨fun e he => ?_, hj⟩
    rcases List.mem_cons.1 he with rfl | he
    · exact h.1
    · exact Nat.lt_trans h.1 ((ih j x hj).1 e he)

theorem Tab.wf_of_above (i : Nat) (w : α) (t : Tab α) (h : Tab.above i t) (ht : Tab.wf t = true) :
    Tab.wf ((i, w) :: t) = true := by
  cases t with
  | nil => rfl
  | cons e t =>
    simp only [Tab.wf, Bool.and_eq_true, decide_eq_true_eq] at ht ⊢
    exact ⟨h e (by simp), ht⟩

theorem Tab.above_set (n k : Nat) (t : Tab α) (v : α) (hk : n < k) (h : Tab.above n t) : Tab.above n (Tab.set t k v) := by
  induction t with
  | nil => intro e he; simp only [Tab.set, List.mem_singleton] at he; subst he; exact hk
  | cons x t ih =>
    obtain ⟨i, w⟩ := x
    have hi : n < i := h (i, w) (by simp)
    have ht : Tab.above n t := fun e he => h e (by simp [he])
    intro e he
    simp only [Tab.set] at he
    split at he
    · rcases List.mem_cons.1 he with rfl | he
      · exact hk
      · exact h e he
    · split at he
      · rcases List.mem_cons.1 he with rfl | he
        · exact hk
        · exact ht e he
      · rcases List.mem_cons.1 he with rfl | he
        · exact hi
        · exact ih ht e he

theorem Tab.wf_set (t : Tab α) (k : Nat) (v : α) (h : Tab.wf t = true) : Tab.wf (Tab.set t k v) = true := by
  induction t with
  | nil => rfl
  | cons x t ih =>
    obtain ⟨i, w⟩ := x
    have ⟨ha, ht⟩ := Tab.wf_cons i w t h
    simp only [Tab.set]
    split
    · next hk =>
      exact Tab.wf_of_above _ _ _ (fun e he => by
        rcases List.mem_cons.1 he with rfl | he
        · exact hk
        · exact Nat.lt_trans hk (ha e he)) h
    · split
      · next hk => subst hk; exact Tab.wf_of_above _ _ _ ha ht
      · exact Tab.wf_of_above _ _ _ (Tab.above_set i k t v (by omega) ha) (ih ht)

theorem Tab.above_drop (n k : Nat) (t : Tab α) (h : Tab.above n t) : Tab.above n (Tab.drop t k) := by
  induction t with
  | nil => exact h
  | cons x t ih =>
    obtain ⟨i, w⟩ := x
    have ht : Tab.above n t := fun e he => h e (by simp [he])
    simp only [Tab.drop]
    split
    · exact ih ht
    · intro e he
      rcases List.mem_cons.1 he with rfl | he
      · exact h _ (by simp)
      · exact ih ht e he

theorem Tab.wf_drop (t : Tab α) (k : Nat) (h : Tab.wf t = true) : Tab.wf (Tab.drop t k) = true := by
  induction t with
  | nil => rfl
  | cons x t ih =>
    obtain ⟨i, w⟩ := x
    have ⟨ha, ht⟩ := Tab.wf_cons i w t h
    simp only [Tab.drop]
    split
    · exact ih ht
    · exact Tab.wf_of_above _ _ _ (Tab.above_drop i k t ha) (ih ht)

theorem Tab.get_of_above (d : α) (n : Nat) (t : Tab α) (h : Tab.above n t) : Tab.get d t n = d := by
  induction t with
  | nil => rfl
  | cons x t ih =>
    obtain ⟨i, w⟩ := x
    have : n < i := h (i, w) (by simp)
    simp only [Tab.get, if_neg (show ¬ i = n by omega)]
    exact ih (fun e he => h e (by simp [he]))

/-! ### Byte memory -/

theorem Tab.mem_set {t : Tab α} {k : Nat} {v : α} {e : Nat × α} (h : e ∈ Tab.set t k v) : e = (k, v) ∨ e ∈ t := by
  induction t with
  | nil => simpa [Tab.set] using h
  | cons x t ih =>
    obtain ⟨i, w⟩ := x
    simp only [Tab.set] at h
    split at h
    · simpa using h
    · split at h
      · rcases List.mem_cons.1 h with h | h
        · exact .inl h
        · exact .inr (by simp [h])
      · rcases List.mem_cons.1 h with h | h
        · exact .inr (by simp [h])
        · rcases ih h with h | h
          · exact .inl h
          · exact .inr (by simp [h])

theorem Tab.mem_set_self (t : Tab α) (k : Nat) (v : α) : (k, v) ∈ Tab.set t k v := by
  induction t with
  | nil => simp [Tab.set]
  | cons x t ih =>
    obtain ⟨i, w⟩ := x
    simp only [Tab.set]
    split
    · simp
    · split <;> simp [ih]

theorem Tab.mem_drop {t : Tab α} {k : Nat} {e : Nat × α} (h : e ∈ Tab.drop t k) : e ∈ t := by
  induction t with
  | nil => exact h
  | cons x t ih =>
    obtain ⟨i, w⟩ := x
    simp only [Tab.drop] at h
    split at h
    · simp [ih h]
    · rcases List.mem_cons.1 h with h | h
      · simp [h]
      · simp [ih h]

namespace Machine

/-- Every memory operation keeps the canonical form: one byte. -/
theorem memPut_wf (m : Mem) (a : Nat) (b : Byte) (h : Memory.wf m = true) : Memory.wf (memPut m a b) = true := by
  simp only [Memory.wf, Bool.and_eq_true, List.all_eq_true] at h ⊢
  unfold memPut
  split
  · exact ⟨Tab.wf_drop m a h.1, fun e he => h.2 e (Tab.mem_drop he)⟩
  · next hb =>
    refine ⟨Tab.wf_set m a b h.1, fun e he => ?_⟩
    rcases Tab.mem_set he with rfl | he
    · simpa using hb
    · exact h.2 e he

/-- Every memory operation keeps the canonical form: a run of bytes. -/
theorem memPutBytes_wf (m : Mem) (a : Nat) (l : List Byte) (h : Memory.wf m = true) : Memory.wf (memPutBytes m a l) = true := by
  induction l generalizing m a with
  | nil => exact h
  | cons b l ih => exact ih _ _ (memPut_wf m a b h)

/-- Every memory operation keeps the canonical form: a number. -/
theorem memPutNat_wf (m : Mem) (a n v : Nat) (h : Memory.wf m = true) : Memory.wf (memPutNat m a n v) = true :=
  memPutBytes_wf m a _ h

/-- A read after a write of the same byte gives the byte written. -/
theorem memByte_memPut_self (m : Mem) (a : Nat) (b : Byte) : memByte (memPut m a b) a = b := by
  unfold memByte memPut
  split
  · next hb => rw [Tab.get_drop_self 0 m a, hb]
  · exact Tab.get_set_self ..

/-- A write leaves every other byte alone. -/
theorem memByte_memPut_ne (m : Mem) {a c : Nat} (b : Byte) (h : a ≠ c) : memByte (memPut m a b) c = memByte m c := by
  unfold memByte memPut
  split
  · exact Tab.get_drop_ne 0 m h
  · exact Tab.get_set_ne 0 m b h

/-- A write of a run of bytes leaves every byte outside it alone. -/
theorem memByte_memPutBytes_ne (m : Mem) (a c : Nat) (l : List Byte) (h : c < a ∨ a + l.length ≤ c) :
    memByte (memPutBytes m a l) c = memByte m c := by
  induction l generalizing m a with
  | nil => rfl
  | cons b l ih =>
    simp only [List.length_cons] at h
    rw [memPutBytes, ih (memPut m a b) (a + 1) (by omega), memByte_memPut_ne m b (by omega)]

/-- A read after a write of a run of bytes gives the bytes written. -/
theorem memBytes_memPutBytes (m : Mem) (a : Nat) (l : List Byte) :
    memBytes (memPutBytes m a l) a l.length = l := by
  induction l generalizing m a with
  | nil => rfl
  | cons b l ih =>
    simp only [List.length_cons, memBytes, memPutBytes]
    rw [ih, memByte_memPutBytes_ne _ _ _ _ (by omega), memByte_memPut_self m a b]

/-- The canonical form decides equality of memories: the empty memory is in it. -/
theorem memory_wf_nil : Memory.wf [] = true := rfl

@[simp] theorem toLE_length (n v : Nat) : (toLE n v).length = n := by
  induction n generalizing v with
  | zero => rfl
  | succ n ih => simp [toLE, ih]

/-- The bytes of a number read back as the number. -/
theorem ofLE_toLE (n v : Nat) : ofLE (toLE n v) = v % 256 ^ n := by
  induction n generalizing v with
  | zero => simp [toLE, ofLE, Nat.mod_one]
  | succ n ih =>
    simp only [toLE, ofLE, ih, BitVec.toNat_ofNat]
    have h : 256 ^ (n + 1) = 256 * 256 ^ n := by rw [Nat.pow_succ, Nat.mul_comm]
    rw [h, Nat.mod_mul]

/-- A read after a write of a number gives its low bytes. -/
theorem memNat_memPutNat (m : Mem) (a n v : Nat) : memNat (memPutNat m a n v) a n = v % 256 ^ n := by
  have := memBytes_memPutBytes m a (toLE n v)
  rw [toLE_length] at this
  rw [memNat, memPutNat, this, ofLE_toLE]

end Machine

end Sys2Proof
end

