-- ==== Sys2Proof/Laws/State.lean ====
section
/-! SUPPORT. The fields of the state after each of its plain updates, one lemma per field and update, and what its accessors
give. Generated from the declarations of State and of the updates. -/

namespace Sys2Proof.Machine

variable (s : State)

/-! ### modCore -/

@[simp] theorem State.modCore_otp (c : Nat) (f : CoreState → CoreState) : (s.modCore c f).otp = s.otp := rfl
@[simp] theorem State.modCore_strapPins (c : Nat) (f : CoreState → CoreState) : (s.modCore c f).strapPins = s.strapPins := rfl
@[simp] theorem State.modCore_straps (c : Nat) (f : CoreState → CoreState) : (s.modCore c f).straps = s.straps := rfl
@[simp] theorem State.modCore_ftb (c : Nat) (f : CoreState → CoreState) : (s.modCore c f).ftb = s.ftb := rfl
@[simp] theorem State.modCore_obj (c : Nat) (f : CoreState → CoreState) : (s.modCore c f).obj = s.obj := rfl
@[simp] theorem State.modCore_gen (c : Nat) (f : CoreState → CoreState) : (s.modCore c f).gen = s.gen := rfl
@[simp] theorem State.modCore_alloc (c : Nat) (f : CoreState → CoreState) : (s.modCore c f).alloc = s.alloc := rfl
@[simp] theorem State.modCore_ord (c : Nat) (f : CoreState → CoreState) : (s.modCore c f).ord = s.ord := rfl
@[simp] theorem State.modCore_boot (c : Nat) (f : CoreState → CoreState) : (s.modCore c f).boot = s.boot := rfl
@[simp] theorem State.modCore_ledger (c : Nat) (f : CoreState → CoreState) : (s.modCore c f).ledger = s.ledger := rfl
@[simp] theorem State.modCore_sec (c : Nat) (f : CoreState → CoreState) : (s.modCore c f).sec = s.sec := rfl
@[simp] theorem State.modCore_stations (c : Nat) (f : CoreState → CoreState) : (s.modCore c f).stations = s.stations := rfl
@[simp] theorem State.modCore_lanes (c : Nat) (f : CoreState → CoreState) : (s.modCore c f).lanes = s.lanes := rfl
@[simp] theorem State.modCore_ports (c : Nat) (f : CoreState → CoreState) : (s.modCore c f).ports = s.ports := rfl
@[simp] theorem State.modCore_sw (c : Nat) (f : CoreState → CoreState) : (s.modCore c f).sw = s.sw := rfl
@[simp] theorem State.modCore_vppbs (c : Nat) (f : CoreState → CoreState) : (s.modCore c f).vppbs = s.vppbs := rfl
@[simp] theorem State.modCore_vcss (c : Nat) (f : CoreState → CoreState) : (s.modCore c f).vcss = s.vcss := rfl
@[simp] theorem State.modCore_junction (c : Nat) (f : CoreState → CoreState) : (s.modCore c f).junction = s.junction := rfl
@[simp] theorem State.modCore_coh (c : Nat) (f : CoreState → CoreState) : (s.modCore c f).coh = s.coh := rfl
@[simp] theorem State.modCore_tenants (c : Nat) (f : CoreState → CoreState) : (s.modCore c f).tenants = s.tenants := rfl
@[simp] theorem State.modCore_qos (c : Nat) (f : CoreState → CoreState) : (s.modCore c f).qos = s.qos := rfl
@[simp] theorem State.modCore_slots (c : Nat) (f : CoreState → CoreState) : (s.modCore c f).slots = s.slots := rfl
@[simp] theorem State.modCore_power (c : Nat) (f : CoreState → CoreState) : (s.modCore c f).power = s.power := rfl
@[simp] theorem State.modCore_errors (c : Nat) (f : CoreState → CoreState) : (s.modCore c f).errors = s.errors := rfl
@[simp] theorem State.modCore_alarms (c : Nat) (f : CoreState → CoreState) : (s.modCore c f).alarms = s.alarms := rfl
@[simp] theorem State.modCore_pool (c : Nat) (f : CoreState → CoreState) : (s.modCore c f).pool = s.pool := rfl
@[simp] theorem State.modCore_freeCount (c : Nat) (f : CoreState → CoreState) : (s.modCore c f).freeCount = s.freeCount := rfl
@[simp] theorem State.modCore_outbox (c : Nat) (f : CoreState → CoreState) : (s.modCore c f).outbox = s.outbox := rfl
@[simp] theorem State.modCore_pending (c : Nat) (f : CoreState → CoreState) : (s.modCore c f).pending = s.pending := rfl
@[simp] theorem State.modCore_port (c : Nat) (f : CoreState → CoreState) (p' : Nat) : (s.modCore c f).port p' = s.port p' := rfl
@[simp] theorem State.modCore_station (c : Nat) (f : CoreState → CoreState) (n' : Nat) : (s.modCore c f).station n' = s.station n' := rfl
@[simp] theorem State.modCore_lane (c : Nat) (f : CoreState → CoreState) (l' : Nat) : (s.modCore c f).lane l' = s.lane l' := rfl
@[simp] theorem State.modCore_vppb (c : Nat) (f : CoreState → CoreState) (v' b' : Nat) : (s.modCore c f).vppb v' b' = s.vppb v' b' := rfl
@[simp] theorem State.modCore_vcs (c : Nat) (f : CoreState → CoreState) (v' : Nat) : (s.modCore c f).vcs v' = s.vcs v' := rfl
@[simp] theorem State.modCore_tenant (c : Nat) (f : CoreState → CoreState) (t' : Nat) : (s.modCore c f).tenant t' = s.tenant t' := rfl
@[simp] theorem State.modCore_window (c : Nat) (f : CoreState → CoreState) (t' : Nat) : (s.modCore c f).window t' = s.window t' := rfl
@[simp] theorem State.modCore_slot (c : Nat) (f : CoreState → CoreState) (n' : Nat) : (s.modCore c f).slot n' = s.slot n' := rfl
@[simp] theorem State.modCore_get (c : Nat) (f : CoreState → CoreState) (y : Fld) (i' b' : Nat) : (s.modCore c f).get y i' b' = s.get y i' b' := rfl

/-! ### modPort -/

@[simp] theorem State.modPort_otp (p : Nat) (f : PortState → PortState) : (s.modPort p f).otp = s.otp := rfl
@[simp] theorem State.modPort_strapPins (p : Nat) (f : PortState → PortState) : (s.modPort p f).strapPins = s.strapPins := rfl
@[simp] theorem State.modPort_straps (p : Nat) (f : PortState → PortState) : (s.modPort p f).straps = s.straps := rfl
@[simp] theorem State.modPort_ftb (p : Nat) (f : PortState → PortState) : (s.modPort p f).ftb = s.ftb := rfl
@[simp] theorem State.modPort_obj (p : Nat) (f : PortState → PortState) : (s.modPort p f).obj = s.obj := rfl
@[simp] theorem State.modPort_gen (p : Nat) (f : PortState → PortState) : (s.modPort p f).gen = s.gen := rfl
@[simp] theorem State.modPort_alloc (p : Nat) (f : PortState → PortState) : (s.modPort p f).alloc = s.alloc := rfl
@[simp] theorem State.modPort_lev (p : Nat) (f : PortState → PortState) : (s.modPort p f).lev = s.lev := rfl
@[simp] theorem State.modPort_ord (p : Nat) (f : PortState → PortState) : (s.modPort p f).ord = s.ord := rfl
@[simp] theorem State.modPort_boot (p : Nat) (f : PortState → PortState) : (s.modPort p f).boot = s.boot := rfl
@[simp] theorem State.modPort_ledger (p : Nat) (f : PortState → PortState) : (s.modPort p f).ledger = s.ledger := rfl
@[simp] theorem State.modPort_sec (p : Nat) (f : PortState → PortState) : (s.modPort p f).sec = s.sec := rfl
@[simp] theorem State.modPort_stations (p : Nat) (f : PortState → PortState) : (s.modPort p f).stations = s.stations := rfl
@[simp] theorem State.modPort_lanes (p : Nat) (f : PortState → PortState) : (s.modPort p f).lanes = s.lanes := rfl
@[simp] theorem State.modPort_sw (p : Nat) (f : PortState → PortState) : (s.modPort p f).sw = s.sw := rfl
@[simp] theorem State.modPort_vppbs (p : Nat) (f : PortState → PortState) : (s.modPort p f).vppbs = s.vppbs := rfl
@[simp] theorem State.modPort_vcss (p : Nat) (f : PortState → PortState) : (s.modPort p f).vcss = s.vcss := rfl
@[simp] theorem State.modPort_junction (p : Nat) (f : PortState → PortState) : (s.modPort p f).junction = s.junction := rfl
@[simp] theorem State.modPort_coh (p : Nat) (f : PortState → PortState) : (s.modPort p f).coh = s.coh := rfl
@[simp] theorem State.modPort_tenants (p : Nat) (f : PortState → PortState) : (s.modPort p f).tenants = s.tenants := rfl
@[simp] theorem State.modPort_qos (p : Nat) (f : PortState → PortState) : (s.modPort p f).qos = s.qos := rfl
@[simp] theorem State.modPort_slots (p : Nat) (f : PortState → PortState) : (s.modPort p f).slots = s.slots := rfl
@[simp] theorem State.modPort_power (p : Nat) (f : PortState → PortState) : (s.modPort p f).power = s.power := rfl
@[simp] theorem State.modPort_errors (p : Nat) (f : PortState → PortState) : (s.modPort p f).errors = s.errors := rfl
@[simp] theorem State.modPort_alarms (p : Nat) (f : PortState → PortState) : (s.modPort p f).alarms = s.alarms := rfl
@[simp] theorem State.modPort_pool (p : Nat) (f : PortState → PortState) : (s.modPort p f).pool = s.pool := rfl
@[simp] theorem State.modPort_freeCount (p : Nat) (f : PortState → PortState) : (s.modPort p f).freeCount = s.freeCount := rfl
@[simp] theorem State.modPort_outbox (p : Nat) (f : PortState → PortState) : (s.modPort p f).outbox = s.outbox := rfl
@[simp] theorem State.modPort_pending (p : Nat) (f : PortState → PortState) : (s.modPort p f).pending = s.pending := rfl
@[simp] theorem State.modPort_core (p : Nat) (f : PortState → PortState) (c' : Nat) : (s.modPort p f).core c' = s.core c' := rfl
@[simp] theorem State.modPort_station (p : Nat) (f : PortState → PortState) (n' : Nat) : (s.modPort p f).station n' = s.station n' := rfl
@[simp] theorem State.modPort_lane (p : Nat) (f : PortState → PortState) (l' : Nat) : (s.modPort p f).lane l' = s.lane l' := rfl
@[simp] theorem State.modPort_vppb (p : Nat) (f : PortState → PortState) (v' b' : Nat) : (s.modPort p f).vppb v' b' = s.vppb v' b' := rfl
@[simp] theorem State.modPort_vcs (p : Nat) (f : PortState → PortState) (v' : Nat) : (s.modPort p f).vcs v' = s.vcs v' := rfl
@[simp] theorem State.modPort_tenant (p : Nat) (f : PortState → PortState) (t' : Nat) : (s.modPort p f).tenant t' = s.tenant t' := rfl
@[simp] theorem State.modPort_window (p : Nat) (f : PortState → PortState) (t' : Nat) : (s.modPort p f).window t' = s.window t' := rfl
@[simp] theorem State.modPort_slot (p : Nat) (f : PortState → PortState) (n' : Nat) : (s.modPort p f).slot n' = s.slot n' := rfl
@[simp] theorem State.modPort_get (p : Nat) (f : PortState → PortState) (y : Fld) (i' b' : Nat) : (s.modPort p f).get y i' b' = s.get y i' b' := rfl

/-! ### modStation -/

@[simp] theorem State.modStation_otp (n : Nat) (f : StationState → StationState) : (s.modStation n f).otp = s.otp := rfl
@[simp] theorem State.modStation_strapPins (n : Nat) (f : StationState → StationState) : (s.modStation n f).strapPins = s.strapPins := rfl
@[simp] theorem State.modStation_straps (n : Nat) (f : StationState → StationState) : (s.modStation n f).straps = s.straps := rfl
@[simp] theorem State.modStation_ftb (n : Nat) (f : StationState → StationState) : (s.modStation n f).ftb = s.ftb := rfl
@[simp] theorem State.modStation_obj (n : Nat) (f : StationState → StationState) : (s.modStation n f).obj = s.obj := rfl
@[simp] theorem State.modStation_gen (n : Nat) (f : StationState → StationState) : (s.modStation n f).gen = s.gen := rfl
@[simp] theorem State.modStation_alloc (n : Nat) (f : StationState → StationState) : (s.modStation n f).alloc = s.alloc := rfl
@[simp] theorem State.modStation_lev (n : Nat) (f : StationState → StationState) : (s.modStation n f).lev = s.lev := rfl
@[simp] theorem State.modStation_ord (n : Nat) (f : StationState → StationState) : (s.modStation n f).ord = s.ord := rfl
@[simp] theorem State.modStation_boot (n : Nat) (f : StationState → StationState) : (s.modStation n f).boot = s.boot := rfl
@[simp] theorem State.modStation_ledger (n : Nat) (f : StationState → StationState) : (s.modStation n f).ledger = s.ledger := rfl
@[simp] theorem State.modStation_sec (n : Nat) (f : StationState → StationState) : (s.modStation n f).sec = s.sec := rfl
@[simp] theorem State.modStation_lanes (n : Nat) (f : StationState → StationState) : (s.modStation n f).lanes = s.lanes := rfl
@[simp] theorem State.modStation_ports (n : Nat) (f : StationState → StationState) : (s.modStation n f).ports = s.ports := rfl
@[simp] theorem State.modStation_sw (n : Nat) (f : StationState → StationState) : (s.modStation n f).sw = s.sw := rfl
@[simp] theorem State.modStation_vppbs (n : Nat) (f : StationState → StationState) : (s.modStation n f).vppbs = s.vppbs := rfl
@[simp] theorem State.modStation_vcss (n : Nat) (f : StationState → StationState) : (s.modStation n f).vcss = s.vcss := rfl
@[simp] theorem State.modStation_junction (n : Nat) (f : StationState → StationState) : (s.modStation n f).junction = s.junction := rfl
@[simp] theorem State.modStation_coh (n : Nat) (f : StationState → StationState) : (s.modStation n f).coh = s.coh := rfl
@[simp] theorem State.modStation_tenants (n : Nat) (f : StationState → StationState) : (s.modStation n f).tenants = s.tenants := rfl
@[simp] theorem State.modStation_qos (n : Nat) (f : StationState → StationState) : (s.modStation n f).qos = s.qos := rfl
@[simp] theorem State.modStation_slots (n : Nat) (f : StationState → StationState) : (s.modStation n f).slots = s.slots := rfl
@[simp] theorem State.modStation_power (n : Nat) (f : StationState → StationState) : (s.modStation n f).power = s.power := rfl
@[simp] theorem State.modStation_errors (n : Nat) (f : StationState → StationState) : (s.modStation n f).errors = s.errors := rfl
@[simp] theorem State.modStation_alarms (n : Nat) (f : StationState → StationState) : (s.modStation n f).alarms = s.alarms := rfl
@[simp] theorem State.modStation_pool (n : Nat) (f : StationState → StationState) : (s.modStation n f).pool = s.pool := rfl
@[simp] theorem State.modStation_freeCount (n : Nat) (f : StationState → StationState) : (s.modStation n f).freeCount = s.freeCount := rfl
@[simp] theorem State.modStation_outbox (n : Nat) (f : StationState → StationState) : (s.modStation n f).outbox = s.outbox := rfl
@[simp] theorem State.modStation_pending (n : Nat) (f : StationState → StationState) : (s.modStation n f).pending = s.pending := rfl
@[simp] theorem State.modStation_core (n : Nat) (f : StationState → StationState) (c' : Nat) : (s.modStation n f).core c' = s.core c' := rfl
@[simp] theorem State.modStation_port (n : Nat) (f : StationState → StationState) (p' : Nat) : (s.modStation n f).port p' = s.port p' := rfl
@[simp] theorem State.modStation_lane (n : Nat) (f : StationState → StationState) (l' : Nat) : (s.modStation n f).lane l' = s.lane l' := rfl
@[simp] theorem State.modStation_vppb (n : Nat) (f : StationState → StationState) (v' b' : Nat) : (s.modStation n f).vppb v' b' = s.vppb v' b' := rfl
@[simp] theorem State.modStation_vcs (n : Nat) (f : StationState → StationState) (v' : Nat) : (s.modStation n f).vcs v' = s.vcs v' := rfl
@[simp] theorem State.modStation_tenant (n : Nat) (f : StationState → StationState) (t' : Nat) : (s.modStation n f).tenant t' = s.tenant t' := rfl
@[simp] theorem State.modStation_window (n : Nat) (f : StationState → StationState) (t' : Nat) : (s.modStation n f).window t' = s.window t' := rfl
@[simp] theorem State.modStation_slot (n : Nat) (f : StationState → StationState) (n' : Nat) : (s.modStation n f).slot n' = s.slot n' := rfl
@[simp] theorem State.modStation_get (n : Nat) (f : StationState → StationState) (y : Fld) (i' b' : Nat) : (s.modStation n f).get y i' b' = s.get y i' b' := rfl

/-! ### modLane -/

@[simp] theorem State.modLane_otp (l : Nat) (f : Lane → Lane) : (s.modLane l f).otp = s.otp := rfl
@[simp] theorem State.modLane_strapPins (l : Nat) (f : Lane → Lane) : (s.modLane l f).strapPins = s.strapPins := rfl
@[simp] theorem State.modLane_straps (l : Nat) (f : Lane → Lane) : (s.modLane l f).straps = s.straps := rfl
@[simp] theorem State.modLane_ftb (l : Nat) (f : Lane → Lane) : (s.modLane l f).ftb = s.ftb := rfl
@[simp] theorem State.modLane_obj (l : Nat) (f : Lane → Lane) : (s.modLane l f).obj = s.obj := rfl
@[simp] theorem State.modLane_gen (l : Nat) (f : Lane → Lane) : (s.modLane l f).gen = s.gen := rfl
@[simp] theorem State.modLane_alloc (l : Nat) (f : Lane → Lane) : (s.modLane l f).alloc = s.alloc := rfl
@[simp] theorem State.modLane_lev (l : Nat) (f : Lane → Lane) : (s.modLane l f).lev = s.lev := rfl
@[simp] theorem State.modLane_ord (l : Nat) (f : Lane → Lane) : (s.modLane l f).ord = s.ord := rfl
@[simp] theorem State.modLane_boot (l : Nat) (f : Lane → Lane) : (s.modLane l f).boot = s.boot := rfl
@[simp] theorem State.modLane_ledger (l : Nat) (f : Lane → Lane) : (s.modLane l f).ledger = s.ledger := rfl
@[simp] theorem State.modLane_sec (l : Nat) (f : Lane → Lane) : (s.modLane l f).sec = s.sec := rfl
@[simp] theorem State.modLane_stations (l : Nat) (f : Lane → Lane) : (s.modLane l f).stations = s.stations := rfl
@[simp] theorem State.modLane_ports (l : Nat) (f : Lane → Lane) : (s.modLane l f).ports = s.ports := rfl
@[simp] theorem State.modLane_sw (l : Nat) (f : Lane → Lane) : (s.modLane l f).sw = s.sw := rfl
@[simp] theorem State.modLane_vppbs (l : Nat) (f : Lane → Lane) : (s.modLane l f).vppbs = s.vppbs := rfl
@[simp] theorem State.modLane_vcss (l : Nat) (f : Lane → Lane) : (s.modLane l f).vcss = s.vcss := rfl
@[simp] theorem State.modLane_junction (l : Nat) (f : Lane → Lane) : (s.modLane l f).junction = s.junction := rfl
@[simp] theorem State.modLane_coh (l : Nat) (f : Lane → Lane) : (s.modLane l f).coh = s.coh := rfl
@[simp] theorem State.modLane_tenants (l : Nat) (f : Lane → Lane) : (s.modLane l f).tenants = s.tenants := rfl
@[simp] theorem State.modLane_qos (l : Nat) (f : Lane → Lane) : (s.modLane l f).qos = s.qos := rfl
@[simp] theorem State.modLane_slots (l : Nat) (f : Lane → Lane) : (s.modLane l f).slots = s.slots := rfl
@[simp] theorem State.modLane_power (l : Nat) (f : Lane → Lane) : (s.modLane l f).power = s.power := rfl
@[simp] theorem State.modLane_errors (l : Nat) (f : Lane → Lane) : (s.modLane l f).errors = s.errors := rfl
@[simp] theorem State.modLane_alarms (l : Nat) (f : Lane → Lane) : (s.modLane l f).alarms = s.alarms := rfl
@[simp] theorem State.modLane_pool (l : Nat) (f : Lane → Lane) : (s.modLane l f).pool = s.pool := rfl
@[simp] theorem State.modLane_freeCount (l : Nat) (f : Lane → Lane) : (s.modLane l f).freeCount = s.freeCount := rfl
@[simp] theorem State.modLane_outbox (l : Nat) (f : Lane → Lane) : (s.modLane l f).outbox = s.outbox := rfl
@[simp] theorem State.modLane_pending (l : Nat) (f : Lane → Lane) : (s.modLane l f).pending = s.pending := rfl
@[simp] theorem State.modLane_core (l : Nat) (f : Lane → Lane) (c' : Nat) : (s.modLane l f).core c' = s.core c' := rfl
@[simp] theorem State.modLane_port (l : Nat) (f : Lane → Lane) (p' : Nat) : (s.modLane l f).port p' = s.port p' := rfl
@[simp] theorem State.modLane_station (l : Nat) (f : Lane → Lane) (n' : Nat) : (s.modLane l f).station n' = s.station n' := rfl
@[simp] theorem State.modLane_vppb (l : Nat) (f : Lane → Lane) (v' b' : Nat) : (s.modLane l f).vppb v' b' = s.vppb v' b' := rfl
@[simp] theorem State.modLane_vcs (l : Nat) (f : Lane → Lane) (v' : Nat) : (s.modLane l f).vcs v' = s.vcs v' := rfl
@[simp] theorem State.modLane_tenant (l : Nat) (f : Lane → Lane) (t' : Nat) : (s.modLane l f).tenant t' = s.tenant t' := rfl
@[simp] theorem State.modLane_window (l : Nat) (f : Lane → Lane) (t' : Nat) : (s.modLane l f).window t' = s.window t' := rfl
@[simp] theorem State.modLane_slot (l : Nat) (f : Lane → Lane) (n' : Nat) : (s.modLane l f).slot n' = s.slot n' := rfl
@[simp] theorem State.modLane_get (l : Nat) (f : Lane → Lane) (y : Fld) (i' b' : Nat) : (s.modLane l f).get y i' b' = s.get y i' b' := rfl

/-! ### modVppb -/

@[simp] theorem State.modVppb_otp (v b : Nat) (f : VppbState → VppbState) : (s.modVppb v b f).otp = s.otp := rfl
@[simp] theorem State.modVppb_strapPins (v b : Nat) (f : VppbState → VppbState) : (s.modVppb v b f).strapPins = s.strapPins := rfl
@[simp] theorem State.modVppb_straps (v b : Nat) (f : VppbState → VppbState) : (s.modVppb v b f).straps = s.straps := rfl
@[simp] theorem State.modVppb_ftb (v b : Nat) (f : VppbState → VppbState) : (s.modVppb v b f).ftb = s.ftb := rfl
@[simp] theorem State.modVppb_obj (v b : Nat) (f : VppbState → VppbState) : (s.modVppb v b f).obj = s.obj := rfl
@[simp] theorem State.modVppb_gen (v b : Nat) (f : VppbState → VppbState) : (s.modVppb v b f).gen = s.gen := rfl
@[simp] theorem State.modVppb_alloc (v b : Nat) (f : VppbState → VppbState) : (s.modVppb v b f).alloc = s.alloc := rfl
@[simp] theorem State.modVppb_lev (v b : Nat) (f : VppbState → VppbState) : (s.modVppb v b f).lev = s.lev := rfl
@[simp] theorem State.modVppb_ord (v b : Nat) (f : VppbState → VppbState) : (s.modVppb v b f).ord = s.ord := rfl
@[simp] theorem State.modVppb_boot (v b : Nat) (f : VppbState → VppbState) : (s.modVppb v b f).boot = s.boot := rfl
@[simp] theorem State.modVppb_ledger (v b : Nat) (f : VppbState → VppbState) : (s.modVppb v b f).ledger = s.ledger := rfl
@[simp] theorem State.modVppb_sec (v b : Nat) (f : VppbState → VppbState) : (s.modVppb v b f).sec = s.sec := rfl
@[simp] theorem State.modVppb_stations (v b : Nat) (f : VppbState → VppbState) : (s.modVppb v b f).stations = s.stations := rfl
@[simp] theorem State.modVppb_lanes (v b : Nat) (f : VppbState → VppbState) : (s.modVppb v b f).lanes = s.lanes := rfl
@[simp] theorem State.modVppb_ports (v b : Nat) (f : VppbState → VppbState) : (s.modVppb v b f).ports = s.ports := rfl
@[simp] theorem State.modVppb_sw (v b : Nat) (f : VppbState → VppbState) : (s.modVppb v b f).sw = s.sw := rfl
@[simp] theorem State.modVppb_vcss (v b : Nat) (f : VppbState → VppbState) : (s.modVppb v b f).vcss = s.vcss := rfl
@[simp] theorem State.modVppb_junction (v b : Nat) (f : VppbState → VppbState) : (s.modVppb v b f).junction = s.junction := rfl
@[simp] theorem State.modVppb_coh (v b : Nat) (f : VppbState → VppbState) : (s.modVppb v b f).coh = s.coh := rfl
@[simp] theorem State.modVppb_tenants (v b : Nat) (f : VppbState → VppbState) : (s.modVppb v b f).tenants = s.tenants := rfl
@[simp] theorem State.modVppb_qos (v b : Nat) (f : VppbState → VppbState) : (s.modVppb v b f).qos = s.qos := rfl
@[simp] theorem State.modVppb_slots (v b : Nat) (f : VppbState → VppbState) : (s.modVppb v b f).slots = s.slots := rfl
@[simp] theorem State.modVppb_power (v b : Nat) (f : VppbState → VppbState) : (s.modVppb v b f).power = s.power := rfl
@[simp] theorem State.modVppb_errors (v b : Nat) (f : VppbState → VppbState) : (s.modVppb v b f).errors = s.errors := rfl
@[simp] theorem State.modVppb_alarms (v b : Nat) (f : VppbState → VppbState) : (s.modVppb v b f).alarms = s.alarms := rfl
@[simp] theorem State.modVppb_pool (v b : Nat) (f : VppbState → VppbState) : (s.modVppb v b f).pool = s.pool := rfl
@[simp] theorem State.modVppb_freeCount (v b : Nat) (f : VppbState → VppbState) : (s.modVppb v b f).freeCount = s.freeCount := rfl
@[simp] theorem State.modVppb_outbox (v b : Nat) (f : VppbState → VppbState) : (s.modVppb v b f).outbox = s.outbox := rfl
@[simp] theorem State.modVppb_pending (v b : Nat) (f : VppbState → VppbState) : (s.modVppb v b f).pending = s.pending := rfl
@[simp] theorem State.modVppb_core (v b : Nat) (f : VppbState → VppbState) (c' : Nat) : (s.modVppb v b f).core c' = s.core c' := rfl
@[simp] theorem State.modVppb_port (v b : Nat) (f : VppbState → VppbState) (p' : Nat) : (s.modVppb v b f).port p' = s.port p' := rfl
@[simp] theorem State.modVppb_station (v b : Nat) (f : VppbState → VppbState) (n' : Nat) : (s.modVppb v b f).station n' = s.station n' := rfl
@[simp] theorem State.modVppb_lane (v b : Nat) (f : VppbState → VppbState) (l' : Nat) : (s.modVppb v b f).lane l' = s.lane l' := rfl
@[simp] theorem State.modVppb_vcs (v b : Nat) (f : VppbState → VppbState) (v' : Nat) : (s.modVppb v b f).vcs v' = s.vcs v' := rfl
@[simp] theorem State.modVppb_tenant (v b : Nat) (f : VppbState → VppbState) (t' : Nat) : (s.modVppb v b f).tenant t' = s.tenant t' := rfl
@[simp] theorem State.modVppb_window (v b : Nat) (f : VppbState → VppbState) (t' : Nat) : (s.modVppb v b f).window t' = s.window t' := rfl
@[simp] theorem State.modVppb_slot (v b : Nat) (f : VppbState → VppbState) (n' : Nat) : (s.modVppb v b f).slot n' = s.slot n' := rfl
@[simp] theorem State.modVppb_get (v b : Nat) (f : VppbState → VppbState) (y : Fld) (i' b' : Nat) : (s.modVppb v b f).get y i' b' = s.get y i' b' := rfl

/-! ### modVcs -/

@[simp] theorem State.modVcs_otp (v : Nat) (f : VcsState → VcsState) : (s.modVcs v f).otp = s.otp := rfl
@[simp] theorem State.modVcs_strapPins (v : Nat) (f : VcsState → VcsState) : (s.modVcs v f).strapPins = s.strapPins := rfl
@[simp] theorem State.modVcs_straps (v : Nat) (f : VcsState → VcsState) : (s.modVcs v f).straps = s.straps := rfl
@[simp] theorem State.modVcs_ftb (v : Nat) (f : VcsState → VcsState) : (s.modVcs v f).ftb = s.ftb := rfl
@[simp] theorem State.modVcs_obj (v : Nat) (f : VcsState → VcsState) : (s.modVcs v f).obj = s.obj := rfl
@[simp] theorem State.modVcs_gen (v : Nat) (f : VcsState → VcsState) : (s.modVcs v f).gen = s.gen := rfl
@[simp] theorem State.modVcs_alloc (v : Nat) (f : VcsState → VcsState) : (s.modVcs v f).alloc = s.alloc := rfl
@[simp] theorem State.modVcs_lev (v : Nat) (f : VcsState → VcsState) : (s.modVcs v f).lev = s.lev := rfl
@[simp] theorem State.modVcs_ord (v : Nat) (f : VcsState → VcsState) : (s.modVcs v f).ord = s.ord := rfl
@[simp] theorem State.modVcs_boot (v : Nat) (f : VcsState → VcsState) : (s.modVcs v f).boot = s.boot := rfl
@[simp] theorem State.modVcs_ledger (v : Nat) (f : VcsState → VcsState) : (s.modVcs v f).ledger = s.ledger := rfl
@[simp] theorem State.modVcs_sec (v : Nat) (f : VcsState → VcsState) : (s.modVcs v f).sec = s.sec := rfl
@[simp] theorem State.modVcs_stations (v : Nat) (f : VcsState → VcsState) : (s.modVcs v f).stations = s.stations := rfl
@[simp] theorem State.modVcs_lanes (v : Nat) (f : VcsState → VcsState) : (s.modVcs v f).lanes = s.lanes := rfl
@[simp] theorem State.modVcs_ports (v : Nat) (f : VcsState → VcsState) : (s.modVcs v f).ports = s.ports := rfl
@[simp] theorem State.modVcs_sw (v : Nat) (f : VcsState → VcsState) : (s.modVcs v f).sw = s.sw := rfl
@[simp] theorem State.modVcs_vppbs (v : Nat) (f : VcsState → VcsState) : (s.modVcs v f).vppbs = s.vppbs := rfl
@[simp] theorem State.modVcs_junction (v : Nat) (f : VcsState → VcsState) : (s.modVcs v f).junction = s.junction := rfl
@[simp] theorem State.modVcs_coh (v : Nat) (f : VcsState → VcsState) : (s.modVcs v f).coh = s.coh := rfl
@[simp] theorem State.modVcs_tenants (v : Nat) (f : VcsState → VcsState) : (s.modVcs v f).tenants = s.tenants := rfl
@[simp] theorem State.modVcs_qos (v : Nat) (f : VcsState → VcsState) : (s.modVcs v f).qos = s.qos := rfl
@[simp] theorem State.modVcs_slots (v : Nat) (f : VcsState → VcsState) : (s.modVcs v f).slots = s.slots := rfl
@[simp] theorem State.modVcs_power (v : Nat) (f : VcsState → VcsState) : (s.modVcs v f).power = s.power := rfl
@[simp] theorem State.modVcs_errors (v : Nat) (f : VcsState → VcsState) : (s.modVcs v f).errors = s.errors := rfl
@[simp] theorem State.modVcs_alarms (v : Nat) (f : VcsState → VcsState) : (s.modVcs v f).alarms = s.alarms := rfl
@[simp] theorem State.modVcs_pool (v : Nat) (f : VcsState → VcsState) : (s.modVcs v f).pool = s.pool := rfl
@[simp] theorem State.modVcs_freeCount (v : Nat) (f : VcsState → VcsState) : (s.modVcs v f).freeCount = s.freeCount := rfl
@[simp] theorem State.modVcs_outbox (v : Nat) (f : VcsState → VcsState) : (s.modVcs v f).outbox = s.outbox := rfl
@[simp] theorem State.modVcs_pending (v : Nat) (f : VcsState → VcsState) : (s.modVcs v f).pending = s.pending := rfl
@[simp] theorem State.modVcs_core (v : Nat) (f : VcsState → VcsState) (c' : Nat) : (s.modVcs v f).core c' = s.core c' := rfl
@[simp] theorem State.modVcs_port (v : Nat) (f : VcsState → VcsState) (p' : Nat) : (s.modVcs v f).port p' = s.port p' := rfl
@[simp] theorem State.modVcs_station (v : Nat) (f : VcsState → VcsState) (n' : Nat) : (s.modVcs v f).station n' = s.station n' := rfl
@[simp] theorem State.modVcs_lane (v : Nat) (f : VcsState → VcsState) (l' : Nat) : (s.modVcs v f).lane l' = s.lane l' := rfl
@[simp] theorem State.modVcs_vppb (v : Nat) (f : VcsState → VcsState) (v' b' : Nat) : (s.modVcs v f).vppb v' b' = s.vppb v' b' := rfl
@[simp] theorem State.modVcs_tenant (v : Nat) (f : VcsState → VcsState) (t' : Nat) : (s.modVcs v f).tenant t' = s.tenant t' := rfl
@[simp] theorem State.modVcs_window (v : Nat) (f : VcsState → VcsState) (t' : Nat) : (s.modVcs v f).window t' = s.window t' := rfl
@[simp] theorem State.modVcs_slot (v : Nat) (f : VcsState → VcsState) (n' : Nat) : (s.modVcs v f).slot n' = s.slot n' := rfl
@[simp] theorem State.modVcs_get (v : Nat) (f : VcsState → VcsState) (y : Fld) (i' b' : Nat) : (s.modVcs v f).get y i' b' = s.get y i' b' := rfl

/-! ### modTenant -/

@[simp] theorem State.modTenant_otp (t : Nat) (f : TenantState → TenantState) : (s.modTenant t f).otp = s.otp := rfl
@[simp] theorem State.modTenant_strapPins (t : Nat) (f : TenantState → TenantState) : (s.modTenant t f).strapPins = s.strapPins := rfl
@[simp] theorem State.modTenant_straps (t : Nat) (f : TenantState → TenantState) : (s.modTenant t f).straps = s.straps := rfl
@[simp] theorem State.modTenant_ftb (t : Nat) (f : TenantState → TenantState) : (s.modTenant t f).ftb = s.ftb := rfl
@[simp] theorem State.modTenant_obj (t : Nat) (f : TenantState → TenantState) : (s.modTenant t f).obj = s.obj := rfl
@[simp] theorem State.modTenant_gen (t : Nat) (f : TenantState → TenantState) : (s.modTenant t f).gen = s.gen := rfl
@[simp] theorem State.modTenant_alloc (t : Nat) (f : TenantState → TenantState) : (s.modTenant t f).alloc = s.alloc := rfl
@[simp] theorem State.modTenant_lev (t : Nat) (f : TenantState → TenantState) : (s.modTenant t f).lev = s.lev := rfl
@[simp] theorem State.modTenant_ord (t : Nat) (f : TenantState → TenantState) : (s.modTenant t f).ord = s.ord := rfl
@[simp] theorem State.modTenant_boot (t : Nat) (f : TenantState → TenantState) : (s.modTenant t f).boot = s.boot := rfl
@[simp] theorem State.modTenant_ledger (t : Nat) (f : TenantState → TenantState) : (s.modTenant t f).ledger = s.ledger := rfl
@[simp] theorem State.modTenant_sec (t : Nat) (f : TenantState → TenantState) : (s.modTenant t f).sec = s.sec := rfl
@[simp] theorem State.modTenant_stations (t : Nat) (f : TenantState → TenantState) : (s.modTenant t f).stations = s.stations := rfl
@[simp] theorem State.modTenant_lanes (t : Nat) (f : TenantState → TenantState) : (s.modTenant t f).lanes = s.lanes := rfl
@[simp] theorem State.modTenant_ports (t : Nat) (f : TenantState → TenantState) : (s.modTenant t f).ports = s.ports := rfl
@[simp] theorem State.modTenant_sw (t : Nat) (f : TenantState → TenantState) : (s.modTenant t f).sw = s.sw := rfl
@[simp] theorem State.modTenant_vppbs (t : Nat) (f : TenantState → TenantState) : (s.modTenant t f).vppbs = s.vppbs := rfl
@[simp] theorem State.modTenant_vcss (t : Nat) (f : TenantState → TenantState) : (s.modTenant t f).vcss = s.vcss := rfl
@[simp] theorem State.modTenant_junction (t : Nat) (f : TenantState → TenantState) : (s.modTenant t f).junction = s.junction := rfl
@[simp] theorem State.modTenant_coh (t : Nat) (f : TenantState → TenantState) : (s.modTenant t f).coh = s.coh := rfl
@[simp] theorem State.modTenant_qos (t : Nat) (f : TenantState → TenantState) : (s.modTenant t f).qos = s.qos := rfl
@[simp] theorem State.modTenant_slots (t : Nat) (f : TenantState → TenantState) : (s.modTenant t f).slots = s.slots := rfl
@[simp] theorem State.modTenant_power (t : Nat) (f : TenantState → TenantState) : (s.modTenant t f).power = s.power := rfl
@[simp] theorem State.modTenant_errors (t : Nat) (f : TenantState → TenantState) : (s.modTenant t f).errors = s.errors := rfl
@[simp] theorem State.modTenant_alarms (t : Nat) (f : TenantState → TenantState) : (s.modTenant t f).alarms = s.alarms := rfl
@[simp] theorem State.modTenant_pool (t : Nat) (f : TenantState → TenantState) : (s.modTenant t f).pool = s.pool := rfl
@[simp] theorem State.modTenant_freeCount (t : Nat) (f : TenantState → TenantState) : (s.modTenant t f).freeCount = s.freeCount := rfl
@[simp] theorem State.modTenant_outbox (t : Nat) (f : TenantState → TenantState) : (s.modTenant t f).outbox = s.outbox := rfl
@[simp] theorem State.modTenant_pending (t : Nat) (f : TenantState → TenantState) : (s.modTenant t f).pending = s.pending := rfl
@[simp] theorem State.modTenant_core (t : Nat) (f : TenantState → TenantState) (c' : Nat) : (s.modTenant t f).core c' = s.core c' := rfl
@[simp] theorem State.modTenant_port (t : Nat) (f : TenantState → TenantState) (p' : Nat) : (s.modTenant t f).port p' = s.port p' := rfl
@[simp] theorem State.modTenant_station (t : Nat) (f : TenantState → TenantState) (n' : Nat) : (s.modTenant t f).station n' = s.station n' := rfl
@[simp] theorem State.modTenant_lane (t : Nat) (f : TenantState → TenantState) (l' : Nat) : (s.modTenant t f).lane l' = s.lane l' := rfl
@[simp] theorem State.modTenant_vppb (t : Nat) (f : TenantState → TenantState) (v' b' : Nat) : (s.modTenant t f).vppb v' b' = s.vppb v' b' := rfl
@[simp] theorem State.modTenant_vcs (t : Nat) (f : TenantState → TenantState) (v' : Nat) : (s.modTenant t f).vcs v' = s.vcs v' := rfl
@[simp] theorem State.modTenant_window (t : Nat) (f : TenantState → TenantState) (t' : Nat) : (s.modTenant t f).window t' = s.window t' := rfl
@[simp] theorem State.modTenant_slot (t : Nat) (f : TenantState → TenantState) (n' : Nat) : (s.modTenant t f).slot n' = s.slot n' := rfl
@[simp] theorem State.modTenant_get (t : Nat) (f : TenantState → TenantState) (y : Fld) (i' b' : Nat) : (s.modTenant t f).get y i' b' = s.get y i' b' := rfl

/-! ### modWindow -/

@[simp] theorem State.modWindow_otp (t : Nat) (f : TenantWindow → TenantWindow) : (s.modWindow t f).otp = s.otp := rfl
@[simp] theorem State.modWindow_strapPins (t : Nat) (f : TenantWindow → TenantWindow) : (s.modWindow t f).strapPins = s.strapPins := rfl
@[simp] theorem State.modWindow_straps (t : Nat) (f : TenantWindow → TenantWindow) : (s.modWindow t f).straps = s.straps := rfl
@[simp] theorem State.modWindow_ftb (t : Nat) (f : TenantWindow → TenantWindow) : (s.modWindow t f).ftb = s.ftb := rfl
@[simp] theorem State.modWindow_obj (t : Nat) (f : TenantWindow → TenantWindow) : (s.modWindow t f).obj = s.obj := rfl
@[simp] theorem State.modWindow_gen (t : Nat) (f : TenantWindow → TenantWindow) : (s.modWindow t f).gen = s.gen := rfl
@[simp] theorem State.modWindow_alloc (t : Nat) (f : TenantWindow → TenantWindow) : (s.modWindow t f).alloc = s.alloc := rfl
@[simp] theorem State.modWindow_lev (t : Nat) (f : TenantWindow → TenantWindow) : (s.modWindow t f).lev = s.lev := rfl
@[simp] theorem State.modWindow_boot (t : Nat) (f : TenantWindow → TenantWindow) : (s.modWindow t f).boot = s.boot := rfl
@[simp] theorem State.modWindow_ledger (t : Nat) (f : TenantWindow → TenantWindow) : (s.modWindow t f).ledger = s.ledger := rfl
@[simp] theorem State.modWindow_sec (t : Nat) (f : TenantWindow → TenantWindow) : (s.modWindow t f).sec = s.sec := rfl
@[simp] theorem State.modWindow_stations (t : Nat) (f : TenantWindow → TenantWindow) : (s.modWindow t f).stations = s.stations := rfl
@[simp] theorem State.modWindow_lanes (t : Nat) (f : TenantWindow → TenantWindow) : (s.modWindow t f).lanes = s.lanes := rfl
@[simp] theorem State.modWindow_ports (t : Nat) (f : TenantWindow → TenantWindow) : (s.modWindow t f).ports = s.ports := rfl
@[simp] theorem State.modWindow_sw (t : Nat) (f : TenantWindow → TenantWindow) : (s.modWindow t f).sw = s.sw := rfl
@[simp] theorem State.modWindow_vppbs (t : Nat) (f : TenantWindow → TenantWindow) : (s.modWindow t f).vppbs = s.vppbs := rfl
@[simp] theorem State.modWindow_vcss (t : Nat) (f : TenantWindow → TenantWindow) : (s.modWindow t f).vcss = s.vcss := rfl
@[simp] theorem State.modWindow_junction (t : Nat) (f : TenantWindow → TenantWindow) : (s.modWindow t f).junction = s.junction := rfl
@[simp] theorem State.modWindow_coh (t : Nat) (f : TenantWindow → TenantWindow) : (s.modWindow t f).coh = s.coh := rfl
@[simp] theorem State.modWindow_tenants (t : Nat) (f : TenantWindow → TenantWindow) : (s.modWindow t f).tenants = s.tenants := rfl
@[simp] theorem State.modWindow_qos (t : Nat) (f : TenantWindow → TenantWindow) : (s.modWindow t f).qos = s.qos := rfl
@[simp] theorem State.modWindow_slots (t : Nat) (f : TenantWindow → TenantWindow) : (s.modWindow t f).slots = s.slots := rfl
@[simp] theorem State.modWindow_power (t : Nat) (f : TenantWindow → TenantWindow) : (s.modWindow t f).power = s.power := rfl
@[simp] theorem State.modWindow_errors (t : Nat) (f : TenantWindow → TenantWindow) : (s.modWindow t f).errors = s.errors := rfl
@[simp] theorem State.modWindow_alarms (t : Nat) (f : TenantWindow → TenantWindow) : (s.modWindow t f).alarms = s.alarms := rfl
@[simp] theorem State.modWindow_pool (t : Nat) (f : TenantWindow → TenantWindow) : (s.modWindow t f).pool = s.pool := rfl
@[simp] theorem State.modWindow_freeCount (t : Nat) (f : TenantWindow → TenantWindow) : (s.modWindow t f).freeCount = s.freeCount := rfl
@[simp] theorem State.modWindow_outbox (t : Nat) (f : TenantWindow → TenantWindow) : (s.modWindow t f).outbox = s.outbox := rfl
@[simp] theorem State.modWindow_pending (t : Nat) (f : TenantWindow → TenantWindow) : (s.modWindow t f).pending = s.pending := rfl
@[simp] theorem State.modWindow_core (t : Nat) (f : TenantWindow → TenantWindow) (c' : Nat) : (s.modWindow t f).core c' = s.core c' := rfl
@[simp] theorem State.modWindow_port (t : Nat) (f : TenantWindow → TenantWindow) (p' : Nat) : (s.modWindow t f).port p' = s.port p' := rfl
@[simp] theorem State.modWindow_station (t : Nat) (f : TenantWindow → TenantWindow) (n' : Nat) : (s.modWindow t f).station n' = s.station n' := rfl
@[simp] theorem State.modWindow_lane (t : Nat) (f : TenantWindow → TenantWindow) (l' : Nat) : (s.modWindow t f).lane l' = s.lane l' := rfl
@[simp] theorem State.modWindow_vppb (t : Nat) (f : TenantWindow → TenantWindow) (v' b' : Nat) : (s.modWindow t f).vppb v' b' = s.vppb v' b' := rfl
@[simp] theorem State.modWindow_vcs (t : Nat) (f : TenantWindow → TenantWindow) (v' : Nat) : (s.modWindow t f).vcs v' = s.vcs v' := rfl
@[simp] theorem State.modWindow_tenant (t : Nat) (f : TenantWindow → TenantWindow) (t' : Nat) : (s.modWindow t f).tenant t' = s.tenant t' := rfl
@[simp] theorem State.modWindow_slot (t : Nat) (f : TenantWindow → TenantWindow) (n' : Nat) : (s.modWindow t f).slot n' = s.slot n' := rfl
@[simp] theorem State.modWindow_get (t : Nat) (f : TenantWindow → TenantWindow) (y : Fld) (i' b' : Nat) : (s.modWindow t f).get y i' b' = s.get y i' b' := rfl

/-! ### modSlot -/

@[simp] theorem State.modSlot_otp (n : Nat) (f : SlotState → SlotState) : (s.modSlot n f).otp = s.otp := rfl
@[simp] theorem State.modSlot_strapPins (n : Nat) (f : SlotState → SlotState) : (s.modSlot n f).strapPins = s.strapPins := rfl
@[simp] theorem State.modSlot_straps (n : Nat) (f : SlotState → SlotState) : (s.modSlot n f).straps = s.straps := rfl
@[simp] theorem State.modSlot_ftb (n : Nat) (f : SlotState → SlotState) : (s.modSlot n f).ftb = s.ftb := rfl
@[simp] theorem State.modSlot_obj (n : Nat) (f : SlotState → SlotState) : (s.modSlot n f).obj = s.obj := rfl
@[simp] theorem State.modSlot_gen (n : Nat) (f : SlotState → SlotState) : (s.modSlot n f).gen = s.gen := rfl
@[simp] theorem State.modSlot_alloc (n : Nat) (f : SlotState → SlotState) : (s.modSlot n f).alloc = s.alloc := rfl
@[simp] theorem State.modSlot_lev (n : Nat) (f : SlotState → SlotState) : (s.modSlot n f).lev = s.lev := rfl
@[simp] theorem State.modSlot_ord (n : Nat) (f : SlotState → SlotState) : (s.modSlot n f).ord = s.ord := rfl
@[simp] theorem State.modSlot_boot (n : Nat) (f : SlotState → SlotState) : (s.modSlot n f).boot = s.boot := rfl
@[simp] theorem State.modSlot_ledger (n : Nat) (f : SlotState → SlotState) : (s.modSlot n f).ledger = s.ledger := rfl
@[simp] theorem State.modSlot_sec (n : Nat) (f : SlotState → SlotState) : (s.modSlot n f).sec = s.sec := rfl
@[simp] theorem State.modSlot_stations (n : Nat) (f : SlotState → SlotState) : (s.modSlot n f).stations = s.stations := rfl
@[simp] theorem State.modSlot_lanes (n : Nat) (f : SlotState → SlotState) : (s.modSlot n f).lanes = s.lanes := rfl
@[simp] theorem State.modSlot_ports (n : Nat) (f : SlotState → SlotState) : (s.modSlot n f).ports = s.ports := rfl
@[simp] theorem State.modSlot_sw (n : Nat) (f : SlotState → SlotState) : (s.modSlot n f).sw = s.sw := rfl
@[simp] theorem State.modSlot_vppbs (n : Nat) (f : SlotState → SlotState) : (s.modSlot n f).vppbs = s.vppbs := rfl
@[simp] theorem State.modSlot_vcss (n : Nat) (f : SlotState → SlotState) : (s.modSlot n f).vcss = s.vcss := rfl
@[simp] theorem State.modSlot_junction (n : Nat) (f : SlotState → SlotState) : (s.modSlot n f).junction = s.junction := rfl
@[simp] theorem State.modSlot_coh (n : Nat) (f : SlotState → SlotState) : (s.modSlot n f).coh = s.coh := rfl
@[simp] theorem State.modSlot_tenants (n : Nat) (f : SlotState → SlotState) : (s.modSlot n f).tenants = s.tenants := rfl
@[simp] theorem State.modSlot_qos (n : Nat) (f : SlotState → SlotState) : (s.modSlot n f).qos = s.qos := rfl
@[simp] theorem State.modSlot_power (n : Nat) (f : SlotState → SlotState) : (s.modSlot n f).power = s.power := rfl
@[simp] theorem State.modSlot_errors (n : Nat) (f : SlotState → SlotState) : (s.modSlot n f).errors = s.errors := rfl
@[simp] theorem State.modSlot_alarms (n : Nat) (f : SlotState → SlotState) : (s.modSlot n f).alarms = s.alarms := rfl
@[simp] theorem State.modSlot_pool (n : Nat) (f : SlotState → SlotState) : (s.modSlot n f).pool = s.pool := rfl
@[simp] theorem State.modSlot_freeCount (n : Nat) (f : SlotState → SlotState) : (s.modSlot n f).freeCount = s.freeCount := rfl
@[simp] theorem State.modSlot_outbox (n : Nat) (f : SlotState → SlotState) : (s.modSlot n f).outbox = s.outbox := rfl
@[simp] theorem State.modSlot_pending (n : Nat) (f : SlotState → SlotState) : (s.modSlot n f).pending = s.pending := rfl
@[simp] theorem State.modSlot_core (n : Nat) (f : SlotState → SlotState) (c' : Nat) : (s.modSlot n f).core c' = s.core c' := rfl
@[simp] theorem State.modSlot_port (n : Nat) (f : SlotState → SlotState) (p' : Nat) : (s.modSlot n f).port p' = s.port p' := rfl
@[simp] theorem State.modSlot_station (n : Nat) (f : SlotState → SlotState) (n' : Nat) : (s.modSlot n f).station n' = s.station n' := rfl
@[simp] theorem State.modSlot_lane (n : Nat) (f : SlotState → SlotState) (l' : Nat) : (s.modSlot n f).lane l' = s.lane l' := rfl
@[simp] theorem State.modSlot_vppb (n : Nat) (f : SlotState → SlotState) (v' b' : Nat) : (s.modSlot n f).vppb v' b' = s.vppb v' b' := rfl
@[simp] theorem State.modSlot_vcs (n : Nat) (f : SlotState → SlotState) (v' : Nat) : (s.modSlot n f).vcs v' = s.vcs v' := rfl
@[simp] theorem State.modSlot_tenant (n : Nat) (f : SlotState → SlotState) (t' : Nat) : (s.modSlot n f).tenant t' = s.tenant t' := rfl
@[simp] theorem State.modSlot_window (n : Nat) (f : SlotState → SlotState) (t' : Nat) : (s.modSlot n f).window t' = s.window t' := rfl
@[simp] theorem State.modSlot_get (n : Nat) (f : SlotState → SlotState) (y : Fld) (i' b' : Nat) : (s.modSlot n f).get y i' b' = s.get y i' b' := rfl

/-! ### modOrd -/

@[simp] theorem State.modOrd_otp (f : Orders → Orders) : (s.modOrd f).otp = s.otp := rfl
@[simp] theorem State.modOrd_strapPins (f : Orders → Orders) : (s.modOrd f).strapPins = s.strapPins := rfl
@[simp] theorem State.modOrd_straps (f : Orders → Orders) : (s.modOrd f).straps = s.straps := rfl
@[simp] theorem State.modOrd_ftb (f : Orders → Orders) : (s.modOrd f).ftb = s.ftb := rfl
@[simp] theorem State.modOrd_obj (f : Orders → Orders) : (s.modOrd f).obj = s.obj := rfl
@[simp] theorem State.modOrd_gen (f : Orders → Orders) : (s.modOrd f).gen = s.gen := rfl
@[simp] theorem State.modOrd_alloc (f : Orders → Orders) : (s.modOrd f).alloc = s.alloc := rfl
@[simp] theorem State.modOrd_lev (f : Orders → Orders) : (s.modOrd f).lev = s.lev := rfl
@[simp] theorem State.modOrd_boot (f : Orders → Orders) : (s.modOrd f).boot = s.boot := rfl
@[simp] theorem State.modOrd_ledger (f : Orders → Orders) : (s.modOrd f).ledger = s.ledger := rfl
@[simp] theorem State.modOrd_sec (f : Orders → Orders) : (s.modOrd f).sec = s.sec := rfl
@[simp] theorem State.modOrd_stations (f : Orders → Orders) : (s.modOrd f).stations = s.stations := rfl
@[simp] theorem State.modOrd_lanes (f : Orders → Orders) : (s.modOrd f).lanes = s.lanes := rfl
@[simp] theorem State.modOrd_ports (f : Orders → Orders) : (s.modOrd f).ports = s.ports := rfl
@[simp] theorem State.modOrd_sw (f : Orders → Orders) : (s.modOrd f).sw = s.sw := rfl
@[simp] theorem State.modOrd_vppbs (f : Orders → Orders) : (s.modOrd f).vppbs = s.vppbs := rfl
@[simp] theorem State.modOrd_vcss (f : Orders → Orders) : (s.modOrd f).vcss = s.vcss := rfl
@[simp] theorem State.modOrd_junction (f : Orders → Orders) : (s.modOrd f).junction = s.junction := rfl
@[simp] theorem State.modOrd_coh (f : Orders → Orders) : (s.modOrd f).coh = s.coh := rfl
@[simp] theorem State.modOrd_tenants (f : Orders → Orders) : (s.modOrd f).tenants = s.tenants := rfl
@[simp] theorem State.modOrd_qos (f : Orders → Orders) : (s.modOrd f).qos = s.qos := rfl
@[simp] theorem State.modOrd_slots (f : Orders → Orders) : (s.modOrd f).slots = s.slots := rfl
@[simp] theorem State.modOrd_power (f : Orders → Orders) : (s.modOrd f).power = s.power := rfl
@[simp] theorem State.modOrd_errors (f : Orders → Orders) : (s.modOrd f).errors = s.errors := rfl
@[simp] theorem State.modOrd_alarms (f : Orders → Orders) : (s.modOrd f).alarms = s.alarms := rfl
@[simp] theorem State.modOrd_pool (f : Orders → Orders) : (s.modOrd f).pool = s.pool := rfl
@[simp] theorem State.modOrd_freeCount (f : Orders → Orders) : (s.modOrd f).freeCount = s.freeCount := rfl
@[simp] theorem State.modOrd_outbox (f : Orders → Orders) : (s.modOrd f).outbox = s.outbox := rfl
@[simp] theorem State.modOrd_pending (f : Orders → Orders) : (s.modOrd f).pending = s.pending := rfl
@[simp] theorem State.modOrd_core (f : Orders → Orders) (c' : Nat) : (s.modOrd f).core c' = s.core c' := rfl
@[simp] theorem State.modOrd_port (f : Orders → Orders) (p' : Nat) : (s.modOrd f).port p' = s.port p' := rfl
@[simp] theorem State.modOrd_station (f : Orders → Orders) (n' : Nat) : (s.modOrd f).station n' = s.station n' := rfl
@[simp] theorem State.modOrd_lane (f : Orders → Orders) (l' : Nat) : (s.modOrd f).lane l' = s.lane l' := rfl
@[simp] theorem State.modOrd_vppb (f : Orders → Orders) (v' b' : Nat) : (s.modOrd f).vppb v' b' = s.vppb v' b' := rfl
@[simp] theorem State.modOrd_vcs (f : Orders → Orders) (v' : Nat) : (s.modOrd f).vcs v' = s.vcs v' := rfl
@[simp] theorem State.modOrd_tenant (f : Orders → Orders) (t' : Nat) : (s.modOrd f).tenant t' = s.tenant t' := rfl
@[simp] theorem State.modOrd_slot (f : Orders → Orders) (n' : Nat) : (s.modOrd f).slot n' = s.slot n' := rfl
@[simp] theorem State.modOrd_get (f : Orders → Orders) (y : Fld) (i' b' : Nat) : (s.modOrd f).get y i' b' = s.get y i' b' := rfl

/-! ### modSw -/

@[simp] theorem State.modSw_otp (f : Switch → Switch) : (s.modSw f).otp = s.otp := rfl
@[simp] theorem State.modSw_strapPins (f : Switch → Switch) : (s.modSw f).strapPins = s.strapPins := rfl
@[simp] theorem State.modSw_straps (f : Switch → Switch) : (s.modSw f).straps = s.straps := rfl
@[simp] theorem State.modSw_ftb (f : Switch → Switch) : (s.modSw f).ftb = s.ftb := rfl
@[simp] theorem State.modSw_obj (f : Switch → Switch) : (s.modSw f).obj = s.obj := rfl
@[simp] theorem State.modSw_gen (f : Switch → Switch) : (s.modSw f).gen = s.gen := rfl
@[simp] theorem State.modSw_alloc (f : Switch → Switch) : (s.modSw f).alloc = s.alloc := rfl
@[simp] theorem State.modSw_lev (f : Switch → Switch) : (s.modSw f).lev = s.lev := rfl
@[simp] theorem State.modSw_ord (f : Switch → Switch) : (s.modSw f).ord = s.ord := rfl
@[simp] theorem State.modSw_boot (f : Switch → Switch) : (s.modSw f).boot = s.boot := rfl
@[simp] theorem State.modSw_ledger (f : Switch → Switch) : (s.modSw f).ledger = s.ledger := rfl
@[simp] theorem State.modSw_sec (f : Switch → Switch) : (s.modSw f).sec = s.sec := rfl
@[simp] theorem State.modSw_stations (f : Switch → Switch) : (s.modSw f).stations = s.stations := rfl
@[simp] theorem State.modSw_lanes (f : Switch → Switch) : (s.modSw f).lanes = s.lanes := rfl
@[simp] theorem State.modSw_ports (f : Switch → Switch) : (s.modSw f).ports = s.ports := rfl
@[simp] theorem State.modSw_vppbs (f : Switch → Switch) : (s.modSw f).vppbs = s.vppbs := rfl
@[simp] theorem State.modSw_vcss (f : Switch → Switch) : (s.modSw f).vcss = s.vcss := rfl
@[simp] theorem State.modSw_junction (f : Switch → Switch) : (s.modSw f).junction = s.junction := rfl
@[simp] theorem State.modSw_coh (f : Switch → Switch) : (s.modSw f).coh = s.coh := rfl
@[simp] theorem State.modSw_tenants (f : Switch → Switch) : (s.modSw f).tenants = s.tenants := rfl
@[simp] theorem State.modSw_qos (f : Switch → Switch) : (s.modSw f).qos = s.qos := rfl
@[simp] theorem State.modSw_slots (f : Switch → Switch) : (s.modSw f).slots = s.slots := rfl
@[simp] theorem State.modSw_power (f : Switch → Switch) : (s.modSw f).power = s.power := rfl
@[simp] theorem State.modSw_errors (f : Switch → Switch) : (s.modSw f).errors = s.errors := rfl
@[simp] theorem State.modSw_alarms (f : Switch → Switch) : (s.modSw f).alarms = s.alarms := rfl
@[simp] theorem State.modSw_pool (f : Switch → Switch) : (s.modSw f).pool = s.pool := rfl
@[simp] theorem State.modSw_freeCount (f : Switch → Switch) : (s.modSw f).freeCount = s.freeCount := rfl
@[simp] theorem State.modSw_outbox (f : Switch → Switch) : (s.modSw f).outbox = s.outbox := rfl
@[simp] theorem State.modSw_pending (f : Switch → Switch) : (s.modSw f).pending = s.pending := rfl
@[simp] theorem State.modSw_core (f : Switch → Switch) (c' : Nat) : (s.modSw f).core c' = s.core c' := rfl
@[simp] theorem State.modSw_port (f : Switch → Switch) (p' : Nat) : (s.modSw f).port p' = s.port p' := rfl
@[simp] theorem State.modSw_station (f : Switch → Switch) (n' : Nat) : (s.modSw f).station n' = s.station n' := rfl
@[simp] theorem State.modSw_lane (f : Switch → Switch) (l' : Nat) : (s.modSw f).lane l' = s.lane l' := rfl
@[simp] theorem State.modSw_vppb (f : Switch → Switch) (v' b' : Nat) : (s.modSw f).vppb v' b' = s.vppb v' b' := rfl
@[simp] theorem State.modSw_vcs (f : Switch → Switch) (v' : Nat) : (s.modSw f).vcs v' = s.vcs v' := rfl
@[simp] theorem State.modSw_tenant (f : Switch → Switch) (t' : Nat) : (s.modSw f).tenant t' = s.tenant t' := rfl
@[simp] theorem State.modSw_window (f : Switch → Switch) (t' : Nat) : (s.modSw f).window t' = s.window t' := rfl
@[simp] theorem State.modSw_slot (f : Switch → Switch) (n' : Nat) : (s.modSw f).slot n' = s.slot n' := rfl
@[simp] theorem State.modSw_get (f : Switch → Switch) (y : Fld) (i' b' : Nat) : (s.modSw f).get y i' b' = s.get y i' b' := rfl

/-! ### modQos -/

@[simp] theorem State.modQos_otp (f : Qos → Qos) : (s.modQos f).otp = s.otp := rfl
@[simp] theorem State.modQos_strapPins (f : Qos → Qos) : (s.modQos f).strapPins = s.strapPins := rfl
@[simp] theorem State.modQos_straps (f : Qos → Qos) : (s.modQos f).straps = s.straps := rfl
@[simp] theorem State.modQos_ftb (f : Qos → Qos) : (s.modQos f).ftb = s.ftb := rfl
@[simp] theorem State.modQos_obj (f : Qos → Qos) : (s.modQos f).obj = s.obj := rfl
@[simp] theorem State.modQos_gen (f : Qos → Qos) : (s.modQos f).gen = s.gen := rfl
@[simp] theorem State.modQos_alloc (f : Qos → Qos) : (s.modQos f).alloc = s.alloc := rfl
@[simp] theorem State.modQos_lev (f : Qos → Qos) : (s.modQos f).lev = s.lev := rfl
@[simp] theorem State.modQos_ord (f : Qos → Qos) : (s.modQos f).ord = s.ord := rfl
@[simp] theorem State.modQos_boot (f : Qos → Qos) : (s.modQos f).boot = s.boot := rfl
@[simp] theorem State.modQos_ledger (f : Qos → Qos) : (s.modQos f).ledger = s.ledger := rfl
@[simp] theorem State.modQos_sec (f : Qos → Qos) : (s.modQos f).sec = s.sec := rfl
@[simp] theorem State.modQos_stations (f : Qos → Qos) : (s.modQos f).stations = s.stations := rfl
@[simp] theorem State.modQos_lanes (f : Qos → Qos) : (s.modQos f).lanes = s.lanes := rfl
@[simp] theorem State.modQos_ports (f : Qos → Qos) : (s.modQos f).ports = s.ports := rfl
@[simp] theorem State.modQos_sw (f : Qos → Qos) : (s.modQos f).sw = s.sw := rfl
@[simp] theorem State.modQos_vppbs (f : Qos → Qos) : (s.modQos f).vppbs = s.vppbs := rfl
@[simp] theorem State.modQos_vcss (f : Qos → Qos) : (s.modQos f).vcss = s.vcss := rfl
@[simp] theorem State.modQos_junction (f : Qos → Qos) : (s.modQos f).junction = s.junction := rfl
@[simp] theorem State.modQos_coh (f : Qos → Qos) : (s.modQos f).coh = s.coh := rfl
@[simp] theorem State.modQos_tenants (f : Qos → Qos) : (s.modQos f).tenants = s.tenants := rfl
@[simp] theorem State.modQos_slots (f : Qos → Qos) : (s.modQos f).slots = s.slots := rfl
@[simp] theorem State.modQos_power (f : Qos → Qos) : (s.modQos f).power = s.power := rfl
@[simp] theorem State.modQos_errors (f : Qos → Qos) : (s.modQos f).errors = s.errors := rfl
@[simp] theorem State.modQos_alarms (f : Qos → Qos) : (s.modQos f).alarms = s.alarms := rfl
@[simp] theorem State.modQos_pool (f : Qos → Qos) : (s.modQos f).pool = s.pool := rfl
@[simp] theorem State.modQos_freeCount (f : Qos → Qos) : (s.modQos f).freeCount = s.freeCount := rfl
@[simp] theorem State.modQos_outbox (f : Qos → Qos) : (s.modQos f).outbox = s.outbox := rfl
@[simp] theorem State.modQos_pending (f : Qos → Qos) : (s.modQos f).pending = s.pending := rfl
@[simp] theorem State.modQos_core (f : Qos → Qos) (c' : Nat) : (s.modQos f).core c' = s.core c' := rfl
@[simp] theorem State.modQos_port (f : Qos → Qos) (p' : Nat) : (s.modQos f).port p' = s.port p' := rfl
@[simp] theorem State.modQos_station (f : Qos → Qos) (n' : Nat) : (s.modQos f).station n' = s.station n' := rfl
@[simp] theorem State.modQos_lane (f : Qos → Qos) (l' : Nat) : (s.modQos f).lane l' = s.lane l' := rfl
@[simp] theorem State.modQos_vppb (f : Qos → Qos) (v' b' : Nat) : (s.modQos f).vppb v' b' = s.vppb v' b' := rfl
@[simp] theorem State.modQos_vcs (f : Qos → Qos) (v' : Nat) : (s.modQos f).vcs v' = s.vcs v' := rfl
@[simp] theorem State.modQos_tenant (f : Qos → Qos) (t' : Nat) : (s.modQos f).tenant t' = s.tenant t' := rfl
@[simp] theorem State.modQos_window (f : Qos → Qos) (t' : Nat) : (s.modQos f).window t' = s.window t' := rfl
@[simp] theorem State.modQos_slot (f : Qos → Qos) (n' : Nat) : (s.modQos f).slot n' = s.slot n' := rfl
@[simp] theorem State.modQos_get (f : Qos → Qos) (y : Fld) (i' b' : Nat) : (s.modQos f).get y i' b' = s.get y i' b' := rfl

/-! ### modBoot -/

@[simp] theorem State.modBoot_otp (f : Boot → Boot) : (s.modBoot f).otp = s.otp := rfl
@[simp] theorem State.modBoot_strapPins (f : Boot → Boot) : (s.modBoot f).strapPins = s.strapPins := rfl
@[simp] theorem State.modBoot_straps (f : Boot → Boot) : (s.modBoot f).straps = s.straps := rfl
@[simp] theorem State.modBoot_ftb (f : Boot → Boot) : (s.modBoot f).ftb = s.ftb := rfl
@[simp] theorem State.modBoot_obj (f : Boot → Boot) : (s.modBoot f).obj = s.obj := rfl
@[simp] theorem State.modBoot_gen (f : Boot → Boot) : (s.modBoot f).gen = s.gen := rfl
@[simp] theorem State.modBoot_alloc (f : Boot → Boot) : (s.modBoot f).alloc = s.alloc := rfl
@[simp] theorem State.modBoot_lev (f : Boot → Boot) : (s.modBoot f).lev = s.lev := rfl
@[simp] theorem State.modBoot_ord (f : Boot → Boot) : (s.modBoot f).ord = s.ord := rfl
@[simp] theorem State.modBoot_ledger (f : Boot → Boot) : (s.modBoot f).ledger = s.ledger := rfl
@[simp] theorem State.modBoot_sec (f : Boot → Boot) : (s.modBoot f).sec = s.sec := rfl
@[simp] theorem State.modBoot_stations (f : Boot → Boot) : (s.modBoot f).stations = s.stations := rfl
@[simp] theorem State.modBoot_lanes (f : Boot → Boot) : (s.modBoot f).lanes = s.lanes := rfl
@[simp] theorem State.modBoot_ports (f : Boot → Boot) : (s.modBoot f).ports = s.ports := rfl
@[simp] theorem State.modBoot_sw (f : Boot → Boot) : (s.modBoot f).sw = s.sw := rfl
@[simp] theorem State.modBoot_vppbs (f : Boot → Boot) : (s.modBoot f).vppbs = s.vppbs := rfl
@[simp] theorem State.modBoot_vcss (f : Boot → Boot) : (s.modBoot f).vcss = s.vcss := rfl
@[simp] theorem State.modBoot_junction (f : Boot → Boot) : (s.modBoot f).junction = s.junction := rfl
@[simp] theorem State.modBoot_coh (f : Boot → Boot) : (s.modBoot f).coh = s.coh := rfl
@[simp] theorem State.modBoot_tenants (f : Boot → Boot) : (s.modBoot f).tenants = s.tenants := rfl
@[simp] theorem State.modBoot_qos (f : Boot → Boot) : (s.modBoot f).qos = s.qos := rfl
@[simp] theorem State.modBoot_slots (f : Boot → Boot) : (s.modBoot f).slots = s.slots := rfl
@[simp] theorem State.modBoot_power (f : Boot → Boot) : (s.modBoot f).power = s.power := rfl
@[simp] theorem State.modBoot_errors (f : Boot → Boot) : (s.modBoot f).errors = s.errors := rfl
@[simp] theorem State.modBoot_alarms (f : Boot → Boot) : (s.modBoot f).alarms = s.alarms := rfl
@[simp] theorem State.modBoot_pool (f : Boot → Boot) : (s.modBoot f).pool = s.pool := rfl
@[simp] theorem State.modBoot_freeCount (f : Boot → Boot) : (s.modBoot f).freeCount = s.freeCount := rfl
@[simp] theorem State.modBoot_outbox (f : Boot → Boot) : (s.modBoot f).outbox = s.outbox := rfl
@[simp] theorem State.modBoot_pending (f : Boot → Boot) : (s.modBoot f).pending = s.pending := rfl
@[simp] theorem State.modBoot_core (f : Boot → Boot) (c' : Nat) : (s.modBoot f).core c' = s.core c' := rfl
@[simp] theorem State.modBoot_port (f : Boot → Boot) (p' : Nat) : (s.modBoot f).port p' = s.port p' := rfl
@[simp] theorem State.modBoot_station (f : Boot → Boot) (n' : Nat) : (s.modBoot f).station n' = s.station n' := rfl
@[simp] theorem State.modBoot_lane (f : Boot → Boot) (l' : Nat) : (s.modBoot f).lane l' = s.lane l' := rfl
@[simp] theorem State.modBoot_vppb (f : Boot → Boot) (v' b' : Nat) : (s.modBoot f).vppb v' b' = s.vppb v' b' := rfl
@[simp] theorem State.modBoot_vcs (f : Boot → Boot) (v' : Nat) : (s.modBoot f).vcs v' = s.vcs v' := rfl
@[simp] theorem State.modBoot_tenant (f : Boot → Boot) (t' : Nat) : (s.modBoot f).tenant t' = s.tenant t' := rfl
@[simp] theorem State.modBoot_window (f : Boot → Boot) (t' : Nat) : (s.modBoot f).window t' = s.window t' := rfl
@[simp] theorem State.modBoot_slot (f : Boot → Boot) (n' : Nat) : (s.modBoot f).slot n' = s.slot n' := rfl
@[simp] theorem State.modBoot_get (f : Boot → Boot) (y : Fld) (i' b' : Nat) : (s.modBoot f).get y i' b' = s.get y i' b' := rfl

/-! ### modSec -/

@[simp] theorem State.modSec_otp (f : Security → Security) : (s.modSec f).otp = s.otp := rfl
@[simp] theorem State.modSec_strapPins (f : Security → Security) : (s.modSec f).strapPins = s.strapPins := rfl
@[simp] theorem State.modSec_straps (f : Security → Security) : (s.modSec f).straps = s.straps := rfl
@[simp] theorem State.modSec_ftb (f : Security → Security) : (s.modSec f).ftb = s.ftb := rfl
@[simp] theorem State.modSec_obj (f : Security → Security) : (s.modSec f).obj = s.obj := rfl
@[simp] theorem State.modSec_gen (f : Security → Security) : (s.modSec f).gen = s.gen := rfl
@[simp] theorem State.modSec_alloc (f : Security → Security) : (s.modSec f).alloc = s.alloc := rfl
@[simp] theorem State.modSec_lev (f : Security → Security) : (s.modSec f).lev = s.lev := rfl
@[simp] theorem State.modSec_ord (f : Security → Security) : (s.modSec f).ord = s.ord := rfl
@[simp] theorem State.modSec_boot (f : Security → Security) : (s.modSec f).boot = s.boot := rfl
@[simp] theorem State.modSec_ledger (f : Security → Security) : (s.modSec f).ledger = s.ledger := rfl
@[simp] theorem State.modSec_stations (f : Security → Security) : (s.modSec f).stations = s.stations := rfl
@[simp] theorem State.modSec_lanes (f : Security → Security) : (s.modSec f).lanes = s.lanes := rfl
@[simp] theorem State.modSec_ports (f : Security → Security) : (s.modSec f).ports = s.ports := rfl
@[simp] theorem State.modSec_sw (f : Security → Security) : (s.modSec f).sw = s.sw := rfl
@[simp] theorem State.modSec_vppbs (f : Security → Security) : (s.modSec f).vppbs = s.vppbs := rfl
@[simp] theorem State.modSec_vcss (f : Security → Security) : (s.modSec f).vcss = s.vcss := rfl
@[simp] theorem State.modSec_junction (f : Security → Security) : (s.modSec f).junction = s.junction := rfl
@[simp] theorem State.modSec_coh (f : Security → Security) : (s.modSec f).coh = s.coh := rfl
@[simp] theorem State.modSec_tenants (f : Security → Security) : (s.modSec f).tenants = s.tenants := rfl
@[simp] theorem State.modSec_qos (f : Security → Security) : (s.modSec f).qos = s.qos := rfl
@[simp] theorem State.modSec_slots (f : Security → Security) : (s.modSec f).slots = s.slots := rfl
@[simp] theorem State.modSec_power (f : Security → Security) : (s.modSec f).power = s.power := rfl
@[simp] theorem State.modSec_errors (f : Security → Security) : (s.modSec f).errors = s.errors := rfl
@[simp] theorem State.modSec_alarms (f : Security → Security) : (s.modSec f).alarms = s.alarms := rfl
@[simp] theorem State.modSec_pool (f : Security → Security) : (s.modSec f).pool = s.pool := rfl
@[simp] theorem State.modSec_freeCount (f : Security → Security) : (s.modSec f).freeCount = s.freeCount := rfl
@[simp] theorem State.modSec_outbox (f : Security → Security) : (s.modSec f).outbox = s.outbox := rfl
@[simp] theorem State.modSec_pending (f : Security → Security) : (s.modSec f).pending = s.pending := rfl
@[simp] theorem State.modSec_core (f : Security → Security) (c' : Nat) : (s.modSec f).core c' = s.core c' := rfl
@[simp] theorem State.modSec_port (f : Security → Security) (p' : Nat) : (s.modSec f).port p' = s.port p' := rfl
@[simp] theorem State.modSec_station (f : Security → Security) (n' : Nat) : (s.modSec f).station n' = s.station n' := rfl
@[simp] theorem State.modSec_lane (f : Security → Security) (l' : Nat) : (s.modSec f).lane l' = s.lane l' := rfl
@[simp] theorem State.modSec_vppb (f : Security → Security) (v' b' : Nat) : (s.modSec f).vppb v' b' = s.vppb v' b' := rfl
@[simp] theorem State.modSec_vcs (f : Security → Security) (v' : Nat) : (s.modSec f).vcs v' = s.vcs v' := rfl
@[simp] theorem State.modSec_tenant (f : Security → Security) (t' : Nat) : (s.modSec f).tenant t' = s.tenant t' := rfl
@[simp] theorem State.modSec_window (f : Security → Security) (t' : Nat) : (s.modSec f).window t' = s.window t' := rfl
@[simp] theorem State.modSec_slot (f : Security → Security) (n' : Nat) : (s.modSec f).slot n' = s.slot n' := rfl
@[simp] theorem State.modSec_get (f : Security → Security) (y : Fld) (i' b' : Nat) : (s.modSec f).get y i' b' = s.get y i' b' := rfl

/-! ### modLedger -/

@[simp] theorem State.modLedger_otp (f : Ledger → Ledger) : (s.modLedger f).otp = s.otp := rfl
@[simp] theorem State.modLedger_strapPins (f : Ledger → Ledger) : (s.modLedger f).strapPins = s.strapPins := rfl
@[simp] theorem State.modLedger_straps (f : Ledger → Ledger) : (s.modLedger f).straps = s.straps := rfl
@[simp] theorem State.modLedger_ftb (f : Ledger → Ledger) : (s.modLedger f).ftb = s.ftb := rfl
@[simp] theorem State.modLedger_obj (f : Ledger → Ledger) : (s.modLedger f).obj = s.obj := rfl
@[simp] theorem State.modLedger_gen (f : Ledger → Ledger) : (s.modLedger f).gen = s.gen := rfl
@[simp] theorem State.modLedger_alloc (f : Ledger → Ledger) : (s.modLedger f).alloc = s.alloc := rfl
@[simp] theorem State.modLedger_lev (f : Ledger → Ledger) : (s.modLedger f).lev = s.lev := rfl
@[simp] theorem State.modLedger_ord (f : Ledger → Ledger) : (s.modLedger f).ord = s.ord := rfl
@[simp] theorem State.modLedger_boot (f : Ledger → Ledger) : (s.modLedger f).boot = s.boot := rfl
@[simp] theorem State.modLedger_sec (f : Ledger → Ledger) : (s.modLedger f).sec = s.sec := rfl
@[simp] theorem State.modLedger_stations (f : Ledger → Ledger) : (s.modLedger f).stations = s.stations := rfl
@[simp] theorem State.modLedger_lanes (f : Ledger → Ledger) : (s.modLedger f).lanes = s.lanes := rfl
@[simp] theorem State.modLedger_ports (f : Ledger → Ledger) : (s.modLedger f).ports = s.ports := rfl
@[simp] theorem State.modLedger_sw (f : Ledger → Ledger) : (s.modLedger f).sw = s.sw := rfl
@[simp] theorem State.modLedger_vppbs (f : Ledger → Ledger) : (s.modLedger f).vppbs = s.vppbs := rfl
@[simp] theorem State.modLedger_vcss (f : Ledger → Ledger) : (s.modLedger f).vcss = s.vcss := rfl
@[simp] theorem State.modLedger_junction (f : Ledger → Ledger) : (s.modLedger f).junction = s.junction := rfl
@[simp] theorem State.modLedger_coh (f : Ledger → Ledger) : (s.modLedger f).coh = s.coh := rfl
@[simp] theorem State.modLedger_tenants (f : Ledger → Ledger) : (s.modLedger f).tenants = s.tenants := rfl
@[simp] theorem State.modLedger_qos (f : Ledger → Ledger) : (s.modLedger f).qos = s.qos := rfl
@[simp] theorem State.modLedger_slots (f : Ledger → Ledger) : (s.modLedger f).slots = s.slots := rfl
@[simp] theorem State.modLedger_power (f : Ledger → Ledger) : (s.modLedger f).power = s.power := rfl
@[simp] theorem State.modLedger_errors (f : Ledger → Ledger) : (s.modLedger f).errors = s.errors := rfl
@[simp] theorem State.modLedger_alarms (f : Ledger → Ledger) : (s.modLedger f).alarms = s.alarms := rfl
@[simp] theorem State.modLedger_pool (f : Ledger → Ledger) : (s.modLedger f).pool = s.pool := rfl
@[simp] theorem State.modLedger_freeCount (f : Ledger → Ledger) : (s.modLedger f).freeCount = s.freeCount := rfl
@[simp] theorem State.modLedger_outbox (f : Ledger → Ledger) : (s.modLedger f).outbox = s.outbox := rfl
@[simp] theorem State.modLedger_pending (f : Ledger → Ledger) : (s.modLedger f).pending = s.pending := rfl
@[simp] theorem State.modLedger_core (f : Ledger → Ledger) (c' : Nat) : (s.modLedger f).core c' = s.core c' := rfl
@[simp] theorem State.modLedger_port (f : Ledger → Ledger) (p' : Nat) : (s.modLedger f).port p' = s.port p' := rfl
@[simp] theorem State.modLedger_station (f : Ledger → Ledger) (n' : Nat) : (s.modLedger f).station n' = s.station n' := rfl
@[simp] theorem State.modLedger_lane (f : Ledger → Ledger) (l' : Nat) : (s.modLedger f).lane l' = s.lane l' := rfl
@[simp] theorem State.modLedger_vppb (f : Ledger → Ledger) (v' b' : Nat) : (s.modLedger f).vppb v' b' = s.vppb v' b' := rfl
@[simp] theorem State.modLedger_vcs (f : Ledger → Ledger) (v' : Nat) : (s.modLedger f).vcs v' = s.vcs v' := rfl
@[simp] theorem State.modLedger_tenant (f : Ledger → Ledger) (t' : Nat) : (s.modLedger f).tenant t' = s.tenant t' := rfl
@[simp] theorem State.modLedger_window (f : Ledger → Ledger) (t' : Nat) : (s.modLedger f).window t' = s.window t' := rfl
@[simp] theorem State.modLedger_slot (f : Ledger → Ledger) (n' : Nat) : (s.modLedger f).slot n' = s.slot n' := rfl
@[simp] theorem State.modLedger_get (f : Ledger → Ledger) (y : Fld) (i' b' : Nat) : (s.modLedger f).get y i' b' = s.get y i' b' := rfl

/-! ### modPower -/

@[simp] theorem State.modPower_otp (f : Power → Power) : (s.modPower f).otp = s.otp := rfl
@[simp] theorem State.modPower_strapPins (f : Power → Power) : (s.modPower f).strapPins = s.strapPins := rfl
@[simp] theorem State.modPower_straps (f : Power → Power) : (s.modPower f).straps = s.straps := rfl
@[simp] theorem State.modPower_ftb (f : Power → Power) : (s.modPower f).ftb = s.ftb := rfl
@[simp] theorem State.modPower_obj (f : Power → Power) : (s.modPower f).obj = s.obj := rfl
@[simp] theorem State.modPower_gen (f : Power → Power) : (s.modPower f).gen = s.gen := rfl
@[simp] theorem State.modPower_alloc (f : Power → Power) : (s.modPower f).alloc = s.alloc := rfl
@[simp] theorem State.modPower_lev (f : Power → Power) : (s.modPower f).lev = s.lev := rfl
@[simp] theorem State.modPower_ord (f : Power → Power) : (s.modPower f).ord = s.ord := rfl
@[simp] theorem State.modPower_boot (f : Power → Power) : (s.modPower f).boot = s.boot := rfl
@[simp] theorem State.modPower_ledger (f : Power → Power) : (s.modPower f).ledger = s.ledger := rfl
@[simp] theorem State.modPower_sec (f : Power → Power) : (s.modPower f).sec = s.sec := rfl
@[simp] theorem State.modPower_stations (f : Power → Power) : (s.modPower f).stations = s.stations := rfl
@[simp] theorem State.modPower_lanes (f : Power → Power) : (s.modPower f).lanes = s.lanes := rfl
@[simp] theorem State.modPower_ports (f : Power → Power) : (s.modPower f).ports = s.ports := rfl
@[simp] theorem State.modPower_sw (f : Power → Power) : (s.modPower f).sw = s.sw := rfl
@[simp] theorem State.modPower_vppbs (f : Power → Power) : (s.modPower f).vppbs = s.vppbs := rfl
@[simp] theorem State.modPower_vcss (f : Power → Power) : (s.modPower f).vcss = s.vcss := rfl
@[simp] theorem State.modPower_junction (f : Power → Power) : (s.modPower f).junction = s.junction := rfl
@[simp] theorem State.modPower_coh (f : Power → Power) : (s.modPower f).coh = s.coh := rfl
@[simp] theorem State.modPower_tenants (f : Power → Power) : (s.modPower f).tenants = s.tenants := rfl
@[simp] theorem State.modPower_qos (f : Power → Power) : (s.modPower f).qos = s.qos := rfl
@[simp] theorem State.modPower_slots (f : Power → Power) : (s.modPower f).slots = s.slots := rfl
@[simp] theorem State.modPower_errors (f : Power → Power) : (s.modPower f).errors = s.errors := rfl
@[simp] theorem State.modPower_alarms (f : Power → Power) : (s.modPower f).alarms = s.alarms := rfl
@[simp] theorem State.modPower_pool (f : Power → Power) : (s.modPower f).pool = s.pool := rfl
@[simp] theorem State.modPower_freeCount (f : Power → Power) : (s.modPower f).freeCount = s.freeCount := rfl
@[simp] theorem State.modPower_outbox (f : Power → Power) : (s.modPower f).outbox = s.outbox := rfl
@[simp] theorem State.modPower_pending (f : Power → Power) : (s.modPower f).pending = s.pending := rfl
@[simp] theorem State.modPower_core (f : Power → Power) (c' : Nat) : (s.modPower f).core c' = s.core c' := rfl
@[simp] theorem State.modPower_port (f : Power → Power) (p' : Nat) : (s.modPower f).port p' = s.port p' := rfl
@[simp] theorem State.modPower_station (f : Power → Power) (n' : Nat) : (s.modPower f).station n' = s.station n' := rfl
@[simp] theorem State.modPower_lane (f : Power → Power) (l' : Nat) : (s.modPower f).lane l' = s.lane l' := rfl
@[simp] theorem State.modPower_vppb (f : Power → Power) (v' b' : Nat) : (s.modPower f).vppb v' b' = s.vppb v' b' := rfl
@[simp] theorem State.modPower_vcs (f : Power → Power) (v' : Nat) : (s.modPower f).vcs v' = s.vcs v' := rfl
@[simp] theorem State.modPower_tenant (f : Power → Power) (t' : Nat) : (s.modPower f).tenant t' = s.tenant t' := rfl
@[simp] theorem State.modPower_window (f : Power → Power) (t' : Nat) : (s.modPower f).window t' = s.window t' := rfl
@[simp] theorem State.modPower_slot (f : Power → Power) (n' : Nat) : (s.modPower f).slot n' = s.slot n' := rfl
@[simp] theorem State.modPower_get (f : Power → Power) (y : Fld) (i' b' : Nat) : (s.modPower f).get y i' b' = s.get y i' b' := rfl

/-! ### modJunction -/

@[simp] theorem State.modJunction_otp (f : Junction → Junction) : (s.modJunction f).otp = s.otp := rfl
@[simp] theorem State.modJunction_strapPins (f : Junction → Junction) : (s.modJunction f).strapPins = s.strapPins := rfl
@[simp] theorem State.modJunction_straps (f : Junction → Junction) : (s.modJunction f).straps = s.straps := rfl
@[simp] theorem State.modJunction_ftb (f : Junction → Junction) : (s.modJunction f).ftb = s.ftb := rfl
@[simp] theorem State.modJunction_obj (f : Junction → Junction) : (s.modJunction f).obj = s.obj := rfl
@[simp] theorem State.modJunction_gen (f : Junction → Junction) : (s.modJunction f).gen = s.gen := rfl
@[simp] theorem State.modJunction_alloc (f : Junction → Junction) : (s.modJunction f).alloc = s.alloc := rfl
@[simp] theorem State.modJunction_lev (f : Junction → Junction) : (s.modJunction f).lev = s.lev := rfl
@[simp] theorem State.modJunction_ord (f : Junction → Junction) : (s.modJunction f).ord = s.ord := rfl
@[simp] theorem State.modJunction_boot (f : Junction → Junction) : (s.modJunction f).boot = s.boot := rfl
@[simp] theorem State.modJunction_ledger (f : Junction → Junction) : (s.modJunction f).ledger = s.ledger := rfl
@[simp] theorem State.modJunction_sec (f : Junction → Junction) : (s.modJunction f).sec = s.sec := rfl
@[simp] theorem State.modJunction_stations (f : Junction → Junction) : (s.modJunction f).stations = s.stations := rfl
@[simp] theorem State.modJunction_lanes (f : Junction → Junction) : (s.modJunction f).lanes = s.lanes := rfl
@[simp] theorem State.modJunction_ports (f : Junction → Junction) : (s.modJunction f).ports = s.ports := rfl
@[simp] theorem State.modJunction_sw (f : Junction → Junction) : (s.modJunction f).sw = s.sw := rfl
@[simp] theorem State.modJunction_vppbs (f : Junction → Junction) : (s.modJunction f).vppbs = s.vppbs := rfl
@[simp] theorem State.modJunction_vcss (f : Junction → Junction) : (s.modJunction f).vcss = s.vcss := rfl
@[simp] theorem State.modJunction_coh (f : Junction → Junction) : (s.modJunction f).coh = s.coh := rfl
@[simp] theorem State.modJunction_tenants (f : Junction → Junction) : (s.modJunction f).tenants = s.tenants := rfl
@[simp] theorem State.modJunction_qos (f : Junction → Junction) : (s.modJunction f).qos = s.qos := rfl
@[simp] theorem State.modJunction_slots (f : Junction → Junction) : (s.modJunction f).slots = s.slots := rfl
@[simp] theorem State.modJunction_power (f : Junction → Junction) : (s.modJunction f).power = s.power := rfl
@[simp] theorem State.modJunction_errors (f : Junction → Junction) : (s.modJunction f).errors = s.errors := rfl
@[simp] theorem State.modJunction_alarms (f : Junction → Junction) : (s.modJunction f).alarms = s.alarms := rfl
@[simp] theorem State.modJunction_pool (f : Junction → Junction) : (s.modJunction f).pool = s.pool := rfl
@[simp] theorem State.modJunction_freeCount (f : Junction → Junction) : (s.modJunction f).freeCount = s.freeCount := rfl
@[simp] theorem State.modJunction_outbox (f : Junction → Junction) : (s.modJunction f).outbox = s.outbox := rfl
@[simp] theorem State.modJunction_pending (f : Junction → Junction) : (s.modJunction f).pending = s.pending := rfl
@[simp] theorem State.modJunction_core (f : Junction → Junction) (c' : Nat) : (s.modJunction f).core c' = s.core c' := rfl
@[simp] theorem State.modJunction_port (f : Junction → Junction) (p' : Nat) : (s.modJunction f).port p' = s.port p' := rfl
@[simp] theorem State.modJunction_station (f : Junction → Junction) (n' : Nat) : (s.modJunction f).station n' = s.station n' := rfl
@[simp] theorem State.modJunction_lane (f : Junction → Junction) (l' : Nat) : (s.modJunction f).lane l' = s.lane l' := rfl
@[simp] theorem State.modJunction_vppb (f : Junction → Junction) (v' b' : Nat) : (s.modJunction f).vppb v' b' = s.vppb v' b' := rfl
@[simp] theorem State.modJunction_vcs (f : Junction → Junction) (v' : Nat) : (s.modJunction f).vcs v' = s.vcs v' := rfl
@[simp] theorem State.modJunction_tenant (f : Junction → Junction) (t' : Nat) : (s.modJunction f).tenant t' = s.tenant t' := rfl
@[simp] theorem State.modJunction_window (f : Junction → Junction) (t' : Nat) : (s.modJunction f).window t' = s.window t' := rfl
@[simp] theorem State.modJunction_slot (f : Junction → Junction) (n' : Nat) : (s.modJunction f).slot n' = s.slot n' := rfl
@[simp] theorem State.modJunction_get (f : Junction → Junction) (y : Fld) (i' b' : Nat) : (s.modJunction f).get y i' b' = s.get y i' b' := rfl

/-! ### modCoh -/

@[simp] theorem State.modCoh_otp (f : Coherence → Coherence) : (s.modCoh f).otp = s.otp := rfl
@[simp] theorem State.modCoh_strapPins (f : Coherence → Coherence) : (s.modCoh f).strapPins = s.strapPins := rfl
@[simp] theorem State.modCoh_straps (f : Coherence → Coherence) : (s.modCoh f).straps = s.straps := rfl
@[simp] theorem State.modCoh_ftb (f : Coherence → Coherence) : (s.modCoh f).ftb = s.ftb := rfl
@[simp] theorem State.modCoh_obj (f : Coherence → Coherence) : (s.modCoh f).obj = s.obj := rfl
@[simp] theorem State.modCoh_gen (f : Coherence → Coherence) : (s.modCoh f).gen = s.gen := rfl
@[simp] theorem State.modCoh_alloc (f : Coherence → Coherence) : (s.modCoh f).alloc = s.alloc := rfl
@[simp] theorem State.modCoh_lev (f : Coherence → Coherence) : (s.modCoh f).lev = s.lev := rfl
@[simp] theorem State.modCoh_ord (f : Coherence → Coherence) : (s.modCoh f).ord = s.ord := rfl
@[simp] theorem State.modCoh_boot (f : Coherence → Coherence) : (s.modCoh f).boot = s.boot := rfl
@[simp] theorem State.modCoh_ledger (f : Coherence → Coherence) : (s.modCoh f).ledger = s.ledger := rfl
@[simp] theorem State.modCoh_sec (f : Coherence → Coherence) : (s.modCoh f).sec = s.sec := rfl
@[simp] theorem State.modCoh_stations (f : Coherence → Coherence) : (s.modCoh f).stations = s.stations := rfl
@[simp] theorem State.modCoh_lanes (f : Coherence → Coherence) : (s.modCoh f).lanes = s.lanes := rfl
@[simp] theorem State.modCoh_ports (f : Coherence → Coherence) : (s.modCoh f).ports = s.ports := rfl
@[simp] theorem State.modCoh_sw (f : Coherence → Coherence) : (s.modCoh f).sw = s.sw := rfl
@[simp] theorem State.modCoh_vppbs (f : Coherence → Coherence) : (s.modCoh f).vppbs = s.vppbs := rfl
@[simp] theorem State.modCoh_vcss (f : Coherence → Coherence) : (s.modCoh f).vcss = s.vcss := rfl
@[simp] theorem State.modCoh_junction (f : Coherence → Coherence) : (s.modCoh f).junction = s.junction := rfl
@[simp] theorem State.modCoh_tenants (f : Coherence → Coherence) : (s.modCoh f).tenants = s.tenants := rfl
@[simp] theorem State.modCoh_qos (f : Coherence → Coherence) : (s.modCoh f).qos = s.qos := rfl
@[simp] theorem State.modCoh_slots (f : Coherence → Coherence) : (s.modCoh f).slots = s.slots := rfl
@[simp] theorem State.modCoh_power (f : Coherence → Coherence) : (s.modCoh f).power = s.power := rfl
@[simp] theorem State.modCoh_errors (f : Coherence → Coherence) : (s.modCoh f).errors = s.errors := rfl
@[simp] theorem State.modCoh_alarms (f : Coherence → Coherence) : (s.modCoh f).alarms = s.alarms := rfl
@[simp] theorem State.modCoh_pool (f : Coherence → Coherence) : (s.modCoh f).pool = s.pool := rfl
@[simp] theorem State.modCoh_freeCount (f : Coherence → Coherence) : (s.modCoh f).freeCount = s.freeCount := rfl
@[simp] theorem State.modCoh_outbox (f : Coherence → Coherence) : (s.modCoh f).outbox = s.outbox := rfl
@[simp] theorem State.modCoh_pending (f : Coherence → Coherence) : (s.modCoh f).pending = s.pending := rfl
@[simp] theorem State.modCoh_core (f : Coherence → Coherence) (c' : Nat) : (s.modCoh f).core c' = s.core c' := rfl
@[simp] theorem State.modCoh_port (f : Coherence → Coherence) (p' : Nat) : (s.modCoh f).port p' = s.port p' := rfl
@[simp] theorem State.modCoh_station (f : Coherence → Coherence) (n' : Nat) : (s.modCoh f).station n' = s.station n' := rfl
@[simp] theorem State.modCoh_lane (f : Coherence → Coherence) (l' : Nat) : (s.modCoh f).lane l' = s.lane l' := rfl
@[simp] theorem State.modCoh_vppb (f : Coherence → Coherence) (v' b' : Nat) : (s.modCoh f).vppb v' b' = s.vppb v' b' := rfl
@[simp] theorem State.modCoh_vcs (f : Coherence → Coherence) (v' : Nat) : (s.modCoh f).vcs v' = s.vcs v' := rfl
@[simp] theorem State.modCoh_tenant (f : Coherence → Coherence) (t' : Nat) : (s.modCoh f).tenant t' = s.tenant t' := rfl
@[simp] theorem State.modCoh_window (f : Coherence → Coherence) (t' : Nat) : (s.modCoh f).window t' = s.window t' := rfl
@[simp] theorem State.modCoh_slot (f : Coherence → Coherence) (n' : Nat) : (s.modCoh f).slot n' = s.slot n' := rfl
@[simp] theorem State.modCoh_get (f : Coherence → Coherence) (y : Fld) (i' b' : Nat) : (s.modCoh f).get y i' b' = s.get y i' b' := rfl

/-! ### put -/

@[simp] theorem State.put_otp (x : Fld) (i b v : Nat) : (s.put x i b v).otp = s.otp := rfl
@[simp] theorem State.put_strapPins (x : Fld) (i b v : Nat) : (s.put x i b v).strapPins = s.strapPins := rfl
@[simp] theorem State.put_straps (x : Fld) (i b v : Nat) : (s.put x i b v).straps = s.straps := rfl
@[simp] theorem State.put_ftb (x : Fld) (i b v : Nat) : (s.put x i b v).ftb = s.ftb := rfl
@[simp] theorem State.put_gen (x : Fld) (i b v : Nat) : (s.put x i b v).gen = s.gen := rfl
@[simp] theorem State.put_alloc (x : Fld) (i b v : Nat) : (s.put x i b v).alloc = s.alloc := rfl
@[simp] theorem State.put_lev (x : Fld) (i b v : Nat) : (s.put x i b v).lev = s.lev := rfl
@[simp] theorem State.put_ord (x : Fld) (i b v : Nat) : (s.put x i b v).ord = s.ord := rfl
@[simp] theorem State.put_boot (x : Fld) (i b v : Nat) : (s.put x i b v).boot = s.boot := rfl
@[simp] theorem State.put_ledger (x : Fld) (i b v : Nat) : (s.put x i b v).ledger = s.ledger := rfl
@[simp] theorem State.put_sec (x : Fld) (i b v : Nat) : (s.put x i b v).sec = s.sec := rfl
@[simp] theorem State.put_stations (x : Fld) (i b v : Nat) : (s.put x i b v).stations = s.stations := rfl
@[simp] theorem State.put_lanes (x : Fld) (i b v : Nat) : (s.put x i b v).lanes = s.lanes := rfl
@[simp] theorem State.put_ports (x : Fld) (i b v : Nat) : (s.put x i b v).ports = s.ports := rfl
@[simp] theorem State.put_sw (x : Fld) (i b v : Nat) : (s.put x i b v).sw = s.sw := rfl
@[simp] theorem State.put_vppbs (x : Fld) (i b v : Nat) : (s.put x i b v).vppbs = s.vppbs := rfl
@[simp] theorem State.put_vcss (x : Fld) (i b v : Nat) : (s.put x i b v).vcss = s.vcss := rfl
@[simp] theorem State.put_junction (x : Fld) (i b v : Nat) : (s.put x i b v).junction = s.junction := rfl
@[simp] theorem State.put_coh (x : Fld) (i b v : Nat) : (s.put x i b v).coh = s.coh := rfl
@[simp] theorem State.put_tenants (x : Fld) (i b v : Nat) : (s.put x i b v).tenants = s.tenants := rfl
@[simp] theorem State.put_qos (x : Fld) (i b v : Nat) : (s.put x i b v).qos = s.qos := rfl
@[simp] theorem State.put_slots (x : Fld) (i b v : Nat) : (s.put x i b v).slots = s.slots := rfl
@[simp] theorem State.put_power (x : Fld) (i b v : Nat) : (s.put x i b v).power = s.power := rfl
@[simp] theorem State.put_errors (x : Fld) (i b v : Nat) : (s.put x i b v).errors = s.errors := rfl
@[simp] theorem State.put_alarms (x : Fld) (i b v : Nat) : (s.put x i b v).alarms = s.alarms := rfl
@[simp] theorem State.put_pool (x : Fld) (i b v : Nat) : (s.put x i b v).pool = s.pool := rfl
@[simp] theorem State.put_freeCount (x : Fld) (i b v : Nat) : (s.put x i b v).freeCount = s.freeCount := rfl
@[simp] theorem State.put_outbox (x : Fld) (i b v : Nat) : (s.put x i b v).outbox = s.outbox := rfl
@[simp] theorem State.put_pending (x : Fld) (i b v : Nat) : (s.put x i b v).pending = s.pending := rfl
@[simp] theorem State.put_core (x : Fld) (i b v : Nat) (c' : Nat) : (s.put x i b v).core c' = s.core c' := rfl
@[simp] theorem State.put_port (x : Fld) (i b v : Nat) (p' : Nat) : (s.put x i b v).port p' = s.port p' := rfl
@[simp] theorem State.put_station (x : Fld) (i b v : Nat) (n' : Nat) : (s.put x i b v).station n' = s.station n' := rfl
@[simp] theorem State.put_lane (x : Fld) (i b v : Nat) (l' : Nat) : (s.put x i b v).lane l' = s.lane l' := rfl
@[simp] theorem State.put_vppb (x : Fld) (i b v : Nat) (v' b' : Nat) : (s.put x i b v).vppb v' b' = s.vppb v' b' := rfl
@[simp] theorem State.put_vcs (x : Fld) (i b v : Nat) (v' : Nat) : (s.put x i b v).vcs v' = s.vcs v' := rfl
@[simp] theorem State.put_tenant (x : Fld) (i b v : Nat) (t' : Nat) : (s.put x i b v).tenant t' = s.tenant t' := rfl
@[simp] theorem State.put_window (x : Fld) (i b v : Nat) (t' : Nat) : (s.put x i b v).window t' = s.window t' := rfl
@[simp] theorem State.put_slot (x : Fld) (i b v : Nat) (n' : Nat) : (s.put x i b v).slot n' = s.slot n' := rfl

/-! ### unput -/

@[simp] theorem State.unput_otp (x : Fld) (i b : Nat) : (s.unput x i b).otp = s.otp := rfl
@[simp] theorem State.unput_strapPins (x : Fld) (i b : Nat) : (s.unput x i b).strapPins = s.strapPins := rfl
@[simp] theorem State.unput_straps (x : Fld) (i b : Nat) : (s.unput x i b).straps = s.straps := rfl
@[simp] theorem State.unput_ftb (x : Fld) (i b : Nat) : (s.unput x i b).ftb = s.ftb := rfl
@[simp] theorem State.unput_gen (x : Fld) (i b : Nat) : (s.unput x i b).gen = s.gen := rfl
@[simp] theorem State.unput_alloc (x : Fld) (i b : Nat) : (s.unput x i b).alloc = s.alloc := rfl
@[simp] theorem State.unput_lev (x : Fld) (i b : Nat) : (s.unput x i b).lev = s.lev := rfl
@[simp] theorem State.unput_ord (x : Fld) (i b : Nat) : (s.unput x i b).ord = s.ord := rfl
@[simp] theorem State.unput_boot (x : Fld) (i b : Nat) : (s.unput x i b).boot = s.boot := rfl
@[simp] theorem State.unput_ledger (x : Fld) (i b : Nat) : (s.unput x i b).ledger = s.ledger := rfl
@[simp] theorem State.unput_sec (x : Fld) (i b : Nat) : (s.unput x i b).sec = s.sec := rfl
@[simp] theorem State.unput_stations (x : Fld) (i b : Nat) : (s.unput x i b).stations = s.stations := rfl
@[simp] theorem State.unput_lanes (x : Fld) (i b : Nat) : (s.unput x i b).lanes = s.lanes := rfl
@[simp] theorem State.unput_ports (x : Fld) (i b : Nat) : (s.unput x i b).ports = s.ports := rfl
@[simp] theorem State.unput_sw (x : Fld) (i b : Nat) : (s.unput x i b).sw = s.sw := rfl
@[simp] theorem State.unput_vppbs (x : Fld) (i b : Nat) : (s.unput x i b).vppbs = s.vppbs := rfl
@[simp] theorem State.unput_vcss (x : Fld) (i b : Nat) : (s.unput x i b).vcss = s.vcss := rfl
@[simp] theorem State.unput_junction (x : Fld) (i b : Nat) : (s.unput x i b).junction = s.junction := rfl
@[simp] theorem State.unput_coh (x : Fld) (i b : Nat) : (s.unput x i b).coh = s.coh := rfl
@[simp] theorem State.unput_tenants (x : Fld) (i b : Nat) : (s.unput x i b).tenants = s.tenants := rfl
@[simp] theorem State.unput_qos (x : Fld) (i b : Nat) : (s.unput x i b).qos = s.qos := rfl
@[simp] theorem State.unput_slots (x : Fld) (i b : Nat) : (s.unput x i b).slots = s.slots := rfl
@[simp] theorem State.unput_power (x : Fld) (i b : Nat) : (s.unput x i b).power = s.power := rfl
@[simp] theorem State.unput_errors (x : Fld) (i b : Nat) : (s.unput x i b).errors = s.errors := rfl
@[simp] theorem State.unput_alarms (x : Fld) (i b : Nat) : (s.unput x i b).alarms = s.alarms := rfl
@[simp] theorem State.unput_pool (x : Fld) (i b : Nat) : (s.unput x i b).pool = s.pool := rfl
@[simp] theorem State.unput_freeCount (x : Fld) (i b : Nat) : (s.unput x i b).freeCount = s.freeCount := rfl
@[simp] theorem State.unput_outbox (x : Fld) (i b : Nat) : (s.unput x i b).outbox = s.outbox := rfl
@[simp] theorem State.unput_pending (x : Fld) (i b : Nat) : (s.unput x i b).pending = s.pending := rfl
@[simp] theorem State.unput_core (x : Fld) (i b : Nat) (c' : Nat) : (s.unput x i b).core c' = s.core c' := rfl
@[simp] theorem State.unput_port (x : Fld) (i b : Nat) (p' : Nat) : (s.unput x i b).port p' = s.port p' := rfl
@[simp] theorem State.unput_station (x : Fld) (i b : Nat) (n' : Nat) : (s.unput x i b).station n' = s.station n' := rfl
@[simp] theorem State.unput_lane (x : Fld) (i b : Nat) (l' : Nat) : (s.unput x i b).lane l' = s.lane l' := rfl
@[simp] theorem State.unput_vppb (x : Fld) (i b : Nat) (v' b' : Nat) : (s.unput x i b).vppb v' b' = s.vppb v' b' := rfl
@[simp] theorem State.unput_vcs (x : Fld) (i b : Nat) (v' : Nat) : (s.unput x i b).vcs v' = s.vcs v' := rfl
@[simp] theorem State.unput_tenant (x : Fld) (i b : Nat) (t' : Nat) : (s.unput x i b).tenant t' = s.tenant t' := rfl
@[simp] theorem State.unput_window (x : Fld) (i b : Nat) (t' : Nat) : (s.unput x i b).window t' = s.window t' := rfl
@[simp] theorem State.unput_slot (x : Fld) (i b : Nat) (n' : Nat) : (s.unput x i b).slot n' = s.slot n' := rfl

/-! ### bump -/

@[simp] theorem State.bump_otp (k i b : Nat) : (s.bump k i b).otp = s.otp := rfl
@[simp] theorem State.bump_strapPins (k i b : Nat) : (s.bump k i b).strapPins = s.strapPins := rfl
@[simp] theorem State.bump_straps (k i b : Nat) : (s.bump k i b).straps = s.straps := rfl
@[simp] theorem State.bump_ftb (k i b : Nat) : (s.bump k i b).ftb = s.ftb := rfl
@[simp] theorem State.bump_obj (k i b : Nat) : (s.bump k i b).obj = s.obj := rfl
@[simp] theorem State.bump_alloc (k i b : Nat) : (s.bump k i b).alloc = s.alloc := rfl
@[simp] theorem State.bump_lev (k i b : Nat) : (s.bump k i b).lev = s.lev := rfl
@[simp] theorem State.bump_ord (k i b : Nat) : (s.bump k i b).ord = s.ord := rfl
@[simp] theorem State.bump_boot (k i b : Nat) : (s.bump k i b).boot = s.boot := rfl
@[simp] theorem State.bump_ledger (k i b : Nat) : (s.bump k i b).ledger = s.ledger := rfl
@[simp] theorem State.bump_sec (k i b : Nat) : (s.bump k i b).sec = s.sec := rfl
@[simp] theorem State.bump_stations (k i b : Nat) : (s.bump k i b).stations = s.stations := rfl
@[simp] theorem State.bump_lanes (k i b : Nat) : (s.bump k i b).lanes = s.lanes := rfl
@[simp] theorem State.bump_ports (k i b : Nat) : (s.bump k i b).ports = s.ports := rfl
@[simp] theorem State.bump_sw (k i b : Nat) : (s.bump k i b).sw = s.sw := rfl
@[simp] theorem State.bump_vppbs (k i b : Nat) : (s.bump k i b).vppbs = s.vppbs := rfl
@[simp] theorem State.bump_vcss (k i b : Nat) : (s.bump k i b).vcss = s.vcss := rfl
@[simp] theorem State.bump_junction (k i b : Nat) : (s.bump k i b).junction = s.junction := rfl
@[simp] theorem State.bump_coh (k i b : Nat) : (s.bump k i b).coh = s.coh := rfl
@[simp] theorem State.bump_tenants (k i b : Nat) : (s.bump k i b).tenants = s.tenants := rfl
@[simp] theorem State.bump_qos (k i b : Nat) : (s.bump k i b).qos = s.qos := rfl
@[simp] theorem State.bump_slots (k i b : Nat) : (s.bump k i b).slots = s.slots := rfl
@[simp] theorem State.bump_power (k i b : Nat) : (s.bump k i b).power = s.power := rfl
@[simp] theorem State.bump_errors (k i b : Nat) : (s.bump k i b).errors = s.errors := rfl
@[simp] theorem State.bump_alarms (k i b : Nat) : (s.bump k i b).alarms = s.alarms := rfl
@[simp] theorem State.bump_pool (k i b : Nat) : (s.bump k i b).pool = s.pool := rfl
@[simp] theorem State.bump_freeCount (k i b : Nat) : (s.bump k i b).freeCount = s.freeCount := rfl
@[simp] theorem State.bump_outbox (k i b : Nat) : (s.bump k i b).outbox = s.outbox := rfl
@[simp] theorem State.bump_pending (k i b : Nat) : (s.bump k i b).pending = s.pending := rfl
@[simp] theorem State.bump_core (k i b : Nat) (c' : Nat) : (s.bump k i b).core c' = s.core c' := rfl
@[simp] theorem State.bump_port (k i b : Nat) (p' : Nat) : (s.bump k i b).port p' = s.port p' := rfl
@[simp] theorem State.bump_station (k i b : Nat) (n' : Nat) : (s.bump k i b).station n' = s.station n' := rfl
@[simp] theorem State.bump_lane (k i b : Nat) (l' : Nat) : (s.bump k i b).lane l' = s.lane l' := rfl
@[simp] theorem State.bump_vppb (k i b : Nat) (v' b' : Nat) : (s.bump k i b).vppb v' b' = s.vppb v' b' := rfl
@[simp] theorem State.bump_vcs (k i b : Nat) (v' : Nat) : (s.bump k i b).vcs v' = s.vcs v' := rfl
@[simp] theorem State.bump_tenant (k i b : Nat) (t' : Nat) : (s.bump k i b).tenant t' = s.tenant t' := rfl
@[simp] theorem State.bump_window (k i b : Nat) (t' : Nat) : (s.bump k i b).window t' = s.window t' := rfl
@[simp] theorem State.bump_slot (k i b : Nat) (n' : Nat) : (s.bump k i b).slot n' = s.slot n' := rfl
@[simp] theorem State.bump_get (k i b : Nat) (y : Fld) (i' b' : Nat) : (s.bump k i b).get y i' b' = s.get y i' b' := rfl

/-! ### drawn -/

@[simp] theorem State.drawn_otp : s.drawn.otp = s.otp := rfl
@[simp] theorem State.drawn_strapPins : s.drawn.strapPins = s.strapPins := rfl
@[simp] theorem State.drawn_straps : s.drawn.straps = s.straps := rfl
@[simp] theorem State.drawn_ftb : s.drawn.ftb = s.ftb := rfl
@[simp] theorem State.drawn_obj : s.drawn.obj = s.obj := rfl
@[simp] theorem State.drawn_gen : s.drawn.gen = s.gen := rfl
@[simp] theorem State.drawn_alloc : s.drawn.alloc = s.alloc := rfl
@[simp] theorem State.drawn_lev : s.drawn.lev = s.lev := rfl
@[simp] theorem State.drawn_ord : s.drawn.ord = s.ord := rfl
@[simp] theorem State.drawn_boot : s.drawn.boot = s.boot := rfl
@[simp] theorem State.drawn_ledger : s.drawn.ledger = s.ledger := rfl
@[simp] theorem State.drawn_sec : s.drawn.sec = s.sec := rfl
@[simp] theorem State.drawn_stations : s.drawn.stations = s.stations := rfl
@[simp] theorem State.drawn_lanes : s.drawn.lanes = s.lanes := rfl
@[simp] theorem State.drawn_ports : s.drawn.ports = s.ports := rfl
@[simp] theorem State.drawn_sw : s.drawn.sw = s.sw := rfl
@[simp] theorem State.drawn_vppbs : s.drawn.vppbs = s.vppbs := rfl
@[simp] theorem State.drawn_vcss : s.drawn.vcss = s.vcss := rfl
@[simp] theorem State.drawn_junction : s.drawn.junction = s.junction := rfl
@[simp] theorem State.drawn_coh : s.drawn.coh = s.coh := rfl
@[simp] theorem State.drawn_tenants : s.drawn.tenants = s.tenants := rfl
@[simp] theorem State.drawn_qos : s.drawn.qos = s.qos := rfl
@[simp] theorem State.drawn_slots : s.drawn.slots = s.slots := rfl
@[simp] theorem State.drawn_power : s.drawn.power = s.power := rfl
@[simp] theorem State.drawn_errors : s.drawn.errors = s.errors := rfl
@[simp] theorem State.drawn_alarms : s.drawn.alarms = s.alarms := rfl
@[simp] theorem State.drawn_pool : s.drawn.pool = s.pool := rfl
@[simp] theorem State.drawn_outbox : s.drawn.outbox = s.outbox := rfl
@[simp] theorem State.drawn_pending : s.drawn.pending = s.pending := rfl
@[simp] theorem State.drawn_core (c' : Nat) : s.drawn.core c' = s.core c' := rfl
@[simp] theorem State.drawn_port (p' : Nat) : s.drawn.port p' = s.port p' := rfl
@[simp] theorem State.drawn_station (n' : Nat) : s.drawn.station n' = s.station n' := rfl
@[simp] theorem State.drawn_lane (l' : Nat) : s.drawn.lane l' = s.lane l' := rfl
@[simp] theorem State.drawn_vppb (v' b' : Nat) : s.drawn.vppb v' b' = s.vppb v' b' := rfl
@[simp] theorem State.drawn_vcs (v' : Nat) : s.drawn.vcs v' = s.vcs v' := rfl
@[simp] theorem State.drawn_tenant (t' : Nat) : s.drawn.tenant t' = s.tenant t' := rfl
@[simp] theorem State.drawn_window (t' : Nat) : s.drawn.window t' = s.window t' := rfl
@[simp] theorem State.drawn_slot (n' : Nat) : s.drawn.slot n' = s.slot n' := rfl
@[simp] theorem State.drawn_get (y : Fld) (i' b' : Nat) : s.drawn.get y i' b' = s.get y i' b' := rfl

/-! ### countLost -/

@[simp] theorem State.countLost_otp : s.countLost.otp = s.otp := rfl
@[simp] theorem State.countLost_strapPins : s.countLost.strapPins = s.strapPins := rfl
@[simp] theorem State.countLost_straps : s.countLost.straps = s.straps := rfl
@[simp] theorem State.countLost_ftb : s.countLost.ftb = s.ftb := rfl
@[simp] theorem State.countLost_obj : s.countLost.obj = s.obj := rfl
@[simp] theorem State.countLost_gen : s.countLost.gen = s.gen := rfl
@[simp] theorem State.countLost_alloc : s.countLost.alloc = s.alloc := rfl
@[simp] theorem State.countLost_lev : s.countLost.lev = s.lev := rfl
@[simp] theorem State.countLost_ord : s.countLost.ord = s.ord := rfl
@[simp] theorem State.countLost_boot : s.countLost.boot = s.boot := rfl
@[simp] theorem State.countLost_ledger : s.countLost.ledger = s.ledger := rfl
@[simp] theorem State.countLost_sec : s.countLost.sec = s.sec := rfl
@[simp] theorem State.countLost_stations : s.countLost.stations = s.stations := rfl
@[simp] theorem State.countLost_lanes : s.countLost.lanes = s.lanes := rfl
@[simp] theorem State.countLost_ports : s.countLost.ports = s.ports := rfl
@[simp] theorem State.countLost_vppbs : s.countLost.vppbs = s.vppbs := rfl
@[simp] theorem State.countLost_vcss : s.countLost.vcss = s.vcss := rfl
@[simp] theorem State.countLost_junction : s.countLost.junction = s.junction := rfl
@[simp] theorem State.countLost_coh : s.countLost.coh = s.coh := rfl
@[simp] theorem State.countLost_tenants : s.countLost.tenants = s.tenants := rfl
@[simp] theorem State.countLost_qos : s.countLost.qos = s.qos := rfl
@[simp] theorem State.countLost_slots : s.countLost.slots = s.slots := rfl
@[simp] theorem State.countLost_power : s.countLost.power = s.power := rfl
@[simp] theorem State.countLost_errors : s.countLost.errors = s.errors := rfl
@[simp] theorem State.countLost_alarms : s.countLost.alarms = s.alarms := rfl
@[simp] theorem State.countLost_pool : s.countLost.pool = s.pool := rfl
@[simp] theorem State.countLost_freeCount : s.countLost.freeCount = s.freeCount := rfl
@[simp] theorem State.countLost_outbox : s.countLost.outbox = s.outbox := rfl
@[simp] theorem State.countLost_pending : s.countLost.pending = s.pending := rfl
@[simp] theorem State.countLost_core (c' : Nat) : s.countLost.core c' = s.core c' := rfl
@[simp] theorem State.countLost_port (p' : Nat) : s.countLost.port p' = s.port p' := rfl
@[simp] theorem State.countLost_station (n' : Nat) : s.countLost.station n' = s.station n' := rfl
@[simp] theorem State.countLost_lane (l' : Nat) : s.countLost.lane l' = s.lane l' := rfl
@[simp] theorem State.countLost_vppb (v' b' : Nat) : s.countLost.vppb v' b' = s.vppb v' b' := rfl
@[simp] theorem State.countLost_vcs (v' : Nat) : s.countLost.vcs v' = s.vcs v' := rfl
@[simp] theorem State.countLost_tenant (t' : Nat) : s.countLost.tenant t' = s.tenant t' := rfl
@[simp] theorem State.countLost_window (t' : Nat) : s.countLost.window t' = s.window t' := rfl
@[simp] theorem State.countLost_slot (n' : Nat) : s.countLost.slot n' = s.slot n' := rfl
@[simp] theorem State.countLost_get (y : Fld) (i' b' : Nat) : s.countLost.get y i' b' = s.get y i' b' := rfl

/-! ### missRaise -/

@[simp] theorem State.missRaise_otp : s.missRaise.otp = s.otp := rfl
@[simp] theorem State.missRaise_strapPins : s.missRaise.strapPins = s.strapPins := rfl
@[simp] theorem State.missRaise_straps : s.missRaise.straps = s.straps := rfl
@[simp] theorem State.missRaise_ftb : s.missRaise.ftb = s.ftb := rfl
@[simp] theorem State.missRaise_obj : s.missRaise.obj = s.obj := rfl
@[simp] theorem State.missRaise_gen : s.missRaise.gen = s.gen := rfl
@[simp] theorem State.missRaise_alloc : s.missRaise.alloc = s.alloc := rfl
@[simp] theorem State.missRaise_lev : s.missRaise.lev = s.lev := rfl
@[simp] theorem State.missRaise_ord : s.missRaise.ord = s.ord := rfl
@[simp] theorem State.missRaise_boot : s.missRaise.boot = s.boot := rfl
@[simp] theorem State.missRaise_ledger : s.missRaise.ledger = s.ledger := rfl
@[simp] theorem State.missRaise_sec : s.missRaise.sec = s.sec := rfl
@[simp] theorem State.missRaise_stations : s.missRaise.stations = s.stations := rfl
@[simp] theorem State.missRaise_lanes : s.missRaise.lanes = s.lanes := rfl
@[simp] theorem State.missRaise_ports : s.missRaise.ports = s.ports := rfl
@[simp] theorem State.missRaise_sw : s.missRaise.sw = s.sw := rfl
@[simp] theorem State.missRaise_vppbs : s.missRaise.vppbs = s.vppbs := rfl
@[simp] theorem State.missRaise_vcss : s.missRaise.vcss = s.vcss := rfl
@[simp] theorem State.missRaise_junction : s.missRaise.junction = s.junction := rfl
@[simp] theorem State.missRaise_coh : s.missRaise.coh = s.coh := rfl
@[simp] theorem State.missRaise_tenants : s.missRaise.tenants = s.tenants := rfl
@[simp] theorem State.missRaise_slots : s.missRaise.slots = s.slots := rfl
@[simp] theorem State.missRaise_power : s.missRaise.power = s.power := rfl
@[simp] theorem State.missRaise_errors : s.missRaise.errors = s.errors := rfl
@[simp] theorem State.missRaise_alarms : s.missRaise.alarms = s.alarms := rfl
@[simp] theorem State.missRaise_pool : s.missRaise.pool = s.pool := rfl
@[simp] theorem State.missRaise_freeCount : s.missRaise.freeCount = s.freeCount := rfl
@[simp] theorem State.missRaise_outbox : s.missRaise.outbox = s.outbox := rfl
@[simp] theorem State.missRaise_pending : s.missRaise.pending = s.pending := rfl
@[simp] theorem State.missRaise_core (c' : Nat) : s.missRaise.core c' = s.core c' := rfl
@[simp] theorem State.missRaise_port (p' : Nat) : s.missRaise.port p' = s.port p' := rfl
@[simp] theorem State.missRaise_station (n' : Nat) : s.missRaise.station n' = s.station n' := rfl
@[simp] theorem State.missRaise_lane (l' : Nat) : s.missRaise.lane l' = s.lane l' := rfl
@[simp] theorem State.missRaise_vppb (v' b' : Nat) : s.missRaise.vppb v' b' = s.vppb v' b' := rfl
@[simp] theorem State.missRaise_vcs (v' : Nat) : s.missRaise.vcs v' = s.vcs v' := rfl
@[simp] theorem State.missRaise_tenant (t' : Nat) : s.missRaise.tenant t' = s.tenant t' := rfl
@[simp] theorem State.missRaise_window (t' : Nat) : s.missRaise.window t' = s.window t' := rfl
@[simp] theorem State.missRaise_slot (n' : Nat) : s.missRaise.slot n' = s.slot n' := rfl
@[simp] theorem State.missRaise_get (y : Fld) (i' b' : Nat) : s.missRaise.get y i' b' = s.get y i' b' := rfl

/-! ### leaveCommit -/

@[simp] theorem State.leaveCommit_otp (c : Nat) : (s.leaveCommit c).otp = s.otp := rfl
@[simp] theorem State.leaveCommit_strapPins (c : Nat) : (s.leaveCommit c).strapPins = s.strapPins := rfl
@[simp] theorem State.leaveCommit_straps (c : Nat) : (s.leaveCommit c).straps = s.straps := rfl
@[simp] theorem State.leaveCommit_ftb (c : Nat) : (s.leaveCommit c).ftb = s.ftb := rfl
@[simp] theorem State.leaveCommit_obj (c : Nat) : (s.leaveCommit c).obj = s.obj := rfl
@[simp] theorem State.leaveCommit_gen (c : Nat) : (s.leaveCommit c).gen = s.gen := rfl
@[simp] theorem State.leaveCommit_alloc (c : Nat) : (s.leaveCommit c).alloc = s.alloc := rfl
@[simp] theorem State.leaveCommit_ord (c : Nat) : (s.leaveCommit c).ord = s.ord := rfl
@[simp] theorem State.leaveCommit_boot (c : Nat) : (s.leaveCommit c).boot = s.boot := rfl
@[simp] theorem State.leaveCommit_ledger (c : Nat) : (s.leaveCommit c).ledger = s.ledger := rfl
@[simp] theorem State.leaveCommit_sec (c : Nat) : (s.leaveCommit c).sec = s.sec := rfl
@[simp] theorem State.leaveCommit_stations (c : Nat) : (s.leaveCommit c).stations = s.stations := rfl
@[simp] theorem State.leaveCommit_lanes (c : Nat) : (s.leaveCommit c).lanes = s.lanes := rfl
@[simp] theorem State.leaveCommit_ports (c : Nat) : (s.leaveCommit c).ports = s.ports := rfl
@[simp] theorem State.leaveCommit_sw (c : Nat) : (s.leaveCommit c).sw = s.sw := rfl
@[simp] theorem State.leaveCommit_vppbs (c : Nat) : (s.leaveCommit c).vppbs = s.vppbs := rfl
@[simp] theorem State.leaveCommit_vcss (c : Nat) : (s.leaveCommit c).vcss = s.vcss := rfl
@[simp] theorem State.leaveCommit_junction (c : Nat) : (s.leaveCommit c).junction = s.junction := rfl
@[simp] theorem State.leaveCommit_coh (c : Nat) : (s.leaveCommit c).coh = s.coh := rfl
@[simp] theorem State.leaveCommit_tenants (c : Nat) : (s.leaveCommit c).tenants = s.tenants := rfl
@[simp] theorem State.leaveCommit_qos (c : Nat) : (s.leaveCommit c).qos = s.qos := rfl
@[simp] theorem State.leaveCommit_slots (c : Nat) : (s.leaveCommit c).slots = s.slots := rfl
@[simp] theorem State.leaveCommit_power (c : Nat) : (s.leaveCommit c).power = s.power := rfl
@[simp] theorem State.leaveCommit_errors (c : Nat) : (s.leaveCommit c).errors = s.errors := rfl
@[simp] theorem State.leaveCommit_alarms (c : Nat) : (s.leaveCommit c).alarms = s.alarms := rfl
@[simp] theorem State.leaveCommit_pool (c : Nat) : (s.leaveCommit c).pool = s.pool := rfl
@[simp] theorem State.leaveCommit_freeCount (c : Nat) : (s.leaveCommit c).freeCount = s.freeCount := rfl
@[simp] theorem State.leaveCommit_outbox (c : Nat) : (s.leaveCommit c).outbox = s.outbox := rfl
@[simp] theorem State.leaveCommit_pending (c : Nat) : (s.leaveCommit c).pending = s.pending := rfl
@[simp] theorem State.leaveCommit_port (c : Nat) (p' : Nat) : (s.leaveCommit c).port p' = s.port p' := rfl
@[simp] theorem State.leaveCommit_station (c : Nat) (n' : Nat) : (s.leaveCommit c).station n' = s.station n' := rfl
@[simp] theorem State.leaveCommit_lane (c : Nat) (l' : Nat) : (s.leaveCommit c).lane l' = s.lane l' := rfl
@[simp] theorem State.leaveCommit_vppb (c : Nat) (v' b' : Nat) : (s.leaveCommit c).vppb v' b' = s.vppb v' b' := rfl
@[simp] theorem State.leaveCommit_vcs (c : Nat) (v' : Nat) : (s.leaveCommit c).vcs v' = s.vcs v' := rfl
@[simp] theorem State.leaveCommit_tenant (c : Nat) (t' : Nat) : (s.leaveCommit c).tenant t' = s.tenant t' := rfl
@[simp] theorem State.leaveCommit_window (c : Nat) (t' : Nat) : (s.leaveCommit c).window t' = s.window t' := rfl
@[simp] theorem State.leaveCommit_slot (c : Nat) (n' : Nat) : (s.leaveCommit c).slot n' = s.slot n' := rfl
@[simp] theorem State.leaveCommit_get (c : Nat) (y : Fld) (i' b' : Nat) : (s.leaveCommit c).get y i' b' = s.get y i' b' := rfl

/-! ### logSecurity -/

@[simp] theorem State.logSecurity_otp (r : SecurityRecord) : (s.logSecurity r).otp = s.otp := rfl
@[simp] theorem State.logSecurity_strapPins (r : SecurityRecord) : (s.logSecurity r).strapPins = s.strapPins := rfl
@[simp] theorem State.logSecurity_straps (r : SecurityRecord) : (s.logSecurity r).straps = s.straps := rfl
@[simp] theorem State.logSecurity_ftb (r : SecurityRecord) : (s.logSecurity r).ftb = s.ftb := rfl
@[simp] theorem State.logSecurity_obj (r : SecurityRecord) : (s.logSecurity r).obj = s.obj := rfl
@[simp] theorem State.logSecurity_gen (r : SecurityRecord) : (s.logSecurity r).gen = s.gen := rfl
@[simp] theorem State.logSecurity_alloc (r : SecurityRecord) : (s.logSecurity r).alloc = s.alloc := rfl
@[simp] theorem State.logSecurity_lev (r : SecurityRecord) : (s.logSecurity r).lev = s.lev := rfl
@[simp] theorem State.logSecurity_ord (r : SecurityRecord) : (s.logSecurity r).ord = s.ord := rfl
@[simp] theorem State.logSecurity_boot (r : SecurityRecord) : (s.logSecurity r).boot = s.boot := rfl
@[simp] theorem State.logSecurity_sec (r : SecurityRecord) : (s.logSecurity r).sec = s.sec := rfl
@[simp] theorem State.logSecurity_stations (r : SecurityRecord) : (s.logSecurity r).stations = s.stations := rfl
@[simp] theorem State.logSecurity_lanes (r : SecurityRecord) : (s.logSecurity r).lanes = s.lanes := rfl
@[simp] theorem State.logSecurity_ports (r : SecurityRecord) : (s.logSecurity r).ports = s.ports := rfl
@[simp] theorem State.logSecurity_sw (r : SecurityRecord) : (s.logSecurity r).sw = s.sw := rfl
@[simp] theorem State.logSecurity_vppbs (r : SecurityRecord) : (s.logSecurity r).vppbs = s.vppbs := rfl
@[simp] theorem State.logSecurity_vcss (r : SecurityRecord) : (s.logSecurity r).vcss = s.vcss := rfl
@[simp] theorem State.logSecurity_junction (r : SecurityRecord) : (s.logSecurity r).junction = s.junction := rfl
@[simp] theorem State.logSecurity_coh (r : SecurityRecord) : (s.logSecurity r).coh = s.coh := rfl
@[simp] theorem State.logSecurity_tenants (r : SecurityRecord) : (s.logSecurity r).tenants = s.tenants := rfl
@[simp] theorem State.logSecurity_qos (r : SecurityRecord) : (s.logSecurity r).qos = s.qos := rfl
@[simp] theorem State.logSecurity_slots (r : SecurityRecord) : (s.logSecurity r).slots = s.slots := rfl
@[simp] theorem State.logSecurity_power (r : SecurityRecord) : (s.logSecurity r).power = s.power := rfl
@[simp] theorem State.logSecurity_errors (r : SecurityRecord) : (s.logSecurity r).errors = s.errors := rfl
@[simp] theorem State.logSecurity_alarms (r : SecurityRecord) : (s.logSecurity r).alarms = s.alarms := rfl
@[simp] theorem State.logSecurity_pool (r : SecurityRecord) : (s.logSecurity r).pool = s.pool := rfl
@[simp] theorem State.logSecurity_freeCount (r : SecurityRecord) : (s.logSecurity r).freeCount = s.freeCount := rfl
@[simp] theorem State.logSecurity_outbox (r : SecurityRecord) : (s.logSecurity r).outbox = s.outbox := rfl
@[simp] theorem State.logSecurity_pending (r : SecurityRecord) : (s.logSecurity r).pending = s.pending := rfl
@[simp] theorem State.logSecurity_core (r : SecurityRecord) (c' : Nat) : (s.logSecurity r).core c' = s.core c' := rfl
@[simp] theorem State.logSecurity_port (r : SecurityRecord) (p' : Nat) : (s.logSecurity r).port p' = s.port p' := rfl
@[simp] theorem State.logSecurity_station (r : SecurityRecord) (n' : Nat) : (s.logSecurity r).station n' = s.station n' := rfl
@[simp] theorem State.logSecurity_lane (r : SecurityRecord) (l' : Nat) : (s.logSecurity r).lane l' = s.lane l' := rfl
@[simp] theorem State.logSecurity_vppb (r : SecurityRecord) (v' b' : Nat) : (s.logSecurity r).vppb v' b' = s.vppb v' b' := rfl
@[simp] theorem State.logSecurity_vcs (r : SecurityRecord) (v' : Nat) : (s.logSecurity r).vcs v' = s.vcs v' := rfl
@[simp] theorem State.logSecurity_tenant (r : SecurityRecord) (t' : Nat) : (s.logSecurity r).tenant t' = s.tenant t' := rfl
@[simp] theorem State.logSecurity_window (r : SecurityRecord) (t' : Nat) : (s.logSecurity r).window t' = s.window t' := rfl
@[simp] theorem State.logSecurity_slot (r : SecurityRecord) (n' : Nat) : (s.logSecurity r).slot n' = s.slot n' := rfl
@[simp] theorem State.logSecurity_get (r : SecurityRecord) (y : Fld) (i' b' : Nat) : (s.logSecurity r).get y i' b' = s.get y i' b' := rfl

/-! ### The part an update changes -/

theorem State.core_modCore (c d : Nat) (f : CoreState → CoreState) :
    (s.modCore c f).core d = if c = d then f (s.core c) else s.core d := Tab.get_modify ..
@[simp] theorem State.core_modCore_self (c : Nat) (f : CoreState → CoreState) : (s.modCore c f).core c = f (s.core c) :=
  Tab.get_modify_self ..
theorem State.port_modPort (p q : Nat) (f : PortState → PortState) :
    (s.modPort p f).port q = if p = q then f (s.port p) else s.port q := Tab.get_modify ..
@[simp] theorem State.port_modPort_self (p : Nat) (f : PortState → PortState) : (s.modPort p f).port p = f (s.port p) :=
  Tab.get_modify_self ..
theorem State.station_modStation (p q : Nat) (f : StationState → StationState) :
    (s.modStation p f).station q = if p = q then f (s.station p) else s.station q := Tab.get_modify ..
@[simp] theorem State.station_modStation_self (p : Nat) (f : StationState → StationState) :
    (s.modStation p f).station p = f (s.station p) := Tab.get_modify_self ..
theorem State.lane_modLane (p q : Nat) (f : Lane → Lane) :
    (s.modLane p f).lane q = if p = q then f (s.lane p) else s.lane q := Tab.get_modify ..
@[simp] theorem State.lane_modLane_self (p : Nat) (f : Lane → Lane) : (s.modLane p f).lane p = f (s.lane p) :=
  Tab.get_modify_self ..
@[simp] theorem State.vppb_modVppb_self (v b : Nat) (f : VppbState → VppbState) :
    (s.modVppb v b f).vppb v b = f (s.vppb v b) := Tab.get_modify_self ..
@[simp] theorem State.vcs_modVcs_self (v : Nat) (f : VcsState → VcsState) : (s.modVcs v f).vcs v = f (s.vcs v) :=
  Tab.get_modify_self ..
theorem State.tenant_modTenant (p q : Nat) (f : TenantState → TenantState) :
    (s.modTenant p f).tenant q = if p = q then f (s.tenant p) else s.tenant q := Tab.get_modify ..
@[simp] theorem State.tenant_modTenant_self (t : Nat) (f : TenantState → TenantState) :
    (s.modTenant t f).tenant t = f (s.tenant t) := Tab.get_modify_self ..
@[simp] theorem State.window_modWindow_self (t : Nat) (f : TenantWindow → TenantWindow) :
    (s.modWindow t f).window t = f (s.window t) := Tab.get_modify_self ..
theorem State.slot_modSlot (p q : Nat) (f : SlotState → SlotState) :
    (s.modSlot p f).slot q = if p = q then f (s.slot p) else s.slot q := Tab.get_modify ..
@[simp] theorem State.slot_modSlot_self (n : Nat) (f : SlotState → SlotState) : (s.modSlot n f).slot n = f (s.slot n) :=
  Tab.get_modify_self ..
@[simp] theorem State.modOrd_ord' (f : Orders → Orders) : (s.modOrd f).ord = f s.ord := rfl
@[simp] theorem State.modSw_sw' (f : Switch → Switch) : (s.modSw f).sw = f s.sw := rfl
@[simp] theorem State.modQos_qos' (f : Qos → Qos) : (s.modQos f).qos = f s.qos := rfl
@[simp] theorem State.modBoot_boot' (f : Boot → Boot) : (s.modBoot f).boot = f s.boot := rfl
@[simp] theorem State.modSec_sec' (f : Security → Security) : (s.modSec f).sec = f s.sec := rfl
@[simp] theorem State.modLedger_ledger' (f : Ledger → Ledger) : (s.modLedger f).ledger = f s.ledger := rfl
@[simp] theorem State.modPower_power' (f : Power → Power) : (s.modPower f).power = f s.power := rfl
@[simp] theorem State.modJunction_junction' (f : Junction → Junction) : (s.modJunction f).junction = f s.junction := rfl
@[simp] theorem State.modCoh_coh' (f : Coherence → Coherence) : (s.modCoh f).coh = f s.coh := rfl
@[simp] theorem State.drawn_freeCount' : s.drawn.freeCount = s.freeCount + 1 := rfl

/-! ### The object store -/

/-- Keys differ where the fields do. -/
theorem objKey_ne_field (c f c' f' i b : Nat) (h : c * 256 + f ≠ c' * 256 + f') : objKey c f i b ≠ objKey c' f' i b := by
  unfold objKey
  intro e
  have e1 := Nat.add_right_cancel e
  have e2 := Nat.eq_of_mul_eq_mul_right (by decide) e1
  have e3 := Nat.add_right_cancel e2
  exact h (Nat.eq_of_mul_eq_mul_right (by decide) e3)

/-- A number below `n` beside a multiple of `n` can be told from it. -/
theorem split_mul (n a b x y : Nat) (hx : x < n) (hy : y < n) (e : a * n + x = b * n + y) : a = b ∧ x = y := by
  have hn : 0 < n := Nat.lt_of_le_of_lt (Nat.zero_le _) hx
  have e1 := congrArg (· % n) e
  have e2 := congrArg (· / n) e
  simp only [Nat.mul_add_mod', Nat.mod_eq_of_lt hx, Nat.mod_eq_of_lt hy] at e1
  subst e1
  exact ⟨Nat.eq_of_mul_eq_mul_right hn (Nat.add_right_cancel e), rfl⟩

/-- Keys differ where the objects do. -/
theorem objKey_ne_object (c f c' f' i b j d : Nat) (hi : i < 65536) (hb : b < 65536) (hj : j < 65536) (hd : d < 65536)
    (h : i ≠ j ∨ b ≠ d) : objKey c f i b ≠ objKey c' f' j d := by
  unfold objKey
  intro e
  have e1 := split_mul 65536 _ _ _ _ hb hd e
  have e2 := split_mul 65536 _ _ _ _ hi hj e1.1
  rcases h with h | h
  · exact h e2.2
  · exact h e1.2

/-- A field reads what was put in it, cut to its width. -/
@[simp] theorem State.get_put_self (x : Fld) (i b v : Nat) : (s.put x i b v).get x i b = v % 2 ^ x.info.width := by
  unfold State.get State.put; exact Tab.get_set_self ..

/-- A put leaves every field with another key alone. -/
theorem State.get_put_of_key (x y : Fld) (i b j d v : Nat)
    (h : objKey x.info.cls x.info.id i b ≠ objKey y.info.cls y.info.id j d) : (s.put x i b v).get y j d = s.get y j d :=
  (by unfold State.get State.put; exact Tab.get_set_ne _ _ _ h)

/-- A put leaves the other fields of the same object alone. -/
theorem State.get_put_field (x y : Fld) (i b v : Nat) (h : x.info.cls * 256 + x.info.id ≠ y.info.cls * 256 + y.info.id) :
    (s.put x i b v).get y i b = s.get y i b :=
  s.get_put_of_key x y i b i b v (objKey_ne_field _ _ _ _ _ _ h)

/-- A put leaves the other objects alone. -/
theorem State.get_put_object (x y : Fld) (i b j d v : Nat) (hi : i < 65536) (hb : b < 65536) (hj : j < 65536) (hd : d < 65536)
    (h : i ≠ j ∨ b ≠ d) : (s.put x i b v).get y j d = s.get y j d :=
  s.get_put_of_key x y i b j d v (objKey_ne_object _ _ _ _ _ _ _ _ hi hb hj hd h)

/-! ### Messages that leave -/

@[simp] theorem State.emit_get (m : Msg) (y : Fld) (i b : Nat) : (s.emit m).get y i b = s.get y i b := by
  unfold State.emit; split
  · rfl
  · split
    · split <;> rfl
    · rfl
@[simp] theorem State.emit_otp (m : Msg) : (s.emit m).otp = s.otp := by
  unfold State.emit; split
  · rfl
  · split
    · split <;> rfl
    · rfl
@[simp] theorem State.emit_strapPins (m : Msg) : (s.emit m).strapPins = s.strapPins := by
  unfold State.emit; split
  · rfl
  · split
    · split <;> rfl
    · rfl
@[simp] theorem State.emit_straps (m : Msg) : (s.emit m).straps = s.straps := by
  unfold State.emit; split
  · rfl
  · split
    · split <;> rfl
    · rfl
@[simp] theorem State.emit_ftb (m : Msg) : (s.emit m).ftb = s.ftb := by
  unfold State.emit; split
  · rfl
  · split
    · split <;> rfl
    · rfl
@[simp] theorem State.emit_obj (m : Msg) : (s.emit m).obj = s.obj := by
  unfold State.emit; split
  · rfl
  · split
    · split <;> rfl
    · rfl
@[simp] theorem State.emit_gen (m : Msg) : (s.emit m).gen = s.gen := by
  unfold State.emit; split
  · rfl
  · split
    · split <;> rfl
    · rfl
@[simp] theorem State.emit_alloc (m : Msg) : (s.emit m).alloc = s.alloc := by
  unfold State.emit; split
  · rfl
  · split
    · split <;> rfl
    · rfl
@[simp] theorem State.emit_lev (m : Msg) : (s.emit m).lev = s.lev := by
  unfold State.emit; split
  · rfl
  · split
    · split <;> rfl
    · rfl
@[simp] theorem State.emit_ord (m : Msg) : (s.emit m).ord = s.ord := by
  unfold State.emit; split
  · rfl
  · split
    · split <;> rfl
    · rfl
@[simp] theorem State.emit_boot (m : Msg) : (s.emit m).boot = s.boot := by
  unfold State.emit; split
  · rfl
  · split
    · split <;> rfl
    · rfl
@[simp] theorem State.emit_ledger (m : Msg) : (s.emit m).ledger = s.ledger := by
  unfold State.emit; split
  · rfl
  · split
    · split <;> rfl
    · rfl
@[simp] theorem State.emit_sec (m : Msg) : (s.emit m).sec = s.sec := by
  unfold State.emit; split
  · rfl
  · split
    · split <;> rfl
    · rfl
@[simp] theorem State.emit_stations (m : Msg) : (s.emit m).stations = s.stations := by
  unfold State.emit; split
  · rfl
  · split
    · split <;> rfl
    · rfl
@[simp] theorem State.emit_lanes (m : Msg) : (s.emit m).lanes = s.lanes := by
  unfold State.emit; split
  · rfl
  · split
    · split <;> rfl
    · rfl
@[simp] theorem State.emit_ports (m : Msg) : (s.emit m).ports = s.ports := by
  unfold State.emit; split
  · rfl
  · split
    · split <;> rfl
    · rfl
@[simp] theorem State.emit_vppbs (m : Msg) : (s.emit m).vppbs = s.vppbs := by
  unfold State.emit; split
  · rfl
  · split
    · split <;> rfl
    · rfl
@[simp] theorem State.emit_vcss (m : Msg) : (s.emit m).vcss = s.vcss := by
  unfold State.emit; split
  · rfl
  · split
    · split <;> rfl
    · rfl
@[simp] theorem State.emit_coh (m : Msg) : (s.emit m).coh = s.coh := by
  unfold State.emit; split
  · rfl
  · split
    · split <;> rfl
    · rfl
@[simp] theorem State.emit_tenants (m : Msg) : (s.emit m).tenants = s.tenants := by
  unfold State.emit; split
  · rfl
  · split
    · split <;> rfl
    · rfl
@[simp] theorem State.emit_qos (m : Msg) : (s.emit m).qos = s.qos := by
  unfold State.emit; split
  · rfl
  · split
    · split <;> rfl
    · rfl
@[simp] theorem State.emit_slots (m : Msg) : (s.emit m).slots = s.slots := by
  unfold State.emit; split
  · rfl
  · split
    · split <;> rfl
    · rfl
@[simp] theorem State.emit_power (m : Msg) : (s.emit m).power = s.power := by
  unfold State.emit; split
  · rfl
  · split
    · split <;> rfl
    · rfl
@[simp] theorem State.emit_errors (m : Msg) : (s.emit m).errors = s.errors := by
  unfold State.emit; split
  · rfl
  · split
    · split <;> rfl
    · rfl
@[simp] theorem State.emit_alarms (m : Msg) : (s.emit m).alarms = s.alarms := by
  unfold State.emit; split
  · rfl
  · split
    · split <;> rfl
    · rfl
@[simp] theorem State.emit_pool (m : Msg) : (s.emit m).pool = s.pool := by
  unfold State.emit; split
  · rfl
  · split
    · split <;> rfl
    · rfl
@[simp] theorem State.emit_freeCount (m : Msg) : (s.emit m).freeCount = s.freeCount := by
  unfold State.emit; split
  · rfl
  · split
    · split <;> rfl
    · rfl
@[simp] theorem State.emit_pending (m : Msg) : (s.emit m).pending = s.pending := by
  unfold State.emit; split
  · rfl
  · split
    · split <;> rfl
    · rfl
@[simp] theorem State.emit_core (m : Msg) (c' : Nat) : (s.emit m).core c' = s.core c' := by
  simp [State.core]
@[simp] theorem State.emit_port (m : Msg) (p' : Nat) : (s.emit m).port p' = s.port p' := by
  simp [State.port]
@[simp] theorem State.emit_station (m : Msg) (n' : Nat) : (s.emit m).station n' = s.station n' := by
  simp [State.station]
@[simp] theorem State.emit_lane (m : Msg) (l' : Nat) : (s.emit m).lane l' = s.lane l' := by
  simp [State.lane]
@[simp] theorem State.emit_vppb (m : Msg) (v' b' : Nat) : (s.emit m).vppb v' b' = s.vppb v' b' := by
  simp [State.vppb]
@[simp] theorem State.emit_vcs (m : Msg) (v' : Nat) : (s.emit m).vcs v' = s.vcs v' := by
  simp [State.vcs]
@[simp] theorem State.emit_tenant (m : Msg) (t' : Nat) : (s.emit m).tenant t' = s.tenant t' := by
  simp [State.tenant]
@[simp] theorem State.emit_window (m : Msg) (t' : Nat) : (s.emit m).window t' = s.window t' := by
  simp [State.window]
@[simp] theorem State.emit_slot (m : Msg) (n' : Nat) : (s.emit m).slot n' = s.slot n' := by
  simp [State.slot]

end Sys2Proof.Machine
end

