-- ==== Sys2Proof/Laws/Library.lean ====
section
/-! SUPPORT. What a library order's run does (R84, R92, R102): its code acts where the core carries the order, each check either lets
the code go on or ends the order, and a commit that passes ends it with OK; and where a message that leaves can be seen. -/

namespace Sys2Proof.Machine

theorem Leads.of_next {i : Instr} {s t : State} {post : State → Prop} (h : exec i s = .next t) (hp : post t) : Leads i s post :=
  ⟨t, h, hp⟩

theorem Leads.mono {i : Instr} {s : State} {p q : State → Prop} (h : Leads i s p) (hpq : ∀ t, p t → q t) : Leads i s q := by
  obtain ⟨t, h1, h2⟩ := h
  exact ⟨t, h1, hpq t h2⟩

/-- A message of this device to a port's device or to its host is in the outbox or in a bypass channel once emitted, unless it
answers a far-side request. -/
theorem State.emit_sent (s : State) (m : Msg) (h : s.farAnswerOf m = none) : (s.emit m).sent m := by
  unfold State.emit State.sent
  rw [h]
  dsimp only
  split
  · split
    · exact .inr ⟨_, Tab.mem_set_self _ _ _, _, List.mem_append_right _ (List.mem_singleton_self _), rfl⟩
    · exact .inl (List.mem_append_right _ (List.mem_singleton_self _))
  · exact .inl (List.mem_append_right _ (List.mem_singleton_self _))

/-- A core that runs executes its instruction: no fault of the fetch, no time limit and no halt stands before it. -/
theorem State.leverRun_runs {s : State} {c : Core} (h : s.runs c) (word : BitVec 32) (body : State → State) :
    s.leverRun c word body = body s := by
  obtain ⟨h1, h2, h3, h4, h5⟩ := h
  have h6 : (decide (s.boot.activation = .quiesce) && (s.core c).resident && (s.core c).buf.isEmpty) = false := by
    simp only [Bool.and_eq_false_iff, decide_eq_false_iff_not, List.isEmpty_eq_false_iff]
    by_cases a : s.boot.activation = .quiesce <;> by_cases b : (s.core c).resident = true <;> simp_all
  simp [State.leverRun, h1, h2, h3, h4, h6]

/-- The same, with the condition on its unused fields (R45). -/
theorem State.leverEncoded_runs {s : State} {c : Core} (h : s.runs c) (word : BitVec 32) (zero : Bool) (body : State → State) :
    s.leverEncoded c word zero body = if zero then body s else s.leverFault c .illegal word :=
  State.leverRun_runs h word _

/-- Where a core carries the library order of an ID, the order's row runs its code. -/
theorem State.libRun_carries {s : State} {c : Core} {id : Nat} {o : Order} (h : s.carries c id o)
    (body : State → Order → State) : s.libRun c id body = body s o := by
  obtain ⟨h1, h2, h3, h4, h5, -⟩ := h
  simp [State.libRun, h1, h2, h3, h4, h5]

/-- The code of an order that has made no commit is not past its checks. -/
theorem State.carries_fresh {s : State} {c : Core} {id : Nat} {o : Order} (h : s.carries c id o) : s.libBegun c = false := by
  obtain ⟨-, -, -, -, -, h6, -⟩ := h
  simp [State.libBegun, h6]

theorem State.libOp_self {s : State} (c : Core) {op : Nat} {legal : Nat → Bool} (h : legal op = true) (body : State → State) :
    s.libOp c op op legal body = body s := by
  simp [State.libOp, h]

theorem State.libOp_illegal {s : State} (c : Core) {op mine : Nat} {legal : Nat → Bool} (h : legal op = false)
    (body : State → State) : s.libOp c op mine legal body = s.libEnds c .badArg := by
  simp [State.libOp, h]

theorem State.libArgs_ok {s : State} (c : Core) {ok : Bool} (h : ok = true) (body : State → State) :
    s.libArgs c ok body = body s := by
  simp [State.libArgs, h]

theorem State.libArgs_bad {s : State} (c : Core) {ok : Bool} (h : ok = false) (hb : s.libBegun c = false) (body : State → State) :
    s.libArgs c ok body = s.libEnds c .badArg := by
  simp [State.libArgs, h, hb]

/-- What a commit of a core's code comes to where the commit unit serves it at once and its objects have not changed since it asked
(R62, R63, R92): a refusal by an invariant, a refusal by the boundary, or the commit. -/
theorem State.commitNow_carries {s : State} {c : Core} {id : Nat} {o : Order} (h : s.carries c id o) {es : List Entry}
    (hes : es ≠ []) (act : State → State) :
    s.commitNow c es act = match violated s (s.stored es) es with
      | some n => .refused (Status.interlock.word n) (s.turnedDown c)
      | none => match s.boundaryRefuses es with
        | some w => .refused w (s.turnedDown c)
        | none => .passed (s.committed c es act) := by
  obtain ⟨-, -, -, -, -, h6, h7, h8⟩ := h
  have hes' : es.isEmpty = false := by cases es <;> simp_all
  simp only [State.commitNow, State.committed, h6, h7, h8, hes']
  rfl

theorem State.libCommit_passes {s : State} {c : Core} {id : Nat} {o : Order} (h : s.carries c id o) {es : List Entry}
    (hp : s.passes es) (act : State → State) (reply : State → List Byte) :
    Commits s (s.libCommit c es act reply) c es act reply := by
  by_cases hes : es = []
  · subst hes
    simp [Commits, State.libCommit, State.commitNow, State.committed]
  · simp only [State.libCommit, State.commitNow_carries h hes act, hp.1, hp.2, Commits]

theorem State.libCommit_interlock {s : State} {c : Core} {id : Nat} {o : Order} (h : s.carries c id o) {es : List Entry} {n : Nat}
    (hes : es ≠ []) (hv : violated s (s.stored es) es = some n) (act : State → State) (reply : State → List Byte) :
    s.libCommit c es act reply = (s.turnedDown c).endOrder c (Status.interlock.word n) [] := by
  simp only [State.libCommit, State.commitNow_carries h hes act, hv]

theorem State.libCommit_boundary {s : State} {c : Core} {id : Nat} {o : Order} (h : s.carries c id o) {es : List Entry} {w : Nat}
    (hes : es ≠ []) (hv : violated s (s.stored es) es = none) (hw : s.boundaryRefuses es = some w) (act : State → State)
    (reply : State → List Byte) :
    s.libCommit c es act reply = (s.turnedDown c).endOrder c w [] := by
  simp only [State.libCommit, State.commitNow_carries h hes act, hv, hw]

end Sys2Proof.Machine
end

