-- ==== Sys2Proof/Laws/Memories.lean ====
section
/-! SUPPORT. The operations the families share leave the bytes of the pool and of the Lever's shared
data memory alone. -/

namespace Sys2Proof.Machine

/-- The two memories that State holds as lists of bytes: of the pool, and of the shared data of the Lever. -/
def State.mems (s : State) : Mem × Mem := (s.pool, s.lev.sharedData)
@[simp] theorem mems_mk' (s : State) : (s.pool, s.lev.sharedData) = s.mems := rfl
@[simp] theorem State.modCore_sharedData (s : State) (c : Nat) (f : CoreState → CoreState) :
    (s.modCore c f).lev.sharedData = s.lev.sharedData := rfl
@[simp ↓] theorem mems_ite (c : Prop) [Decidable c] (a b : State) : (if c then a else b).mems = if c then a.mems else b.mems := apply_ite _ _ _ _
@[simp ↓] theorem State.mems_mk (otp : Otp) (strapPins : Straps) (straps : Straps) (ftb : Nat) (obj : Tab Nat) (gen : Tab Nat) (alloc : List Nat) (lev : Lever) (ord : Orders) (boot : Boot) (ledger : Ledger) (sec : Security) (stations : Tab StationState) (lanes : Tab Lane) (ports : Tab PortState) (sw : Switch) (vppbs : Tab VppbState) (vcss : Tab VcsState) (junction : Junction) (coh : Coherence) (tenants : Tab TenantState) (qos : Qos) (slots : Tab SlotState) (power : Power) (errors : Errors) (alarms : List Nat) (pool : Mem) (freeCount : Nat) (outbox : List Msg) (pending : List Instr) :
    (State.mk otp strapPins straps ftb obj gen alloc lev ord boot ledger sec stations lanes ports sw vppbs vcss junction coh tenants qos slots power errors alarms pool freeCount outbox pending).mems = (pool, lev.sharedData) := rfl

theorem foldl_mems {α : Type} {f : State → α → State} (h : ∀ s a, (f s a).mems = s.mems) (l : List α) (s : State) :
    (l.foldl f s).mems = s.mems := by
  induction l generalizing s with
  | nil => rfl
  | cons a l ih => exact (ih _).trans (h s a)
@[simp ↓] theorem foldl_mems' {α : Type} {f : State → α → State} (l : List α) (s : State) (h : ∀ s a, (f s a).mems = s.mems) :
    (l.foldl f s).mems = s.mems := foldl_mems h l s

/-- A command that answers a next state leaves both memories alone. -/
def Result.keepsMem (r : Result) (s : State) : Prop := ∀ t, r = .next t → t.mems = s.mems
@[simp] theorem keepsMem_next (x s : State) : Result.keepsMem (.next x) s ↔ x.mems = s.mems :=
  ⟨fun h => h x rfl, fun h t e => by cases e; exact h⟩
@[simp] theorem keepsMem_refused (x : Refusal) (s : State) : Result.keepsMem (.refused x) s ↔ True := ⟨fun _ => trivial, fun _ t e => by cases e⟩

@[simp ↓] theorem State.modCore_mems (s : State) (c : Nat) (f : CoreState → CoreState) : (State.modCore s c f).mems = s.mems := by
  simp [State.modCore]

@[simp ↓] theorem State.modPort_mems (s : State) (p : Nat) (f : PortState → PortState) : (State.modPort s p f).mems = s.mems := by
  simp [State.modPort]

@[simp ↓] theorem State.modStation_mems (s : State) (n : Nat) (f : StationState → StationState) : (State.modStation s n f).mems = s.mems := by
  simp [State.modStation]

@[simp ↓] theorem State.modLane_mems (s : State) (l : Nat) (f : Lane → Lane) : (State.modLane s l f).mems = s.mems := by
  simp [State.modLane]

@[simp ↓] theorem State.modVppb_mems (s : State) (v : Nat) (b : Nat) (f : VppbState → VppbState) : (State.modVppb s v b f).mems = s.mems := by
  simp [State.modVppb]

@[simp ↓] theorem State.modVcs_mems (s : State) (v : Nat) (f : VcsState → VcsState) : (State.modVcs s v f).mems = s.mems := by
  simp [State.modVcs]

@[simp ↓] theorem State.modTenant_mems (s : State) (t : Nat) (f : TenantState → TenantState) : (State.modTenant s t f).mems = s.mems := by
  simp [State.modTenant]

@[simp ↓] theorem State.modWindow_mems (s : State) (t : Nat) (f : TenantWindow → TenantWindow) : (State.modWindow s t f).mems = s.mems := by
  simp [State.modWindow]

@[simp ↓] theorem State.modSlot_mems (s : State) (n : Nat) (f : SlotState → SlotState) : (State.modSlot s n f).mems = s.mems := by
  simp [State.modSlot]

@[simp ↓] theorem State.drawn_mems (s : State) : (State.drawn s).mems = s.mems := by
  simp [State.drawn]

@[simp ↓] theorem State.put_mems (s : State) (f : Fld) (idx : Nat) (sub : Nat) (v : Nat) : (State.put s f idx sub v).mems = s.mems := by
  simp [State.put]

@[simp ↓] theorem State.unput_mems (s : State) (f : Fld) (idx : Nat) (sub : Nat) : (State.unput s f idx sub).mems = s.mems := by
  simp [State.unput]

@[simp ↓] theorem State.bump_mems (s : State) (cls : Nat) (idx : Nat) (sub : Nat) : (State.bump s cls idx sub).mems = s.mems := by
  simp [State.bump]

@[simp ↓] theorem State.devicePut_mems (s : State) (f : Fld) (idx : Nat) (sub : Nat) (v : Nat) : (State.devicePut s f idx sub v).mems = s.mems := by
  simp [State.devicePut]

@[simp ↓] theorem State.emit_mems (s : State) (m : Msg) : (State.emit s m).mems = s.mems := by
  unfold State.emit
  try dsimp only
  repeat' (first
    | assumption
    | (simp [*]; done)
    | (intro _)
    | split)

@[simp ↓] theorem State.eventMsi_mems (s : State) (t : Nat) : (State.eventMsi s t).mems = s.mems := by
  unfold State.eventMsi
  try dsimp only
  repeat' (first
    | assumption
    | (simp [*]; done)
    | (intro _)
    | split)

@[simp ↓] theorem State.missRaise_mems (s : State) : (State.missRaise s).mems = s.mems := by
  simp [State.missRaise]

@[simp ↓] theorem State.raiseVector_mems (s : State) (n : Nat) (owner : Option Nat) : (State.raiseVector s n owner).mems = s.mems := by
  simp [State.raiseVector]

@[simp ↓] theorem State.raiseT0_mems (s : State) (f : Fld) (idx : Nat) : (State.raiseT0 s f idx).mems = s.mems := by
  simp [State.raiseT0]

@[simp ↓] theorem State.addUnit_mems (s : State) (u : Nat) (i : Nat) (n : Nat) : (State.addUnit s u i n).mems = s.mems := by
  simp [State.addUnit]

@[simp ↓] theorem State.addCounter_mems (s : State) (i : Nat) (n : Nat) : (State.addCounter s i n).mems = s.mems := by
  simp [State.addCounter]

@[simp ↓] theorem State.unitSees_mems (s : State) (u : Nat) (ev : Nat) (n : Nat) (a : EventAttrs) (i : Nat) : (State.unitSees s u ev n a i).mems = s.mems := by
  simp [State.unitSees]

@[simp ↓] theorem State.counterSees_mems (s : State) (ev : Nat) (n : Nat) (a : EventAttrs) (i : Nat) : (State.counterSees s ev n a i).mems = s.mems := by
  simp [State.counterSees]

@[simp ↓] theorem State.count_mems (s : State) (u : Nat) (ev : Nat) (a : EventAttrs) (n : Nat) : (State.count s u ev a n).mems = s.mems := by
  unfold State.count
  try dsimp only
  repeat' (first
    | assumption
    | (simp [*]; done)
    | (intro _)
    | split)

@[simp ↓] theorem State.countPort_mems (s : State) (p : Nat) (ev : Nat) (a : EventAttrs) (n : Nat) : (State.countPort s p ev a n).mems = s.mems := by
  simp [State.countPort]

@[simp ↓] theorem State.tick_mems (s : State) : (State.tick s).mems = s.mems := by
  simp [State.tick]

@[simp ↓] theorem State.logError_mems (s : State) (cls : Nat) (tick : Nat) (count : Nat) (e : ErrorAt) : (State.logError s cls tick count e).mems = s.mems := by
  simp [State.logError]

@[simp ↓] theorem State.window10ms_mems (s : State) (e : ErrorAt) : (State.window10ms s e).mems = s.mems := by
  simp [State.window10ms]

@[simp ↓] theorem State.contain_mems (s : State) (e : ErrorAt) : (State.contain s e).mems = s.mems := by
  simp [State.contain]

@[simp ↓] theorem State.writeLoss_mems (s : State) (port : Nat) (addr : Nat) (tenant : Nat) (cause : Nat) : (State.writeLoss s port addr tenant cause).mems = s.mems := by
  simp [State.writeLoss]

@[simp ↓] theorem State.corrected_mems (s : State) (e : ErrorAt) : (State.corrected s e).mems = s.mems := by
  simp [State.corrected]

@[simp ↓] theorem State.logSecurity_mems (s : State) (r : SecurityRecord) : (State.logSecurity s r).mems = s.mems := by
  simp [State.logSecurity]

@[simp ↓] theorem State.modControl_mems (s : State) (f : Ledger → Ledger) : (State.modControl s f).mems = s.mems := by
  simp [State.modControl]

@[simp ↓] theorem State.mailboxAnswer_mems (s : State) (ret : Nat) (status : Nat) (resp : List Byte) : (State.mailboxAnswer s ret status resp).mems = s.mems := by
  simp [State.mailboxAnswer]

@[simp ↓] theorem State.windowAnswer_mems (s : State) (t : Nat) (tag : Nat) (status : Nat) (header : List Byte) (data : List Byte) : (State.windowAnswer s t tag status header data).mems = s.mems := by
  simp [State.windowAnswer]

@[simp ↓] theorem State.waysideSend_mems (s : State) (dst : Nat) (type : Nat) (payload : List Byte) : (State.waysideSend s dst type payload).mems = s.mems := by
  simp [State.waysideSend]

@[simp ↓] theorem State.deliver_mems (s : State) (o : Order) (status : Nat) (ticks : Nat) (queued : Nat) (data : List Byte) : (State.deliver s o status ticks queued data).mems = s.mems := by
  unfold State.deliver
  try dsimp only
  repeat' (first
    | assumption
    | (simp [*]; done)
    | (intro _)
    | split)

@[simp ↓] theorem State.commitRefused_mems (s : State) (c : Nat) : (State.commitRefused s c).mems = s.mems := by
  simp [State.commitRefused]

@[simp ↓] theorem State.refuseOrder_mems (s : State) (o : Order) (st : Status) : (State.refuseOrder s o st).mems = s.mems := by
  simp [State.refuseOrder]

@[simp ↓] theorem State.leaveCommit_mems (s : State) (c : Nat) : (State.leaveCommit s c).mems = s.mems := by
  simp [State.leaveCommit]

@[simp ↓] theorem State.unfreeze_mems (s : State) (o : Order) : (State.unfreeze s o).mems = s.mems := by
  unfold State.unfreeze
  try dsimp only
  repeat' (first
    | assumption
    | simp [*]
    | (intro _)
    | split)

@[simp ↓] theorem State.endQueued_mems (s : State) (o : Order) (st : Status) : (State.endQueued s o st).mems = s.mems := by
  simp [State.endQueued]

@[simp ↓] theorem State.endOrder_mems (s : State) (c : Nat) (status : Nat) (data : List Byte) : (State.endOrder s c status data).mems = s.mems := by
  unfold State.endOrder
  try dsimp only
  repeat' (first
    | assumption
    | simp [*]
    | (intro _)
    | split)

@[simp ↓] theorem State.restartResident_mems (s : State) (c : Nat) : (State.restartResident s c).mems = s.mems := by
  simp [State.restartResident]

@[simp ↓] theorem State.haltResident_mems (s : State) (c : Nat) : (State.haltResident s c).mems = s.mems := by
  simp [State.haltResident]

@[simp ↓] theorem State.leverFault_mems (s : State) (c : Nat) (f : LeverFault) (word : BitVec 32) : (State.leverFault s c f word).mems = s.mems := by
  simp [State.leverFault]

@[simp ↓] theorem State.leverReset_mems (s : State) : (State.leverReset s).mems = s.mems := by
  simp [State.leverReset]

@[simp ↓] theorem State.askLeverReset_mems (s : State) : (State.askLeverReset s).mems = s.mems := by
  simp [State.askLeverReset]

@[simp ↓] theorem State.leverMemErr_mems (s : State) (c : Nat) (a : Nat) (word : BitVec 32) : (State.leverMemErr s c a word).mems = s.mems := by
  simp [State.leverMemErr]

@[simp ↓] theorem State.leverRepair_mems (s : State) (c : Nat) (a : Nat) (n : Nat) : (State.leverRepair s c a n).mems = s.mems := by
  simp [State.leverRepair]

@[simp ↓] theorem State.retire_mems (s : State) (c : Nat) (f : CoreState → CoreState) : (State.retire s c f).mems = s.mems := by
  simp [State.retire]

@[simp ↓] theorem State.leverRun_mems (s : State) (c : Nat) (word : BitVec 32) (body : State → State) (hbody : ∀ b0, (body b0).mems = b0.mems) : (State.leverRun s c word body).mems = s.mems := by
  unfold State.leverRun
  try dsimp only
  repeat' (first
    | assumption
    | simp [*])

@[simp ↓] theorem State.leverEncoded_mems (s : State) (c : Nat) (word : BitVec 32) (zero : Bool) (body : State → State) (hbody : ∀ b0, (body b0).mems = b0.mems) : (State.leverEncoded s c word zero body).mems = s.mems := by
  unfold State.leverEncoded
  try dsimp only
  repeat' (first
    | assumption
    | simp [*])

@[simp ↓] theorem State.aluRRR_mems (s : State) (c : Core) (o : RRR) (fn : Nat) (f : Word → Word → Word) : (State.aluRRR s c o fn f).mems = s.mems := by
  simp [State.aluRRR]

@[simp ↓] theorem State.aluImm_mems (s : State) (c : Core) (o : IOp) (op : Nat) (legal : Bool) (f : CoreState → Word) : (State.aluImm s c o op legal f).mems = s.mems := by
  simp [State.aluImm]

@[simp ↓] theorem State.load_mems (s : State) (c : Core) (o : IOp) (op : Nat) (size : Nat) : (State.load s c o op size).mems = s.mems := by
  simp [State.load]

@[simp ↓] theorem State.branch_mems (s : State) (c : Core) (o : BOp) (op : Nat) (cond : Word → Word → Bool) : (State.branch s c o op cond).mems = s.mems := by
  simp [State.branch]

@[simp ↓] theorem State.sys_mems (s : State) (c : Core) (o : SOp) (sysfn : Nat) (usesRd : Bool) (usesRa : Bool) (body : State → State) (hbody : ∀ b0, (body b0).mems = b0.mems) : (State.sys s c o sysfn usesRd usesRa body).mems = s.mems := by
  unfold State.sys
  try dsimp only
  repeat' (first
    | assumption
    | simp [*])

@[simp ↓] theorem State.uspReport_mems (s : State) (v : Nat) (fatal : Bool) (status : Nat) : (State.uspReport s v fatal status).mems = s.mems := by
  unfold State.uspReport
  try dsimp only
  repeat' (first
    | assumption
    | simp [*]
    | (intro _)
    | split)

@[simp ↓] theorem State.reportInternal_mems (s : State) (p : Nat) : (State.reportInternal s p).mems = s.mems := by
  unfold State.reportInternal
  try dsimp only
  repeat' (first
    | assumption
    | simp [*]
    | (intro _)
    | split)

@[simp ↓] theorem State.countLost_mems (s : State) : (State.countLost s).mems = s.mems := by
  simp [State.countLost]

@[simp ↓] theorem State.answerDiscarded_mems (s : State) (unrouted : Bool) (frm : Nat) (to_ : Nat) (tag : Nat) (ldid : Nat) (kind : FrameKind) (vppb : Option (Nat × Nat)) (addr : Nat) (tenant : Nat) : (State.answerDiscarded s unrouted frm to_ tag ldid kind vppb addr tenant).mems = s.mems := by
  unfold State.answerDiscarded
  try dsimp only
  repeat' (first
    | assumption
    | (simp [*]; done)
    | (intro _)
    | split)

@[simp ↓] theorem State.assumeAllDirty_mems (s : State) (t : Nat) : (State.assumeAllDirty s t).mems = s.mems := by
  simp [State.assumeAllDirty]

@[simp ↓] theorem State.logRecord_mems (s : State) (t : Nat) (body : Nat) : (State.logRecord s t body).mems = s.mems := by
  simp [State.logRecord]

@[simp ↓] theorem State.evictBitmap_mems (s : State) : (State.evictBitmap s).mems = s.mems := by
  simp [State.evictBitmap]

@[simp ↓] theorem State.gleanerMark_mems (s : State) (t : Nat) (addr : Nat) : (State.gleanerMark s t addr).mems = s.mems := by
  unfold State.gleanerMark
  try dsimp only
  repeat' (first
    | assumption
    | (simp [*]; done)
    | (intro _)
    | split)

@[simp ↓] theorem State.beginPass_mems (s : State) (t : Nat) (pass : Nat) : (State.beginPass s t pass).mems = s.mems := by
  simp [State.beginPass]

@[simp ↓] theorem State.modCoh_mems (s : State) (f : Coherence → Coherence) : (State.modCoh s f).mems = s.mems := by
  simp [State.modCoh]

@[simp ↓] theorem State.setLock_mems (s : State) (line : Nat) (x : Transaction) : (State.setLock s line x).mems = s.mems := by
  simp [State.setLock]

@[simp ↓] theorem State.setEntry_mems (s : State) (line : Nat) (e : DirEntry) : (State.setEntry s line e).mems = s.mems := by
  simp [State.setEntry]

@[simp ↓] theorem State.countLine_mems (s : State) (line : Nat) (ev : Nat) (tenant : Option Nat) (n : Nat) : (State.countLine s line ev tenant n).mems = s.mems := by
  simp [State.countLine]

@[simp ↓] theorem State.modAgent_mems (s : State) (a : Nat) (f : AgentState → AgentState) : (State.modAgent s a f).mems = s.mems := by
  simp [State.modAgent]

@[simp ↓] theorem State.loftPut_mems (s : State) (line : Nat) (l : LoftLine) : (State.loftPut s line l).mems = s.mems := by
  simp [State.loftPut]

@[simp ↓] theorem State.loftDrop_mems (s : State) (line : Nat) : (State.loftDrop s line).mems = s.mems := by
  simp [State.loftDrop]

@[simp ↓] theorem State.loftStore_mems (s : State) (line : Nat) (data : LineData) (poison : Bool) (remote : Bool) (tenant : Nat) (home : Option Nat) : (State.loftStore s line data poison remote tenant home).mems = s.mems := by
  simp [State.loftStore]

@[simp ↓] theorem State.sendBypass_mems (s : State) (p : Nat) (type : Nat) (pool : Nat) (body : List Byte) : (State.sendBypass s p type pool body).mems = s.mems := by
  simp [State.sendBypass]

theorem State.takeArrived_nextMem {s t : State} {p type : Nat} {ok : List Byte → Bool} {b : List Byte}
    (h : s.takeArrived p type ok = some (b, t)) : t.mems = s.mems := by
  obtain ⟨e, _, h⟩ := Option.map_eq_some_iff.1 h
  cases h
  simp
@[simp ↓] theorem State.onMessage_mems (s : State) (p : Nat) (type : Nat) (body : List Byte) (act : State → State) (hact : ∀ b0, (act b0).mems = b0.mems) : (State.onMessage s p type body act).mems = s.mems := by
  unfold State.onMessage
  split
  · exact (hact _).trans (State.takeArrived_nextMem ‹_›)
  · rfl

@[simp ↓] theorem State.sendPeer_mems (s : State) (p : Nat) (type : Nat) (txn : Nat) (line : Nat) (op : Nat) (tenant : Nat) (attr : Nat) (data : Option LineData) (offset : Nat) (operand : Nat) (compare : Nat) : (State.sendPeer s p type txn line op tenant attr data offset operand compare).mems = s.mems := by
  simp [State.sendPeer]

@[simp ↓] theorem State.takeTxn_mems (s : State) : (State.takeTxn s).mems = s.mems := by
  simp [State.takeTxn]

@[simp ↓] theorem State.appendDead_mems (s : State) (line : Nat) (agent : Nat) (reason : Nat) (tenant : Nat) (tick : Nat) (action : Nat) : (State.appendDead s line agent reason tenant tick action).mems = s.mems := by
  simp [State.appendDead]

@[simp ↓] theorem State.holdLine_mems (s : State) (line : Nat) : (State.holdLine s line).mems = s.mems := by
  unfold State.holdLine
  try dsimp only
  repeat' (first
    | assumption
    | simp [*]
    | (intro _)
    | split)

@[simp ↓] theorem State.memAsk_mems (s : State) (a : MemAsk) (m : Msg) : (State.memAsk s a m).mems = s.mems := by
  simp [State.memAsk]

@[simp ↓] theorem State.memDone_mems (s : State) (line : Nat) (write : Bool) : (State.memDone s line write).mems = s.mems := by
  unfold State.memDone
  try dsimp only
  repeat' (first
    | assumption
    | (simp [*]; done)
    | (intro _)
    | split)

@[simp ↓] theorem State.memWriteEnd_mems (s : State) (line : Nat) (ok : Bool) : (State.memWriteEnd s line ok).mems = s.mems := by
  unfold State.memWriteEnd
  try dsimp only
  repeat' (first
    | assumption
    | (simp [*]; done)
    | (intro _)
    | split)

@[simp ↓] theorem State.memWrite_mems (s : State) (line : Nat) (home : Option Nat) (data : LineData) (poison : Bool) (w : MemWrite) (mask : BitVec 64) : (State.memWrite s line home data poison w mask).mems = s.mems := by
  unfold State.memWrite
  try dsimp only
  repeat' (first
    | assumption
    | (simp [*]; done)
    | (intro _)
    | split)

@[simp ↓] theorem State.give_mems (s : State) (line : Nat) (r : SliceRequest) (state : Nat) (data : Option LineData) (poison : Bool) (devLoad : Nat) : (State.give s line r state data poison devLoad).mems = s.mems := by
  unfold State.give
  try dsimp only
  repeat' (first
    | assumption
    | (simp [*]; done)
    | (intro _)
    | split)

@[simp ↓] theorem State.owed_mems (s : State) (r : SliceRequest) (answer : State → State) (hanswer : ∀ b0, (answer b0).mems = b0.mems) : (State.owed s r answer).mems = s.mems := by
  unfold State.owed
  try dsimp only
  repeat' (first
    | assumption
    | simp [*])

@[simp ↓] theorem State.grant_mems (s : State) (line : Nat) (r : SliceRequest) (state : Nat) (data : Option LineData) (poison : Bool) (devLoad : Nat) : (State.grant s line r state data poison devLoad).mems = s.mems := by
  unfold State.grant
  try dsimp only
  repeat' (first
    | assumption
    | simp [*])

@[simp ↓] theorem State.ack_mems (s : State) (line : Nat) (r : SliceRequest) : (State.ack s line r).mems = s.mems := by
  unfold State.ack
  try dsimp only
  repeat' (first
    | assumption
    | simp [*]
    | (intro _)
    | split)

@[simp ↓] theorem State.noteEvicted_mems (s : State) (a : Option Nat) (line : Nat) : (State.noteEvicted s a line).mems = s.mems := by
  unfold State.noteEvicted
  try dsimp only
  repeat' (first
    | assumption
    | (simp [*]; done)
    | (intro _)
    | split)

@[simp ↓] theorem State.ackRelease_mems (s : State) (line : Nat) (r : SliceRequest) : (State.ackRelease s line r).mems = s.mems := by
  simp [State.ackRelease]

@[simp ↓] theorem State.atomicAnswer_mems (s : State) (line : Nat) (r : SliceRequest) (old : Nat) (poison : Bool) : (State.atomicAnswer s line r old poison).mems = s.mems := by
  unfold State.atomicAnswer
  try dsimp only
  repeat' (first
    | assumption
    | simp [*]
    | (intro _)
    | split)

@[simp ↓] theorem State.refuseRequest_mems (s : State) (line : Nat) (r : SliceRequest) : (State.refuseRequest s line r).mems = s.mems := by
  unfold State.refuseRequest
  try dsimp only
  repeat' (first
    | assumption
    | (simp [*]; done)
    | (intro _)
    | split)

@[simp ↓] theorem State.learnAtomic_mems (s : State) (line : Nat) (r : SliceRequest) (holders : Bool) : (State.learnAtomic s line r holders).mems = s.mems := by
  simp [State.learnAtomic]

@[simp ↓] theorem State.sendSnoop_mems (s : State) (line : Nat) (kind : Nat) (a : Nat) : (State.sendSnoop s line kind a).mems = s.mems := by
  simp [State.sendSnoop]

@[simp ↓] theorem State.sendSnoops_mems (s : State) (line : Nat) (kind : Nat) (agents : List Nat) (coarse : Bool) : (State.sendSnoops s line kind agents coarse).mems = s.mems := by
  simp [State.sendSnoops]

@[simp ↓] theorem State.reclaimEntry_mems (s : State) (line : Nat) (a : Nat) : (State.reclaimEntry s line a).mems = s.mems := by
  unfold State.reclaimEntry
  try dsimp only
  repeat' (first
    | assumption
    | (simp [*]; done)
    | (intro _)
    | split)

@[simp ↓] theorem State.reclaimTouched_mems (s : State) (line : Nat) : (State.reclaimTouched s line).mems = s.mems := by
  simp [State.reclaimTouched]

@[simp ↓] theorem State.prefetch_mems (s : State) (line : Nat) (p : Nat) (tenant : Nat) : (State.prefetch s line p tenant).mems = s.mems := by
  unfold State.prefetch
  split
  · refine foldl_mems (fun s a => ?_) _ _
    split <;> simp
  · rfl

@[simp ↓] theorem State.fetchLine_mems (s : State) (line : Nat) (r : SliceRequest) (x : Transaction) (noPeer : Bool) : (State.fetchLine s line r x noPeer).1.mems = s.mems := by
  unfold State.fetchLine
  try dsimp only
  repeat' (first
    | assumption
    | (simp [*]; done)
    | (intro _)
    | split)

@[simp ↓] theorem State.unlock_mems (s : State) (line : Nat) (x : Transaction) : (State.unlock s line x).mems = s.mems := by
  unfold State.unlock
  try dsimp only
  repeat' (first
    | assumption
    | (simp [*]; done)
    | (intro _)
    | split)

@[simp ↓] theorem State.takeWayFuel_mems (a0 : Nat) (a1 : State) (a2 : Nat) : (State.takeWayFuel a0 a1 a2).1.mems = a1.mems := by
  induction a0 generalizing a1 with
  | zero => rfl
  | succ k ih =>
    unfold State.takeWayFuel
    dsimp only
    repeat' split
    all_goals simp [ih]

@[simp ↓] theorem State.takeWay_mems (s : State) (line : Nat) : (State.takeWay s line).1.mems = s.mems := by
  unfold State.takeWay
  try dsimp only
  repeat' (first
    | assumption
    | simp [*])

@[simp ↓] theorem State.concludeRequest_mems (s : State) (line : Nat) (x : Transaction) (r : SliceRequest) (cached : Bool) : (State.concludeRequest s line x r cached).mems = s.mems := by
  unfold State.concludeRequest
  try dsimp only
  repeat' (first
    | assumption
    | (simp [*]; done)
    | (intro _)
    | split)

@[simp ↓] theorem State.completeRequest_mems (s : State) (line : Nat) (x : Transaction) (r : SliceRequest) (cached : Bool) : (State.completeRequest s line x r cached).mems = s.mems := by
  unfold State.completeRequest
  try dsimp only
  repeat' (first
    | assumption
    | (simp [*]; done)
    | (intro _)
    | split
    | (refine (foldl_mems ?_ _ _).trans ?_)
    | (refine ((congrArg (fun z => State.mems z.1) ‹_ = (_, _)›).symm.trans ?_))
    | simp)

@[simp ↓] theorem State.farAtomic_mems (s : State) (line : Nat) (x : Transaction) (r : SliceRequest) (o : AtomicOp) : (State.farAtomic s line x r o).mems = s.mems := by
  unfold State.farAtomic
  try dsimp only
  repeat' (first
    | assumption
    | (simp [*]; done)
    | (intro _)
    | split)

@[simp ↓] theorem State.remoteAct_mems (s : State) (line : Nat) (p : Nat) (x : Transaction) (r : SliceRequest) : (State.remoteAct s line p x r).mems = s.mems := by
  unfold State.remoteAct
  try dsimp only
  repeat' (first
    | assumption
    | (simp [*]; done)
    | (intro _)
    | split)

@[simp ↓] theorem State.advanceRequest_mems (s : State) (line : Nat) (x : Transaction) (r : SliceRequest) : (State.advanceRequest s line x r).mems = s.mems := by
  unfold State.advanceRequest
  try dsimp only
  repeat' (first
    | assumption
    | (simp [*]; done)
    | (intro _)
    | split)

@[simp ↓] theorem State.openRequest_mems (s : State) (line : Nat) (r : SliceRequest) (queue : List SliceRequest) : (State.openRequest s line r queue).mems = s.mems := by
  unfold State.openRequest
  try dsimp only
  repeat' (first
    | assumption
    | (simp [*]; done)
    | (intro _)
    | split)

@[simp ↓] theorem State.recallLine_mems (s : State) (line : Nat) (work : Work) (queue : List SliceRequest) (agents : List Nat) : (State.recallLine s line work queue agents).mems = s.mems := by
  simp [State.recallLine]

@[simp ↓] theorem State.untrack_mems (s : State) (line : Nat) (tenant : Nat) (home : Option Nat) : (State.untrack s line tenant home).mems = s.mems := by
  simp [State.untrack]

@[simp ↓] theorem State.recoverDir_mems (s : State) (line : Nat) (r : SliceRequest) (queue : List SliceRequest) : (State.recoverDir s line r queue).mems = s.mems := by
  simp [State.recoverDir]

@[simp ↓] theorem State.beginRequest_mems (s : State) (line : Nat) (r : SliceRequest) (queue : List SliceRequest) : (State.beginRequest s line r queue).mems = s.mems := by
  unfold State.beginRequest
  try dsimp only
  repeat' (first
    | assumption
    | (simp [*]; done)
    | (intro _)
    | split)

@[simp ↓] theorem State.direct_mems (s : State) (line : Nat) (r : SliceRequest) : (State.direct s line r).mems = s.mems := by
  unfold State.direct
  try dsimp only
  repeat' (first
    | assumption
    | (simp [*]; done)
    | (intro _)
    | split)

@[simp ↓] theorem State.arriveRequest_mems (s : State) (line : Nat) (r : SliceRequest) : (State.arriveRequest s line r).mems = s.mems := by
  unfold State.arriveRequest
  try dsimp only
  repeat' (first
    | assumption
    | (simp [*]; done)
    | (intro _)
    | split)

@[simp ↓] theorem State.handOff_mems (s : State) (line : Nat) : (State.handOff s line).mems = s.mems := by
  unfold State.handOff
  try dsimp only
  repeat' (first
    | assumption
    | (simp [*]; done)
    | (intro _)
    | split)

@[simp ↓] theorem State.recallDone_mems (s : State) (line : Nat) (x : Transaction) (waiter : Option Nat) : (State.recallDone s line x waiter).mems = s.mems := by
  unfold State.recallDone
  try dsimp only
  repeat' (first
    | assumption
    | (simp [*]; done)
    | (intro _)
    | split
    | (refine (foldl_mems ?_ _ _).trans ?_)
    | (refine ((congrArg (fun z => State.mems z.1) ‹_ = (_, _)›).symm.trans ?_))
    | simp)

@[simp ↓] theorem State.answerHome_mems (s : State) (line : Nat) (x : Transaction) (p : Nat) (txn : Nat) (op : Nat) : (State.answerHome s line x p txn op).mems = s.mems := by
  unfold State.answerHome
  try dsimp only
  repeat' (first
    | assumption
    | (simp [*]; done)
    | (intro _)
    | split)

@[simp ↓] theorem State.readEnds_mems (s : State) (line : Nat) (data : Option (LineData × Bool)) (devLoad : Nat) : (State.readEnds s line data devLoad).mems = s.mems := by
  unfold State.readEnds
  try dsimp only
  repeat' (first
    | assumption
    | (simp [*]; done)
    | (intro _)
    | split)

@[simp ↓] theorem State.homeAnswers_mems (s : State) (line : Nat) (x : Transaction) (r : SliceRequest) (op : Nat) (old : Nat) (data : Option (LineData × Bool)) : (State.homeAnswers s line x r op old data).mems = s.mems := by
  unfold State.homeAnswers
  try dsimp only
  repeat' (first
    | assumption
    | (simp [*]; done)
    | (intro _)
    | split)

@[simp ↓] theorem State.resumeAside_mems (s : State) (line : Nat) : (State.resumeAside s line).mems = s.mems := by
  unfold State.resumeAside
  try dsimp only
  repeat' (first
    | assumption
    | (simp [*]; done)
    | (intro _)
    | split)

@[simp ↓] theorem State.advance_mems (s : State) (line : Nat) : (State.advance s line).mems = s.mems := by
  unfold State.advance
  try dsimp only
  repeat' (first
    | assumption
    | (simp [*]; done)
    | (intro _)
    | split)

@[simp ↓] theorem State.snoopAnswered_mems (s : State) (line : Nat) (a : Nat) (kept : Bool) (data : Option (LineData × Bool)) : (State.snoopAnswered s line a kept data).mems = s.mems := by
  unfold State.snoopAnswered
  try dsimp only
  repeat' (first
    | assumption
    | (simp [*]; done)
    | (intro _)
    | split)

@[simp ↓] theorem State.discardRequests_mems (s : State) (a : Nat) : (State.discardRequests s a).mems = s.mems := by
  simp [State.discardRequests]

@[simp ↓] theorem State.agentDies_mems (s : State) (a : Nat) (reason : Nat) : (State.agentDies s a reason).mems = s.mems := by
  simp [State.agentDies]

@[simp ↓] theorem State.agentWakes_mems (s : State) (a : Nat) : (State.agentWakes s a).mems = s.mems := by
  simp [State.agentWakes]

@[simp ↓] theorem State.scanEnds_mems (s : State) (a : Nat) : (State.scanEnds s a).mems = s.mems := by
  unfold State.scanEnds
  try dsimp only
  repeat' (first
    | assumption
    | (simp [*]; done)
    | (intro _)
    | split)

@[simp ↓] theorem State.storeWb_mems (s : State) (line : Nat) (r : SliceRequest) : (State.storeWb s line r).mems = s.mems := by
  unfold State.storeWb
  try dsimp only
  repeat' (first
    | assumption
    | simp [*]
    | (intro _)
    | split)

@[simp ↓] theorem State.release_mems (s : State) (line : Nat) (r : SliceRequest) : (State.release s line r).mems = s.mems := by
  unfold State.release
  try dsimp only
  repeat' (first
    | assumption
    | (simp [*]; done)
    | (intro _)
    | split)

@[simp ↓] theorem State.sampleNear_mems (s : State) (line : Nat) (p : Nat) (ticks : Nat) : (State.sampleNear s line p ticks).mems = s.mems := by
  simp [State.sampleNear]

@[simp ↓] theorem State.noteDevLoad_mems (s : State) (p : Nat) (level : Nat) : (State.noteDevLoad s p level).mems = s.mems := by
  simp [State.noteDevLoad]

@[simp ↓] theorem State.resumeAfterWrite_mems (s : State) (line : Nat) : (State.resumeAfterWrite s line).mems = s.mems := by
  unfold State.resumeAfterWrite
  try dsimp only
  repeat' (first
    | assumption
    | (simp [*]; done)
    | (intro _)
    | split
    | (refine (foldl_mems ?_ _ _).trans ?_)
    | (refine ((congrArg (fun z => State.mems z.1) ‹_ = (_, _)›).symm.trans ?_))
    | simp)

@[simp ↓] theorem State.flushTenant_mems (s : State) (t : Nat) : (State.flushTenant s t).mems = s.mems := by
  simp [State.flushTenant]

@[simp ↓] theorem State.writeBack_mems (s : State) (sel : LoftLine → Bool) : (State.writeBack s sel).mems = s.mems := by
  simp [State.writeBack]

@[simp ↓] theorem State.loseHeld_mems (s : State) : (State.loseHeld s).mems = s.mems := by
  simp [State.loseHeld]

@[simp ↓] theorem State.failReads_mems (s : State) (p : Nat) : (State.failReads s p).mems = s.mems := by
  unfold State.failReads
  try dsimp only
  repeat' (first
    | assumption
    | (simp [*]; done)
    | (intro _)
    | split
    | (refine (foldl_mems ?_ _ _).trans ?_))

@[simp ↓] theorem State.failWrites_mems (s : State) (p : Nat) : (State.failWrites s p).mems = s.mems := by
  unfold State.failWrites
  try dsimp only
  repeat' (first
    | assumption
    | simp [*]
    | (intro _)
    | split
    | (refine (foldl_mems ?_ _ _).trans ?_))

@[simp ↓] theorem State.writeHeld_mems (s : State) (p : Nat) : (State.writeHeld s p).mems = s.mems := by
  simp [State.writeHeld]

@[simp ↓] theorem State.modSw_mems (s : State) (f : Switch → Switch) : (State.modSw s f).mems = s.mems := by
  simp [State.modSw]

@[simp ↓] theorem State.modFrame_mems (s : State) (n : Nat) (f : Frame → Frame) : (State.modFrame s n f).mems = s.mems := by
  simp [State.modFrame]

@[simp ↓] theorem State.sagAllowance_mems (s : State) : (State.sagAllowance s).mems = s.mems := by
  simp [State.sagAllowance]

@[simp ↓] theorem State.grantCredit_mems (s : State) (p : Nat) : (State.grantCredit s p).mems = s.mems := by
  simp [State.grantCredit]

@[simp ↓] theorem State.spendCredit_mems (s : State) (p : Nat) (c : Nat) (w : Nat) : (State.spendCredit s p c w).mems = s.mems := by
  simp [State.spendCredit]

@[simp ↓] theorem State.giveCredit_mems (s : State) (p : Nat) (c : Nat) (w : Nat) : (State.giveCredit s p c w).mems = s.mems := by
  simp [State.giveCredit]

@[simp ↓] theorem State.releaseCredit_mems (s : State) (p : Nat) (c : Nat) (w : Nat) : (State.releaseCredit s p c w).mems = s.mems := by
  simp [State.releaseCredit]

@[simp ↓] theorem State.freeCredit_mems (s : State) (kind : FrameKind) (p : Nat) (c : Nat) (w : Nat) : (State.freeCredit s kind p c w).mems = s.mems := by
  unfold State.freeCredit
  try dsimp only
  repeat' (first
    | assumption
    | simp [*]
    | (intro _)
    | split)

@[simp ↓] theorem State.removeFrame_mems (s : State) (n : Nat) : (State.removeFrame s n).mems = s.mems := by
  unfold State.removeFrame
  try dsimp only
  repeat' (first
    | assumption
    | (simp [*]; done)
    | (intro _)
    | split)

@[simp ↓] theorem State.discardFrame_mems (s : State) (n : Nat) (answer : Bool) : (State.discardFrame s n answer).mems = s.mems := by
  unfold State.discardFrame
  try dsimp only
  repeat' (first
    | assumption
    | (simp [*]; done)
    | (intro _)
    | split)

@[simp ↓] theorem State.countDropped_mems (s : State) (f : Frame) : (State.countDropped s f).mems = s.mems := by
  simp [State.countDropped]

@[simp ↓] theorem State.pushOut_mems (s : State) (below : Nat) (need : Nat) (a3 : Nat) : (State.pushOut s below need a3).mems = s.mems := by
  fun_induction State.pushOut s below need a3 <;> simp_all

theorem State.makeRoom_mems {s t : State} {below need : Nat} (h : s.makeRoom below need = some t) : t.mems = s.mems := by
  unfold State.makeRoom at h
  dsimp only at h
  split at h
  · cases h; simp
  · cases h
@[simp ↓] theorem State.takeLoans_mems (s : State) (p : Nat) (a2 : Nat) : (State.takeLoans s p a2).mems = s.mems := by
  induction a2 generalizing s with
  | zero => rfl
  | succ k ih =>
    unfold State.takeLoans
    repeat' split
    · rename_i h
      simp [ih, State.makeRoom_mems h]
    · simp
    · rfl

@[simp ↓] theorem State.lendAll_mems (s : State) : (State.lendAll s).mems = s.mems := by
  simp [State.lendAll]

@[simp ↓] theorem State.overdraw_mems (s : State) (f : Frame) : (State.overdraw s f).mems = s.mems := by
  simp [State.overdraw]

@[simp ↓] theorem State.toSpread_mems (s : State) (n : Nat) : (State.toSpread s n).mems = s.mems := by
  unfold State.toSpread
  try dsimp only
  repeat' (first
    | assumption
    | simp [*]
    | (intro _)
    | split)

theorem State.charge_mems {s t : State} {f : Frame} {n : Nat} (h : s.charge f = some (t, n)) : t.mems = s.mems := by
  unfold State.charge at h
  dsimp only at h
  repeat' split at h
  all_goals first
    | (cases h; done)
    | (cases h; rfl)
    | (cases h; simp)
    | (obtain ⟨x, hx, e⟩ := Option.map_eq_some_iff.1 h; cases e; exact State.makeRoom_mems hx)
@[simp ↓] theorem State.takeIn_mems (s : State) (f : Frame) (admission : Bool) : (State.takeIn s f admission).mems = s.mems := by
  unfold State.takeIn
  split
  · simp
  · rename_i s1 acct h
    have e := State.charge_mems h
    dsimp only
    split <;> simp [e]

@[simp ↓] theorem State.spreadWagon_mems (s : State) (i : Nat) (j : Nat) (w : Wagon) : (State.spreadWagon s i j w).mems = s.mems := by
  unfold State.spreadWagon
  try dsimp only
  repeat' (first
    | assumption
    | simp [*]
    | (intro _)
    | split)

@[simp ↓] theorem State.spreadQueued_mems (s : State) (i : Nat) (j : Nat) (a3 : Nat) : (State.spreadQueued s i j a3).1.mems = s.mems := by
  fun_induction State.spreadQueued s i j a3 <;> simp_all

@[simp ↓] theorem State.startSprayed_mems (s : State) (i : Nat) (j : Nat) (a3 : Nat) : (State.startSprayed s i j a3).mems = s.mems := by
  induction a3 generalizing s with
  | zero => rfl
  | succ k ih =>
    unfold State.startSprayed
    dsimp only
    repeat' split
    all_goals simp [ih]

@[simp ↓] theorem State.spreadFrom_mems (s : State) (k : Nat) (i : Nat) : (State.spreadFrom s k i).mems = s.mems := by
  simp [State.spreadFrom]

@[simp ↓] theorem State.abortFrame_mems (s : State) (n : Nat) (f : Frame) : (State.abortFrame s n f).mems = s.mems := by
  simp [State.abortFrame]

@[simp ↓] theorem State.toRing_mems (s : State) (f : Frame) : (State.toRing s f).mems = s.mems := by
  simp [State.toRing]

@[simp ↓] theorem State.frameWhole_mems (s : State) (n : Nat) (f : Frame) : (State.frameWhole s n f).mems = s.mems := by
  simp [State.frameWhole]

@[simp ↓] theorem State.deliverWagon_mems (s : State) (w : Wagon) : (State.deliverWagon s w).mems = s.mems := by
  unfold State.deliverWagon
  try dsimp only
  repeat' (first
    | assumption
    | simp [*]
    | (intro _)
    | split)

@[simp ↓] theorem State.badTag_mems (s : State) (j : Nat) (st : Nat) (q : List Wagon) : (State.badTag s j st q).1.mems = s.mems := by
  unfold State.badTag
  try dsimp only
  repeat' (first
    | assumption
    | (simp [*]; done)
    | (intro _)
    | split
    | (refine (foldl_mems ?_ _ _).trans ?_)
    | (refine ((congrArg (fun z => State.mems z.1) ‹_ = (_, _)›).symm.trans ?_))
    | simp)

@[simp ↓] theorem State.deliverFrom_mems (s : State) (k : Nat) (j : Nat) : (State.deliverFrom s k j).mems = s.mems := by
  unfold State.deliverFrom
  try dsimp only
  repeat' (first
    | assumption
    | (simp [*]; done)
    | (intro _)
    | split)

@[simp ↓] theorem State.flushFrame_mems (s : State) (p : Nat) (n : Nat) : (State.flushFrame s p n).mems = s.mems := by
  unfold State.flushFrame
  try dsimp only
  repeat' (first
    | assumption
    | (simp [*]; done)
    | (intro _)
    | split)

@[simp ↓] theorem State.answerOpens_mems (s : State) (p : Nat) : (State.answerOpens s p).mems = s.mems := by
  simp [State.answerOpens]

@[simp ↓] theorem State.flushPort_mems (s : State) (p : Nat) : (State.flushPort s p).mems = s.mems := by
  simp [State.flushPort]

@[simp ↓] theorem State.round_mems (s : State) : (State.round s).mems = s.mems := by
  simp [State.round]

@[simp ↓] theorem State.mirror_mems (s : State) (p : Nat) (dir : Nat) (f : FrameIn) (len : Nat) (tenant : Nat) : (State.mirror s p dir f len tenant).mems = s.mems := by
  simp [State.mirror]

@[simp ↓] theorem State.modQos_mems (s : State) (f : Qos → Qos) : (State.modQos s f).mems = s.mems := by
  simp [State.modQos]

@[simp ↓] theorem State.emptyShapers_mems (s : State) : (State.emptyShapers s).mems = s.mems := by
  simp [State.emptyShapers]

@[simp ↓] theorem State.chargeTenant_mems (s : State) (t : Nat) (n : Nat) : (State.chargeTenant s t n).mems = s.mems := by
  simp [State.chargeTenant]

@[simp ↓] theorem State.chargeClass_mems (s : State) (p : Nat) (c : Nat) (n : Nat) : (State.chargeClass s p c n).mems = s.mems := by
  simp [State.chargeClass]

@[simp ↓] theorem State.modTimetable_mems (s : State) (p : Nat) (f : TimetableState → TimetableState) : (State.modTimetable s p f).mems = s.mems := by
  simp [State.modTimetable]

@[simp ↓] theorem State.noteOpened_mems (s : State) (p : Nat) (before : Nat) : (State.noteOpened s p before).mems = s.mems := by
  simp [State.noteOpened]

@[simp ↓] theorem State.nextEntry_mems (s : State) (p : Nat) : (State.nextEntry s p).mems = s.mems := by
  simp [State.nextEntry]

@[simp ↓] theorem State.takeover_mems (s : State) (p : Nat) : (State.takeover s p).mems = s.mems := by
  simp [State.takeover]

@[simp ↓] theorem State.catchUp_mems (s : State) (p : Nat) (a2 : Nat) : (State.catchUp s p a2).mems = s.mems := by
  fun_induction State.catchUp s p a2 <;> simp_all

@[simp ↓] theorem State.stepTimetable_mems (s : State) (p : Nat) : (State.stepTimetable s p).mems = s.mems := by
  unfold State.stepTimetable
  try dsimp only
  repeat' (first
    | assumption
    | (simp [*]; done)
    | (intro _)
    | split)

@[simp ↓] theorem State.clearTimetable_mems (s : State) (p : Nat) : (State.clearTimetable s p).mems = s.mems := by
  simp [State.clearTimetable]

@[simp ↓] theorem State.holdFlits_mems (s : State) (p : Nat) (len : Nat) : (State.holdFlits s p len).mems = s.mems := by
  simp [State.holdFlits]

@[simp ↓] theorem State.visit_mems (s : State) (p : Nat) (a2 : Nat) (a3 : Nat) : (State.visit s p a2 a3).1.mems = s.mems := by
  fun_induction State.visit s p a2 a3 <;> simp_all

@[simp ↓] theorem State.chooseFrame_mems (s : State) (p : Nat) : (State.chooseFrame s p).1.mems = s.mems := by
  unfold State.chooseFrame
  try dsimp only
  repeat' (first
    | assumption
    | simp [*]
    | (intro _)
    | split)

@[simp ↓] theorem State.choose_mems (s : State) (p : Nat) : (State.choose s p).1.mems = s.mems := by
  unfold State.choose
  try dsimp only
  repeat' (first
    | assumption
    | (simp [*]; done)
    | (intro _)
    | split)

@[simp ↓] theorem State.readGranary_mems (s : State) (n : Nat) (f : Frame) : (State.readGranary s n f).mems = s.mems := by
  simp [State.readGranary]

@[simp ↓] theorem State.sendOff_mems (s : State) (p : Nat) (c : Nat) (n : Nat) (overrun : Bool) : (State.sendOff s p c n overrun).mems = s.mems := by
  unfold State.sendOff
  try dsimp only
  repeat' (first
    | assumption
    | (simp [*]; done)
    | (intro _)
    | split)

@[simp ↓] theorem State.startFrame_mems (s : State) (p : Nat) (c : Nat) (n : Nat) (overrun : Bool) : (State.startFrame s p c n overrun).mems = s.mems := by
  unfold State.startFrame
  try dsimp only
  repeat' (first
    | assumption
    | (simp [*]; done)
    | (intro _)
    | split)

@[simp ↓] theorem State.stepFtb_mems (s : State) (d : Nat) : (State.stepFtb s d).mems = s.mems := by
  simp [State.stepFtb]

@[simp ↓] theorem State.servo_mems (s : State) (offset : Int) : (State.servo s offset).mems = s.mems := by
  simp [State.servo]

@[simp ↓] theorem State.modOrd_mems (s : State) (f : Orders → Orders) : (State.modOrd s f).mems = s.mems := by
  simp [State.modOrd]

@[simp ↓] theorem State.modMailbox_mems (s : State) (f : Mailbox → Mailbox) : (State.modMailbox s f).mems = s.mems := by
  simp [State.modMailbox]

@[simp ↓] theorem State.freeze_mems (s : State) (o : Order) : (State.freeze s o).mems = s.mems := by
  unfold State.freeze
  try dsimp only
  repeat' (first
    | assumption
    | (simp [*]; done)
    | (intro _)
    | split)

@[simp ↓] theorem State.accept_mems (s : State) (o : Order) (arrived : Nat) : (State.accept s o arrived).mems = s.mems := by
  simp [State.accept]

@[simp ↓] theorem State.submit_mems (s : State) (o : Order) (wellFormed : Bool) (arrived : Nat) : (State.submit s o wellFormed arrived).mems = s.mems := by
  unfold State.submit
  try dsimp only
  repeat' (first
    | assumption
    | simp [*]
    | (intro _)
    | split)

@[simp ↓] theorem State.submitFrame_mems (s : State) (frame : List Byte) (priv : Nat) (tenant : Nat) (channel : Nat) (largest : Nat) (replyTo : ReplyTo) (arrived : Nat) : (State.submitFrame s frame priv tenant channel largest replyTo arrived).mems = s.mems := by
  simp [State.submitFrame]

@[simp ↓] theorem State.dispatch_mems (s : State) (c : Nat) : (State.dispatch s c).mems = s.mems := by
  unfold State.dispatch
  try dsimp only
  repeat' (first
    | assumption
    | (simp [*]; done)
    | (intro _)
    | split)

@[simp ↓] theorem State.windowGo_mems (s : State) (t : Nat) (ctl : Nat) : (State.windowGo s t ctl).mems = s.mems := by
  simp [State.windowGo]

@[simp ↓] theorem State.windowWrite_mems (s : State) (t : Nat) (off : Nat) (bytes : List Byte) : (State.windowWrite s t off bytes).mems = s.mems := by
  simp [State.windowWrite]

@[simp ↓] theorem State.breakObject_mems (s : State) (cls : Nat) (idx : Nat) (sub : Nat) : (State.breakObject s cls idx sub).mems = s.mems := by
  simp [State.breakObject]

@[simp ↓] theorem State.findBroken_mems (s : State) (classes : List Nat) : (State.findBroken s classes).mems = s.mems := by
  simp [State.findBroken]

@[simp ↓] theorem State.answerRefusal_mems (s : State) (p : Nat) (tag : Nat) (kind : FrameKind) : (State.answerRefusal s p tag kind).mems = s.mems := by
  unfold State.answerRefusal
  try dsimp only
  repeat' (first
    | assumption
    | simp [*]
    | (intro _)
    | split)

@[simp ↓] theorem State.refusedAnswer_mems (s : State) (f : FrameIn) : (State.refusedAnswer s f).mems = s.mems := by
  simp [State.refusedAnswer]

@[simp ↓] theorem State.notice_mems (s : State) (f : FrameIn) (t : Nat) : (State.notice s f t).mems = s.mems := by
  unfold State.notice
  try dsimp only
  repeat' (first
    | assumption
    | (simp [*]; done)
    | (intro _)
    | split)

@[simp ↓] theorem State.capture_mems (s : State) (f : FrameIn) (t : Nat) (reason : Nat) (rule : Option Nat) : (State.capture s f t reason rule).mems = s.mems := by
  simp [State.capture]

@[simp ↓] theorem State.countViolation_mems (s : State) (t : Nat) : (State.countViolation s t).mems = s.mems := by
  simp [State.countViolation]

@[simp ↓] theorem State.countRefusal_mems (s : State) (f : FrameIn) (t : Nat) : (State.countRefusal s f t).mems = s.mems := by
  simp [State.countRefusal]

@[simp ↓] theorem State.refuseFrame_mems (s : State) (f : FrameIn) (t : Nat) (reason : Nat) (rule : Option Nat) : (State.refuseFrame s f t reason rule).mems = s.mems := by
  simp [State.refuseFrame]

@[simp ↓] theorem State.countReset_mems (s : State) (f : FrameIn) (t : Nat) : (State.countReset s f t).mems = s.mems := by
  simp [State.countReset]

@[simp ↓] theorem State.rejectReset_mems (s : State) (f : FrameIn) (t : Nat) : (State.rejectReset s f t).mems = s.mems := by
  simp [State.rejectReset]

@[simp ↓] theorem State.windowAccess_mems (s : State) (f : FrameIn) (t : Nat) : (State.windowAccess s f t).mems = s.mems := by
  unfold State.windowAccess
  try dsimp only
  repeat' (first
    | assumption
    | (simp [*]; done)
    | (intro _)
    | split)

@[simp ↓] theorem State.counterAccess_mems (s : State) (f : FrameIn) (t : Nat) : (State.counterAccess s f t).mems = s.mems := by
  simp [State.counterAccess]

@[simp ↓] theorem State.modJunction_mems (s : State) (f : Junction → Junction) : (State.modJunction s f).mems = s.mems := by
  simp [State.modJunction]

@[simp ↓] theorem State.sendWrap_mems (s : State) (src : FrameIn) (port : Nat) (cls : Nat) (tenant : Nat) (tag : Nat) (header : List Byte) (body : List Byte) (len : Nat) : (State.sendWrap s src port cls tenant tag header body len).mems = s.mems := by
  simp [State.sendWrap]

@[simp ↓] theorem State.junctionRefuse_mems (s : State) (f : FrameIn) (answer : Nat) : (State.junctionRefuse s f answer).mems = s.mems := by
  unfold State.junctionRefuse
  try dsimp only
  repeat' (first
    | assumption
    | (simp [*]; done)
    | (intro _)
    | split)

@[simp ↓] theorem State.trunkRequest_mems (s : State) (f : FrameIn) (w : Nat) (t : Nat) : (State.trunkRequest s f w t).mems = s.mems := by
  unfold State.trunkRequest
  extract_lets
  repeat' split
  all_goals simp

@[simp ↓] theorem State.startTransfer_mems (s : State) (w : Nat) : (State.startTransfer s w).mems = s.mems := by
  unfold State.startTransfer
  try dsimp only
  repeat' (first
    | assumption
    | simp [*]
    | (intro _)
    | split)

@[simp ↓] theorem State.busAccess_mems (s : State) (f : FrameIn) (w : Nat) (t : Nat) : (State.busAccess s f w t).mems = s.mems := by
  simp [State.busAccess]

@[simp ↓] theorem State.junctionRequest_mems (s : State) (f : FrameIn) (w : Nat) (t : Nat) : (State.junctionRequest s f w t).mems = s.mems := by
  simp [State.junctionRequest]

@[simp ↓] theorem State.sendFrame_mems (s : State) (f : FrameIn) (cache : Nat) (order : Nat) (tenant : Nat) (dport : Nat) (vppb : Option (Nat × Nat)) (toLd : Option Nat) (fabric : Option (BitVec 12 × BitVec 12)) : (State.sendFrame s f cache order tenant dport vppb toLd fabric).mems = s.mems := by
  simp [State.sendFrame]

@[simp ↓] theorem State.sendRouted_mems (s : State) (f : FrameIn) (cache : Nat) (order : Nat) (tenant : Nat) : (State.sendRouted s f cache order tenant).mems = s.mems := by
  unfold State.sendRouted
  try dsimp only
  repeat' (first
    | assumption
    | simp [*]
    | (intro _)
    | split)

@[simp ↓] theorem State.admitAllowed_mems (s : State) (f : FrameIn) (t : Nat) (cache : Nat) (order : Nat) (byRule : Bool) : (State.admitAllowed s f t cache order byRule).mems = s.mems := by
  unfold State.admitAllowed
  try dsimp only
  repeat' (first
    | assumption
    | (simp [*]; done)
    | (intro _)
    | split)

@[simp ↓] theorem State.admitRequest_mems (s : State) (f : FrameIn) : (State.admitRequest s f).mems = s.mems := by
  unfold State.admitRequest
  try dsimp only
  repeat' (first
    | assumption
    | simp [*]
    | (intro _)
    | split)

@[simp ↓] theorem State.farAnswer_mems (s : State) (src : FrameIn) (tag : Nat) (err : Nat) (data : List Byte) : (State.farAnswer s src tag err data).mems = s.mems := by
  unfold State.farAnswer
  try dsimp only
  repeat' (first
    | assumption
    | simp [*]
    | (intro _)
    | split)

@[simp ↓] theorem State.admitResponse_mems (s : State) (f : FrameIn) : (State.admitResponse s f).mems = s.mems := by
  unfold State.admitResponse
  try dsimp only
  repeat' (first
    | assumption
    | (simp [*]; done)
    | (intro _)
    | split)

@[simp ↓] theorem State.admitFrame_mems (s : State) (f : FrameIn) : (State.admitFrame s f).mems = s.mems := by
  unfold State.admitFrame
  try dsimp only
  repeat' (first
    | assumption
    | (simp [*]; done)
    | (intro _)
    | split)

@[simp ↓] theorem State.withCredit_mems (s : State) (kind : FrameKind) (p : Nat) (c : Nat) (w : Nat) (act : State → State) (hact : ∀ b0, (act b0).mems = b0.mems) : (State.withCredit s kind p c w act).mems = s.mems := by
  unfold State.withCredit
  try dsimp only
  repeat' (first
    | assumption
    | simp [*])

@[simp ↓] theorem State.setHp_mems (s : State) (v : Nat) (b : Nat) (hp : Nat) : (State.setHp s v b hp).mems = s.mems := by
  simp [State.setHp]

@[simp ↓] theorem State.chooseBands_mems (s : State) (p : Nat) : (State.chooseBands s p).mems = s.mems := by
  simp [State.chooseBands]

@[simp ↓] theorem State.stationFigures_mems (s : State) (n : Nat) : (State.stationFigures s n).mems = s.mems := by
  simp [State.stationFigures]

@[simp ↓] theorem State.measureLane_mems (s : State) (l : Nat) : (State.measureLane s l).mems = s.mems := by
  simp [State.measureLane]

@[simp ↓] theorem State.settleTest_mems (s : State) (k : Nat) : (State.settleTest s k).mems = s.mems := by
  simp [State.settleTest]

@[simp ↓] theorem State.unlockTest_mems (s : State) (k : Nat) : (State.unlockTest s k).mems = s.mems := by
  simp [State.unlockTest]

@[simp ↓] theorem State.endScan_mems (s : State) (k : Nat) : (State.endScan s k).mems = s.mems := by
  simp [State.endScan]

@[simp ↓] theorem State.stopTest_mems (s : State) (k : Nat) : (State.stopTest s k).mems = s.mems := by
  simp [State.stopTest]

@[simp ↓] theorem State.startDetect_mems (s : State) (p : Nat) : (State.startDetect s p).mems = s.mems := by
  simp [State.startDetect]

@[simp ↓] theorem State.unbindNow_mems (s : State) (v : Nat) (b : Nat) : (State.unbindNow s v b).mems = s.mems := by
  simp [State.unbindNow]

@[simp ↓] theorem State.unbindLater_mems (s : State) (v : Nat) (b : Nat) : (State.unbindLater s v b).mems = s.mems := by
  simp [State.unbindLater]

@[simp ↓] theorem State.vppbDown_mems (s : State) (v : Nat) (b : Nat) : (State.vppbDown s v b).mems = s.mems := by
  simp [State.vppbDown]

@[simp ↓] theorem State.settleVppb_mems (s : State) (v : Nat) (b : Nat) : (State.settleVppb s v b).mems = s.mems := by
  simp [State.settleVppb]

@[simp ↓] theorem State.vppbsUp_mems (s : State) (p : Nat) : (State.vppbsUp s p).mems = s.mems := by
  simp [State.vppbsUp]

@[simp ↓] theorem State.junctionPortDown_mems (s : State) (p : Nat) : (State.junctionPortDown s p).mems = s.mems := by
  simp [State.junctionPortDown]

@[simp ↓] theorem State.portAgentsDie_mems (s : State) (p : Nat) : (State.portAgentsDie s p).mems = s.mems := by
  simp [State.portAgentsDie]

@[simp ↓] theorem State.abandonIde_mems (s : State) (p : Nat) : (State.abandonIde s p).mems = s.mems := by
  unfold State.abandonIde
  try dsimp only
  repeat' (first
    | assumption
    | simp [*]
    | (intro _)
    | split)

@[simp ↓] theorem State.linkDownTo_mems (s : State) (p : Nat) (link : Nat) : (State.linkDownTo s p link).mems = s.mems := by
  simp [State.linkDownTo]

@[simp ↓] theorem State.dropLink_mems (s : State) (p : Nat) : (State.dropLink s p).mems = s.mems := by
  simp [State.dropLink]

@[simp ↓] theorem State.assignLanes_mems (s : State) (p : Nat) (width : Nat) (reversed : Bool) : (State.assignLanes s p width reversed).mems = s.mems := by
  simp [State.assignLanes]

@[simp ↓] theorem State.recordTraining_mems (s : State) (p : Nat) (i : LinkInfo) : (State.recordTraining s p i).mems = s.mems := by
  simp [State.recordTraining]

@[simp ↓] theorem State.linkUp_mems (s : State) (p : Nat) (i : LinkInfo) : (State.linkUp s p i).mems = s.mems := by
  simp [State.linkUp]

@[simp ↓] theorem State.dpcTrigger_mems (s : State) (p : Nat) (reason : Nat) : (State.dpcTrigger s p reason).mems = s.mems := by
  simp [State.dpcTrigger]

@[simp ↓] theorem State.containPort_mems (s : State) (p : Nat) (trigger : Nat) (f : Containment → Containment) : (State.containPort s p trigger f).mems = s.mems := by
  simp [State.containPort]

@[simp ↓] theorem State.releasePort_mems (s : State) (p : Nat) (f : Containment → Containment) : (State.releasePort s p f).mems = s.mems := by
  simp [State.releasePort]

@[simp ↓] theorem State.containBySlot_mems (s : State) (p : Nat) : (State.containBySlot s p).mems = s.mems := by
  simp [State.containBySlot]

@[simp ↓] theorem State.releaseSlot_mems (s : State) (p : Nat) : (State.releaseSlot s p).mems = s.mems := by
  simp [State.releaseSlot]

@[simp ↓] theorem State.modPower_mems (s : State) (f : Power → Power) : (State.modPower s f).mems = s.mems := by
  simp [State.modPower]

@[simp ↓] theorem State.setDomain_mems (s : State) (d : Nat) (v : Nat) : (State.setDomain s d v).mems = s.mems := by
  simp [State.setDomain]

@[simp ↓] theorem State.latchCause_mems (s : State) (src : Nat) : (State.latchCause s src).mems = s.mems := by
  simp [State.latchCause]

@[simp ↓] theorem State.wakeBy_mems (s : State) (src : Nat) : (State.wakeBy s src).mems = s.mems := by
  unfold State.wakeBy
  try dsimp only
  repeat' (first
    | assumption
    | (simp [*]; done)
    | (intro _)
    | split)

@[simp ↓] theorem State.drivePerst_mems (s : State) (n : Nat) : (State.drivePerst s n).mems = s.mems := by
  simp [State.drivePerst]

@[simp ↓] theorem State.enterSiding_mems (s : State) (n : Nat) : (State.enterSiding s n).mems = s.mems := by
  simp [State.enterSiding]

@[simp ↓] theorem State.wakeStation_mems (s : State) (n : Nat) : (State.wakeStation s n).mems = s.mems := by
  simp [State.wakeStation]

@[simp ↓] theorem State.detectPorts_mems (s : State) (n : Nat) : (State.detectPorts s n).mems = s.mems := by
  simp [State.detectPorts]

@[simp ↓] theorem State.gateQuadrant_mems (s : State) (q : Nat) : (State.gateQuadrant s q).mems = s.mems := by
  simp [State.gateQuadrant]

@[simp ↓] theorem State.meetGates_mems (s : State) : (State.meetGates s).mems = s.mems := by
  simp [State.meetGates]

@[simp ↓] theorem State.ungateQuadrant_mems (s : State) (q : Nat) : (State.ungateQuadrant s q).mems = s.mems := by
  simp [State.ungateQuadrant]

@[simp ↓] theorem State.requeuePinned_mems (s : State) : (State.requeuePinned s).mems = s.mems := by
  unfold State.requeuePinned
  try dsimp only
  repeat' (first
    | assumption
    | (simp [*]; done)
    | (intro _)
    | split
    | (refine (foldl_mems ?_ _ _).trans ?_))

@[simp ↓] theorem State.powerUp_mems (s : State) (d : Nat) : (State.powerUp s d).mems = s.mems := by
  simp [State.powerUp]

@[simp ↓] theorem State.followReq_mems (s : State) (d : Nat) : (State.followReq s d).mems = s.mems := by
  simp [State.followReq]

@[simp ↓] theorem State.sequencerReady_mems (s : State) : (State.sequencerReady s).mems = s.mems := by
  simp [State.sequencerReady]

@[simp ↓] theorem State.domainUp_mems (s : State) (d : Nat) : (State.domainUp s d).mems = s.mems := by
  simp [State.domainUp]

@[simp ↓] theorem State.setDomains_mems (s : State) (ds : List Nat) (v : Nat) : (State.setDomains s ds v).mems = s.mems := by
  simp [State.setDomains]

@[simp ↓] theorem State.domainsBack_mems (s : State) : (State.domainsBack s).mems = s.mems := by
  simp [State.domainsBack]

@[simp ↓] theorem State.allLinksDown_mems (s : State) : (State.allLinksDown s).mems = s.mems := by
  simp [State.allLinksDown]

@[simp ↓] theorem State.detectAll_mems (s : State) : (State.detectAll s).mems = s.mems := by
  simp [State.detectAll]

@[simp ↓] theorem State.setSlot_mems (s : State) (n : Nat) (st : Nat) : (State.setSlot s n st).mems = s.mems := by
  simp [State.setSlot]

@[simp ↓] theorem State.setCause_mems (s : State) (n : Nat) (c : Nat) : (State.setCause s n c).mems = s.mems := by
  simp [State.setCause]

@[simp ↓] theorem State.warnPort_mems (s : State) (n : Nat) : (State.warnPort s n).mems = s.mems := by
  unfold State.warnPort
  try dsimp only
  repeat' (first
    | assumption
    | simp [*]
    | (intro _)
    | split)

@[simp ↓] theorem State.warnFrom_mems (s : State) (n : Nat) (wasHigh : Bool) : (State.warnFrom s n wasHigh).mems = s.mems := by
  simp [State.warnFrom]

@[simp ↓] theorem State.unwarnPort_mems (s : State) (n : Nat) : (State.unwarnPort s n).mems = s.mems := by
  unfold State.unwarnPort
  try dsimp only
  repeat' (first
    | assumption
    | simp [*]
    | (intro _)
    | split)

@[simp ↓] theorem State.beginRamp_mems (s : State) (n : Nat) : (State.beginRamp s n).mems = s.mems := by
  simp [State.beginRamp]

@[simp ↓] theorem State.beginPrecharge_mems (s : State) (n : Nat) : (State.beginPrecharge s n).mems = s.mems := by
  simp [State.beginPrecharge]

@[simp ↓] theorem State.tryStart_mems (s : State) (n : Nat) : (State.tryStart s n).mems = s.mems := by
  simp [State.tryStart]

@[simp ↓] theorem State.enterDown_mems (s : State) (n : Nat) (cause : Nat) (lead : Nat) : (State.enterDown s n cause lead).mems = s.mems := by
  simp [State.enterDown]

@[simp ↓] theorem State.reachOff_mems (s : State) (n : Nat) : (State.reachOff s n).mems = s.mems := by
  simp [State.reachOff]

@[simp ↓] theorem State.retryFromNow_mems (s : State) (n : Nat) : (State.retryFromNow s n).mems = s.mems := by
  simp [State.retryFromNow]

@[simp ↓] theorem State.awaitRetry_mems (s : State) (n : Nat) : (State.awaitRetry s n).mems = s.mems := by
  simp [State.awaitRetry]

@[simp ↓] theorem State.endDown_mems (s : State) (n : Nat) : (State.endDown s n).mems = s.mems := by
  simp [State.endDown]

@[simp ↓] theorem State.slotWake_mems (s : State) : (State.slotWake s).mems = s.mems := by
  simp [State.slotWake]

@[simp ↓] theorem State.trip_mems (s : State) (n : Nat) (cause : Nat) : (State.trip s n cause).mems = s.mems := by
  simp [State.trip]

@[simp ↓] theorem State.inhibit_mems (s : State) (n : Nat) (cause : Nat) : (State.inhibit s n cause).mems = s.mems := by
  simp [State.inhibit]

@[simp ↓] theorem State.setSeated_mems (s : State) (n : Nat) (v : Nat) : (State.setSeated s n v).mems = s.mems := by
  simp [State.setSeated]

@[simp ↓] theorem State.startAbsence_mems (s : State) (n : Nat) : (State.startAbsence s n).mems = s.mems := by
  simp [State.startAbsence]

@[simp ↓] theorem State.loseSeat_mems (s : State) (n : Nat) : (State.loseSeat s n).mems = s.mems := by
  simp [State.loseSeat]

@[simp ↓] theorem State.gainSeat_mems (s : State) (n : Nat) : (State.gainSeat s n).mems = s.mems := by
  simp [State.gainSeat]

@[simp ↓] theorem State.enableSlot_mems (s : State) (n : Nat) (v : Nat) : (State.enableSlot s n v).mems = s.mems := by
  simp [State.enableSlot]

@[simp ↓] theorem State.holdLimits_mems (s : State) (n : Nat) (old : SlotLimits) : (State.holdLimits s n old).mems = s.mems := by
  simp [State.holdLimits]

@[simp ↓] theorem State.estimateBulk_mems (s : State) (n : Nat) (t20 : Option Nat) (t60 : Option Nat) : (State.estimateBulk s n t20 t60).mems = s.mems := by
  unfold State.estimateBulk
  try dsimp only
  repeat' (first
    | assumption
    | simp [*]
    | (intro _)
    | split)

@[simp ↓] theorem State.sampleSlot_mems (s : State) (n : Nat) (vin : Nat) (vout : Nat) (iout : Nat) (tfet : Nat) : (State.sampleSlot s n vin vout iout tfet).mems = s.mems := by
  simp [State.sampleSlot]

@[simp ↓] theorem State.reborn_mems (s : State) (f : Ledger → Ledger) : (State.reborn s f).mems = s.mems := by
  simp [State.reborn]

@[simp ↓] theorem State.logReset_mems (s : State) (type : Nat) (trigger : Nat) (lost : Nat) : (State.logReset s type trigger lost).mems = s.mems := by
  simp [State.logReset]

@[simp ↓] theorem State.writeBackAll_mems (s : State) : (State.writeBackAll s).mems = s.mems := by
  simp [State.writeBackAll]

@[simp ↓] theorem State.coldSlot_mems (s : State) (old : State) (n : Nat) : (State.coldSlot s old n).mems = s.mems := by
  simp [State.coldSlot]

@[simp ↓] theorem State.stationReset_mems (s : State) (n : Nat) : (State.stationReset s n).mems = s.mems := by
  simp [State.stationReset]

@[simp ↓] theorem State.fatal_mems (s : State) (code : Nat) (unit : Nat) (ofMc : Bool) (detail : List Nat) : (State.fatal s code unit ofMc detail).mems = s.mems := by
  simp [State.fatal]

@[simp ↓] theorem State.modBoot_mems (s : State) (f : Boot → Boot) : (State.modBoot s f).mems = s.mems := by
  simp [State.modBoot]

@[simp ↓] theorem State.modSec_mems (s : State) (f : Security → Security) : (State.modSec s f).mems = s.mems := by
  simp [State.modSec]

@[simp ↓] theorem State.modLedger_mems (s : State) (f : Ledger → Ledger) : (State.modLedger s f).mems = s.mems := by
  simp [State.modLedger]

@[simp ↓] theorem State.programFlash_mems (s : State) (a1 : Nat) (a2 : List Byte) : (State.programFlash s a1 a2).mems = s.mems := by
  fun_induction State.programFlash s a1 a2 <;> simp_all

@[simp ↓] theorem State.deriveDevice_mems (s : State) : (State.deriveDevice s).mems = s.mems := by
  simp [State.deriveDevice]

@[simp ↓] theorem State.deriveAlias_mems (s : State) : (State.deriveAlias s).mems = s.mems := by
  simp [State.deriveAlias]

@[simp ↓] theorem State.bootFails_mems (s : State) (code : Nat) : (State.bootFails s code).mems = s.mems := by
  simp [State.bootFails]

@[simp ↓] theorem State.enterPhase_mems (s : State) (n : Nat) : (State.enterPhase s n).mems = s.mems := by
  simp [State.enterPhase]

@[simp ↓] theorem State.readOther_mems (s : State) (bank : Nat) : (State.readOther s bank).mems = s.mems := by
  simp [State.readOther]

@[simp ↓] theorem State.loadImage_mems (s : State) (bank : Nat) (fallback : Bool) : (State.loadImage s bank fallback).mems = s.mems := by
  simp [State.loadImage]

@[simp ↓] theorem State.tryOther_mems (s : State) (first : Nat) (code : Nat) : (State.tryOther s first code).mems = s.mems := by
  unfold State.tryOther
  try dsimp only
  repeat' (first
    | assumption
    | simp [*]
    | (intro _)
    | split)

@[simp ↓] theorem State.startResident_mems (s : State) (c : Nat) : (State.startResident s c).mems = s.mems := by
  simp [State.startResident]

@[simp ↓] theorem State.startResidents_mems (s : State) : (State.startResidents s).mems = s.mems := by
  simp [State.startResidents]

@[simp ↓] theorem State.setUpManagement_mems (s : State) : (State.setUpManagement s).mems = s.mems := by
  unfold State.setUpManagement
  try dsimp only
  repeat' (first
    | assumption
    | simp [*]
    | (intro _)
    | split)

@[simp ↓] theorem State.modTrunk_mems (s : State) (p : Nat) (f : Trunk → Trunk) : (State.modTrunk s p f).mems = s.mems := by
  simp [State.modTrunk]

@[simp ↓] theorem State.modCtl_mems (s : State) (p : Nat) (f : TrunkCtl → TrunkCtl) : (State.modCtl s p f).mems = s.mems := by
  simp [State.modCtl]

@[simp ↓] theorem State.countSlots_mems (s : State) (p : Nat) (evs : List Nat) : (State.countSlots s p evs).mems = s.mems := by
  simp [State.countSlots]

@[simp ↓] theorem State.endSending_mems (s : State) (p : Nat) : (State.endSending s p).mems = s.mems := by
  unfold State.endSending
  try dsimp only
  repeat' (first
    | assumption
    | simp [*]
    | (intro _)
    | split)

@[simp ↓] theorem State.protocolError_mems (s : State) (p : Nat) : (State.protocolError s p).mems = s.mems := by
  simp [State.protocolError]

@[simp ↓] theorem State.trunkTagFails_mems (s : State) (p : Nat) : (State.trunkTagFails s p).mems = s.mems := by
  simp [State.trunkTagFails]

@[simp ↓] theorem State.settleHello_mems (s : State) (p : Nat) (h : Hello) (lanesOk : Nat) (downwards : Bool) : (State.settleHello s p h lanesOk downwards).mems = s.mems := by
  unfold State.settleHello
  try dsimp only
  repeat' (first
    | assumption
    | (simp [*]; done)
    | (intro _)
    | split)

@[simp ↓] theorem State.sendHello_mems (s : State) (p : Nat) : (State.sendHello s p).mems = s.mems := by
  unfold State.sendHello
  try dsimp only
  repeat' (first
    | assumption
    | (simp [*]; done)
    | (intro _)
    | split)

@[simp ↓] theorem State.receiveHello_mems (s : State) (p : Nat) (h : Hello) (lanesOk : Nat) (downwards : Bool) : (State.receiveHello s p h lanesOk downwards).mems = s.mems := by
  simp [State.receiveHello]

@[simp ↓] theorem State.sendLevel_mems (s : State) (p : Nat) (result : Nat) (at_ : Nat) : (State.sendLevel s p result at_).mems = s.mems := by
  simp [State.sendLevel]

@[simp ↓] theorem State.enterActive_mems (s : State) (p : Nat) (e : Equalised) : (State.enterActive s p e).mems = s.mems := by
  simp [State.enterActive]

@[simp ↓] theorem State.trunkStageFails_mems (s : State) (p : Nat) : (State.trunkStageFails s p).mems = s.mems := by
  simp [State.trunkStageFails]

@[simp ↓] theorem State.sendMarker_mems (s : State) (p : Nat) (count : Nat) : (State.sendMarker s p count).mems = s.mems := by
  simp [State.sendMarker]

@[simp ↓] theorem State.nextMarker_mems (s : State) (p : Nat) : (State.nextMarker s p).mems = s.mems := by
  simp [State.nextMarker]

@[simp ↓] theorem State.enterRecovery_mems (s : State) (p : Nat) : (State.enterRecovery s p).mems = s.mems := by
  simp [State.enterRecovery]

@[simp ↓] theorem State.startReplay_mems (s : State) (p : Nat) : (State.startReplay s p).mems = s.mems := by
  unfold State.startReplay
  try dsimp only
  repeat' (first
    | assumption
    | (simp [*]; done)
    | (intro _)
    | split)

@[simp ↓] theorem State.applyAck_mems (s : State) (p : Nat) (ack : Nat) : (State.applyAck s p ack).mems = s.mems := by
  simp [State.applyAck]

@[simp ↓] theorem State.applyNak_mems (s : State) (p : Nat) (ack : Nat) : (State.applyNak s p ack).mems = s.mems := by
  unfold State.applyNak
  try dsimp only
  repeat' (first
    | assumption
    | (simp [*]; done)
    | (intro _)
    | split)

@[simp ↓] theorem State.askReplay_mems (s : State) (p : Nat) : (State.askReplay s p).mems = s.mems := by
  simp [State.askReplay]

@[simp ↓] theorem State.applyCredit_mems (s : State) (p : Nat) (pool : Nat) (credit : Nat) : (State.applyCredit s p pool credit).mems = s.mems := by
  simp [State.applyCredit]

@[simp ↓] theorem State.applyChange_mems (s : State) (p : Nat) (c : Nat × Nat) : (State.applyChange s p c).mems = s.mems := by
  simp [State.applyChange]

@[simp ↓] theorem State.commandChange_mems (s : State) (p : Nat) (c : Nat × Nat) : (State.commandChange s p c).mems = s.mems := by
  simp [State.commandChange]

@[simp ↓] theorem State.wantChange_mems (s : State) (p : Nat) (c : Nat × Nat) : (State.wantChange s p c).mems = s.mems := by
  simp [State.wantChange]

@[simp ↓] theorem State.serveChange_mems (s : State) (p : Nat) (c : Nat × Nat) : (State.serveChange s p c).mems = s.mems := by
  simp [State.serveChange]

@[simp ↓] theorem State.endRecovery_mems (s : State) (p : Nat) : (State.endRecovery s p).mems = s.mems := by
  unfold State.endRecovery
  try dsimp only
  repeat' (first
    | assumption
    | simp [*])

@[simp ↓] theorem State.dropLane_mems (s : State) (p : Nat) (lane : Nat) : (State.dropLane s p lane).mems = s.mems := by
  simp [State.dropLane]

@[simp ↓] theorem State.badMarker_mems (s : State) (p : Nat) (lane : Nat) : (State.badMarker s p lane).mems = s.mems := by
  simp [State.badMarker]

@[simp ↓] theorem State.setReversed_mems (s : State) (p : Nat) (r : Bool) : (State.setReversed s p r).mems = s.mems := by
  simp [State.setReversed]

@[simp ↓] theorem State.receiveMarker_mems (s : State) (p : Nat) (lane : Nat) (b : List Byte) (inverted : Bool) : (State.receiveMarker s p lane b inverted).mems = s.mems := by
  simp [State.receiveMarker]

@[simp ↓] theorem State.tryPark_mems (s : State) (p : Nat) : (State.tryPark s p).mems = s.mems := by
  simp [State.tryPark]

@[simp ↓] theorem State.askPark_mems (s : State) (p : Nat) : (State.askPark s p).mems = s.mems := by
  simp [State.askPark]

@[simp ↓] theorem State.unpark_mems (s : State) (p : Nat) : (State.unpark s p).mems = s.mems := by
  simp [State.unpark]

@[simp ↓] theorem State.putFlit_mems (s : State) (p : Nat) (seq : Nat) (type : Nat) (kset : Bool) (payload : List Byte) : (State.putFlit s p seq type kset payload).mems = s.mems := by
  simp [State.putFlit]

@[simp ↓] theorem State.updateKeys_mems (s : State) (p : Nat) : (State.updateKeys s p).mems = s.mems := by
  simp [State.updateKeys]

@[simp ↓] theorem State.dueKeys_mems (s : State) (p : Nat) : (State.dueKeys s p).mems = s.mems := by
  simp [State.dueKeys]

@[simp ↓] theorem State.sendSequenced_mems (s : State) (p : Nat) (type : Nat) (payload : List Byte) : (State.sendSequenced s p type payload).mems = s.mems := by
  simp [State.sendSequenced]

@[simp ↓] theorem State.sendBypassFlit_mems (s : State) (p : Nat) (x : Trunk) (sent : List BypassMsg) (left : List BypassMsg) : (State.sendBypassFlit s p x sent left).mems = s.mems := by
  unfold State.sendBypassFlit
  try dsimp only
  repeat' (first
    | assumption
    | (simp [*]; done)
    | (intro _)
    | split)

theorem State.chooseFrame_nextMem {s t : State} {p : Nat} {c : Choice} (h : s.chooseFrame p = (t, c)) : t.mems = s.mems := by
  have e := State.chooseFrame_mems s p
  rw [h] at e
  exact e
@[simp ↓] theorem State.fillData_mems (s : State) (p : Nat) (a2 : Nat) (a3 : Nat) (a4 : List Byte) : (State.fillData s p a2 a3 a4).1.mems = s.mems := by
  induction a2 generalizing s a3 a4 with
  | zero => rfl
  | succ k ih =>
    unfold State.fillData
    dsimp only
    repeat' (first
      | (simp [ih]; done)
      | split
      | (simp [ih]; exact State.chooseFrame_nextMem ‹_›))

@[simp ↓] theorem State.sendFlit_mems (s : State) (p : Nat) : (State.sendFlit s p).mems = s.mems := by
  unfold State.sendFlit
  try dsimp only
  repeat' (first
    | assumption
    | (simp [*]; done)
    | (intro _)
    | split)

@[simp ↓] theorem State.releaseFlit_mems (s : State) (p : Nat) (type : Nat) (payload : List Byte) : (State.releaseFlit s p type payload).mems = s.mems := by
  unfold State.releaseFlit
  try dsimp only
  repeat' (first
    | assumption
    | (simp [*]; done)
    | (intro _)
    | split)

@[simp ↓] theorem State.acceptFlit_mems (s : State) (p : Nat) (f : TrunkFlit) : (State.acceptFlit s p f).mems = s.mems := by
  simp [State.acceptFlit]

@[simp ↓] theorem State.receiveFlit_mems (s : State) (p : Nat) (f : TrunkFlit) : (State.receiveFlit s p f).mems = s.mems := by
  simp [State.receiveFlit]

@[simp ↓] theorem State.receiveBytes_mems (s : State) (p : Nat) (bytes : List Byte) : (State.receiveBytes s p bytes).mems = s.mems := by
  simp [State.receiveBytes]

@[simp ↓] theorem State.wipeObject_mems (s : State) (cls : Nat) (idx : Nat) (sub : Nat) : (State.wipeObject s cls idx sub).mems = s.mems := by
  simp [State.wipeObject]

@[simp ↓] theorem State.storeEntry_mems (s : State) (e : Entry) : (State.storeEntry s e).mems = s.mems := by
  unfold State.storeEntry
  try dsimp only
  repeat' (first
    | assumption
    | simp [*]
    | (intro _)
    | split)

@[simp ↓] theorem State.stored_mems (s : State) (es : List Entry) : (State.stored s es).mems = s.mems := by
  simp [State.stored]

@[simp ↓] theorem State.portCommitted_mems (s0 : State) (old : State) (es : List Entry) (p : Nat) : (State.portCommitted s0 old es p).mems = s0.mems := by
  simp [State.portCommitted]

@[simp ↓] theorem State.rolesCommitted_mems (s : State) : (State.rolesCommitted s).mems = s.mems := by
  simp [State.rolesCommitted]

@[simp ↓] theorem State.tenantCommitted_mems (s : State) (old : State) (t : Nat) : (State.tenantCommitted s old t).mems = s.mems := by
  simp [State.tenantCommitted]

@[simp ↓] theorem State.vppbCommitted_mems (s : State) (old : State) (v : Nat) (b : Nat) : (State.vppbCommitted s old v b).mems = s.mems := by
  simp [State.vppbCommitted]

@[simp ↓] theorem State.tshaperCommitted_mems (s : State) (old : State) (es : List Entry) (t : Nat) : (State.tshaperCommitted s old es t).mems = s.mems := by
  simp [State.tshaperCommitted]

@[simp ↓] theorem State.cshaperCommitted_mems (s : State) (old : State) (es : List Entry) (p : Nat) (c : Nat) : (State.cshaperCommitted s old es p c).mems = s.mems := by
  simp [State.cshaperCommitted]

@[simp ↓] theorem State.timetableCommitted_mems (s : State) (es : List Entry) (p : Nat) : (State.timetableCommitted s es p).mems = s.mems := by
  simp [State.timetableCommitted]

@[simp ↓] theorem State.countersCommitted_mems (s : State) (cls : Nat) (idx : Nat) (sub : Nat) : (State.countersCommitted s cls idx sub).mems = s.mems := by
  simp [State.countersCommitted]

@[simp ↓] theorem State.slotCommitted_mems (s : State) (old : State) (es : List Entry) (n : Nat) : (State.slotCommitted s old es n).mems = s.mems := by
  simp [State.slotCommitted]

@[simp ↓] theorem State.setVcore_mems (s : State) (mv : Nat) : (State.setVcore s mv).mems = s.mems := by
  simp [State.setVcore]

@[simp ↓] theorem State.pstateCommitted_mems (s : State) (old : State) : (State.pstateCommitted s old).mems = s.mems := by
  simp [State.pstateCommitted]

@[simp ↓] theorem State.deviceCommitted_mems (s : State) (old : State) (es : List Entry) : (State.deviceCommitted s old es).mems = s.mems := by
  simp [State.deviceCommitted]

@[simp ↓] theorem State.agentCommitted_mems (s : State) (old : State) (a : Nat) : (State.agentCommitted s old a).mems = s.mems := by
  simp [State.agentCommitted]

@[simp ↓] theorem State.agentsCommitted_mems (s : State) : (State.agentsCommitted s).mems = s.mems := by
  simp [State.agentsCommitted]

@[simp ↓] theorem State.repairObjects_mems (s : State) (es : List Entry) : (State.repairObjects s es).mems = s.mems := by
  simp [State.repairObjects]

@[simp ↓] theorem State.raiseStaged_mems (s : State) (es : List Entry) : (State.raiseStaged s es).mems = s.mems := by
  unfold State.raiseStaged
  try dsimp only
  repeat' (first
    | assumption
    | simp [*]
    | (intro _)
    | split
    | (refine (foldl_mems ?_ _ _).trans ?_))

@[simp ↓] theorem State.holdRounds_mems (s : State) (es : List Entry) : (State.holdRounds s es).mems = s.mems := by
  simp [State.holdRounds]

@[simp ↓] theorem State.served_mems (s : State) (c : Nat) : (State.served s c).mems = s.mems := by
  simp [State.served]

@[simp ↓] theorem State.waitTurn_mems (s : State) (c : Nat) (gens : List (Nat × Nat)) (tries : Nat) : (State.waitTurn s c gens tries).mems = s.mems := by
  simp [State.waitTurn]

@[simp ↓] theorem State.turnedDown_mems (s : State) (c : Nat) : (State.turnedDown s c).mems = s.mems := by
  simp [State.turnedDown]

@[simp ↓] theorem State.touchObject_mems (s : State) (cls : Nat) (idx : Nat) (sub : Nat) : (State.touchObject s cls idx sub).mems = s.mems := by
  simp [State.touchObject]

theorem execOpenObj_mems (c : Core) (o : TOp) (s : State) : Result.keepsMem (execOpenObj c o s) s := by
  simp [execOpenObj]

theorem execLdf_mems (c : Core) (o : TOp) (s : State) : Result.keepsMem (execLdf c o s) s := by
  unfold execLdf
  refine (keepsMem_next _ _).2 ?_
  try dsimp only
  repeat' (first
    | assumption
    | (simp [*]; done)
    | (refine State.leverEncoded_mems _ _ _ _ _ ?_)
    | (intro _)
    | split)

@[simp ↓] theorem State.stage_mems (s : State) (c : Nat) (word : BitVec 32) (e : Entry) (named : Option (Nat × Nat)) (f : CoreState → CoreState) : (State.stage s c word e named f).mems = s.mems := by
  simp [State.stage]

theorem execStf_mems (c : Core) (o : TOp) (s : State) : Result.keepsMem (execStf c o s) s := by
  unfold execStf
  refine (keepsMem_next _ _).2 ?_
  try dsimp only
  repeat' (first
    | assumption
    | (simp [*]; done)
    | (refine State.leverEncoded_mems _ _ _ _ _ ?_)
    | (intro _)
    | split)

theorem execNewObj_mems (c : Core) (o : TOp) (s : State) : Result.keepsMem (execNewObj c o s) s := by
  unfold execNewObj
  refine (keepsMem_next _ _).2 ?_
  try dsimp only
  repeat' (first
    | assumption
    | (simp [*]; done)
    | (refine State.leverEncoded_mems _ _ _ _ _ ?_)
    | (intro _)
    | split)

theorem execDelObj_mems (c : Core) (o : TOp) (s : State) : Result.keepsMem (execDelObj c o s) s := by
  simp [execDelObj]

@[simp ↓] theorem State.commitEnds_mems (s : State) (c : Nat) (rd : Nat) (status : Nat) : (State.commitEnds s c rd status).mems = s.mems := by
  simp [State.commitEnds]

theorem execCommitBuf_mems (c : Core) (o : SOp) (s : State) : Result.keepsMem (execCommitBuf c o s) s := by
  simp [execCommitBuf]

@[simp ↓] theorem State.imageActions_mems (s : State) (es : List Entry) : (State.imageActions s es).mems = s.mems := by
  unfold State.imageActions
  try dsimp only
  repeat' (first
    | assumption
    | simp [*]
    | (intro _)
    | split
    | (refine (foldl_mems ?_ _ _).trans ?_))

@[simp ↓] theorem State.refreshHandles_mems (s : State) (c : Nat) : (State.refreshHandles s c).mems = s.mems := by
  simp [State.refreshHandles]

theorem execDoneOrder_mems (c : Core) (o : SOp) (s : State) : Result.keepsMem (execDoneOrder c o s) s := by
  simp [execDoneOrder]

theorem execFailOrder_mems (c : Core) (o : SOp) (s : State) : Result.keepsMem (execFailOrder c o s) s := by
  simp [execFailOrder]

theorem execTimeNow_mems (c : Core) (o : SOp) (s : State) : Result.keepsMem (execTimeNow c o s) s := by
  simp [execTimeNow]

theorem execRoundCount_mems (c : Core) (o : SOp) (s : State) : Result.keepsMem (execRoundCount c o s) s := by
  simp [execRoundCount]

theorem execWho_mems (c : Core) (o : SOp) (s : State) : Result.keepsMem (execWho c o s) s := by
  simp [execWho]

theorem execRlen_mems (c : Core) (o : SOp) (s : State) : Result.keepsMem (execRlen c o s) s := by
  simp [execRlen]

theorem execRaiseEvent_mems (c : Core) (o : SOp) (s : State) : Result.keepsMem (execRaiseEvent c o s) s := by
  simp [execRaiseEvent]

theorem execWaitUntil_mems (c : Core) (o : SOp) (s : State) : Result.keepsMem (execWaitUntil c o s) s := by
  simp [execWaitUntil]

theorem execWaitExpiry_mems (c : Core) (s : State) : Result.keepsMem (execWaitExpiry c s) s := by
  unfold execWaitExpiry
  refine (keepsMem_next _ _).2 ?_
  try dsimp only
  repeat' (first
    | assumption
    | simp [*]
    | (intro _)
    | split)

theorem execFence_mems (c : Core) (o : SOp) (s : State) : Result.keepsMem (execFence c o s) s := by
  simp [execFence]

theorem execPet_mems (c : Core) (o : SOp) (s : State) : Result.keepsMem (execPet c o s) s := by
  simp [execPet]

theorem execBrk_mems (c : Core) (o : SOp) (s : State) : Result.keepsMem (execBrk c o s) s := by
  simp [execBrk]

theorem execCoreNumber_mems (c : Core) (o : SOp) (s : State) : Result.keepsMem (execCoreNumber c o s) s := by
  simp [execCoreNumber]

theorem execReservedOpcode_mems (c : Core) (w : BitVec 32) (s : State) : Result.keepsMem (execReservedOpcode c w s) s := by
  simp [execReservedOpcode]

theorem execLeverTimeLimit_mems (c : Core) (s : State) : Result.keepsMem (execLeverTimeLimit c s) s := by
  simp [execLeverTimeLimit]

theorem execResidentWatchdog_mems (c : Core) (s : State) : Result.keepsMem (execResidentWatchdog c s) s := by
  simp [execResidentWatchdog]

@[simp ↓] theorem State.libRun_mems (s : State) (c : Core) (id : Nat) (body : State → Order → State) (hbody : ∀ b0 b1, (body b0 b1).mems = b0.mems) : (State.libRun s c id body).mems = s.mems := by
  unfold State.libRun
  try dsimp only
  repeat' (first
    | assumption
    | (simp [*]; done)
    | (intro _)
    | split)

@[simp ↓] theorem State.libEnds_mems (s : State) (c : Core) (st : Status) : (State.libEnds s c st).mems = s.mems := by
  simp [State.libEnds]

@[simp ↓] theorem State.libReply_mems (s : State) (c : Core) (data : List Byte) : (State.libReply s c data).mems = s.mems := by
  simp [State.libReply]

@[simp ↓] theorem noAction_mems (s : State) : (noAction s).mems = s.mems := by
  simp [noAction]

@[simp ↓] theorem State.libOp_mems (s : State) (c : Core) (op : Nat) (mine : Nat) (legal : Nat → Bool) (body : State → State) (hbody : ∀ b0, (body b0).mems = b0.mems) : (State.libOp s c op mine legal body).mems = s.mems := by
  unfold State.libOp
  try dsimp only
  repeat' (first
    | assumption
    | simp [*])

@[simp ↓] theorem State.libArgs_mems (s : State) (c : Core) (ok : Bool) (body : State → State) (hbody : ∀ b0, (body b0).mems = b0.mems) : (State.libArgs s c ok body).mems = s.mems := by
  unfold State.libArgs
  try dsimp only
  repeat' (first
    | assumption
    | simp [*])

@[simp ↓] theorem State.libFault_mems (s : State) (c : Core) (f : LeverFault) : (State.libFault s c f).mems = s.mems := by
  simp [State.libFault]

end Sys2Proof.Machine
end

