-- ==== Sys2Proof/Laws/MemoriesLever.lean ====
section
/-! SUPPORT. The operations and commands of the Lever, its library and the links leave the bytes of the pool and of the Lever's shared
data memory alone. -/

namespace Sys2Proof.Machine

@[simp ↓] theorem State.refill_mems (s : State) : (State.refill s).mems = s.mems := by
  simp [State.refill]

theorem execShaperRefill_mems (s : State) : Result.keepsMem (execShaperRefill s) s := by
  simp [execShaperRefill]

theorem execTimetableEntryBoundary_mems (p : Port) (s : State) : Result.keepsMem (execTimetableEntryBoundary p s) s := by
  simp [execTimetableEntryBoundary]

theorem execTimetableTakeover_mems (p : Port) (s : State) : Result.keepsMem (execTimetableTakeover p s) s := by
  simp [execTimetableTakeover]

@[simp ↓] theorem State.sampleQueue_mems (s : State) (p : Nat) (sub : Nat) : (State.sampleQueue s p sub).mems = s.mems := by
  simp [State.sampleQueue]

theorem execQueueSample_mems (s : State) : Result.keepsMem (execQueueSample s) s := by
  simp [execQueueSample]

@[simp ↓] theorem State.syncOthers_mems (s : State) : (State.syncOthers s).mems = s.mems := by
  simp [State.syncOthers]

theorem execSyncPeriod_mems (s : State) : Result.keepsMem (execSyncPeriod s) s := by
  simp [execSyncPeriod]

theorem execFtbHoldover_mems (s : State) : Result.keepsMem (execFtbHoldover s) s := by
  simp [execFtbHoldover]

theorem execPtmRequest_mems (p : Port) (s : State) : Result.keepsMem (execPtmRequest p s) s := by
  simp [execPtmRequest]

theorem execPtmResponse_mems (p : Port) (master : BitVec 64) (delay : BitVec 64) (s : State) : Result.keepsMem (execPtmResponse p master delay s) s := by
  simp [execPtmResponse]

theorem execDevloadWindow_mems (s : State) : Result.keepsMem (execDevloadWindow s) s := by
  simp [execDevloadWindow]

@[simp ↓] theorem State.waysideSent_mems (s : State) (o : WaysideOut) : (State.waysideSent s o).mems = s.mems := by
  simp [State.waysideSent]

@[simp ↓] theorem State.contend_mems (s : State) (rival : List WaysideSymbol) (a2 : List WaysideOut) : (State.contend s rival a2).mems = s.mems := by
  fun_induction State.contend s rival a2 <;> simp_all

@[simp ↓] theorem State.waysideContend_mems (s : State) (f : WaysideFrame) : (State.waysideContend s f).mems = s.mems := by
  simp [State.waysideContend]

@[simp ↓] theorem State.waysideIdle_mems (s : State) : (State.waysideIdle s).mems = s.mems := by
  unfold State.waysideIdle
  try dsimp only
  repeat' (first
    | assumption
    | simp [*]
    | (intro _)
    | split)

@[simp ↓] theorem State.waysideDrop_mems (s : State) : (State.waysideDrop s).mems = s.mems := by
  simp [State.waysideDrop]

@[simp ↓] theorem State.waysideIn_mems (s : State) (f : WaysideFrame) (body : State → State) (hbody : ∀ b0, (body b0).mems = b0.mems) : (State.waysideIn s f body).mems = s.mems := by
  unfold State.waysideIn
  try dsimp only
  repeat' (first
    | assumption
    | simp [*])

@[simp ↓] theorem State.waysideSubmit_mems (s : State) (o : KeptOrder) : (State.waysideSubmit s o).mems = s.mems := by
  simp [State.waysideSubmit]

@[simp ↓] theorem State.waysideKept_mems (s : State) : (State.waysideKept s).mems = s.mems := by
  unfold State.waysideKept
  try dsimp only
  repeat' (first
    | assumption
    | simp [*]
    | (intro _)
    | split)

theorem execWaysideOrderFrame_mems (f : WaysideFrame) (s : State) : Result.keepsMem (execWaysideOrderFrame f s) s := by
  simp [execWaysideOrderFrame]

theorem execWaysideReply_mems (f : WaysideFrame) (s : State) : Result.keepsMem (execWaysideReply f s) s := by
  simp [execWaysideReply]

theorem execTimeMark_mems (f : WaysideFrame) (s : State) : Result.keepsMem (execTimeMark f s) s := by
  simp [execTimeMark]

theorem execWaysideWake_mems (f : WaysideFrame) (s : State) : Result.keepsMem (execWaysideWake f s) s := by
  simp [execWaysideWake]

theorem execWaysideStuck_mems (s : State) : Result.keepsMem (execWaysideStuck s) s := by
  simp [execWaysideStuck]

@[simp ↓] theorem State.moveUp_mems (s : State) (p : Nat) (i : LinkInfo) : (State.moveUp s p i).mems = s.mems := by
  unfold State.moveUp
  try dsimp only
  repeat' (first
    | assumption
    | (simp [*]; done)
    | (intro _)
    | split)

theorem execLinkUp_mems (p : Port) (info : LinkInfo) (s : State) : Result.keepsMem (execLinkUp p info s) s := by
  simp [execLinkUp]

@[simp ↓] theorem State.linkError_mems (s : State) (p : Nat) (bit : Nat) : (State.linkError s p bit).mems = s.mems := by
  unfold State.linkError
  try dsimp only
  repeat' (first
    | assumption
    | simp [*]
    | (intro _)
    | split)

theorem execLinkDown_mems (p : Port) (cause : DownCause) (s : State) : Result.keepsMem (execLinkDown p cause s) s := by
  unfold execLinkDown
  refine (keepsMem_next _ _).2 ?_
  try dsimp only
  repeat' (first
    | assumption
    | (simp [*]; done)
    | (intro _)
    | split)

theorem execPortFlushDone_mems (p : Port) (s : State) : Result.keepsMem (execPortFlushDone p s) s := by
  simp [execPortFlushDone]

theorem execReplayContainmentTimeout_mems (p : Port) (s : State) : Result.keepsMem (execReplayContainmentTimeout p s) s := by
  unfold execReplayContainmentTimeout
  refine (keepsMem_next _ _).2 ?_
  try dsimp only
  repeat' (first
    | assumption
    | simp [*]
    | (intro _)
    | split)

theorem execFlitReceive_mems (p : Port) (ev : FlitEvent) (s : State) : Result.keepsMem (execFlitReceive p ev s) s := by
  unfold execFlitReceive
  refine (keepsMem_next _ _).2 ?_
  try dsimp only
  repeat' (first
    | assumption
    | (simp [*]; done)
    | (intro _)
    | split)

theorem execHotResetEnd_mems (p : Port) (s : State) : Result.keepsMem (execHotResetEnd p s) s := by
  simp [execHotResetEnd]

@[simp ↓] theorem State.clearObject_mems (s : State) (cls : Nat) (idx : Nat) (sub : Nat) : (State.clearObject s cls idx sub).mems = s.mems := by
  simp [State.clearObject]

theorem execLaneRemap_mems (st : Station) (s : State) : Result.keepsMem (execLaneRemap st s) s := by
  unfold execLaneRemap
  refine (keepsMem_next _ _).2 ?_
  try dsimp only
  repeat' (first
    | assumption
    | (simp [*]; done)
    | (intro _)
    | split)

@[simp ↓] theorem State.recordMeasurement_mems (s : State) (n : Nat) (ls : List LaneReflection) : (State.recordMeasurement s n ls).mems = s.mems := by
  simp [State.recordMeasurement]

theorem execLaneMargining_mems (st : Station) (lane : LaneOf) (s : State) : Result.keepsMem (execLaneMargining st lane s) s := by
  simp [execLaneMargining]

theorem execMarginingEnd_mems (st : Station) (lane : LaneOf) (s : State) : Result.keepsMem (execMarginingEnd st lane s) s := by
  simp [execMarginingEnd]

theorem execPrbsCheckerLock_mems (st : Station) (lane : LaneOf) (locks : Bool) (s : State) : Result.keepsMem (execPrbsCheckerLock st lane locks s) s := by
  simp [execPrbsCheckerLock]

theorem execPowerControllerOff_mems (v : Vcs) (b : VppbNo) (s : State) : Result.keepsMem (execPowerControllerOff v b s) s := by
  simp [execPowerControllerOff]

theorem execPowerControllerOn_mems (v : Vcs) (b : VppbNo) (s : State) : Result.keepsMem (execPowerControllerOn v b s) s := by
  simp [execPowerControllerOn]

theorem execDpcTriggerClear_mems (v : Vcs) (b : VppbNo) (s : State) : Result.keepsMem (execDpcTriggerClear v b s) s := by
  simp [execDpcTriggerClear]

theorem execIdeKmDone_mems (p : Port) (secure : Bool) (s : State) : Result.keepsMem (execIdeKmDone p secure s) s := by
  unfold execIdeKmDone
  refine (keepsMem_next _ _).2 ?_
  try dsimp only
  repeat' (first
    | assumption
    | (simp [*]; done)
    | (intro _)
    | split)

theorem execInvocationCounterLimit_mems (p : Port) (stream : Fin 8) (s : State) : Result.keepsMem (execInvocationCounterLimit p stream s) s := by
  simp [execInvocationCounterLimit]

theorem execIdeKmRequest_mems (v : Vcs) (stream : Fin 8) (msg : IdeKm) (s : State) : Result.keepsMem (execIdeKmRequest v stream msg s) s := by
  unfold execIdeKmRequest
  refine (keepsMem_next _ _).2 ?_
  try dsimp only
  repeat' (first
    | assumption
    | (simp [*]; done)
    | (intro _)
    | split)

@[simp ↓] theorem State.holdPerst_mems (s : State) (p : Nat) (hold : Bool) : (State.holdPerst s p hold).mems = s.mems := by
  unfold State.holdPerst
  try dsimp only
  repeat' (first
    | assumption
    | simp [*]
    | (intro _)
    | split)

@[simp ↓] theorem State.awaitOutside_mems (s : State) (c : Core) : (State.awaitOutside s c).mems = s.mems := by
  simp [State.awaitOutside]

@[simp ↓] theorem State.ppbCfg_mems (s : State) (c : Core) (op : Nat) : (State.ppbCfg s c op).mems = s.mems := by
  unfold State.ppbCfg
  try dsimp only
  repeat' (first
    | assumption
    | simp [*]
    | (refine State.libRun_mems _ _ _ _ ?_))

theorem execPpbCfgRead_mems (c : Core) (s : State) : Result.keepsMem (execPpbCfgRead c s) s := by
  simp [execPpbCfgRead]

theorem execPpbCfgWrite_mems (c : Core) (s : State) : Result.keepsMem (execPpbCfgWrite c s) s := by
  simp [execPpbCfgWrite]

theorem execPpbCfgCompletion_mems (c : Core) (status : CplStatus) (data : BitVec 32) (s : State) : Result.keepsMem (execPpbCfgCompletion c status data s) s := by
  unfold execPpbCfgCompletion
  refine (keepsMem_next _ _).2 ?_
  try dsimp only
  repeat' (first
    | assumption
    | (simp [*]; done)
    | (intro _)
    | split)

theorem execPpbCfgTimeout_mems (c : Core) (s : State) : Result.keepsMem (execPpbCfgTimeout c s) s := by
  unfold execPpbCfgTimeout
  refine (keepsMem_next _ _).2 ?_
  try dsimp only
  repeat' (first
    | assumption
    | simp [*]
    | (intro _)
    | split)

theorem execLdTunnel_mems (c : Core) (s : State) : Result.keepsMem (execLdTunnel c s) s := by
  simp [execLdTunnel]

theorem execLdTunnelResponse_mems (c : Core) (response : List Byte) (s : State) : Result.keepsMem (execLdTunnelResponse c response s) s := by
  unfold execLdTunnelResponse
  refine (keepsMem_next _ _).2 ?_
  try dsimp only
  repeat' (first
    | assumption
    | simp [*]
    | (intro _)
    | split)

theorem execLdTunnelTimeout_mems (c : Core) (s : State) : Result.keepsMem (execLdTunnelTimeout c s) s := by
  unfold execLdTunnelTimeout
  refine (keepsMem_next _ _).2 ?_
  try dsimp only
  repeat' (first
    | assumption
    | simp [*]
    | (intro _)
    | split)

@[simp ↓] theorem State.answerTenant_mems (s : State) (t : Nat) : (State.answerTenant s t).mems = s.mems := by
  simp [State.answerTenant]

@[simp ↓] theorem State.discardTenant_mems (s : State) (t : Nat) : (State.discardTenant s t).mems = s.mems := by
  simp [State.discardTenant]

theorem execTenantResetRequestsDone_mems (t : TenantId) (s : State) : Result.keepsMem (execTenantResetRequestsDone t s) s := by
  simp [execTenantResetRequestsDone]

theorem execTenantResetTimeout_mems (t : TenantId) (s : State) : Result.keepsMem (execTenantResetTimeout t s) s := by
  simp [execTenantResetTimeout]

theorem State.reserve_nextMem {s t : State} {c cls owner n : Nat} (h : s.reserve c cls owner = some (t, n)) : t.mems = s.mems := by
  obtain ⟨i, _, e⟩ := Option.map_eq_some_iff.1 h
  cases e
  simp
theorem State.reserveMany_nextMem {s t : State} {c cls owner : Nat} {n : Nat} {l l' : List Nat}
    (h : s.reserveMany c cls owner n l = some (t, l')) : t.mems = s.mems := by
  induction n generalizing s l with
  | zero => cases h; rfl
  | succ n ih =>
    unfold State.reserveMany at h
    split at h
    · cases h
    · rename_i e
      exact (ih h).trans (State.reserve_nextMem e)
theorem execGleanerPassFinal_mems (t : TenantId) (s : State) : Result.keepsMem (execGleanerPassFinal t s) s := by
  simp [execGleanerPassFinal]

theorem execGleanerPassTimeout_mems (t : TenantId) (s : State) : Result.keepsMem (execGleanerPassTimeout t s) s := by
  unfold execGleanerPassTimeout
  refine (keepsMem_next _ _).2 ?_
  try dsimp only
  repeat' (first
    | assumption
    | simp [*]
    | (intro _)
    | split)

@[simp ↓] theorem State.counterSet_mems (s : State) (c : Core) (op : Nat) (body : State → Order → List Nat → State) (hbody : ∀ b0 b1 b2, (body b0 b1 b2).mems = b0.mems) : (State.counterSet s c op body).mems = s.mems := by
  unfold State.counterSet
  try dsimp only
  repeat' (first
    | assumption
    | (simp [*]; done)
    | (refine State.libRun_mems _ _ _ _ ?_))

@[simp ↓] theorem State.unitSet_mems (s : State) (c : Core) (op : Nat) (whole : Bool) (body : State → Order → List Nat → State) (hbody : ∀ b0 b1 b2, (body b0 b1 b2).mems = b0.mems) : (State.unitSet s c op whole body).mems = s.mems := by
  unfold State.unitSet
  try dsimp only
  repeat' (first
    | assumption
    | (simp [*]; done)
    | (refine State.libRun_mems _ _ _ _ ?_))

theorem execDeadlogRead_mems (c : Core) (s : State) : Result.keepsMem (execDeadlogRead c s) s := by
  simp [execDeadlogRead]

theorem execLaneReport_mems (c : Core) (s : State) : Result.keepsMem (execLaneReport c s) s := by
  simp [execLaneReport]

theorem execChanMeasure_mems (c : Core) (s : State) : Result.keepsMem (execChanMeasure c s) s := by
  simp [execChanMeasure]

theorem execChannelMeasurementDone_mems (st : Station) (lanes : List LaneReflection) (s : State) : Result.keepsMem (execChannelMeasurementDone st lanes s) s := by
  unfold execChannelMeasurementDone
  refine (keepsMem_next _ _).2 ?_
  try dsimp only
  repeat' (first
    | assumption
    | (simp [*]; done)
    | (intro _)
    | split
    | (refine (foldl_mems ?_ _ _).trans ?_))

@[simp ↓] theorem State.laneTest_mems (s : State) (c : Core) (op : Nat) (ok : State → Order → Nat → Nat → Bool) (body : State → Order → List Nat → State) (hbody : ∀ b0 b1 b2, (body b0 b1 b2).mems = b0.mems) : (State.laneTest s c op ok body).mems = s.mems := by
  unfold State.laneTest
  try dsimp only
  repeat' (first
    | assumption
    | simp [*]
    | (refine State.libRun_mems _ _ _ _ ?_))

theorem execLaneTestStop_mems (c : Core) (s : State) : Result.keepsMem (execLaneTestStop c s) s := by
  simp [execLaneTestStop]

theorem execLaneTestStart_mems (c : Core) (s : State) : Result.keepsMem (execLaneTestStart c s) s := by
  simp [execLaneTestStart]

theorem execLaneTestRead_mems (c : Core) (s : State) : Result.keepsMem (execLaneTestRead c s) s := by
  simp [execLaneTestRead]

theorem execLaneTestInject_mems (c : Core) (s : State) : Result.keepsMem (execLaneTestInject c s) s := by
  simp [execLaneTestInject]

@[simp ↓] theorem State.randomBytes_mems (s : State) (a1 : Nat) (a2 : List Byte) : (State.randomBytes s a1 a2).1.mems = s.mems := by
  fun_induction State.randomBytes s a1 a2 <;> simp_all

theorem execTokenNonce_mems (c : Core) (s : State) : Result.keepsMem (execTokenNonce c s) s := by
  simp [execTokenNonce]

theorem execTokenWrite_mems (c : Core) (s : State) : Result.keepsMem (execTokenWrite c s) s := by
  simp [execTokenWrite]

@[simp ↓] theorem State.ledgerError_mems (s : State) : (State.ledgerError s).mems = s.mems := by
  simp [State.ledgerError]

@[simp ↓] theorem State.useCopy_mems (s : State) (x : ControlCopy) : (State.useCopy s x).mems = s.mems := by
  simp [State.useCopy]

@[simp ↓] theorem State.readControl_mems (s : State) : (State.readControl s).mems = s.mems := by
  simp [State.readControl]

@[simp ↓] theorem State.ledgerPoke_mems (s : State) (a : Nat) (v : Byte) : (State.ledgerPoke s a v).mems = s.mems := by
  simp [State.ledgerPoke]

theorem State.storeStanding_nextMem {s t : State} {priv n : Nat} {frame : List Byte} (h : s.storeStanding priv frame = some (t, n)) :
    t.mems = s.mems := by
  unfold State.storeStanding at h
  dsimp only at h
  repeat' split at h
  all_goals cases h
  all_goals simp
theorem execStandingWrite_mems (c : Core) (s : State) : Result.keepsMem (execStandingWrite c s) s := by
  unfold execStandingWrite
  refine (keepsMem_next _ _).2 ?_
  repeat' (first
    | assumption
    | (simp [*]; done)
    | (refine State.libRun_mems _ _ _ _ ?_)
    | (refine State.libArgs_mems _ _ _ _ ?_)
    | (refine State.libOp_mems _ _ _ _ _ _ ?_)
    | (refine State.eventSet_mems _ _ _ _ ?_)
    | (refine State.counterSet_mems _ _ _ _ ?_)
    | (intro _)
    | split
    | (exact (State.storeStanding_nextMem ‹_›).trans (by simp))
    | simp)

@[simp ↓] theorem State.firstPart_mems (s : State) (c : Core) (o : Order) (total : Nat) (part : List Byte) : (State.firstPart s c o total part).mems = s.mems := by
  simp [State.firstPart]

@[simp ↓] theorem State.laterPart_mems (s : State) (c : Core) (total : Nat) (off : Nat) (number : Nat) (part : List Byte) : (State.laterPart s c total off number part).mems = s.mems := by
  unfold State.laterPart
  try dsimp only
  repeat' (first
    | assumption
    | (simp [*]; done)
    | (refine State.libRun_mems _ _ _ _ ?_)
    | (refine State.libArgs_mems _ _ _ _ ?_)
    | (refine State.libOp_mems _ _ _ _ _ _ ?_)
    | (refine State.eventSet_mems _ _ _ _ ?_)
    | (refine State.counterSet_mems _ _ _ _ ?_)
    | (intro _)
    | split
    | (exact (State.storeStanding_nextMem ‹_›).trans (by simp))
    | simp)

theorem execStandingWritePart_mems (c : Core) (s : State) : Result.keepsMem (execStandingWritePart c s) s := by
  simp [execStandingWritePart]

theorem execStandingSessionTimeout_mems (s : State) : Result.keepsMem (execStandingSessionTimeout s) s := by
  unfold execStandingSessionTimeout
  refine (keepsMem_next _ _).2 ?_
  try dsimp only
  repeat' (first
    | assumption
    | simp [*]
    | (intro _)
    | split)

@[simp ↓] theorem State.clearStanding_mems (s : State) (c : Core) (op : Nat) (sel : Order → StandingRecord → Bool) (ok : Order → Bool) : (State.clearStanding s c op sel ok).mems = s.mems := by
  unfold State.clearStanding
  try dsimp only
  repeat' (first
    | assumption
    | (simp [*]; done)
    | (refine State.libRun_mems _ _ _ _ ?_))

theorem execStandingClearRange_mems (c : Core) (s : State) : Result.keepsMem (execStandingClearRange c s) s := by
  simp [execStandingClearRange]

theorem execStandingClearAll_mems (c : Core) (s : State) : Result.keepsMem (execStandingClearAll c s) s := by
  simp [execStandingClearAll]

theorem execStandingList_mems (c : Core) (s : State) : Result.keepsMem (execStandingList c s) s := by
  simp [execStandingList]

@[simp ↓] theorem State.spoilFlash_mems (s : State) (a1 : Nat) (a2 : Nat) : (State.spoilFlash s a1 a2).mems = s.mems := by
  fun_induction State.spoilFlash s a1 a2 <;> simp_all

@[simp ↓] theorem State.flashWork_mems (s : State) (job : FlashJob) (ok : Bool) : (State.flashWork s job ok).1.mems = s.mems := by
  unfold State.flashWork
  try dsimp only
  repeat' (first
    | assumption
    | (simp [*]; done)
    | (intro _)
    | split)

theorem execImageFlashWorkDone_mems (ok : Bool) (s : State) : Result.keepsMem (execImageFlashWorkDone ok s) s := by
  unfold execImageFlashWorkDone
  refine (keepsMem_next _ _).2 ?_
  try dsimp only
  repeat' (first
    | assumption
    | simp [*]
    | (intro _)
    | split)

@[simp ↓] theorem State.activationEnds_mems (s : State) : (State.activationEnds s).mems = s.mems := by
  simp [State.activationEnds]

theorem execActivationRehashDone_mems (s : State) : Result.keepsMem (execActivationRehashDone s) s := by
  simp [execActivationRehashDone]

theorem execActivationQuiescePoint_mems (s : State) : Result.keepsMem (execActivationQuiescePoint s) s := by
  simp [execActivationQuiescePoint]

@[simp ↓] theorem State.policyResumes_mems (s : State) : (State.policyResumes s).mems = s.mems := by
  simp [State.policyResumes]

theorem execActivationResume_mems (s : State) : Result.keepsMem (execActivationResume s) s := by
  simp [execActivationResume]

theorem execConfirm_mems (c : Core) (s : State) : Result.keepsMem (execConfirm c s) s := by
  simp [execConfirm]

end Sys2Proof.Machine
end

