-- ==== Sys2Proof/Laws/MemoriesEvents.lean ====
section
/-! SUPPORT. The commands of boot, coherence, the Junction, the cores, orders and the switch leave the bytes of the pool and of the Lever's shared
data memory alone. -/

namespace Sys2Proof.Machine

@[simp ↓] theorem State.noteLifecycle_mems (s : State) : (State.noteLifecycle s).mems = s.mems := by
  simp [State.noteLifecycle]

theorem execJtagTestInstruction_mems (s : State) : Result.keepsMem (execJtagTestInstruction s) s := by
  simp [execJtagTestInstruction]

theorem execTapReset_mems (s : State) : Result.keepsMem (execTapReset s) s := by
  simp [execTapReset]

theorem execBootPhase1_mems (flashAnswers : Bool) (s : State) : Result.keepsMem (execBootPhase1 flashAnswers s) s := by
  unfold execBootPhase1
  refine (keepsMem_next _ _).2 ?_
  try dsimp only
  repeat' (first
    | assumption
    | (simp [*]; done)
    | (intro _)
    | split)

theorem execBootPhase2_mems (s : State) : Result.keepsMem (execBootPhase2 s) s := by
  simp [execBootPhase2]

theorem execBootPhase3_mems (s : State) : Result.keepsMem (execBootPhase3 s) s := by
  simp [execBootPhase3]

theorem execStandingOrderReplay_mems (s : State) : Result.keepsMem (execStandingOrderReplay s) s := by
  unfold execStandingOrderReplay
  refine (keepsMem_next _ _).2 ?_
  try dsimp only
  repeat' (first
    | assumption
    | (simp [*]; done)
    | (intro _)
    | split)

theorem execBootPhase4_mems (s : State) : Result.keepsMem (execBootPhase4 s) s := by
  simp [execBootPhase4]

theorem execStationRejoin_mems (st : Station) (s : State) : Result.keepsMem (execStationRejoin st s) s := by
  simp [execStationRejoin]

theorem execFatalError_mems (code : FatalCode) (detail : Nat) (s : State) : Result.keepsMem (execFatalError code detail s) s := by
  simp [execFatalError]

@[simp ↓] theorem State.halt_mems (s : State) : (State.halt s).mems = s.mems := by
  simp [State.halt]

theorem execCorrectedSummary_mems (s : State) : Result.keepsMem (execCorrectedSummary s) s := by
  simp [execCorrectedSummary]

theorem execContainedWindowEnd_mems (code : Nat) (whereNo : Nat) (s : State) : Result.keepsMem (execContainedWindowEnd code whereNo s) s := by
  unfold execContainedWindowEnd
  refine (keepsMem_next _ _).2 ?_
  try dsimp only
  repeat' (first
    | assumption
    | (simp [*]; done)
    | (intro _)
    | split)

@[simp ↓] theorem State.readBadLoft_mems (s : State) (line : Nat) (p : Nat) (kind : CohKind) : (State.readBadLoft s line p kind).mems = s.mems := by
  unfold State.readBadLoft
  try dsimp only
  repeat' (first
    | assumption
    | (simp [*]; done)
    | (intro _)
    | split)

@[simp ↓] theorem State.readLoft_mems (s : State) (line : Nat) (p : Nat) (kind : CohKind) : (State.readLoft s line p kind).mems = s.mems := by
  simp [State.readLoft]

@[simp ↓] theorem State.fromRing_mems (s : State) (kind : CohKind) (r : CohReq) (w : Option WriteData) (a : Option AtomicOp) (act : RingRequest → State → State) (hact : ∀ b0 b1, (act b0 b1).mems = b1.mems) : (State.fromRing s kind r w a act).mems = s.mems := by
  unfold State.fromRing
  try dsimp only
  repeat' (first
    | assumption
    | simp [*]
    | (intro _)
    | split)

@[simp ↓] theorem State.serve_mems (s : State) (r : CohReq) (kind : CohKind) (w : Option WriteData) (a : Option AtomicOp) : (State.serve s r kind w a).mems = s.mems := by
  simp [State.serve]

theorem execRdS_mems (r : CohReq) (s : State) : Result.keepsMem (execRdS r s) s := by
  simp [execRdS]

theorem execRdE_mems (r : CohReq) (s : State) : Result.keepsMem (execRdE r s) s := by
  simp [execRdE]

theorem execRdNc_mems (r : CohReq) (s : State) : Result.keepsMem (execRdNc r s) s := by
  simp [execRdNc]

theorem execWr_mems (r : CohReq) (w : WriteData) (s : State) : Result.keepsMem (execWr r w s) s := by
  simp [execWr]

theorem execWb_mems (r : CohReq) (w : WriteData) (keepShared : Bool) (s : State) : Result.keepsMem (execWb r w keepShared s) s := by
  simp [execWb]

theorem execEvictClean_mems (r : CohReq) (s : State) : Result.keepsMem (execEvictClean r s) s := by
  simp [execEvictClean]

theorem execAtomic_mems (r : CohReq) (a : AtomicOp) (s : State) : Result.keepsMem (execAtomic r a s) s := by
  simp [execAtomic]

@[simp ↓] theorem State.snoopResponse_mems (s : State) (a : Nat) (line : Nat) (kept : Bool) (data : Option LineData) : (State.snoopResponse s a line kept data).mems = s.mems := by
  simp [State.snoopResponse]

theorem execRspI_mems (agent : AgentId) (line : Line) (data : Option LineData) (s : State) : Result.keepsMem (execRspI agent line data s) s := by
  simp [execRspI]

theorem execRspS_mems (agent : AgentId) (line : Line) (data : Option LineData) (s : State) : Result.keepsMem (execRspS agent line data s) s := by
  simp [execRspS]

theorem execSnoopTimeout_mems (agent : AgentId) (line : Line) (s : State) : Result.keepsMem (execSnoopTimeout agent line s) s := by
  unfold execSnoopTimeout
  refine (keepsMem_next _ _).2 ?_
  try dsimp only
  repeat' (first
    | assumption
    | (simp [*]; done)
    | (intro _)
    | split)

@[simp ↓] theorem State.sendFill_mems (s : State) (line : Nat) (port : Nat) (tenant : Nat) (home : Nat) (d : LineData) (bad : Bool) : (State.sendFill s line port tenant home d bad).mems = s.mems := by
  simp [State.sendFill]

theorem execMemoryData_mems (line : Line) (result : MemResult) (s : State) : Result.keepsMem (execMemoryData line result s) s := by
  unfold execMemoryData
  refine (keepsMem_next _ _).2 ?_
  try dsimp only
  repeat' (first
    | assumption
    | (simp [*]; done)
    | (intro _)
    | split)

theorem execMemoryWriteComplete_mems (line : Line) (ok : Bool) (s : State) : Result.keepsMem (execMemoryWriteComplete line ok s) s := by
  simp [execMemoryWriteComplete]

theorem execAtomicCompletion_mems (line : Line) (old : BitVec 128) (s : State) : Result.keepsMem (execAtomicCompletion line old s) s := by
  unfold execAtomicCompletion
  refine (keepsMem_next _ _).2 ?_
  try dsimp only
  repeat' (first
    | assumption
    | simp [*]
    | (intro _)
    | split)

theorem execLineLockHandoff_mems (line : Line) (s : State) : Result.keepsMem (execLineLockHandoff line s) s := by
  simp [execLineLockHandoff]

@[simp ↓] theorem State.servePrefetch_mems (s : State) (p : Nat) (m : CohBypass) : (State.servePrefetch s p m).mems = s.mems := by
  unfold State.servePrefetch
  extract_lets
  repeat' split
  all_goals simp

@[simp ↓] theorem State.checkedPeer_mems (s : State) (p : Port) (m : CohBypass) (kind : CohKind) (go : State) (hgo : go.mems = s.mems) : (State.checkedPeer s p m kind go).mems = s.mems := by
  unfold State.checkedPeer
  dsimp only
  split <;> simp [hgo]

theorem execCReq_mems (p : Port) (m : CohBypass) (s : State) : Result.keepsMem (execCReq p m s) s := by
  unfold execCReq
  refine (keepsMem_next _ _).2 ?_
  try dsimp only
  repeat' (first
    | assumption
    | (simp [*]; done)
    | (refine State.onMessage_mems _ _ _ _ _ ?_)
    | (intro _)
    | split)

theorem execCSnp_mems (p : Port) (m : CohBypass) (s : State) : Result.keepsMem (execCSnp p m s) s := by
  unfold execCSnp
  refine (keepsMem_next _ _).2 ?_
  split
  · refine State.onMessage_mems _ _ _ _ _ ?_
    intro s
    dsimp only
    repeat' split
    all_goals simp
  · rfl

theorem execCWb_mems (p : Port) (m : CohBypass) (s : State) : Result.keepsMem (execCWb p m s) s := by
  simp [execCWb]

@[simp ↓] theorem State.lateAnswer_mems (s : State) (line : Nat) (y : Transaction) (op : Nat) (old : Nat) (data : Option (LineData × Bool)) : (State.lateAnswer s line y op old data).mems = s.mems := by
  simp [State.lateAnswer]

@[simp ↓] theorem State.peerAnswer_mems (s : State) (p : Nat) (m : CohBypass) (data : Option (LineData × Bool)) : (State.peerAnswer s p m data).mems = s.mems := by
  unfold State.peerAnswer
  extract_lets
  repeat' split
  all_goals simp

theorem execCRsp_mems (p : Port) (m : CohBypass) (s : State) : Result.keepsMem (execCRsp p m s) s := by
  simp [execCRsp]

theorem execCData_mems (p : Port) (m : CohBypass) (s : State) : Result.keepsMem (execCData p m s) s := by
  simp [execCData]

@[simp ↓] theorem State.installFill_mems (s : State) (p : Nat) (l : Nat) (tenant : Nat) (data : LineData) (poison : Bool) : (State.installFill s p l tenant data poison).mems = s.mems := by
  unfold State.installFill
  try dsimp only
  repeat' (first
    | assumption
    | (simp [*]; done)
    | (intro _)
    | split)

theorem execPrefetchFill_mems (p : Port) (line : Line) (tenant : TenantId) (data : LineData) (s : State) : Result.keepsMem (execPrefetchFill p line tenant data s) s := by
  unfold execPrefetchFill
  refine (keepsMem_next _ _).2 ?_
  repeat' (first
    | assumption
    | (simp [*]; done)
    | (refine State.libRun_mems _ _ _ _ ?_)
    | (refine State.libArgs_mems _ _ _ _ ?_)
    | (refine State.libOp_mems _ _ _ _ _ _ ?_)
    | (refine State.eventSet_mems _ _ _ _ ?_)
    | (refine State.counterSet_mems _ _ _ _ ?_)
    | (intro _)
    | split
    | (refine (State.withCredit_mems _ _ _ _ _ _ ?_).trans ?_)
    | (refine (State.arrive_mems _ _).trans ?_)
    | (exact State.takeArrived_nextMem ‹_›))

theorem execBiConflict_mems (agent : AgentId) (line : Line) (s : State) : Result.keepsMem (execBiConflict agent line s) s := by
  simp [execBiConflict]

theorem execDeadAgentScanDone_mems (a : AgentId) (s : State) : Result.keepsMem (execDeadAgentScanDone a s) s := by
  simp [execDeadAgentScanDone]

theorem execCoherentFlushDone_mems (t : TenantId) (s : State) : Result.keepsMem (execCoherentFlushDone t s) s := by
  unfold execCoherentFlushDone
  refine (keepsMem_next _ _).2 ?_
  try dsimp only
  repeat' (first
    | assumption
    | simp [*]
    | (intro _)
    | split)

@[simp ↓] theorem State.lateJunction_mems (s : State) (p : Nat) (win : Nat) (tag : Nat) (err : Nat) : (State.lateJunction s p win tag err).mems = s.mems := by
  simp [State.lateJunction]

@[simp ↓] theorem State.wrapRequest_mems (s : State) (p : Port) (w : Wrap) : (State.wrapRequest s p w).mems = s.mems := by
  unfold State.wrapRequest
  dsimp only
  repeat' (first
    | (simp; done)
    | split)

@[simp ↓] theorem State.wrapCompletion_mems (s : State) (p : Port) (w : Wrap) : (State.wrapCompletion s p w).mems = s.mems := by
  unfold State.wrapCompletion
  try dsimp only
  repeat' (first
    | assumption
    | simp [*]
    | (intro _)
    | split)

theorem execJunctionWrapReceive_mems (p : Port) (w : Wrap) (s : State) : Result.keepsMem (execJunctionWrapReceive p w s) s := by
  unfold execJunctionWrapReceive
  refine (keepsMem_next _ _).2 ?_
  repeat' (first
    | assumption
    | (simp [*]; done)
    | (refine State.libRun_mems _ _ _ _ ?_)
    | (refine State.libArgs_mems _ _ _ _ ?_)
    | (refine State.libOp_mems _ _ _ _ _ _ ?_)
    | (refine State.eventSet_mems _ _ _ _ ?_)
    | (refine State.counterSet_mems _ _ _ _ ?_)
    | (intro _)
    | split
    | (refine (State.withCredit_mems _ _ _ _ _ _ ?_).trans ?_)
    | (refine (State.arrive_mems _ _).trans ?_)
    | (exact State.takeArrived_nextMem ‹_›))

theorem execJunctionFarTimeout_mems (tag : Tag) (s : State) : Result.keepsMem (execJunctionFarTimeout tag s) s := by
  unfold execJunctionFarTimeout
  refine (keepsMem_next _ _).2 ?_
  try dsimp only
  repeat' (first
    | assumption
    | simp [*]
    | (intro _)
    | split)

theorem execJunctionNearTimeout_mems (tag : Tag) (s : State) : Result.keepsMem (execJunctionNearTimeout tag s) s := by
  unfold execJunctionNearTimeout
  refine (keepsMem_next _ _).2 ?_
  try dsimp only
  repeat' (first
    | assumption
    | simp [*]
    | (intro _)
    | split)

@[simp ↓] theorem State.sendDue_mems (s : State) : (State.sendDue s).mems = s.mems := by
  unfold State.sendDue
  try dsimp only
  repeat' (first
    | assumption
    | (simp [*]; done)
    | (intro _)
    | split
    | (refine (foldl_mems ?_ _ _).trans ?_))

@[simp ↓] theorem State.nextAccess_mems (s : State) (w : Nat) : (State.nextAccess s w).mems = s.mems := by
  simp [State.nextAccess]

@[simp ↓] theorem State.failAccess_mems (s : State) (w : Nat) (status : Nat) (a : BusAccess) : (State.failAccess s w status a).mems = s.mems := by
  simp [State.failAccess]

@[simp ↓] theorem State.modAccess_mems (s : State) (w : Nat) (f : BusAccess → BusAccess) : (State.modAccess s w f).mems = s.mems := by
  simp [State.modAccess]

theorem execSbTransferEnd_mems (w : WindowNo) (nack : Bool) (bytes : List Byte) (s : State) : Result.keepsMem (execSbTransferEnd w nack bytes s) s := by
  unfold execSbTransferEnd
  refine (keepsMem_next _ _).2 ?_
  try dsimp only
  repeat' (first
    | assumption
    | (simp [*]; done)
    | (intro _)
    | split)

theorem execSbArbitrationLost_mems (w : WindowNo) (s : State) : Result.keepsMem (execSbArbitrationLost w s) s := by
  unfold execSbArbitrationLost
  refine (keepsMem_next _ _).2 ?_
  try dsimp only
  repeat' (first
    | assumption
    | simp [*]
    | (intro _)
    | split)

theorem execSbReissue_mems (w : WindowNo) (s : State) : Result.keepsMem (execSbReissue w s) s := by
  unfold execSbReissue
  refine (keepsMem_next _ _).2 ?_
  try dsimp only
  repeat' (first
    | assumption
    | simp [*]
    | (intro _)
    | split)

theorem execSbReadTimeout_mems (w : WindowNo) (s : State) : Result.keepsMem (execSbReadTimeout w s) s := by
  unfold execSbReadTimeout
  refine (keepsMem_next _ _).2 ?_
  try dsimp only
  repeat' (first
    | assumption
    | simp [*]
    | (intro _)
    | split)

theorem execWindowPoll_mems (w : WindowNo) (alertLow : Bool) (gpiHigh : Bool) (s : State) : Result.keepsMem (execWindowPoll w alertLow gpiHigh s) s := by
  simp [execWindowPoll]

theorem execAdd_mems (c : Core) (o : RRR) (s : State) : Result.keepsMem (execAdd c o s) s := by
  simp [execAdd]

theorem execSub_mems (c : Core) (o : RRR) (s : State) : Result.keepsMem (execSub c o s) s := by
  simp [execSub]

theorem execAndAlu_mems (c : Core) (o : RRR) (s : State) : Result.keepsMem (execAndAlu c o s) s := by
  simp [execAndAlu]

theorem execOrAlu_mems (c : Core) (o : RRR) (s : State) : Result.keepsMem (execOrAlu c o s) s := by
  simp [execOrAlu]

theorem execXorAlu_mems (c : Core) (o : RRR) (s : State) : Result.keepsMem (execXorAlu c o s) s := by
  simp [execXorAlu]

theorem execSll_mems (c : Core) (o : RRR) (s : State) : Result.keepsMem (execSll c o s) s := by
  simp [execSll]

theorem execSrl_mems (c : Core) (o : RRR) (s : State) : Result.keepsMem (execSrl c o s) s := by
  simp [execSrl]

theorem execSra_mems (c : Core) (o : RRR) (s : State) : Result.keepsMem (execSra c o s) s := by
  simp [execSra]

theorem execSlt_mems (c : Core) (o : RRR) (s : State) : Result.keepsMem (execSlt c o s) s := by
  simp [execSlt]

theorem execSltu_mems (c : Core) (o : RRR) (s : State) : Result.keepsMem (execSltu c o s) s := by
  simp [execSltu]

theorem execMul_mems (c : Core) (o : RRR) (s : State) : Result.keepsMem (execMul c o s) s := by
  simp [execMul]

theorem execMulhu_mems (c : Core) (o : RRR) (s : State) : Result.keepsMem (execMulhu c o s) s := by
  simp [execMulhu]

theorem execDivu_mems (c : Core) (o : RRR) (s : State) : Result.keepsMem (execDivu c o s) s := by
  simp [execDivu]

theorem execRemu_mems (c : Core) (o : RRR) (s : State) : Result.keepsMem (execRemu c o s) s := by
  simp [execRemu]

theorem execMinu_mems (c : Core) (o : RRR) (s : State) : Result.keepsMem (execMinu c o s) s := by
  simp [execMinu]

theorem execMaxu_mems (c : Core) (o : RRR) (s : State) : Result.keepsMem (execMaxu c o s) s := by
  simp [execMaxu]

theorem execAddi_mems (c : Core) (o : IOp) (s : State) : Result.keepsMem (execAddi c o s) s := by
  simp [execAddi]

theorem execAndi_mems (c : Core) (o : IOp) (s : State) : Result.keepsMem (execAndi c o s) s := by
  simp [execAndi]

theorem execOri_mems (c : Core) (o : IOp) (s : State) : Result.keepsMem (execOri c o s) s := by
  simp [execOri]

theorem execXori_mems (c : Core) (o : IOp) (s : State) : Result.keepsMem (execXori c o s) s := by
  simp [execXori]

theorem execExtField_mems (c : Core) (o : IOp) (s : State) : Result.keepsMem (execExtField c o s) s := by
  simp [execExtField]

theorem execInsField_mems (c : Core) (o : IOp) (s : State) : Result.keepsMem (execInsField c o s) s := by
  simp [execInsField]

theorem execLui_mems (c : Core) (o : IOp) (s : State) : Result.keepsMem (execLui c o s) s := by
  simp [execLui]

theorem execShor_mems (c : Core) (o : IOp) (s : State) : Result.keepsMem (execShor c o s) s := by
  simp [execShor]

theorem execSlti_mems (c : Core) (o : IOp) (s : State) : Result.keepsMem (execSlti c o s) s := by
  simp [execSlti]

theorem execSltiu_mems (c : Core) (o : IOp) (s : State) : Result.keepsMem (execSltiu c o s) s := by
  simp [execSltiu]

theorem execSlli_mems (c : Core) (o : IOp) (s : State) : Result.keepsMem (execSlli c o s) s := by
  simp [execSlli]

theorem execSrli_mems (c : Core) (o : IOp) (s : State) : Result.keepsMem (execSrli c o s) s := by
  simp [execSrli]

theorem execSrai_mems (c : Core) (o : IOp) (s : State) : Result.keepsMem (execSrai c o s) s := by
  simp [execSrai]

theorem execLd_mems (c : Core) (o : IOp) (s : State) : Result.keepsMem (execLd c o s) s := by
  simp [execLd]

theorem execLw_mems (c : Core) (o : IOp) (s : State) : Result.keepsMem (execLw c o s) s := by
  simp [execLw]

theorem execLb_mems (c : Core) (o : IOp) (s : State) : Result.keepsMem (execLb c o s) s := by
  simp [execLb]

theorem execJal_mems (c : Core) (o : IOp) (s : State) : Result.keepsMem (execJal c o s) s := by
  simp [execJal]

theorem execJalr_mems (c : Core) (o : IOp) (s : State) : Result.keepsMem (execJalr c o s) s := by
  simp [execJalr]

theorem execBeq_mems (c : Core) (o : BOp) (s : State) : Result.keepsMem (execBeq c o s) s := by
  simp [execBeq]

theorem execBne_mems (c : Core) (o : BOp) (s : State) : Result.keepsMem (execBne c o s) s := by
  simp [execBne]

theorem execBlt_mems (c : Core) (o : BOp) (s : State) : Result.keepsMem (execBlt c o s) s := by
  simp [execBlt]

theorem execBge_mems (c : Core) (o : BOp) (s : State) : Result.keepsMem (execBge c o s) s := by
  simp [execBge]

theorem execBltu_mems (c : Core) (o : BOp) (s : State) : Result.keepsMem (execBltu c o s) s := by
  simp [execBltu]

theorem execBgeu_mems (c : Core) (o : BOp) (s : State) : Result.keepsMem (execBgeu c o s) s := by
  simp [execBgeu]

@[simp ↓] theorem State.haltEnds_mems (s : State) : (State.haltEnds s).mems = s.mems := by
  simp [State.haltEnds]

theorem execErrlogRead_mems (c : Core) (s : State) : Result.keepsMem (execErrlogRead c s) s := by
  simp [execErrlogRead]

@[simp ↓] theorem State.adaptBy_mems (s : State) (x : ShaperItem) : (State.adaptBy s x).mems = s.mems := by
  simp [State.adaptBy]

@[simp ↓] theorem State.readItems_mems (s : State) (o : Order) (a2 : List Nat) (a3 : List Byte) : (State.readItems s o a2 a3).1.mems = s.mems := by
  fun_induction State.readItems s o a2 a3 <;> simp_all

theorem execReadFields_mems (c : Core) (s : State) : Result.keepsMem (execReadFields c s) s := by
  unfold execReadFields
  refine (keepsMem_next _ _).2 ?_
  try dsimp only
  repeat' (first
    | assumption
    | (simp [*]; done)
    | (refine State.libRun_mems _ _ _ _ ?_)
    | (refine State.libArgs_mems _ _ _ _ ?_)
    | (intro _)
    | split
    | (refine (foldl_mems ?_ _ _).trans ?_)
    | (refine ((congrArg (fun z => State.mems z.1) ‹_ = (_, _)›).symm.trans ?_))
    | simp)

@[simp ↓] theorem State.info_mems (s : State) (c : Core) (kind : Nat) : (State.info s c kind).mems = s.mems := by
  unfold State.info
  try dsimp only
  repeat' (first
    | assumption
    | simp [*]
    | (refine State.libRun_mems _ _ _ _ ?_))

theorem execInfoIdentify_mems (c : Core) (s : State) : Result.keepsMem (execInfoIdentify c s) s := by
  simp [execInfoIdentify]

theorem execInfoPortState_mems (c : Core) (s : State) : Result.keepsMem (execInfoPortState c s) s := by
  simp [execInfoPortState]

theorem execInfoVcs_mems (c : Core) (s : State) : Result.keepsMem (execInfoVcs c s) s := by
  simp [execInfoVcs]

@[simp ↓] theorem State.fromVdm_mems (s : State) (p : Port) (body : State → State) (hbody : ∀ b0, (body b0).mems = b0.mems) : (State.fromVdm s p body).mems = s.mems := by
  unfold State.fromVdm
  try dsimp only
  repeat' (first
    | assumption
    | simp [*])

@[simp ↓] theorem State.fromBus_mems (s : State) (body : State → State) (hbody : ∀ b0, (body b0).mems = b0.mems) : (State.fromBus s body).mems = s.mems := by
  unfold State.fromBus
  try dsimp only
  repeat' (first
    | assumption
    | simp [*]
    | (intro _)
    | split)

@[simp ↓] theorem State.reassembled_mems (s : State) (frame : List Byte) (body : State → State) (hbody : ∀ b0, (body b0).mems = b0.mems) : (State.reassembled s frame body).mems = s.mems := by
  unfold State.reassembled
  try dsimp only
  repeat' (first
    | assumption
    | simp [*])

theorem execSubmitOrder_mems (src : OrderSource) (s : State) : Result.keepsMem (execSubmitOrder src s) s := by
  unfold execSubmitOrder
  refine (keepsMem_next _ _).2 ?_
  try dsimp only
  repeat' (first
    | assumption
    | simp [*]
    | (refine State.fromVdm_mems _ _ _ ?_)
    | (refine State.fromBus_mems _ _ ?_)
    | (intro _)
    | split)

@[simp ↓] theorem State.answerApi_mems (s : State) (src : RequestSource) (ret : Nat) (status : Nat) (data : List Byte) : (State.answerApi s src ret status data).mems = s.mems := by
  unfold State.answerApi
  try dsimp only
  repeat' (first
    | assumption
    | (simp [*]; done)
    | (intro _)
    | split)

@[simp ↓] theorem State.fromApi_mems (s : State) (src : RequestSource) (opcodes : Nat → Bool) (body : State → State) (hbody : ∀ b0, (body b0).mems = b0.mems) : (State.fromApi s src opcodes body).mems = s.mems := by
  unfold State.fromApi
  try dsimp only
  repeat' (first
    | assumption
    | (simp [*]; done)
    | (intro _)
    | split)

@[simp ↓] theorem State.apiCommand_mems (s : State) (src : RequestSource) (opcodes : Nat → Bool) (libid : Nat) (args : List Byte) : (State.apiCommand s src opcodes libid args).mems = s.mems := by
  simp [State.apiCommand]

@[simp ↓] theorem State.apiBackground_mems (s : State) (src : RequestSource) (opcode : Nat) (libid : Nat) (args : List Byte) : (State.apiBackground s src opcode libid args).mems = s.mems := by
  unfold State.apiBackground
  try dsimp only
  repeat' (first
    | assumption
    | simp [*]
    | (refine State.fromApi_mems _ _ _ _ ?_)
    | (intro _)
    | split)

theorem execVendorOpcodeUnsupported_mems (src : RequestSource) (opcode : BitVec 16) (s : State) : Result.keepsMem (execVendorOpcodeUnsupported src opcode s) s := by
  simp [execVendorOpcodeUnsupported]

theorem execIdentifySwitchDevice_mems (src : RequestSource) (s : State) : Result.keepsMem (execIdentifySwitchDevice src s) s := by
  simp [execIdentifySwitchDevice]

theorem execGetPhysicalPortState_mems (src : RequestSource) (start : BitVec 16) (count : BitVec 16) (s : State) : Result.keepsMem (execGetPhysicalPortState src start count s) s := by
  simp [execGetPhysicalPortState]

theorem execPhysicalPortControl_mems (src : RequestSource) (port : Byte) (op : Byte) (s : State) : Result.keepsMem (execPhysicalPortControl src port op s) s := by
  simp [execPhysicalPortControl]

theorem execSendPpbCxlioConfigRequest_mems (src : RequestSource) (port : Byte) (op : Byte) (reg : BitVec 16) (be : Byte) (data : BitVec 32) (s : State) : Result.keepsMem (execSendPpbCxlioConfigRequest src port op reg be data s) s := by
  simp [execSendPpbCxlioConfigRequest]

theorem execGetVirtualCxlSwitchInfo_mems (src : RequestSource) (start : BitVec 16) (count : BitVec 16) (s : State) : Result.keepsMem (execGetVirtualCxlSwitchInfo src start count s) s := by
  simp [execGetVirtualCxlSwitchInfo]

theorem execBindVppb_mems (src : RequestSource) (vcs : Byte) (vppb : Byte) (kind : Byte) (port : Byte) (ldid : BitVec 16) (s : State) : Result.keepsMem (execBindVppb src vcs vppb kind port ldid s) s := by
  simp [execBindVppb]

theorem execUnbindVppb_mems (src : RequestSource) (vcs : Byte) (vppb : Byte) (option : Byte) (s : State) : Result.keepsMem (execUnbindVppb src vcs vppb option s) s := by
  simp [execUnbindVppb]

theorem execGenerateAerEvent_mems (src : RequestSource) (vcs : Byte) (vppb : Byte) (error : BitVec 32) (header : List Byte) (s : State) : Result.keepsMem (execGenerateAerEvent src vcs vppb error header s) s := by
  simp [execGenerateAerEvent]

theorem execTunnelManagementCommand_mems (src : RequestSource) (port : Byte) (target : BitVec 16) (request : List Byte) (s : State) : Result.keepsMem (execTunnelManagementCommand src port target request s) s := by
  simp [execTunnelManagementCommand]

theorem execSendLdCxlioConfigRequest_mems (src : RequestSource) (port : Byte) (ldid : BitVec 16) (request : List Byte) (s : State) : Result.keepsMem (execSendLdCxlioConfigRequest src port ldid request s) s := by
  simp [execSendLdCxlioConfigRequest]

theorem execSendLdCxlioMemoryRequest_mems (src : RequestSource) (port : Byte) (ldid : BitVec 16) (request : List Byte) (s : State) : Result.keepsMem (execSendLdCxlioMemoryRequest src port ldid request s) s := by
  simp [execSendLdCxlioMemoryRequest]

theorem execPbrAndGfdCommand_mems (src : RequestSource) (cmd : FabricCommand) (s : State) : Result.keepsMem (execPbrAndGfdCommand src cmd s) s := by
  unfold execPbrAndGfdCommand
  refine (keepsMem_next _ _).2 ?_
  try dsimp only
  repeat' (first
    | assumption
    | (simp [*]; done)
    | (intro _)
    | split)

theorem execBackgroundComplete_mems (s : State) : Result.keepsMem (execBackgroundComplete s) s := by
  unfold execBackgroundComplete
  refine (keepsMem_next _ _).2 ?_
  try dsimp only
  repeat' (first
    | assumption
    | simp [*]
    | (intro _)
    | split)

theorem execTwGo_mems (t : TenantId) (ctl : BitVec 32) (s : State) : Result.keepsMem (execTwGo t ctl s) s := by
  simp [execTwGo]

theorem execOrderDispatch_mems (c : Core) (s : State) : Result.keepsMem (execOrderDispatch c s) s := by
  simp [execOrderDispatch]

theorem execOrderDeadline_mems (id : Nat) (s : State) : Result.keepsMem (execOrderDeadline id s) s := by
  unfold execOrderDeadline
  refine (keepsMem_next _ _).2 ?_
  try dsimp only
  repeat' (first
    | assumption
    | simp [*]
    | (intro _)
    | split)

@[simp ↓] theorem State.noteOccupancy_mems (s : State) : (State.noteOccupancy s).mems = s.mems := by
  simp [State.noteOccupancy]

@[simp ↓] theorem State.repairSingles_mems (s : State) : (State.repairSingles s).mems = s.mems := by
  simp [State.repairSingles]

@[simp ↓] theorem State.resetTrackers_mems (s : State) : (State.resetTrackers s).mems = s.mems := by
  simp [State.resetTrackers]

theorem execRoundBoundary_mems (s : State) : Result.keepsMem (execRoundBoundary s) s := by
  simp [execRoundBoundary]

theorem execParticipantStuck_mems (who : Participant) (s : State) : Result.keepsMem (execParticipantStuck who s) s := by
  unfold execParticipantStuck
  refine (keepsMem_next _ _).2 ?_
  try dsimp only
  repeat' (first
    | assumption
    | simp [*]
    | (intro _)
    | split)

@[simp ↓] theorem State.payOwed_mems (s : State) (p : Nat) : (State.payOwed s p).mems = s.mems := by
  simp [State.payOwed]

theorem execRateWindow_mems (ends : Nat) (s : State) : Result.keepsMem (execRateWindow ends s) s := by
  simp [execRateWindow]

@[simp ↓] theorem State.arrive_mems (s : State) (f : FrameIn) : (State.arrive s f).mems = s.mems := by
  simp [State.arrive]

theorem execFrameAdmit_mems (f : FrameIn) (s : State) : Result.keepsMem (execFrameAdmit f s) s := by
  unfold execFrameAdmit
  refine (keepsMem_next _ _).2 ?_
  repeat' (first
    | assumption
    | (simp [*]; done)
    | (refine State.libRun_mems _ _ _ _ ?_)
    | (refine State.libArgs_mems _ _ _ _ ?_)
    | (refine State.libOp_mems _ _ _ _ _ _ ?_)
    | (refine State.eventSet_mems _ _ _ _ ?_)
    | (refine State.counterSet_mems _ _ _ _ ?_)
    | (intro _)
    | split
    | (refine (State.withCredit_mems _ _ _ _ _ _ ?_).trans ?_)
    | (refine (State.arrive_mems _ _).trans ?_)
    | (exact State.takeArrived_nextMem ‹_›))

theorem execLoanReturn_mems (p : Port) (s : State) : Result.keepsMem (execLoanReturn p s) s := by
  simp [execLoanReturn]

theorem execAdmissionRelease_mems (p : Port) (cl : Class) (s : State) : Result.keepsMem (execAdmissionRelease p cl s) s := by
  unfold execAdmissionRelease
  refine (keepsMem_next _ _).2 ?_
  try dsimp only
  repeat' (first
    | assumption
    | (simp [*]; done)
    | (intro _)
    | split)

@[simp ↓] theorem State.startBypass_mems (s : State) (p : Nat) : (State.startBypass s p).mems = s.mems := by
  unfold State.startBypass
  try dsimp only
  repeat' (first
    | assumption
    | simp [*]
    | (intro _)
    | split)

theorem execFrameStart_mems (p : Port) (s : State) : Result.keepsMem (execFrameStart p s) s := by
  unfold execFrameStart
  refine (keepsMem_next _ _).2 ?_
  try dsimp only
  repeat' (first
    | assumption
    | (simp [*]; done)
    | (intro _)
    | split
    | (refine (foldl_mems ?_ _ _).trans ?_)
    | (refine ((congrArg (fun z => State.mems z.1) ‹_ = (_, _)›).symm.trans ?_))
    | simp)

theorem execFrameSent_mems (p : Port) (s : State) : Result.keepsMem (execFrameSent p s) s := by
  unfold execFrameSent
  refine (keepsMem_next _ _).2 ?_
  try dsimp only
  repeat' (first
    | assumption
    | (simp [*]; done)
    | (intro _)
    | split)

@[simp ↓] theorem State.configToBus_mems (s : State) (v : Nat) (usp : Nat) (bus : Nat) (fn : Nat) (write : Bool) (reg : Nat) (data : Nat) : (State.configToBus s v usp bus fn write reg data).mems = s.mems := by
  unfold State.configToBus
  try dsimp only
  repeat' (first
    | assumption
    | simp [*]
    | (intro _)
    | split)

theorem execConfigurationRequest_mems (v : Vcs) (req : ConfigRequest) (s : State) : Result.keepsMem (execConfigurationRequest v req s) s := by
  unfold execConfigurationRequest
  refine (keepsMem_next _ _).2 ?_
  try dsimp only
  repeat' (first
    | assumption
    | simp [*]
    | (intro _)
    | split)

end Sys2Proof.Machine
end

