-- ==== Sys2Proof/Laws/MemoriesRest.lean ====
section
/-! SUPPORT. The commands of power, registers, security, slots, the Trunk and time leave the bytes of the pool and of the Lever's shared
data memory alone. -/

namespace Sys2Proof.Machine

theorem execSidingEntry_mems (st : Station) (s : State) : Result.keepsMem (execSidingEntry st s) s := by
  simp [execSidingEntry]

theorem execSidingEntryDone_mems (st : Station) (s : State) : Result.keepsMem (execSidingEntryDone st s) s := by
  simp [execSidingEntryDone]

theorem execSidingWake_mems (st : Station) (src : SidingWakeSource) (s : State) : Result.keepsMem (execSidingWake st src s) s := by
  unfold execSidingWake
  refine (keepsMem_next _ _).2 ?_
  try dsimp only
  repeat' (first
    | assumption
    | (simp [*]; done)
    | (intro _)
    | split)

theorem execSidingExitReady_mems (st : Station) (s : State) : Result.keepsMem (execSidingExitReady st s) s := by
  simp [execSidingExitReady]

theorem execDomainPowerUpDone_mems (d : Domain) (s : State) : Result.keepsMem (execDomainPowerUpDone d s) s := by
  simp [execDomainPowerUpDone]

theorem execStationDomainOff_mems (st : Station) (s : State) : Result.keepsMem (execStationDomainOff st s) s := by
  simp [execStationDomainOff]

theorem execQuadrantGateDrained_mems (q : Quadrant) (s : State) : Result.keepsMem (execQuadrantGateDrained q s) s := by
  simp [execQuadrantGateDrained]

theorem execPinnedRemap_mems (s : State) : Result.keepsMem (execPinnedRemap s) s := by
  simp [execPinnedRemap]

theorem execQuadrantAutoGate_mems (s : State) : Result.keepsMem (execQuadrantAutoGate s) s := by
  unfold execQuadrantAutoGate
  refine (keepsMem_next _ _).2 ?_
  try dsimp only
  repeat' (first
    | assumption
    | (simp [*]; done)
    | (intro _)
    | split)

theorem execQuadrantAutoUngate_mems (s : State) : Result.keepsMem (execQuadrantAutoUngate s) s := by
  unfold execQuadrantAutoUngate
  refine (keepsMem_next _ _).2 ?_
  try dsimp only
  repeat' (first
    | assumption
    | (simp [*]; done)
    | (intro _)
    | split)

@[simp ↓] theorem State.emptyLoft_mems (s : State) : (State.emptyLoft s).mems = s.mems := by
  simp [State.emptyLoft]

theorem execPd3Pd4Off_mems (s : State) : Result.keepsMem (execPd3Pd4Off s) s := by
  simp [execPd3Pd4Off]

@[simp ↓] theorem State.entryEndsOrders_mems (s : State) : (State.entryEndsOrders s).mems = s.mems := by
  simp [State.entryEndsOrders]

@[simp ↓] theorem State.ordersResume_mems (s : State) : (State.ordersResume s).mems = s.mems := by
  simp [State.ordersResume]

theorem execEntryOrdersEnded_mems (s : State) : Result.keepsMem (execEntryOrdersEnded s) s := by
  unfold execEntryOrdersEnded
  refine (keepsMem_next _ _).2 ?_
  try dsimp only
  repeat' (first
    | assumption
    | (simp [*]; done)
    | (intro _)
    | split)

theorem execEntryLinksDown_mems (s : State) : Result.keepsMem (execEntryLinksDown s) s := by
  unfold execEntryLinksDown
  refine (keepsMem_next _ _).2 ?_
  try dsimp only
  repeat' (first
    | assumption
    | (simp [*]; done)
    | (intro _)
    | split)

@[simp ↓] theorem State.fallAsleep_mems (s : State) (state : Nat) : (State.fallAsleep s state).mems = s.mems := by
  simp [State.fallAsleep]

theorem execEntryDomainsOff_mems (s : State) : Result.keepsMem (execEntryDomainsOff s) s := by
  unfold execEntryDomainsOff
  refine (keepsMem_next _ _).2 ?_
  try dsimp only
  repeat' (first
    | assumption
    | simp [*]
    | (intro _)
    | split)

theorem execEntryRailsOff_mems (s : State) : Result.keepsMem (execEntryRailsOff s) s := by
  unfold execEntryRailsOff
  refine (keepsMem_next _ _).2 ?_
  try dsimp only
  repeat' (first
    | assumption
    | simp [*]
    | (intro _)
    | split)

theorem execWake_mems (src : Fin 8) (s : State) : Result.keepsMem (execWake src s) s := by
  simp [execWake]

theorem execWatchSample_mems (temps : List Nat) (slots : List SlotWindow) (squelch : List Port) (s : State) : Result.keepsMem (execWatchSample temps slots squelch s) s := by
  simp [execWatchSample]

@[simp ↓] theorem State.wakeStep_mems (s : State) (at_ : Nat) (body : Nat → State → State) (hbody : ∀ b0 b1, (body b0 b1).mems = b1.mems) : (State.wakeStep s at_ body).mems = s.mems := by
  unfold State.wakeStep
  try dsimp only
  repeat' (first
    | assumption
    | simp [*]
    | (intro _)
    | split)

theorem execPwrRdy_mems (s : State) : Result.keepsMem (execPwrRdy s) s := by
  simp [execPwrRdy]

theorem execOscRdy_mems (s : State) : Result.keepsMem (execOscRdy s) s := by
  simp [execOscRdy]

theorem execMemRdy_mems (s : State) : Result.keepsMem (execMemRdy s) s := by
  simp [execMemRdy]

@[simp ↓] theorem State.leaveStandby_mems (s : State) : (State.leaveStandby s).mems = s.mems := by
  simp [State.leaveStandby]

theorem execVrPgTimeout_mems (s : State) : Result.keepsMem (execVrPgTimeout s) s := by
  unfold execVrPgTimeout
  refine (keepsMem_next _ _).2 ?_
  try dsimp only
  repeat' (first
    | assumption
    | (simp [*]; done)
    | (intro _)
    | split)

theorem execWakeRetry_mems (s : State) : Result.keepsMem (execWakeRetry s) s := by
  unfold execWakeRetry
  refine (keepsMem_next _ _).2 ?_
  try dsimp only
  repeat' (first
    | assumption
    | simp [*]
    | (intro _)
    | split)

theorem execSagWarning_mems (r : Rail) (mv : Nat) (s : State) : Result.keepsMem (execSagWarning r mv s) s := by
  simp [execSagWarning]

theorem execSagWarnRelease_mems (s : State) : Result.keepsMem (execSagWarnRelease s) s := by
  simp [execSagWarnRelease]

theorem execSagRecovery_mems (s : State) : Result.keepsMem (execSagRecovery s) s := by
  simp [execSagRecovery]

theorem execAvsStep_mems (s : State) : Result.keepsMem (execAvsStep s) s := by
  simp [execAvsStep]

theorem execRailSample_mems (mv : List Nat) (s : State) : Result.keepsMem (execRailSample mv s) s := by
  simp [execRailSample]

@[simp ↓] theorem State.readSensor_mems (s : State) (i : Nat) (q : Int) : (State.readSensor s i q).mems = s.mems := by
  simp [State.readSensor]

theorem execSensorSample_mems (quarters : List Int) (s : State) : Result.keepsMem (execSensorSample quarters s) s := by
  simp [execSensorSample]

theorem execRefclkLoss_mems (b : Bool) (s : State) : Result.keepsMem (execRefclkLoss b s) s := by
  simp [execRefclkLoss]

theorem execRefclkReturn_mems (b : Bool) (s : State) : Result.keepsMem (execRefclkReturn b s) s := by
  simp [execRefclkReturn]

@[simp ↓] theorem State.mailboxByte_mems (s : State) (off : Nat) (b : Byte) : (State.mailboxByte s off b).mems = s.mems := by
  simp [State.mailboxByte]

@[simp ↓] theorem State.registerByte_mems (s : State) (a : Nat) (b : Byte) : (State.registerByte s a b).mems = s.mems := by
  simp [State.registerByte]

@[simp ↓] theorem State.registerBytes_mems (s : State) (a1 : Nat) (a2 : List Byte) : (State.registerBytes s a1 a2).mems = s.mems := by
  fun_induction State.registerBytes s a1 a2 <;> simp_all

theorem execRegisterWrite_mems (addr : Nat) (size : Nat) (value : BitVec 64) (s : State) : Result.keepsMem (execRegisterWrite addr size value s) s := by
  unfold execRegisterWrite
  refine (keepsMem_next _ _).2 ?_
  try dsimp only
  repeat' (first
    | assumption
    | (simp [*]; done)
    | (intro _)
    | split)

theorem execSmbusTimeout_mems (s : State) : Result.keepsMem (execSmbusTimeout s) s := by
  simp [execSmbusTimeout]

theorem execDynamicAddressAssignment_mems (_setdasa : Bool) (address : BitVec 7) (s : State) : Result.keepsMem (execDynamicAddressAssignment _setdasa address s) s := by
  simp [execDynamicAddressAssignment]

@[simp ↓] theorem State.atEndpoint_mems (s : State) (e : Endpoint) (body : State → State) (hbody : ∀ b0, (body b0).mems = b0.mems) : (State.atEndpoint s e body).mems = s.mems := by
  unfold State.atEndpoint
  try dsimp only
  repeat' (first
    | assumption
    | (simp [*]; done)
    | (intro _)
    | split)

@[simp ↓] theorem State.trunkMessage_mems (s : State) (p : Nat) (a2 : Nat) (a3 : List Byte) : (State.trunkMessage s p a2 a3).mems = s.mems := by
  fun_induction State.trunkMessage s p a2 a3 <;> simp_all

@[simp ↓] theorem State.mctpAnswer_mems (s : State) (e : Endpoint) (command : Nat) (bytes : List Byte) : (State.mctpAnswer s e command bytes).mems = s.mems := by
  unfold State.mctpAnswer
  try dsimp only
  repeat' (first
    | assumption
    | simp [*]
    | (intro _)
    | split)

@[simp ↓] theorem State.setEid_mems (s : State) (e : Endpoint) (v : Nat) : (State.setEid s e v).mems = s.mems := by
  simp [State.setEid]

theorem execSetEndpointId_mems (e : Endpoint) (eid : Byte) (s : State) : Result.keepsMem (execSetEndpointId e eid s) s := by
  simp [execSetEndpointId]

theorem execGetEndpointId_mems (e : Endpoint) (s : State) : Result.keepsMem (execGetEndpointId e s) s := by
  simp [execGetEndpointId]

theorem execGetMctpVersionSupport_mems (e : Endpoint) (msgType : Byte) (s : State) : Result.keepsMem (execGetMctpVersionSupport e msgType s) s := by
  simp [execGetMctpVersionSupport]

theorem execGetMessageTypeSupport_mems (e : Endpoint) (s : State) : Result.keepsMem (execGetMessageTypeSupport e s) s := by
  simp [execGetMessageTypeSupport]

theorem execGetVendorMessageSupport_mems (e : Endpoint) (s : State) : Result.keepsMem (execGetVendorMessageSupport e s) s := by
  unfold execGetVendorMessageSupport
  refine (keepsMem_next _ _).2 ?_
  try dsimp only
  repeat' (first
    | assumption
    | (simp [*]; done)
    | (refine State.atEndpoint_mems _ _ _ ?_)
    | (intro _)
    | split)

theorem execDoeDiscovery_mems (v : Vcs) (index : Byte) (s : State) : Result.keepsMem (execDoeDiscovery v index s) s := by
  simp [execDoeDiscovery]

@[simp ↓] theorem State.spdmAnswer_mems (s : State) (e : SpdmEnd) (code : Nat) (bytes : List Byte) : (State.spdmAnswer s e code bytes).mems = s.mems := by
  unfold State.spdmAnswer
  try dsimp only
  repeat' (first
    | assumption
    | simp [*]
    | (intro _)
    | split)

@[simp ↓] theorem State.spdmError_mems (s : State) (e : SpdmEnd) (code : Nat) (more : List Byte) : (State.spdmError s e code more).mems = s.mems := by
  simp [State.spdmError]

@[simp ↓] theorem State.atSpdm_mems (s : State) (e : SpdmEnd) (body : State → State) (hbody : ∀ b0, (body b0).mems = b0.mems) : (State.atSpdm s e body).mems = s.mems := by
  unfold State.atSpdm
  try dsimp only
  repeat' (first
    | assumption
    | (simp [*]; done)
    | (intro _)
    | split)

@[simp ↓] theorem State.offered_mems (s : State) (e : SpdmEnd) (body : State → State) (hbody : ∀ b0, (body b0).mems = b0.mems) : (State.offered s e body).mems = s.mems := by
  unfold State.offered
  try dsimp only
  repeat' (first
    | assumption
    | simp [*])

theorem execGetMeasurements_mems (e : SpdmEnd) (nonce : List Byte) (s : State) : Result.keepsMem (execGetMeasurements e nonce s) s := by
  simp [execGetMeasurements]

theorem execGetCertificate_mems (e : SpdmEnd) (certSlot : Fin 8) (s : State) : Result.keepsMem (execGetCertificate e certSlot s) s := by
  simp [execGetCertificate]

theorem execChallenge_mems (e : SpdmEnd) (certSlot : Fin 8) (nonce : List Byte) (s : State) : Result.keepsMem (execChallenge e certSlot nonce s) s := by
  simp [execChallenge]

theorem execKeyExchange_mems (e : SpdmEnd) (s : State) : Result.keepsMem (execKeyExchange e s) s := by
  simp [execKeyExchange]

@[simp ↓] theorem State.inSession_mems (s : State) (e : SpdmEnd) (session : Nat) (body : State → Session → State) (hbody : ∀ b0 b1, (body b0 b1).mems = b0.mems) : (State.inSession s e session body).mems = s.mems := by
  unfold State.inSession
  try dsimp only
  repeat' (first
    | assumption
    | simp [*]
    | (intro _)
    | split)

theorem execKeyUpdate_mems (e : SpdmEnd) (session : Nat) (s : State) : Result.keepsMem (execKeyUpdate e session s) s := by
  simp [execKeyUpdate]

theorem execHeartbeat_mems (e : SpdmEnd) (session : Nat) (s : State) : Result.keepsMem (execHeartbeat e session s) s := by
  simp [execHeartbeat]

theorem execSetCertificate_mems (e : SpdmEnd) (certSlot : Fin 8) (chain : List Byte) (s : State) : Result.keepsMem (execSetCertificate e certSlot chain s) s := by
  simp [execSetCertificate]

@[simp ↓] theorem State.poolPoke_mems (s : State) (place : Nat) (v : Byte) : (State.poolPoke s place v).mems = s.mems := by
  unfold State.poolPoke
  try dsimp only
  repeat' (first
    | assumption
    | simp [*]
    | (intro _)
    | split)

theorem execSeatDebounce_mems (n : Slot) (s : State) : Result.keepsMem (execSeatDebounce n s) s := by
  simp [execSeatDebounce]

theorem execSeatingLost_mems (n : Slot) (s : State) : Result.keepsMem (execSeatingLost n s) s := by
  simp [execSeatingLost]

theorem execSlotStart_mems (n : Slot) (s : State) : Result.keepsMem (execSlotStart n s) s := by
  simp [execSlotStart]

theorem execPrechargeComplete_mems (n : Slot) (t20 : Option Nat) (t60 : Option Nat) (s : State) : Result.keepsMem (execPrechargeComplete n t20 t60 s) s := by
  simp [execPrechargeComplete]

theorem execPrechargeTimeout_mems (n : Slot) (t20 : Option Nat) (t60 : Option Nat) (s : State) : Result.keepsMem (execPrechargeTimeout n t20 t60 s) s := by
  simp [execPrechargeTimeout]

theorem execRampOn_mems (n : Slot) (s : State) : Result.keepsMem (execRampOn n s) s := by
  simp [execRampOn]

theorem execRampShort_mems (n : Slot) (s : State) : Result.keepsMem (execRampShort n s) s := by
  simp [execRampShort]

theorem execRampTimeout_mems (n : Slot) (s : State) : Result.keepsMem (execRampTimeout n s) s := by
  simp [execRampTimeout]

theorem execPerstRelease_mems (n : Slot) (s : State) : Result.keepsMem (execPerstRelease n s) s := by
  unfold execPerstRelease
  refine (keepsMem_next _ _).2 ?_
  try dsimp only
  repeat' (first
    | assumption
    | (simp [*]; done)
    | (intro _)
    | split)

theorem execOnTripsClear_mems (n : Slot) (s : State) : Result.keepsMem (execOnTripsClear n s) s := by
  simp [execOnTripsClear]

theorem execCircuitBreakerTrip_mems (n : Slot) (iout : Nat) (s : State) : Result.keepsMem (execCircuitBreakerTrip n iout s) s := by
  simp [execCircuitBreakerTrip]

theorem execFastTrip_mems (n : Slot) (iout : Nat) (s : State) : Result.keepsMem (execFastTrip n iout s) s := by
  simp [execFastTrip]

theorem execThermalTrip_mems (n : Slot) (tfet : Nat) (s : State) : Result.keepsMem (execThermalTrip n tfet s) s := by
  simp [execThermalTrip]

theorem execVoutLowTrip_mems (n : Slot) (vin : Nat) (vout : Nat) (s : State) : Result.keepsMem (execVoutLowTrip n vin vout s) s := by
  simp [execVoutLowTrip]

theorem execVinWarning_mems (n : Slot) (s : State) : Result.keepsMem (execVinWarning n s) s := by
  simp [execVinWarning]

theorem execVinWarningClear_mems (n : Slot) (s : State) : Result.keepsMem (execVinWarningClear n s) s := by
  simp [execVinWarningClear]

theorem execVinUndervoltage_mems (n : Slot) (s : State) : Result.keepsMem (execVinUndervoltage n s) s := by
  simp [execVinUndervoltage]

theorem execVinOvervoltage_mems (n : Slot) (s : State) : Result.keepsMem (execVinOvervoltage n s) s := by
  simp [execVinOvervoltage]

theorem execVinInRange_mems (n : Slot) (s : State) : Result.keepsMem (execVinInRange n s) s := by
  simp [execVinInRange]

theorem execPfwLeadEnd_mems (n : Slot) (s : State) : Result.keepsMem (execPfwLeadEnd n s) s := by
  simp [execPfwLeadEnd]

theorem execRetryDelayExpiry_mems (n : Slot) (s : State) : Result.keepsMem (execRetryDelayExpiry n s) s := by
  simp [execRetryDelayExpiry]

theorem execAbsenceExpiry_mems (n : Slot) (s : State) : Result.keepsMem (execAbsenceExpiry n s) s := by
  unfold execAbsenceExpiry
  refine (keepsMem_next _ _).2 ?_
  try dsimp only
  repeat' (first
    | assumption
    | (simp [*]; done)
    | (intro _)
    | split)

theorem execSlotThresholdsReady_mems (n : Slot) (s : State) : Result.keepsMem (execSlotThresholdsReady n s) s := by
  simp [execSlotThresholdsReady]

theorem execSlotSample_mems (n : Slot) (vin : Nat) (vout : Nat) (iout : Nat) (tfet : Nat) (s : State) : Result.keepsMem (execSlotSample n vin vout iout tfet s) s := by
  simp [execSlotSample]

theorem execFetCooled_mems (n : Slot) (tfet : Nat) (s : State) : Result.keepsMem (execFetCooled n tfet s) s := by
  simp [execFetCooled]

@[simp ↓] theorem State.partnerGone_mems (s : State) (p : Nat) : (State.partnerGone s p).mems = s.mems := by
  simp [State.partnerGone]

@[simp ↓] theorem State.partnerSeen_mems (s : State) (p : Nat) : (State.partnerSeen s p).mems = s.mems := by
  simp [State.partnerSeen]

theorem execDetectRetry_mems (p : Port) (found : Bool) (s : State) : Result.keepsMem (execDetectRetry p found s) s := by
  simp [execDetectRetry]

theorem execHello_mems (p : Port) (h : Hello) (lanesOk : Nat) (downwards : Bool) (s : State) : Result.keepsMem (execHello p h lanesOk downwards s) s := by
  simp [execHello]

theorem execTrunkStageTimeout_mems (p : Port) (s : State) : Result.keepsMem (execTrunkStageTimeout p s) s := by
  simp [execTrunkStageTimeout]

theorem execTrunkEqualisationDone_mems (e : Equalised) (s : State) : Result.keepsMem (execTrunkEqualisationDone e s) s := by
  simp [execTrunkEqualisationDone]

theorem execAlignmentMarker_mems (p : Port) (physical : Fin 16) (bytes : List Byte) (inverted : Bool) (s : State) : Result.keepsMem (execAlignmentMarker p physical bytes inverted s) s := by
  simp [execAlignmentMarker]

theorem execFlitBoundary_mems (p : Port) (s : State) : Result.keepsMem (execFlitBoundary p s) s := by
  simp [execFlitBoundary]

theorem execTrunkFlitReceive_mems (p : Port) (body crc fec : List Byte) (s : State) : Result.keepsMem (execTrunkFlitReceive p body crc fec s) s := by
  simp [execTrunkFlitReceive]

theorem execReplayTimer_mems (p : Port) (s : State) : Result.keepsMem (execReplayTimer p s) s := by
  unfold execReplayTimer
  refine (keepsMem_next _ _).2 ?_
  try dsimp only
  repeat' (first
    | assumption
    | (simp [*]; done)
    | (intro _)
    | split)

theorem execTrunkRecovery_mems (p : Port) (byMarkers : Bool) (s : State) : Result.keepsMem (execTrunkRecovery p byMarkers s) s := by
  simp [execTrunkRecovery]

theorem execTrunkRecoveryTimeout_mems (p : Port) (s : State) : Result.keepsMem (execTrunkRecoveryTimeout p s) s := by
  simp [execTrunkRecoveryTimeout]

theorem execChangeReq_mems (p : Port) (width : Byte) (rate : Byte) (s : State) : Result.keepsMem (execChangeReq p width rate s) s := by
  simp [execChangeReq]

theorem execChangeGo_mems (p : Port) (width : Byte) (rate : Byte) (s : State) : Result.keepsMem (execChangeGo p width rate s) s := by
  simp [execChangeGo]

theorem execLevelMessage_mems (p : Port) (trunk : Byte) (trunkMin : Byte) (result : Byte) (switchAt : BitVec 16) (s : State) : Result.keepsMem (execLevelMessage p trunk trunkMin result switchAt s) s := by
  unfold execLevelMessage
  refine (keepsMem_next _ _).2 ?_
  try dsimp only
  repeat' (first
    | assumption
    | (simp [*]; done)
    | (refine State.onMessage_mems _ _ _ _ _ ?_)
    | (intro _)
    | split)

theorem execTimeMessage_mems (p : Port) (tTx : BitVec 64) (tRxPrev : BitVec 64) (peerTxPrev : BitVec 64) (s : State) : Result.keepsMem (execTimeMessage p tTx tRxPrev peerTxPrev s) s := by
  simp [execTimeMessage]

theorem execParkReq_mems (p : Port) (s : State) : Result.keepsMem (execParkReq p s) s := by
  simp [execParkReq]

theorem execParkAck_mems (p : Port) (agree : Bool) (s : State) : Result.keepsMem (execParkAck p agree s) s := by
  simp [execParkAck]

theorem execParkExit_mems (p : Port) (s : State) : Result.keepsMem (execParkExit p s) s := by
  simp [execParkExit]

@[simp ↓] theorem State.keyTrunk_mems (s : State) (p : Nat) : (State.keyTrunk s p).mems = s.mems := by
  simp [State.keyTrunk]

theorem execMctpBypass_mems (p : Port) (packet : TrunkMctp) (s : State) : Result.keepsMem (execMctpBypass p packet s) s := by
  unfold execMctpBypass
  refine (keepsMem_next _ _).2 ?_
  try dsimp only
  repeat' (first
    | assumption
    | (simp [*]; done)
    | (intro _)
    | split)

theorem execSpdmKeyUpdate_mems (p : Port) (s : State) : Result.keepsMem (execSpdmKeyUpdate p s) s := by
  simp [execSpdmKeyUpdate]

@[simp ↓] theorem State.portSlots_mems (s : State) (p : Nat) : (State.portSlots s p).mems = s.mems := by
  simp [State.portSlots]

@[simp ↓] theorem State.cellTicks_mems (s : State) : (State.cellTicks s).mems = s.mems := by
  simp [State.cellTicks]

theorem State.tokenEffect_mems {s t : State} {k : List Byte} (h : s.tokenEffect k = some t) : t.mems = s.mems := by
  unfold State.tokenEffect at h
  dsimp only at h
  repeat' split at h
  all_goals first
    | cases h; done
    | (cases h; simp)

@[simp ↓] theorem State.applyToken_mems (s : State) (fuseFailed : Bool) : (State.applyToken s fuseFailed).mems = s.mems := by
  unfold State.applyToken
  dsimp only
  repeat' split
  · simp
  · simp
  · simp
  · simp
  · rename_i h _
    simpa using State.tokenEffect_mems h

@[simp ↓] theorem State.coldWork_mems (s : State) (fuseFailed : Bool) (random : List Byte) :
    (State.coldWork s fuseFailed random).mems = s.mems := by
  simp [State.coldWork]

theorem execBootPhase0_mems (otpError fuseFailed : Bool) (random : List Byte) (s : State) :
    Result.keepsMem (execBootPhase0 otpError fuseFailed random s) s := by
  unfold execBootPhase0
  refine (keepsMem_next _ _).2 ?_
  repeat' split
  all_goals simp [*]

end Sys2Proof.Machine
end

