-- ==== Sys2Proof/Laws/MemoryForms.lean ====
section
/-! SUPPORT. Every command keeps the canonical form of the pool's bytes and of the Lever's shared data memory: the operations that
write either, and what calls them. -/

namespace Sys2Proof.Machine

/-- Both memories that State holds as lists of bytes have their canonical form. -/
def memsOk (m : Mem × Mem) : Prop := Memory.wf m.1 = true ∧ Memory.wf m.2 = true

theorem foldl_memOk {α : Type} {f : State → α → State} (h : ∀ s a, memsOk s.mems → memsOk (f s a).mems) (l : List α) (s : State)
    (hs : memsOk s.mems) : memsOk (l.foldl f s).mems := by
  induction l generalizing s with
  | nil => exact hs
  | cons a l ih => exact ih _ (h s a hs)

/-- A command that answers a next state keeps the canonical form of both memories. -/
def Result.keepsOk (r : Result) (s : State) : Prop := memsOk s.mems → ∀ t, r = .next t → memsOk t.mems
theorem keepsOk_next {x s : State} (h : memsOk s.mems → memsOk x.mems) : Result.keepsOk (.next x) s :=
  fun k _ e => by cases e; exact h k
theorem keepsOk_refused (x : Refusal) (s : State) : Result.keepsOk (.refused x) s := fun _ _ e => by cases e

theorem memsOk_shared {s : State} (h : memsOk s.mems) : Memory.wf s.lev.sharedData = true := h.2
theorem memsOk_pool {s : State} (h : memsOk s.mems) : Memory.wf s.pool = true := h.1


theorem State.leverWrite_memOk (s : State) (c : Nat) (a : Nat) (n : Nat) (v : Nat) (hs : memsOk s.mems) :
    memsOk (State.leverWrite s c a n v).mems := by
  unfold State.leverWrite
  split
  · simpa using hs
  · exact ⟨memsOk_pool hs, memPutNat_wf _ _ _ _ (memsOk_shared hs)⟩

theorem State.leverRun_memOk (s : State) (c : Nat) (word : BitVec 32) (body : State → State) (hbody : ∀ b0, memsOk b0.mems → memsOk (body b0).mems) (hs : memsOk s.mems) :
    memsOk (State.leverRun s c word body).mems := by
  unfold State.leverRun
  try dsimp only
  repeat' (first
    | (with_reducible assumption)
    | (with_reducible refine keepsOk_next ?_)
    | (exact keepsOk_refused _ _)
    | (intro _)
    | split
    | (with_reducible refine foldl_memOk ?_ _ _ ?_)
    | simp [*])

theorem State.leverEncoded_memOk (s : State) (c : Nat) (word : BitVec 32) (zero : Bool) (body : State → State) (hbody : ∀ b0, memsOk b0.mems → memsOk (body b0).mems) (hs : memsOk s.mems) :
    memsOk (State.leverEncoded s c word zero body).mems := by
  unfold State.leverEncoded
  try dsimp only
  repeat' (first
    | (with_reducible assumption)
    | (with_reducible refine keepsOk_next ?_)
    | (exact keepsOk_refused _ _)
    | (intro _)
    | (with_reducible refine State.leverRun_memOk _ _ _ _ ?_ ?_)
    | split
    | (with_reducible refine foldl_memOk ?_ _ _ ?_)
    | simp [*])

theorem State.amo_memOk (s : State) (c : Core) (o : RRR) (fn : Nat) (f : Word → Word → Word) (hs : memsOk s.mems) :
    memsOk (State.amo s c o fn f).mems := by
  unfold State.amo
  try dsimp only
  repeat' (first
    | (with_reducible assumption)
    | (with_reducible refine keepsOk_next ?_)
    | (exact keepsOk_refused _ _)
    | (intro _)
    | (with_reducible refine State.leverWrite_memOk _ _ _ _ _ ?_)
    | (with_reducible refine State.leverRun_memOk _ _ _ _ ?_ ?_)
    | split
    | (with_reducible refine foldl_memOk ?_ _ _ ?_)
    | simp)

theorem State.store_memOk (s : State) (c : Core) (o : IOp) (op : Nat) (size : Nat) (hs : memsOk s.mems) :
    memsOk (State.store s c o op size).mems := by
  unfold State.store
  try dsimp only
  repeat' (first
    | (with_reducible assumption)
    | (with_reducible refine keepsOk_next ?_)
    | (exact keepsOk_refused _ _)
    | (intro _)
    | (with_reducible refine State.leverWrite_memOk _ _ _ _ _ ?_)
    | (with_reducible refine State.leverRun_memOk _ _ _ _ ?_ ?_)
    | split
    | (with_reducible refine foldl_memOk ?_ _ _ ?_)
    | simp)

theorem State.sys_memOk (s : State) (c : Core) (o : SOp) (sysfn : Nat) (usesRd : Bool) (usesRa : Bool) (body : State → State) (hbody : ∀ b0, memsOk b0.mems → memsOk (body b0).mems) (hs : memsOk s.mems) :
    memsOk (State.sys s c o sysfn usesRd usesRa body).mems := by
  unfold State.sys
  try dsimp only
  repeat' (first
    | (with_reducible assumption)
    | (with_reducible refine keepsOk_next ?_)
    | (exact keepsOk_refused _ _)
    | (intro _)
    | (with_reducible refine State.leverEncoded_memOk _ _ _ _ _ ?_ ?_)
    | split
    | (with_reducible refine foldl_memOk ?_ _ _ ?_)
    | simp)

theorem State.writeRecords_memOk (s : State) (t : Nat) (hs : memsOk s.mems) :
    memsOk (State.writeRecords s t).mems := by
  unfold State.writeRecords
  simp only [State.modTenant_mems, State.mems_mk]
  exact ⟨memPutBytes_wf _ _ _ (memsOk_pool hs), memsOk_shared hs⟩

theorem memsOk_put {s : State} {m : Mem} (h : memsOk s.mems) (hm : Memory.wf m = true) : memsOk (m, s.lev.sharedData) :=
  ⟨hm, h.2⟩

theorem State.flushRecords_memOk (s : State) (t : Nat) (a2 : Nat) (hs : memsOk s.mems) :
    memsOk (State.flushRecords s t a2).mems := by
  induction a2 generalizing s with
  | zero => exact hs
  | succ n ih =>
    unfold State.flushRecords
    split
    · exact hs
    · exact ih _ (State.writeRecords_memOk s t hs)

theorem State.flushAllRecords_memOk (s : State) (t : Nat) (hs : memsOk s.mems) :
    memsOk (State.flushAllRecords s t).mems := by
  unfold State.flushAllRecords
  try dsimp only
  repeat' (first
    | (with_reducible assumption)
    | (with_reducible refine keepsOk_next ?_)
    | (exact keepsOk_refused _ _)
    | (intro _)
    | (with_reducible refine State.flushRecords_memOk _ _ _ ?_)
    | split
    | (with_reducible refine foldl_memOk ?_ _ _ ?_)
    | simp)

theorem State.recordsDue_memOk (s : State) (hs : memsOk s.mems) :
    memsOk (State.recordsDue s).mems := by
  unfold State.recordsDue
  try dsimp only
  repeat' (first
    | (with_reducible assumption)
    | (with_reducible refine keepsOk_next ?_)
    | (exact keepsOk_refused _ _)
    | (intro _)
    | (with_reducible refine State.flushAllRecords_memOk _ _ ?_)
    | split
    | (with_reducible refine foldl_memOk ?_ _ _ ?_)
    | simp)

theorem State.onMessage_memOk (s : State) (p : Nat) (type : Nat) (body : List Byte) (act : State → State) (hact : ∀ b0, memsOk b0.mems → memsOk (act b0).mems) (hs : memsOk s.mems) :
    memsOk (State.onMessage s p type body act).mems := by
  unfold State.onMessage
  split
  · refine hact _ ?_
    rw [State.takeArrived_nextMem ‹_›]
    exact hs
  · exact hs

theorem State.owed_memOk (s : State) (r : SliceRequest) (answer : State → State) (hanswer : ∀ b0, memsOk b0.mems → memsOk (answer b0).mems) (hs : memsOk s.mems) :
    memsOk (State.owed s r answer).mems := by
  unfold State.owed
  try dsimp only
  repeat' (first
    | (with_reducible assumption)
    | (with_reducible refine keepsOk_next ?_)
    | (exact keepsOk_refused _ _)
    | (intro _)
    | split
    | (with_reducible refine foldl_memOk ?_ _ _ ?_)
    | simp [*])

theorem State.withCredit_memOk (s : State) (kind : FrameKind) (p : Nat) (c : Nat) (w : Nat) (act : State → State) (hact : ∀ b0, memsOk b0.mems → memsOk (act b0).mems) (hs : memsOk s.mems) :
    memsOk (State.withCredit s kind p c w act).mems := by
  unfold State.withCredit
  try dsimp only
  repeat' (first
    | (with_reducible assumption)
    | (with_reducible refine keepsOk_next ?_)
    | (exact keepsOk_refused _ _)
    | (intro _)
    | split
    | (with_reducible refine foldl_memOk ?_ _ _ ?_)
    | simp [*])

theorem State.warmCleared_memOk (s : State) (rounds : Nat) (step : PowerStep) (hs : memsOk s.mems) :
    memsOk (State.warmCleared s rounds step).mems := by
  unfold State.warmCleared
  simp only [State.drivePerst_mems, foldl_mems', implies_true]
  exact ⟨memsOk_pool hs, memory_wf_nil⟩

theorem State.abruptWarm_memOk (s : State) (trigger : Nat) (hs : memsOk s.mems) :
    memsOk (State.abruptWarm s trigger).mems := by
  unfold State.abruptWarm
  try dsimp only
  repeat' (first
    | (with_reducible assumption)
    | (with_reducible refine keepsOk_next ?_)
    | (exact keepsOk_refused _ _)
    | (intro _)
    | (with_reducible refine State.warmCleared_memOk _ _ _ ?_)
    | split
    | (with_reducible refine foldl_memOk ?_ _ _ ?_)
    | simp)

theorem State.controlledWarm_memOk (s : State) (hs : memsOk s.mems) :
    memsOk (State.controlledWarm s).mems := by
  unfold State.controlledWarm
  try dsimp only
  repeat' (first
    | (with_reducible assumption)
    | (with_reducible refine keepsOk_next ?_)
    | (exact keepsOk_refused _ _)
    | (intro _)
    | (with_reducible refine State.warmCleared_memOk _ _ _ ?_)
    | split
    | (with_reducible refine foldl_memOk ?_ _ _ ?_)
    | simp)

theorem State.warmGoesOn_memOk (s : State) (hs : memsOk s.mems) :
    memsOk (State.warmGoesOn s).mems := by
  unfold State.warmGoesOn
  try dsimp only
  repeat' (first
    | (with_reducible assumption)
    | (with_reducible refine keepsOk_next ?_)
    | (exact keepsOk_refused _ _)
    | (intro _)
    | (with_reducible refine State.controlledWarm_memOk _ ?_)
    | split
    | (with_reducible refine foldl_memOk ?_ _ _ ?_)
    | simp)

theorem State.askWarm_memOk (s : State) (hs : memsOk s.mems) :
    memsOk (State.askWarm s).mems := by
  unfold State.askWarm
  try dsimp only
  repeat' (first
    | (with_reducible assumption)
    | (with_reducible refine keepsOk_next ?_)
    | (exact keepsOk_refused _ _)
    | (intro _)
    | (with_reducible refine State.warmGoesOn_memOk _ ?_)
    | split
    | (with_reducible refine foldl_memOk ?_ _ _ ?_)
    | simp)

theorem State.sagDown_memOk (s : State) (trigger : Nat) (hs : memsOk s.mems) :
    memsOk (State.sagDown s trigger).mems := by
  unfold State.sagDown
  try dsimp only
  repeat' (first
    | (with_reducible assumption)
    | (with_reducible refine keepsOk_next ?_)
    | (exact keepsOk_refused _ _)
    | (intro _)
    | (with_reducible refine State.warmCleared_memOk _ _ _ ?_)
    | split
    | (with_reducible refine foldl_memOk ?_ _ _ ?_)
    | simp)

theorem State.coldStart_memOk (s : State) (straps : Straps) (clkA : Bool) (clkB : Bool) (hs : memsOk s.mems) :
    memsOk (State.coldStart s straps clkA clkB).mems := by
  unfold State.coldStart
  simp only [State.coldSlot_mems, foldl_mems', implies_true]
  exact ⟨memsOk_pool hs, memory_wf_nil⟩

theorem State.installImage_memOk (s : State) (bank : Nat) (hs : memsOk s.mems) :
    memsOk (State.installImage s bank).mems := by
  unfold State.installImage
  simp only [State.mems_mk]
  exact ⟨memsOk_pool hs, memPutBytes_wf _ _ _ memory_wf_nil⟩

theorem State.gleanerCommitted_memOk (s : State) (old : State) (t : Nat) (hs : memsOk s.mems) :
    memsOk (State.gleanerCommitted s old t).mems := by
  unfold State.gleanerCommitted
  try dsimp only
  repeat' (first
    | (with_reducible assumption)
    | (with_reducible refine keepsOk_next ?_)
    | (exact keepsOk_refused _ _)
    | (intro _)
    | (with_reducible refine State.flushAllRecords_memOk _ _ ?_)
    | split
    | (with_reducible refine foldl_memOk ?_ _ _ ?_)
    | simp)

theorem State.objectCommitted_memOk (s : State) (old : State) (es : List Entry) (o : Nat × Nat × Nat) (hs : memsOk s.mems) :
    memsOk (State.objectCommitted s old es o).mems := by
  unfold State.objectCommitted
  try dsimp only
  repeat' (first
    | (with_reducible assumption)
    | (with_reducible refine keepsOk_next ?_)
    | (exact keepsOk_refused _ _)
    | (intro _)
    | (with_reducible refine State.gleanerCommitted_memOk _ _ _ ?_)
    | split
    | (with_reducible refine foldl_memOk ?_ _ _ ?_)
    | simp)

theorem State.applyEntries_memOk (s : State) (es : List Entry) (act : State → State) (hact : ∀ b0, memsOk b0.mems → memsOk (act b0).mems) (hs : memsOk s.mems) :
    memsOk (State.applyEntries s es act).mems := by
  unfold State.applyEntries
  simp only [State.agentsCommitted_mems]
  refine hact _ ?_
  have h : ∀ (o : List (Nat × Nat × Nat)) (t : State), memsOk t.mems → memsOk (o.foldl (fun x o => x.objectCommitted s es o) t).mems :=
    fun o t => foldl_memOk (fun x o => State.objectCommitted_memOk x s es o) o t
  split
  · simp only [State.rolesCommitted_mems, State.repairObjects_mems]
    exact h _ _ (by simpa using hs)
  · simp only [State.repairObjects_mems]
    exact h _ _ (by simpa using hs)

theorem State.commitBuffer_memOk (s : State) (c : Nat) (rd : Nat) (hs : memsOk s.mems) :
    memsOk (State.commitBuffer s c rd).mems := by
  unfold State.commitBuffer
  try dsimp only
  repeat' (first
    | (with_reducible assumption)
    | (with_reducible refine keepsOk_next ?_)
    | (exact keepsOk_refused _ _)
    | (intro _)
    | (with_reducible refine State.applyEntries_memOk _ _ _ ?_ ?_)
    | split
    | (with_reducible refine foldl_memOk ?_ _ _ ?_)
    | simp)

theorem execCommitUnitGrant_memOk (c : Core) (s : State) :
    Result.keepsOk (execCommitUnitGrant c s) s := by
  unfold execCommitUnitGrant
  try dsimp only
  repeat' (first
    | (with_reducible assumption)
    | (with_reducible refine keepsOk_next ?_)
    | (exact keepsOk_refused _ _)
    | (intro _)
    | (with_reducible refine State.commitBuffer_memOk _ _ _ ?_)
    | split
    | (with_reducible refine foldl_memOk ?_ _ _ ?_)
    | simp)

theorem execCommitRoundBoundary_memOk (s : State) :
    Result.keepsOk (execCommitRoundBoundary s) s := by
  unfold execCommitRoundBoundary
  try dsimp only
  repeat' (first
    | (with_reducible assumption)
    | (with_reducible refine keepsOk_next ?_)
    | (exact keepsOk_refused _ _)
    | (intro _)
    | (with_reducible refine State.commitBuffer_memOk _ _ _ ?_)
    | split
    | (with_reducible refine foldl_memOk ?_ _ _ ?_)
    | simp)

theorem State.libRun_memOk (s : State) (c : Core) (id : Nat) (body : State → Order → State) (hbody : ∀ b0 b1, memsOk b0.mems → memsOk (body b0 b1).mems) (hs : memsOk s.mems) :
    memsOk (State.libRun s c id body).mems := by
  unfold State.libRun
  try dsimp only
  repeat' (first
    | (with_reducible assumption)
    | (with_reducible refine keepsOk_next ?_)
    | (exact keepsOk_refused _ _)
    | (intro _)
    | split
    | (with_reducible refine foldl_memOk ?_ _ _ ?_)
    | simp [*])

theorem State.commitNow_memOk (s : State) (c : Nat) (es : List Entry) (act : State → State)
    (hact : ∀ x, memsOk x.mems → memsOk (act x).mems) (hs : memsOk s.mems) : memsOk (s.commitNow c es act).after.mems := by
  unfold State.commitNow
  dsimp only
  repeat' split
  all_goals simp only [Attempt.after]
  all_goals first
    | (simpa using hs)
    | (simp only [State.raiseStaged_mems]
       exact State.applyEntries_memOk _ _ _ hact (by simpa using hs))

theorem State.libCommit_memOk (s : State) (c : Core) (es : List Entry) (act : State → State) (reply : State → List Byte) (hact : ∀ b0, memsOk b0.mems → memsOk (act b0).mems) (hs : memsOk s.mems) :
    memsOk (State.libCommit s c es act reply).mems := by
  have k := State.commitNow_memOk s c es act hact hs
  unfold State.libCommit
  split
  all_goals
    rename_i h
    rw [h] at k
    simpa [Attempt.after] using k

theorem State.commitNow_refusedOk {s t : State} {c : Nat} {es : List Entry} {w : Nat} (h : s.commitNow c es noAction = .refused w t) (hs : memsOk s.mems) :
    memsOk t.mems := by
  have k := State.commitNow_memOk s c es noAction (fun _ hx => hx) hs
  rw [h] at k
  exact k
theorem State.commitNow_laterOk {s t : State} {c : Nat} {es : List Entry} (h : s.commitNow c es noAction = .later t) (hs : memsOk s.mems) : memsOk t.mems := by
  have k := State.commitNow_memOk s c es noAction (fun _ hx => hx) hs
  rw [h] at k
  exact k
theorem State.commitNow_passedOk {s t : State} {c : Nat} {es : List Entry} (h : s.commitNow c es noAction = .passed t) (hs : memsOk s.mems) : memsOk t.mems := by
  have k := State.commitNow_memOk s c es noAction (fun _ hx => hx) hs
  rw [h] at k
  exact k
theorem State.commitEach_memOk (s : State) (c : Nat) (l : List (List Entry)) (hs : memsOk s.mems) : memsOk (s.commitEach c l).after.mems := by
  induction l generalizing s with
  | nil => exact hs
  | cons es rest ih =>
    unfold State.commitEach
    split
    · exact ih _ (State.commitNow_passedOk ‹_› hs)
    · exact State.commitNow_memOk s c es noAction (fun _ hx => hx) hs
theorem State.commitAll_refusedOk {s t : State} {c : Nat} {parts : List (List Entry)} {w : Nat} (h : s.commitAll c parts = .refused w t) (hs : memsOk s.mems) :
    memsOk t.mems := by
  have k := State.commitEach_memOk s c (parts.drop (s.core c).lib.done) hs
  rw [show s.commitEach c (parts.drop (s.core c).lib.done) = _ from h] at k
  exact k
theorem State.commitAll_laterOk {s t : State} {c : Nat} {parts : List (List Entry)} (h : s.commitAll c parts = .later t) (hs : memsOk s.mems) : memsOk t.mems := by
  have k := State.commitEach_memOk s c (parts.drop (s.core c).lib.done) hs
  rw [show s.commitEach c (parts.drop (s.core c).lib.done) = _ from h] at k
  exact k
theorem State.commitAll_passedOk {s t : State} {c : Nat} {parts : List (List Entry)} (h : s.commitAll c parts = .passed t) (hs : memsOk s.mems) : memsOk t.mems := by
  have k := State.commitEach_memOk s c (parts.drop (s.core c).lib.done) hs
  rw [show s.commitEach c (parts.drop (s.core c).lib.done) = _ from h] at k
  exact k

theorem State.libOp_memOk (s : State) (c : Core) (op : Nat) (mine : Nat) (legal : Nat → Bool) (body : State → State) (hbody : ∀ b0, memsOk b0.mems → memsOk (body b0).mems) (hs : memsOk s.mems) :
    memsOk (State.libOp s c op mine legal body).mems := by
  unfold State.libOp
  try dsimp only
  repeat' (first
    | (with_reducible assumption)
    | (with_reducible refine keepsOk_next ?_)
    | (exact keepsOk_refused _ _)
    | (intro _)
    | split
    | (with_reducible refine foldl_memOk ?_ _ _ ?_)
    | simp [*])

theorem State.libArgs_memOk (s : State) (c : Core) (ok : Bool) (body : State → State) (hbody : ∀ b0, memsOk b0.mems → memsOk (body b0).mems) (hs : memsOk s.mems) :
    memsOk (State.libArgs s c ok body).mems := by
  unfold State.libArgs
  try dsimp only
  repeat' (first
    | (with_reducible assumption)
    | (with_reducible refine keepsOk_next ?_)
    | (exact keepsOk_refused _ _)
    | (intro _)
    | split
    | (with_reducible refine foldl_memOk ?_ _ _ ?_)
    | simp [*])

theorem State.taskCommit_memOk (s : State) (es : List Entry) (hs : memsOk s.mems) :
    memsOk (State.taskCommit s es).mems := by
  unfold State.taskCommit
  try dsimp only
  repeat' (first
    | (with_reducible assumption)
    | (with_reducible refine keepsOk_next ?_)
    | (exact keepsOk_refused _ _)
    | (intro _)
    | (with_reducible refine State.applyEntries_memOk _ _ _ ?_ ?_)
    | split
    | (with_reducible refine foldl_memOk ?_ _ _ ?_)
    | simp)

theorem execQosAdjust_memOk (s : State) :
    Result.keepsOk (execQosAdjust s) s := by
  unfold execQosAdjust
  try dsimp only
  repeat' (first
    | (with_reducible assumption)
    | (with_reducible refine keepsOk_next ?_)
    | (exact keepsOk_refused _ _)
    | (intro _)
    | (with_reducible refine State.taskCommit_memOk _ _ ?_)
    | split
    | (with_reducible refine foldl_memOk ?_ _ _ ?_)
    | simp)

theorem State.waysideIn_memOk (s : State) (f : WaysideFrame) (body : State → State) (hbody : ∀ b0, memsOk b0.mems → memsOk (body b0).mems) (hs : memsOk s.mems) :
    memsOk (State.waysideIn s f body).mems := by
  unfold State.waysideIn
  try dsimp only
  repeat' (first
    | (with_reducible assumption)
    | (with_reducible refine keepsOk_next ?_)
    | (exact keepsOk_refused _ _)
    | (intro _)
    | split
    | (with_reducible refine foldl_memOk ?_ _ _ ?_)
    | simp [*])

theorem execEyeScanEnd_memOk (st : Station) (lane : LaneOf) (early : Bool) (errors : List Nat) (s : State) :
    Result.keepsOk (execEyeScanEnd st lane early errors s) s := by
  unfold execEyeScanEnd
  refine keepsOk_next fun hs => ?_
  split
  · exact hs
  · rename_i e _
    dsimp only
    split
    · exact hs
    · simp only [State.raiseVector_mems, State.mems_mk]
      have h : memsOk (s.modLane (8 * st.val + lane.val) fun l => { l with scan := none }).mems := by
        rw [State.modLane_mems]; exact hs
      with_reducible exact memsOk_put h (memPutBytes_wf _ _ _ (memsOk_pool h))

theorem execPortSet_memOk (c : Core) (s : State) :
    Result.keepsOk (execPortSet c s) s := by
  unfold execPortSet
  try dsimp only
  repeat' (first
    | (with_reducible assumption)
    | (with_reducible refine keepsOk_next ?_)
    | (exact keepsOk_refused _ _)
    | (intro _)
    | (with_reducible refine State.libRun_memOk _ _ _ _ ?_ ?_)
    | (with_reducible refine State.libCommit_memOk _ _ _ _ _ ?_ ?_)
    | (with_reducible refine State.libArgs_memOk _ _ _ _ ?_ ?_)
    | split
    | (with_reducible refine foldl_memOk ?_ _ _ ?_)
    | simp)

theorem execBifurcate_memOk (c : Core) (s : State) :
    Result.keepsOk (execBifurcate c s) s := by
  unfold execBifurcate
  try dsimp only
  repeat' (first
    | (with_reducible assumption)
    | (with_reducible refine keepsOk_next ?_)
    | (exact keepsOk_refused _ _)
    | (intro _)
    | (with_reducible refine State.libRun_memOk _ _ _ _ ?_ ?_)
    | (with_reducible refine State.libCommit_memOk _ _ _ _ _ ?_ ?_)
    | (with_reducible refine State.libArgs_memOk _ _ _ _ ?_ ?_)
    | split
    | (with_reducible refine foldl_memOk ?_ _ _ ?_)
    | simp)

theorem State.portCtl_memOk (s : State) (c : Core) (op : Nat) (ok : State → Nat → Bool) (act : Nat → State → State) (hact : ∀ b0 b1, memsOk b1.mems → memsOk (act b0 b1).mems) (hs : memsOk s.mems) :
    memsOk (State.portCtl s c op ok act).mems := by
  unfold State.portCtl
  try dsimp only
  repeat' (first
    | (with_reducible assumption)
    | (with_reducible refine keepsOk_next ?_)
    | (exact keepsOk_refused _ _)
    | (intro _)
    | (with_reducible refine State.libRun_memOk _ _ _ _ ?_ ?_)
    | (with_reducible refine State.libCommit_memOk _ _ _ _ _ ?_ ?_)
    | (with_reducible refine State.libOp_memOk _ _ _ _ _ _ ?_ ?_)
    | (with_reducible refine State.libArgs_memOk _ _ _ _ ?_ ?_)
    | split
    | (with_reducible refine foldl_memOk ?_ _ _ ?_)
    | simp [*])

theorem execPortCtlAssertPerst_memOk (c : Core) (s : State) :
    Result.keepsOk (execPortCtlAssertPerst c s) s := by
  unfold execPortCtlAssertPerst
  try dsimp only
  repeat' (first
    | (with_reducible assumption)
    | (with_reducible refine keepsOk_next ?_)
    | (exact keepsOk_refused _ _)
    | (intro _)
    | (with_reducible refine State.portCtl_memOk _ _ _ _ _ ?_ ?_)
    | split
    | (with_reducible refine foldl_memOk ?_ _ _ ?_)
    | simp)

theorem execPortCtlReleasePerst_memOk (c : Core) (s : State) :
    Result.keepsOk (execPortCtlReleasePerst c s) s := by
  unfold execPortCtlReleasePerst
  try dsimp only
  repeat' (first
    | (with_reducible assumption)
    | (with_reducible refine keepsOk_next ?_)
    | (exact keepsOk_refused _ _)
    | (intro _)
    | (with_reducible refine State.portCtl_memOk _ _ _ _ _ ?_ ?_)
    | split
    | (with_reducible refine foldl_memOk ?_ _ _ ?_)
    | simp)

theorem execPortCtlResetPpb_memOk (c : Core) (s : State) :
    Result.keepsOk (execPortCtlResetPpb c s) s := by
  unfold execPortCtlResetPpb
  try dsimp only
  repeat' (first
    | (with_reducible assumption)
    | (with_reducible refine keepsOk_next ?_)
    | (exact keepsOk_refused _ _)
    | (intro _)
    | (with_reducible refine State.portCtl_memOk _ _ _ _ _ ?_ ?_)
    | split
    | (with_reducible refine foldl_memOk ?_ _ _ ?_)
    | simp)

theorem execPortCtlDisableLink_memOk (c : Core) (s : State) :
    Result.keepsOk (execPortCtlDisableLink c s) s := by
  unfold execPortCtlDisableLink
  try dsimp only
  repeat' (first
    | (with_reducible assumption)
    | (with_reducible refine keepsOk_next ?_)
    | (exact keepsOk_refused _ _)
    | (intro _)
    | (with_reducible refine State.portCtl_memOk _ _ _ _ _ ?_ ?_)
    | split
    | (with_reducible refine foldl_memOk ?_ _ _ ?_)
    | simp)

theorem execPortCtlEnableLink_memOk (c : Core) (s : State) :
    Result.keepsOk (execPortCtlEnableLink c s) s := by
  unfold execPortCtlEnableLink
  try dsimp only
  repeat' (first
    | (with_reducible assumption)
    | (with_reducible refine keepsOk_next ?_)
    | (exact keepsOk_refused _ _)
    | (intro _)
    | (with_reducible refine State.portCtl_memOk _ _ _ _ _ ?_ ?_)
    | split
    | (with_reducible refine foldl_memOk ?_ _ _ ?_)
    | simp)

theorem execPortCtlContain_memOk (c : Core) (s : State) :
    Result.keepsOk (execPortCtlContain c s) s := by
  unfold execPortCtlContain
  try dsimp only
  repeat' (first
    | (with_reducible assumption)
    | (with_reducible refine keepsOk_next ?_)
    | (exact keepsOk_refused _ _)
    | (intro _)
    | (with_reducible refine State.portCtl_memOk _ _ _ _ _ ?_ ?_)
    | split
    | (with_reducible refine foldl_memOk ?_ _ _ ?_)
    | simp)

theorem execPortCtlReleaseContainment_memOk (c : Core) (s : State) :
    Result.keepsOk (execPortCtlReleaseContainment c s) s := by
  unfold execPortCtlReleaseContainment
  try dsimp only
  repeat' (first
    | (with_reducible assumption)
    | (with_reducible refine keepsOk_next ?_)
    | (exact keepsOk_refused _ _)
    | (intro _)
    | (with_reducible refine State.portCtl_memOk _ _ _ _ _ ?_ ?_)
    | split
    | (with_reducible refine foldl_memOk ?_ _ _ ?_)
    | simp)

theorem execVcsSet_memOk (c : Core) (s : State) :
    Result.keepsOk (execVcsSet c s) s := by
  unfold execVcsSet
  try dsimp only
  repeat' (first
    | (with_reducible assumption)
    | (with_reducible refine keepsOk_next ?_)
    | (exact keepsOk_refused _ _)
    | (intro _)
    | (with_reducible refine State.libRun_memOk _ _ _ _ ?_ ?_)
    | (with_reducible refine State.libCommit_memOk _ _ _ _ _ ?_ ?_)
    | (with_reducible refine State.libArgs_memOk _ _ _ _ ?_ ?_)
    | split
    | (with_reducible refine foldl_memOk ?_ _ _ ?_)
    | simp)

theorem execPbrSet_memOk (c : Core) (s : State) :
    Result.keepsOk (execPbrSet c s) s := by
  unfold execPbrSet
  try dsimp only
  repeat' (first
    | (with_reducible assumption)
    | (with_reducible refine keepsOk_next ?_)
    | (exact keepsOk_refused _ _)
    | (intro _)
    | (with_reducible refine State.libRun_memOk _ _ _ _ ?_ ?_)
    | (with_reducible refine State.libCommit_memOk _ _ _ _ _ ?_ ?_)
    | (with_reducible refine State.libArgs_memOk _ _ _ _ ?_ ?_)
    | split
    | (with_reducible refine foldl_memOk ?_ _ _ ?_)
    | simp)

theorem execBind_memOk (c : Core) (s : State) :
    Result.keepsOk (execBind c s) s := by
  unfold execBind
  try dsimp only
  repeat' (first
    | (with_reducible assumption)
    | (with_reducible refine keepsOk_next ?_)
    | (exact keepsOk_refused _ _)
    | (intro _)
    | (with_reducible refine State.libRun_memOk _ _ _ _ ?_ ?_)
    | (with_reducible refine State.libArgs_memOk _ _ _ _ ?_ ?_)
    | (with_reducible refine State.commitNow_refusedOk ‹_› ?_)
    | (with_reducible refine State.commitNow_laterOk ‹_› ?_)
    | (with_reducible refine State.commitNow_passedOk ‹_› ?_)
    | split
    | (with_reducible refine foldl_memOk ?_ _ _ ?_)
    | simp)

theorem State.unbindBy_memOk (s : State) (c : Core) (mode : Nat) (act : Nat → Nat → State → State) (hact : ∀ b0 b1 b2, memsOk b2.mems → memsOk (act b0 b1 b2).mems) (hs : memsOk s.mems) :
    memsOk (State.unbindBy s c mode act).mems := by
  unfold State.unbindBy
  try dsimp only
  repeat' (first
    | (with_reducible assumption)
    | (with_reducible refine keepsOk_next ?_)
    | (exact keepsOk_refused _ _)
    | (intro _)
    | (with_reducible refine State.libRun_memOk _ _ _ _ ?_ ?_)
    | (with_reducible refine State.libCommit_memOk _ _ _ _ _ ?_ ?_)
    | (with_reducible refine State.libOp_memOk _ _ _ _ _ _ ?_ ?_)
    | (with_reducible refine State.libArgs_memOk _ _ _ _ ?_ ?_)
    | split
    | (with_reducible refine foldl_memOk ?_ _ _ ?_)
    | simp [*])

theorem execUnbindWaitLinkDown_memOk (c : Core) (s : State) :
    Result.keepsOk (execUnbindWaitLinkDown c s) s := by
  unfold execUnbindWaitLinkDown
  try dsimp only
  repeat' (first
    | (with_reducible assumption)
    | (with_reducible refine keepsOk_next ?_)
    | (exact keepsOk_refused _ _)
    | (intro _)
    | (with_reducible refine State.unbindBy_memOk _ _ _ _ ?_ ?_)
    | split
    | (with_reducible refine foldl_memOk ?_ _ _ ?_)
    | simp)

theorem execUnbindManagedHotRemove_memOk (c : Core) (s : State) :
    Result.keepsOk (execUnbindManagedHotRemove c s) s := by
  unfold execUnbindManagedHotRemove
  try dsimp only
  repeat' (first
    | (with_reducible assumption)
    | (with_reducible refine keepsOk_next ?_)
    | (exact keepsOk_refused _ _)
    | (intro _)
    | (with_reducible refine State.unbindBy_memOk _ _ _ _ ?_ ?_)
    | split
    | (with_reducible refine foldl_memOk ?_ _ _ ?_)
    | simp)

theorem execUnbindSurpriseHotRemove_memOk (c : Core) (s : State) :
    Result.keepsOk (execUnbindSurpriseHotRemove c s) s := by
  unfold execUnbindSurpriseHotRemove
  try dsimp only
  repeat' (first
    | (with_reducible assumption)
    | (with_reducible refine keepsOk_next ?_)
    | (exact keepsOk_refused _ _)
    | (intro _)
    | (with_reducible refine State.unbindBy_memOk _ _ _ _ ?_ ?_)
    | split
    | (with_reducible refine foldl_memOk ?_ _ _ ?_)
    | simp)

theorem execAerGen_memOk (c : Core) (s : State) :
    Result.keepsOk (execAerGen c s) s := by
  unfold execAerGen
  try dsimp only
  repeat' (first
    | (with_reducible assumption)
    | (with_reducible refine keepsOk_next ?_)
    | (exact keepsOk_refused _ _)
    | (intro _)
    | (with_reducible refine State.libRun_memOk _ _ _ _ ?_ ?_)
    | (with_reducible refine State.libCommit_memOk _ _ _ _ _ ?_ ?_)
    | (with_reducible refine State.libArgs_memOk _ _ _ _ ?_ ?_)
    | split
    | (with_reducible refine foldl_memOk ?_ _ _ ?_)
    | simp)

theorem execMirrorSet_memOk (c : Core) (s : State) :
    Result.keepsOk (execMirrorSet c s) s := by
  unfold execMirrorSet
  try dsimp only
  repeat' (first
    | (with_reducible assumption)
    | (with_reducible refine keepsOk_next ?_)
    | (exact keepsOk_refused _ _)
    | (intro _)
    | (with_reducible refine State.libRun_memOk _ _ _ _ ?_ ?_)
    | (with_reducible refine State.libCommit_memOk _ _ _ _ _ ?_ ?_)
    | (with_reducible refine State.libArgs_memOk _ _ _ _ ?_ ?_)
    | split
    | (with_reducible refine foldl_memOk ?_ _ _ ?_)
    | simp)

theorem execTenantMap_memOk (c : Core) (s : State) :
    Result.keepsOk (execTenantMap c s) s := by
  unfold execTenantMap
  try dsimp only
  repeat' (first
    | (with_reducible assumption)
    | (with_reducible refine keepsOk_next ?_)
    | (exact keepsOk_refused _ _)
    | (intro _)
    | (with_reducible refine State.libRun_memOk _ _ _ _ ?_ ?_)
    | (with_reducible refine State.libCommit_memOk _ _ _ _ _ ?_ ?_)
    | (with_reducible refine State.libArgs_memOk _ _ _ _ ?_ ?_)
    | split
    | (with_reducible refine foldl_memOk ?_ _ _ ?_)
    | simp)

theorem execClassSet_memOk (c : Core) (s : State) :
    Result.keepsOk (execClassSet c s) s := by
  unfold execClassSet
  try dsimp only
  repeat' (first
    | (with_reducible assumption)
    | (with_reducible refine keepsOk_next ?_)
    | (exact keepsOk_refused _ _)
    | (intro _)
    | (with_reducible refine State.libRun_memOk _ _ _ _ ?_ ?_)
    | (with_reducible refine State.libCommit_memOk _ _ _ _ _ ?_ ?_)
    | (with_reducible refine State.libArgs_memOk _ _ _ _ ?_ ?_)
    | split
    | (with_reducible refine foldl_memOk ?_ _ _ ?_)
    | simp)

theorem execTenantCreate_memOk (c : Core) (s : State) :
    Result.keepsOk (execTenantCreate c s) s := by
  unfold execTenantCreate
  try dsimp only
  repeat' (first
    | (with_reducible assumption)
    | (with_reducible refine keepsOk_next ?_)
    | (exact keepsOk_refused _ _)
    | (intro _)
    | (with_reducible refine State.libRun_memOk _ _ _ _ ?_ ?_)
    | (with_reducible refine State.libCommit_memOk _ _ _ _ _ ?_ ?_)
    | (with_reducible refine State.libArgs_memOk _ _ _ _ ?_ ?_)
    | split
    | (with_reducible refine foldl_memOk ?_ _ _ ?_)
    | simp)

theorem execTenantReset_memOk (c : Core) (s : State) :
    Result.keepsOk (execTenantReset c s) s := by
  unfold execTenantReset
  try dsimp only
  repeat' (first
    | (with_reducible assumption)
    | (with_reducible refine keepsOk_next ?_)
    | (exact keepsOk_refused _ _)
    | (intro _)
    | (with_reducible refine State.libRun_memOk _ _ _ _ ?_ ?_)
    | (with_reducible refine State.libCommit_memOk _ _ _ _ _ ?_ ?_)
    | split
    | (with_reducible refine foldl_memOk ?_ _ _ ?_)
    | simp)

theorem execTenantResetDone_memOk (t : TenantId) (s : State) :
    Result.keepsOk (execTenantResetDone t s) s := by
  unfold execTenantResetDone
  try dsimp only
  repeat' (first
    | (with_reducible assumption)
    | (with_reducible refine keepsOk_next ?_)
    | (exact keepsOk_refused _ _)
    | (intro _)
    | (with_reducible refine State.flushAllRecords_memOk _ _ ?_)
    | split
    | (with_reducible refine foldl_memOk ?_ _ _ ?_)
    | simp)

theorem State.destroyMore_memOk (s : State) (c : Core) (t : Nat) (a3 : Nat) (hs : memsOk s.mems) :
    memsOk (State.destroyMore s c t a3).mems := by
  induction a3 generalizing s with
  | zero => simpa [State.destroyMore] using hs
  | succ k ih =>
    unfold State.destroyMore
    split
    · simpa using hs
    · split
      · simpa using State.commitNow_refusedOk ‹_› hs
      · exact State.commitNow_laterOk ‹_› hs
      · exact ih _ (State.commitNow_passedOk ‹_› hs)

theorem execTenantDestroy_memOk (c : Core) (s : State) :
    Result.keepsOk (execTenantDestroy c s) s := by
  unfold execTenantDestroy
  try dsimp only
  repeat' (first
    | (with_reducible assumption)
    | (with_reducible refine keepsOk_next ?_)
    | (exact keepsOk_refused _ _)
    | (intro _)
    | (with_reducible refine State.libRun_memOk _ _ _ _ ?_ ?_)
    | (with_reducible refine State.destroyMore_memOk _ _ _ _ ?_)
    | (with_reducible refine State.commitNow_refusedOk ‹_› ?_)
    | (with_reducible refine State.commitNow_laterOk ‹_› ?_)
    | (with_reducible refine State.commitNow_passedOk ‹_› ?_)
    | split
    | (with_reducible refine foldl_memOk ?_ _ _ ?_)
    | simp)

theorem execRuleStage_memOk (c : Core) (s : State) :
    Result.keepsOk (execRuleStage c s) s := by
  unfold execRuleStage
  try dsimp only
  repeat' (first
    | (with_reducible assumption)
    | (with_reducible refine keepsOk_next ?_)
    | (exact keepsOk_refused _ _)
    | (intro _)
    | (with_reducible refine State.libRun_memOk _ _ _ _ ?_ ?_)
    | (with_reducible refine State.libCommit_memOk _ _ _ _ _ ?_ ?_)
    | (with_reducible refine State.libArgs_memOk _ _ _ _ ?_ ?_)
    | (with_reducible rw [State.reserveMany_nextMem ‹_›])
    | split
    | (with_reducible refine foldl_memOk ?_ _ _ ?_)
    | simp [*])

theorem execBankSwap_memOk (c : Core) (s : State) :
    Result.keepsOk (execBankSwap c s) s := by
  unfold execBankSwap
  try dsimp only
  repeat' (first
    | (with_reducible assumption)
    | (with_reducible refine keepsOk_next ?_)
    | (exact keepsOk_refused _ _)
    | (intro _)
    | (with_reducible refine State.libRun_memOk _ _ _ _ ?_ ?_)
    | (with_reducible refine State.libCommit_memOk _ _ _ _ _ ?_ ?_)
    | (with_reducible refine State.libArgs_memOk _ _ _ _ ?_ ?_)
    | split
    | (with_reducible refine foldl_memOk ?_ _ _ ?_)
    | simp)

theorem State.gleanerSet_memOk (s : State) (c : Core) (op : Nat) (ok : State → Order → Nat → Bool) (es : Order → Nat → List Entry) (act : Nat → State → State) (hact : ∀ b0 b1, memsOk b1.mems → memsOk (act b0 b1).mems) (hs : memsOk s.mems) :
    memsOk (State.gleanerSet s c op ok es act).mems := by
  unfold State.gleanerSet
  try dsimp only
  repeat' (first
    | (with_reducible assumption)
    | (with_reducible refine keepsOk_next ?_)
    | (exact keepsOk_refused _ _)
    | (intro _)
    | (with_reducible refine State.libRun_memOk _ _ _ _ ?_ ?_)
    | (with_reducible refine State.libCommit_memOk _ _ _ _ _ ?_ ?_)
    | (with_reducible refine State.libOp_memOk _ _ _ _ _ _ ?_ ?_)
    | (with_reducible refine State.libArgs_memOk _ _ _ _ ?_ ?_)
    | split
    | (with_reducible refine foldl_memOk ?_ _ _ ?_)
    | simp [*])

theorem execGleanerStop_memOk (c : Core) (s : State) :
    Result.keepsOk (execGleanerStop c s) s := by
  unfold execGleanerStop
  try dsimp only
  repeat' (first
    | (with_reducible assumption)
    | (with_reducible refine keepsOk_next ?_)
    | (exact keepsOk_refused _ _)
    | (intro _)
    | (with_reducible refine State.gleanerSet_memOk _ _ _ _ _ _ ?_ ?_)
    | split
    | (with_reducible refine foldl_memOk ?_ _ _ ?_)
    | simp)

theorem execGleanerStart_memOk (c : Core) (s : State) :
    Result.keepsOk (execGleanerStart c s) s := by
  unfold execGleanerStart
  try dsimp only
  repeat' (first
    | (with_reducible assumption)
    | (with_reducible refine keepsOk_next ?_)
    | (exact keepsOk_refused _ _)
    | (intro _)
    | (with_reducible refine State.gleanerSet_memOk _ _ _ _ _ _ ?_ ?_)
    | split
    | (with_reducible refine foldl_memOk ?_ _ _ ?_)
    | simp)

theorem execGleanerNewPass_memOk (c : Core) (s : State) :
    Result.keepsOk (execGleanerNewPass c s) s := by
  unfold execGleanerNewPass
  try dsimp only
  repeat' (first
    | (with_reducible assumption)
    | (with_reducible refine keepsOk_next ?_)
    | (exact keepsOk_refused _ _)
    | (intro _)
    | (with_reducible refine State.gleanerSet_memOk _ _ _ _ _ _ ?_ ?_)
    | split
    | (with_reducible refine foldl_memOk ?_ _ _ ?_)
    | simp)

theorem execGleanerSetTail_memOk (c : Core) (s : State) :
    Result.keepsOk (execGleanerSetTail c s) s := by
  unfold execGleanerSetTail
  try dsimp only
  repeat' (first
    | (with_reducible assumption)
    | (with_reducible refine keepsOk_next ?_)
    | (exact keepsOk_refused _ _)
    | (intro _)
    | (with_reducible refine State.gleanerSet_memOk _ _ _ _ _ _ ?_ ?_)
    | split
    | (with_reducible refine foldl_memOk ?_ _ _ ?_)
    | simp)

theorem execGleanerRecordWrite_memOk (t : TenantId) (s : State) :
    Result.keepsOk (execGleanerRecordWrite t s) s := by
  unfold execGleanerRecordWrite
  try dsimp only
  repeat' (first
    | (with_reducible assumption)
    | (with_reducible refine keepsOk_next ?_)
    | (exact keepsOk_refused _ _)
    | (intro _)
    | (with_reducible refine State.writeRecords_memOk _ _ ?_)
    | split
    | (with_reducible refine foldl_memOk ?_ _ _ ?_)
    | simp)

theorem execCheckerClear_memOk (c : Core) (s : State) :
    Result.keepsOk (execCheckerClear c s) s := by
  unfold execCheckerClear
  try dsimp only
  repeat' (first
    | (with_reducible assumption)
    | (with_reducible refine keepsOk_next ?_)
    | (exact keepsOk_refused _ _)
    | (intro _)
    | (with_reducible refine State.libRun_memOk _ _ _ _ ?_ ?_)
    | (with_reducible refine State.libCommit_memOk _ _ _ _ _ ?_ ?_)
    | split
    | (with_reducible refine foldl_memOk ?_ _ _ ?_)
    | simp)

theorem State.eventSet_memOk (s : State) (c : Core) (op : Nat) (e : Nat → Entry) (hs : memsOk s.mems) :
    memsOk (State.eventSet s c op e).mems := by
  unfold State.eventSet
  try dsimp only
  repeat' (first
    | (with_reducible assumption)
    | (with_reducible refine keepsOk_next ?_)
    | (exact keepsOk_refused _ _)
    | (intro _)
    | (with_reducible refine State.libRun_memOk _ _ _ _ ?_ ?_)
    | (with_reducible refine State.libCommit_memOk _ _ _ _ _ ?_ ?_)
    | (with_reducible refine State.libOp_memOk _ _ _ _ _ _ ?_ ?_)
    | (with_reducible refine State.libArgs_memOk _ _ _ _ ?_ ?_)
    | split
    | (with_reducible refine foldl_memOk ?_ _ _ ?_)
    | simp)

theorem execEventAllocate_memOk (c : Core) (s : State) :
    Result.keepsOk (execEventAllocate c s) s := by
  unfold execEventAllocate
  try dsimp only
  repeat' (first
    | (with_reducible assumption)
    | (with_reducible refine keepsOk_next ?_)
    | (exact keepsOk_refused _ _)
    | (intro _)
    | (with_reducible refine State.libRun_memOk _ _ _ _ ?_ ?_)
    | (with_reducible refine State.libCommit_memOk _ _ _ _ _ ?_ ?_)
    | (with_reducible refine State.libOp_memOk _ _ _ _ _ _ ?_ ?_)
    | (with_reducible refine State.libArgs_memOk _ _ _ _ ?_ ?_)
    | (with_reducible rw [State.reserveMany_nextMem ‹_›])
    | split
    | (with_reducible refine foldl_memOk ?_ _ _ ?_)
    | simp [*])

theorem execEventEnable_memOk (c : Core) (s : State) :
    Result.keepsOk (execEventEnable c s) s := by
  unfold execEventEnable
  try dsimp only
  repeat' (first
    | (with_reducible assumption)
    | (with_reducible refine keepsOk_next ?_)
    | (exact keepsOk_refused _ _)
    | (intro _)
    | (with_reducible refine State.eventSet_memOk _ _ _ _ ?_)
    | split
    | (with_reducible refine foldl_memOk ?_ _ _ ?_)
    | simp)

theorem execEventDisable_memOk (c : Core) (s : State) :
    Result.keepsOk (execEventDisable c s) s := by
  unfold execEventDisable
  try dsimp only
  repeat' (first
    | (with_reducible assumption)
    | (with_reducible refine keepsOk_next ?_)
    | (exact keepsOk_refused _ _)
    | (intro _)
    | (with_reducible refine State.eventSet_memOk _ _ _ _ ?_)
    | split
    | (with_reducible refine foldl_memOk ?_ _ _ ?_)
    | simp)

theorem execEventClearPending_memOk (c : Core) (s : State) :
    Result.keepsOk (execEventClearPending c s) s := by
  unfold execEventClearPending
  try dsimp only
  repeat' (first
    | (with_reducible assumption)
    | (with_reducible refine keepsOk_next ?_)
    | (exact keepsOk_refused _ _)
    | (intro _)
    | (with_reducible refine State.eventSet_memOk _ _ _ _ ?_)
    | split
    | (with_reducible refine foldl_memOk ?_ _ _ ?_)
    | simp)

theorem execEventFree_memOk (c : Core) (s : State) :
    Result.keepsOk (execEventFree c s) s := by
  unfold execEventFree
  try dsimp only
  repeat' (first
    | (with_reducible assumption)
    | (with_reducible refine keepsOk_next ?_)
    | (exact keepsOk_refused _ _)
    | (intro _)
    | (with_reducible refine State.eventSet_memOk _ _ _ _ ?_)
    | split
    | (with_reducible refine foldl_memOk ?_ _ _ ?_)
    | simp)

theorem State.programAll_memOk (s : State) (c : Core) (items : List (List Entry)) (k : Nat) (hs : memsOk s.mems) :
    memsOk (State.programAll s c items k).mems := by
  unfold State.programAll
  try dsimp only
  repeat' (first
    | (with_reducible assumption)
    | (with_reducible refine keepsOk_next ?_)
    | (exact keepsOk_refused _ _)
    | (intro _)
    | (with_reducible refine State.commitAll_refusedOk ‹_› ?_)
    | (with_reducible refine State.commitAll_laterOk ‹_› ?_)
    | (with_reducible refine State.commitAll_passedOk ‹_› ?_)
    | split
    | (with_reducible refine foldl_memOk ?_ _ _ ?_)
    | simp)

theorem State.counterSet_memOk (s : State) (c : Core) (op : Nat) (body : State → Order → List Nat → State) (hbody : ∀ b0 b1 b2, memsOk b0.mems → memsOk (body b0 b1 b2).mems) (hs : memsOk s.mems) :
    memsOk (State.counterSet s c op body).mems := by
  unfold State.counterSet
  try dsimp only
  repeat' (first
    | (with_reducible assumption)
    | (with_reducible refine keepsOk_next ?_)
    | (exact keepsOk_refused _ _)
    | (intro _)
    | (with_reducible refine State.libRun_memOk _ _ _ _ ?_ ?_)
    | (with_reducible refine State.libOp_memOk _ _ _ _ _ _ ?_ ?_)
    | (with_reducible refine State.libArgs_memOk _ _ _ _ ?_ ?_)
    | split
    | (with_reducible refine foldl_memOk ?_ _ _ ?_)
    | simp [*])

theorem execCounterAllocate_memOk (c : Core) (s : State) :
    Result.keepsOk (execCounterAllocate c s) s := by
  unfold execCounterAllocate
  try dsimp only
  repeat' (first
    | (with_reducible assumption)
    | (with_reducible refine keepsOk_next ?_)
    | (exact keepsOk_refused _ _)
    | (intro _)
    | (with_reducible refine State.libRun_memOk _ _ _ _ ?_ ?_)
    | (with_reducible refine State.libCommit_memOk _ _ _ _ _ ?_ ?_)
    | (with_reducible refine State.libOp_memOk _ _ _ _ _ _ ?_ ?_)
    | (with_reducible refine State.libArgs_memOk _ _ _ _ ?_ ?_)
    | (with_reducible rw [State.reserveMany_nextMem ‹_›])
    | split
    | (with_reducible refine foldl_memOk ?_ _ _ ?_)
    | simp [*])

theorem execCounterProgram_memOk (c : Core) (s : State) :
    Result.keepsOk (execCounterProgram c s) s := by
  unfold execCounterProgram
  try dsimp only
  repeat' (first
    | (with_reducible assumption)
    | (with_reducible refine keepsOk_next ?_)
    | (exact keepsOk_refused _ _)
    | (intro _)
    | (with_reducible refine State.libArgs_memOk _ _ _ _ ?_ ?_)
    | (with_reducible refine State.programAll_memOk _ _ _ _ ?_)
    | (with_reducible refine State.counterSet_memOk _ _ _ _ ?_ ?_)
    | split
    | (with_reducible refine foldl_memOk ?_ _ _ ?_)
    | simp)

theorem execCounterClear_memOk (c : Core) (s : State) :
    Result.keepsOk (execCounterClear c s) s := by
  unfold execCounterClear
  try dsimp only
  repeat' (first
    | (with_reducible assumption)
    | (with_reducible refine keepsOk_next ?_)
    | (exact keepsOk_refused _ _)
    | (intro _)
    | (with_reducible refine State.libCommit_memOk _ _ _ _ _ ?_ ?_)
    | (with_reducible refine State.counterSet_memOk _ _ _ _ ?_ ?_)
    | split
    | (with_reducible refine foldl_memOk ?_ _ _ ?_)
    | simp)

theorem execCounterRun_memOk (c : Core) (s : State) :
    Result.keepsOk (execCounterRun c s) s := by
  unfold execCounterRun
  try dsimp only
  repeat' (first
    | (with_reducible assumption)
    | (with_reducible refine keepsOk_next ?_)
    | (exact keepsOk_refused _ _)
    | (intro _)
    | (with_reducible refine State.libCommit_memOk _ _ _ _ _ ?_ ?_)
    | (with_reducible refine State.counterSet_memOk _ _ _ _ ?_ ?_)
    | split
    | (with_reducible refine foldl_memOk ?_ _ _ ?_)
    | simp)

theorem execCounterStop_memOk (c : Core) (s : State) :
    Result.keepsOk (execCounterStop c s) s := by
  unfold execCounterStop
  try dsimp only
  repeat' (first
    | (with_reducible assumption)
    | (with_reducible refine keepsOk_next ?_)
    | (exact keepsOk_refused _ _)
    | (intro _)
    | (with_reducible refine State.libCommit_memOk _ _ _ _ _ ?_ ?_)
    | (with_reducible refine State.counterSet_memOk _ _ _ _ ?_ ?_)
    | split
    | (with_reducible refine foldl_memOk ?_ _ _ ?_)
    | simp)

theorem execCounterFree_memOk (c : Core) (s : State) :
    Result.keepsOk (execCounterFree c s) s := by
  unfold execCounterFree
  try dsimp only
  repeat' (first
    | (with_reducible assumption)
    | (with_reducible refine keepsOk_next ?_)
    | (exact keepsOk_refused _ _)
    | (intro _)
    | (with_reducible refine State.libCommit_memOk _ _ _ _ _ ?_ ?_)
    | (with_reducible refine State.counterSet_memOk _ _ _ _ ?_ ?_)
    | split
    | (with_reducible refine foldl_memOk ?_ _ _ ?_)
    | simp)

theorem State.unitSet_memOk (s : State) (c : Core) (op : Nat) (whole : Bool) (body : State → Order → List Nat → State) (hbody : ∀ b0 b1 b2, memsOk b0.mems → memsOk (body b0 b1 b2).mems) (hs : memsOk s.mems) :
    memsOk (State.unitSet s c op whole body).mems := by
  unfold State.unitSet
  try dsimp only
  repeat' (first
    | (with_reducible assumption)
    | (with_reducible refine keepsOk_next ?_)
    | (exact keepsOk_refused _ _)
    | (intro _)
    | (with_reducible refine State.libRun_memOk _ _ _ _ ?_ ?_)
    | (with_reducible refine State.libOp_memOk _ _ _ _ _ _ ?_ ?_)
    | (with_reducible refine State.libArgs_memOk _ _ _ _ ?_ ?_)
    | split
    | (with_reducible refine foldl_memOk ?_ _ _ ?_)
    | simp [*])

theorem execUnitCounterProgram_memOk (c : Core) (s : State) :
    Result.keepsOk (execUnitCounterProgram c s) s := by
  unfold execUnitCounterProgram
  try dsimp only
  repeat' (first
    | (with_reducible assumption)
    | (with_reducible refine keepsOk_next ?_)
    | (exact keepsOk_refused _ _)
    | (intro _)
    | (with_reducible refine State.libArgs_memOk _ _ _ _ ?_ ?_)
    | (with_reducible refine State.programAll_memOk _ _ _ _ ?_)
    | (with_reducible refine State.unitSet_memOk _ _ _ _ _ ?_ ?_)
    | split
    | (with_reducible refine foldl_memOk ?_ _ _ ?_)
    | simp)

theorem execUnitCounterClear_memOk (c : Core) (s : State) :
    Result.keepsOk (execUnitCounterClear c s) s := by
  unfold execUnitCounterClear
  try dsimp only
  repeat' (first
    | (with_reducible assumption)
    | (with_reducible refine keepsOk_next ?_)
    | (exact keepsOk_refused _ _)
    | (intro _)
    | (with_reducible refine State.libCommit_memOk _ _ _ _ _ ?_ ?_)
    | (with_reducible refine State.unitSet_memOk _ _ _ _ _ ?_ ?_)
    | split
    | (with_reducible refine foldl_memOk ?_ _ _ ?_)
    | simp)

theorem execUnitSetRun_memOk (c : Core) (s : State) :
    Result.keepsOk (execUnitSetRun c s) s := by
  unfold execUnitSetRun
  try dsimp only
  repeat' (first
    | (with_reducible assumption)
    | (with_reducible refine keepsOk_next ?_)
    | (exact keepsOk_refused _ _)
    | (intro _)
    | (with_reducible refine State.libCommit_memOk _ _ _ _ _ ?_ ?_)
    | (with_reducible refine State.unitSet_memOk _ _ _ _ _ ?_ ?_)
    | split
    | (with_reducible refine foldl_memOk ?_ _ _ ?_)
    | simp)

theorem execUnitSetStop_memOk (c : Core) (s : State) :
    Result.keepsOk (execUnitSetStop c s) s := by
  unfold execUnitSetStop
  try dsimp only
  repeat' (first
    | (with_reducible assumption)
    | (with_reducible refine keepsOk_next ?_)
    | (exact keepsOk_refused _ _)
    | (intro _)
    | (with_reducible refine State.libCommit_memOk _ _ _ _ _ ?_ ?_)
    | (with_reducible refine State.unitSet_memOk _ _ _ _ _ ?_ ?_)
    | split
    | (with_reducible refine foldl_memOk ?_ _ _ ?_)
    | simp)

theorem execUnitSetZero_memOk (c : Core) (s : State) :
    Result.keepsOk (execUnitSetZero c s) s := by
  unfold execUnitSetZero
  try dsimp only
  repeat' (first
    | (with_reducible assumption)
    | (with_reducible refine keepsOk_next ?_)
    | (exact keepsOk_refused _ _)
    | (intro _)
    | (with_reducible refine State.libCommit_memOk _ _ _ _ _ ?_ ?_)
    | (with_reducible refine State.unitSet_memOk _ _ _ _ _ ?_ ?_)
    | split
    | (with_reducible refine foldl_memOk ?_ _ _ ?_)
    | simp)

theorem execAgentSet_memOk (c : Core) (s : State) :
    Result.keepsOk (execAgentSet c s) s := by
  unfold execAgentSet
  try dsimp only
  repeat' (first
    | (with_reducible assumption)
    | (with_reducible refine keepsOk_next ?_)
    | (exact keepsOk_refused _ _)
    | (intro _)
    | (with_reducible refine State.libRun_memOk _ _ _ _ ?_ ?_)
    | (with_reducible refine State.libCommit_memOk _ _ _ _ _ ?_ ?_)
    | (with_reducible refine State.libArgs_memOk _ _ _ _ ?_ ?_)
    | split
    | (with_reducible refine foldl_memOk ?_ _ _ ?_)
    | simp)

theorem execCoherenceSet_memOk (c : Core) (s : State) :
    Result.keepsOk (execCoherenceSet c s) s := by
  unfold execCoherenceSet
  try dsimp only
  repeat' (first
    | (with_reducible assumption)
    | (with_reducible refine keepsOk_next ?_)
    | (exact keepsOk_refused _ _)
    | (intro _)
    | (with_reducible refine State.libRun_memOk _ _ _ _ ?_ ?_)
    | (with_reducible refine State.libCommit_memOk _ _ _ _ _ ?_ ?_)
    | (with_reducible refine State.libArgs_memOk _ _ _ _ ?_ ?_)
    | split
    | (with_reducible refine foldl_memOk ?_ _ _ ?_)
    | simp)

theorem execCoherentFlush_memOk (c : Core) (s : State) :
    Result.keepsOk (execCoherentFlush c s) s := by
  unfold execCoherentFlush
  try dsimp only
  repeat' (first
    | (with_reducible assumption)
    | (with_reducible refine keepsOk_next ?_)
    | (exact keepsOk_refused _ _)
    | (intro _)
    | (with_reducible refine State.libRun_memOk _ _ _ _ ?_ ?_)
    | (with_reducible refine State.libCommit_memOk _ _ _ _ _ ?_ ?_)
    | (with_reducible refine State.libArgs_memOk _ _ _ _ ?_ ?_)
    | split
    | (with_reducible refine foldl_memOk ?_ _ _ ?_)
    | simp)

theorem State.laneTest_memOk (s : State) (c : Core) (op : Nat) (ok : State → Order → Nat → Nat → Bool) (body : State → Order → List Nat → State) (hbody : ∀ b0 b1 b2, memsOk b0.mems → memsOk (body b0 b1 b2).mems) (hs : memsOk s.mems) :
    memsOk (State.laneTest s c op ok body).mems := by
  unfold State.laneTest
  try dsimp only
  repeat' (first
    | (with_reducible assumption)
    | (with_reducible refine keepsOk_next ?_)
    | (exact keepsOk_refused _ _)
    | (intro _)
    | (with_reducible refine State.libRun_memOk _ _ _ _ ?_ ?_)
    | (with_reducible refine State.libOp_memOk _ _ _ _ _ _ ?_ ?_)
    | (with_reducible refine State.libArgs_memOk _ _ _ _ ?_ ?_)
    | split
    | (with_reducible refine foldl_memOk ?_ _ _ ?_)
    | simp [*])

theorem execEyeScan_memOk (c : Core) (s : State) :
    Result.keepsOk (execEyeScan c s) s := by
  unfold execEyeScan
  try dsimp only
  repeat' (first
    | (with_reducible assumption)
    | (with_reducible refine keepsOk_next ?_)
    | (exact keepsOk_refused _ _)
    | (intro _)
    | (with_reducible refine State.libRun_memOk _ _ _ _ ?_ ?_)
    | (with_reducible refine State.libCommit_memOk _ _ _ _ _ ?_ ?_)
    | (with_reducible refine State.libArgs_memOk _ _ _ _ ?_ ?_)
    | split
    | (with_reducible refine foldl_memOk ?_ _ _ ?_)
    | simp)

theorem State.ideSet_memOk (s : State) (c : Core) (op : Nat) (act : Nat → Nat → Nat → State → State) (hact : ∀ b0 b1 b2 b3, memsOk b3.mems → memsOk (act b0 b1 b2 b3).mems) (hs : memsOk s.mems) :
    memsOk (State.ideSet s c op act).mems := by
  unfold State.ideSet
  try dsimp only
  repeat' (first
    | (with_reducible assumption)
    | (with_reducible refine keepsOk_next ?_)
    | (exact keepsOk_refused _ _)
    | (intro _)
    | (with_reducible refine State.libRun_memOk _ _ _ _ ?_ ?_)
    | (with_reducible refine State.libCommit_memOk _ _ _ _ _ ?_ ?_)
    | (with_reducible refine State.libOp_memOk _ _ _ _ _ _ ?_ ?_)
    | (with_reducible refine State.libArgs_memOk _ _ _ _ ?_ ?_)
    | split
    | (with_reducible refine foldl_memOk ?_ _ _ ?_)
    | simp [*])

theorem execIdeStop_memOk (c : Core) (s : State) :
    Result.keepsOk (execIdeStop c s) s := by
  unfold execIdeStop
  try dsimp only
  repeat' (first
    | (with_reducible assumption)
    | (with_reducible refine keepsOk_next ?_)
    | (exact keepsOk_refused _ _)
    | (intro _)
    | (with_reducible refine State.ideSet_memOk _ _ _ _ ?_ ?_)
    | split
    | (with_reducible refine foldl_memOk ?_ _ _ ?_)
    | simp)

theorem execIdeEstablish_memOk (c : Core) (s : State) :
    Result.keepsOk (execIdeEstablish c s) s := by
  unfold execIdeEstablish
  try dsimp only
  repeat' (first
    | (with_reducible assumption)
    | (with_reducible refine keepsOk_next ?_)
    | (exact keepsOk_refused _ _)
    | (intro _)
    | (with_reducible refine State.ideSet_memOk _ _ _ _ ?_ ?_)
    | split
    | (with_reducible refine foldl_memOk ?_ _ _ ?_)
    | simp)

theorem execIdeRefresh_memOk (c : Core) (s : State) :
    Result.keepsOk (execIdeRefresh c s) s := by
  unfold execIdeRefresh
  try dsimp only
  repeat' (first
    | (with_reducible assumption)
    | (with_reducible refine keepsOk_next ?_)
    | (exact keepsOk_refused _ _)
    | (intro _)
    | (with_reducible refine State.ideSet_memOk _ _ _ _ ?_ ?_)
    | split
    | (with_reducible refine foldl_memOk ?_ _ _ ?_)
    | simp)

theorem State.imageWrite_memOk (s : State) (c : Core) (op : Nat) (ok : Order → Bool) (job : Order → FlashJob) (hs : memsOk s.mems) :
    memsOk (State.imageWrite s c op ok job).mems := by
  unfold State.imageWrite
  try dsimp only
  repeat' (first
    | (with_reducible assumption)
    | (with_reducible refine keepsOk_next ?_)
    | (exact keepsOk_refused _ _)
    | (intro _)
    | (with_reducible refine State.libRun_memOk _ _ _ _ ?_ ?_)
    | (with_reducible refine State.libCommit_memOk _ _ _ _ _ ?_ ?_)
    | (with_reducible refine State.libOp_memOk _ _ _ _ _ _ ?_ ?_)
    | (with_reducible refine State.libArgs_memOk _ _ _ _ ?_ ?_)
    | split
    | (with_reducible refine foldl_memOk ?_ _ _ ?_)
    | simp)

theorem execImageWriteProgram_memOk (c : Core) (s : State) :
    Result.keepsOk (execImageWriteProgram c s) s := by
  unfold execImageWriteProgram
  try dsimp only
  repeat' (first
    | (with_reducible assumption)
    | (with_reducible refine keepsOk_next ?_)
    | (exact keepsOk_refused _ _)
    | (intro _)
    | (with_reducible refine State.imageWrite_memOk _ _ _ _ _ ?_)
    | split
    | (with_reducible refine foldl_memOk ?_ _ _ ?_)
    | simp)

theorem execImageWriteErase_memOk (c : Core) (s : State) :
    Result.keepsOk (execImageWriteErase c s) s := by
  unfold execImageWriteErase
  try dsimp only
  repeat' (first
    | (with_reducible assumption)
    | (with_reducible refine keepsOk_next ?_)
    | (exact keepsOk_refused _ _)
    | (intro _)
    | (with_reducible refine State.imageWrite_memOk _ _ _ _ _ ?_)
    | split
    | (with_reducible refine foldl_memOk ?_ _ _ ?_)
    | simp)

theorem execImageWriteEraseProgram_memOk (c : Core) (s : State) :
    Result.keepsOk (execImageWriteEraseProgram c s) s := by
  unfold execImageWriteEraseProgram
  try dsimp only
  repeat' (first
    | (with_reducible assumption)
    | (with_reducible refine keepsOk_next ?_)
    | (exact keepsOk_refused _ _)
    | (intro _)
    | (with_reducible refine State.imageWrite_memOk _ _ _ _ _ ?_)
    | split
    | (with_reducible refine foldl_memOk ?_ _ _ ?_)
    | simp)

theorem execImageStage_memOk (c : Core) (s : State) :
    Result.keepsOk (execImageStage c s) s := by
  unfold execImageStage
  try dsimp only
  repeat' (first
    | (with_reducible assumption)
    | (with_reducible refine keepsOk_next ?_)
    | (exact keepsOk_refused _ _)
    | (intro _)
    | (with_reducible refine State.libRun_memOk _ _ _ _ ?_ ?_)
    | (with_reducible refine State.libCommit_memOk _ _ _ _ _ ?_ ?_)
    | (with_reducible refine State.libArgs_memOk _ _ _ _ ?_ ?_)
    | split
    | (with_reducible refine foldl_memOk ?_ _ _ ?_)
    | simp)

theorem execStagingDone_memOk (memoryError : Bool) (s : State) :
    Result.keepsOk (execStagingDone memoryError s) s := by
  unfold execStagingDone
  refine keepsOk_next fun hs => ?_
  split
  · dsimp only
    simp only [State.raiseVector_mems]
    split
    · simpa using hs
    · have h : memsOk (s.readOther s.boot.bank).mems := by simpa using hs
      split
      · have k : memsOk ((s.readOther s.boot.bank).randomBytes s.boot.stagedImage.length []).1.mems := by simpa using h
        simp only [State.mems_mk]
        with_reducible refine memsOk_put ?_ (memPutBytes_wf _ _ _ (memsOk_pool k))
        simpa using k
      · simp only [State.mems_mk]
        with_reducible refine memsOk_put ?_ (memPutBytes_wf _ _ _ (memsOk_pool h))
        simpa using h
  · exact hs

theorem execActivate_memOk (c : Core) (s : State) :
    Result.keepsOk (execActivate c s) s := by
  unfold execActivate
  try dsimp only
  repeat' (first
    | (with_reducible assumption)
    | (with_reducible refine keepsOk_next ?_)
    | (exact keepsOk_refused _ _)
    | (intro _)
    | (with_reducible refine State.libRun_memOk _ _ _ _ ?_ ?_)
    | (with_reducible refine State.libCommit_memOk _ _ _ _ _ ?_ ?_)
    | (with_reducible refine State.libArgs_memOk _ _ _ _ ?_ ?_)
    | split
    | (with_reducible refine foldl_memOk ?_ _ _ ?_)
    | simp)

theorem State.installCopy_memOk (s : State) (hs : memsOk s.mems) :
    memsOk (State.installCopy s).mems := by
  unfold State.installCopy
  try dsimp only
  repeat' (first
    | (with_reducible assumption)
    | (with_reducible refine keepsOk_next ?_)
    | (exact keepsOk_refused _ _)
    | (intro _)
    | (with_reducible refine State.installImage_memOk _ _ ?_)
    | split
    | (with_reducible refine foldl_memOk ?_ _ _ ?_)
    | simp)

theorem execActivationCopyDone_memOk (memoryError : Bool) (s : State) :
    Result.keepsOk (execActivationCopyDone memoryError s) s := by
  unfold execActivationCopyDone
  try dsimp only
  repeat' (first
    | (with_reducible assumption)
    | (with_reducible refine keepsOk_next ?_)
    | (exact keepsOk_refused _ _)
    | (intro _)
    | (with_reducible refine State.installCopy_memOk _ ?_)
    | split
    | (with_reducible refine foldl_memOk ?_ _ _ ?_)
    | simp)

theorem execActivationReloadDone_memOk (s : State) :
    Result.keepsOk (execActivationReloadDone s) s := by
  unfold execActivationReloadDone
  try dsimp only
  repeat' (first
    | (with_reducible assumption)
    | (with_reducible refine keepsOk_next ?_)
    | (exact keepsOk_refused _ _)
    | (intro _)
    | (with_reducible refine State.installImage_memOk _ _ ?_)
    | split
    | (with_reducible refine foldl_memOk ?_ _ _ ?_)
    | simp)

theorem execColdReset_memOk (straps : Straps) (clkA : Bool) (clkB : Bool) (s : State) :
    Result.keepsOk (execColdReset straps clkA clkB s) s := by
  unfold execColdReset
  try dsimp only
  repeat' (first
    | (with_reducible assumption)
    | (with_reducible refine keepsOk_next ?_)
    | (exact keepsOk_refused _ _)
    | (intro _)
    | (with_reducible refine State.coldStart_memOk _ _ _ _ ?_)
    | split
    | (with_reducible refine foldl_memOk ?_ _ _ ?_)
    | simp)

theorem execImageLoadDone_memOk (memoryError : Bool) (s : State) :
    Result.keepsOk (execImageLoadDone memoryError s) s := by
  unfold execImageLoadDone
  try dsimp only
  repeat' (first
    | (with_reducible assumption)
    | (with_reducible refine keepsOk_next ?_)
    | (exact keepsOk_refused _ _)
    | (intro _)
    | (with_reducible refine State.installImage_memOk _ _ ?_)
    | split
    | (with_reducible refine foldl_memOk ?_ _ _ ?_)
    | simp)

theorem execLeverReloadDone_memOk (s : State) :
    Result.keepsOk (execLeverReloadDone s) s := by
  unfold execLeverReloadDone
  try dsimp only
  repeat' (first
    | (with_reducible assumption)
    | (with_reducible refine keepsOk_next ?_)
    | (exact keepsOk_refused _ _)
    | (intro _)
    | (with_reducible refine State.abruptWarm_memOk _ _ ?_)
    | (with_reducible refine State.installImage_memOk _ _ ?_)
    | split
    | (with_reducible refine foldl_memOk ?_ _ _ ?_)
    | simp)

theorem execFatalAction_memOk (s : State) :
    Result.keepsOk (execFatalAction s) s := by
  unfold execFatalAction
  try dsimp only
  repeat' (first
    | (with_reducible assumption)
    | (with_reducible refine keepsOk_next ?_)
    | (exact keepsOk_refused _ _)
    | (intro _)
    | (with_reducible refine State.abruptWarm_memOk _ _ ?_)
    | split
    | (with_reducible refine foldl_memOk ?_ _ _ ?_)
    | simp)

theorem execMcWatchdog_memOk (pc : Nat) (s : State) :
    Result.keepsOk (execMcWatchdog pc s) s := by
  unfold execMcWatchdog
  try dsimp only
  repeat' (first
    | (with_reducible assumption)
    | (with_reducible refine keepsOk_next ?_)
    | (exact keepsOk_refused _ _)
    | (intro _)
    | (with_reducible refine State.abruptWarm_memOk _ _ ?_)
    | split
    | (with_reducible refine foldl_memOk ?_ _ _ ?_)
    | simp)

theorem State.fromRing_memOk (s : State) (kind : CohKind) (r : CohReq) (w : Option WriteData) (a : Option AtomicOp) (act : RingRequest → State → State) (hact : ∀ b0 b1, memsOk b1.mems → memsOk (act b0 b1).mems) (hs : memsOk s.mems) :
    memsOk (State.fromRing s kind r w a act).mems := by
  unfold State.fromRing
  try dsimp only
  repeat' (first
    | (with_reducible assumption)
    | (with_reducible refine keepsOk_next ?_)
    | (exact keepsOk_refused _ _)
    | (intro _)
    | split
    | (with_reducible refine foldl_memOk ?_ _ _ ?_)
    | simp [*])

theorem execAmoadd_memOk (c : Core) (o : RRR) (s : State) :
    Result.keepsOk (execAmoadd c o s) s := by
  unfold execAmoadd
  try dsimp only
  repeat' (first
    | (with_reducible assumption)
    | (with_reducible refine keepsOk_next ?_)
    | (exact keepsOk_refused _ _)
    | (intro _)
    | (with_reducible refine State.amo_memOk _ _ _ _ _ ?_)
    | split
    | (with_reducible refine foldl_memOk ?_ _ _ ?_)
    | simp)

theorem execAmoswap_memOk (c : Core) (o : RRR) (s : State) :
    Result.keepsOk (execAmoswap c o s) s := by
  unfold execAmoswap
  try dsimp only
  repeat' (first
    | (with_reducible assumption)
    | (with_reducible refine keepsOk_next ?_)
    | (exact keepsOk_refused _ _)
    | (intro _)
    | (with_reducible refine State.amo_memOk _ _ _ _ _ ?_)
    | split
    | (with_reducible refine foldl_memOk ?_ _ _ ?_)
    | simp)

theorem execAmoand_memOk (c : Core) (o : RRR) (s : State) :
    Result.keepsOk (execAmoand c o s) s := by
  unfold execAmoand
  try dsimp only
  repeat' (first
    | (with_reducible assumption)
    | (with_reducible refine keepsOk_next ?_)
    | (exact keepsOk_refused _ _)
    | (intro _)
    | (with_reducible refine State.amo_memOk _ _ _ _ _ ?_)
    | split
    | (with_reducible refine foldl_memOk ?_ _ _ ?_)
    | simp)

theorem execAmoor_memOk (c : Core) (o : RRR) (s : State) :
    Result.keepsOk (execAmoor c o s) s := by
  unfold execAmoor
  try dsimp only
  repeat' (first
    | (with_reducible assumption)
    | (with_reducible refine keepsOk_next ?_)
    | (exact keepsOk_refused _ _)
    | (intro _)
    | (with_reducible refine State.amo_memOk _ _ _ _ _ ?_)
    | split
    | (with_reducible refine foldl_memOk ?_ _ _ ?_)
    | simp)

theorem execSd_memOk (c : Core) (o : IOp) (s : State) :
    Result.keepsOk (execSd c o s) s := by
  unfold execSd
  try dsimp only
  repeat' (first
    | (with_reducible assumption)
    | (with_reducible refine keepsOk_next ?_)
    | (exact keepsOk_refused _ _)
    | (intro _)
    | (with_reducible refine State.store_memOk _ _ _ _ _ ?_)
    | split
    | (with_reducible refine foldl_memOk ?_ _ _ ?_)
    | simp)

theorem execSw_memOk (c : Core) (o : IOp) (s : State) :
    Result.keepsOk (execSw c o s) s := by
  unfold execSw
  try dsimp only
  repeat' (first
    | (with_reducible assumption)
    | (with_reducible refine keepsOk_next ?_)
    | (exact keepsOk_refused _ _)
    | (intro _)
    | (with_reducible refine State.store_memOk _ _ _ _ _ ?_)
    | split
    | (with_reducible refine foldl_memOk ?_ _ _ ?_)
    | simp)

theorem execSb_memOk (c : Core) (o : IOp) (s : State) :
    Result.keepsOk (execSb c o s) s := by
  unfold execSb
  try dsimp only
  repeat' (first
    | (with_reducible assumption)
    | (with_reducible refine keepsOk_next ?_)
    | (exact keepsOk_refused _ _)
    | (intro _)
    | (with_reducible refine State.store_memOk _ _ _ _ _ ?_)
    | split
    | (with_reducible refine foldl_memOk ?_ _ _ ?_)
    | simp)

theorem State.slotPower_memOk (s : State) (c : Core) (op : Nat) (values : List Nat) (hs : memsOk s.mems) :
    memsOk (State.slotPower s c op values).mems := by
  unfold State.slotPower
  try dsimp only
  repeat' (first
    | (with_reducible assumption)
    | (with_reducible refine keepsOk_next ?_)
    | (exact keepsOk_refused _ _)
    | (intro _)
    | (with_reducible refine State.libRun_memOk _ _ _ _ ?_ ?_)
    | (with_reducible refine State.libOp_memOk _ _ _ _ _ _ ?_ ?_)
    | (with_reducible refine State.libArgs_memOk _ _ _ _ ?_ ?_)
    | (with_reducible refine State.commitAll_refusedOk ‹_› ?_)
    | (with_reducible refine State.commitAll_laterOk ‹_› ?_)
    | (with_reducible refine State.commitAll_passedOk ‹_› ?_)
    | split
    | (with_reducible refine foldl_memOk ?_ _ _ ?_)
    | simp)

theorem execSlotPowerOff_memOk (c : Core) (s : State) :
    Result.keepsOk (execSlotPowerOff c s) s := by
  unfold execSlotPowerOff
  try dsimp only
  repeat' (first
    | (with_reducible assumption)
    | (with_reducible refine keepsOk_next ?_)
    | (exact keepsOk_refused _ _)
    | (intro _)
    | (with_reducible refine State.slotPower_memOk _ _ _ _ ?_)
    | split
    | (with_reducible refine foldl_memOk ?_ _ _ ?_)
    | simp)

theorem execSlotPowerOn_memOk (c : Core) (s : State) :
    Result.keepsOk (execSlotPowerOn c s) s := by
  unfold execSlotPowerOn
  try dsimp only
  repeat' (first
    | (with_reducible assumption)
    | (with_reducible refine keepsOk_next ?_)
    | (exact keepsOk_refused _ _)
    | (intro _)
    | (with_reducible refine State.slotPower_memOk _ _ _ _ ?_)
    | split
    | (with_reducible refine foldl_memOk ?_ _ _ ?_)
    | simp)

theorem execSlotPowerCycle_memOk (c : Core) (s : State) :
    Result.keepsOk (execSlotPowerCycle c s) s := by
  unfold execSlotPowerCycle
  try dsimp only
  repeat' (first
    | (with_reducible assumption)
    | (with_reducible refine keepsOk_next ?_)
    | (exact keepsOk_refused _ _)
    | (intro _)
    | (with_reducible refine State.slotPower_memOk _ _ _ _ ?_)
    | split
    | (with_reducible refine foldl_memOk ?_ _ _ ?_)
    | simp)

theorem execSlotLimits_memOk (c : Core) (s : State) :
    Result.keepsOk (execSlotLimits c s) s := by
  unfold execSlotLimits
  try dsimp only
  repeat' (first
    | (with_reducible assumption)
    | (with_reducible refine keepsOk_next ?_)
    | (exact keepsOk_refused _ _)
    | (intro _)
    | (with_reducible refine State.libRun_memOk _ _ _ _ ?_ ?_)
    | (with_reducible refine State.libCommit_memOk _ _ _ _ _ ?_ ?_)
    | (with_reducible refine State.libArgs_memOk _ _ _ _ ?_ ?_)
    | split
    | (with_reducible refine foldl_memOk ?_ _ _ ?_)
    | simp)

theorem execSlotTiming_memOk (c : Core) (s : State) :
    Result.keepsOk (execSlotTiming c s) s := by
  unfold execSlotTiming
  try dsimp only
  repeat' (first
    | (with_reducible assumption)
    | (with_reducible refine keepsOk_next ?_)
    | (exact keepsOk_refused _ _)
    | (intro _)
    | (with_reducible refine State.libRun_memOk _ _ _ _ ?_ ?_)
    | (with_reducible refine State.libCommit_memOk _ _ _ _ _ ?_ ?_)
    | (with_reducible refine State.libArgs_memOk _ _ _ _ ?_ ?_)
    | split
    | (with_reducible refine foldl_memOk ?_ _ _ ?_)
    | simp)

theorem execSlotMap_memOk (c : Core) (s : State) :
    Result.keepsOk (execSlotMap c s) s := by
  unfold execSlotMap
  try dsimp only
  repeat' (first
    | (with_reducible assumption)
    | (with_reducible refine keepsOk_next ?_)
    | (exact keepsOk_refused _ _)
    | (intro _)
    | (with_reducible refine State.libRun_memOk _ _ _ _ ?_ ?_)
    | (with_reducible refine State.libCommit_memOk _ _ _ _ _ ?_ ?_)
    | (with_reducible refine State.libArgs_memOk _ _ _ _ ?_ ?_)
    | split
    | (with_reducible refine foldl_memOk ?_ _ _ ?_)
    | simp)

theorem execDomainSet_memOk (c : Core) (s : State) :
    Result.keepsOk (execDomainSet c s) s := by
  unfold execDomainSet
  try dsimp only
  repeat' (first
    | (with_reducible assumption)
    | (with_reducible refine keepsOk_next ?_)
    | (exact keepsOk_refused _ _)
    | (intro _)
    | (with_reducible refine State.libRun_memOk _ _ _ _ ?_ ?_)
    | (with_reducible refine State.libCommit_memOk _ _ _ _ _ ?_ ?_)
    | (with_reducible refine State.libArgs_memOk _ _ _ _ ?_ ?_)
    | split
    | (with_reducible refine foldl_memOk ?_ _ _ ?_)
    | simp)

theorem execPstateSet_memOk (c : Core) (s : State) :
    Result.keepsOk (execPstateSet c s) s := by
  unfold execPstateSet
  try dsimp only
  repeat' (first
    | (with_reducible assumption)
    | (with_reducible refine keepsOk_next ?_)
    | (exact keepsOk_refused _ _)
    | (intro _)
    | (with_reducible refine State.libRun_memOk _ _ _ _ ?_ ?_)
    | (with_reducible refine State.libCommit_memOk _ _ _ _ _ ?_ ?_)
    | (with_reducible refine State.libArgs_memOk _ _ _ _ ?_ ?_)
    | split
    | (with_reducible refine foldl_memOk ?_ _ _ ?_)
    | simp)

theorem execSensorSet_memOk (c : Core) (s : State) :
    Result.keepsOk (execSensorSet c s) s := by
  unfold execSensorSet
  try dsimp only
  repeat' (first
    | (with_reducible assumption)
    | (with_reducible refine keepsOk_next ?_)
    | (exact keepsOk_refused _ _)
    | (intro _)
    | (with_reducible refine State.libRun_memOk _ _ _ _ ?_ ?_)
    | (with_reducible refine State.libCommit_memOk _ _ _ _ _ ?_ ?_)
    | (with_reducible refine State.libArgs_memOk _ _ _ _ ?_ ?_)
    | split
    | (with_reducible refine foldl_memOk ?_ _ _ ?_)
    | simp)

theorem State.resetBy_memOk (s : State) (c : Core) (type : Nat) (act : Nat → State → State) (hact : ∀ b0 b1, memsOk b1.mems → memsOk (act b0 b1).mems) (hs : memsOk s.mems) :
    memsOk (State.resetBy s c type act).mems := by
  unfold State.resetBy
  try dsimp only
  repeat' (first
    | (with_reducible assumption)
    | (with_reducible refine keepsOk_next ?_)
    | (exact keepsOk_refused _ _)
    | (intro _)
    | (with_reducible refine State.libRun_memOk _ _ _ _ ?_ ?_)
    | (with_reducible refine State.libOp_memOk _ _ _ _ _ _ ?_ ?_)
    | (with_reducible refine State.libArgs_memOk _ _ _ _ ?_ ?_)
    | (with_reducible refine State.commitNow_refusedOk ‹_› ?_)
    | (with_reducible refine State.commitNow_laterOk ‹_› ?_)
    | (with_reducible refine State.commitNow_passedOk ‹_› ?_)
    | (with_reducible refine hact _ _ ?_)
    | split
    | (with_reducible refine foldl_memOk ?_ _ _ ?_)
    | simp [*])

theorem execResetWarm_memOk (c : Core) (s : State) :
    Result.keepsOk (execResetWarm c s) s := by
  unfold execResetWarm
  try dsimp only
  repeat' (first
    | (with_reducible assumption)
    | (with_reducible refine keepsOk_next ?_)
    | (exact keepsOk_refused _ _)
    | (intro _)
    | (with_reducible refine State.askWarm_memOk _ ?_)
    | (with_reducible refine State.resetBy_memOk _ _ _ _ ?_ ?_)
    | split
    | (with_reducible refine foldl_memOk ?_ _ _ ?_)
    | simp)

theorem execResetStation_memOk (c : Core) (s : State) :
    Result.keepsOk (execResetStation c s) s := by
  unfold execResetStation
  try dsimp only
  repeat' (first
    | (with_reducible assumption)
    | (with_reducible refine keepsOk_next ?_)
    | (exact keepsOk_refused _ _)
    | (intro _)
    | (with_reducible refine State.resetBy_memOk _ _ _ _ ?_ ?_)
    | split
    | (with_reducible refine foldl_memOk ?_ _ _ ?_)
    | simp)

theorem execResetLever_memOk (c : Core) (s : State) :
    Result.keepsOk (execResetLever c s) s := by
  unfold execResetLever
  try dsimp only
  repeat' (first
    | (with_reducible assumption)
    | (with_reducible refine keepsOk_next ?_)
    | (exact keepsOk_refused _ _)
    | (intro _)
    | (with_reducible refine State.resetBy_memOk _ _ _ _ ?_ ?_)
    | split
    | (with_reducible refine foldl_memOk ?_ _ _ ?_)
    | simp)

theorem execShaperSet_memOk (c : Core) (s : State) :
    Result.keepsOk (execShaperSet c s) s := by
  unfold execShaperSet
  try dsimp only
  repeat' (first
    | (with_reducible assumption)
    | (with_reducible refine keepsOk_next ?_)
    | (exact keepsOk_refused _ _)
    | (intro _)
    | (with_reducible refine State.libRun_memOk _ _ _ _ ?_ ?_)
    | (with_reducible refine State.libCommit_memOk _ _ _ _ _ ?_ ?_)
    | (with_reducible refine State.libArgs_memOk _ _ _ _ ?_ ?_)
    | split
    | (with_reducible refine foldl_memOk ?_ _ _ ?_)
    | simp)

theorem execTimetableArm_memOk (c : Core) (s : State) :
    Result.keepsOk (execTimetableArm c s) s := by
  unfold execTimetableArm
  try dsimp only
  repeat' (first
    | (with_reducible assumption)
    | (with_reducible refine keepsOk_next ?_)
    | (exact keepsOk_refused _ _)
    | (intro _)
    | (with_reducible refine State.libRun_memOk _ _ _ _ ?_ ?_)
    | (with_reducible refine State.libCommit_memOk _ _ _ _ _ ?_ ?_)
    | (with_reducible refine State.libArgs_memOk _ _ _ _ ?_ ?_)
    | (with_reducible refine State.commitAll_refusedOk ‹_› ?_)
    | (with_reducible refine State.commitAll_laterOk ‹_› ?_)
    | (with_reducible refine State.commitAll_passedOk ‹_› ?_)
    | split
    | (with_reducible refine foldl_memOk ?_ _ _ ?_)
    | simp)

theorem execWindowSet_memOk (c : Core) (s : State) :
    Result.keepsOk (execWindowSet c s) s := by
  unfold execWindowSet
  try dsimp only
  repeat' (first
    | (with_reducible assumption)
    | (with_reducible refine keepsOk_next ?_)
    | (exact keepsOk_refused _ _)
    | (intro _)
    | (with_reducible refine State.libRun_memOk _ _ _ _ ?_ ?_)
    | (with_reducible refine State.libCommit_memOk _ _ _ _ _ ?_ ?_)
    | (with_reducible refine State.libArgs_memOk _ _ _ _ ?_ ?_)
    | split
    | (with_reducible refine foldl_memOk ?_ _ _ ?_)
    | simp)

theorem execQueueRead_memOk (c : Core) (s : State) :
    Result.keepsOk (execQueueRead c s) s := by
  unfold execQueueRead
  try dsimp only
  repeat' (first
    | (with_reducible assumption)
    | (with_reducible refine keepsOk_next ?_)
    | (exact keepsOk_refused _ _)
    | (intro _)
    | (with_reducible refine State.libRun_memOk _ _ _ _ ?_ ?_)
    | (with_reducible refine State.libCommit_memOk _ _ _ _ _ ?_ ?_)
    | (with_reducible refine State.libArgs_memOk _ _ _ _ ?_ ?_)
    | split
    | (with_reducible refine foldl_memOk ?_ _ _ ?_)
    | simp)

theorem execTimeSet_memOk (c : Core) (s : State) :
    Result.keepsOk (execTimeSet c s) s := by
  unfold execTimeSet
  try dsimp only
  repeat' (first
    | (with_reducible assumption)
    | (with_reducible refine keepsOk_next ?_)
    | (exact keepsOk_refused _ _)
    | (intro _)
    | (with_reducible refine State.libRun_memOk _ _ _ _ ?_ ?_)
    | (with_reducible refine State.libCommit_memOk _ _ _ _ _ ?_ ?_)
    | (with_reducible refine State.libArgs_memOk _ _ _ _ ?_ ?_)
    | split
    | (with_reducible refine foldl_memOk ?_ _ _ ?_)
    | simp)

theorem State.fromVdm_memOk (s : State) (p : Port) (body : State → State) (hbody : ∀ b0, memsOk b0.mems → memsOk (body b0).mems) (hs : memsOk s.mems) :
    memsOk (State.fromVdm s p body).mems := by
  unfold State.fromVdm
  try dsimp only
  repeat' (first
    | (with_reducible assumption)
    | (with_reducible refine keepsOk_next ?_)
    | (exact keepsOk_refused _ _)
    | (intro _)
    | split
    | (with_reducible refine foldl_memOk ?_ _ _ ?_)
    | simp [*])

theorem State.fromBus_memOk (s : State) (body : State → State) (hbody : ∀ b0, memsOk b0.mems → memsOk (body b0).mems) (hs : memsOk s.mems) :
    memsOk (State.fromBus s body).mems := by
  unfold State.fromBus
  try dsimp only
  repeat' (first
    | (with_reducible assumption)
    | (with_reducible refine keepsOk_next ?_)
    | (exact keepsOk_refused _ _)
    | (intro _)
    | split
    | (with_reducible refine foldl_memOk ?_ _ _ ?_)
    | simp [*])

theorem State.reassembled_memOk (s : State) (frame : List Byte) (body : State → State) (hbody : ∀ b0, memsOk b0.mems → memsOk (body b0).mems) (hs : memsOk s.mems) :
    memsOk (State.reassembled s frame body).mems := by
  unfold State.reassembled
  try dsimp only
  repeat' (first
    | (with_reducible assumption)
    | (with_reducible refine keepsOk_next ?_)
    | (exact keepsOk_refused _ _)
    | (intro _)
    | split
    | (with_reducible refine foldl_memOk ?_ _ _ ?_)
    | simp [*])

theorem State.fromApi_memOk (s : State) (src : RequestSource) (opcodes : Nat → Bool) (body : State → State) (hbody : ∀ b0, memsOk b0.mems → memsOk (body b0).mems) (hs : memsOk s.mems) :
    memsOk (State.fromApi s src opcodes body).mems := by
  unfold State.fromApi
  try dsimp only
  repeat' (first
    | (with_reducible assumption)
    | (with_reducible refine keepsOk_next ?_)
    | (exact keepsOk_refused _ _)
    | (intro _)
    | (with_reducible refine State.fromVdm_memOk _ _ _ ?_ ?_)
    | (with_reducible refine State.fromBus_memOk _ _ ?_ ?_)
    | split
    | (with_reducible refine foldl_memOk ?_ _ _ ?_)
    | simp [*])

theorem State.wakeStep_memOk (s : State) (at_ : Nat) (body : Nat → State → State) (hbody : ∀ b0 b1, memsOk b1.mems → memsOk (body b0 b1).mems) (hs : memsOk s.mems) :
    memsOk (State.wakeStep s at_ body).mems := by
  unfold State.wakeStep
  try dsimp only
  repeat' (first
    | (with_reducible assumption)
    | (with_reducible refine keepsOk_next ?_)
    | (exact keepsOk_refused _ _)
    | (intro _)
    | split
    | (with_reducible refine foldl_memOk ?_ _ _ ?_)
    | simp [*])

theorem execLogicRdy_memOk (s : State) :
    Result.keepsOk (execLogicRdy s) s := by
  unfold execLogicRdy
  try dsimp only
  repeat' (first
    | (with_reducible assumption)
    | (with_reducible refine keepsOk_next ?_)
    | (exact keepsOk_refused _ _)
    | (intro _)
    | (with_reducible refine State.warmCleared_memOk _ _ _ ?_)
    | split
    | (with_reducible refine foldl_memOk ?_ _ _ ?_)
    | simp)

theorem execSagReset_memOk (r : Rail) (mv : Nat) (s : State) :
    Result.keepsOk (execSagReset r mv s) s := by
  unfold execSagReset
  try dsimp only
  repeat' (first
    | (with_reducible assumption)
    | (with_reducible refine keepsOk_next ?_)
    | (exact keepsOk_refused _ _)
    | (intro _)
    | (with_reducible refine State.sagDown_memOk _ _ ?_)
    | (with_reducible refine State.coldStart_memOk _ _ _ _ ?_)
    | split
    | (with_reducible refine foldl_memOk ?_ _ _ ?_)
    | simp)

theorem State.atEndpoint_memOk (s : State) (e : Endpoint) (body : State → State) (hbody : ∀ b0, memsOk b0.mems → memsOk (body b0).mems) (hs : memsOk s.mems) :
    memsOk (State.atEndpoint s e body).mems := by
  unfold State.atEndpoint
  try dsimp only
  repeat' (first
    | (with_reducible assumption)
    | (with_reducible refine keepsOk_next ?_)
    | (exact keepsOk_refused _ _)
    | (intro _)
    | (with_reducible refine State.fromBus_memOk _ _ ?_ ?_)
    | split
    | (with_reducible refine foldl_memOk ?_ _ _ ?_)
    | simp [*])

theorem State.atSpdm_memOk (s : State) (e : SpdmEnd) (body : State → State) (hbody : ∀ b0, memsOk b0.mems → memsOk (body b0).mems) (hs : memsOk s.mems) :
    memsOk (State.atSpdm s e body).mems := by
  unfold State.atSpdm
  try dsimp only
  repeat' (first
    | (with_reducible assumption)
    | (with_reducible refine keepsOk_next ?_)
    | (exact keepsOk_refused _ _)
    | (intro _)
    | (with_reducible refine State.fromBus_memOk _ _ ?_ ?_)
    | split
    | (with_reducible refine foldl_memOk ?_ _ _ ?_)
    | simp [*])

theorem State.offered_memOk (s : State) (e : SpdmEnd) (body : State → State) (hbody : ∀ b0, memsOk b0.mems → memsOk (body b0).mems) (hs : memsOk s.mems) :
    memsOk (State.offered s e body).mems := by
  unfold State.offered
  try dsimp only
  repeat' (first
    | (with_reducible assumption)
    | (with_reducible refine keepsOk_next ?_)
    | (exact keepsOk_refused _ _)
    | (intro _)
    | split
    | (with_reducible refine foldl_memOk ?_ _ _ ?_)
    | simp [*])

theorem State.inSession_memOk (s : State) (e : SpdmEnd) (session : Nat) (body : State → Session → State) (hbody : ∀ b0 b1, memsOk b0.mems → memsOk (body b0 b1).mems) (hs : memsOk s.mems) :
    memsOk (State.inSession s e session body).mems := by
  unfold State.inSession
  try dsimp only
  repeat' (first
    | (with_reducible assumption)
    | (with_reducible refine keepsOk_next ?_)
    | (exact keepsOk_refused _ _)
    | (intro _)
    | split
    | (with_reducible refine foldl_memOk ?_ _ _ ?_)
    | simp [*])

theorem State.debugLever_memOk (s : State) (c : Nat) (a : Nat) (v : Byte) (hs : memsOk s.mems) :
    memsOk (State.debugLever s c a v).mems := by
  unfold State.debugLever
  try dsimp only
  repeat' (first
    | (with_reducible assumption)
    | (with_reducible refine keepsOk_next ?_)
    | (exact keepsOk_refused _ _)
    | (intro _)
    | (with_reducible refine State.leverWrite_memOk _ _ _ _ _ ?_)
    | split
    | (with_reducible refine foldl_memOk ?_ _ _ ?_)
    | simp)

theorem State.debugPut_memOk (s : State) (t : DebugTarget) (a : Nat) (v : Byte) (hs : memsOk s.mems) :
    memsOk (State.debugPut s t a v).mems := by
  have dl : ∀ c a v, memsOk (s.debugLever c a v).mems := fun c a v => State.debugLever_memOk s c a v hs
  unfold State.debugPut
  split
  · exact ⟨memPut_wf _ _ _ hs.1, hs.2⟩
  · simpa using hs
  · split
    · exact dl _ _ _
    · exact hs
  · split
    · exact dl _ _ _
    · split
      · simpa using hs
      · exact hs
  · simpa using hs
  · exact hs

theorem execDebugAccess_memOk (target : DebugTarget) (addr : Nat) (write : Option Byte) (s : State) :
    Result.keepsOk (execDebugAccess target addr write s) s := by
  unfold execDebugAccess
  refine keepsOk_next fun hs => ?_
  repeat' split
  · exact hs
  · simpa using hs
  · simpa using State.debugPut_memOk _ _ _ _ hs
  · simpa using hs
  · simpa using hs

theorem State.pass_memOk (s : State) (hs : memsOk s.mems) :
    memsOk (State.pass s).mems := by
  unfold State.pass
  try dsimp only
  repeat' (first
    | (with_reducible assumption)
    | (with_reducible refine keepsOk_next ?_)
    | (exact keepsOk_refused _ _)
    | (intro _)
    | (with_reducible refine State.recordsDue_memOk _ ?_)
    | (with_reducible refine State.warmGoesOn_memOk _ ?_)
    | split
    | (with_reducible refine foldl_memOk ?_ _ _ ?_)
    | simp)

theorem State.committed_memOk (s : State) (c : Core) (es : List Entry) (act : State → State) (hact : ∀ b0, memsOk b0.mems → memsOk (act b0).mems) (hs : memsOk s.mems) :
    memsOk (State.committed s c es act).mems := by
  unfold State.committed
  try dsimp only
  repeat' (first
    | (with_reducible assumption)
    | (with_reducible refine keepsOk_next ?_)
    | (exact keepsOk_refused _ _)
    | (intro _)
    | (with_reducible refine State.applyEntries_memOk _ _ _ ?_ ?_)
    | split
    | (with_reducible refine foldl_memOk ?_ _ _ ?_)
    | simp)

end Sys2Proof.Machine
end

