-- ==== Sys2Proof/Tests/Slice0.lean ====
section
/-! SUPPORT. Tests: an ill-formed term for each check of `WellFormed`, and for every statement of the certificate states and operands
that meet its hypotheses, clause by clause, with what the command then does there. Expected results come from the rules of the
specification that the statements cite. -/

namespace Sys2Proof.Tests

open Sys2Proof Sys2Proof.Machine

set_option Elab.async false

/-- A command answers a next state that passes a check. -/
def after (i : Instr) (s : State) (check : State → Bool) : Bool :=
  match exec i s with
  | .next t => check t
  | _ => false

/-- A message has left, or waits in the bypass channel of its port. -/
def left (t : State) (m : Msg) : Bool := t.outbox.contains m || t.sw.bypass.any (fun e => e.2.any (fun x => x.2 == m))

/-- The device after its boot: policy runs and the Turntable runs. -/
def up : State := { State.reset with
  power := { step := .run }
  boot := { phase := 4, step := .done, image := { abi := 1, trunk := 3, trunkMin := 1 } }
  sw := { running := true } }

/-- The device after its boot, with one Lever core at its first instruction. -/
def lever (k : CoreState) : State := { up with lev := { cores := [(0, k)] } }

/-- A register instruction of core 0 on 7 and 3, or on other values, into G[5]. -/
def alu : RRR := ⟨5, 1, 2⟩

/-- Core 0 running with G[1], G[2] and G[3]. -/
def run3 (a b d : Word) : State := lever { mode := .running, g := [(1, a), (2, b), (3, d)] }

/-- A core 0 that carries a library order. -/
def order (id : Nat) (args : List Byte) (s : State := up) : State :=
  { s with lev := { cores := [(0, { mode := .running, job := some { libid := id, library := true, args := args } })] } }

/-- The job of core 0. -/
def job (id : Nat) (args : List Byte) : Order := { libid := id, library := true, args := args }

/-- What a Lever core puts in G[5] and G[0], and where it goes on. -/
def puts (v : Word) (t : State) : Bool := (t.core 0).reg 5 == v && (t.core 0).pc == 4

/-! ### Well-formed commands -/

/-- A frame of 17 bytes that reads one byte. -/
def aFrame : FrameIn where
  port := 2
  fmt := 0
  len := 17
  kind := .ioRead
  addr := 0
  size := 1
  data := []
  tc := 0
  cls := 0
  tag := 0
  reqId := 0
  pasid := none
  privBit := false
  pbr := none
  ldid := 0
  cacheId := none
  poison := false
  whole := true
  good := true

/-- A link of eight lanes. -/
def aLink : LinkInfo where
  width := 8
  rate := 4
  pmax := 5
  pcaps := 0
  cxl := false
  flit68 := false
  reversed := false
  inverted := 0
  pfdi := 0
  ppreset := 0
  preq := 0
  mldDevices := none
  ldReady := true
  gfd := false
  atomicSizes := 0
  adaptedLoss := []
  skew := []

/-- A Wayside frame with one payload byte, or none. -/
def aWayside (type : BitVec 4) (len : BitVec 11) (payload : List Byte) : WaysideFrame :=
  { dst := 0, src := 3, type, len, reserved := 0, payload, crc := BitVec.ofNat 32 (crc32 (waysideBody 0 3 type.toNat len.toNat 0 payload)) }

/-- A Trunk flit. -/
def aFlit (payload : List Byte) : TrunkFlit :=
  { seq := 0, ack := 0, type := 2, cvc := 15, credit := 0, nak := false, kset := false, payload }

theorem test_wellFormed : Instr.wellFormed (.frameAdmit aFrame) = true ∧ Instr.wellFormed (.linkUp 2 aLink) = true ∧
    Instr.wellFormed (.waysideReply (aWayside 1 1 [0])) = true := by decide +kernel

theorem test_illFormed_frame : Instr.wellFormed (.frameAdmit { aFrame with len := 16 }) = false ∧
    Instr.wellFormed (.frameAdmit { aFrame with len := 4353 }) = false ∧
    Instr.wellFormed (.frameAdmit { aFrame with fmt := 14 }) = false ∧
    Instr.wellFormed (.frameAdmit { aFrame with size := 0 }) = false := by decide +kernel

theorem test_illFormed_link : Instr.wellFormed (.linkUp 2 { aLink with width := 3 }) = false ∧
    Instr.wellFormed (.trunkFlitReceive 2 [] [] []) = false ∧
    Instr.wellFormed (.alignmentMarker 2 0 [] false) = false ∧
    Instr.wellFormed (.channelMeasurementDone 0 []) = false := by decide +kernel

theorem test_illFormed_eye (e : List Nat) (h : 2048 < e.length) : Instr.wellFormed (.eyeScanEnd 0 0 false e) = false :=
  decide_eq_false (by omega)

theorem test_illFormed_samples : Instr.wellFormed (.watchSample [] [] []) = false ∧ Instr.wellFormed (.railSample []) = false ∧
    Instr.wellFormed (.sensorSample []) = false ∧ Instr.wellFormed (.registerWrite 0 9 0) = false ∧
    Instr.wellFormed (.registerWrite 6 4 0) = false ∧ Instr.wellFormed (.registerWrite 6 0 0) = false := by decide +kernel

theorem test_illFormed_wayside : Instr.wellFormed (.waysideOrderFrame (aWayside 0 1 [])) = false ∧
    Instr.wellFormed (.waysideReply (aWayside 1 1 [])) = false ∧ Instr.wellFormed (.timeMark (aWayside 2 8 [])) = false ∧
    Instr.wellFormed (.waysideWake (aWayside 3 1 [])) = false ∧ Instr.wellFormed (.generateAerEvent .mailbox 0 0 0 []) = false ∧
    Instr.wellFormed (.bootPhase0 false false []) = false := by decide +kernel

/-! ### Lever instructions -/

theorem witness_RegisterArithmetic : (run3 7 3 0).runs 0 := by unfold State.runs; decide +kernel

theorem test_registerArithmetic :
    after (.add 0 alu) (run3 (BitVec.allOnes 64) 3 0) (puts 2) ∧ after (.sub 0 alu) (run3 3 7 0) (puts (-4)) ∧
    after (.andAlu 0 alu) (run3 6 3 0) (puts 2) ∧ after (.orAlu 0 alu) (run3 6 3 0) (puts 7) ∧
    after (.xorAlu 0 alu) (run3 6 3 0) (puts 5) ∧ after (.sll 0 alu) (run3 1 65 0) (puts 2) ∧
    after (.srl 0 alu) (run3 (-2) 63 0) (puts 1) ∧ after (.sra 0 alu) (run3 (-4) 65 0) (puts (-2)) ∧
    after (.slt 0 alu) (run3 (-1) 1 0) (puts 1) ∧ after (.sltu 0 alu) (run3 (-1) 1 0) (puts 0) ∧
    after (.mul 0 alu) (run3 (-1) 2 0) (puts (-2)) ∧ after (.mulhu 0 alu) (run3 (-1) 2 0) (puts 1) ∧
    after (.divu 0 alu) (run3 7 0 0) (puts (-1)) ∧ after (.remu 0 alu) (run3 7 0 0) (puts 7) ∧
    after (.divu 0 alu) (run3 7 3 0) (puts 2) ∧ after (.remu 0 alu) (run3 7 3 0) (puts 1) ∧
    after (.minu 0 alu) (run3 (-1) 1 0) (puts 1) ∧ after (.maxu 0 alu) (run3 (-1) 1 0) (puts (-1)) := by decide +kernel

/-- The clauses of the immediate instructions at the ends of their ranges: a shift by 63, a field that ends at bit 63. -/
theorem witness_ImmediateArithmetic : (run3 7 3 0).runs 0 ∧ (⟨5, 0, 1⟩ : IOp).ra = 0 ∧ (63#16).toNat < 64 ∧
    (4095#16).toNat < 4096 ∧ 4032 / 64 % 64 + (4032 % 64 + 1) ≤ 64 := by unfold State.runs; decide +kernel

theorem test_immediateArithmetic :
    after (.addi 0 ⟨5, 1, 0xFFFF⟩) (run3 1 0 0) (puts 0) ∧ after (.andi 0 ⟨5, 1, 0xFFFF⟩) (run3 (-1) 0 0) (puts 0xFFFF) ∧
    after (.ori 0 ⟨5, 1, 0x8000⟩) (run3 1 0 0) (puts 0x8001) ∧ after (.xori 0 ⟨5, 1, 3⟩) (run3 1 0 0) (puts 2) ∧
    after (.lui 0 ⟨5, 0, 0xFFFF⟩) (run3 1 0 0) (puts (-65536)) ∧ after (.shor 0 ⟨5, 1, 2⟩) (run3 1 0 0) (puts 0x10002) ∧
    after (.slti 0 ⟨5, 1, 0xFFFF⟩) (run3 0 0 0) (puts 0) ∧ after (.sltiu 0 ⟨5, 1, 0xFFFF⟩) (run3 0 0 0) (puts 1) ∧
    after (.slli 0 ⟨5, 1, 63⟩) (run3 3 0 0) (puts 0x8000000000000000) ∧ after (.srli 0 ⟨5, 1, 63⟩) (run3 (-1) 0 0) (puts 1) ∧
    after (.srai 0 ⟨5, 1, 63⟩) (run3 (-1) 0 0) (puts (-1)) ∧
    after (.extField 0 ⟨5, 1, 0x103⟩) (run3 0x1234 0 0) (puts 3) ∧
    after (.insField 0 ⟨5, 1, 0x103⟩) (lever { mode := .running, g := [(1, 0xA), (5, 0xFFF)] }) (puts 0xFAF) := by decide +kernel

/-- Core 0 running an order, with an address in G[1] and 0x0807060504030201 in G[2]. -/
def memory (a : Word) : State :=
  lever { mode := .running, job := some {}, g := [(1, a), (2, 0x0807060504030201)], mem := [(0x100, 9), (0x107, 0x80)] }

theorem witness_MemoryInstructions : (memory 0x100).runs 0 ∧ mayRead 0x3FFFF = true ∧ mayRead 0x17FFFFF = true ∧
    mayWrite .library 0x3EFFF = true ∧ mayAmo .library 0x17FFFF8 = true ∧ Memory.wf ((memory 0x100).core 0).mem = true ∧
    Memory.wf (memory 0x100).lev.sharedData = true := by unfold State.runs; decide +kernel

theorem test_loads :
    after (.ld 0 ⟨5, 1, 0⟩) (memory 0x100) (puts 0x8000000000000009) ∧
    after (.lw 0 ⟨5, 1, 4⟩) (memory 0x100) (puts 0x80000000) ∧ after (.lb 0 ⟨5, 1, 7⟩) (memory 0x100) (puts 0x80) := by decide +kernel

theorem test_stores :
    after (.sd 0 ⟨2, 1, 0⟩) (memory 0x100) (fun t => (t.core 0).mem == [(0x100, 1), (0x101, 2), (0x102, 3), (0x103, 4),
      (0x104, 5), (0x105, 6), (0x106, 7), (0x107, 8)]) ∧
    after (.sw 0 ⟨2, 1, 0⟩) (memory 0x100) (fun t => (t.core 0).mem == [(0x100, 1), (0x101, 2), (0x102, 3), (0x103, 4), (0x107, 0x80)]) ∧
    after (.sb 0 ⟨2, 1, 7⟩) (memory 0x100) (fun t => (t.core 0).mem == [(0x100, 9), (0x107, 1)]) := by decide +kernel

theorem test_atomics :
    let s : State := { memory 0x1400000 with lev := { (memory 0x1400000).lev with sharedData := [(0, 0xF0)] } }
    let leaves : Byte → State → Bool := fun v t => memByte t.lev.sharedData 0 == v && puts 0xF0 t
    after (.amoadd 0 alu) s (leaves 0xF1) ∧ after (.amoswap 0 alu) s (leaves 0x01) ∧ after (.amoand 0 alu) s (leaves 0) ∧
    after (.amoor 0 alu) s (leaves 0xF1) := by decide +kernel

theorem witness_Branches : (run3 1 1 0).runs 0 ∧ (⟨5, 0, 1⟩ : IOp).ra = 0 := by unfold State.runs; decide +kernel

theorem test_branches :
    let at_ : Word → State → Bool := fun pc t => (t.core 0).pc == pc
    after (.beq 0 ⟨1, 2, 0xFFFF⟩) (run3 1 1 0) (at_ 0) ∧ after (.bne 0 ⟨1, 2, 1⟩) (run3 1 1 0) (at_ 4) ∧
    after (.blt 0 ⟨1, 2, 1⟩) (run3 (-1) 1 0) (at_ 8) ∧ after (.bge 0 ⟨1, 2, 1⟩) (run3 (-1) 1 0) (at_ 4) ∧
    after (.bltu 0 ⟨1, 2, 1⟩) (run3 (-1) 1 0) (at_ 4) ∧ after (.bgeu 0 ⟨1, 2, 1⟩) (run3 (-1) 1 0) (at_ 8) ∧
    after (.jal 0 ⟨5, 0, 2⟩) (run3 0 0 0) (fun t => at_ 12 t && (t.core 0).reg 5 == 4) ∧
    after (.jalr 0 ⟨5, 1, 1⟩) (run3 0x102 0 0) (fun t => at_ 0x100 t && (t.core 0).reg 5 == 4) := by decide +kernel

/-- An access outside its regions and misaligned raises BOUNDS, one inside and misaligned ALIGN (R50). -/
theorem witness_AccessFaults : (memory 0x40001).runs 0 ∧ mayRead 0x40001 = false ∧ mayRead 0x101 = true ∧ 0x101 % 8 ≠ 0 ∧
    mayWrite .library 0x3F001 = false ∧ mayWrite .library 0x101 = true ∧ mayAmo .library 0x100 = false ∧ mayAmo .library 0x1400001 = true ∧
    ((memory 0x100).core 0).job = some {} ∧ ((memory 0x100).core 0).resident = false := by unfold State.runs; decide +kernel

theorem witness_AccessFaults_memory :
    let s : State := { memory 0x100 with errors := { badLever := [leverWord 0 0x100] } }
    let amo : State := { memory 0x1400000 with errors := { badLever := [leverWord 0 0x1400000] } }
    s.runs 0 ∧ s.badLever 0 0x100 = true ∧ s.badLever 0 0x108 = false ∧ amo.badLever 5 0x1400000 = true ∧ Memory.wf (s.core 0).mem = true ∧
    after (.ld 0 ⟨5, 1, 0⟩) s (fun t => (t.core 0).mode == .idle && t.ord.mailbox.vsStatus == LeverFault.memErr.status) ∧
    after (.amoadd 0 ⟨5, 1, 2⟩) amo (fun t => (t.core 0).job.isNone) ∧
    after (.ld 0 ⟨5, 1, 0⟩) (memory 0x101) (fun t => memBytes (t.core 0).mem 0x3E000 8 == toLE 8 0 && t.ord.mailbox.vsStatus == LeverFault.align.status) := by
  unfold State.runs; decide +kernel

theorem test_accessFaults :
    let ends : Nat → State → Bool := fun f t => (t.core 0).mode == .idle && memBytes (t.core 0).mem 0x3E008 4 == toLE 4 f &&
      t.ord.mailbox.vsStatus == Status.aborted.word (LeverFault.code (if f = 0x60A10001 then .align else .bounds))
    after (.ld 0 ⟨5, 1, 0⟩) (memory 0x40001) (ends 0x60A10000) ∧ after (.ld 0 ⟨5, 1, 1⟩) (memory 0x100) (ends 0x60A10001) := by decide +kernel

/-- Core 0 of a fabric-manager order, running, with values in its registers and its handles. -/
def table (k : CoreState) : State := lever { k with mode := .running, job := some {} }

/-- A handle on PORT 2, with a DROP of 5 staged in the buffer where wanted. -/
def port2 (buf : List Entry) : State := table { h := [(0, ⟨true, clsPort, 2, 0, 0⟩)], buf := buf, g := [(1, 2), (2, 5)] }

theorem witness_TableAccess_open : (port2 []).runs 0 ∧ (port2 []).objectInRange clsPort 2 0 = true ∧
    (port2 []).objectInRange clsPort 126 0 = true ∧
    (classPool clsPort = true → (port2 []).allocated clsPort 2 = true) ∧ (port2 []).inScope 0 0 clsPort 2 = true ∧
    after (.openObj 0 ⟨1, 3, 0, 0x01, 0⟩) (port2 []) (fun t => (t.core 0).handle 3 == ⟨true, clsPort, 2, 0, 0⟩ && (t.core 0).pc == 4) := by
  unfold State.runs; decide +kernel

theorem witness_TableAccess_ldf : (port2 [.write clsPort 2 0 4 7]).runs 0 ∧ ((port2 []).core 0).handle 0 = ⟨true, clsPort, 2, 0, 0⟩ ∧
    (port2 []).readField clsPort 2 0 4 = some 192 ∧
    after (.ldf 0 ⟨5, 0, 0, 4, 0⟩) (port2 []) (puts 192) ∧ after (.ldf 0 ⟨5, 0, 0, 4, 0⟩) (port2 [.write clsPort 2 0 4 7]) (puts 7) ∧
    after (.ldf 0 ⟨5, 0, 0, 4, 1⟩) (port2 [.write clsPort 2 0 4 7]) (puts 192) := by unfold State.runs; decide +kernel

theorem witness_TableAccess_stf : (port2 []).runs 0 ∧ Fld.ofId clsPort 4 = some .portDrop ∧ Fld.portDrop.info.co = true ∧
    (port2 []).mayStage 0 0 clsPort 2 4 2 = true ∧ Fld.portDrop.accepts 2 5 = true ∧
    stagedValue [] clsPort 2 0 4 = none ∧
    after (.stf 0 ⟨2, 0, 0, 4, 0⟩) (port2 []) (fun t => (t.core 0).buf == [.write clsPort 2 0 4 5]) := by
  unfold State.runs; decide +kernel

theorem witness_TableAccess_new : (table { g := [(1, 0)] }).runs 0 ∧ classPool clsEvent = true ∧ ownerInScope 0 0 0 = true ∧
    classWritable clsEvent 0 = true ∧ (table {}).newObject clsEvent 0 = some 0 ∧
    after (.newObj 0 ⟨1, 0, 5, 0x0D, 0⟩) (table { g := [(1, 0)] }) (fun t => (t.core 0).buf == [.create clsEvent 0 0] &&
      (t.core 0).reserved == [(clsEvent, 0)] && puts 0 t) ∧
    after (.delObj 0 ⟨0, 0, 0, 0, 0⟩) (table { h := [(0, ⟨true, clsEvent, 3, 0, 0⟩)] }) (fun t => (t.core 0).buf == [.delete clsEvent 3] &&
      !((t.core 0).handle 0).valid) := by unfold State.runs; decide +kernel

/-- The values that the system instructions read, at the ends of what they take: a length of 4096, an event that T0 owns. -/
theorem witness_SystemInstructions :
    let s : State := { table { g := [(1, 4096), (2, 3)], submitter := 9 } with alloc := [poolKey clsEvent 3], ftb := 4096 }
    s.runs 0 ∧ s.allocated clsEvent 3 = true ∧ s.inScope 0 0 clsEvent 3 = true ∧
    after (.timeNow 0 ⟨5, 0⟩) s (puts 4096) ∧ after (.roundCount 0 ⟨5, 0⟩) s (puts 0) ∧ after (.who 0 ⟨5, 0⟩) s (puts 9) ∧
    after (.coreNumber 0 ⟨5, 0⟩) s (puts 0) ∧ after (.commitBuf 0 ⟨5, 0⟩) s (puts 0) ∧
    after (.rlen 0 ⟨0, 1⟩) s (fun t => (t.core 0).replyLen == 4096 && (t.core 0).pc == 4) ∧
    after (.raiseEvent 0 ⟨0, 2⟩) s (fun t => (t.core 0).buf == [.raise 3]) ∧
    after (.waitUntil 0 ⟨0, 1⟩) s (fun t => (t.core 0).mode == .running && (t.core 0).pc == 4) ∧
    after (.waitUntil 0 ⟨0, 1⟩) { s with ftb := 4095 } (fun t => (t.core 0).mode == .waiting 4096) ∧
    after (.fence 0 ⟨0, 0⟩) s (puts 0) ∧ after (.pet 0 ⟨0, 0⟩) s (puts 0) := by unfold State.runs; decide +kernel

theorem witness_SystemInstructions_more :
    let s : State := table { buf := [.raise 3] }
    let r : State := { lever { mode := .running, resident := true } with ftb := 9 }
    let d : State := { up with lev := { cores := [(0, { mode := .running, job := some {} })], debugger := true } }
    s.runs 0 ∧ r.runs 0 ∧ d.runs 0 ∧
    after (.commitBuf 0 ⟨5, 0⟩) s (fun t => (t.core 0).mode == .committing 5 && t.lev.commitWait == [0]) ∧
    after (.pet 0 ⟨0, 0⟩) r (fun t => (t.core 0).petAt == 9) ∧
    after (.brk 0 ⟨0, 0⟩) d (fun t => (t.core 0).mode == .halted && (t.core 0).pc == 0) := by unfold State.runs; decide +kernel

theorem witness_OrderRunEnds :
    let s : State := table {}
    let late : State := lever { mode := .waiting 5, job := some {}, used := 1000000 }
    let idle : State → Bool := fun t => (t.core 0).mode == .idle && (t.core 0).job.isNone
    s.runs 0 ∧ (s.core 0).job = some {} ∧ (late.core 0).used = 1000000 ∧ decodeLever 0 0xFC000000 = none ∧ decodeLever 0 0x00000000 ≠ none ∧ after (.doneOrder 0 ⟨0, 0⟩) s idle ∧
    after (.brk 0 ⟨0, 0⟩) s (fun t => idle t && t.ord.mailbox.vsStatus == Status.aborted.word LeverFault.brk.code) ∧
    after (.failOrder 0 ⟨0, 1⟩) s idle ∧
    after (.reservedOpcode 0 0xFC000000) s (fun t => idle t && t.ord.mailbox.vsStatus == Status.aborted.word LeverFault.illegal.code) ∧
    after (.reservedOpcode 0 0x00000000) s (fun t => t == s) ∧
    after (.leverTimeLimit 0) late idle ∧
    after (.leverTimeLimit 0) (lever { mode := .waiting 5, job := some {}, used := 999999 }) (fun t => (t.core 0).used == 999999) := by
  unfold State.runs; decide +kernel

/-- A commit that waits, one granted, and one whose generations are old. -/
def committing (entry : Entry) (named : List (Nat × Nat)) (granted : Option Nat) : State := { up with
  lev := { cores := [(0, { mode := .committing 5, job := some {}, buf := [entry], named := named })]
           commitWait := if granted.isNone then [0] else []
           granted := granted } }

theorem witness_WaitsAndCommitUnit :
    let w : State := { lever { mode := .waiting 9, job := some {} } with ftb := 9 }
    let r : State := { lever { mode := .running, resident := true, buf := [.raise 1] } with ftb := 100000000 }
    let ok := committing (.write clsPort 2 0 4 5) [] none
    let old := committing (.write clsPort 2 0 4 5) [(genKey clsPort 2 0, 1)] none
    let bad := committing (.write clsDomain 9 0 1 0) [] none
    let go := committing (.write clsPort 2 0 4 5) [] (some 0)
    after (.waitExpiry 0) w (fun t => (t.core 0).mode == .running && (t.core 0).pc == 4) ∧
    (r.core 0).petAt + r.boot.image.watchdogMs * 1000000 ≤ r.ftb ∧
    after (.residentWatchdog 0) r (fun t => (t.core 0).expiries == [100000000] && (t.core 0).buf == []) ∧
    ok.gensCurrent (ok.core 0) = true ∧ violated ok (ok.stored (ok.core 0).buf) (ok.core 0).buf = none ∧
    after (.commitUnitGrant 0) ok (fun t => t.lev.granted == some 0 && t.lev.commitWait == []) ∧
    old.gensCurrent (old.core 0) = false ∧ after (.commitUnitGrant 0) old (puts 1) ∧
    after .commitRoundBoundary go (fun t => (t.core 0).mode == .running && t.get .portDrop 2 == 5) ∧
    violated bad (bad.stored (bad.core 0).buf) (bad.core 0).buf = some 18 ∧ after (.commitUnitGrant 0) bad (puts (4 + 256 * 18)) := by decide +kernel

theorem witness_WaitsAndCommitUnit_turns :
    let ok := committing (.write clsPort 2 0 4 5) [] none
    let two : Nat → State := fun n => { ok with lev := { cores := ok.lev.cores ++ [(1, { mode := .committing 5, job := some {}, losses := n })], commitWait := [0, 1] } }
    let still : State := { ok with sw := { ok.sw with running := false } }
    let soon := committing (.write clsPort 2 0 4 5) [] (some 0)
    let early : State := { soon with lev := { soon.lev with nextHold := 1 } }
    (two 7).turnOf 0 = true ∧ (two 7).lev.commitWait.Nodup ∧ (two 8).turnOf 0 = false ∧ ((two 8).core 1).losses = 8 ∧ early.ftb < early.lev.nextHold ∧
    (still.served 0).boundaryRefuses (still.core 0).buf = none ∧
    after (.commitUnitGrant 0) (two 7) (fun t => t.lev.granted == some 0 && (t.core 1).losses == 8) ∧
    after (.commitUnitGrant 0) (two 8) (fun t => t == two 8) ∧
    after (.commitUnitGrant 0) still (fun t => puts 0 t && t.get .portDrop 2 == 5) ∧
    after .commitRoundBoundary early (fun t => t == early) := by decide +kernel

/-! ### Orders -/

/-- The device after its boot with a library of one order, which every submitter may run, and a mailbox whose doorbell rings. -/
def ringing (opcode libid : Nat) (payload : Mem := []) (len : Nat := 0) : State := { up with
  boot := { up.boot with image := { up.boot.image with library := [(libid, 15, 0x1000000)] } }
  ord := { mailbox := { doorbell := true, opcode := opcode, payload := payload, payloadLen := len } } }

/-- An order of one ID waits last in the queue with its argument block. -/
def waits (libid : Nat) (args : List Byte) (t : State) : Bool :=
  match t.ord.queue with
  | [o] => o.libid == libid && o.args == args && o.id == 1 && t.ord.nextId == 2
  | _ => false

theorem witness_ApiRequests_reached : (ringing 0x5100 0x63).reached .mailbox (· == 0x5100) ∧
    (ringing 0x5100 0x63).admission (apiOrder .mailbox 0x63 (toLE 8 0) none) true = none ∧
    ({ ringing 0 0x63 with obj := [(objKey clsPort 6 0 0, 4)] } : State).reached (.vdm 0 9) (· == 0x5100) ∧
    (ringing 0 0x63).reached (.bus 9) (· == 0x5100) := by unfold State.reached; decide +kernel

theorem test_apiRequests :
    after (.identifySwitchDevice .mailbox) (ringing 0x5100 0x63) (waits 0x63 [0, 0, 0, 0, 0, 0, 0, 0]) ∧
    after (.getPhysicalPortState .mailbox 3 2) (ringing 0x5101 0x63) (waits 0x63 [1, 0, 3, 0, 2, 0, 0, 0]) ∧
    after (.physicalPortControl .mailbox 4 2) (ringing 0x5102 0x03) (waits 0x03 [4, 2, 0, 0, 0, 0, 0, 0]) ∧
    after (.sendPpbCxlioConfigRequest .mailbox 4 1 0x104 0xF 0x01020304) (ringing 0x5103 0x04)
      (waits 0x04 [4, 1, 4, 1, 0xF, 0, 0, 0, 4, 3, 2, 1]) ∧
    after (.getVirtualCxlSwitchInfo .mailbox 0 1) (ringing 0x5200 0x63) (waits 0x63 [2, 0, 0, 0, 1, 0, 0, 0]) ∧
    after (.tunnelManagementCommand .mailbox 4 0x102 [7]) (ringing 0x5300 0x14) (waits 0x14 [4, 0, 2, 1, 0, 0, 0, 0, 7]) ∧
    after (.sendLdCxlioConfigRequest .mailbox 4 1 [7]) (ringing 0x5301 0x14) (waits 0x14 [4, 0, 1, 0, 0, 0, 0, 0, 7]) ∧
    after (.sendLdCxlioMemoryRequest .mailbox 4 1 [7]) (ringing 0x5302 0x14) (waits 0x14 [4, 0, 1, 0, 0, 0, 0, 0, 7]) ∧
    after (.pbrAndGfdCommand .mailbox (.gfd 4 5 [7])) (ringing 0x5400 0x14) (waits 0x14 [4, 1, 5, 0, 0, 0, 0, 0, 7]) := by decide +kernel

theorem test_apiRequests_more :
    after (.generateAerEvent .mailbox 1 2 4 [9]) (ringing 0x5203 0x15) (waits 0x15 [1, 2, 0, 0, 4, 0, 0, 0, 9]) ∧
    after (.pbrAndGfdCommand .mailbox (.pbrSet [1, 2])) (ringing 0x5700 0x13) (waits 0x13 [1, 2]) ∧
    after (.bindVppb .mailbox 1 2 1 4 0) (ringing 0x5201 0x11) (fun t => waits 0x11 [1, 2, 1, 4, 0, 0, 0, 0] t &&
      t.ord.mailbox.bgOp && t.ord.mailbox.bgOpcode == 0x5201 && t.ord.mailbox.percent == 0) ∧
    after (.unbindVppb .mailbox 1 2 2) (ringing 0x5202 0x12) (fun t => waits 0x12 [1, 2, 2, 0, 0, 0, 0, 0] t && t.ord.mailbox.bgOp) ∧
    after .backgroundComplete { up with ord := { mailbox := { bgOp := true, bgEnded := some 0 } } } (fun t =>
      t.ord.mailbox.percent == 100 && !t.ord.mailbox.bgOp && t.ord.mailbox.bgReturn == 0) := by decide +kernel

/-- A frame of READ with no items. -/
def readFrame : List Byte := [1, 1, 0x34, 0x12, 0x62, 0, 0, 0, 0, 0, 0, 0, 0, 0, 0, 0]

/-- The mailbox holds the frame of READ. -/
def mailed (libid : Nat) : State := ringing 0xC000 libid [(0, 1), (1, 1), (2, 0x34), (3, 0x12), (4, 0x62)] 16

theorem witness_FrameAdmission :
    let s := mailed 0x62
    let o := frameOrder readFrame privFM 0 0 .mailbox
    let host := s.put .portLink 0 0 4
    let short : List Byte := readFrame.take 15
    let bus : Order := frameOrder readFrame privBMC 0 1 (.bus 9)
    memBytes s.ord.mailbox.payload 0 16 = readFrame ∧ o.resets = none ∧ frameOk readFrame 20496 = true ∧ s.admission o true = none ∧
    after (.submitOrder .mailbox) s (waits 0x62 []) ∧
    (mailed 0x63).admission o true = some .badArg ∧
    after (.submitOrder .mailbox) (mailed 0x63) (fun t => t.ord.queue == [] && t.ord.mailbox.vsStatus == 7 && !t.ord.mailbox.doorbell &&
      t.ord.mailbox.payloadLen == 16) ∧
    host.mgmtPort = some 0 ∧ host.portUp 0 = true ∧ host.admission (frameOrder readFrame privFM 0 1 (.vdm 9)) true = none ∧
    s.admission bus true = none ∧ bus.resets = none ∧ frameOk short 20496 = false ∧
    s.admission (frameOrder short privBMC 0 1 (.bus 9)) false = some .badArg ∧
    after (.submitOrder (.vdm 0 9 readFrame)) host (waits 0x62 []) ∧ after (.submitOrder (.bus 9 readFrame)) s (waits 0x62 []) ∧
    after (.submitOrder (.bus 9 short)) s (fun t => t.ord == s.ord && t.outbox == [.reply (.bus 9)
      (toLE 2 (returnCode Status.badArg.code) ++ toLE 2 Status.badArg.code ++ replyHeader (frameOrder short privBMC 0 1 (.bus 9)).tag
        Status.badArg.code 0 0 0)]) := by decide +kernel

/-- A message too long for reassembly is no order (R535). -/
theorem witness_FrameAdmission_long (l : List Byte) (h : 20499 < l.length) :
    exec (.submitOrder (.bus 9 l)) (mailed 0x62) = .next ((mailed 0x62).modSec (fun x => { x with discarded := x.discarded + 1 })) := by
  have e : exec (.submitOrder (.bus 9 l)) (mailed 0x62) =
      .next ((mailed 0x62).reassembled l (fun s => s.submitFrame l privBMC 0 1 largestFrame (.bus 9))) := rfl
  rw [e]
  have big : ¬ 13 + l.length ≤ largestMessage := by simp only [largestMessage]; omega
  simp only [State.reassembled, if_neg big]

/-- Each check of R80 fails first somewhere. -/
theorem witness_FrameAdmission_checks :
    let s := mailed 0x62
    let o := frameOrder readFrame privFM 0 0 .mailbox
    let late : State := { s with boot := { s.boot with phase := 3 } }
    let mine : State := { s with boot := { s.boot with image := { s.boot.image with library := [(0x62, 4, 0)] } } }
    let full : State := { s with ord := { s.ord with queue := [{ channel := 0 }] } }
    late.admission o true = some .busy ∧ s.admission o false = some .badArg ∧ s.admission { o with abi := 2 } true = some .level ∧
    s.admission { o with libid := 0x70 } true = some .badArg ∧ mine.admission o true = some .denied ∧
    full.admission o true = some .busy ∧ s.power.haltAfterFatal = false ∧
    ({ s with power := { s.power with haltAfterFatal := true } } : State).admission o true = none ∧
    ({ s with power := { s.power with haltAfterFatal := true } } : State).admission { o with libid := 0x63 } true = some .badArg ∧
    ({ s with power := { s.power with haltAfterFatal := true } } : State).admission { o with libid := 0x01 } true = some .busy ∧
    s.admission { o with library := false, priv := privBMC } true = some .denied := by decide +kernel

theorem witness_Dispatching :
    let o : Order := { id := 1, libid := 0x62, args := [5, 6] }
    let tenant : Order := { id := 2, libid := 0x62, priv := privTenant }
    let s : State := { mailed 0x62 with ord := { queue := [tenant, o] } }
    let new : State := { mailed 0x62 with ord := { queue := [{ o with abi := 2 }] } }
    let inl : State := { mailed 0x62 with ord := { queue := [{ id := 1, library := false, code := [1, 2] }] } }
    0 ∈ s.orderCores ∧ (s.core 0).mode = .idle ∧ (s.core 0).job = none ∧ s.ord.noStart = false ∧ s.nextOrder = some o ∧ o.abi ≤ s.boot.image.abi ∧
    (s.core 0).resident = false ∧ new.nextOrder.any (fun x => new.boot.image.abi < x.abi) = true ∧
    after (.orderDispatch 0) s (fun t => (t.core 0).mode == .running && (t.core 0).reg 1 == 2 && (t.core 0).reg 30 == 0x3E000 &&
      memBytes (t.core 0).mem 0x3F000 3 == [5, 6, 0] && t.ord.queue == [tenant]) ∧
    after (.orderDispatch 0) new (fun t => t.core 0 == s.core 0 && t.ord.queue == []) ∧
    after (.orderDispatch 0) inl (fun t => memBytes (t.core 0).mem 0 2 == [1, 2] && (t.core 0).pc == 0) ∧
    ({ s with ftb := 10000000 } : State).nextOrder = some tenant ∧
    ({ s with ord := { queue := [tenant] } } : State).nextOrder = some tenant ∧
    ({ s with ord := { queue := [{ o with deadline := 1 }] }, ftb := 1000 } : State).nextOrder = none := by decide +kernel

theorem witness_Dispatching_window :
    let o : Order := { id := 1, libid := 0x62, deadline := 3, accepted := 5 }
    let s : State := { mailed 0x62 with ord := { queue := [o] }, ftb := 3005 }
    let far : State := { mailed 0x62 with
      ord := { windows := [(7, { frame := [(0, 1), (1, 1), (2, 0x34), (3, 0x12), (4, 0x62)] })] }
      obj := [(objKey clsTenant 1 7 0, 1)] }
    let w := far.put .portLink 0 0 4
    let allowed : State := w.put .tenantShPerm 7 0 1
    far.windowReached 7 = false ∧ w.windowReached 7 = true ∧ allowed.windowReached 7 = true ∧ bitOf (w.get .tenantShPerm 7) 0 = false ∧
    allowed.get .tenantState 7 ≠ 2 ∧
    after (.orderDeadline 1) s (fun t => t.ord.queue == []) ∧
    after (.twGo 7 1) far (fun t => t == far) ∧
    after (.twGo 7 1) w (fun t => (t.window 7).status == Status.denied.word && t.ord.queue == []) ∧
    after (.twGo 7 0x50002) w (fun t => (t.window 7).evEn && (t.window 7).event == 5 && !(t.window 7).go) ∧
    after (.twGo 7 1) allowed (fun t => (t.window 7).go && waits 0x62 [] t) ∧
    after (.twGo 7 0x50003) (allowed.modWindow 7 (fun x => { x with go := true })) (fun t => t.ord.queue == [] && (t.window 7).event == 5) ∧
    0xC123 ∉ apiOpcodes ∧
    after (.vendorOpcodeUnsupported .mailbox 0xC123) (ringing 0xC123 0x62) (fun t => !t.ord.mailbox.doorbell &&
      t.ord.mailbox.returnCode == returnUnsupported) := by decide +kernel

/-- A host writes BAR0 at the first and the last byte of each range. -/
theorem witness_RegisterWrites :
    let s : State := { ringing 5 0x62 [(0, 7)] 1 with obj := [(objKey clsPort 6 0 0, 4)] }
    s.mgmtPort = some 0 ∧ s.portUp 0 = true ∧
    after (.registerWrite 0x30 4 0x12345678) s (fun t => t.boot.scratch == 0x12345678) ∧
    after (.registerWrite 0x10004 1 6) s (fun t => t.ord.mailbox.doorbell && t.ord.mailbox.dbInt && t.ord.mailbox.bgInt) ∧
    after (.registerWrite 0x10008 8 (-1)) s (fun t => t.ord.mailbox == s.ord.mailbox) ∧
    after (.registerWrite 0x1801F 1 1) s (fun t => t.ord.mailbox == s.ord.mailbox) ∧
    after (.registerWrite 0x10020 1 9) { s with ord := { s.ord with mailbox := { s.ord.mailbox with doorbell := false } } }
      (fun t => memByte t.ord.mailbox.payload 0 == 9) ∧
    after (.registerWrite 0x2F 1 1) s (fun t => t.boot.scratch == 0) := by decide +kernel

/-! ### The coherent pool -/

/-- Agents 1 at port 2 and 3 at port 4, live, with BI-ID 0. -/
def agents (s : State) : State :=
  ((((((s.put .agentKind 1 0 1).put .agentPort 1 0 2).put .agentLive 1 0 1).put .agentKind 3 0 1).put .agentPort 3 0 4).put .agentLive 3 0 1)

/-- The pool with what the directory and the Loft hold for line 5. -/
def pool (dir : Tab DirEntry) (loft : Tab LoftLine) : State := { agents up with coh := { dir := dir, loft := loft } }

/-- A request for line 5 by agent 1. -/
def byOne : CohReq := { line := 5, port := 2, id := some 0, tenant := 0 }

/-- A clean Loft line. -/
def loft7 : LoftLine := { data := 7, dirty := false, poison := false, held := false, remote := false, tenant := 0, home := none, used := 0 }

/-- A write of a whole line. -/
def wholeLine : WriteData := { data := 9, mask := BitVec.allOnes 64, poison := false }

/-- An atomic AND of 1 with the first 8 bytes of a line. -/
def andOne : AtomicOp := { op := 3, size := 1, offset := 0, operand := 1, compare := 0 }

/-- Line 5 in E at one agent, or in S. -/
def owned (a : Nat) : Tab DirEntry := [(5, { state := .exclusive, ptrs := [a] })]

/-- A request of agent 1 that its home station has handed over. -/
def handed (k : CohKind) (s : State) (w : Option WriteData := none) (o : Option AtomicOp := none) : State :=
  let bytes := (w.map (fun d => toLE 64 d.data.toNat)).getD []
  { s with coh := { s.coh with ring := [{ kind := k, line := 5, port := 2, id := some 0, tenant := 0, data := bytes, op := o.map (·.op.val) }] } }

theorem witness_OwnerSnooped :
    let s := pool (owned 3) []
    let off := (pool (owned 3) []).put .agentKind 1 0 0
    let snooped : Nat → SnoopForm → State → Bool := fun k f t => left t (.snoop 3 5 k f) && (match t.lock 5 with
      | some x => x.snooped == [3] && x.snoopKind == k
      | none => false)
    s.lineQuiet 5 ∧ (s.entry 5).state = .exclusive ∧ (s.entry 5).coarse = false ∧ (s.entry 5).ptrs = [3] ∧
    s.agentAt 2 (some 0) = some 1 ∧ s.died 1 = false ∧ s.get .agentKind 3 ≠ 3 ∧ off.agentAt 2 (some 0) = none ∧
    s.cacheable 5 (s.sliceRequest .rdS byOne none none false) = true ∧
    off.cacheable 5 (off.sliceRequest .rdE byOne none none false) = false ∧
    ((handed .wr s (some wholeLine)).coh.ring.find? (fun x => x.isFor .wr false byOne (some wholeLine) none)).isSome = true ∧
    after (.rdS byOne) (handed .rdS s) (snooped 1 .biSnpData) ∧ after (.rdE byOne) (handed .rdE s) (snooped 0 .biSnpInv) ∧
    after (.rdE byOne) (handed .rdE off) (snooped 2 .biSnpCur) ∧ after (.rdNc byOne) (handed .rdNc s) (snooped 2 .biSnpCur) ∧
    after (.wr byOne wholeLine) (handed .wr s (some wholeLine)) (snooped 0 .biSnpInv) ∧
    after (.atomic byOne andOne) (handed .at s none (some andOne)) (snooped 0 .biSnpInv) := by
  unfold State.lineQuiet; decide +kernel

theorem witness_ServedAtOnce :
    let s := pool [] [(5, loft7)]
    let shared := pool [(5, { state := .shared, ptrs := [1] })] []
    let r : CohKind → SliceRequest := fun k => s.sliceRequest k byOne none none false
    let atomics := handed .at s none (some andOne)
    let far : State := { atomics with coh := { atomics.coh with ring := atomics.coh.ring.map (fun x => { x with far := some (6, 77) }) } }
    s.lineQuiet 5 ∧ shared.lineQuiet 5 ∧ s.remoteHome (r .rdS) = none ∧ s.nearest 5 (r .rdNc) false = .loft ∧
    s.nearest 5 (r .rdS) false = .loft ∧ s.nearest 5 (s.sliceRequest .at byOne none (some andOne) false) false = .loft ∧
    shared.remoteHome (shared.sliceRequest .rdS byOne none none false) = none ∧
    shared.cacheable 5 (shared.sliceRequest .rdE byOne none none false) = true ∧ (pool [] []).findWay 5 = .free ∧ s.coh.ring = [] ∧
    after (.rdNc byOne) (handed .rdNc s) (fun t => left t (.grant 2 (some 1) 5 0 (some 7) false 0) && t.coh.ring == []) ∧
    after (.rdS byOne) (handed .rdS s) (fun t => left t (.grant 2 (some 1) 5 1 (some 7) false 0) && (t.entry 5).ptrs == [1] &&
      (t.entry 5).state == .shared) ∧
    after (.atomic byOne andOne) atomics (fun t => left t (.atomicResult 2 5 7 false) && (match t.loftLine 5 with
      | some l => l.data == 1 && l.dirty
      | none => false)) ∧
    after (.atomic byOne andOne) far (fun t => left t (.farAtomicResponse 2 (farPayload 77 5 0 0 7 6))) ∧
    after (.rdE byOne) (handed .rdE shared) (fun t => left t (.grant 2 (some 1) 5 2 none false 0) && (t.entry 5).state == .exclusive) ∧
    after (.wr byOne wholeLine) (handed .wr (pool [] []) (some wholeLine)) (fun t => left t (.written 2 5) && (match t.loftLine 5 with
      | some l => l.data == 9 && l.dirty
      | none => false)) ∧
    after (.rdNc byOne) s (fun t => t == s) ∧ after (.wb byOne wholeLine false) s (fun t => t == s) := by
  unfold State.lineQuiet; decide +kernel

/-- Agent 1 at port 2 owns line 5, whose memory is at port 4; a domain of the pool is off. -/
def poolOff : State :=
  let s1 := ((((pool (owned 1) []).put .domainState 4 0 0).put .portLink 4 0 4).put .vcsEnable 1 0 1).put .vcsUsp 1 0 2
  ((s1.put .vppbKind 1 0 1).put .vppbPort 1 0 4).modVcs 1 (fun x => { x with hdm := [(0, { base := 0, size := 4096, targets := [0] })] })

theorem witness_OwnerReleases :
    let s := pool (owned 1) []
    let dead := (pool (owned 3) []).put .agentLive 1 0 0
    s.lineQuiet 5 ∧ s.agentAt 2 (some 0) = some 1 ∧ s.live 1 = true ∧ s.findWay 5 = .free ∧ dead.lineQuiet 5 ∧ dead.live 1 = false ∧
    (poolOff.domainOn 3 && poolOff.domainOn 4) = false ∧ poolOff.live 1 = true ∧ poolOff.agentAt 2 (some 0) = some 1 ∧
    (poolOff.sliceRequest .wb byOne (some wholeLine) none false).home = some 4 ∧ poolOff.portUp 4 = true ∧ poolOff.get .portProto 4 ≠ 2 ∧
    after (.wb byOne wholeLine false) (handed .wb s (some wholeLine)) (fun t => left t (.written 2 5) && (t.entry 5).state == .invalid &&
      (match t.loftLine 5 with
      | some l => l.data == 9 && l.dirty
      | none => false)) ∧
    after (.evictClean byOne) (handed .ev s) (fun t => left t (.written 2 5) && (t.entry 5).state == .invalid && t.coh.loft == []) ∧
    after (.evictClean byOne) (handed .ev dead) (fun t => t.coh.dir == dead.coh.dir && t.sw.lostFrames == 1) ∧
    after (.wb byOne wholeLine false) (handed .wb poolOff (some wholeLine)) (fun t => left t (.memWrite 4 5 9 (BitVec.allOnes 64) false)) := by
  unfold State.lineQuiet; decide +kernel

/-- A request by agent 1 that holds line 5. -/
def held (kind : CohKind) (wait : Waiting) (snooped : List Nat) (dir : Tab DirEntry) (loft : Tab LoftLine) : State :=
  let s := pool dir loft
  s.setLock 5 { work := .request (s.sliceRequest kind byOne none none false), wait := wait, snooped := snooped }

theorem witness_SliceAnswers :
    let nc := held .rdNc .snoops [3] (owned 3) []
    let sh := held .rdS .snoops [3] (owned 3) []
    (3, 5) ∉ nc.coh.consumed ∧ nc.findWay 5 = .free ∧
    sh.cacheable 5 (sh.sliceRequest .rdS byOne none none false) = true ∧
    after (.rspI 3 5 (some 6)) nc (fun t => left t (.grant 2 (some 1) 5 0 (some 6) false 0) && (t.entry 5).state == .exclusive &&
      (match t.loftLine 5 with | some l => l.data == 6 && l.dirty | none => false)) ∧
    after (.rspS 3 5 (some 6)) sh (fun t => left t (.grant 2 (some 1) 5 1 (some 6) false 0) && (t.entry 5).ptrs == [3, 1] &&
      (t.entry 5).state == .shared) := by decide +kernel

theorem witness_SliceAnswers_memory :
    let sh := held .rdS .memory [] [] []
    let w : State := { pool [] [(5, { loft7 with dirty := true })] with
      coh := { loft := [(5, { loft7 with dirty := true })], writes := [(5, .writeback)] } }
    sh.cacheable 5 (sh.sliceRequest .rdS byOne none none false) = true ∧ sh.domainOn 3 = true ∧ sh.domainOn 4 = true ∧
    after (.memoryData 5 (.data 6 true 2)) sh (fun t => left t (.grant 2 (some 1) 5 1 (some 6) true 2) && (t.entry 5).ptrs == [1] &&
      (match t.loftLine 5 with | some l => l.data == 6 && l.poison && !l.dirty | none => false)) ∧
    after (.memoryData 5 .error) (held .rdNc .memory [] [] []) (fun t => t.coh.loft == [] && t.sw.bypass.any (fun e => e.2.any (fun x => match x.2 with
      | .grant 2 (some 1) 5 0 (some _) true 0 => true
      | _ => false))) ∧
    sh.memWaits 5 false = false ∧ w.memWaits 5 true = false ∧ Tab.wf w.coh.writes = true ∧
    after (.atomicCompletion 5 77) (held .at .completion [] [] []) (fun t => left t (.atomicResult 2 5 77 false)) ∧
    after (.atomicCompletion 5 77) ((pool [] []).setLock 5 { work := .request { (pool [] []).sliceRequest .at byOne none none false with far := some (6, 8) }, wait := .completion })
      (fun t => left t (.farAtomicResponse 2 (farPayload 8 5 0 0 77 6))) ∧
    after (.memoryWriteComplete 5 true) w (fun t => t.coh.writes == [] && t.loftLine 5 == some loft7) := by decide +kernel

theorem witness_CoherenceEvents :
    let s := pool (owned 3) []
    let r := s.sliceRequest .rdNc byOne none none false
    let waiting := s.setLock 5 { work := .request r, wait := .handoff, queue := [r] }
    let open_ : State := { held .rdNc .snoops [3] (owned 3) [] with ftb := 100000000000 }
    let scan : State := { up with coh := { agents := [(3, { scanning := true, reason := 2 })] } }
    let flush : State := { up with coh := { flushes := [(7, (0, 0x2000))] } }
    r.agent ≠ some 3 ∧ after (.lineLockHandoff 5) waiting (fun t => left t (.snoop 3 5 2 .biSnpCur)) ∧
    open_.live 3 = true ∧ 0 + open_.get .deviceDeadT 0 * 1000 ≤ open_.ftb ∧ after (.snoopTimeout 3 5) open_ (fun t => !t.live 3) ∧
    after (.deadAgentScanDone 3) scan (fun t => !(t.agent 3).scanning) ∧
    flush.trackedOf 7 = 0 ∧ after (.coherentFlushDone 7) flush (fun t => t.coh.flushes == []) ∧
    after (.biConflict 3 5) { up with coh := { evictAcks := [(3, 5)] } } (fun t => left t (.biAck 3 5)) ∧
    after (.biConflict 3 5) up (fun t => t.coh.biConflicts == [(3, 5)] && t.outbox == []) := by decide +kernel

/-- A peer at Trunk port 6, agent 2, with a memory device at port 4 of virtual switch 1 as the home of line 5. -/
def peered (dir : Tab DirEntry) (loft : Tab LoftLine) : State :=
  let s1 := (((pool dir loft).put .portProto 6 0 2).put .portLink 6 0 4).put .portLink 4 0 4
  let s2 := ((s1.put .agentKind 2 0 3).put .agentPort 2 0 6).put .agentLive 2 0 1
  let s3 := ((s2.put .vcsEnable 1 0 1).put .vppbKind 1 0 1).put .vppbPort 1 0 4
  s3.modVcs 1 (fun x => { x with hdm := [(0, { base := 0, size := 4096, targets := [0] })] })

/-- A coherence message about line 5. -/
def peerMsg (op : Byte) : CohBypass where
  txn := 77
  line := 5
  op := op
  tenant := 0
  attr := 0
  offset := 0
  operand := 0
  compare := 0
  data := 9

/-- Port 6 has released a message of a type. -/
def released (type : Nat) (bytes : List Byte) (s : State) : State :=
  s.modPort 6 (fun x => { x with ctl := { x.ctl with arrived := [(type, bytes)] } })

/-- What a message leaves behind at port 6, and whether one of a type answers it. -/
def answered (ty : Nat) (t : State) : Bool := (t.port 6).ctl.arrived == [] && (t.port 6).trunk.bypass.any (fun m => m.type == ty)

theorem witness_PeerMessages :
    let s := (peered [] [(5, loft7)]).put .portTenant 6 0 0
    let m := peerMsg 2
    s.peerPort 6 = true ∧ s.lineQuiet 5 ∧ s.homeAny 5 = some 4 ∧ s.get .portProto 4 ≠ 2 ∧ s.peerAgent 6 = some 2 ∧ s.died 2 = false ∧
    s.check (peerFrame 6 m .rdNc) 0 = .defaultMap ∧ s.nearest 5 (s.peerRequest 6 m .rdNc) false = .loft ∧
    ((s.put .tenantState 7 0 1).check (peerFrame 6 { m with tenant := 7 } .rdNc) 7 = .refused 1 none) ∧
    after (.cReq 6 m) (released 0x20 (cohBody 0x20 m) s) (answered 0x24) ∧
    after (.cReq 6 { m with tenant := 7 }) (released 0x20 (cohBody 0x20 { m with tenant := 7 }) (s.put .tenantState 7 0 1)) (answered 0x23) ∧
    after (.cReq 6 m) s (fun t => t == s) ∧ (s.port 6).ctl.arrived = [] := by
  unfold State.lineQuiet; decide +kernel

theorem witness_PeerMessages_answers :
    let s := peered [] [(5, loft7)]
    let o := peered (owned 2) []
    let empty := peered [] []
    let w : CohKind → State := fun k => empty.setLock 5 { work := .request (s.sliceRequest k byOne none none false), wait := .home 77 }
    let fill := toLE 8 ((5 + 16 * 7) * 2 ^ 13) ++ List.replicate 8 0 ++ fillUnit 5 0 9
    o.lineQuiet 5 ∧ o.findWay 5 = .free ∧ o.peerAgent 6 = some 2 ∧ o.live 2 = true ∧ (o.entry 5).ptrs = [2] ∧
    empty.entry 5 = {} ∧ empty.loftLine 5 = none ∧ empty.lock 5 = none ∧ empty.tracking = true ∧ empty.findWay 5 = .free ∧
    ((released 0 fill empty).takeArrived 6 0 (fun b => bitsOf (fieldAt b 0 8) 13 7 == 5 + 16 * 7 && (b.drop 16).take 80 == fillUnit 5 0 9)).isSome = true ∧
    after (.cWb 6 (peerMsg 0)) (released 0x22 (cohBody 0x22 (peerMsg 0)) o) (fun t => (t.entry 5).state == .invalid && (match t.loftLine 5 with
      | some l => l.data == 9 && l.dirty
      | none => false)) ∧
    after (.cSnp 6 (peerMsg 2)) (released 0x21 (cohBody 0x21 (peerMsg 2)) empty) (answered 0x23) ∧
    after (.cRsp 6 (peerMsg 3)) (released 0x23 (cohBody 0x23 (peerMsg 3)) (w .wr)) (fun t => left t (.written 2 5)) ∧
    after (.cData 6 (peerMsg 0)) (released 0x24 (cohBody 0x24 (peerMsg 0)) (w .rdNc)) (fun t => left t (.grant 2 (some 1) 5 0 (some 9) false 0)) ∧
    after (.prefetchFill 6 5 0 9) (released 0 fill empty) (fun t => (t.entry 5).state == .shared && (match t.loftLine 5 with
      | some l => l.data == 9 && !l.dirty && !l.poison
      | none => false)) := by
  unfold State.lineQuiet; decide +kernel

/-! ### Library orders -/

/-- The run has ended with a status and has left a property. -/
def ended (status : Nat) (check : State → Bool) (t : State) : Bool :=
  (t.core 0).mode == .idle && (t.core 0).job.isNone && t.ord.mailbox.vsStatus == status && check t

/-- The first bytes of reply data. -/
def replied (n : Nat) (t : State) : List Byte := memBytes t.ord.mailbox.payload 16 n

/-- With no management port. -/
def noMgmt : State := { up with straps := { up.straps with mp := 7 } }

theorem witness_FabricOrders_portSet :
    let args : List Byte := [2, 31, 1, 5, 0, 3, 1, 0]
    let s := order 0x0001 args
    let fields := [(0, Fld.portProto, 1), (1, .portRateMax, 5), (2, .portSaf, 0), (3, .portDrop, 3), (4, .portEnable, 1)]
    s.carries 0 0x0001 (job 0x0001 args) ∧ s.portOk 2 = true ∧ s.mgmtPort = some 0 ∧ maskedOk 31 2 fields = true ∧
    s.passes (maskedEntries 31 2 fields) ∧
    after (.portSet 0) s (ended 0 (fun t => t.get .portEnable 2 == 1 && t.get .portDrop 2 == 3 && t.get .portSaf 2 == 0)) := by
  unfold State.carries State.goesOn State.passes; decide +kernel

theorem witness_FabricOrders_bifurcate :
    let a1 : List Byte := [1, 1, 0, 0, 0, 0, 0, 0]
    let a2 : List Byte := [63, 2, 0, 0, 0, 0, 0, 0]
    let s1 := order 0x0002 a1 noMgmt
    let s2 := order 0x0002 a2 noMgmt
    let both := [putEntry .stationBifurc 62 0 2, putEntry .stationBifurc 63 0 2]
    s1.carries 0 0x0002 (job 0x0002 a1) ∧ s2.carries 0 0x0002 (job 0x0002 a2) ∧ s1.mgmtPort = none ∧ 1 < s1.stationCount ∧
    63 < s2.stationCount ∧ s1.get .stationBifurc 1 ≠ 2 ∧ s1.passes [putEntry .stationBifurc 1 0 1] ∧ s2.passes both ∧
    after (.bifurcate 0) s1 (ended 0 (fun t => t.get .stationBifurc 1 == 1)) ∧
    after (.bifurcate 0) s2 (ended 0 (fun t => t.get .stationBifurc 62 == 2 && t.get .stationBifurc 63 == 2)) := by
  unfold State.carries State.goesOn State.passes; decide +kernel

theorem witness_FabricOrders_vcsSet :
    let args : List Byte := [127, 2, 1, 0, 0, 0, 0, 0]
    let s := order 0x0010 args
    s.carries 0 0x0010 (job 0x0010 args) ∧ s.get .vcsEnable 127 = 0 ∧ s.portOk 2 = true ∧ s.vppbsOfPort 2 = [] ∧ s.get .portProto 2 ≠ 2 ∧
    s.passes [putEntry .vcsUsp 127 0 2, putEntry .vcsEnable 127 0 1] ∧
    after (.vcsSet 0) s (ended 0 (fun t => t.get .vcsUsp 127 == 2 && t.get .vcsEnable 127 == 1)) := by
  unfold State.carries State.goesOn State.passes; decide +kernel

theorem witness_FabricOrders_pbrSet :
    let args : List Byte := [1, 0, 0, 0, 0, 0, 0, 0, 0xFF, 0x0F, 2, 0x80, 0, 0, 0, 0]
    let s := order 0x0013 args
    s.carries 0 0x0013 (job 0x0013 args) ∧ (job 0x0013 args).arg 8 8 = 0x80020FFF ∧ s.portOk 2 = true ∧
    s.passes [putEntry .pbrPort 4095 0 2, putEntry .pbrValid 4095 0 1] ∧
    after (.pbrSet 0) s (ended 0 (fun t => t.get .pbrPort 4095 == 2 && t.get .pbrValid 4095 == 1)) := by
  unfold State.carries State.goesOn State.passes; decide +kernel

theorem witness_FabricOrders_mirrorSet :
    let args : List Byte := [15, 2, 1, 4, 0, 0, 0, 0]
    let s := order 0x0094 args (up.put .portProto 4 0 2)
    let fields := [(Fld.mirrorSport, 2), (.mirrorDir, 1), (.mirrorDport, 4), (.mirrorTrunc, 0)]
    s.carries 0 0x0094 (job 0x0094 args) ∧ (∀ e ∈ fields, e.1.accepts 15 e.2 = true) ∧ s.get .portProto 4 = 2 ∧
    s.passes (fields.map (fun e => putEntry e.1 15 0 e.2)) ∧
    after (.mirrorSet 0) s (ended 0 (fun t => t.get .mirrorDport 15 == 4 && t.get .mirrorDir 15 == 1)) := by
  unfold State.carries State.goesOn State.passes; decide +kernel

theorem witness_FabricOrders_maps :
    let a1 : List Byte := [0, 0, 2, 0, 0, 0x10, 0, 0]
    let a2 : List Byte := [1, 0, 0xFF, 0x0F, 0, 0, 0, 0]
    let a3 : List Byte := [2, 0, 0, 0, 0, 0x88, 0, 0]
    let s1 := order 0x0099 a1
    let s2 := order 0x0099 a2
    let s3 := order 0x009C a3
    s1.carries 0 0x0099 (job 0x0099 a1) ∧ s2.carries 0 0x0099 (job 0x0099 a2) ∧ s3.carries 0 0x009C (job 0x009C a3) ∧
    s1.portOk 2 = true ∧ s2.get .tenantState 0 = 1 ∧ s1.passes [putEntry .portTenant 2 0 0x1000] ∧
    s2.passes [putEntry .pbrTenant 4095 0 0] ∧ s3.passes [putEntry .portClassmap 2 0 0, putEntry .portMemclass 2 0 0x88] ∧
    after (.tenantMap 0) s1 (ended 0 (fun t => t.get .portTenant 2 == 0x1000)) ∧
    after (.tenantMap 0) s2 (ended 0 (fun t => t.get .pbrTenant 4095 == 0)) ∧
    after (.classSet 0) s3 (ended 0 (fun t => t.get .portMemclass 2 == 0x88)) := by
  unfold State.carries State.goesOn State.passes; decide +kernel

/-- The arguments of PORT_CTL on port 2. -/
def ctlArgs (op : Byte) : List Byte := [2, op, 0, 0, 0, 0, 0, 0]

theorem witness_PortAndOutsideOrders_ctl :
    let ctl : Byte → State → State := fun op s => order 0x0003 (ctlArgs op) s
    let slot := up.put .slotPort 5 0 2
    let link := up.put .portLink 2 0 4
    let off : State := (up.put .portLink 2 0 11).modPort 2 (fun x => { x with ctlDisabled := true })
    let shut : State := (up.put .portLink 2 0 12).modPort 2 (fun x => { x with contained := { ctl := true } })
    (ctl 0 slot).carries 0 0x0003 (job 0x0003 (ctlArgs 0)) ∧ (ctl 0 slot).passes [actionOn clsPort 2] ∧ (ctl 0 slot).portOk 2 = true ∧
    (ctl 0 slot).mgmtPort ≠ some 2 ∧ (ctl 0 slot).slotOfPort 2 = some 5 ∧ (ctl 2 link).uspOf 2 = none ∧ (ctl 2 link).passes [actionOn clsPort 2] ∧
    (ctl 4 off).passes [actionOn clsPort 2] ∧ (ctl 6 shut).passes [actionOn clsPort 2] ∧
    after (.portCtlAssertPerst 0) (ctl 0 slot) (ended 0 (fun t => (t.port 2).perstHold)) ∧
    after (.portCtlReleasePerst 0) (ctl 1 (slot.modPort 2 (fun x => { x with perstHold := true }))) (ended 0 (fun t => !(t.port 2).perstHold)) ∧
    after (.portCtlResetPpb 0) (ctl 2 link) (ended 0 (fun t => t.get .portLink 2 == 10 && (t.port 2).hotResetUntil == 2000000)) ∧
    after (.portCtlDisableLink 0) (ctl 3 link) (ended 0 (fun t => t.get .portLink 2 == 11 && (t.port 2).ctlDisabled)) ∧
    after (.portCtlEnableLink 0) (ctl 4 off) (ended 0 (fun t => !(t.port 2).ctlDisabled)) ∧
    after (.portCtlContain 0) (ctl 5 link) (ended 0 (fun t => t.get .portLink 2 == 12 && (t.port 2).contained.ctl)) ∧
    after (.portCtlReleaseContainment 0) (ctl 6 shut) (ended 0 (fun t => !(t.port 2).contained.ctl)) := by
  unfold State.carries State.goesOn State.passes; decide +kernel

/-- A core that waits for an answer from outside, for an order. -/
def outside (id : Nat) (args : List Byte) (s : State := up) : State :=
  { s with lev := { cores := [(0, { mode := .external 5, job := some (job id args) })] } }

theorem witness_PortAndOutsideOrders_outside :
    let link := up.put .portLink 2 0 4
    let rd : List Byte := [2, 0, 0xFC, 0x0F, 0xF, 0, 0, 0, 0, 0, 0, 0]
    let wr : List Byte := [2, 1, 0xFC, 0x0F, 1, 0, 0, 0, 9, 0, 0, 0]
    let tun : List Byte := [2, 1, 0xFF, 0x0F, 0, 0, 0, 0, 7]
    let s := order 0x0004 rd link
    s.carries 0 0x0004 (job 0x0004 rd) ∧ s.portOk 2 = true ∧ s.portUp 2 = true ∧ (s.port 2).role = .downstream ∧ s.get .portProto 2 ≠ 2 ∧
    (order 0x0014 tun link).carries 0 0x0014 (job 0x0014 tun) ∧
    after (.ppbCfgRead 0) s (fun t => left t (.configSent 2 false 4092 0xF 0) && (t.core 0).mode == .external 900000) ∧
    after (.ppbCfgWrite 0) (order 0x0004 wr link) (fun t => left t (.configSent 2 true 4092 1 9) && (t.core 0).mode == .external 900000) ∧
    after (.ppbCfgCompletion 0 .success 0x01020304) (outside 0x0004 rd) (ended 0 (fun t => replied 8 t == [4, 3, 2, 1, 0, 0, 0, 0])) ∧
    after (.ppbCfgCompletion 0 .abort 0x01020304) (outside 0x0004 rd) (ended 0 (fun t => replied 8 t == [0, 0, 0, 0, 4, 0, 0, 0])) ∧
    after (.ppbCfgTimeout 0) { outside 0x0004 rd with ftb := 5 } (ended Status.aborted.word (fun _ => true)) ∧
    after (.ldTunnel 0) (order 0x0014 tun link) (fun t => left t (.tunnel 2 4095 true [7])) ∧
    after (.ldTunnelResponse 0 [1, 2]) (outside 0x0014 tun) (ended 0 (fun t => replied 3 t == [1, 2, 0])) ∧
    after (.ldTunnelTimeout 0) { outside 0x0014 tun with ftb := 5 } (ended Status.aborted.word (fun _ => true)) := by
  unfold State.carries State.goesOn; decide +kernel

/-- Virtual switch 1 enabled with its upstream port at port 2, and a binding of vPPB 3 to port 4 where wanted. -/
def switched (kind : Nat) : State :=
  ((((up.put .vcsUsp 1 0 2).put .vcsEnable 1 0 1).put .vppbKind 1 3 kind).put .vppbPort 1 3 4)

theorem witness_BindingOrders :
    let b : List Byte := [1, 3, 1, 4, 0, 0, 1, 0]
    let un : Byte → List Byte := fun m => [1, 3, m, 0, 0, 0, 0, 0]
    let aer : List Byte := [1, 3, 0, 0, 0, 0, 0, 0x80, 9]
    let s := order 0x0011 b (switched 0)
    let u : Byte → State := fun m => order 0x0012 (un m) (switched 1)
    let g := order 0x0015 aer (switched 1)
    s.carries 0 0x0011 (job 0x0011 b) ∧ s.portOk 4 = true ∧ s.mayBind 1 3 1 4 0 = true ∧
    (s.modVppb 1 3 (fun x => { x with auto := true })).passes
      [putEntry .vppbKind 1 3 1, putEntry .vppbPort 1 3 4, putEntry .vppbLdid 1 3 0] ∧
    (u 0).carries 0 0x0012 (job 0x0012 (un 0)) ∧ (u 0).get .vppbKind 1 3 ≠ 0 ∧ (u 0).passes [.action clsVppb 1 3 0] ∧
    g.carries 0 0x0015 (job 0x0015 aer) ∧ (job 0x0015 aer).arg 4 4 = 2 ^ 31 ∧ g.get .vcsEnable 1 = 1 ∧ g.passes [.action clsVppb 1 3 0] ∧
    after (.bind 0) s (ended 0 (fun t => t.get .vppbKind 1 3 == 1 && t.get .vppbPort 1 3 == 4 && (t.vppb 1 3).auto)) ∧
    after (.unbindWaitLinkDown 0) (u 0) (ended 0 (fun t => t.get .vppbKind 1 3 == 0)) ∧
    after (.unbindManagedHotRemove 0) (u 1) (ended 0 (fun t => t.get .vppbHp 1 3 == 4)) ∧
    after (.unbindSurpriseHotRemove 0) (u 2) (ended 0 (fun t => t.get .vppbKind 1 3 == 0)) ∧
    after (.aerGen 0) g (ended 0 (fun t => (t.vppb 1 3).aerStatus == 2 ^ 31 && (t.vppb 1 3).aerHeader.head? == some 9 &&
      left t (.aer 1 false (2 ^ 31)))) := by
  unfold State.carries State.goesOn State.passes; decide +kernel

/-- The device with one vector of T0, and a rule of T0 that lets it write the first megabyte of pool memory. -/
def t0 : State :=
  let s : State := { up with alloc := [poolKey clsRule 0, poolKey clsEvent 3] }
  ((((s.put .ruleValid 0 0 1).put .rulePerm 0 0 3).put .ruleEnd 0 0 0xFFFC0))

theorem witness_StandingOrders_write :
    let s := order 0x0070 readFrame
    let full : State := { s with ledger := { s.ledger with
      standing := [⟨1, 0, true, 0, List.replicate 16 0⟩]
      standingUsed := 262144 } }
    let clear1 : List Byte := [0, 0, 0, 0, 1, 0, 0, 0, 1, 0, 0, 0, 0, 0, 0, 0]
    let clear2 : List Byte := [1, 0, 0, 0, 0, 0, 0, 0, 0, 0, 0, 0, 0, 0, 0, 0]
    let list_ : List Byte := [0, 0, 0, 0, 255, 0, 0, 0]
    let kept : State → State := fun s => { s with ledger := { s.ledger with
      standing := [⟨1, 0, true, 5, readFrame⟩, ⟨2, 0, true, 6, readFrame⟩]
      standingUsed := 64 } }
    s.carries 0 0x0070 (job 0x0070 readFrame) ∧ frameOk readFrame 4096 = true ∧ s.mayStore 0 readFrame = true ∧
    after (.standingWrite 0) s (ended 0 (fun t => replied 4 t == [1, 0, 0, 0] && t.ledger.standingUsed == 32 &&
      t.ledger.standing.map (·.frame) == [readFrame])) ∧
    full.ledger.standingHeld = 32 ∧
    after (.standingClearRange 0) (kept (order 0x0071 clear1)) (ended 0 (fun t => replied 4 t == [1, 0, 0, 0] &&
      t.ledger.standing.map (·.valid) == [false, true])) ∧
    after (.standingClearAll 0) (kept (order 0x0071 clear2)) (ended 0 (fun t => replied 4 t == [2, 0, 0, 0] &&
      t.ledger.standing.map (·.valid) == [false, false])) ∧
    after (.standingList 0) (kept (order 0x0072 list_)) (ended 0 (fun t => replied 24 t ==
      [2, 0, 0, 0] ++ toLE 4 (262144 - 64) ++ [1, 0, 0, 0, 16, 0, 0, 1, 5, 0, 0, 0, 0x62, 0, 1, 0])) ∧
    after .standingSessionTimeout { up with ord := { session := some ⟨1, 5000, [], 0, 0⟩ }, ftb := 10000000000 }
      (fun t => t.ord.session.isNone) := by
  unfold State.carries State.goesOn; decide +kernel

/-- No space: the records in force take all of it. -/
theorem witness_StandingOrders_full :
    let r : Nat → StandingRecord := fun n => ⟨n, 0, true, 0, List.replicate 4096 0⟩
    let s : State := { order 0x0070 readFrame with ledger := { standing := (List.range 64).map r, standingUsed := 262144 } }
    s.carries 0 0x0070 (job 0x0070 readFrame) ∧ 262144 < s.ledger.standingUsed + recordBytes 16 ∧
    262144 < s.ledger.standingHeld + recordBytes 16 ∧
    after (.standingWrite 0) s (ended Status.noSpace.word (fun t => t.ledger.standing.length == 64)) := by
  unfold State.carries State.goesOn; decide +kernel

/-- A long frame of 4,097 bytes, whose first part is its header and whose last part is the byte after 4,096. -/
def longHead : List Byte := [2, 1, 0, 0, 0, 0, 0xFC, 3, 1, 0, 0, 0, 0, 0, 0, 0]

/-- The arguments of STANDING_WRITE_PART. -/
def partArgs (offset number : Nat) (bytes : List Byte) : List Byte :=
  toLE 4 4097 ++ toLE 4 offset ++ toLE 2 number ++ List.replicate 6 0 ++ bytes

theorem witness_StandingOrders_parts :
    let first := order 0x00A6 (partArgs 0 0 longHead)
    let more : State := { order 0x00A6 (partArgs 16 1 [7]) with ord := { session := some ⟨1, 4097, longHead, 0, 0⟩ } }
    let last : State := { order 0x00A6 (partArgs 4096 1 [7]) with ord := { session := some ⟨1, 4097, List.replicate 4096 0, 0, 0⟩ } }
    first.carries 0 0x00A6 (job 0x00A6 (partArgs 0 0 longHead)) ∧ longHeaderOk longHead 4097 = true ∧
    first.mayStore 0 longHead = true ∧ first.ord.session = none ∧
    after (.standingWritePart 0) first (ended 0 (fun t => replied 2 t == [1, 0] && t.ord.session.isSome && t.ord.nextSession == 2)) ∧
    after (.standingWritePart 0) more (ended 0 (fun t => replied 2 t == [1, 0] &&
      t.ord.session == some ⟨1, 4097, longHead ++ [7], 0, 0⟩)) ∧
    last.ledger.standingUsed + recordBytes 4097 ≤ 262144 ∧
    after (.standingWritePart 0) last (ended 0 (fun t => replied 4 t == [1, 0, 0, 0] && t.ord.session.isNone)) := by
  unfold State.carries State.goesOn; decide +kernel

/-- The arguments of IMAGE_WRITE for bank 1. -/
def imageArgs (offset n : Nat) (op : Byte) (data : List Byte) : List Byte :=
  toLE 4 offset ++ toLE 2 n ++ [op, 1] ++ toLE 2 3 ++ List.replicate 6 0 ++ data

theorem witness_ImageRules_orders :
    let pr := order 0x0080 (imageArgs 0xFFFFFF 1 0 [7]) t0
    let er := order 0x0080 (imageArgs 0xFF0000 0 1 []) t0
    let ep := order 0x0080 (imageArgs 0 1 2 [7]) t0
    let st := order 0x0081 (toLE 8 0 ++ toLE 2 3 ++ List.replicate 6 0) (t0.put .ruleEnd 0 0 (bankBytes - 64))
    let ac : State := { order 0x0082 (List.replicate 8 0) t0 with boot := { t0.boot with stage := 3 } }
    let cf := order 0x0083 [1, 0, 0, 0, 0, 0, 0, 0] { t0 with boot := { t0.boot with act := 2, image := { svn := 4 } } }
    pr.carries 0 0x0080 (job 0x0080 (imageArgs 0xFFFFFF 1 0 [7])) ∧ pr.boot.bank = 0 ∧ pr.boot.stage = 0 ∧ pr.vectorOk 3 = true ∧
    pr.passes [actionOn clsDevice 0] ∧ 0xFFFFFF + 1 ≤ bankBytes ∧ st.t0Covers 0 (bankBytes - 1) = true ∧ st.ownsEvent 0 3 = true ∧ st.passes [actionOn clsDevice 0] ∧ ac.passes [actionOn clsDevice 0] ∧
    after (.imageWriteProgram 0) pr (ended 0 (fun t => t.boot.stage == 1 && t.boot.flashJob == some (.program 1 0xFFFFFF [7] false 3))) ∧
    after (.imageWriteErase 0) er (ended 0 (fun t => t.boot.flashJob == some (.erase 1 255 3))) ∧
    after (.imageWriteEraseProgram 0) ep (ended 0 (fun t => t.boot.flashJob == some (.program 1 0 [7] true 3))) ∧
    after (.imageWriteProgram 0) { pr with boot := { pr.boot with bank := 1 } } (ended Status.denied.word (fun _ => true)) ∧
    after (.imageStage 0) st (ended 0 (fun t => t.boot.stage == 2 && t.boot.stageBank == 1)) ∧
    after (.activate 0) ac (ended 0 (fun t => t.boot.act == 1 && t.boot.activation == .rehash)) ∧
    after (.confirm 0) cf (ended 0 (fun t => t.boot.act == 0 && t.ledger.svnFloor == 4)) := by
  unfold State.carries State.goesOn State.passes; decide +kernel

theorem witness_ImageRules_events :
    let b : Boot → State := fun x => { t0 with boot := x }
    let copy := b { activation := .copy, act := 1 }
    let quiet := b { activation := .quiesce, act := 1 }
    after (.imageFlashWorkDone true) (b { stage := 1, flashJob := some (.erase 1 255 3), flash := [(0x1FF0005, 7)] }) (fun t =>
      t.boot.stage == 0 && t.boot.flashJob.isNone) ∧
    after (.imageFlashWorkDone false) (b { stage := 1, flashJob := some (.erase 1 255 3) }) (fun t => t.boot.stage == 4 && t.boot.fail == 9) ∧
    after (.stagingDone false) (b { stage := 2, stageBank := 1 }) (fun t => t.boot.stage == 4 && t.boot.fail == 1) ∧
    after (.stagingDone true) (b { stage := 2, stageBank := 1 }) (fun t => t.boot.stage == 4 && t.boot.fail == 1) ∧
    (b { activation := .rehash }).lev.reloadAfterActivation = false ∧ (∀ c ∈ quiet.orderCores, (quiet.core c).job = none) ∧
    after .activationQuiescePoint quiet (fun t => t.boot.activation == .copy) ∧
    (let busy := order 0x62 [] quiet; 0 ∈ busy.orderCores ∧ (busy.core 0).job ≠ none ∧
      after .activationQuiescePoint busy (fun t => t.boot.activation == .quiesce)) ∧
    copy.boot.activation = .copy ∧
    after .activationResume (b { activation := .restart, act := 1, stageBank := 1 }) (fun t => t.boot.act == 2 && t.boot.bank == 1) ∧
    after .activationReloadDone (b { activation := .reload }) (fun t => t.boot.activation == .none && !t.ord.noStart) := by decide +kernel

theorem witness_LaneOrders :
    let none8 : List Byte := [63, 0, 0, 0, 0, 0, 0, 0]
    let all8 : List Byte := [63, 0xFF, 0, 0, 0, 0, 0, 0]
    let test : Byte → Byte → List Byte := fun op par => [63, 0x80, op, 7, 6, 2, par, 0, 9, 0, 0, 0, 0, 0, 0, 0]
    let eye : List Byte := [63, 7, 2, 40, 0, 0, 0, 0, 0, 0, 0, 0, 3, 0, 0, 0]
    let off := t0.put .portEnable 126 0 0
    let on := off.modLane 511 (fun l => { l with test := { active := true, lock := true } })
    let e := order 0x0093 eye on
    (order 0x0090 none8).carries 0 0x0090 (job 0x0090 none8) ∧ 63 < up.stationCount ∧
    after (.laneReport 0) (order 0x0090 none8) (ended 0 (fun _ => true)) ∧
    (∀ p ∈ up.maskedPorts 63 0xFF, up.portUp p = false) ∧
    after (.chanMeasure 0) (order 0x0091 none8) (ended 0 (fun _ => true)) ∧
    after (.chanMeasure 0) (order 0x0091 all8) (fun t => (t.core 0).mode == .external 900000 && (t.station 63).measuring == 0xFF) ∧
    after (.channelMeasurementDone 63 [.seen 1000 25]) (up.modStation 63 (fun x => { x with measuring := 1 })) (fun t => (t.lane 504).delay == 1000) ∧
    off.ratesMix 63 0x80 6 = false ∧ (∀ p ∈ off.maskedPorts 63 0x80, off.get .portEnable p = 0) ∧
    after (.laneTestStop 0) (order 0x0092 (test 0 0) on) (ended 0 (fun t => !(t.lane 511).test.active)) ∧
    after (.laneTestStart 0) (order 0x0092 (test 1 0) off) (ended 0 (fun t => (t.lane 511).test.active && (t.lane 511).test.user == 9)) ∧
    after (.laneTestRead 0) (order 0x0092 (test 2 0) off) (ended 0 (fun t => t.ord.mailbox.payloadLen == 16 + 128)) ∧
    after (.laneTestInject 0) (order 0x0092 (test 3 40) on) (ended 0 (fun t => (t.lane 511).test.inject == 2 && (t.lane 511).test.injectN == 40)) ∧
    e.carries 0 0x0093 (job 0x0093 eye) ∧ e.cdrLocked 511 = true ∧ e.t0Covers 0 2111 = true ∧ e.passes [actionOn clsStation 63] ∧
    after (.eyeScan 0) e (ended 0 (fun t => (t.lane 511).scan.map (·.dwell) == some 40)) := by
  unfold State.carries State.goesOn State.passes; decide +kernel

theorem witness_SecurityOrders :
    let ide : Byte → List Byte := fun op => [2, op, 5, 0, 3, 0, 0, 0]
    let s : Byte → State := fun op => order 0x009F (ide op) ((t0.put .portLink 2 0 4).modPort 2 (fun x => { x with streams := [(0, {})] }))
    (s 0).carries 0 0x009F (job 0x009F (ide 0)) ∧ (s 0).portOk 2 = true ∧ (s 0).portUp 2 = true ∧ ((s 0).port 2).role = .downstream ∧
    (s 0).get .portProto 2 ≠ 2 ∧ (s 0).ownsEvent 0 3 = true ∧ (s 0).passes [actionOn clsPort 2] ∧
    after (.ideStop 0) (s 0) (ended 0 (fun t => (t.port 2).streams == [])) ∧
    after (.ideEstablish 0) (s 1) (ended 0 (fun t => (t.port 2).ideJob == some (1, 5, 3))) ∧
    after (.ideRefresh 0) (s 2) (ended 0 (fun t => (t.port 2).ideJob == some (2, 0, 3))) ∧
    (order 0x00A0 []).carries 0 0x00A0 (job 0x00A0 []) ∧
    after (.tokenNonce 0) (order 0x00A0 []) (ended 0 (fun t => t.ledger.nonce.isSome)) ∧
    (order 0x00A1 []).carries 0 0x00A1 (job 0x00A1 []) ∧ (order 0x00A1 []).tokenFault [] = some 2 ∧
    after (.tokenWrite 0) (order 0x00A1 []) (ended Status.badArg.word (fun t => t.ledger.token.isNone)) := by
  unfold State.carries State.goesOn State.passes; decide +kernel

theorem witness_PowerOrders_slots :
    let pw : Byte → List Byte := fun op => [1, 0, 0, 0, 0, 0, 0, 0x80, op, 0, 0, 0, 0, 0, 0, 0]
    let s : Byte → State := fun op => order 0x0040 (pw op)
    let en : Nat → List Entry := fun v => [putEntry .slotEnable 0 0 v, putEntry .slotEnable 63 0 v]
    let lim : List Byte := [63, 1, 0x10, 0, 0, 0, 0, 0, 0, 0, 0, 0, 0, 0, 0, 0]
    let tim : List Byte := [63, 33, 1, 0, 0, 0, 0, 0, 0, 0, 0, 0, 3, 0, 0, 0]
    let map_ : List Byte := [63, 126, 0, 0, 0, 0, 0, 0]
    (s 0).carries 0 0x0040 (job 0x0040 (pw 0)) ∧ (List.range 64).filter (bitOf ((job 0x0040 (pw 0)).arg 0 8)) = [0, 63] ∧
    (s 0).passes (en 0) ∧ (s 1).passes (en 1) ∧ (s 2).passes (en 0) ∧ ((s 2).committed 0 (en 0) noAction).passes (en 1) ∧
    (order 0x0041 lim).carries 0 0x0041 (job 0x0041 lim) ∧ (order 0x0041 lim).passes [putEntry .slotIlim 63 0 16] ∧
    (order 0x009E tim t0).carries 0 0x009E (job 0x009E tim) ∧ (order 0x009E tim t0).vectorOk 3 = true ∧
    (order 0x0042 map_).carries 0 0x0042 (job 0x0042 map_) ∧ (order 0x0042 map_).portOk 126 = true ∧
    after (.slotPowerOff 0) (s 0) (ended 0 (fun t => t.get .slotEnable 63 == 0 && t.ord.mailbox.payloadLen == 24)) ∧
    after (.slotPowerOn 0) (s 1) (ended 0 (fun t => t.get .slotEnable 63 == 1 && t.get .slotEnable 0 == 1 && t.get .slotEnable 1 == 0)) ∧
    after (.slotLimits 0) (order 0x0041 lim) (ended 0 (fun t => t.get .slotIlim 63 == 16)) ∧
    after (.slotTiming 0) (order 0x009E tim t0) (ended 0 (fun t => t.get .slotPcTime 63 == 1 && t.get .slotEv 63 == 3)) ∧
    after (.slotMap 0) (order 0x0042 map_) (ended 0 (fun t => t.get .slotPort 63 == 126)) := by
  unfold State.carries State.goesOn State.passes; decide +kernel

/-- The second commit of SLOT_POWER OP 2: at once while the Turntable stands, else after the spacing of holds (R68). -/
theorem witness_PowerOrders_cycle :
    let pw : List Byte := [1, 0, 0, 0, 0, 0, 0, 0x80, 2, 0, 0, 0, 0, 0, 0, 0]
    let still := order 0x0040 pw { up with sw := {} }
    let turning := order 0x0040 pw
    let en : Nat → List Entry := fun v => [putEntry .slotEnable 0 0 v, putEntry .slotEnable 63 0 v]
    let first := still.committed 0 (en 0) noAction
    let later : State := { up with lev := { cores := [(0, { mode := .running, job := some (job 0x0040 pw), lib := { done := 1, waits := some [] } })] } }
    (first.core 0).lib = { done := 1 } ∧ first.turnOf 0 = true ∧ first.holdFree = true ∧ first.passes (en 1) ∧
    ((turning.committed 0 (en 0) noAction).core 0).lib = { done := 1 } ∧ (turning.committed 0 (en 0) noAction).holdFree = false ∧
    later.goesOn 0 0x0040 (job 0x0040 pw) { done := 1, waits := some [] } ∧ later.passes (en 1) ∧
    after (.slotPowerCycle 0) still (ended 0 (fun t => t.get .slotEnable 63 == 1)) ∧
    after (.slotPowerCycle 0) turning (fun t => t.get .slotEnable 63 == 0 && (t.core 0).lib.done == 1 && (t.core 0).job.isSome) ∧
    after (.slotPowerCycle 0) later (ended 0 (fun t => t.get .slotEnable 63 == 1)) := by
  unfold State.goesOn State.passes; decide +kernel

theorem witness_PowerOrders_domains :
    let dom : List Byte := [1, 0, 0, 0, 0, 0, 0, 0, 74, 0]
    let pst : List Byte := [0, 0x90, 0, 0, 0, 0, 0, 0, 0, 0, 90, 0, 0, 0, 0, 0, 0, 0, 0, 0, 0, 0, 0, 0, 5, 0, 0, 0, 0, 0, 0, 0, 0, 0, 0, 0, 0, 0, 0, 0]
    let sen : List Byte := [0, 0x10, 40, 3, 3, 0, 0, 0]
    let s := order 0x0050 dom
    let p := order 0x0051 pst
    let n := order 0x00A3 sen t0
    let fields := [(4, Fld.deviceTempHi, 90), (7, .deviceWakePortsLo, 5), (7, .deviceWakePortsHi, 0)]
    s.carries 0 0x0050 (job 0x0050 dom) ∧ 74 < 11 + s.stationCount ∧ Fld.domainReq.accepts 74 0 = true ∧
    s.passes [putEntry .domainReq 74 0 0] ∧
    p.carries 0 0x0051 (job 0x0051 pst) ∧ maskedOk 0x90 0 fields = true ∧ p.passes (maskedEntries 0x90 0 fields) ∧
    n.carries 0 0x00A3 (job 0x00A3 sen) ∧ Fld.thermAlarm.accepts 0 40 = true ∧ n.vectorOk 3 = true ∧
    n.passes [putEntry .thermAlarm 12 0 40, putEntry .thermEv 12 0 3, putEntry .thermPeak 12 0 0] ∧
    after (.domainSet 0) s (ended 0 (fun t => t.get .domainReq 74 == 0)) ∧
    after (.pstateSet 0) p (ended 0 (fun t => t.get .deviceTempHi 0 == 90 && t.get .deviceWakePortsLo 0 == 5)) ∧
    after (.sensorSet 0) n (ended 0 (fun t => t.get .thermAlarm 12 == 40 && t.get .thermEv 12 == 3 && t.get .thermPeak 12 == 0)) := by
  unfold State.carries State.goesOn State.passes; decide +kernel

theorem witness_PowerOrders_resets :
    let rst : Byte → Byte → List Byte := fun ty n => [ty, n, 0, 0, 0, 0, 0, 0]
    let s : Byte → Byte → State := fun ty n => order 0x00A4 (rst ty n)
    let err : List Byte := [0, 0, 0, 0, 63, 0, 0, 0]
    (s 1 0).carries 0 0x00A4 (job 0x00A4 (rst 1 0)) ∧ (s 1 0).passes [actionOn clsDevice 0] ∧ (s 2 63).passes [actionOn clsDevice 0] ∧ (s 3 0).passes [actionOn clsDevice 0] ∧
    (order 0x00A5 err).carries 0 0x00A5 (job 0x00A5 err) ∧
    after (.resetWarm 0) (s 1 0) (fun t => t.boot.phase == 0 && t.lev.cores == [] && t.otp == {}) ∧
    after (.resetStation 0) (s 2 63) (fun t => (t.core 0).mode == .idle && (t.station 63).resetting) ∧
    after (.resetLever 0) (s 3 0) (fun t => t.lev.reloading) ∧
    after (.errlogRead 0) (order 0x00A5 err) (ended 0 (fun t => replied 16 t == [1, 0, 0, 0, 1, 0, 0, 0, 0, 0, 0, 0, 0, 0, 0, 0])) := by
  unfold State.carries State.goesOn State.passes; decide +kernel

/-- SHAPER_SET with one item. -/
def shaperArgs (kind flags cls index : Byte) : List Byte :=
  [1, 0, 0, 0, 0, 0, 0, 0, kind, 1, flags, cls, index, 0, 0, 1] ++ toLE 4 100 ++ toLE 4 9000 ++ toLE 4 100 ++ toLE 4 0 ++ toLE 16 1

theorem witness_QosOrders_shapers :
    let s := order 0x0030 (shaperArgs 1 0 7 126)
    let a := order 0x0030 (shaperArgs 0 1 0 0)
    s.carries 0 0x0030 (job 0x0030 (shaperArgs 1 0 7 126)) ∧
    (∀ x ∈ shaperItems (job 0x0030 (shaperArgs 1 0 7 126)) 1, s.shaperItemOk x = true) ∧
    (∀ x ∈ shaperItems (job 0x0030 (shaperArgs 0 1 0 0)) 1, a.shaperItemOk x = true) ∧
    s.passes ((shaperItems (job 0x0030 (shaperArgs 1 0 7 126)) 1).flatMap ShaperItem.entries) ∧
    after (.shaperSet 0) s (ended 0 (fun t => t.get .cshaperBurst 126 7 == 9000)) ∧
    after (.shaperSet 0) a (ended 0 (fun t => t.get .tshaperBurst 0 == 9000 && (t.tenant 0).adapt)) := by
  unfold State.carries State.goesOn State.passes; decide +kernel

theorem witness_QosOrders_timetable :
    let arm : List Byte := [2, 0, 1, 0, 0, 0, 0, 0] ++ toLE 8 5000 ++ [0x81, 0, 0, 0] ++ toLE 4 1000
    let off : List Byte := [2, 0, 1, 0, 0, 0, 0, 0] ++ List.replicate 8 0xFF
    let s := order 0x0031 arm
    s.carries 0 0x0031 (job 0x0031 arm) ∧ Fld.ttentryDuration.accepts 2 1000 = true ∧ noTakeover ≠ 5000 ∧
    s.passes [putEntry .ttentryGates 2 256 0x81, putEntry .ttentryDuration 2 256 1000, putEntry .timetableLength 2 0 1,
      putEntry .timetableTakeover 2 0 5000, putEntry .timetableNextcycle 2 0 0, putEntry .timetableGuard 2 0 0] ∧
    (job 0x0031 off).arg 8 8 = noTakeover ∧ (order 0x0031 off).passes [putEntry .timetableTakeover 2 0 noTakeover] ∧
    after (.timetableArm 0) s (ended 0 (fun t => t.get .timetableTakeover 2 == 5000 && t.get .ttentryGates 2 256 == 0x81)) ∧
    after (.timetableArm 0) (order 0x0031 off) (ended 0 (fun t => t.get .timetableTakeover 2 == noTakeover)) := by
  unfold State.carries State.goesOn State.passes; decide +kernel

theorem witness_QosOrders_windows :
    let win : List Byte := [255, 1, 0, 0, 0, 0, 0, 0] ++ toLE 8 0x10000 ++ toLE 8 0x10FFF ++ toLE 8 0 ++ [4, 0, 0, 0, 10, 0, 0, 0]
    let que : List Byte := [126, 0, 0, 0, 0, 0, 0, 0]
    let tim : List Byte := [2, 4, 1, 0, 0, 0, 0, 0]
    let trunk := up.put .portProto 4 0 2
    let w := order 0x0032 win trunk
    let fields := [(Fld.windowOwner, 0), (.windowKind, 1), (.windowBase, 0x10000), (.windowLimit, 0x10FFF), (.windowRemote, 0),
      (.windowPort, 4), (.windowLanes, 0), (.windowElem, 0), (.windowPoll, 10)]
    w.carries 0 0x0032 (job 0x0032 win) ∧ w.get .portProto 4 = 2 ∧ (∀ e ∈ fields, e.1.accepts 255 e.2 = true) ∧
    w.passes (fields.map (fun e => putEntry e.1 255 0 e.2)) ∧
    (order 0x009B que).carries 0 0x009B (job 0x009B que) ∧ (order 0x009B que).passes [] ∧
    (order 0x009D tim trunk).carries 0 0x009D (job 0x009D tim) ∧
    (order 0x009D tim trunk).passes [putEntry .deviceFtbSrc 0 0 2, putEntry .deviceFtbPort 0 0 4, putEntry .deviceWsMark 0 0 1] ∧
    after (.windowSet 0) w (ended 0 (fun t => t.get .windowKind 255 == 1 && t.get .windowLimit 255 == 0x10FFF)) ∧
    after (.queueRead 0) (order 0x009B que) (ended 0 (fun t => t.ord.mailbox.payloadLen == 16 + 8 + 17 * 16)) ∧
    after (.timeSet 0) (order 0x009D tim trunk) (ended 0 (fun t => t.get .deviceFtbSrc 0 == 2 && t.get .deviceFtbPort 0 == 4)) := by
  unfold State.carries State.goesOn State.passes; decide +kernel

theorem witness_ReadOrders :
    let rd : List Byte := [1, 4, 0, 0, 2, 0, 0, 0]
    let info : Byte → Byte → Byte → List Byte := fun k a n => [k, 0, a, 0, n, 0, 0, 0]
    let s := order 0x0062 rd
    s.carries 0 0x0062 (job 0x0062 rd) ∧ s.objectInRange clsPort 2 0 = true ∧ (classIndexes clsPort).isSome = true ∧
    s.inScope 0 0 clsPort 2 = true ∧ s.readField clsPort 2 0 4 = some 192 ∧ s.errors.badObjects = [] ∧
    (order 0x0063 (info 2 127 128)).carries 0 0x0063 (job 0x0063 (info 2 127 128)) ∧
    (order 0x0063 (info 0 0 0)).carries 0 0x0063 (job 0x0063 (info 0 0 0)) ∧
    (order 0x0063 (info 1 127 128)).carries 0 0x0063 (job 0x0063 (info 1 127 128)) ∧
    after (.readFields 0) s (ended 0 (fun t => replied 8 t == [192, 0, 0, 0, 0, 0, 0, 0])) ∧
    after (.infoIdentify 0) (order 0x0063 (info 0 0 0)) (ended 0 (fun _ => true)) := by
  unfold State.carries State.goesOn; decide +kernel

theorem test_info :
    after (.infoPortState 0) (order 0x0063 [1, 0, 127, 0, 1, 0, 0, 0]) (ended 0 (fun _ => true)) ∧
    after (.infoVcs 0) (order 0x0063 [2, 0, 127, 0, 1, 0, 0, 0]) (ended 0 (fun _ => true)) := by decide +kernel

/-- A tenant 7 in a STATE, with a reset step. -/
def tenant (state : Nat) (x : TenantState := {}) : State :=
  { up with obj := [(objKey clsTenant 1 7 0, state)], tenants := [(7, x)] }

theorem witness_TenantOrders :
    let cr : List Byte := toLE 2 4095 ++ toLE 2 0x1FF ++ toLE 4 16 ++ toLE 4 0 ++ toLE 2 4 ++ toLE 2 4 ++ toLE 4 0 ++ toLE 12 0
    let rs : List Byte := [7, 0, 0, 0x20, 0, 0, 0, 0]
    let bk : List Byte := [7, 0, 1, 0, 0, 0, 0, 0]
    let fields := [(Fld.tshaperRate, 0), (.tshaperBurst, 65536), (.tenantShPerm, 0x1FF), (.tenantShRules, 16), (.tenantShQuota, 0),
      (.tenantShEvents, 4), (.tenantShCounters, 4), (.tenantShDirty, 0), (.tenantTimeout, 10000000), (.tenantState, 1)]
    let c := order 0x0020 cr
    let r := order 0x0021 rs (tenant 1)
    let b := order 0x0024 bk (tenant 1)
    c.carries 0 0x0020 (job 0x0020 cr) ∧ c.get .tenantState 4095 = 0 ∧ (∀ e ∈ fields, e.1.accepts 4095 e.2 = true) ∧
    c.passes (fields.map (fun e => putEntry e.1 4095 0 e.2)) ∧
    r.carries 0 0x0021 (job 0x0021 rs) ∧ r.get .tenantState 7 = 1 ∧ r.passes [putEntry .tenantState 7 0 2] ∧
    b.carries 0 0x0024 (job 0x0024 bk) ∧ b.passes [putEntry .tenantBank 7 0 1] ∧
    after (.tenantCreate 0) c (ended 0 (fun t => t.get .tenantState 4095 == 1 && t.get .tenantShPerm 4095 == 0x1FF &&
      t.get .tenantTimeout 4095 == 10000000)) ∧
    after (.tenantReset 0) r (ended 0 (fun t => t.get .tenantState 7 == 2)) ∧
    after (.tenantReset 0) (order 0x0021 rs (tenant 2)) (ended Status.busy.word (fun t => t.get .tenantState 7 == 2)) ∧
    after (.bankSwap 0) b (ended 0 (fun t => t.get .tenantBank 7 == 1)) := by
  unfold State.carries State.goesOn State.passes; decide +kernel

theorem witness_TenantOrders_events :
    let q := tenant 2 { reset := .requests, resetAt := 5 }
    let w := tenant 2 { reset := .wagons, pendingRecords := [1] }
    q.tenantBusy 7 = false ∧
    after (.tenantResetRequestsDone 7) q (fun t => (t.tenant 7).reset == .wagons) ∧
    after (.tenantResetTimeout 7) { q with ftb := 5 } (fun t => (t.tenant 7).reset == .wagons) ∧
    after (.tenantResetDone 7) w (fun t => (t.tenant 7).reset == .none && t.get .tenantState 7 == 1 && (t.tenant 7).pendingRecords == []) := by
  decide +kernel

/-- Nothing of tenant 7's is left: the state that destroys it. -/
def leaving : State := order 0x0022 [7, 0, 0, 0, 0, 0, 0, 0] (tenant 1)

theorem leaving_get (f : Fld) (i j : Nat) (h : leaving.resetValue f i j ≠ 7) : leaving.get f i j ≠ 7 := by
  have e : leaving.obj = [(objKey clsTenant 1 7 0, 1)] := rfl
  unfold State.get
  rw [e]
  simp only [Tab.get]
  split <;> simp_all

theorem witness_TenantOrders_destroy :
    (leaving.carries 0 0x0022 (job 0x0022 [7, 0, 0, 0, 0, 0, 0, 0]) ∧ leaving.get .tenantState 7 = 1 ∧ leaving.trackedOf 7 = 0 ∧
      leaving.poolOf 7 = [] ∧ leaving.passes [putEntry .gleanerEnable 7 0 0, putEntry .tenantState 7 0 0] ∧
      (leaving.committed 0 [putEntry .gleanerEnable 7 0 0, putEntry .tenantState 7 0 0] noAction).get .tenantState 7 = 0 ∧
      after (.tenantDestroy 0) leaving (ended 0 (fun t => t.get .tenantState 7 == 0 && replied 4 t == [0, 0, 0, 0]))) ∧
    (∀ p, leaving.get .portTenant p ≠ 7) ∧ (∀ d, leaving.get .pbrTenant d ≠ 7) ∧
    (∀ w, leaving.get .windowOwner w = 7 → leaving.get .windowKind w = 0) := by
  refine ⟨?_, fun p => leaving_get _ _ _ (show Fld.portTenant.info.reset ≠ 7 by decide),
    fun d => leaving_get _ _ _ (show Fld.pbrTenant.info.reset ≠ 7 by decide),
    fun w h => absurd h (leaving_get _ _ _ (show Fld.windowOwner.info.reset ≠ 7 by decide))⟩
  unfold State.carries State.goesOn State.passes
  decide +kernel

/-- RULE_STAGE of tenant 0 with one new rule. -/
def stageArgs : List Byte := [0, 0, 1, 1, 0, 0, 0, 0, 0, 3, 0, 0, 0, 0, 0, 0] ++ toLE 8 0 ++ toLE 8 0xFC0

theorem witness_RuleVectorCounterOrders_rules :
    let s := order 0x0023 stageArgs
    let items := ruleItems (job 0x0023 stageArgs) 1
    s.carries 0 0x0023 (job 0x0023 stageArgs) ∧ (∀ x ∈ items, s.ruleItemOk 0 1 x = true) ∧
    (s.reserveMany 0 clsRule 0 1 []).any (fun r => r.2 == [0] &&
      (violated r.1 (r.1.stored (stageRules 0 1 items r.2)) (stageRules 0 1 items r.2)).isNone &&
      (r.1.boundaryRefuses (stageRules 0 1 items r.2)).isNone) = true ∧
    after (.ruleStage 0) s (ended 0 (fun t => replied 4 t == [0, 0, 0, 0] && t.get .ruleValid 0 == 1 && t.get .ruleEnd 0 == 0xFC0)) := by
  unfold State.carries State.goesOn; decide +kernel

/-- GLEANER_SET of tenant 7. -/
def gleanArgs (op : Byte) (recs base tail : Nat) : List Byte :=
  [7, 0, op, 1] ++ toLE 4 recs ++ toLE 8 base ++ toLE 4 tail ++ toLE 2 3 ++ [0, 0]

theorem witness_RuleVectorCounterOrders_gleaner :
    let stopped := (t0.put .tenantState 7 0 1).put .tenantShDirty 7 0 64
    let running := stopped.put .gleanerEnable 7 0 1
    let st := order 0x0025 (gleanArgs 1 64 0 0) stopped
    let es := [putEntry .gleanerEnable 7 0 1, putEntry .gleanerGran 7 0 1, putEntry .gleanerRingBase 7 0 0, putEntry .gleanerRingRecs 7 0 64,
      putEntry .gleanerEvent 7 0 3]
    st.carries 0 0x0025 (job 0x0025 (gleanArgs 1 64 0 0)) ∧ st.get .gleanerEnable 7 = 0 ∧ 64 ≤ st.get .tenantShDirty 7 ∧
    st.t0Covers 0 (8 * 64 - 1) = true ∧ st.vectorOk 3 = true ∧ st.passes es ∧
    (order 0x0025 (gleanArgs 0 0 0 0) running).passes [putEntry .gleanerEnable 7 0 0] ∧
    (order 0x0025 (gleanArgs 3 0 0 0) running).passes [putEntry .gleanerTail 7 0 0] ∧
    (order 0x0025 (gleanArgs 2 0 0 0) running).passes [actionOn clsGleaner 7] ∧ running.gleanerFill 7 ≤ 0 ∧
    after (.gleanerStop 0) (order 0x0025 (gleanArgs 0 0 0 0) running) (ended 0 (fun t => t.get .gleanerEnable 7 == 0)) ∧
    after (.gleanerStart 0) st (ended 0 (fun t => t.get .gleanerEnable 7 == 1 && t.get .gleanerRingRecs 7 == 64)) ∧
    after (.gleanerNewPass 0) (order 0x0025 (gleanArgs 2 0 0 0) running) (ended 0 (fun t => t.get .gleanerPass 7 == 1)) ∧
    after (.gleanerSetTail 0) (order 0x0025 (gleanArgs 3 0 0 0) running) (ended 0 (fun t => t.get .gleanerTail 7 == 0)) := by
  unfold State.carries State.goesOn State.passes; decide +kernel

theorem witness_RuleVectorCounterOrders_events :
    let ck : List Byte := [1, 0, 0, 0, 0, 0, 0, 0x80]
    let c := order 0x009A ck (up.put .checkerCapValid 63 0 1)
    let pass := tenant 1 { passAt := some 5 }
    let rec_ := (tenant 1 { pendingRecords := [9], recordDue := 0 }).put .gleanerRingRecs 7 0 64
    c.carries 0 0x009A (job 0x009A ck) ∧
    c.passes [putEntry .checkerCapValid 0 0 0, putEntry .checkerOvf 0 0 0, putEntry .checkerCapValid 63 0 0, putEntry .checkerOvf 63 0 0] ∧
    after (.checkerClear 0) c (ended 0 (fun t => t.get .checkerCapValid 63 == 0 && t.ord.mailbox.payloadLen == 32)) ∧
    after (.gleanerPassFinal 7) pass (fun t => (t.tenant 7).passAt.isNone && t.get .gleanerAlldirty 7 == 0) ∧
    after (.gleanerPassTimeout 7) { pass with ftb := 5 } (fun t => (t.tenant 7).passAt.isNone && t.get .gleanerAlldirty 7 == 1) ∧
    after (.gleanerRecordWrite 7) rec_ (fun t => (t.tenant 7).pendingRecords == []) := by
  unfold State.carries State.goesOn State.passes; decide +kernel

/-- EVENT_SET on vector 3. -/
def vecArgs (op : Byte) : List Byte := [op, 1, 0, 0, 0, 0, 0, 0, 3, 0]

theorem witness_RuleVectorCounterOrders_vectors :
    let s : Byte → State := fun op => order 0x0060 (vecArgs op) (t0.put .eventPending 3 0 1)
    (s 1).carries 0 0x0060 (job 0x0060 (vecArgs 1)) ∧ (s 1).allocated clsEvent 3 = true ∧ (s 1).passes [putEntry .eventEnable 3 0 1] ∧
    (s 2).passes [putEntry .eventEnable 3 0 0] ∧ (s 3).passes [putEntry .eventPending 3 0 0] ∧ (s 4).passes [.delete clsEvent 3] ∧
    ((s 0).reserveMany 0 clsEvent 0 1 []).any (fun r => r.2 == [0] &&
      (violated r.1 (r.1.stored [.create clsEvent 0 0]) [.create clsEvent 0 0]).isNone &&
      (r.1.boundaryRefuses [.create clsEvent 0 0]).isNone) = true ∧
    after (.eventAllocate 0) (s 0) (ended 0 (fun t => replied 2 t == [0, 0] && t.allocated clsEvent 0)) ∧
    after (.eventEnable 0) (s 1) (ended 0 (fun t => t.get .eventEnable 3 == 1)) ∧
    after (.eventDisable 0) (s 2) (ended 0 (fun t => t.get .eventEnable 3 == 0)) ∧
    after (.eventClearPending 0) (s 3) (ended 0 (fun t => t.get .eventPending 3 == 0)) ∧
    after (.eventFree 0) (s 4) (ended 0 (fun t => !t.allocated clsEvent 3)) := by
  unfold State.carries State.goesOn State.passes; decide +kernel

/-- COUNTER_SET on counter 16383, or UNIT_COUNTER_SET on unit 87. -/
def ctrArgs (op : Byte) (index sel : Nat) (b2 b3 : Byte) (event : Nat := 12) : List Byte :=
  [op, 1, 0, 0, 0, 0, 0, 0] ++ toLE 2 index ++ [b2, b3] ++ toLE 2 sel ++ List.replicate (event - 6) 0 ++ toLE 2 0x2000 ++
    List.replicate (38 - event) 0

theorem witness_RuleVectorCounterOrders_counters :
    let mine : State := { up with alloc := [poolKey clsCounter 16383] }
    let s : Byte → State := fun op => order 0x0061 (ctrArgs op (if op = 0 then 0 else 16383) 0 0 0) mine
    (s 2).carries 0 0x0061 (job 0x0061 (ctrArgs 2 16383 0 0 0)) ∧ (s 2).allocated clsCounter 16383 = true ∧
    (s 2).passes [putEntry .counterZero 16383 0 1] ∧ (s 3).passes [putEntry .counterRun 16383 0 1] ∧
    (s 4).passes [putEntry .counterRun 16383 0 0] ∧ (s 5).passes [.delete clsCounter 16383] ∧
    (counterProgram (job 0x0061 (ctrArgs 1 16383 0 0 0)) 8).isSome = true ∧
    after (.counterAllocate 0) (s 0) (ended 0 (fun t => replied 2 t == [0, 0] && t.allocated clsCounter 0)) ∧
    after (.counterProgram 0) (s 1) (ended 0 (fun t => t.get .counterSelect 16383 == 0)) ∧
    after (.counterClear 0) (s 2) (ended 0 (fun t => t.get .counterValue 16383 == 0)) ∧
    after (.counterRun 0) (s 3) (ended 0 (fun t => t.get .counterRun 16383 == 1)) ∧
    after (.counterStop 0) (s 4) (ended 0 (fun t => t.get .counterRun 16383 == 0)) ∧
    after (.counterFree 0) (s 5) (ended 0 (fun t => !t.allocated clsCounter 16383)) := by
  unfold State.carries State.goesOn State.passes; decide +kernel

theorem witness_RuleVectorCounterOrders_units :
    let s : Byte → Byte → State := fun op k => order 0x00A2 (ctrArgs op 87 0 k 0 32)
    (s 1 7).carries 0 0x00A2 (job 0x00A2 (ctrArgs 1 87 0 7 0 32)) ∧ (s 1 7).resourceOk clsUnitset 87 = true ∧
    (unitProgram (job 0x00A2 (ctrArgs 1 87 0 7 0 32)) 8).isSome = true ∧ (s 2 7).passes [putEntry .unitctrZero 87 7 1] ∧
    (s 3 0xFF).passes [putEntry .unitsetRun 87 0 1] ∧ (s 4 0xFF).passes [putEntry .unitsetRun 87 0 0] ∧
    (s 6 0xFF).passes [putEntry .unitsetZero 87 0 1] ∧
    after (.unitCounterProgram 0) (s 1 7) (ended 0 (fun _ => true)) ∧ after (.unitCounterClear 0) (s 2 7) (ended 0 (fun _ => true)) ∧
    after (.unitSetRun 0) (s 3 0xFF) (ended 0 (fun t => t.get .unitsetRun 87 == 1)) ∧
    after (.unitSetStop 0) (s 4 0xFF) (ended 0 (fun t => t.get .unitsetRun 87 == 0)) ∧
    after (.unitSetZero 0) (s 6 0xFF) (ended 0 (fun _ => true)) := by
  unfold State.carries State.goesOn State.passes; decide +kernel

/-- No agent but those listed is configured. -/
theorem pool_agentKind (x : Nat) : up.get .agentKind x = 0 := rfl

theorem witness_PoolOrders :
    (let ag : List Byte := [0xFF, 1, 1, 2, 0, 0, 3, 0]
      let co : List Byte := [0x64, 0, 0, 0, 1, 0, 0, 0, 2, 0, 9, 0]
      let fl : Byte → List Byte := fun m => [0, 0, m, 0, 3, 0, 0, 0]
      let dl : List Byte := [0, 0, 0, 0, 127, 0, 0, 0]
      (order 0x0095 ag).carries 0 0x0095 (job 0x0095 ag) ∧ (order 0x0095 ag).portOk 2 = true ∧
      (order 0x0095 ag).passes [putEntry .agentKind 511 0 1, putEntry .agentPort 511 0 2, putEntry .agentBiid 511 0 0,
        putEntry .agentPrefetch 511 0 3] ∧
      (order 0x0097 co).carries 0 0x0097 (job 0x0097 co) ∧ Fld.deviceDeadT.accepts 0 100 = true ∧
      (order 0x0097 co).objectInRange clsNear 2 0 = true ∧
      (order 0x0097 co).passes [putEntry .deviceDeadT 0 0 100, putEntry .nearLat 2 0 9] ∧
      (order 0x0098 (fl 0) t0).carries 0 0x0098 (job 0x0098 (fl 0)) ∧ (order 0x0098 (fl 1) t0).ownsEvent 0 3 = true ∧
      (order 0x0098 (fl 1) t0).passes [actionOn clsTenant 0] ∧ (order 0x0096 dl).carries 0 0x0096 (job 0x0096 dl) ∧
      after (.agentSet 0) (order 0x0095 ag) (ended 0 (fun t => t.get .agentKind 511 == 1 && t.get .agentPrefetch 511 == 3)) ∧
      after (.coherenceSet 0) (order 0x0097 co) (ended 0 (fun t => t.get .deviceDeadT 0 == 100 && t.get .nearLat 2 == 9)) ∧
      after (.coherentFlush 0) (order 0x0098 (fl 0) t0) (ended 0 (fun t => t.coh.flushes == [(0, (0, 3))])) ∧
      after (.coherentFlush 0) (order 0x0098 (fl 1) t0) (ended 0 (fun t => t.coh.flushes == [(0, (1, 3))])) ∧
      after (.deadlogRead 0) (order 0x0096 dl) (ended 0 (fun t => t.ord.mailbox.payloadLen == 32))) ∧
    ∀ x, x ≠ 511 → up.get .agentKind x ≠ 0 → up.get .agentPort x = 2 → up.get .agentBiid x ≠ 0 := by
  refine ⟨?_, fun x _ h => absurd (pool_agentKind x) h⟩
  unfold State.carries State.goesOn State.passes
  decide +kernel

/-! ### Boot, resets and errors -/

/-- The device in its boot. -/
def boot (b : Boot) (s : State := State.reset) : State := { s with power := { s.power with step := .run }, boot := b }

theorem witness_BootPhases_cold :
    let p0 := boot { step := .ready }
    let half : Nat → State := fun lc => boot { step := .ready } { State.reset with otp := { partH := true, lifecycle := lc }, straps := { State.reset.straps with mp := 4 } }
    p0.phaseReady 0 = true ∧ p0.strapAbsent = false ∧ (half 1).strapAbsent = true ∧
    after (.coldReset { State.reset.straps with mp := 3 } true false) up (fun t => t.straps.mp == 3 && t.ftb == 0 && t.boot.phase == 0 &&
      t.power.step == .wake 4 0 && t.ledger.epoch == 2) ∧
    after (.bootPhase0 true false []) (half 5) (fun t => t.boot.phase == 0xF && t.boot.error == 0x12) ∧
    after (.bootPhase0 false false []) (half 5) (fun t => t.boot.phase == 0xF && t.boot.error == 0x11) ∧
    after (.bootPhase0 false false []) (half 1) (fun t => t.boot.phase == 0xF && t.boot.error == 0x13) ∧
    after (.bootPhase0 false false [7]) p0 (fun t => t.boot.phase == 1 && t.boot.step == .ready && !t.sec.udsOpen && t.otp.uds == [7]) := by
  decide +kernel

theorem witness_BootPhases_images :
    let p1 := boot { phase := 1, step := .ready }
    let load := boot { phase := 1, step := .working, fallback := true, loadBank := 1 }
    let p2 := boot { phase := 2, step := .ready }
    let r : StandingRecord := ⟨4, 0, true, crc32 readFrame, readFrame⟩
    let p3 : State := { boot { phase := 3, step := .ready, image := { abi := 1, library := [(0x62, 15, 0)] } } with ledger := { standing := [r] } }
    let replay : State := { p3 with boot := { p3.boot with step := .working } }
    let done : State := { replay with boot := { replay.boot with replayNext := 5 } }
    p1.phaseReady 1 = true ∧ p1.verifyBank p1.firstBank = some 0x01 ∧ p2.phaseReady 2 = true ∧ p3.phaseReady 3 = true ∧
    replay.nextRecord = some r ∧ done.nextRecord = none ∧ replay.replaying = false ∧
    after (.bootPhase1 false) p1 (fun t => t.boot.phase == 0xF && t.boot.error == 0x10) ∧
    after (.bootPhase1 true) p1 (fun t => t.boot.phase == 0xF) ∧
    after (.imageLoadDone false) load (fun t => t.boot.phase == 2 && t.boot.step == .ready && t.boot.bank == 1) ∧
    after (.imageLoadDone true) load (fun t => t.boot.phase == 0xF && t.boot.error == 6) ∧
    after .bootPhase2 p2 (fun t => t.boot.phase == 3 && t.sw.running && (t.station 63).measuring == 0xFF && t.get .portEnable 0 == 1 &&
      t.get .vcsEnable 0 == 1 && t.get .vcsUsp 0 == 0) ∧
    after .bootPhase3 p3 (fun t => t.boot.step == .working && t.boot.replayNext == 0 && t.ledger.skipped == 0) ∧
    after .standingOrderReplay replay (fun t => t.boot.replayNext == 5 && t.ord.queue.length == 1) ∧
    after .bootPhase4 done (fun t => t.boot.phase == 4 && t.boot.step == .done) := by decide +kernel

theorem witness_ResetsAndErrors :
    let fatal : State := { up with power := { step := .run, fatalAt := some 5 }, ftb := 5 }
    let halt := fatal.put .deviceFatalAct 0 0 1
    let warm := fatal.put .deviceFatalAct 0 0 0
    let w : ErrorWindow := ⟨0x0202, 3, 0, 2, 0, 0, 0xFF, 1, []⟩
    let lost : State := { up with errors := { corrected := [w] } }
    let open_ : State := { up with errors := { windows := [w] }, ftb := 10000000 }
    let again : State := { up with lev := { reloading := true }, boot := { up.boot with image := { leverBytes := up.boot.sectionBytes 0 [3, 4, 5, 6] } } }
    up.deepReset = false ∧ halt.get .deviceFatalAct 0 = 1 ∧ warm.get .deviceFatalAct 0 ≠ 1 ∧ up.stationGroup 63 = [63] ∧
    again.lev.reloading = true ∧ again.boot.sectionBytes again.boot.bank [3, 4, 5, 6] = again.boot.image.leverBytes ∧
    after (.stationRejoin 63) (up.modStation 63 (fun x => { x with resetting := true })) (fun t => !(t.station 63).resetting) ∧
    after (.fatalError .sidingStuck 7) up (fun t => t.power.fatalAt == some 1000000 && !t.power.fatalIsMc) ∧
    after (.fatalError .mcMemory 7) up (fun t => t.power.fatalIsMc) ∧
    after .fatalAction halt (fun t => !t.sw.running && t.power.haltAfterFatal && t.power.fatalAt.isNone) ∧
    after .fatalAction warm (fun t => t.boot.phase == 0 && t.power.fatalAt.isNone && t.coh.dir == []) ∧
    after (.mcWatchdog 9) up (fun t => t.boot.phase == 0 && !t.boot.cold && t.lev.cores == []) ∧
    after .correctedSummary lost (fun t => t.errors.corrected == []) ∧
    after (.containedWindowEnd 0x0202 3) open_ (fun t => t.ledger.errorSeq == 1 && t.errors.windows == []) ∧
    after .jtagTestInstruction up (fun t => t.boot.tapHold) ∧
    after .tapReset { up with boot := { up.boot with tapHold := true } } (fun t => !t.boot.tapHold) := by decide +kernel

theorem witness_ManagementAndDebug :
    let host := (((up.put .portLink 0 0 4).put .vcsEnable 0 0 1).put .vcsUsp 0 0 0)
    let trunk := (up.put .portProto 2 0 2).modPort 2 (fun x => { x with trunk := { stage := .active } })
    let i3c : State := { up with straps := { up.straps with i3c := true } }
    let open_ : State := { up with sec := { lifecycle := 0 }, pool := [(5, 7)] }
    host.mgmtPort = some 0 ∧ host.portUp 0 = true ∧ up.mcRuns = true ∧ trunk.trunkAt 2 .active = true ∧ host.uspReachable 0 = true ∧
    (5 : Byte).toNat ∈ mctpTypes .bus ∧ open_.debugOpen .tenantPool true = true ∧ open_.debugByte .tenantPool 5 = some 7 ∧
    up.debugOpen .tenantPool false = false ∧
    after .smbusTimeout up (fun t => left t .busTargetReset) ∧
    after (.dynamicAddressAssignment true 0x55) i3c (fun t => t.sec.dynamicAddress == some 0x55) ∧
    after (.setEndpointId .bus 9) up (fun t => t.eid .bus == 9 && left t (.mctp .bus 1 [0, 0, 9, 0])) ∧
    after (.setEndpointId .vdm 9) host (fun t => t.eid .vdm == 9) ∧
    after (.getEndpointId .bus) up (fun t => left t (.mctp .bus 2 [0, 0, 0, 0])) ∧
    after (.getMctpVersionSupport .bus 5) up (fun t => t.outbox.length == 1) ∧
    after (.getMessageTypeSupport .bus) up (fun t => t.outbox.length == 1) ∧
    after (.getVendorMessageSupport (.trunk 2)) trunk (fun t => t.outbox.length == 1) ∧
    after (.doeDiscovery 0 2) host (fun t => left t (.doe 0 [1, 0, 2, 0])) ∧
    after (.debugAccess .tenantPool 5 none) open_ (fun t => left t (.debugReply 7 false)) ∧
    after (.debugAccess .tenantPool 5 (some 9)) open_ (fun t => memByte t.pool 5 == 9) ∧
    up.debugByte .tenantPool 5 = some 0 ∧ open_.debugByte (.tenantLeverMemory 3) 0x40000 = none ∧
    open_.debugOpen (.tenantLeverMemory 3) true = true ∧ after (.debugAccess (.tenantLeverMemory 3) 0x40000 none) open_ (fun t => t.outbox.length == 1) ∧
    after (.debugAccess (.tenantLeverMemory 3) 0x3FFFF (some 9)) open_ (fun t => t.leverRead 3 0x3FFFF 1 == 9) ∧
    after (.debugAccess .tenantPool 5 none) { up with pool := [(5, 7)] } (fun t => left t (.debugReply 0 true) &&
      t.ledger.security == [.debugAccess 5 0 false]) := by decide +kernel

theorem witness_SpdmRequests :
    let s : State := { up with ledger := { cert1 := [1, 2] }, sec := { sessions := [(3, { place := .vdm, trunk := false, keys := 0 })], nextSession := 4 } }
    let v := s.put .portLink 0 0 4
    let retired : State := { v with sec := { lifecycle := 3 } }
    let paused : State := { v with boot := { v.boot with activation := .copy } }
    v.mcRuns = true ∧ v.mcPaused = false ∧ v.mgmtPort = some 0 ∧ v.portUp 0 = true ∧ v.chain 1 = [1, 2] ∧ v.chain 7 = [] ∧
    v.sessionFree .vdm = true ∧ paused.mcPaused = true ∧
    after (.getMeasurements .vdm []) paused (fun t => left t (.spdm .vdm 0x7F [0x42, 0, 13])) ∧
    after (.getMeasurements .vdm []) v (fun t => t.sw.bypass.any (fun e => e.2.length == 1) || t.outbox.length == 1) ∧
    after (.getCertificate .vdm 0) retired (fun t => left t (.spdm .vdm 0x7F [7, 0])) ∧
    after (.getCertificate .vdm 1) v (fun t => left t (.spdm .vdm 2 [1, 2])) ∧
    after (.getCertificate .vdm 7) v (fun t => left t (.spdm .vdm 0x7F [1, 0])) ∧
    after (.challenge .vdm 1 []) v (fun t => t.sw.bypass.any (fun e => e.2.length == 1) || t.outbox.length == 1) ∧
    after (.keyExchange .vdm) v (fun t => t.sec.nextSession == 5 && (Tab.find t.sec.sessions 4).isSome) ∧
    after (.keyUpdate .vdm 3) v (fun t => (Tab.find t.sec.sessions 3).map (·.keys) == some 1 && left t (.spdm .vdm 0x69 [])) ∧
    after (.heartbeat .vdm 3) v (fun t => left t (.spdm .vdm 0x68 [])) ∧
    after (.setCertificate .vdm 1 [9]) v (fun t => t.ledger.cert1 == [9] && left t (.spdm .vdm 0x6E [])) := by decide +kernel

/-! ### Links -/

/-- Port 4 enabled, in a link state. -/
def linked (link : Nat) (x : PortState := {}) : State := { ((up.put .portEnable 4 0 1).put .portLink 4 0 link) with ports := [(4, x)] }

theorem witness_LinkChanges :
    let x : LinkInfo := { aLink with pcaps := 0x10 }
    let busy := linked 4 { info := some x, ideJob := some (1, 2, 3), streams := [(0, { secure := true })] }
    let trunk := (linked 4).put .portProto 4 0 2
    let d : State := (((((linked 4).put .vcsUsp 1 0 2).put .vcsEnable 1 0 1).put .vppbKind 1 3 1).put .vppbPort 1 3 4).modVppb 1 3 (fun x => { x with dpcEnabled := true })
    let low : Nat → State := fun l => linked l { info := some x }
    let at_ : Nat → State → Bool := fun l t => t.get .portLink 4 == l
    (linked 1).portOk 4 = true ∧ (linked 1).mayTrain 4 = true ∧ (linked 1).restLink 4 = 1 ∧ (linked 1).linkOk 4 x = true ∧
    (linked 1).lit 4 = true ∧ (low 6).clkreqLow 4 = false ∧ (low 4).portUp 4 = true ∧
    d.get .vppbPort 1 3 = 4 ∧ (d.vppb 1 3).dpcEnabled = true ∧
    after (.linkUp 4 x) (linked 1) (fun t => at_ 4 t && (t.port 4).info == some ((linked 1).settled 4 x) && (t.port 4).partnerFound) ∧
    after (.linkUp 4 x) (linked 2) (at_ 4) ∧
    after (.linkUp 4 { x with state := .recovery }) (low 4) (at_ 3) ∧ after (.linkUp 4 { x with state := .l1 }) (low 4) (at_ 6) ∧
    after (.linkUp 4 { x with state := .l1_1 }) (low 6) (at_ 7) ∧ after (.linkUp 4 x) (low 8) (at_ 4) ∧
    after (.linkDown 4 .disabled) busy (fun t => at_ 11 t && (t.port 4).info.isNone && (t.port 4).ideJob.isNone &&
      (t.port 4).streams.all (fun e => !e.2.secure)) ∧
    after (.linkDown 4 .hotReset) busy (fun t => at_ 10 t && (t.port 4).hotResetUntil == 1) ∧
    after (.linkDown 4 .security) busy (at_ 15) ∧ after (.linkDown 4 .protocolError) trunk (at_ 14) ∧
    after (.linkDown 4 .lost) busy (fun t => !t.portUp 4) ∧
    after (.linkDown 4 .replayError) busy (fun t => at_ 12 t && (t.port 4).contained.replay == some 100000000) ∧
    after (.linkDown 4 (.dpc 1 3)) d (fun t => at_ 12 t && (t.vppb 1 3).dpcStatus && (t.port 4).contained.dpc == [vppbKey 1 3]) ∧
    after (.hotResetEnd 4) { linked 10 { hotResetUntil := 5 } with ftb := 5 } (fun t => at_ 1 t && (t.port 4).hotResetUntil == 0) ∧
    (linked 0 { flushing := true }).portHeld 4 = false ∧
    after (.portFlushDone 4) (linked 0 { flushing := true }) (fun t => !(t.port 4).flushing) ∧
    after (.replayContainmentTimeout 4) { linked 12 { contained := { replay := some 5 } } with ftb := 5 } (fun t => at_ 1 t) := by
  decide +kernel

theorem witness_FlitsAndVppbs :
    let usp := ((linked 4).put .vcsUsp 1 0 4).put .vcsEnable 1 0 1
    let host := usp.modPort 4 (fun x => { x with role := .upstream, streams := [(7, { keys := 1 })] })
    let v : Nat → State := fun hp => (((up.put .vppbKind 1 3 1).put .vppbPort 1 3 4).put .vppbHp 1 3 hp)
    let job_ := linked 4 { ideJob := some (1, 9, 0x2000) }
    let mem_ : PortState := { ideJob := some (1, 9, 0x2000), info := some { aLink with cxl := true } }
    let retired : State := { job_ with sec := { job_.sec with lifecycle := 3 } }
    usp.uspOf 4 = some 1 ∧ (linked 4).mgmtPort ≠ some 4 ∧ (linked 4).vppbBelow 4 1 = none ∧ host.uspPort 1 = some 4 ∧
    (job_.port 4).slotFor .link 9 = some 0 ∧ (job_.port 4).cachemem = false ∧ mem_.cachemem = true ∧
    (mem_.streamEnds .link 9 true).slotFor .cachememContainment 9 = some 1 ∧ job_.ideOffered = true ∧
    after (.flitReceive 4 .good) (linked 4) (fun t => t == linked 4) ∧
    after (.flitReceive 4 .bad) usp (fun t => (t.vcs 1).uspCorrectable == 1) ∧
    after (.flitReceive 4 (.replayed 2)) usp (fun t => (t.vcs 1).uspCorrectable == 4096) ∧
    after (.flitReceive 4 (.devLoad 3)) (linked 4) (fun t => t.get .portDevload 4 == 3) ∧
    after (.flitReceive 4 (.mctpVdm [])) (linked 4) (fun t => t.sec.discarded == 1) ∧
    after (.flitReceive 4 (.lateCompletion 5)) (linked 4) (fun t => t.sw.lostFrames == 1) ∧
    after (.flitReceive 4 (.ldResponse 1)) (linked 4) (fun t => t.sw.lostFrames == 1) ∧
    after (.powerControllerOff 1 3) (v 3) (fun t => t.get .vppbHp 1 3 == 2 && (t.vppb 1 3).powerOff) ∧
    after (.powerControllerOff 1 3) (v 4) (fun t => t.get .vppbHp 1 3 == 0 && t.get .vppbKind 1 3 == 0) ∧
    after (.powerControllerOn 1 3) (v 2) (fun t => t.get .vppbHp 1 3 == 3 && (t.vppb 1 3).linkActive) ∧
    after (.dpcTriggerClear 1 3) (v 3) (fun t => !(t.vppb 1 3).dpcStatus) ∧
    after (.ideKmDone 4 true) job_ (fun t => (t.port 4).streams == [(0, { id := 9, secure := true })]) ∧
    after (.ideKmDone 4 true) retired (fun t => (Tab.get {} (t.port 4).streams 0).secure == false) ∧
    after (.ideKmDone 4 true) (linked 4 mem_) (fun t => (t.port 4).streams == [(0, { id := 9, secure := true }), (1, { id := 9, kind := .cachememContainment, secure := true })]) ∧
    after (.invocationCounterLimit 4 0) (linked 4 { role := .downstream, streams := [(0, { id := 9, secure := true })] }) (fun t =>
      (t.port 4).ideJob == some (2, 9, 0x2000)) ∧
    after (.ideKmRequest 1 7 .query) host (fun t => left t (.ideMessage 4 0)) ∧
    after (.ideKmRequest 1 7 (.keyProg .selective)) host (fun t => (t.port 4).streams == [(7, { id := 7, kind := .selective, keys := 2 })]) ∧
    after (.ideKmRequest 1 7 .keySetGo) host (fun t => (t.port 4).streams == [(7, { keys := 1, secure := true })]) ∧
    after (.ideKmRequest 1 7 .keySetStop) host (fun t => (t.port 4).streams == [(7, {})]) := by decide +kernel

theorem witness_LaneEvents :
    let re : State := { up with stations := [(2, { remapFrom := some 1 })], ports := [(4, { partnerFound := true }), (5, { partnerFound := true })] }
    let scan : EyeScan := { eye := 0, dwell := 20, addr := 0, event := 0x2000, start := 0, suspends := 0, rate := 4 }
    let s := (linked 4 { info := some aLink }).modLane 23 (fun l => { l with logical := 7, scan := some scan })
    let lost := s.modLane 23 (fun l => { l with scan := some { scan with lost := some 6 } })
    Tab.wf re.ports = true ∧ (re.station 2).remapFrom = some 1 ∧ s.canMargin 23 = true ∧
    after (.laneRemap 2) re (fun t => (t.station 2).remapFrom.isNone && (t.port 4).partnerFound && !(t.port 5).partnerFound) ∧
    after (.laneMargining 2 7) s (fun t => (t.lane 23).margining && (t.lane 23).scan.map (·.suspends) == some 1) ∧
    after (.marginingEnd 2 7) s (fun t => !(t.lane 23).margining) ∧ Memory.wf s.pool = true ∧
    after (.eyeScanEnd 2 7 false []) s (fun t => (t.lane 23).scan.isNone) ∧
    after (.eyeScanEnd 2 7 true []) lost (fun t => (t.lane 23).scan.isNone) ∧
    (scan.result 2 7 4 6 true []).take 24 = [2, 7, 0, 4, 20, 1, 0, 0, 0, 0, 0, 0, 0, 0, 0, 0, 6, 0, 0, 0, 0, 0, 0, 0] ∧
    (up.station 2).sidingState = .awake ∧
    after (.prbsCheckerLock 2 7 true) (up.modLane 23 (fun l => { l with test := { active := true } })) (fun t => (t.lane 23).test.lock) := by
  decide +kernel

/-! ### Trunk links -/

/-- Port 4 as a Trunk port, in a link state and a stage. -/
def trunk4 (link : Nat) (x : Trunk) (c : TrunkCtl := {}) : State := (linked link { trunk := x, ctl := c }).put .portProto 4 0 2

/-- The Hello of another device, with the CRC of its symbols. -/
def aHello : Hello :=
  let h : Hello := { lane := 0, width := 8, fdi := 1, peerFdi := 0, trunk := 3, trunkMin := 1, rate := 5, flags := 0, portnum := 2, crc := 0 }
  { h with crc := BitVec.ofNat 32 (crc32 h.symbols) }

/-- A Hello with the FDI and the port number of port 4 itself. -/
def ownHello : Hello :=
  let h : Hello := { aHello with fdi := 0, portnum := 4 }
  { h with crc := BitVec.ofNat 32 (crc32 h.symbols) }

/-- A Hello has left on every one of the eight lanes of port 4. -/
def helloLeft (t : State) : Bool := t.outbox.any (fun m => match m with
  | .helloSent 4 l => l.length == 8 && l.all (fun b => b.length == 32 && b.take 2 == [0xBC, 0xB7])
  | _ => false)

/-- A marker of COUNT 7 on lane 7 of a link of width 8. -/
def marker7 : List Byte := markerBytes 7 8 7

theorem witness_TrunkTraining_hello :
    let d := trunk4 1 {}
    let h := trunk4 2 { stage := .hello, hello := { last := some aHello, good := 3, sent := 5 } }
    let full := trunk4 2 { stage := .hello, hello := { last := some aHello, good := 7, sent := 15 } }
    d.trunkAt 4 .detect = true ∧ d.restLink 4 = 1 ∧ (d.portLanes 4).2 = 8 ∧ h.trunkAt 4 .hello = true ∧ h.get .portLink 4 = 2 ∧
    aHello.same aHello = true ∧ aHello.crcGood = true ∧ ownHello.crcGood = true ∧ ({ aHello with crc := 0 } : Hello).crcGood = false ∧
    ownHello.fdi.toNat = h.otp.fdi ∧ aHello.fdi.toNat ≠ h.otp.fdi ∧ aHello.peerFdi.toNat = h.otp.fdi ∧
    full.offeredRate 4 ≠ 0xFF ∧ commonLevel full.boot.image.trunk full.boot.image.trunkMin 3 1 = some 3 ∧
    after (.detectRetry 4 true) d (fun t => t.get .portLink 4 == 2 && t.trunkAt 4 .hello && (t.port 4).partnerFound && helloLeft t) ∧
    after (.hello 4 { aHello with crc := 0 } 8 false) h (fun t => t == h) ∧
    after (.hello 4 ownHello 8 false) h (fun t => t.get .portLink 4 == 14) ∧
    after (.hello 4 aHello 8 false) h (fun t => (t.port 4).trunk.hello.good == 4 && helloLeft t) ∧
    after (.hello 4 aHello 8 false) full (fun t => t.trunkAt 4 .equalise && (t.port 4).trunk.level == 3 && (t.port 4).trunk.rate == 4 &&
      (t.port 4).trunk.hello.rate == min (full.offeredRate 4) 5 && (t.port 4).trunk.initiator) ∧
    after (.trunkStageTimeout 4) { h with ftb := 24000000 } (fun t => !t.portUp 4 && (t.port 4).trunk.failures == 1) := by decide +kernel

theorem witness_TrunkTraining_active :
    let e := trunk4 2 { stage := .equalise, rate := 4, hello := { rate := 5 } }
    let l := trunk4 2 { stage := .equalise, rate := 5, hello := { rate := 5 }, failures := 2, nextSeq := 9 }
    let gone : State := { l with sec := { l.sec with lifecycle := 3 } }
    let a := trunk4 4 { stage := .active, width := 8 }
    let r := trunk4 3 { stage := .recovery }
    e.trunkAt 4 .equalise = true ∧ a.trunkAt 4 .active = true ∧ 7 < (a.portLanes 4).2 ∧ (a.port 4).ctl.markerOk 7 8 marker7 = true ∧
    fieldAt marker7 10 2 ≠ 0xFFFF ∧ (r.port 4).ctl.recoveryLimit ≤ 24000000 ∧
    after (.trunkEqualisationDone { port := 4 }) e (fun t => (t.port 4).trunk.rate == 5 && t.trunkAt 4 .equalise) ∧
    after (.trunkEqualisationDone { port := 4 }) l (fun t => t.get .portLink 4 == 4 && t.trunkAt 4 .active && (t.port 4).trunk.failures == 0 &&
      (t.port 4).trunk.nextSeq == 0) ∧
    after (.trunkEqualisationDone { port := 4 }) gone (fun t => t.get .portLink 4 == 15) ∧
    after (.alignmentMarker 4 7 marker7 true) a (fun t => (t.lane ((a.portLanes 4).1 + 7)).inverted &&
      Tab.get 0 (t.port 4).ctl.markerGood 7 == 1) ∧
    after (.trunkRecovery 4 false) a (fun t => t.get .portLink 4 == 3 && t.trunkAt 4 .recovery) ∧
    after (.trunkRecoveryTimeout 4) { r with ftb := 24000000 } (fun t => !t.portUp 4) := by decide +kernel

/-- Port 4 of a state has released a message of a type. -/
def brings (type : Nat) (bytes : List Byte) (s : State) : State :=
  s.modPort 4 (fun x => { x with ctl := { x.ctl with arrived := [(type, bytes)] } })

/-- A BYPASS flit that carries one TIME message, as its 256 bytes. -/
def timeFlit : TrunkFlit := { aFlit ([1] ++ List.replicate 9 0 ++ [1] ++ List.replicate 24 0) with type := 2 }

theorem witness_TrunkFlits :
    let a := trunk4 4 { stage := .active }
    let e : SentFlit := { seq := 4095, type := 2, kset := false, payload := [1] }
    let again := trunk4 4 { stage := .active, replaying := [e] }
    let timer := { trunk4 4 { stage := .active, replayTimer := some 5, replay := [e], replays := 2 } with ftb := 5 }
    let ide := trunk4 4 { stage := .active, initiator := true } { ide := true }
    let slave := trunk4 4 { stage := .active } { ide := true }
    let sends : Nat → State → Bool := fun type t => t.outbox.any (fun m => match m with | .flit 4 f => f.type == BitVec.ofNat 4 type | _ => false)
    a.trunkAt 4 .active = true ∧ (a.port 4).trunk.expect = 0 ∧ (a.port 4).ctl.idleLeft = 0 ∧ (a.port 4).trunk.lastNak = none ∧
    after (.flitBoundary 4) a (fun t => (t.port 4).trunk.nextSeq == 0 && t.outbox.any (fun m => match m with
      | .flit 4 f => f.type == 0 && f.ack == 4095 | _ => false)) ∧
    after (.flitBoundary 4) (trunk4 4 { stage := .active } { parkAgreed := true }) (fun t => t.get .portLink 4 == 9 && t.trunkAt 4 .parked) ∧
    after (.flitBoundary 4) (trunk4 4 { stage := .active, replaying := [e] } { idleLeft := 2 }) (fun t => sends 0 t && (t.port 4).ctl.idleLeft == 1) ∧
    after (.flitBoundary 4) again (fun t => (t.port 4).trunk.replaying == [] && t.outbox.any (fun m => match m with
      | .flit 4 f => f.seq == 4095 && f.type == 2 && f.payload == [1] | _ => false)) ∧
    after (.replayTimer 4) timer (fun t => (t.port 4).trunk.replaying == [e] && (t.port 4).trunk.replays == 3) ∧
    after (.spdmKeyUpdate 4) ide (fun t => (t.port 4).ctl.keyUpdating && (t.port 4).ctl.derived == 1 &&
      (t.port 4).trunk.bypass.any (fun m => m.type == 7)) ∧
    after (.mctpBypass 4 (.keyed true)) (brings 7 [] a) (fun t => (t.port 4).ctl.ide && (t.port 4).ctl.epochTx == 1) ∧
    after (.mctpBypass 4 (.keyed false)) (brings 7 [] a) (fun t => t.get .portLink 4 == 15) ∧
    after (.mctpBypass 4 .keyUpdate) (brings 7 [] slave) (fun t => (t.port 4).ctl.keyUpdating) ∧
    after (.mctpBypass 4 (.spdm [])) (brings 7 [] a) (fun t => (t.port 4).ctl.arrived == []) ∧
    after (.mctpBypass 4 (.order [])) (brings 7 [] a) (fun t => t.sec.discarded == 1) := by decide +kernel

/-- The 250 bytes of a flit whose CRC is wrong, with check bytes that fit them. -/
def spoiled : List Byte := (flitBytes timeFlit).take 242 ++ List.replicate 8 0

/-- A flit as sent is good, and its header reads back; one with a wrong CRC is not. -/
theorem witness_TrunkFlits_good :
    (flitGood (flitBytes timeFlit) = true ∧ (flitOf (flitBytes timeFlit)).type = 2 ∧ (flitOf (flitBytes timeFlit)).cvc = 15 ∧
      (flitOf (flitBytes timeFlit)).seq = 0 ∧ flitGood (spoiled ++ fecBytes spoiled) = false ∧ spoiled.length = 250) ∧
    fecDecode (flitBytes timeFlit) = flitBytes timeFlit ∧ fecDecode (spoiled ++ fecBytes spoiled) = spoiled ++ fecBytes spoiled :=
  ⟨by decide +kernel, fecDecode_flit _, fecDecode_fits _ (fun k hk => fecFits_sent _ (by decide +kernel) k hk)⟩

/-- A flit of 256 bytes arrives in its three parts. -/
def arrives (b : List Byte) : Instr := .trunkFlitReceive 4 (b.take 242) ((b.drop 242).take 8) (b.drop 250)

theorem flit_parts (b : List Byte) : b.take 242 ++ (b.drop 242).take 8 ++ b.drop 250 = b := by
  rw [← List.take_add, List.take_append_drop]

theorem witness_TrunkFlits_received :
    after (arrives (flitBytes timeFlit)) (trunk4 4 { stage := .active }) (fun t =>
      (t.port 4).trunk.expect == 1 && (t.port 4).trunk.nakLeft == 0 && (t.port 4).ctl.arrived.map (·.1) == [1]) = true ∧
    after (arrives (spoiled ++ fecBytes spoiled)) (trunk4 4 { stage := .active }) (fun t =>
      (t.port 4).trunk.nakLeft == 4 && (t.port 4).trunk.expect == 0) = true := by
  have e : ∀ b, exec (arrives b) = execTrunkFlitReceive 4 (b.take 242) ((b.drop 242).take 8) (b.drop 250) := fun _ => rfl
  obtain ⟨-, h1, h2⟩ := witness_TrunkFlits_good
  unfold after
  rw [e, e]
  unfold execTrunkFlitReceive State.receiveBytes
  rw [flit_parts, flit_parts, h1, h2]
  decide +kernel

theorem witness_TrunkControl :
    let x : Bool → Trunk := fun i => { stage := .active, initiator := i, hello := { width := 8, rate := 5 }, width := 4, rate := 5 }
    let i := trunk4 4 (x true)
    let r := trunk4 4 (x false)
    let crossed := trunk4 4 (x true) { goAt := some 0 }
    let parked := trunk4 9 { stage := .parked }
    let old : State := { i with boot := { i.boot with image := { i.boot.image with trunkMin := 3 } } }
    let sends_ : Nat → State → Bool := fun type t => (t.port 4).trunk.bypass.any (fun m => m.type == type)
    i.trunkAt 4 .active = true ∧ i.changeOk 4 (4, 6) = true ∧ parked.trunkAt 4 .parked = true ∧ parked.portStations 4 = [2] ∧
    (parked.station 2).sidingState = .awake ∧ i.quiet 4 = true ∧ (i.port 4).ctl.servedAfter = none ∧
    after (.changeReq 4 4 6) (brings 3 [4, 6] i) (fun t => sends_ 4 t && (t.port 4).ctl.changeSent == some (leastOf (i.ownWish 4) (4, 6))) ∧
    after (.changeReq 4 4 6) (brings 3 [4, 6] crossed) (fun t => !sends_ 4 t && (t.port 4).ctl.changeSent.isNone) ∧
    after (.changeGo 4 4 6) (brings 4 [4, 6] r) (fun t => t.get .portLink 4 == 3 && t.trunkAt 4 .recovery && (t.port 4).trunk.width == 4 &&
      (t.port 4).trunk.rate == 6) ∧
    after (.levelMessage 4 2 2 0 0) (brings 2 [2, 2, 0, 0, 0, 0] old) (fun t => t.get .portLink 4 == 13) ∧
    after (.levelMessage 4 2 1 0 0) (brings 2 [2, 1, 0, 0, 0, 0] i) (sends_ 2) ∧
    after (.levelMessage 4 2 1 0 0) (brings 2 [2, 1, 0, 0, 0, 0] r) (sends_ 2) ∧
    after (.levelMessage 4 2 1 2 5000) (brings 2 ([2, 1, 2, 0] ++ toLE 2 5000) r) (fun t => (t.port 4).ctl.levelAgreed == some (2, 904)) ∧
    after (.timeMessage 4 9 0 0) (brings 1 (toLE 8 9 ++ toLE 16 0) i) (fun t => (t.port 4).ctl.peerTx == some 9) ∧
    after (.parkReq 4) (brings 5 [] i) (fun t => sends_ 6 t && (t.port 4).ctl.parkAgreed) ∧
    after (.parkReq 4) (brings 5 [] (trunk4 4 (x true) { parkAsked := true })) (fun t => !sends_ 6 t && (t.port 4).ctl.parkAsked) ∧
    after (.parkAck 4 true) (brings 6 [1] i) (fun t => (t.port 4).ctl.parkAgreed) ∧
    after (.parkAck 4 false) (brings 6 [0] i) (fun t => (t.port 4).ctl.parkRetry == 100000) ∧
    after (.parkExit 4) parked (fun t => t.get .portLink 4 == 3 && t.trunkAt 4 .recovery) := by decide +kernel

/-! ### Frames and hosts -/

/-- Virtual switch 1 with its host at port 2 and port 4 below its vPPB 3, both links up. -/
def joined : State :=
  (((switched 1).put .vppbHp 1 3 3).put .portLink 2 0 4).put .portLink 4 0 4 |>.modVppb 1 3 (fun x =>
    { x with secondary := 5, subordinate := 5, memBase := 0x100000, memLimit := 0x1FFFFF })

/-- A message to bus 5. -/
def aMessage : FrameIn := { aFrame with kind := .message, addr := 0x500000 }

theorem witness_FrameFlow_cells :
    let s := joined
    let loan := (s.modPort 4 (fun x => { x with loanBlocks := 2, loanIdle := [0, 0] }))
    let due : State := { loan with ftb := 10000 }
    s.sw.running = true ∧ s.stationIn 63 = true ∧ s.sidingIn 63 = true ∧ s.power.fatalAt = none ∧ 63 < s.stationCount ∧
    blocksFor (due.loanUsed 4) < 2 ∧
    after .roundBoundary s (fun t => t.sw.rounds == 1) ∧
    s.ftb % 1024 = 0 ∧ { s with ftb := 1024 }.sw.windowAt ≠ 1024 ∧ allowanceFor 1024 64 = 2048 ∧
    after (.participantStuck (.station 63)) s (fun t => (t.station 63).dark && (t.station 63).resetting) ∧
    after (.participantStuck (.siding 63)) s (fun t => t.power.fatalAt == some 1000000) ∧
    after (.loanReturn 4) due (fun t => (t.port 4).loanBlocks == 1) := by decide +kernel

theorem witness_FrameFlow_admit :
    let s := joined
    let r := s.put .portTenant 2 0 7
    let fr := s.mkFrame aMessage 17 (s.frameClass aMessage) 3 1 0 4 false false false
    s.portOk 2 = true ∧ s.portUp 2 = true ∧ s.stationIn (portStation 2) = true ∧ s.errors.badObjects = [] ∧
    r.requesterTenant aFrame = 7 ∧ r.check aFrame 7 = .refused 1 none ∧ Tab.find r.junction.far 0 = none ∧
    (s.routeRequest 2 none 0 .message 0x500000 = .to 4 (some (1, 3))) ∧ s.portUp 4 = true ∧ s.get .portProto 2 ≠ 2 ∧
    (∀ m, m < 16 → s.get .mirrorDir m = 0) ∧ s.classUsed 2 fr.cls + fr.wagons ≤ classFloor ∧
    after (.frameAdmit { aFrame with good := false }) s (fun t => t.sw.lostFrames == 1) ∧
    after (.frameAdmit aFrame) r (fun t => left t (.answer 2 0 ansUR false) && t.sw.frames == [] && (t.window 7).violCount == 1) ∧
    after (.frameAdmit aMessage) s (fun t => t.sw.nextFrame == 2 && t.sw.frames == [(1, { fr with acct := 0 })]) := by decide +kernel

/-- A frame of one wagon for port 4, in the core as number 1. -/
def inCore (sw : Switch) : State := { joined with
  sw := { sw with running := true, frames := [(1, { joined.mkFrame aMessage 17 3 3 1 0 4 false false false with spread := 1, delivered := 1 })] } }

theorem witness_FrameFlow_send :
    let adm := inCore { adm := [(19, [1])] }
    let queued := inCore { outQ := [(67, [1])] }
    let waiting : State := inCore { bypass := [(4, [(0, .written 4 9)])] }
    let sending := (inCore {}).modPort 4 (fun x => { x with sending := some 1 })
    let poisoned := queued.modFrame 1 (fun f => { f with poison := true, inp := { f.inp with kind := .ioRead } })
    (match poisoned.choose 4 with | (s1, .frame 3 1 _) => (s1.frame 1).any (fun f => f.poison && !poisoned.carriesPoison 4 f) | _ => false) = true ∧
    after (.frameStart 4) poisoned (fun t => (t.frame 1).isNone && (t.port 4).sending.isNone) ∧
    Tab.get [] adm.sw.adm 19 = [1] ∧ (adm.frame 1).isSome = true ∧ adm.tRate 0 = 0 ∧
    queued.get .portLink 4 = 4 ∧ (queued.port 4).sending = none ∧ queued.get .portProto 4 ≠ 2 ∧
    (match queued.choose 4 with | (s1, .frame 3 1 _) => (s1.frame 1).isSome | _ => false) = true ∧
    Tab.wf sending.sw.frames = true ∧
    after (.admissionRelease 2 3) adm (fun t => t.sw.adm == [] || Tab.get [] t.sw.adm 19 == []) ∧
    after (.frameStart 4) queued (fun t => (t.port 4).sending == some 1 && Tab.get [] t.sw.outQ 67 == []) ∧
    after (.frameStart 4) waiting (fun t => t.outbox == [.written 4 9] && (t.port 4).sending.isSome) ∧
    after (.frameSent 4) sending (fun t => left t (.send 4 aMessage) && (t.frame 1).isNone && (t.port 4).sending.isNone) := by decide +kernel

theorem witness_HostConfiguration :
    let s := joined
    let r : ConfigRequest → (State → Bool) → Bool := fun q => after (.configurationRequest 1 q) s
    let vp : VppbNo → (VppbState → Bool) → State → Bool := fun b f t => f (t.vppb 1 b.val)
    s.uspPort 1 = some 2 ∧ s.busTarget 1 5 = some 3 ∧ s.busTarget 1 6 = none ∧ s.routeVppb 1 3 = .to 4 (some (1, 3)) ∧ s.portUp 4 = true ∧
    Tab.find s.junction.far 0 = none ∧
    hdmSupported 256 1 = true ∧ r (.readSlotStatusAt 3 0) (fun t => left t (.configData 1 (s.slotStatus 1 3))) ∧
    r (.readPortCapability 3 .powerOnValue) (fun t => left t (.configData 1 16)) ∧
    r .readEpoch (fun t => left t (.configData 1 1)) ∧ r (.readSlotStatus 3) (fun t => left t (.configData 1 (s.slotStatus 1 3))) ∧
    r (.readSlotCapabilities 3) (fun t => left t (.configData 1 (s.slotCapabilities 1 3))) ∧
    r (.busRange 255 1 2) (vp 255 (fun x => x.secondary == 1 && x.subordinate == 2)) ∧
    r (.memoryWindow 3 5 9) (vp 3 (fun x => x.memBase == 5 && x.memLimit == 9)) ∧
    r (.indicators 3 1 2) (vp 3 (fun x => x.attention == 1 && x.power == 2)) ∧
    r (.clearSlotChanges 3) (vp 3 (fun x => !x.presenceChanged)) ∧ r (.dpcControl 3 true false) (vp 3 (fun x => x.dpcEnabled && !x.dpcCompletion)) ∧
    r (.aerMask 3 7) (vp 3 (fun x => x.aerMask == 7)) ∧ r (.aerSeverity 3 7) (vp 3 (fun x => x.aerSeverity == 7)) ∧
    r (.aerClear 3 7) (vp 3 (fun x => x.aerStatus == 0)) ∧
    r (.hdmDecoder 31 0 4096 256 [3]) (fun t => Tab.find (t.vcs 1).hdm 31 == some { base := 0, size := 4096, targets := [3] }) ∧
    r (.fastEntry 63 1 2 3) (fun t => Tab.find (t.vcs 1).fast 63 == some (1, 2, 3)) ∧
    r (.idtEntry 63 4095) (fun t => Tab.find (t.vcs 1).idt 63 == some 4095) ∧
    r (.toBus 5 1 true 4 9) (fun t => left t (.configSent 4 true 4100 0xF 9)) ∧
    r (.toBus 6 1 true 4 9) (fun t => left t (.answer 2 0 ansUR false)) := by decide +kernel

/-- A wrap of tag 9. -/
def aWrap (jkind : BitVec 4) (err : BitVec 4) : Wrap := ⟨jkind, 1, 0, 9, err, false, 0x100000, 4, []⟩

/-- A Trunk port 6 beside the virtual switch. -/
def farEnd (j : Junction) : State := { ((joined.put .portProto 6 0 2).put .portLink 6 0 4) with junction := j }

/-- The unit of `aWrap` as a Trunk port releases it. -/
def wrapUnit (jkind err : Nat) : List Byte :=
  toLE 8 (52 + 13 * 2 ^ 13) ++ List.replicate 8 0 ++ toLE 8 (jkind + 1 * 2 ^ 4 + 9 * 2 ^ 24 + err * 2 ^ 36) ++ List.replicate 28 0

theorem witness_JunctionRules_wraps :
    let near : NearRequest := { window := 1, port := 6, host := 2, reqId := 0, hostTag := 5, cls := 4, tenant := 0, lanes := 0, elem := 0, sentAt := 0 }
    let s := farEnd {}
    let n := farEnd { near := [(9, near)] }
    let u : Nat → Nat → State → State := fun k e s => released 0 (wrapUnit k e) s
    let f := farEnd { far := [(0, { port := 6, window := 1, nearTag := 9, takenAt := 0 })] }
    s.get .portProto 6 = 2 ∧ s.portUp 6 = true ∧ Tab.wf n.junction.near = true ∧ Tab.find n.junction.far 5 = none ∧
    s.check (wrapFrame 6 (aWrap 1 0) 0) 0 = .defaultMap ∧ s.memAny 0x100000 = some 4 ∧
    after (.junctionWrapReceive 6 (aWrap 3 0)) (u 3 0 s) (fun t => t.junction.discarded == 1) ∧
    after (.junctionWrapReceive 6 (aWrap 2 0)) (u 2 0 s) (fun t => t.junction.discarded == 1) ∧
    after (.junctionWrapReceive 6 (aWrap 2 1)) (u 2 1 n) (fun t => t.junction.near == [] && left t (.answer 2 5 ansUR false)) ∧
    after (.junctionWrapReceive 6 (aWrap 1 0)) (u 1 0 s) (fun t => t.junction.far == [(0, { port := 6, window := 1, nearTag := 9, takenAt := 0 })]) ∧
    after (.junctionWrapReceive 6 (aWrap 3 0)) (u 2 0 s) (fun t => t.junction.discarded == 0) ∧
    after (.junctionFarTimeout 0) { f with ftb := 10000000 } (fun t => t.junction.far == []) ∧
    after (.junctionNearTimeout 9) { n with ftb := 12000000 } (fun t => t.junction.near == [] && left t (.answer 2 5 ansCA false)) := by
  decide +kernel

theorem witness_JunctionRules_buses :
    let a : BusAccess := ⟨7, false, 2, 5, 0, [], [(0, 2)], [], 0, false, 0, 0, 0, 0, 0, 0⟩
    let s : BusAccess → State := fun a => farEnd { bus := [(7, [a])] }
    let line : State → List BusAccess := fun t => Tab.get [] t.junction.bus 7
    let poll : State := { (((up.put .windowKind 7 0 2).put .windowRemote 7 0 (2 ^ 22 + 3 * 2 ^ 32)).put .eventOwner 3 0 0) with
      junction := { alertSeen := [(7, 1)] }, alloc := [poolKey clsEvent 3] }
    let r := poll.get .windowRemote 7
    poll.get .windowKind 7 = 2 ∧ bitOf r 22 = true ∧ bitOf r 28 = false ∧ poll.eventLive (bitsOf r 32 13) (some (poll.get .windowOwner 7)) = true ∧
    after (.sbTransferEnd 7 false [1, 2]) (s a) (fun t => left t (.completion 2 5 .success [1, 2]) && line t == []) ∧
    after (.sbTransferEnd 7 false []) (s { a with write := true }) (fun t => line t == []) ∧
    after (.sbTransferEnd 7 true []) (s a) (fun t => left t (.answer 2 5 ansCA false) && line t == []) ∧
    after (.sbArbitrationLost 7) (s { a with reissues := 15 }) (fun t => (line t).any (·.yielded)) ∧
    after (.sbReissue 7) (s { a with yielded := true }) (fun t => (line t).any (fun x => !x.yielded && x.reissues == 1)) ∧
    after (.sbReadTimeout 7) { s a with ftb := 100000000 } (fun t => left t (.answer 2 5 ansCA false) && line t == []) ∧
    after (.windowPoll 7 true false) poll (fun t => Tab.get 2 t.junction.alertSeen 7 == 2 && t.get .eventPending 3 == 1) := by decide +kernel

theorem witness_ScheduleEvents :
    let s : State := { ((up.put .tshaperRate 7 0 100).put .tshaperBurst 7 0 150) with ftb := 1000, qos := { tshapers := [(7, { tokens := some 80 })] } }
    let g := up.put .timetableLoaded 2 0 1
    let k := ((up.put .timetableTakeover 2 0 0).put .timetableArmed 2 0 1).put .timetableLength 2 0 1
    let ad : State := { (up.put .tshaperRate 7 0 100).put .portDlHist 4 0 (2 ^ 48) with
      ftb := 100000
      boot := { up.boot with image := { up.boot.image with residents := 1 } }
      lev := { cores := [(0, { mode := .running, resident := true })] }
      tenants := [(7, { adapt := true, ceiling := 160, floor := 60, ports := 0x10 })] }
    ad.residentRuns = true ∧ ad.adaptations = [(7, 60)] ∧ ad.lev.granted = none ∧ ad.holdFree = true ∧ ad.passes [putEntry .tshaperRate 7 0 60] ∧
    up.adaptations = [] ∧ s.qos.refillAt ≠ s.ftb ∧ after .shaperRefill { s with ftb := 1001 } (fun t => Tab.find t.qos.tshapers 7 == some { tokens := some 80 }) ∧
    g.takeoverDue 2 = false ∧ (g.timetable 2).entryEnd = 0 ∧ k.takeoverDue 2 = true ∧ ad.loadLevel 0x10 = some 3 ∧
    after .shaperRefill s (fun t => Tab.find t.qos.tshapers 7 == some { tokens := some 150 }) ∧
    after (.timetableEntryBoundary 2) g (fun t => (t.timetable 2).entry == 0) ∧
    after (.timetableTakeover 2) k (fun t => t.get .timetableActive 2 == 1 - k.get .timetableActive 2 && t.get .timetableLoaded 2 == 1 &&
      t.get .timetableArmed 2 == 0) ∧
    after .qosAdjust ad (fun t => t.get .tshaperRate 7 == 60 && t.qos.adjustAt == 100000) ∧
    after .qosAdjust { ad with tenants := [] } (fun t => t.get .tshaperRate 7 == 100 && t.qos.adjustAt == 100000) := by
  unfold State.passes
  decide +kernel

theorem witness_ScheduleEvents_samples :
    let s : State := { (inCore { outQ := [(67, [1])] }).put .deviceQsamplePer 0 0 1 with ftb := 9000 }
    let d := { up.modPort 4 (fun x => { x with dlCount := [(3, 70000)] }) with ftb := 10000 }
    s.portOk 4 = true ∧ s.ftb % (s.get .deviceQsamplePer 0 * 1000) = 0 ∧ d.qos.devloadAt ≠ d.ftb ∧
    s.queueNow 4 3 = (1, some 0) ∧ (s.sampleQueue 4 3).get .queueDepth 4 3 = 1 ∧
    (s.sampleQueue 4 3).get .queueStamp 4 3 = 9000 ∧
    after .devloadWindow d (fun t => (t.port 4).dlCount == [] && t.get .portDlHist 4 == 0xFFFF * 2 ^ 48) := by decide +kernel

theorem witness_TimeAndWayside :
    let src : Nat → State := fun n => { (((up.put .deviceFtbSrc 0 0 n).put .deviceFtbPort 0 0 4).put .portLink 4 0 4).put .deviceWsMark 0 0 1 with
      ftb := up.get .deviceSyncPer 0 * 1000 }
    let ptm := (src 1).modPort 4 (fun x => { x with role := .upstream })
    let trunk := { trunk4 4 { stage := .active } with ftb := 1000 * up.get .deviceSyncPer 0 }
    let lost : State := { src 1 with ftb := 8 * up.get .deviceSyncPer 0 * 1000 }
    let drop : State → Bool := fun t => t.power == { up.power with waysideDiscarded := 1 }
    up.straps.ws.val ≠ 31 ∧ ptm.portUp 4 = true ∧ (ptm.port 4).role = .upstream ∧ (src 0).portUp 4 = true ∧ ((src 0).port 4).role = .downstream ∧
    after .syncPeriod (src 1) (fun t => left t (.ptmRequest 4) && t.power.waysideOut.any (fun o => o.dst == 31 && o.type == 2) && t.qos.syncAt == t.ftb) ∧
    after .syncPeriod trunk (fun t => (t.port 4).trunk.bypass.any (fun m => m.type == 1)) ∧
    after .ftbHoldover lost (fun t => t.get .deviceFtbState 0 == 3 && t.qos.goodOffsets == 0) ∧
    after .ftbHoldover { up with qos := { up.qos with refclkA := false, refclkB := false } } (fun t => t.get .deviceFtbState 0 == 3) ∧
    after (.ptmRequest 4) { src 0 with ftb := 7 } (fun t => left t (.ptmReply 4 7)) ∧
    after (.ptmResponse 4 5000 5) { ptm with ftb := 0 } (fun t => t.get .deviceFtbOffset 0 == offsetField 5005 && t.ftb == 0) ∧
    after .waysideStuck { up with power := { up.power with waysideOut := [⟨31, 2, []⟩, ⟨4, 1, [9]⟩] } } (fun t => t.power.waysideOut == [⟨4, 1, [9]⟩]) := by
  decide +kernel

theorem witness_TimeAndWayside_frames :
    let w := aWayside
    let bad := { w 0 1 [9] with crc := 0 }
    let asleep : State := { up with power := { step := .asleep 3 }, ftb := 6 }
    let admits := mailed 0x62
    let mark : State := { (up.put .deviceFtbSrc 0 0 3) with ftb := 0 }
    let drop : State → Bool := fun t => t.power == { up.power with waysideDiscarded := 1 }
    up.waysideMine bad = true ∧ waysideBad bad = true ∧ waysideBad (w 0 1 [9]) = false ∧ asleep.asleep = true ∧
    admits.admission (frameOrder readFrame privBMC 0 2 (.wayside 3)) (frameOk readFrame 1024) = none ∧
    (frameOrder readFrame privBMC 0 2 (.wayside 3)).resets = none ∧
    after (.waysideOrderFrame bad) up drop ∧ after (.waysideReply bad) up drop ∧ after (.timeMark bad) up drop ∧ after (.waysideWake bad) up drop ∧
    after (.waysideOrderFrame (w 0 1 [9])) asleep (fun t => t.power.waysideOrder == some { src := 3, arrived := 6, frame := [9] } && t.ord == asleep.ord) ∧
    after (.waysideOrderFrame (w 0 (BitVec.ofNat 11 readFrame.length) readFrame)) admits (fun t => t.ord.queue.length == 1) ∧
    after (.waysideReply (w 1 1 [9])) up (fun t => t.power.waysideReplies == [(3, [9])]) ∧
    after (.timeMark (w 2 8 (toLE 8 700))) mark (fun t => t.get .deviceFtbOffset 0 == offsetField 700) ∧
    after (.waysideWake (w 3 0 [])) asleep (fun t => t.power.step == .wake 3 0) := by decide +kernel

theorem witness_TimeAndWayside_contention :
    let far := { aWayside 1 1 [9] with dst := 5 }
    let waits : Nat → State := fun dst => { up with power := { up.power with waysideOut := [⟨dst, 1, [7]⟩] } }
    up.waysideMine far = false ∧
    survives ((waits 4).ownSymbols ⟨4, 1, [7]⟩) (frameSymbols (frameBody far) far.crc.toNat) = true ∧
    survives ((waits 7).ownSymbols ⟨7, 1, [7]⟩) (frameSymbols (frameBody far) far.crc.toNat) = false ∧
    after (.waysideReply far) (waits 4) (fun t => left t (.waysideFrame 4 1 [7]) && t.power.waysideOut == []) ∧
    after (.waysideReply far) (waits 7) (fun t => t == waits 7) := by decide +kernel

/-! ### Slots -/

/-- Slot 63 enabled and seated, in a STATE. -/
def slotAt (st : Nat) (x : SlotState := {}) : State :=
  { ((up.put .slotState 63 0 st).put .slotEnable 63 0 1).put .slotSeated 63 0 1 with slots := [(63, x)] }

/-- What a check of slot 63's STATE and of its pins says. -/
def slotIs (st : Nat) (f : SlotState → Bool) (t : State) : Bool := t.slotState 63 == st && f (t.slot 63)

theorem witness_SlotPowerUp :
    let empty := (slotAt slotEmpty).put .slotSeated 63 0 0
    let waits := slotAt slotSeating
    let bad := slotAt slotSeating { vinBad := true }
    let cool := slotAt slotRetryWait { retryPassed := true }
    let hot := (slotAt slotRetryWait).put .slotTfet 63 0 255
    let on : State := slotAt slotOn { perstAt := some 0 }
    let gate : Nat → State → Bool := fun st => slotIs st (·.gate)
    waits.get .slotEnable 63 = 1 ∧ waits.get .slotSeated 63 = 1 ∧ waits.domainOn 10 = true ∧ waits.startFree 63 = true ∧ waits.waiting 63 = true ∧
    waits.get .slotVin 63 = 0 ∧ (slotAt slotPrecharge).domainOn 10 = true ∧ hot.fetCool 63 255 = false ∧ cool.fetCool 63 0 = true ∧
    cool.fetCool 63 (cool.get .slotTfet 63) = true ∧
    after (.seatDebounce 63) empty (fun t => t.slotState 63 == slotSeating && t.get .slotSeated 63 == 1) ∧
    after (.seatDebounce 63) ((slotAt slotAbsent).put .slotSeated 63 0 0) (slotIs slotRetryWait (fun x => x.absence.isNone)) ∧
    after (.seatingLost 63) (slotAt slotOn) (fun t => t.slotState 63 == slotDown && t.get .slotCause 63 == 9) ∧
    after (.seatingLost 63) (slotAt slotRamp) (slotIs slotAbsent (fun x => !x.gate)) ∧
    after (.seatingLost 63) waits (slotIs slotEmpty (fun _ => true)) ∧
    after (.slotStart 63) waits (slotIs slotPrecharge (fun x => x.pcgate && !x.gate)) ∧
    after (.slotStart 63) bad (slotIs slotInhibit (fun _ => true)) ∧
    after (.vinInRange 63) (slotAt slotInhibit) (slotIs slotPrecharge (fun _ => true)) ∧
    after (.prechargeComplete 63 none none) (slotAt slotPrecharge) (gate slotRamp) ∧
    after (.prechargeTimeout 63 (some 1) (some 2)) (slotAt slotPrecharge) (gate slotRamp) ∧
    after (.rampOn 63) (slotAt slotRamp) (slotIs slotOn (fun x => x.pgood && x.pfwN && x.gate && x.perstAt.isSome)) ∧
    after (.perstRelease 63) on (slotIs slotOn (fun x => x.perstAt.isNone && x.perstN)) ∧
    after (.retryDelayExpiry 63) hot (slotIs slotRetryWait (fun x => x.retryPassed)) ∧
    after (.retryDelayExpiry 63) (slotAt slotRetryWait) (slotIs slotPrecharge (fun _ => true)) ∧
    after (.fetCooled 63 0) cool (slotIs slotPrecharge (fun _ => true)) := by decide +kernel

theorem witness_SlotTrips :
    let on := slotAt slotOn { gate := true, pgood := true, pfwN := true, vinWarned := true }
    let late : State := { slotAt slotRamp with ftb := ms 60000 }
    let down : Nat → State := fun c => slotAt slotDown { downCause := c, gate := true }
    let tripped : Nat → State → Bool := fun c t => t.get .slotCause 63 == c && t.get .slotTrips 63 == 1 && t.get .slotTripTotal 63 == 1 &&
      !(t.slot 63).gate && !(t.slot 63).pgood && t.slotState 63 == slotRetryWait
    let away := (slotAt slotLockout { absence := some 0 }).put .slotTrips 63 0 3
    on.get .slotRetries 63 ≥ 1 ∧ (on.limitsOf 63).ilim < 100000 ∧ on.fastTripLevel 63 < 10000000 ∧ (on.limitsOf 63).tempTrip < 255 ∧
    after (.rampShort 63) late (tripped 4) ∧ after (.rampTimeout 63) late (tripped 5) ∧ after (.circuitBreakerTrip 63 100000) on (tripped 1) ∧
    after (.voutLowTrip 63 1200 1079) on (tripped 6) ∧ after (.fastTrip 63 10000000) on (tripped 2) ∧
    after (.thermalTrip 63 255) on (tripped 3) ∧
    after (.circuitBreakerTrip 63 100000) (on.put .slotTrips 63 0 15) (fun t => t.slotState 63 == slotLockout && t.get .slotTrips 63 == 15) ∧
    after (.vinWarning 63) on (slotIs slotOn (fun x => !x.pfwN && x.vinWarned && x.vinBad)) ∧
    after (.vinWarningClear 63) on (slotIs slotOn (fun x => x.pfwN && !x.vinWarned)) ∧
    after (.vinUndervoltage 63) on (fun t => slotIs slotInhibit (fun x => !x.gate) t && t.get .slotCause 63 == 7) ∧
    after (.vinOvervoltage 63) on (fun t => slotIs slotInhibit (fun x => !x.gate) t && t.get .slotCause 63 == 8) ∧
    after (.onTripsClear 63) { on.put .slotTrips 63 0 2 with ftb := ms 60000 } (fun t => t.get .slotTrips 63 == 0) ∧
    after (.pfwLeadEnd 63) ((down 10).put .slotEnable 63 0 0) (fun t => slotIs slotOff (fun x => !x.gate) t && t.get .slotTrips 63 == 0) ∧
    after (.pfwLeadEnd 63) ((down 9).put .slotSeated 63 0 0) (slotIs slotAbsent (fun x => !x.gate)) ∧
    after (.absenceExpiry 63) away (fun t => slotIs slotEmpty (fun x => x.absence.isNone) t && t.get .slotTrips 63 == 0) ∧
    after (.slotThresholdsReady 63) (slotAt slotOn { limits := some ⟨1, 2, 3, 4, 5⟩ }) (fun t => t.limitsOf 63 == t.committedLimits 63) ∧
    up.domainOn 10 = true ∧ after (.slotSample 63 1200 1199 5000 30) up (fun t => t.get .slotTfet 63 == 30 &&
      t.get .slotEnergy 63 == 0 && (t.slot 63).energyFrac == 59950000) := by decide +kernel

/-! ### Power -/

/-- A station's Siding state, with its domain asked to follow it. -/
def sided (x : SidingState) (latched : Bool := false) : State :=
  { up.put .domainReq 74 0 2 with stations := [(63, { sidingState := x, wakeLatched := latched })] }

theorem witness_DomainsAndSidings :
    let is_ : SidingState → State → Bool := fun x t => (t.station 63).sidingState == x
    let off := up.put .domainReq 74 0 0
    let coming : State := { (up.put .domainState 74 0 0) with power := { step := .run, powering := [(74, 0)] } }
    let gating : State := { up with sw := { running := true, gating := [3], gated := [3] } }
    let remap : State := { up with sw := { running := true, remapping := true, remapTo := [3] } }
    let doze : Switch → State := fun w => { up.put .devicePstate 0 0 1 with sw := w, ftb := 100000 }
    let low := doze { lowSince := some 0 }
    let failed := doze { loanFailed := true, gating := [3] }
    let cold := (doze { loanFailed := true }).put .domainState 8 0 0
    let pd3 : State := { up.put .domainReq 3 0 0 with coh := { goingOff := true } }
    up.stationGroup 63 = [63] ∧ (sided .awake).groupMayEnter 63 = true ∧ up.wakesStation 63 (.clkreq 126) = true ∧
    off.stationEmpty 63 = true ∧ off.domainOn (stationDomain 63) = true ∧ off.domainReq (stationDomain 63) = 0 ∧
    Tab.wf coming.power.powering = true ∧ coming.awake = true ∧ coming.domainReq 74 ≠ 0 ∧ gating.quadrantHeld 3 = false ∧
    gating.occupied ≤ Config.quadrantWagons * (gating.quadrantsOn.length - 1) ∧ gating.loansTaken ≤ gating.poolWith (gating.quadrantsOn.length - 1) ∧
    remap.pinnedHeld = false ∧ low.autoCandidate = some 3 ∧ 0 ∈ low.quadrantsOn ∧ failed.autoGated = some 3 ∧ cold.autoGated = some 3 ∧
    failed.domainOn 8 = true ∧ pd3.anyTracked = false ∧ pd3.domainReq 3 = 0 ∧
    after (.sidingEntry 63) (sided .awake) (is_ .entering) ∧
    after (.sidingEntryDone 63) (sided .entering) (fun t => is_ .siding t && t.get .domainState 74 == 2) ∧
    after (.sidingEntryDone 63) (sided .entering true) (is_ .exiting) ∧
    after (.sidingWake 63 (.clkreq 126)) (sided .siding) (is_ .exiting) ∧
    after (.sidingWake 63 (.clkreq 126)) (sided .entering) (fun t => (t.station 63).wakeLatched) ∧
    after (.sidingExitReady 63) (sided .exiting) (fun t => is_ .awake t && t.get .domainState 74 == 1) ∧
    after (.stationDomainOff 63) off (fun t => t.get .domainState 74 == 0) ∧
    after (.domainPowerUpDone 74) coming (fun t => t.get .domainState 74 == 1 && t.power.powering == []) ∧
    after (.domainPowerUpDone 74) (coming.put .domainReq 74 0 0) (fun t => t.get .domainState 74 == 0 && t.power.powering == []) ∧
    after (.quadrantGateDrained 3) gating (fun t => t.get .domainState 8 == 0 && t.sw.gating == []) ∧
    after .pinnedRemap remap (fun t => t.sw.gated == [3] && !t.sw.remapping) ∧
    after .quadrantAutoGate low (fun t => t.sw.gating == [3] && t.sw.lowSince.isNone && t.sw.remapping) ∧
    after .quadrantAutoUngate failed (fun t => t.sw.gating == [] && !t.sw.loanFailed) ∧
    after .quadrantAutoUngate cold (fun t => t.power.powering == [(8, 100000)]) ∧
    after .pd3Pd4Off pd3 (fun t => t.get .domainState 3 == 0 && t.coh.dir == [] && t.coh.loft == []) := by decide +kernel

/-- The device at a step of an entry or a wake. -/
def stepping (p : PowerStep) (failures : Nat := 0) : State := { up with power := { step := p, wakeFailures := failures } }

theorem witness_SleepAndWake :
    let at_ : PowerStep → State → Bool := fun p t => t.power.step == p
    let asleep := stepping (.asleep 2)
    let hot := (stepping (.asleep 3)).put .deviceWakeEn 0 0 0x20
    (stepping (.entry 2 1)).entryEndsOrders.trackedTenants = [] ∧ (∀ e ∈ up.ports, e.2.flushing = false) ∧
    asleep.wakeEnabled 0 = true ∧ hot.wakeEnabled 5 = true ∧ hot.get .deviceTempHi 0 ≤ 200 ∧
    after .entryOrdersEnded (stepping (.entry 2 1)) (at_ (.entry 2 2)) ∧
    (stepping (.entry 2 1)).orderRunning = false ∧ (order 0x62 [] (stepping (.entry 2 1))).orderRunning = true ∧
    after .entryOrdersEnded (order 0x62 [] (stepping (.entry 2 1))) (at_ (.entry 2 1)) ∧
    after .entryLinksDown { stepping (.entry 2 2) with ftb := 1000000 } (fun t => at_ (.entry 2 3) t && !t.portUp 4) ∧
    after .entryDomainsOff (stepping (.entry 2 3)) (fun t => at_ (.asleep 2) t && !t.sw.running && t.get .domainState 3 == 0) ∧
    after .entryDomainsOff (stepping (.entry 3 3)) (at_ (.entry 3 5)) ∧
    after .entryRailsOff (stepping (.entry 3 5)) (at_ (.asleep 3)) ∧
    after .logicRdy (stepping (.wake 2 3)) (fun t => at_ .run t && t.sw.running) ∧
    after .logicRdy { stepping (.wake 3 3) with ord := { up.ord with queue := [job 0x62 []] } } (fun t => at_ .run t && t.boot.phase == 0 &&
      t.boot.step == .ready && t.ord.queue == [job 0x62 []]) ∧
    after (.wake 0) asleep (fun t => at_ (.wake 2 0) t && t.get .deviceWakeCause 0 == 1) ∧
    after (.watchSample [200] [] []) hot (at_ (.wake 3 0)) ∧
    after .pwrRdy (stepping (.wake 4 0) 1) (fun t => at_ (.wake 4 1) t && t.power.vrEn == [0, 1, 2, 3] && t.power.wakeFailures == 0) ∧
    after .oscRdy (stepping (.wake 4 1)) (at_ (.wake 4 2)) ∧ after .memRdy (stepping (.wake 4 2)) (at_ (.wake 4 3)) ∧
    after .logicRdy (stepping (.wake 4 3)) (fun t => at_ .run t && t.boot.step == .ready) ∧
    after .vrPgTimeout (stepping (.wake 5 0) 1) (fun t => at_ (.wakeFailed 5) t && t.power.retryAt == 100000000 && !t.power.ignoreWake) ∧
    after .vrPgTimeout (stepping (.wake 5 0) 2) (fun t => at_ (.asleep 3) t && t.power.ignoreWake) ∧
    after .wakeRetry (stepping (.wakeFailed 5)) (at_ (.wake 5 0)) := by decide +kernel

theorem witness_SuppliesAndClocks :
    let avs : Nat → State := fun m => { (up.put .deviceAvs 0 0 1).put .deviceVcoreNow 0 0 735 with ftb := 1000000, sw := { running := true, recentM := [(999999, m)] } }
    let up_ := avs 1330
    let dn := avs 1434
    up.railArmed 0 = true ∧ below 100 (up.thresholdSetpoint 0) (up.warnPct 0) = true ∧ up.get .railWarn 0 = 0 ∧
    below 100 (up.thresholdSetpoint 5) (up.get .railResetPct 5) = true ∧ up.deepReset = false ∧
    up_.leastM 100000 = some 1330 ∧ up_.get .deviceVcoreNow 0 + 5 ≤ roundedVcore (up_.get .deviceVcore 0) ∧
    dn.leastM 100000 = some 1434 ∧ dn.leastM 1000000 = some 1434 ∧ max dn.vfloor 650 + 5 ≤ dn.get .deviceVcoreNow 0 ∧
    up.fedBy 63 true = true ∧ up.sensorOn 12 = true ∧
    after (.sagWarning 0 100) up (fun t => t.get .railWarn 0 == 1 && t.get .railWarns 0 == 1 && !t.power.sagWarnN && t.sw.sagThrottle) ∧
    after .sagWarnRelease (up.put .railWarn 5 0 1) (fun t => t.power.sagWarnN && t.get .railWarn 5 == 0) ∧
    after (.sagReset 0 100) up (fun t => t.power.step == .sagHold && t.coh.dir == []) ∧
    after (.sagReset 5 100) up (fun t => t.power.step == .wake 4 0 && t.boot.cold) ∧
    after .sagRecovery (stepping .sagHold) (fun t => t.power.step == .wake 5 0) ∧
    after .avsStep up_ (fun t => t.get .deviceVcoreNow 0 == 740 && t.power.avsAt == 1000000) ∧
    after .avsStep dn (fun t => t.get .deviceVcoreNow 0 == 730) ∧
    after (.railSample [9, 8, 7, 6, 5, 3000]) up (fun t => t.get .railVnow 0 == 9 && t.get .railVnow 5 == 2047) ∧
    after (.sensorSample [-4, 0, 0, 0, 0, 0, 0, 0, 0, 0, 0, 0, 80]) up (fun t => t.get .thermTemp 0 == signedField 12 (-4) && t.get .thermTemp 12 == 80) ∧
    after (.refclkLoss true) up (fun t => (t.station 63).clockLost && !(t.station 31).clockLost) ∧
    after (.refclkReturn true) (up.modStation 63 (fun x => { x with clockLost := true })) (fun t => !(t.station 63).clockLost) := by decide +kernel

/-! ### The whole block -/

theorem witness_StepTakesTheFront :
    (match step { up with pending := [.jtagTestInstruction, .tapReset] } with
      | .next t => t.boot.tapHold && t.pending == [.tapReset] | _ => false) = true ∧
    (∀ e ∈ up.tenants, e.2.pendingRecords = [] ∨ up.ftb + 1 < e.2.recordDue) ∧
    (match step up with | .next t => t.ftb == 1 && t.pending == [] | _ => false) = true := by decide +kernel

/-- Hypotheses of `QueueKept`, `FusesKept` and `OtpWriters`: the boot ROM fuses UDS in phase 0 of a cold reset, with a command waiting. -/
theorem witness_OtpWriters :
    let s : State := { boot { step := .ready, cold := true } with pending := [.tapReset] }
    s.otp.uds = [] ∧ s.boot.cold = true ∧ s.phaseReady 0 = true ∧ s.boot.tapHold = false ∧
    after (.bootPhase0 false false [7]) s (fun t => t.otp.uds == [7] && t.pending == [.tapReset]) := by decide +kernel

theorem witness_FusesKept :
    let s : State := { boot { step := .ready, cold := true } { State.reset with otp := { lifecycle := 3 } } with pending := [.bootPhase0 false false [7]] }
    s.otp.keeps s.otp ∧ ∃ t, step s = .next t := by
  intro s
  exact ⟨by constructor <;> simp [bitsKept, bytesKept], _, rfl⟩

theorem witness_ZeroRegister : (run3 7 3 0).runs 0 ∧
    after (.add 0 ⟨0, 1, 2⟩) (run3 7 3 0) (fun t => (t.core 0).reg 0 == 0 && (t.core 0).reg 1 == 7 && (t.core 0).pc == 4) := by
  unfold State.runs; decide +kernel

theorem witness_FieldsCommitted :
    let s := up
    (s.stored [.write clsPort 2 0 4 5, .write clsPort 4 0 4 6]).get .portDrop 2 0 = 5 ∧
    (s.stored [.write clsDevice 0 0 Fld.deviceWakeEn.info.id 0]).get .deviceWakeEn 0 0 = 0xB ∧
    Fld.portDrop.info.cls = clsPort ∧ Fld.portDrop.info.id = 4 := by decide +kernel

theorem witness_MemoryKept :
    let s : State := { up with sec := { lifecycle := 0 }, pool := [(5, 7)], pending := [.debugAccess .tenantPool 5 (some 0)] }
    (Memory.wf s.pool = true ∧ Memory.wf s.lev.sharedData = true ∧
      (match step s with | .next t => t.pool == [] | _ => false) = true) ∧
    mayWriteMemory (.debugAccess .tenantPool 5 none) = true ∧ mayWriteMemory .jtagTestInstruction = false ∧
    (match exec .jtagTestInstruction s with | .next t => t.pool == [(5, 7)] | _ => false) = true := by decide +kernel

end Sys2Proof.Tests
end

section
/-! SUPPORT. Delivering a reply, counting an event and raising a vector leave the Lever cluster alone; what stays of a core whose
order ends, and the 12 bytes of R72 that a fault puts in its reply block. -/

namespace Sys2Proof.Machine

/-! ### What leaves the Lever cluster alone -/

@[simp] theorem State.devicePut_lev (s : State) (f : Fld) (idx sub v : Nat) : (s.devicePut f idx sub v).lev = s.lev := by
  unfold State.devicePut
  split <;> rfl

@[simp] theorem State.eventMsi_lev (s : State) (t : Nat) : (s.eventMsi t).lev = s.lev := by
  unfold State.eventMsi
  dsimp only
  rw [apply_ite State.lev]
  split_ifs
  · cases s.msiPort t with
    | none => rfl
    | some p => simp
  · rfl

@[simp] theorem State.raiseVector_lev (s : State) (n : Nat) (owner : Option Nat) : (s.raiseVector n owner).lev = s.lev := by
  simp only [State.raiseVector, apply_ite State.lev, State.eventMsi_lev, State.devicePut_lev, State.modTenant_lev,
    State.missRaise_lev, ite_self]

@[simp] theorem State.addUnit_lev (s : State) (u i n : Nat) : (s.addUnit u i n).lev = s.lev := by
  simp [State.addUnit, apply_ite State.lev]

@[simp] theorem State.addCounter_lev (s : State) (i n : Nat) : (s.addCounter i n).lev = s.lev := by
  simp [State.addCounter, apply_ite State.lev]

@[simp] theorem State.unitSees_lev (s : State) (u ev n : Nat) (a : EventAttrs) (i : Nat) : (s.unitSees u ev n a i).lev = s.lev := by
  simp only [State.unitSees, apply_ite State.lev, State.addUnit_lev, ite_self]

@[simp] theorem State.counterSees_lev (s : State) (ev n : Nat) (a : EventAttrs) (i : Nat) :
    (s.counterSees ev n a i).lev = s.lev := by
  simp only [State.counterSees, apply_ite State.lev, State.addCounter_lev, ite_self]

/-- A sequence of updates leaves the Lever cluster alone where each of them does. -/
theorem foldl_lev {α : Type} {f : State → α → State} (h : ∀ s a, (f s a).lev = s.lev) (l : List α) (s : State) :
    (l.foldl f s).lev = s.lev := by
  induction l generalizing s with
  | nil => rfl
  | cons a l ih => exact (ih _).trans (h s a)

@[simp] theorem State.count_lev (s : State) (u ev : Nat) (a : EventAttrs) (n : Nat) : (s.count u ev a n).lev = s.lev := by
  have hunits : (if s.unitCounts u then (List.range 8).foldl (fun s i => s.unitSees u ev n a i) s else s).lev = s.lev := by
    split
    · exact foldl_lev (fun s i => s.unitSees_lev u ev n a i) _ s
    · rfl
  unfold State.count
  dsimp only
  split
  · split
    · exact (foldl_lev (fun s i => s.counterSees_lev _ n a i) _ _).trans hunits
    · exact hunits
  · exact hunits

@[simp] theorem State.mailboxAnswer_lev (s : State) (ret status : Nat) (resp : List Byte) :
    (s.mailboxAnswer ret status resp).lev = s.lev := by
  simp [State.mailboxAnswer, apply_ite State.lev]

@[simp] theorem State.windowAnswer_lev (s : State) (t tag status : Nat) (header data : List Byte) :
    (s.windowAnswer t tag status header data).lev = s.lev := by
  simp [State.windowAnswer, apply_ite State.lev]

/-- A reply reaches its channel, and no core sees it. -/
@[simp] theorem State.deliver_lev (s : State) (o : Order) (status ticks queued : Nat) (data : List Byte) :
    (s.deliver o status ticks queued data).lev = s.lev := by
  unfold State.deliver
  dsimp only
  cases o.replyTo with
  | mailbox => exact s.mailboxAnswer_lev ..
  | background => rfl
  | vdm => exact s.emit_lev _
  | bus => exact s.emit_lev _
  | wayside => rfl
  | window => exact s.windowAnswer_lev ..
  | ledger => exact (apply_ite State.lev ..).trans (ite_self _)

@[simp] theorem State.unfreeze_lev (s : State) (o : Order) : (s.unfreeze o).lev = s.lev := by
  unfold State.unfreeze
  split
  · split <;> rfl
  · rfl

/-! ### A core whose order ends -/

/-- An order that ends leaves its core idle, with registers and memory as they were (R38, R59). -/
theorem State.endOrder_core {s : State} {c : Nat} {o : Order} (h : (s.core c).job = some o) (status : Nat) (data : List Byte) :
    (s.endOrder c status data).core c = (s.core c).idled := by
  have hlev : (s.endOrder c status data).lev = ((s.leaveCommit c).modCore c CoreState.idled).lev := by
    unfold State.endOrder
    dsimp only
    rw [h]
    simp
  calc (s.endOrder c status data).core c
      = ((s.leaveCommit c).modCore c CoreState.idled).core c :=
        congrArg (fun l : Lever => Tab.get ({} : CoreState) l.cores c) hlev
    _ = (s.core c).idled := State.core_modCore_self ..

/-! ### The reply block of a fault -/

/-- A run of bytes is put piece by piece. -/
theorem memPutBytes_append (m : Mem) (a : Nat) (l r : List Byte) :
    memPutBytes m a (l ++ r) = memPutBytes (memPutBytes m a l) (a + l.length) r := by
  induction l generalizing m a with
  | nil => rfl
  | cons b l ih =>
    simp only [List.cons_append, memPutBytes, List.length_cons, ih]
    congr 1
    omega

/-- What a fault puts in the reply block: the pc in bytes 0 to 7 and the instruction word in bytes 8 to 11 (R72). -/
def CoreState.faultData (k : CoreState) (word : BitVec 32) : List Byte := toLE 8 k.pc.toNat ++ toLE 4 word.toNat

/-- The local memory of a core after a fault of its order (R72). -/
def CoreState.faultMem (k : CoreState) (word : BitVec 32) : Mem := memPutBytes k.mem 0x3E000 (k.faultData word)

theorem CoreState.memBytes_faultMem (k : CoreState) (word : BitVec 32) :
    memBytes (k.faultMem word) 0x3E000 12 = k.faultData word := by
  have h := memBytes_memPutBytes k.mem 0x3E000 (k.faultData word)
  rwa [show (k.faultData word).length = 12 by simp [CoreState.faultData]] at h

/-- A fault on an order core ends its order (R72). -/
theorem State.leverFault_order {s : State} {c : Nat} (h : (s.core c).resident = false) (f : LeverFault) (word : BitVec 32) :
    s.leverFault c f word =
      (s.modCore c (fun k => { k with mem := (s.core c).faultMem word, replyLen := 12 })).endOrder c f.status
        ((s.core c).faultData word) := by
  have hblock : memPutNat (memPutNat (s.core c).mem 0x3E000 8 (s.core c).pc.toNat) 0x3E008 4 word.toNat
      = (s.core c).faultMem word := by
    simp only [CoreState.faultMem, CoreState.faultData, memPutBytes_append, toLE_length, memPutNat]
  unfold State.leverFault
  dsimp only
  rw [hblock, CoreState.memBytes_faultMem]
  simp only [h, Bool.false_eq_true, if_false]

/-- The core after a fault of its order: idle, with the bytes of R72 in its reply block. -/
theorem State.leverFault_core {s : State} {c : Nat} {o : Order} (hres : (s.core c).resident = false)
    (hjob : (s.core c).job = some o) (f : LeverFault) (word : BitVec 32) :
    (s.leverFault c f word).core c = { (s.core c).idled with mem := (s.core c).faultMem word, replyLen := 12 } := by
  rw [State.leverFault_order hres, State.endOrder_core (o := o) (by simpa using hjob), State.core_modCore_self]
  rfl

/-- The status word of a fault has its code in the detail (R71, R72). -/
theorem LeverFault.status_detail (f : LeverFault) : f.status / 256 = f.code := by
  cases f <;> rfl

end Sys2Proof.Machine
end

section
/-! SUPPORT. What the shapes of R49 that touch memory do on a core that runs (R50, R51, R589): BOUNDS, then ALIGN, then MEMERR, then the
access itself. -/

namespace Sys2Proof.Machine

/-! ### The regions of R51 -/

theorem mayRead_iff (a : Nat) : mayRead a = true ↔ a < 0x40000 ∨ (0x1000000 ≤ a ∧ a < 0x1800000) := by
  simp only [mayRead, Bool.or_eq_true, Bool.and_eq_true, decide_eq_true_eq]
  omega

theorem mayWrite_iff (u : CoreUse) (a : Nat) :
    mayWrite u a = true ↔ a < 0x3F000 ∨ (u ≠ .inline_ ∧ 0x1400000 ≤ a ∧ a < 0x1800000) := by
  have hlocal : a ≤ 0x3EFFF ↔ a < 0x3F000 := by omega
  have hshared : a ≤ 0x17FFFFF ↔ a < 0x1800000 := by omega
  simp only [mayWrite, Bool.or_eq_true, Bool.and_eq_true, decide_eq_true_eq, bne_iff_ne, hlocal, hshared]
  tauto

theorem mayExecute_iff (a : Nat) : mayExecute a = true ↔ a < 0x3E000 ∨ (0x1000000 ≤ a ∧ a < 0x1400000) := by
  simp only [mayExecute, Bool.or_eq_true, Bool.and_eq_true, decide_eq_true_eq]
  omega

theorem mayAmo_iff (u : CoreUse) (a : Nat) : mayAmo u a = true ↔ u ≠ .inline_ ∧ 0x1400000 ≤ a ∧ a < 0x1800000 := by
  rw [mayAmo, Bool.and_eq_true, decide_eq_true_eq, mayWrite_iff]
  constructor
  · rintro ⟨hlow, hlocal | hshared⟩
    · omega
    · exact hshared
  · exact fun hshared => ⟨hshared.2.1, .inr hshared⟩

/-! ### Loads, stores and AMOs -/

variable {s : State} {c : Core}

theorem State.load_bounds (h : s.runs c) {o : IOp} (ha : mayRead ((s.core c).ea o) = false) (op size : Nat) :
    s.load c o op size = s.leverFault c .bounds (o.word op) := by
  simp [State.load, State.leverRun_runs h, ha]

theorem State.load_align (h : s.runs c) {o : IOp} {size : Nat} (ha : mayRead ((s.core c).ea o) = true)
    (hs : (s.core c).ea o % size ≠ 0) (op : Nat) : s.load c o op size = s.leverFault c .align (o.word op) := by
  simp [State.load, State.leverRun_runs h, ha, hs]

theorem State.load_memErr (h : s.runs c) {o : IOp} {size : Nat} (ha : mayRead ((s.core c).ea o) = true)
    (hs : (s.core c).ea o % size = 0) (hb : s.badLever c ((s.core c).ea o) = true) (op : Nat) :
    s.load c o op size = s.leverMemErr c ((s.core c).ea o) (o.word op) := by
  simp [State.load, State.leverRun_runs h, ha, hs, hb]

theorem State.load_good (h : s.runs c) {o : IOp} {size : Nat} (ha : mayRead ((s.core c).ea o) = true)
    (hs : (s.core c).ea o % size = 0) (hb : s.badLever c ((s.core c).ea o) = false) (op : Nat) :
    s.load c o op size = s.retire c (fun k => k.setReg o.rd (BitVec.ofNat 64 (s.leverRead c ((s.core c).ea o) size))) := by
  simp [State.load, State.leverRun_runs h, ha, hs, hb]

theorem State.store_bounds (h : s.runs c) {o : IOp} (ha : mayWrite (s.core c).use ((s.core c).ea o) = false) (op size : Nat) :
    s.store c o op size = s.leverFault c .bounds (o.word op) := by
  simp [State.store, State.leverRun_runs h, ha]

theorem State.store_align (h : s.runs c) {o : IOp} {size : Nat} (ha : mayWrite (s.core c).use ((s.core c).ea o) = true)
    (hs : (s.core c).ea o % size ≠ 0) (op : Nat) : s.store c o op size = s.leverFault c .align (o.word op) := by
  simp [State.store, State.leverRun_runs h, ha, hs]

theorem State.amo_bounds (h : s.runs c) {o : RRR} (ha : mayAmo (s.core c).use ((s.core c).reg o.ra).toNat = false) (fn : Nat)
    (f : Word → Word → Word) : s.amo c o fn f = s.leverFault c .bounds (o.word 0x01 fn) := by
  simp [State.amo, State.leverRun_runs h, ha]

theorem State.amo_align (h : s.runs c) {o : RRR} (ha : mayAmo (s.core c).use ((s.core c).reg o.ra).toNat = true)
    (hs : ((s.core c).reg o.ra).toNat % 8 ≠ 0) (fn : Nat) (f : Word → Word → Word) :
    s.amo c o fn f = s.leverFault c .align (o.word 0x01 fn) := by
  simp [State.amo, State.leverRun_runs h, ha, hs]

theorem State.amo_memErr (h : s.runs c) {o : RRR} (ha : mayAmo (s.core c).use ((s.core c).reg o.ra).toNat = true)
    (hs : ((s.core c).reg o.ra).toNat % 8 = 0) (hb : s.badLever c ((s.core c).reg o.ra).toNat = true) (fn : Nat)
    (f : Word → Word → Word) :
    s.amo c o fn f = s.leverMemErr c ((s.core c).reg o.ra).toNat (o.word 0x01 fn) := by
  simp [State.amo, State.leverRun_runs h, ha, hs, hb]

end Sys2Proof.Machine
end

section
/-! Access faults (O5): one lemma per kind of access on a core that runs, one for what a fault does to an order core. -/

namespace Sys2Proof.Machine

section
variable {s : State} {c : Core} (h : s.runs c)
include h

/-- Loads: BOUNDS outside the readable regions, ALIGN within them off a multiple of the size, MEMERR at a bad word (R50, R589). -/
theorem load_faults (o : IOp) :
    let a := ((s.core c).reg o.ra + o.imm.signExtend 64).toNat
    (mayRead a = false →
      exec (.ld c o) s = .next (s.leverFault c .bounds (o.word 0x18)) ∧
      exec (.lw c o) s = .next (s.leverFault c .bounds (o.word 0x19)) ∧
      exec (.lb c o) s = .next (s.leverFault c .bounds (o.word 0x1A))) ∧
    (mayRead a = true →
      (a % 8 ≠ 0 → exec (.ld c o) s = .next (s.leverFault c .align (o.word 0x18))) ∧
      (a % 4 ≠ 0 → exec (.lw c o) s = .next (s.leverFault c .align (o.word 0x19)))) ∧
    (mayRead a = true → s.badLever c a = true →
      (a % 8 = 0 → exec (.ld c o) s = .next (s.leverMemErr c a (o.word 0x18))) ∧
      (a % 4 = 0 → exec (.lw c o) s = .next (s.leverMemErr c a (o.word 0x19))) ∧
      exec (.lb c o) s = .next (s.leverMemErr c a (o.word 0x1A))) := by
  refine ⟨fun ha => ⟨?_, ?_, ?_⟩, fun ha => ⟨fun hs => ?_, fun hs => ?_⟩, fun ha hb => ⟨fun hs => ?_, fun hs => ?_, ?_⟩⟩
  · exact congrArg _ (State.load_bounds h ha _ _)
  · exact congrArg _ (State.load_bounds h ha _ _)
  · exact congrArg _ (State.load_bounds h ha _ _)
  · exact congrArg _ (State.load_align h ha hs _)
  · exact congrArg _ (State.load_align h ha hs _)
  · exact congrArg _ (State.load_memErr h ha hs hb _)
  · exact congrArg _ (State.load_memErr h ha hs hb _)
  · exact congrArg _ (State.load_memErr h ha (Nat.mod_one _) hb _)

/-- Stores: BOUNDS outside the writable regions, ALIGN within them off a multiple of the size (R50). -/
theorem store_faults (o : IOp) :
    let a := ((s.core c).reg o.ra + o.imm.signExtend 64).toNat
    (mayWrite (s.core c).use a = false →
      exec (.sd c o) s = .next (s.leverFault c .bounds (o.word 0x1C)) ∧
      exec (.sw c o) s = .next (s.leverFault c .bounds (o.word 0x1D)) ∧
      exec (.sb c o) s = .next (s.leverFault c .bounds (o.word 0x1E))) ∧
    (mayWrite (s.core c).use a = true →
      (a % 8 ≠ 0 → exec (.sd c o) s = .next (s.leverFault c .align (o.word 0x1C))) ∧
      (a % 4 ≠ 0 → exec (.sw c o) s = .next (s.leverFault c .align (o.word 0x1D)))) := by
  refine ⟨fun ha => ⟨?_, ?_, ?_⟩, fun ha => ⟨fun hs => ?_, fun hs => ?_⟩⟩
  · exact congrArg _ (State.store_bounds h ha _ _)
  · exact congrArg _ (State.store_bounds h ha _ _)
  · exact congrArg _ (State.store_bounds h ha _ _)
  · exact congrArg _ (State.store_align h ha hs _)
  · exact congrArg _ (State.store_align h ha hs _)

end

/-- A property of all four AMOs holds where it holds of the group's shape, whatever the function (R49). -/
theorem amo_all {s : State} {c : Core} {o : RRR} {t : BitVec 32 → State} (ht : ∀ fn f, s.amo c o fn f = t (o.word 0x01 fn)) :
    exec (.amoadd c o) s = .next (t (o.word 0x01 0x000)) ∧ exec (.amoswap c o) s = .next (t (o.word 0x01 0x001)) ∧
    exec (.amoand c o) s = .next (t (o.word 0x01 0x002)) ∧ exec (.amoor c o) s = .next (t (o.word 0x01 0x003)) :=
  ⟨congrArg _ (ht _ _), congrArg _ (ht _ _), congrArg _ (ht _ _), congrArg _ (ht _ _)⟩

/-- Settles O5: the regions of R51 by arithmetic, each access by the order of its checks, and a fault of an order core by what its end
leaves of the core. -/
theorem accessFaults : Obligations.AccessFaults := by
  refine ⟨fun u a => ⟨mayRead_iff a, mayWrite_iff u a, mayExecute_iff a, mayAmo_iff u a⟩, fun c s h => ⟨fun o => ?_, fun o => ?_⟩,
    fun c s j f w hjob hres _ => ?_⟩
  · obtain ⟨hbounds, halign, hmem⟩ := load_faults h o
    exact ⟨hbounds, halign, hmem, store_faults h o⟩
  · exact ⟨fun ha => amo_all (State.amo_bounds h ha), fun ha hs => amo_all (State.amo_align h ha hs),
      fun ha hs hb => amo_all (State.amo_memErr h ha hs hb)⟩
  · intro t data
    have hcore : t.core c = { (s.core c).idled with mem := (s.core c).faultMem w, replyLen := 12 } :=
      State.leverFault_core hres hjob f w
    rw [hcore]
    exact ⟨State.leverFault_order hres f w, rfl, rfl, rfl, rfl, (s.core c).memBytes_faultMem w, f.status_detail⟩

end Sys2Proof.Machine
end

section
/-! Register g0 (R39): what it reads, and that an instruction whose destination it is changes no register of any core. -/

namespace Sys2Proof.Machine

@[simp] theorem CoreState.reg_zero (k : CoreState) : k.reg 0 = 0 := rfl

@[simp] theorem CoreState.setReg_zero (k : CoreState) (v : Word) : k.setReg 0 v = k := rfl

/-- Every register of every core reads as before. -/
def SameRegisters (s t : State) : Prop := ∀ (d : Nat) (r : BitVec 5), (t.core d).reg r = (s.core d).reg r

/-- A change of a core that leaves its register file alone leaves every register of every core. -/
theorem State.modCore_sameRegisters {s : State} {c : Nat} {f : CoreState → CoreState} (hf : (f (s.core c)).g = (s.core c).g) :
    SameRegisters s (s.modCore c f) := by
  intro d r
  rw [State.core_modCore]
  split
  next hd => subst hd; simp only [CoreState.reg, hf]
  next => rfl

/-- An instruction that completes with a write to g0 leaves every register. -/
theorem State.retire_setReg_zero (s : State) (c : Nat) {rd : BitVec 5} (hrd : rd = 0) (v : CoreState → Word) :
    SameRegisters s (s.retire c (fun k => k.setReg rd (v k))) := by
  subst hrd
  exact State.modCore_sameRegisters rfl

section
variable {s : State} {c : Core} (h : s.runs c)
include h

theorem State.aluRRR_zero {o : RRR} (hrd : o.rd = 0) (fn : Nat) (f : Word → Word → Word) :
    SameRegisters s (s.aluRRR c o fn f) := by
  rw [State.aluRRR, State.leverRun_runs h]
  exact s.retire_setReg_zero c hrd _

theorem State.aluImm_zero {o : IOp} (hrd : o.rd = 0) (op : Nat) (f : CoreState → Word) :
    SameRegisters s (s.aluImm c o op true f) := by
  rw [State.aluImm, State.leverEncoded_runs h]
  exact s.retire_setReg_zero c hrd f

theorem State.load_zero {o : IOp} {size : Nat} (hrd : o.rd = 0) (ha : mayRead ((s.core c).ea o) = true)
    (hs : (s.core c).ea o % size = 0) (hb : s.badLever c ((s.core c).ea o) = false) (op : Nat) :
    SameRegisters s (s.load c o op size) := by
  rw [State.load_good h ha hs hb]
  exact s.retire_setReg_zero c hrd _

theorem execJalr_zero {o : IOp} (hrd : o.rd = 0) : Leads (.jalr c o) s (SameRegisters s) := by
  refine ⟨_, congrArg Host.Outcome.next (State.leverRun_runs h _ _), State.modCore_sameRegisters ?_⟩
  rw [hrd, CoreState.setReg_zero]

/-- A system instruction that only reads a value into G[rd] leaves every register where that is g0. -/
theorem State.sys_zero {o : SOp} (hrd : o.rd = 0) (hra : o.ra = 0) (fn : Nat) (v : State → CoreState → Word) :
    SameRegisters s (s.sys c o fn true false (fun s => s.retire c (fun k => k.setReg o.rd (v s k)))) := by
  rw [State.sys, State.leverEncoded_runs h, hra]
  exact s.retire_setReg_zero c hrd (v s)

end

/-- Settles O58: a write to g0 leaves the register file of its core as it was, and no instruction touches another core's. -/
theorem zeroRegister : Obligations.ZeroRegister := by
  refine ⟨fun s c => (s.core c).reg_zero, fun c s h => ⟨fun o hrd => ⟨?_, ?_, ?_, ?_⟩, fun o hrd => ⟨?_, ?_, ?_, fun ha hb => ?_⟩,
    fun o hrd hra => ⟨?_, ?_⟩⟩⟩
  · exact ⟨_, rfl, State.aluRRR_zero h hrd _ _⟩
  · exact ⟨_, rfl, State.aluRRR_zero h hrd _ _⟩
  · exact ⟨_, rfl, State.aluRRR_zero h hrd _ _⟩
  · exact ⟨_, rfl, State.aluRRR_zero h hrd _ _⟩
  · exact ⟨_, rfl, State.aluImm_zero h hrd _ _⟩
  · exact ⟨_, rfl, State.aluImm_zero h hrd _ _⟩
  · exact execJalr_zero h hrd
  · exact ⟨_, rfl, State.load_zero h hrd ha (Nat.mod_one _) hb _⟩
  · exact ⟨_, rfl, State.sys_zero h hrd hra _ (fun s _ => BitVec.ofNat 64 s.ftb)⟩
  · exact ⟨_, rfl, State.sys_zero h hrd hra _ (fun _ k => k.submitter)⟩

end Sys2Proof.Machine
end

section
/-! SUPPORT. Fuses only gain bits (R540): each way that OTP is written keeps what is blown. -/

namespace Sys2Proof.Machine

/-! ### Bits and bytes -/

@[simp] theorem bitsKept_refl (a : Nat) : bitsKept a a := Nat.or_self a

@[simp] theorem bitsKept_or (a b : Nat) : bitsKept a (a ||| b) := by
  rw [bitsKept, ← Nat.or_assoc, Nat.or_self]

theorem bitsKept.trans {a b c : Nat} (hab : bitsKept a b) (hbc : bitsKept b c) : bitsKept a c :=
  calc a ||| c = a ||| (b ||| c) := by rw [show b ||| c = c from hbc]
    _ = (a ||| b) ||| c := (Nat.or_assoc ..).symm
    _ = c := by rw [show a ||| b = b from hab, show b ||| c = c from hbc]

@[simp] theorem bytesKept_refl (a : List Byte) : bytesKept a a := fun _ => BitVec.or_self

theorem bytesKept.trans {a b c : List Byte} (hab : bytesKept a b) (hbc : bytesKept b c) : bytesKept a c := fun i => by
  rw [← hbc i, ← BitVec.or_assoc, hab i]

/-- A blank byte string reads zero at every place. -/
theorem getD_zero_of_blank {l : List Byte} (h : l.any (· != 0) = false) (i : Nat) : l.getD i 0 = 0 := by
  rw [List.getD_eq_getElem?_getD]
  cases hi : l[i]? with
  | none => rfl
  | some b => simpa using List.any_eq_false.1 h b (List.mem_of_getElem? hi)

/-- Nothing is blown in a blank byte string. -/
theorem bytesKept_of_blank {l : List Byte} (h : l.any (· != 0) = false) (m : List Byte) : bytesKept l m := fun i => by
  rw [getD_zero_of_blank h i]
  exact BitVec.zero_or

/-- A byte string in which nothing is set from place 64 on, where `fuseBytes` writes nothing. -/
def ZeroFrom64 (l : List Byte) : Prop := ∀ i, 64 ≤ i → l.getD i 0 = 0

theorem fuseBytes_getD (old v : List Byte) (i : Nat) :
    (fuseBytes old v).getD i 0 = if i < 64 then old.getD i 0 ||| v.getD i 0 else 0 := by
  unfold fuseBytes
  split
  next h => simp [List.getD_eq_getElem?_getD, h]
  next h => exact List.getD_eq_default _ _ (by simpa using h)

theorem zeroFrom64_fuseBytes (old v : List Byte) : ZeroFrom64 (fuseBytes old v) := fun i h => by
  rw [fuseBytes_getD, if_neg (by omega)]

/-- Fusing a root-key hash keeps its blown bits: the hash takes 64 bytes (R538). -/
theorem bytesKept_fuseBytes {old : List Byte} (h : ZeroFrom64 old) (v : List Byte) : bytesKept old (fuseBytes old v) := fun i => by
  rw [fuseBytes_getD]
  split
  next => rw [← BitVec.or_assoc, BitVec.or_self]
  next hi => rw [h i (by omega), BitVec.or_self]

/-! ### Images of OTP -/

@[simp] theorem Otp.keeps_refl (o : Otp) : o.keeps o := by constructor <;> simp

theorem Otp.keeps.trans {a b c : Otp} (hab : a.keeps b) (hbc : b.keeps c) : a.keeps c where
  part := hab.part.trans hbc.part
  lifecycle := hab.lifecycle.trans hbc.lifecycle
  serial := hab.serial.trans hbc.serial
  fdi := hab.fdi.trans hbc.fdi
  uds := hab.uds.trans hbc.uds
  roots k := (hab.roots k).trans (hbc.roots k)
  rootFlags k := (hab.rootFlags k).trans (hbc.rootFlags k)
  ilimCeil := hab.ilimCeil.trans hbc.ilimCeil
  plimCeil := hab.plimCeil.trans hbc.plimCeil
  tempCeil := hab.tempCeil.trans hbc.tempCeil
  rsense := hab.rsense.trans hbc.rsense
  tAmb := hab.tAmb.trans hbc.tAmb
  fastPole := hab.fastPole.trans hbc.fastPole
  slowPole := hab.slowPole.trans hbc.slowPole
  vfloor := hab.vfloor.trans hbc.vfloor

/-- A table in which one entry has gained bits keeps the bits of every entry. -/
theorem bitsKept_modify_or (t : Tab Nat) (k v j : Nat) : bitsKept (Tab.get 0 t j) (Tab.get 0 (Tab.modify 0 t k (· ||| v)) j) := by
  rw [Tab.get_modify]
  split
  next h => rw [h]; exact bitsKept_or ..
  next => exact bitsKept_refl _

theorem bytesKept_modify_fuseBytes {t : Tab (List Byte)} {k : Nat} (h : ZeroFrom64 (Tab.get [] t k)) (v : List Byte) (j : Nat) :
    bytesKept (Tab.get [] t j) (Tab.get [] (Tab.modify [] t k (fun old => fuseBytes old v)) j) := by
  rw [Tab.get_modify]
  split
  next hj => rw [← hj]; exact bytesKept_fuseBytes h v
  next => exact bytesKept_refl _

/-! ### The items of a PROVISION token -/

/-- ROOT1 to ROOT3, the root-key fields that a token may provision (R561). -/
def IsRoot (f : Nat) : Prop := f = 0x11 ∨ f = 0x12 ∨ f = 0x13

/-- Where a field is a root key, its slot has nothing blown beyond the 64 bytes of a hash (R538). -/
def Otp.rootFits (o : Otp) (f : Nat) : Prop := IsRoot f → ZeroFrom64 (Tab.get [] o.roots (f - 0x10))

theorem Otp.fuse_root {f : Nat} (h : IsRoot f) (o : Otp) (v : List Byte) : o.fuse f v =
    { o with
      roots := Tab.modify [] o.roots (f - 0x10) (fun old => fuseBytes old v)
      rootFlags := Tab.modify 0 o.rootFlags (f - 0x10) (· ||| fieldAt v 64 1) } := by
  rcases h with rfl | rfl | rfl <;> rfl

/-- A field that is no root key is fused bit by bit, and no slot of a root key changes. -/
theorem Otp.fuse_number {f : Nat} (h : ¬ IsRoot f) (o : Otp) (v : List Byte) :
    o.keeps (o.fuse f v) ∧ (o.fuse f v).roots = o.roots := by
  unfold Otp.fuse
  split
  case h_1 | h_2 | h_3 => exact (h (by simp [IsRoot])).elim
  all_goals exact ⟨by constructor <;> simp [fuseBits], rfl⟩

theorem Otp.keeps_fuse {o : Otp} {f : Nat} (h : o.rootFits f) (v : List Byte) : o.keeps (o.fuse f v) := by
  by_cases hf : IsRoot f
  · rw [Otp.fuse_root hf]
    exact { o.keeps_refl with
      roots := bytesKept_modify_fuseBytes (h hf) v
      rootFlags := bitsKept_modify_or o.rootFlags (f - 0x10) _ }
  · exact (Otp.fuse_number hf o v).1

theorem Otp.rootFits_fuse {o : Otp} {g : Nat} (h : o.rootFits g) (f : Nat) (v : List Byte) : (o.fuse f v).rootFits g := by
  intro hg
  by_cases hf : IsRoot f
  · rw [Otp.fuse_root hf]
    simp only [Tab.get_modify]
    split
    next => exact zeroFrom64_fuseBytes _ v
    next => exact h hg
  · rw [(Otp.fuse_number hf o v).2]
    exact h hg

theorem Otp.keeps_foldl_fuse (items : List (Nat × List Byte)) (o : Otp) (h : ∀ e ∈ items, o.rootFits e.1) :
    o.keeps (items.foldl (fun o e => o.fuse e.1 e.2) o) := by
  induction items generalizing o with
  | nil => exact o.keeps_refl
  | cons e items ih =>
    obtain ⟨he, hitems⟩ := List.forall_mem_cons.1 h
    exact (Otp.keeps_fuse he e.2).trans (ih _ fun x hx => Otp.rootFits_fuse (hitems x hx) e.1 e.2)

/-- An item that may be provisioned finds its field blank (R561). -/
theorem Otp.rootFits_of_mayFuse {o : Otp} {f : Nat} {v : List Byte} (h : o.mayFuse f v = true) : o.rootFits f := by
  intro hf i _
  have hblank : o.blank f = true := (Bool.and_eq_true_iff.1 h).1
  apply getD_zero_of_blank
  rcases hf with rfl | rfl | rfl <;> simpa using (Bool.and_eq_true_iff.1 hblank).1

end Sys2Proof.Machine
end

section
/-! SUPPORT. What the boot ROM's work in phase 0 does to OTP (R540, R541, R561). -/

namespace Sys2Proof.Machine

theorem State.otp_of_fixed {s t : State} (h : t.fixed = s.fixed) : t.otp = s.otp := congrArg Fixed.otp h

/-! ### Tokens -/

theorem State.tokenEffect_keeps {s u : State} {t : List Byte} (h : s.tokenEffect t = some u) : s.otp.keeps u.otp := by
  unfold State.tokenEffect at h
  split at h
  case h_1 =>
    obtain ⟨_, hu⟩ := Option.ite_none_right_eq_some.1 h
    cases hu
    exact Otp.keeps_refl _
  case h_2 =>
    obtain ⟨_, hu⟩ := Option.ite_none_left_eq_some.1 h
    cases hu
    exact { s.otp.keeps_refl with rootFlags := bitsKept_modify_or s.otp.rootFlags _ 4 }
  case h_3 =>
    obtain ⟨_, hu⟩ := Option.ite_none_right_eq_some.1 h
    cases hu
    exact { s.otp.keeps_refl with lifecycle := bitsKept_or _ 3 }
  case h_4 =>
    split at h
    next => cases h
    next items _ =>
      obtain ⟨hall, hu⟩ := Option.ite_none_right_eq_some.1 h
      cases hu
      exact Otp.keeps_foldl_fuse items s.otp fun e he => Otp.rootFits_of_mayFuse (List.all_eq_true.1 hall e he)

/-- The pending token of a state verifies, and carrying it out leads to another state (R561). -/
def State.TokenActs (s u : State) : Prop :=
  ∃ token, s.ledger.token = some token ∧ s.tokenFault token = none ∧ s.tokenEffect token = some u

/-- Processing the pending token leaves OTP as it was, or as the effect of a token that verifies leaves it. -/
theorem State.applyToken_otp (s : State) (fuseFailed : Bool) :
    (s.applyToken fuseFailed).otp = s.otp ∨ ∃ u, s.TokenActs u ∧ (s.applyToken fuseFailed).otp = u.otp := by
  unfold State.applyToken
  dsimp only
  split
  next => exact .inl (State.otp_of_fixed (by simp))
  next token htoken =>
    split
    next => exact .inl (State.otp_of_fixed (by simp))
    next hfault =>
      split
      next => exact .inl (State.otp_of_fixed (by simp))
      next u hu =>
        split
        next => exact .inl (State.otp_of_fixed (by simp))
        next => exact .inr ⟨u, ⟨token, htoken, hfault, hu⟩, State.otp_of_fixed (by simp)⟩

/-! ### A cold reset -/

/-- UDS is fused while it is blank (R540). -/
def State.udsFused (s : State) (random : List Byte) : State :=
  if s.otp.uds.any (· != 0) then s else { s with otp := { s.otp with uds := random } }

/-- The state in which the ROM processes a token: UDS is fused and the lifecycle of OTP is in use. -/
def State.udsBooted (s : State) (random : List Byte) : State :=
  (s.udsFused random).modSec (fun x => { x with lifecycle := (s.udsFused random).otp.lifecycle })

theorem State.coldWork_eq (s : State) (fuseFailed : Bool) (random : List Byte) :
    s.coldWork fuseFailed random = (s.udsBooted random).applyToken fuseFailed := rfl

@[simp] theorem State.udsBooted_otp (s : State) (random : List Byte) : (s.udsBooted random).otp = (s.udsFused random).otp := rfl

@[simp] theorem State.udsBooted_ledger (s : State) (random : List Byte) : (s.udsBooted random).ledger = s.ledger :=
  (apply_ite State.ledger ..).trans (ite_self _)

theorem State.udsFused_keeps (s : State) (random : List Byte) : s.otp.keeps (s.udsFused random).otp := by
  unfold State.udsFused
  split
  next => exact Otp.keeps_refl _
  next h => exact { s.otp.keeps_refl with uds := bytesKept_of_blank (Bool.eq_false_iff.2 h) random }

theorem State.coldWork_keeps (s : State) (fuseFailed : Bool) (random : List Byte) :
    s.otp.keeps (s.coldWork fuseFailed random).otp := by
  rw [State.coldWork_eq]
  rcases (s.udsBooted random).applyToken_otp fuseFailed with h | ⟨u, ⟨_, _, _, hu⟩, h⟩
  · rw [h]
    exact s.udsFused_keeps random
  · rw [h]
    have hu : (s.udsFused random).otp.keeps u.otp := State.tokenEffect_keeps (s := s.udsBooted random) hu
    exact (s.udsFused_keeps random).trans hu

/-! ### The control area -/

/-- What decides whether phase 0 processes a token, and which (R561). -/
structure ColdToken where
  cold : Bool
  token : Option (List Byte)

/-- The two of a state. -/
def State.coldToken (s : State) : ColdToken := ⟨s.boot.cold, s.ledger.token⟩

@[simp] theorem State.devicePut_coldToken (s : State) (f : Fld) (idx sub v : Nat) :
    (s.devicePut f idx sub v).coldToken = s.coldToken := by
  unfold State.devicePut
  split <;> rfl

@[simp] theorem State.eventMsi_coldToken (s : State) (t : Nat) : (s.eventMsi t).coldToken = s.coldToken := by
  unfold State.eventMsi
  dsimp only
  rw [apply_ite State.coldToken]
  split_ifs
  · cases s.msiPort t with
    | none => rfl
    | some p => simp [State.coldToken]
  · rfl

@[simp] theorem State.raiseVector_coldToken (s : State) (n : Nat) (owner : Option Nat) :
    (s.raiseVector n owner).coldToken = s.coldToken := by
  have hmiss : s.missRaise.coldToken = s.coldToken := rfl
  have htenant : ∀ t f, (s.missRaise.modTenant t f).coldToken = s.coldToken := fun _ _ => rfl
  simp only [State.raiseVector, apply_ite State.coldToken, State.eventMsi_coldToken, State.devicePut_coldToken, hmiss,
    htenant, ite_self]

theorem State.ledgerError_coldToken (s : State) : s.ledgerError.coldToken = s.coldToken :=
  State.raiseVector_coldToken ..

/-- Reading the control area changes neither the kind of the reset nor the token. -/
theorem State.readControl_coldToken (s : State) : s.readControl.coldToken = s.coldToken := by
  have herror : (if s.ledgerBad 0 28 || s.ledgerBad 2048 28 then s.ledgerError else s).coldToken = s.coldToken :=
    (apply_ite State.coldToken ..).trans (by rw [State.ledgerError_coldToken, ite_self])
  unfold State.readControl
  dsimp only
  split
  next =>
    split
    · exact herror
    · exact herror
  next => exact herror

/-! ### Phase 0 -/

/-- In phase 0 OTP stays as it was, or the ROM runs and a cold reset's work writes it. -/
theorem execBootPhase0_otp {otpError fuseFailed : Bool} {random : List Byte} {s t : State}
    (h : execBootPhase0 otpError fuseFailed random s = .next t) :
    t.otp = s.otp ∨ s.phaseReady 0 = true ∧ s.boot.tapHold = false ∧ s.boot.cold = true ∧
      t.otp = (s.readControl.coldWork fuseFailed random).otp := by
  cases h
  split
  next hready =>
    obtain ⟨hphase, hhold⟩ := Bool.and_eq_true_iff.1 hready
    dsimp only
    split
    next => exact .inl (State.otp_of_fixed (by simp))
    next =>
      split
      next => exact .inl (State.otp_of_fixed (by simp))
      next =>
        split
        next => exact .inl (State.otp_of_fixed (by simp))
        next =>
          split
          next hcold =>
            have hs : s.boot.cold = true := (congrArg ColdToken.cold s.readControl_coldToken).symm.trans hcold
            exact .inr ⟨hphase, by simpa using hhold, hs, State.otp_of_fixed (by simp)⟩
          next => exact .inl (State.otp_of_fixed (by simp))
  next => exact .inl rfl

theorem execBootPhase0_keeps {otpError fuseFailed : Bool} {random : List Byte} {s t : State}
    (h : execBootPhase0 otpError fuseFailed random s = .next t) : s.otp.keeps t.otp := by
  rcases execBootPhase0_otp h with h | ⟨_, _, _, h⟩
  · rw [h]
    exact Otp.keeps_refl _
  · rw [h, ← State.otp_of_fixed s.readControl_fixed]
    exact State.coldWork_keeps ..

end Sys2Proof.Machine
end

section
/-! Who writes OTP (O57): no command but BOOT_PHASE_0, and of its work only what a cold reset does. -/

namespace Sys2Proof.Machine

/-- Every command but BOOT_PHASE_0 leaves OTP and the waiting commands alone: each by the frame of its arm. -/
theorem exec_keeps_of_ne_bootPhase0 : (i : Instr) → (s : State) → (∀ bad fuse random, i ≠ .bootPhase0 bad fuse random) →
    Result.keeps (exec i s) s
  | .add .., s, _ => execAdd_fixed _ _ s
  | .sub .., s, _ => execSub_fixed _ _ s
  | .andAlu .., s, _ => execAndAlu_fixed _ _ s
  | .orAlu .., s, _ => execOrAlu_fixed _ _ s
  | .xorAlu .., s, _ => execXorAlu_fixed _ _ s
  | .sll .., s, _ => execSll_fixed _ _ s
  | .srl .., s, _ => execSrl_fixed _ _ s
  | .sra .., s, _ => execSra_fixed _ _ s
  | .slt .., s, _ => execSlt_fixed _ _ s
  | .sltu .., s, _ => execSltu_fixed _ _ s
  | .mul .., s, _ => execMul_fixed _ _ s
  | .mulhu .., s, _ => execMulhu_fixed _ _ s
  | .divu .., s, _ => execDivu_fixed _ _ s
  | .remu .., s, _ => execRemu_fixed _ _ s
  | .minu .., s, _ => execMinu_fixed _ _ s
  | .maxu .., s, _ => execMaxu_fixed _ _ s
  | .amoadd .., s, _ => execAmoadd_fixed _ _ s
  | .amoswap .., s, _ => execAmoswap_fixed _ _ s
  | .amoand .., s, _ => execAmoand_fixed _ _ s
  | .amoor .., s, _ => execAmoor_fixed _ _ s
  | .addi .., s, _ => execAddi_fixed _ _ s
  | .andi .., s, _ => execAndi_fixed _ _ s
  | .ori .., s, _ => execOri_fixed _ _ s
  | .xori .., s, _ => execXori_fixed _ _ s
  | .extField .., s, _ => execExtField_fixed _ _ s
  | .insField .., s, _ => execInsField_fixed _ _ s
  | .lui .., s, _ => execLui_fixed _ _ s
  | .shor .., s, _ => execShor_fixed _ _ s
  | .slti .., s, _ => execSlti_fixed _ _ s
  | .sltiu .., s, _ => execSltiu_fixed _ _ s
  | .slli .., s, _ => execSlli_fixed _ _ s
  | .srli .., s, _ => execSrli_fixed _ _ s
  | .srai .., s, _ => execSrai_fixed _ _ s
  | .ld .., s, _ => execLd_fixed _ _ s
  | .lw .., s, _ => execLw_fixed _ _ s
  | .lb .., s, _ => execLb_fixed _ _ s
  | .sd .., s, _ => execSd_fixed _ _ s
  | .sw .., s, _ => execSw_fixed _ _ s
  | .sb .., s, _ => execSb_fixed _ _ s
  | .jal .., s, _ => execJal_fixed _ _ s
  | .jalr .., s, _ => execJalr_fixed _ _ s
  | .beq .., s, _ => execBeq_fixed _ _ s
  | .bne .., s, _ => execBne_fixed _ _ s
  | .blt .., s, _ => execBlt_fixed _ _ s
  | .bge .., s, _ => execBge_fixed _ _ s
  | .bltu .., s, _ => execBltu_fixed _ _ s
  | .bgeu .., s, _ => execBgeu_fixed _ _ s
  | .openObj .., s, _ => execOpenObj_fixed _ _ s
  | .ldf .., s, _ => execLdf_fixed _ _ s
  | .stf .., s, _ => execStf_fixed _ _ s
  | .newObj .., s, _ => execNewObj_fixed _ _ s
  | .delObj .., s, _ => execDelObj_fixed _ _ s
  | .commitBuf .., s, _ => execCommitBuf_fixed _ _ s
  | .commitUnitGrant .., s, _ => execCommitUnitGrant_fixed _ s
  | .commitRoundBoundary, s, _ => execCommitRoundBoundary_fixed s
  | .doneOrder .., s, _ => execDoneOrder_fixed _ _ s
  | .failOrder .., s, _ => execFailOrder_fixed _ _ s
  | .timeNow .., s, _ => execTimeNow_fixed _ _ s
  | .roundCount .., s, _ => execRoundCount_fixed _ _ s
  | .who .., s, _ => execWho_fixed _ _ s
  | .rlen .., s, _ => execRlen_fixed _ _ s
  | .raiseEvent .., s, _ => execRaiseEvent_fixed _ _ s
  | .waitUntil .., s, _ => execWaitUntil_fixed _ _ s
  | .waitExpiry .., s, _ => execWaitExpiry_fixed _ s
  | .fence .., s, _ => execFence_fixed _ _ s
  | .pet .., s, _ => execPet_fixed _ _ s
  | .brk .., s, _ => execBrk_fixed _ _ s
  | .coreNumber .., s, _ => execCoreNumber_fixed _ _ s
  | .leverTimeLimit .., s, _ => execLeverTimeLimit_fixed _ s
  | .residentWatchdog .., s, _ => execResidentWatchdog_fixed _ s
  | .submitOrder .., s, _ => execSubmitOrder_fixed _ s
  | .vendorOpcodeUnsupported .., s, _ => execVendorOpcodeUnsupported_fixed _ _ s
  | .twGo .., s, _ => execTwGo_fixed _ _ s
  | .orderDispatch .., s, _ => execOrderDispatch_fixed _ s
  | .orderDeadline .., s, _ => execOrderDeadline_fixed _ s
  | .identifySwitchDevice .., s, _ => execIdentifySwitchDevice_fixed _ s
  | .getPhysicalPortState .., s, _ => execGetPhysicalPortState_fixed _ _ _ s
  | .physicalPortControl .., s, _ => execPhysicalPortControl_fixed _ _ _ s
  | .sendPpbCxlioConfigRequest .., s, _ => execSendPpbCxlioConfigRequest_fixed _ _ _ _ _ _ s
  | .getVirtualCxlSwitchInfo .., s, _ => execGetVirtualCxlSwitchInfo_fixed _ _ _ s
  | .bindVppb .., s, _ => execBindVppb_fixed _ _ _ _ _ _ s
  | .unbindVppb .., s, _ => execUnbindVppb_fixed _ _ _ _ s
  | .generateAerEvent .., s, _ => execGenerateAerEvent_fixed _ _ _ _ _ s
  | .tunnelManagementCommand .., s, _ => execTunnelManagementCommand_fixed _ _ _ _ s
  | .sendLdCxlioConfigRequest .., s, _ => execSendLdCxlioConfigRequest_fixed _ _ _ _ s
  | .sendLdCxlioMemoryRequest .., s, _ => execSendLdCxlioMemoryRequest_fixed _ _ _ _ s
  | .pbrAndGfdCommand .., s, _ => execPbrAndGfdCommand_fixed _ _ s
  | .backgroundComplete, s, _ => execBackgroundComplete_fixed s
  | .portSet .., s, _ => execPortSet_fixed _ s
  | .bifurcate .., s, _ => execBifurcate_fixed _ s
  | .laneRemap .., s, _ => execLaneRemap_fixed _ s
  | .portCtlAssertPerst .., s, _ => execPortCtlAssertPerst_fixed _ s
  | .portCtlReleasePerst .., s, _ => execPortCtlReleasePerst_fixed _ s
  | .portCtlResetPpb .., s, _ => execPortCtlResetPpb_fixed _ s
  | .hotResetEnd .., s, _ => execHotResetEnd_fixed _ s
  | .portCtlDisableLink .., s, _ => execPortCtlDisableLink_fixed _ s
  | .portCtlEnableLink .., s, _ => execPortCtlEnableLink_fixed _ s
  | .portCtlContain .., s, _ => execPortCtlContain_fixed _ s
  | .portCtlReleaseContainment .., s, _ => execPortCtlReleaseContainment_fixed _ s
  | .ppbCfgRead .., s, _ => execPpbCfgRead_fixed _ s
  | .ppbCfgWrite .., s, _ => execPpbCfgWrite_fixed _ s
  | .ppbCfgCompletion .., s, _ => execPpbCfgCompletion_fixed _ _ _ s
  | .ppbCfgTimeout .., s, _ => execPpbCfgTimeout_fixed _ s
  | .vcsSet .., s, _ => execVcsSet_fixed _ s
  | .bind .., s, _ => execBind_fixed _ s
  | .unbindWaitLinkDown .., s, _ => execUnbindWaitLinkDown_fixed _ s
  | .unbindManagedHotRemove .., s, _ => execUnbindManagedHotRemove_fixed _ s
  | .unbindSurpriseHotRemove .., s, _ => execUnbindSurpriseHotRemove_fixed _ s
  | .pbrSet .., s, _ => execPbrSet_fixed _ s
  | .ldTunnel .., s, _ => execLdTunnel_fixed _ s
  | .ldTunnelResponse .., s, _ => execLdTunnelResponse_fixed _ _ s
  | .ldTunnelTimeout .., s, _ => execLdTunnelTimeout_fixed _ s
  | .aerGen .., s, _ => execAerGen_fixed _ s
  | .tenantCreate .., s, _ => execTenantCreate_fixed _ s
  | .tenantReset .., s, _ => execTenantReset_fixed _ s
  | .tenantResetRequestsDone .., s, _ => execTenantResetRequestsDone_fixed _ s
  | .tenantResetTimeout .., s, _ => execTenantResetTimeout_fixed _ s
  | .tenantResetDone .., s, _ => execTenantResetDone_fixed _ s
  | .tenantDestroy .., s, _ => execTenantDestroy_fixed _ s
  | .tenantMap .., s, _ => execTenantMap_fixed _ s
  | .ruleStage .., s, _ => execRuleStage_fixed _ s
  | .bankSwap .., s, _ => execBankSwap_fixed _ s
  | .gleanerStop .., s, _ => execGleanerStop_fixed _ s
  | .gleanerStart .., s, _ => execGleanerStart_fixed _ s
  | .gleanerNewPass .., s, _ => execGleanerNewPass_fixed _ s
  | .gleanerSetTail .., s, _ => execGleanerSetTail_fixed _ s
  | .gleanerPassFinal .., s, _ => execGleanerPassFinal_fixed _ s
  | .gleanerPassTimeout .., s, _ => execGleanerPassTimeout_fixed _ s
  | .gleanerRecordWrite .., s, _ => execGleanerRecordWrite_fixed _ s
  | .shaperSet .., s, _ => execShaperSet_fixed _ s
  | .timetableArm .., s, _ => execTimetableArm_fixed _ s
  | .windowSet .., s, _ => execWindowSet_fixed _ s
  | .slotPowerOff .., s, _ => execSlotPowerOff_fixed _ s
  | .slotPowerOn .., s, _ => execSlotPowerOn_fixed _ s
  | .slotPowerCycle .., s, _ => execSlotPowerCycle_fixed _ s
  | .slotLimits .., s, _ => execSlotLimits_fixed _ s
  | .slotTiming .., s, _ => execSlotTiming_fixed _ s
  | .slotMap .., s, _ => execSlotMap_fixed _ s
  | .domainSet .., s, _ => execDomainSet_fixed _ s
  | .pstateSet .., s, _ => execPstateSet_fixed _ s
  | .eventAllocate .., s, _ => execEventAllocate_fixed _ s
  | .eventEnable .., s, _ => execEventEnable_fixed _ s
  | .eventDisable .., s, _ => execEventDisable_fixed _ s
  | .eventClearPending .., s, _ => execEventClearPending_fixed _ s
  | .eventFree .., s, _ => execEventFree_fixed _ s
  | .counterAllocate .., s, _ => execCounterAllocate_fixed _ s
  | .counterProgram .., s, _ => execCounterProgram_fixed _ s
  | .counterClear .., s, _ => execCounterClear_fixed _ s
  | .counterRun .., s, _ => execCounterRun_fixed _ s
  | .counterStop .., s, _ => execCounterStop_fixed _ s
  | .counterFree .., s, _ => execCounterFree_fixed _ s
  | .readFields .., s, _ => execReadFields_fixed _ s
  | .infoIdentify .., s, _ => execInfoIdentify_fixed _ s
  | .infoPortState .., s, _ => execInfoPortState_fixed _ s
  | .infoVcs .., s, _ => execInfoVcs_fixed _ s
  | .standingWrite .., s, _ => execStandingWrite_fixed _ s
  | .standingWritePart .., s, _ => execStandingWritePart_fixed _ s
  | .standingSessionTimeout, s, _ => execStandingSessionTimeout_fixed s
  | .standingClearRange .., s, _ => execStandingClearRange_fixed _ s
  | .standingClearAll .., s, _ => execStandingClearAll_fixed _ s
  | .standingList .., s, _ => execStandingList_fixed _ s
  | .standingOrderReplay, s, _ => execStandingOrderReplay_fixed s
  | .imageWriteProgram .., s, _ => execImageWriteProgram_fixed _ s
  | .imageWriteErase .., s, _ => execImageWriteErase_fixed _ s
  | .imageWriteEraseProgram .., s, _ => execImageWriteEraseProgram_fixed _ s
  | .imageFlashWorkDone .., s, _ => execImageFlashWorkDone_fixed _ s
  | .imageStage .., s, _ => execImageStage_fixed _ s
  | .stagingDone .., s, _ => execStagingDone_fixed _ s
  | .activate .., s, _ => execActivate_fixed _ s
  | .activationRehashDone, s, _ => execActivationRehashDone_fixed s
  | .activationQuiescePoint, s, _ => execActivationQuiescePoint_fixed s
  | .activationCopyDone .., s, _ => execActivationCopyDone_fixed _ s
  | .activationResume, s, _ => execActivationResume_fixed s
  | .activationReloadDone, s, _ => execActivationReloadDone_fixed s
  | .confirm .., s, _ => execConfirm_fixed _ s
  | .laneReport .., s, _ => execLaneReport_fixed _ s
  | .chanMeasure .., s, _ => execChanMeasure_fixed _ s
  | .channelMeasurementDone .., s, _ => execChannelMeasurementDone_fixed _ _ s
  | .laneTestStop .., s, _ => execLaneTestStop_fixed _ s
  | .laneTestStart .., s, _ => execLaneTestStart_fixed _ s
  | .laneTestRead .., s, _ => execLaneTestRead_fixed _ s
  | .laneTestInject .., s, _ => execLaneTestInject_fixed _ s
  | .eyeScan .., s, _ => execEyeScan_fixed _ s
  | .eyeScanEnd .., s, _ => execEyeScanEnd_fixed _ _ _ _ s
  | .laneMargining .., s, _ => execLaneMargining_fixed _ _ s
  | .marginingEnd .., s, _ => execMarginingEnd_fixed _ _ s
  | .mirrorSet .., s, _ => execMirrorSet_fixed _ s
  | .agentSet .., s, _ => execAgentSet_fixed _ s
  | .deadlogRead .., s, _ => execDeadlogRead_fixed _ s
  | .coherenceSet .., s, _ => execCoherenceSet_fixed _ s
  | .coherentFlush .., s, _ => execCoherentFlush_fixed _ s
  | .coherentFlushDone .., s, _ => execCoherentFlushDone_fixed _ s
  | .checkerClear .., s, _ => execCheckerClear_fixed _ s
  | .queueRead .., s, _ => execQueueRead_fixed _ s
  | .classSet .., s, _ => execClassSet_fixed _ s
  | .timeSet .., s, _ => execTimeSet_fixed _ s
  | .ideStop .., s, _ => execIdeStop_fixed _ s
  | .ideEstablish .., s, _ => execIdeEstablish_fixed _ s
  | .ideRefresh .., s, _ => execIdeRefresh_fixed _ s
  | .ideKmDone .., s, _ => execIdeKmDone_fixed _ _ s
  | .tokenNonce .., s, _ => execTokenNonce_fixed _ s
  | .tokenWrite .., s, _ => execTokenWrite_fixed _ s
  | .unitCounterProgram .., s, _ => execUnitCounterProgram_fixed _ s
  | .unitCounterClear .., s, _ => execUnitCounterClear_fixed _ s
  | .unitSetRun .., s, _ => execUnitSetRun_fixed _ s
  | .unitSetStop .., s, _ => execUnitSetStop_fixed _ s
  | .unitSetZero .., s, _ => execUnitSetZero_fixed _ s
  | .sensorSet .., s, _ => execSensorSet_fixed _ s
  | .resetWarm .., s, _ => execResetWarm_fixed _ s
  | .resetStation .., s, _ => execResetStation_fixed _ s
  | .resetLever .., s, _ => execResetLever_fixed _ s
  | .leverReloadDone, s, _ => execLeverReloadDone_fixed s
  | .stationRejoin .., s, _ => execStationRejoin_fixed _ s
  | .errlogRead .., s, _ => execErrlogRead_fixed _ s
  | .registerWrite .., s, _ => execRegisterWrite_fixed _ _ _ s
  | .powerControllerOff .., s, _ => execPowerControllerOff_fixed _ _ s
  | .powerControllerOn .., s, _ => execPowerControllerOn_fixed _ _ s
  | .dpcTriggerClear .., s, _ => execDpcTriggerClear_fixed _ _ s
  | .configurationRequest .., s, _ => execConfigurationRequest_fixed _ _ s
  | .roundBoundary, s, _ => execRoundBoundary_fixed s
  | .participantStuck .., s, _ => execParticipantStuck_fixed _ s
  | .rateWindow .., s, _ => execRateWindow_fixed _ s
  | .frameAdmit .., s, _ => execFrameAdmit_fixed _ s
  | .loanReturn .., s, _ => execLoanReturn_fixed _ s
  | .admissionRelease .., s, _ => execAdmissionRelease_fixed _ _ s
  | .frameStart .., s, _ => execFrameStart_fixed _ s
  | .frameSent .., s, _ => execFrameSent_fixed _ s
  | .shaperRefill, s, _ => execShaperRefill_fixed s
  | .timetableEntryBoundary .., s, _ => execTimetableEntryBoundary_fixed _ s
  | .timetableTakeover .., s, _ => execTimetableTakeover_fixed _ s
  | .queueSample, s, _ => execQueueSample_fixed s
  | .linkUp .., s, _ => execLinkUp_fixed _ _ s
  | .linkDown .., s, _ => execLinkDown_fixed _ _ s
  | .portFlushDone .., s, _ => execPortFlushDone_fixed _ s
  | .replayContainmentTimeout .., s, _ => execReplayContainmentTimeout_fixed _ s
  | .flitReceive .., s, _ => execFlitReceive_fixed _ _ s
  | .detectRetry .., s, _ => execDetectRetry_fixed _ _ s
  | .hello .., s, _ => execHello_fixed _ _ _ _ s
  | .trunkStageTimeout .., s, _ => execTrunkStageTimeout_fixed _ s
  | .trunkEqualisationDone .., s, _ => execTrunkEqualisationDone_fixed _ s
  | .alignmentMarker .., s, _ => execAlignmentMarker_fixed _ _ _ _ s
  | .flitBoundary .., s, _ => execFlitBoundary_fixed _ s
  | .trunkFlitReceive .., s, _ => execTrunkFlitReceive_fixed _ _ _ _ s
  | .replayTimer .., s, _ => execReplayTimer_fixed _ s
  | .trunkRecovery .., s, _ => execTrunkRecovery_fixed _ _ s
  | .trunkRecoveryTimeout .., s, _ => execTrunkRecoveryTimeout_fixed _ s
  | .changeReq .., s, _ => execChangeReq_fixed _ _ _ s
  | .changeGo .., s, _ => execChangeGo_fixed _ _ _ s
  | .levelMessage .., s, _ => execLevelMessage_fixed _ _ _ _ _ s
  | .timeMessage .., s, _ => execTimeMessage_fixed _ _ _ _ s
  | .parkReq .., s, _ => execParkReq_fixed _ s
  | .parkAck .., s, _ => execParkAck_fixed _ _ s
  | .parkExit .., s, _ => execParkExit_fixed _ s
  | .mctpBypass .., s, _ => execMctpBypass_fixed _ _ s
  | .spdmKeyUpdate .., s, _ => execSpdmKeyUpdate_fixed _ s
  | .ptmRequest .., s, _ => execPtmRequest_fixed _ s
  | .ptmResponse .., s, _ => execPtmResponse_fixed _ _ _ s
  | .syncPeriod, s, _ => execSyncPeriod_fixed s
  | .ftbHoldover, s, _ => execFtbHoldover_fixed s
  | .rdS .., s, _ => execRdS_fixed _ s
  | .rdE .., s, _ => execRdE_fixed _ s
  | .rdNc .., s, _ => execRdNc_fixed _ s
  | .wr .., s, _ => execWr_fixed _ _ s
  | .wb .., s, _ => execWb_fixed _ _ _ s
  | .evictClean .., s, _ => execEvictClean_fixed _ s
  | .atomic .., s, _ => execAtomic_fixed _ _ s
  | .rspI .., s, _ => execRspI_fixed _ _ _ s
  | .rspS .., s, _ => execRspS_fixed _ _ _ s
  | .memoryData .., s, _ => execMemoryData_fixed _ _ s
  | .memoryWriteComplete .., s, _ => execMemoryWriteComplete_fixed _ _ s
  | .atomicCompletion .., s, _ => execAtomicCompletion_fixed _ _ s
  | .lineLockHandoff .., s, _ => execLineLockHandoff_fixed _ s
  | .snoopTimeout .., s, _ => execSnoopTimeout_fixed _ _ s
  | .cReq .., s, _ => execCReq_fixed _ _ s
  | .cSnp .., s, _ => execCSnp_fixed _ _ s
  | .cWb .., s, _ => execCWb_fixed _ _ s
  | .cRsp .., s, _ => execCRsp_fixed _ _ s
  | .cData .., s, _ => execCData_fixed _ _ s
  | .prefetchFill .., s, _ => execPrefetchFill_fixed _ _ _ _ s
  | .biConflict .., s, _ => execBiConflict_fixed _ _ s
  | .junctionWrapReceive .., s, _ => execJunctionWrapReceive_fixed _ _ s
  | .junctionFarTimeout .., s, _ => execJunctionFarTimeout_fixed _ s
  | .junctionNearTimeout .., s, _ => execJunctionNearTimeout_fixed _ s
  | .sbTransferEnd .., s, _ => execSbTransferEnd_fixed _ _ _ s
  | .sbArbitrationLost .., s, _ => execSbArbitrationLost_fixed _ s
  | .sbReissue .., s, _ => execSbReissue_fixed _ s
  | .sbReadTimeout .., s, _ => execSbReadTimeout_fixed _ s
  | .windowPoll .., s, _ => execWindowPoll_fixed _ _ _ s
  | .seatDebounce .., s, _ => execSeatDebounce_fixed _ s
  | .seatingLost .., s, _ => execSeatingLost_fixed _ s
  | .slotStart .., s, _ => execSlotStart_fixed _ s
  | .prechargeComplete .., s, _ => execPrechargeComplete_fixed _ _ _ s
  | .prechargeTimeout .., s, _ => execPrechargeTimeout_fixed _ _ _ s
  | .rampOn .., s, _ => execRampOn_fixed _ s
  | .rampShort .., s, _ => execRampShort_fixed _ s
  | .rampTimeout .., s, _ => execRampTimeout_fixed _ s
  | .perstRelease .., s, _ => execPerstRelease_fixed _ s
  | .onTripsClear .., s, _ => execOnTripsClear_fixed _ s
  | .circuitBreakerTrip .., s, _ => execCircuitBreakerTrip_fixed _ _ s
  | .fastTrip .., s, _ => execFastTrip_fixed _ _ s
  | .thermalTrip .., s, _ => execThermalTrip_fixed _ _ s
  | .voutLowTrip .., s, _ => execVoutLowTrip_fixed _ _ _ s
  | .vinWarning .., s, _ => execVinWarning_fixed _ s
  | .vinWarningClear .., s, _ => execVinWarningClear_fixed _ s
  | .vinUndervoltage .., s, _ => execVinUndervoltage_fixed _ s
  | .vinOvervoltage .., s, _ => execVinOvervoltage_fixed _ s
  | .vinInRange .., s, _ => execVinInRange_fixed _ s
  | .pfwLeadEnd .., s, _ => execPfwLeadEnd_fixed _ s
  | .retryDelayExpiry .., s, _ => execRetryDelayExpiry_fixed _ s
  | .absenceExpiry .., s, _ => execAbsenceExpiry_fixed _ s
  | .slotThresholdsReady .., s, _ => execSlotThresholdsReady_fixed _ s
  | .slotSample .., s, _ => execSlotSample_fixed _ _ _ _ _ s
  | .sidingEntry .., s, _ => execSidingEntry_fixed _ s
  | .sidingWake .., s, _ => execSidingWake_fixed _ _ s
  | .sidingExitReady .., s, _ => execSidingExitReady_fixed _ s
  | .domainPowerUpDone .., s, _ => execDomainPowerUpDone_fixed _ s
  | .stationDomainOff .., s, _ => execStationDomainOff_fixed _ s
  | .quadrantGateDrained .., s, _ => execQuadrantGateDrained_fixed _ s
  | .pinnedRemap, s, _ => execPinnedRemap_fixed s
  | .quadrantAutoGate, s, _ => execQuadrantAutoGate_fixed s
  | .quadrantAutoUngate, s, _ => execQuadrantAutoUngate_fixed s
  | .pd3Pd4Off, s, _ => execPd3Pd4Off_fixed s
  | .entryOrdersEnded, s, _ => execEntryOrdersEnded_fixed s
  | .entryLinksDown, s, _ => execEntryLinksDown_fixed s
  | .entryDomainsOff, s, _ => execEntryDomainsOff_fixed s
  | .entryRailsOff, s, _ => execEntryRailsOff_fixed s
  | .wake .., s, _ => execWake_fixed _ s
  | .watchSample .., s, _ => execWatchSample_fixed _ _ _ s
  | .pwrRdy, s, _ => execPwrRdy_fixed s
  | .oscRdy, s, _ => execOscRdy_fixed s
  | .memRdy, s, _ => execMemRdy_fixed s
  | .logicRdy, s, _ => execLogicRdy_fixed s
  | .vrPgTimeout, s, _ => execVrPgTimeout_fixed s
  | .wakeRetry, s, _ => execWakeRetry_fixed s
  | .bootPhase0 bad fuse random, _, h => (h bad fuse random rfl).elim
  | .bootPhase1 .., s, _ => execBootPhase1_fixed _ s
  | .imageLoadDone .., s, _ => execImageLoadDone_fixed _ s
  | .bootPhase2, s, _ => execBootPhase2_fixed s
  | .bootPhase3, s, _ => execBootPhase3_fixed s
  | .bootPhase4, s, _ => execBootPhase4_fixed s
  | .coldReset .., s, _ => execColdReset_fixed _ _ _ s
  | .sagWarning .., s, _ => execSagWarning_fixed _ _ s
  | .sagWarnRelease, s, _ => execSagWarnRelease_fixed s
  | .sagReset .., s, _ => execSagReset_fixed _ _ s
  | .sagRecovery, s, _ => execSagRecovery_fixed s
  | .avsStep, s, _ => execAvsStep_fixed s
  | .railSample .., s, _ => execRailSample_fixed _ s
  | .sensorSample .., s, _ => execSensorSample_fixed _ s
  | .devloadWindow, s, _ => execDevloadWindow_fixed s
  | .qosAdjust, s, _ => execQosAdjust_fixed s
  | .refclkLoss .., s, _ => execRefclkLoss_fixed _ s
  | .refclkReturn .., s, _ => execRefclkReturn_fixed _ s
  | .waysideOrderFrame .., s, _ => execWaysideOrderFrame_fixed _ s
  | .waysideReply .., s, _ => execWaysideReply_fixed _ s
  | .timeMark .., s, _ => execTimeMark_fixed _ s
  | .waysideWake .., s, _ => execWaysideWake_fixed _ s
  | .waysideStuck, s, _ => execWaysideStuck_fixed s
  | .smbusTimeout, s, _ => execSmbusTimeout_fixed s
  | .setEndpointId .., s, _ => execSetEndpointId_fixed _ _ s
  | .getEndpointId .., s, _ => execGetEndpointId_fixed _ s
  | .getMctpVersionSupport .., s, _ => execGetMctpVersionSupport_fixed _ _ s
  | .getMessageTypeSupport .., s, _ => execGetMessageTypeSupport_fixed _ s
  | .getVendorMessageSupport .., s, _ => execGetVendorMessageSupport_fixed _ s
  | .getMeasurements .., s, _ => execGetMeasurements_fixed _ _ s
  | .getCertificate .., s, _ => execGetCertificate_fixed _ _ s
  | .challenge .., s, _ => execChallenge_fixed _ _ _ s
  | .keyExchange .., s, _ => execKeyExchange_fixed _ s
  | .setCertificate .., s, _ => execSetCertificate_fixed _ _ _ s
  | .doeDiscovery .., s, _ => execDoeDiscovery_fixed _ _ s
  | .debugAccess .., s, _ => execDebugAccess_fixed _ _ _ s
  | .jtagTestInstruction, s, _ => execJtagTestInstruction_fixed s
  | .fatalError .., s, _ => execFatalError_fixed _ _ s
  | .fatalAction, s, _ => execFatalAction_fixed s
  | .mcWatchdog .., s, _ => execMcWatchdog_fixed _ s
  | .correctedSummary, s, _ => execCorrectedSummary_fixed s
  | .containedWindowEnd .., s, _ => execContainedWindowEnd_fixed _ _ s
  | .reservedOpcode .., s, _ => execReservedOpcode_fixed _ _ s
  | .deadAgentScanDone .., s, _ => execDeadAgentScanDone_fixed _ s
  | .sidingEntryDone .., s, _ => execSidingEntryDone_fixed _ s
  | .tapReset, s, _ => execTapReset_fixed s
  | .fetCooled .., s, _ => execFetCooled_fixed _ _ s
  | .prbsCheckerLock .., s, _ => execPrbsCheckerLock_fixed _ _ _ s
  | .ideKmRequest .., s, _ => execIdeKmRequest_fixed _ _ _ s
  | .invocationCounterLimit .., s, _ => execInvocationCounterLimit_fixed _ _ s
  | .keyUpdate .., s, _ => execKeyUpdate_fixed _ _ s
  | .heartbeat .., s, _ => execHeartbeat_fixed _ _ s
  | .dynamicAddressAssignment setdasa address, s, _ => execDynamicAddressAssignment_fixed setdasa address s

/-- Settles O57: by the frames of the other commands, and for BOOT_PHASE_0 by what a cold reset's work does to OTP. -/
theorem otpWriters : Obligations.OtpWriters := by
  intro i s t h
  by_cases hi : ∃ bad fuse random, i = .bootPhase0 bad fuse random
  · obtain ⟨bad, fuse, random, rfl⟩ := hi
    refine ⟨execBootPhase0_keeps h, fun hne => ?_⟩
    obtain ⟨hphase, hhold, hcold, hotp⟩ := (execBootPhase0_otp h).resolve_left hne
    refine ⟨bad, fuse, random, rfl, hcold, hphase, hhold, ?_⟩
    rw [hotp, State.coldWork_eq]
    rcases (s.readControl.udsBooted random).applyToken_otp fuse with hsame | ⟨u, ⟨token, htoken, hfault, hu⟩, hacts⟩
    · exact .inl hsame
    · rw [State.udsBooted_ledger] at htoken
      have hs : s.ledger.token = some token := (congrArg ColdToken.token s.readControl_coldToken).symm.trans htoken
      exact .inr ⟨token, u, hs, hfault, hu, hacts⟩
  · simp only [not_exists] at hi
    have hotp : t.otp = s.otp := State.otp_of_fixed (exec_keeps_of_ne_bootPhase0 i s hi t h)
    exact ⟨hotp ▸ Otp.keeps_refl _, fun hne => (hne hotp).elim⟩

end Sys2Proof.Machine
end

section
/-! What every command and step keeps: the queue (O55), blown fuses (O56) and the canonical form of the two byte memories (O60). -/

namespace Sys2Proof.Machine

/-! ### The queue -/

theorem State.pending_of_fixed {s t : State} (h : t.fixed = s.fixed) : t.pending = s.pending := congrArg Fixed.pending h

theorem State.tokenEffect_pending {s u : State} {t : List Byte} (h : s.tokenEffect t = some u) : u.pending = s.pending := by
  unfold State.tokenEffect at h
  split at h
  case h_1 =>
    obtain ⟨_, hu⟩ := Option.ite_none_right_eq_some.1 h
    cases hu
    rfl
  case h_2 =>
    obtain ⟨_, hu⟩ := Option.ite_none_left_eq_some.1 h
    cases hu
    rfl
  case h_3 =>
    obtain ⟨_, hu⟩ := Option.ite_none_right_eq_some.1 h
    cases hu
    rfl
  case h_4 =>
    split at h
    next => cases h
    next =>
      obtain ⟨_, hu⟩ := Option.ite_none_right_eq_some.1 h
      cases hu
      rfl

theorem State.applyToken_pending (s : State) (fuseFailed : Bool) : (s.applyToken fuseFailed).pending = s.pending := by
  unfold State.applyToken
  dsimp only
  split
  next => exact State.pending_of_fixed (by simp)
  next =>
    split
    next => exact State.pending_of_fixed (by simp)
    next =>
      split
      next => exact State.pending_of_fixed (by simp)
      next u hu =>
        split
        next => exact State.pending_of_fixed (by simp)
        next => exact (State.pending_of_fixed (by simp)).trans (State.tokenEffect_pending hu)

theorem State.coldWork_pending (s : State) (fuseFailed : Bool) (random : List Byte) :
    (s.coldWork fuseFailed random).pending = s.pending := by
  rw [State.coldWork_eq, State.applyToken_pending, State.udsBooted, State.modSec_pending, State.udsFused, apply_ite State.pending,
    ite_self]

theorem execBootPhase0_pending {otpError fuseFailed : Bool} {random : List Byte} {s t : State}
    (h : execBootPhase0 otpError fuseFailed random s = .next t) : t.pending = s.pending := by
  cases h
  split
  next =>
    dsimp only
    split
    next => exact State.pending_of_fixed (by simp)
    next =>
      split
      next => exact State.pending_of_fixed (by simp)
      next =>
        split
        next => exact State.pending_of_fixed (by simp)
        next =>
          split
          next =>
            exact (State.pending_of_fixed (s := s.readControl.coldWork fuseFailed random) (by simp)).trans
              ((State.coldWork_pending ..).trans (State.pending_of_fixed s.readControl_fixed))
          next => exact State.pending_of_fixed (by simp)
  next => rfl

/-- Settles O55: by the frames of the other commands, and for BOOT_PHASE_0 by what a cold reset's work leaves alone. -/
theorem queueKept : Obligations.QueueKept := by
  intro i s t h
  by_cases hi : ∃ bad fuse random, i = .bootPhase0 bad fuse random
  · obtain ⟨bad, fuse, random, rfl⟩ := hi
    exact execBootPhase0_pending h
  · simp only [not_exists] at hi
    exact State.pending_of_fixed (exec_keeps_of_ne_bootPhase0 i s hi t h)

/-! ### Fuses -/

/-- Settles O56: a tick leaves OTP alone, and a command keeps every blown fuse (O57). -/
theorem fusesKept : Obligations.FusesKept := by
  intro o s t ho h
  unfold step at h
  split at h
  next =>
    cases h
    rwa [State.otp_of_fixed s.pass_fixed]
  next c rest _ =>
    have hexec : ({ s with pending := rest } : State).otp.keeps t.otp := (otpWriters c _ t h).1
    exact ho.trans hexec

/-! ### Byte memory -/

/-- The commands outside `mayWriteMemory` leave both memories alone: each by the frame of its arm. -/
theorem exec_keepsMem (i : Instr) (s : State) (h : mayWriteMemory i = false) : Result.keepsMem (exec i s) s := by
  cases i
  case add => exact execAdd_mems _ _ s
  case sub => exact execSub_mems _ _ s
  case andAlu => exact execAndAlu_mems _ _ s
  case orAlu => exact execOrAlu_mems _ _ s
  case xorAlu => exact execXorAlu_mems _ _ s
  case sll => exact execSll_mems _ _ s
  case srl => exact execSrl_mems _ _ s
  case sra => exact execSra_mems _ _ s
  case slt => exact execSlt_mems _ _ s
  case sltu => exact execSltu_mems _ _ s
  case mul => exact execMul_mems _ _ s
  case mulhu => exact execMulhu_mems _ _ s
  case divu => exact execDivu_mems _ _ s
  case remu => exact execRemu_mems _ _ s
  case minu => exact execMinu_mems _ _ s
  case maxu => exact execMaxu_mems _ _ s
  case addi => exact execAddi_mems _ _ s
  case andi => exact execAndi_mems _ _ s
  case ori => exact execOri_mems _ _ s
  case xori => exact execXori_mems _ _ s
  case extField => exact execExtField_mems _ _ s
  case insField => exact execInsField_mems _ _ s
  case lui => exact execLui_mems _ _ s
  case shor => exact execShor_mems _ _ s
  case slti => exact execSlti_mems _ _ s
  case sltiu => exact execSltiu_mems _ _ s
  case slli => exact execSlli_mems _ _ s
  case srli => exact execSrli_mems _ _ s
  case srai => exact execSrai_mems _ _ s
  case ld => exact execLd_mems _ _ s
  case lw => exact execLw_mems _ _ s
  case lb => exact execLb_mems _ _ s
  case jal => exact execJal_mems _ _ s
  case jalr => exact execJalr_mems _ _ s
  case beq => exact execBeq_mems _ _ s
  case bne => exact execBne_mems _ _ s
  case blt => exact execBlt_mems _ _ s
  case bge => exact execBge_mems _ _ s
  case bltu => exact execBltu_mems _ _ s
  case bgeu => exact execBgeu_mems _ _ s
  case openObj => exact execOpenObj_mems _ _ s
  case ldf => exact execLdf_mems _ _ s
  case stf => exact execStf_mems _ _ s
  case newObj => exact execNewObj_mems _ _ s
  case delObj => exact execDelObj_mems _ _ s
  case commitBuf => exact execCommitBuf_mems _ _ s
  case doneOrder => exact execDoneOrder_mems _ _ s
  case failOrder => exact execFailOrder_mems _ _ s
  case timeNow => exact execTimeNow_mems _ _ s
  case roundCount => exact execRoundCount_mems _ _ s
  case who => exact execWho_mems _ _ s
  case rlen => exact execRlen_mems _ _ s
  case raiseEvent => exact execRaiseEvent_mems _ _ s
  case waitUntil => exact execWaitUntil_mems _ _ s
  case waitExpiry => exact execWaitExpiry_mems _ s
  case fence => exact execFence_mems _ _ s
  case pet => exact execPet_mems _ _ s
  case brk => exact execBrk_mems _ _ s
  case coreNumber => exact execCoreNumber_mems _ _ s
  case leverTimeLimit => exact execLeverTimeLimit_mems _ s
  case residentWatchdog => exact execResidentWatchdog_mems _ s
  case submitOrder => exact execSubmitOrder_mems _ s
  case vendorOpcodeUnsupported => exact execVendorOpcodeUnsupported_mems _ _ s
  case twGo => exact execTwGo_mems _ _ s
  case orderDispatch => exact execOrderDispatch_mems _ s
  case orderDeadline => exact execOrderDeadline_mems _ s
  case identifySwitchDevice => exact execIdentifySwitchDevice_mems _ s
  case getPhysicalPortState => exact execGetPhysicalPortState_mems _ _ _ s
  case physicalPortControl => exact execPhysicalPortControl_mems _ _ _ s
  case sendPpbCxlioConfigRequest => exact execSendPpbCxlioConfigRequest_mems _ _ _ _ _ _ s
  case getVirtualCxlSwitchInfo => exact execGetVirtualCxlSwitchInfo_mems _ _ _ s
  case bindVppb => exact execBindVppb_mems _ _ _ _ _ _ s
  case unbindVppb => exact execUnbindVppb_mems _ _ _ _ s
  case generateAerEvent => exact execGenerateAerEvent_mems _ _ _ _ _ s
  case tunnelManagementCommand => exact execTunnelManagementCommand_mems _ _ _ _ s
  case sendLdCxlioConfigRequest => exact execSendLdCxlioConfigRequest_mems _ _ _ _ s
  case sendLdCxlioMemoryRequest => exact execSendLdCxlioMemoryRequest_mems _ _ _ _ s
  case pbrAndGfdCommand => exact execPbrAndGfdCommand_mems _ _ s
  case backgroundComplete => exact execBackgroundComplete_mems s
  case laneRemap => exact execLaneRemap_mems _ s
  case hotResetEnd => exact execHotResetEnd_mems _ s
  case ppbCfgRead => exact execPpbCfgRead_mems _ s
  case ppbCfgWrite => exact execPpbCfgWrite_mems _ s
  case ppbCfgCompletion => exact execPpbCfgCompletion_mems _ _ _ s
  case ppbCfgTimeout => exact execPpbCfgTimeout_mems _ s
  case ldTunnel => exact execLdTunnel_mems _ s
  case ldTunnelResponse => exact execLdTunnelResponse_mems _ _ s
  case ldTunnelTimeout => exact execLdTunnelTimeout_mems _ s
  case tenantResetRequestsDone => exact execTenantResetRequestsDone_mems _ s
  case tenantResetTimeout => exact execTenantResetTimeout_mems _ s
  case gleanerPassFinal => exact execGleanerPassFinal_mems _ s
  case gleanerPassTimeout => exact execGleanerPassTimeout_mems _ s
  case readFields => exact execReadFields_mems _ s
  case infoIdentify => exact execInfoIdentify_mems _ s
  case infoPortState => exact execInfoPortState_mems _ s
  case infoVcs => exact execInfoVcs_mems _ s
  case standingWrite => exact execStandingWrite_mems _ s
  case standingWritePart => exact execStandingWritePart_mems _ s
  case standingSessionTimeout => exact execStandingSessionTimeout_mems s
  case standingClearRange => exact execStandingClearRange_mems _ s
  case standingClearAll => exact execStandingClearAll_mems _ s
  case standingList => exact execStandingList_mems _ s
  case standingOrderReplay => exact execStandingOrderReplay_mems s
  case imageFlashWorkDone => exact execImageFlashWorkDone_mems _ s
  case activationRehashDone => exact execActivationRehashDone_mems s
  case activationQuiescePoint => exact execActivationQuiescePoint_mems s
  case activationResume => exact execActivationResume_mems s
  case confirm => exact execConfirm_mems _ s
  case laneReport => exact execLaneReport_mems _ s
  case chanMeasure => exact execChanMeasure_mems _ s
  case channelMeasurementDone => exact execChannelMeasurementDone_mems _ _ s
  case laneTestStop => exact execLaneTestStop_mems _ s
  case laneTestStart => exact execLaneTestStart_mems _ s
  case laneTestRead => exact execLaneTestRead_mems _ s
  case laneTestInject => exact execLaneTestInject_mems _ s
  case laneMargining => exact execLaneMargining_mems _ _ s
  case marginingEnd => exact execMarginingEnd_mems _ _ s
  case deadlogRead => exact execDeadlogRead_mems _ s
  case coherentFlushDone => exact execCoherentFlushDone_mems _ s
  case ideKmDone => exact execIdeKmDone_mems _ _ s
  case tokenNonce => exact execTokenNonce_mems _ s
  case tokenWrite => exact execTokenWrite_mems _ s
  case stationRejoin => exact execStationRejoin_mems _ s
  case errlogRead => exact execErrlogRead_mems _ s
  case registerWrite => exact execRegisterWrite_mems _ _ _ s
  case powerControllerOff => exact execPowerControllerOff_mems _ _ s
  case powerControllerOn => exact execPowerControllerOn_mems _ _ s
  case dpcTriggerClear => exact execDpcTriggerClear_mems _ _ s
  case configurationRequest => exact execConfigurationRequest_mems _ _ s
  case roundBoundary => exact execRoundBoundary_mems s
  case participantStuck => exact execParticipantStuck_mems _ s
  case rateWindow => exact execRateWindow_mems _ s
  case frameAdmit => exact execFrameAdmit_mems _ s
  case loanReturn => exact execLoanReturn_mems _ s
  case admissionRelease => exact execAdmissionRelease_mems _ _ s
  case frameStart => exact execFrameStart_mems _ s
  case frameSent => exact execFrameSent_mems _ s
  case shaperRefill => exact execShaperRefill_mems s
  case timetableEntryBoundary => exact execTimetableEntryBoundary_mems _ s
  case timetableTakeover => exact execTimetableTakeover_mems _ s
  case queueSample => exact execQueueSample_mems s
  case linkUp => exact execLinkUp_mems _ _ s
  case linkDown => exact execLinkDown_mems _ _ s
  case portFlushDone => exact execPortFlushDone_mems _ s
  case replayContainmentTimeout => exact execReplayContainmentTimeout_mems _ s
  case flitReceive => exact execFlitReceive_mems _ _ s
  case detectRetry => exact execDetectRetry_mems _ _ s
  case hello => exact execHello_mems _ _ _ _ s
  case trunkStageTimeout => exact execTrunkStageTimeout_mems _ s
  case trunkEqualisationDone => exact execTrunkEqualisationDone_mems _ s
  case alignmentMarker => exact execAlignmentMarker_mems _ _ _ _ s
  case flitBoundary => exact execFlitBoundary_mems _ s
  case trunkFlitReceive => exact execTrunkFlitReceive_mems _ _ _ _ s
  case replayTimer => exact execReplayTimer_mems _ s
  case trunkRecovery => exact execTrunkRecovery_mems _ _ s
  case trunkRecoveryTimeout => exact execTrunkRecoveryTimeout_mems _ s
  case changeReq => exact execChangeReq_mems _ _ _ s
  case changeGo => exact execChangeGo_mems _ _ _ s
  case levelMessage => exact execLevelMessage_mems _ _ _ _ _ s
  case timeMessage => exact execTimeMessage_mems _ _ _ _ s
  case parkReq => exact execParkReq_mems _ s
  case parkAck => exact execParkAck_mems _ _ s
  case parkExit => exact execParkExit_mems _ s
  case mctpBypass => exact execMctpBypass_mems _ _ s
  case spdmKeyUpdate => exact execSpdmKeyUpdate_mems _ s
  case ptmRequest => exact execPtmRequest_mems _ s
  case ptmResponse => exact execPtmResponse_mems _ _ _ s
  case syncPeriod => exact execSyncPeriod_mems s
  case ftbHoldover => exact execFtbHoldover_mems s
  case rdS => exact execRdS_mems _ s
  case rdE => exact execRdE_mems _ s
  case rdNc => exact execRdNc_mems _ s
  case wr => exact execWr_mems _ _ s
  case wb => exact execWb_mems _ _ _ s
  case evictClean => exact execEvictClean_mems _ s
  case atomic => exact execAtomic_mems _ _ s
  case rspI => exact execRspI_mems _ _ _ s
  case rspS => exact execRspS_mems _ _ _ s
  case memoryData => exact execMemoryData_mems _ _ s
  case memoryWriteComplete => exact execMemoryWriteComplete_mems _ _ s
  case atomicCompletion => exact execAtomicCompletion_mems _ _ s
  case lineLockHandoff => exact execLineLockHandoff_mems _ s
  case snoopTimeout => exact execSnoopTimeout_mems _ _ s
  case cReq => exact execCReq_mems _ _ s
  case cSnp => exact execCSnp_mems _ _ s
  case cWb => exact execCWb_mems _ _ s
  case cRsp => exact execCRsp_mems _ _ s
  case cData => exact execCData_mems _ _ s
  case prefetchFill => exact execPrefetchFill_mems _ _ _ _ s
  case biConflict => exact execBiConflict_mems _ _ s
  case junctionWrapReceive => exact execJunctionWrapReceive_mems _ _ s
  case junctionFarTimeout => exact execJunctionFarTimeout_mems _ s
  case junctionNearTimeout => exact execJunctionNearTimeout_mems _ s
  case sbTransferEnd => exact execSbTransferEnd_mems _ _ _ s
  case sbArbitrationLost => exact execSbArbitrationLost_mems _ s
  case sbReissue => exact execSbReissue_mems _ s
  case sbReadTimeout => exact execSbReadTimeout_mems _ s
  case windowPoll => exact execWindowPoll_mems _ _ _ s
  case seatDebounce => exact execSeatDebounce_mems _ s
  case seatingLost => exact execSeatingLost_mems _ s
  case slotStart => exact execSlotStart_mems _ s
  case prechargeComplete => exact execPrechargeComplete_mems _ _ _ s
  case prechargeTimeout => exact execPrechargeTimeout_mems _ _ _ s
  case rampOn => exact execRampOn_mems _ s
  case rampShort => exact execRampShort_mems _ s
  case rampTimeout => exact execRampTimeout_mems _ s
  case perstRelease => exact execPerstRelease_mems _ s
  case onTripsClear => exact execOnTripsClear_mems _ s
  case circuitBreakerTrip => exact execCircuitBreakerTrip_mems _ _ s
  case fastTrip => exact execFastTrip_mems _ _ s
  case thermalTrip => exact execThermalTrip_mems _ _ s
  case voutLowTrip => exact execVoutLowTrip_mems _ _ _ s
  case vinWarning => exact execVinWarning_mems _ s
  case vinWarningClear => exact execVinWarningClear_mems _ s
  case vinUndervoltage => exact execVinUndervoltage_mems _ s
  case vinOvervoltage => exact execVinOvervoltage_mems _ s
  case vinInRange => exact execVinInRange_mems _ s
  case pfwLeadEnd => exact execPfwLeadEnd_mems _ s
  case retryDelayExpiry => exact execRetryDelayExpiry_mems _ s
  case absenceExpiry => exact execAbsenceExpiry_mems _ s
  case slotThresholdsReady => exact execSlotThresholdsReady_mems _ s
  case slotSample => exact execSlotSample_mems _ _ _ _ _ s
  case sidingEntry => exact execSidingEntry_mems _ s
  case sidingWake => exact execSidingWake_mems _ _ s
  case sidingExitReady => exact execSidingExitReady_mems _ s
  case domainPowerUpDone => exact execDomainPowerUpDone_mems _ s
  case stationDomainOff => exact execStationDomainOff_mems _ s
  case quadrantGateDrained => exact execQuadrantGateDrained_mems _ s
  case pinnedRemap => exact execPinnedRemap_mems s
  case quadrantAutoGate => exact execQuadrantAutoGate_mems s
  case quadrantAutoUngate => exact execQuadrantAutoUngate_mems s
  case pd3Pd4Off => exact execPd3Pd4Off_mems s
  case entryOrdersEnded => exact execEntryOrdersEnded_mems s
  case entryLinksDown => exact execEntryLinksDown_mems s
  case entryDomainsOff => exact execEntryDomainsOff_mems s
  case entryRailsOff => exact execEntryRailsOff_mems s
  case wake => exact execWake_mems _ s
  case watchSample => exact execWatchSample_mems _ _ _ s
  case pwrRdy => exact execPwrRdy_mems s
  case oscRdy => exact execOscRdy_mems s
  case memRdy => exact execMemRdy_mems s
  case vrPgTimeout => exact execVrPgTimeout_mems s
  case wakeRetry => exact execWakeRetry_mems s
  case bootPhase0 => exact execBootPhase0_mems _ _ _ s
  case bootPhase1 => exact execBootPhase1_mems _ s
  case bootPhase2 => exact execBootPhase2_mems s
  case bootPhase3 => exact execBootPhase3_mems s
  case bootPhase4 => exact execBootPhase4_mems s
  case sagWarning => exact execSagWarning_mems _ _ s
  case sagWarnRelease => exact execSagWarnRelease_mems s
  case sagRecovery => exact execSagRecovery_mems s
  case avsStep => exact execAvsStep_mems s
  case railSample => exact execRailSample_mems _ s
  case sensorSample => exact execSensorSample_mems _ s
  case devloadWindow => exact execDevloadWindow_mems s
  case refclkLoss => exact execRefclkLoss_mems _ s
  case refclkReturn => exact execRefclkReturn_mems _ s
  case waysideOrderFrame => exact execWaysideOrderFrame_mems _ s
  case waysideReply => exact execWaysideReply_mems _ s
  case timeMark => exact execTimeMark_mems _ s
  case waysideWake => exact execWaysideWake_mems _ s
  case waysideStuck => exact execWaysideStuck_mems s
  case smbusTimeout => exact execSmbusTimeout_mems s
  case setEndpointId => exact execSetEndpointId_mems _ _ s
  case getEndpointId => exact execGetEndpointId_mems _ s
  case getMctpVersionSupport => exact execGetMctpVersionSupport_mems _ _ s
  case getMessageTypeSupport => exact execGetMessageTypeSupport_mems _ s
  case getVendorMessageSupport => exact execGetVendorMessageSupport_mems _ s
  case getMeasurements => exact execGetMeasurements_mems _ _ s
  case getCertificate => exact execGetCertificate_mems _ _ s
  case challenge => exact execChallenge_mems _ _ _ s
  case keyExchange => exact execKeyExchange_mems _ s
  case setCertificate => exact execSetCertificate_mems _ _ _ s
  case doeDiscovery => exact execDoeDiscovery_mems _ _ s
  case jtagTestInstruction => exact execJtagTestInstruction_mems s
  case fatalError => exact execFatalError_mems _ _ s
  case correctedSummary => exact execCorrectedSummary_mems s
  case containedWindowEnd => exact execContainedWindowEnd_mems _ _ s
  case reservedOpcode => exact execReservedOpcode_mems _ _ s
  case deadAgentScanDone => exact execDeadAgentScanDone_mems _ s
  case sidingEntryDone => exact execSidingEntryDone_mems _ s
  case tapReset => exact execTapReset_mems s
  case fetCooled => exact execFetCooled_mems _ _ s
  case prbsCheckerLock => exact execPrbsCheckerLock_mems _ _ _ s
  case ideKmRequest => exact execIdeKmRequest_mems _ _ _ s
  case invocationCounterLimit => exact execInvocationCounterLimit_mems _ _ s
  case keyUpdate => exact execKeyUpdate_mems _ _ s
  case heartbeat => exact execHeartbeat_mems _ _ s
  case dynamicAddressAssignment setdasa address => exact execDynamicAddressAssignment_mems setdasa address s
  all_goals exact Bool.noConfusion h

/-- The commands that may write either memory keep the canonical form of both: each by the lemma about its arm. -/
theorem exec_keepsOk_of_writes (i : Instr) (s : State) (h : mayWriteMemory i = true) : Result.keepsOk (exec i s) s := by
  cases i
  case amoadd => exact execAmoadd_memOk _ _ s
  case amoswap => exact execAmoswap_memOk _ _ s
  case amoand => exact execAmoand_memOk _ _ s
  case amoor => exact execAmoor_memOk _ _ s
  case sd => exact execSd_memOk _ _ s
  case sw => exact execSw_memOk _ _ s
  case sb => exact execSb_memOk _ _ s
  case commitUnitGrant => exact execCommitUnitGrant_memOk _ s
  case commitRoundBoundary => exact execCommitRoundBoundary_memOk s
  case portSet => exact execPortSet_memOk _ s
  case bifurcate => exact execBifurcate_memOk _ s
  case portCtlAssertPerst => exact execPortCtlAssertPerst_memOk _ s
  case portCtlReleasePerst => exact execPortCtlReleasePerst_memOk _ s
  case portCtlResetPpb => exact execPortCtlResetPpb_memOk _ s
  case portCtlDisableLink => exact execPortCtlDisableLink_memOk _ s
  case portCtlEnableLink => exact execPortCtlEnableLink_memOk _ s
  case portCtlContain => exact execPortCtlContain_memOk _ s
  case portCtlReleaseContainment => exact execPortCtlReleaseContainment_memOk _ s
  case vcsSet => exact execVcsSet_memOk _ s
  case bind => exact execBind_memOk _ s
  case unbindWaitLinkDown => exact execUnbindWaitLinkDown_memOk _ s
  case unbindManagedHotRemove => exact execUnbindManagedHotRemove_memOk _ s
  case unbindSurpriseHotRemove => exact execUnbindSurpriseHotRemove_memOk _ s
  case pbrSet => exact execPbrSet_memOk _ s
  case aerGen => exact execAerGen_memOk _ s
  case tenantCreate => exact execTenantCreate_memOk _ s
  case tenantReset => exact execTenantReset_memOk _ s
  case tenantResetDone => exact execTenantResetDone_memOk _ s
  case tenantDestroy => exact execTenantDestroy_memOk _ s
  case tenantMap => exact execTenantMap_memOk _ s
  case ruleStage => exact execRuleStage_memOk _ s
  case bankSwap => exact execBankSwap_memOk _ s
  case gleanerStop => exact execGleanerStop_memOk _ s
  case gleanerStart => exact execGleanerStart_memOk _ s
  case gleanerNewPass => exact execGleanerNewPass_memOk _ s
  case gleanerSetTail => exact execGleanerSetTail_memOk _ s
  case gleanerRecordWrite => exact execGleanerRecordWrite_memOk _ s
  case shaperSet => exact execShaperSet_memOk _ s
  case timetableArm => exact execTimetableArm_memOk _ s
  case windowSet => exact execWindowSet_memOk _ s
  case slotPowerOff => exact execSlotPowerOff_memOk _ s
  case slotPowerOn => exact execSlotPowerOn_memOk _ s
  case slotPowerCycle => exact execSlotPowerCycle_memOk _ s
  case slotLimits => exact execSlotLimits_memOk _ s
  case slotTiming => exact execSlotTiming_memOk _ s
  case slotMap => exact execSlotMap_memOk _ s
  case domainSet => exact execDomainSet_memOk _ s
  case pstateSet => exact execPstateSet_memOk _ s
  case eventAllocate => exact execEventAllocate_memOk _ s
  case eventEnable => exact execEventEnable_memOk _ s
  case eventDisable => exact execEventDisable_memOk _ s
  case eventClearPending => exact execEventClearPending_memOk _ s
  case eventFree => exact execEventFree_memOk _ s
  case counterAllocate => exact execCounterAllocate_memOk _ s
  case counterProgram => exact execCounterProgram_memOk _ s
  case counterClear => exact execCounterClear_memOk _ s
  case counterRun => exact execCounterRun_memOk _ s
  case counterStop => exact execCounterStop_memOk _ s
  case counterFree => exact execCounterFree_memOk _ s
  case imageWriteProgram => exact execImageWriteProgram_memOk _ s
  case imageWriteErase => exact execImageWriteErase_memOk _ s
  case imageWriteEraseProgram => exact execImageWriteEraseProgram_memOk _ s
  case imageStage => exact execImageStage_memOk _ s
  case stagingDone => exact execStagingDone_memOk _ s
  case activate => exact execActivate_memOk _ s
  case activationCopyDone => exact execActivationCopyDone_memOk _ s
  case activationReloadDone => exact execActivationReloadDone_memOk s
  case eyeScan => exact execEyeScan_memOk _ s
  case eyeScanEnd => exact execEyeScanEnd_memOk _ _ _ _ s
  case mirrorSet => exact execMirrorSet_memOk _ s
  case agentSet => exact execAgentSet_memOk _ s
  case coherenceSet => exact execCoherenceSet_memOk _ s
  case coherentFlush => exact execCoherentFlush_memOk _ s
  case checkerClear => exact execCheckerClear_memOk _ s
  case queueRead => exact execQueueRead_memOk _ s
  case classSet => exact execClassSet_memOk _ s
  case timeSet => exact execTimeSet_memOk _ s
  case ideStop => exact execIdeStop_memOk _ s
  case ideEstablish => exact execIdeEstablish_memOk _ s
  case ideRefresh => exact execIdeRefresh_memOk _ s
  case unitCounterProgram => exact execUnitCounterProgram_memOk _ s
  case unitCounterClear => exact execUnitCounterClear_memOk _ s
  case unitSetRun => exact execUnitSetRun_memOk _ s
  case unitSetStop => exact execUnitSetStop_memOk _ s
  case unitSetZero => exact execUnitSetZero_memOk _ s
  case sensorSet => exact execSensorSet_memOk _ s
  case resetWarm => exact execResetWarm_memOk _ s
  case resetStation => exact execResetStation_memOk _ s
  case resetLever => exact execResetLever_memOk _ s
  case leverReloadDone => exact execLeverReloadDone_memOk s
  case logicRdy => exact execLogicRdy_memOk s
  case imageLoadDone => exact execImageLoadDone_memOk _ s
  case coldReset => exact execColdReset_memOk _ _ _ s
  case sagReset => exact execSagReset_memOk _ _ s
  case qosAdjust => exact execQosAdjust_memOk s
  case debugAccess => exact execDebugAccess_memOk _ _ _ s
  case fatalAction => exact execFatalAction_memOk s
  case mcWatchdog => exact execMcWatchdog_memOk _ s
  all_goals exact Bool.noConfusion h

/-- What leaves both memories alone keeps their canonical form. -/
theorem Result.keepsMem.keepsOk {r : Result} {s : State} (h : Result.keepsMem r s) : Result.keepsOk r s := fun hs t ht => by
  rwa [h t ht]

theorem exec_keepsOk (i : Instr) (s : State) : Result.keepsOk (exec i s) s := by
  cases h : mayWriteMemory i with
  | false => exact (exec_keepsMem i s h).keepsOk
  | true => exact exec_keepsOk_of_writes i s h

/-- Settles O60: a tick and every command keep the canonical form, and what `mayWriteMemory` leaves out writes neither memory. -/
theorem memoryKept : Obligations.MemoryKept := by
  refine ⟨fun s t hpool hshared h => ?_, fun i s t hi h => Prod.ext_iff.1 (exec_keepsMem i s hi t h)⟩
  unfold step at h
  split at h
  next =>
    cases h
    exact s.pass_memOk ⟨hpool, hshared⟩
  next c rest _ =>
    have hrest : memsOk ({ s with pending := rest } : State).mems := ⟨hpool, hshared⟩
    have ht : memsOk t.mems := exec_keepsOk c _ hrest t h
    exact ht

end Sys2Proof.Machine
end

section
/-! SUPPORT. What an instruction that completes leaves of its core and of the rest of the state (R39, R45, R49). -/

namespace Sys2Proof.Machine

theorem CoreState.reg_setReg (k : CoreState) (rd : BitVec 5) (v : Word) (r : BitVec 5) :
    (k.setReg rd v).reg r = if r = rd ∧ r ≠ 0 then v else k.reg r := by
  by_cases hr : r = 0
  · rw [hr, CoreState.reg_zero, CoreState.reg_zero, if_neg (fun h => h.2 rfl)]
  · unfold CoreState.setReg CoreState.reg
    rw [if_neg hr, if_neg hr]
    by_cases hrd : rd = 0
    · rw [if_pos hrd, if_neg (fun h => hr (h.1.trans hrd))]
    · have hkey : rd.toNat = r.toNat ↔ r = rd := ⟨fun h => (BitVec.eq_of_toNat_eq h).symm, fun h => by rw [h]⟩
      rw [if_neg hrd, Tab.get_set]
      simp only [hkey, ne_eq, hr, not_false_eq_true, and_true]

/-- A write to a register changes the register file alone. -/
theorem CoreState.setReg_eq (k : CoreState) (rd : BitVec 5) (v : Word) : k.setReg rd v = { k with g := (k.setReg rd v).g } := by
  unfold CoreState.setReg
  split <;> rfl

theorem CoreState.onlyRegisters_setReg (k : CoreState) (rd : BitVec 5) (v : Word) (pc : Word) :
    OnlyRegisters k { k.setReg rd v with pc := pc } := by
  rw [CoreState.setReg_eq]
  rfl

theorem CoreState.setReg_pc (k : CoreState) (rd : BitVec 5) (v : Word) : (k.setReg rd v).pc = k.pc := by
  rw [CoreState.setReg_eq]

theorem State.onlyCore_modCore (s : State) (c : Core) (f : CoreState → CoreState) : OnlyCore s (s.modCore c f) c :=
  ⟨rfl, fun d hd => by rw [State.core_modCore, if_neg (Ne.symm hd)]⟩

theorem State.onlyCore_retire (s : State) (c : Core) (f : CoreState → CoreState) : OnlyCore s (s.retire c f) c :=
  s.onlyCore_modCore c _

theorem State.core_retire (s : State) (c : Nat) (f : CoreState → CoreState) : (s.retire c f).core c = (f (s.core c)).next :=
  s.core_modCore_self c _

/-- An instruction that completes with a value for G[rd] has written it and moved on. -/
theorem State.writes_retire (s : State) (c : Core) (rd : BitVec 5) (v : CoreState → Word) :
    Writes s (s.retire c (fun k => k.setReg rd (v k))) c rd (v (s.core c)) := by
  have hcore : (s.retire c (fun k => k.setReg rd (v k))).core c =
      { (s.core c).setReg rd (v (s.core c)) with pc := ((s.core c).setReg rd (v (s.core c))).pc + 4 } := s.core_retire c _
  refine ⟨s.onlyCore_retire c _, ?_, ?_, fun r => ?_⟩
  · rw [hcore]
    exact (s.core c).onlyRegisters_setReg rd _ _
  · rw [hcore, CoreState.setReg_pc]
  · rw [hcore]
    exact (s.core c).reg_setReg rd _ r

section
variable {s : State} {c : Core} (h : s.runs c)
include h

theorem State.writes_aluRRR (o : RRR) (fn : Nat) (f : Word → Word → Word) {v : Word}
    (hv : f ((s.core c).reg o.ra) ((s.core c).reg o.rb) = v) : Writes s (s.aluRRR c o fn f) c o.rd v := by
  rw [State.aluRRR, State.leverRun_runs h, ← hv]
  exact s.writes_retire c o.rd _

theorem State.writes_aluImm (o : IOp) (op : Nat) {legal : Bool} (hl : legal = true) (f : CoreState → Word) {v : Word}
    (hv : f (s.core c) = v) : Writes s (s.aluImm c o op legal f) c o.rd v := by
  rw [State.aluImm, State.leverEncoded_runs h, if_pos hl, ← hv]
  exact s.writes_retire c o.rd _

/-- A system instruction whose unused fields are zero does its work on a core that runs (R45, R48). -/
theorem State.sys_runs {o : SOp} {usesRd usesRa : Bool} (hrd : usesRd = true ∨ o.rd = 0) (hra : usesRa = true ∨ o.ra = 0)
    (fn : Nat) (body : State → State) : s.sys c o fn usesRd usesRa body = body s := by
  rw [State.sys, State.leverEncoded_runs h, if_pos]
  simpa only [Bool.and_eq_true, Bool.or_eq_true, decide_eq_true_eq] using And.intro hrd hra

end

end Sys2Proof.Machine
end

section
/-! Register instructions (O1), immediate instructions (O2) and branches (O4): each shape of R49 once, then the value of each
instruction. -/

namespace Sys2Proof.Machine

/-! ### Values -/

theorem mul_eq_ofNat (a b : Word) : a * b = BitVec.ofNat 64 (a.toNat * b.toNat) := by
  rw [BitVec.ofNat_mul, BitVec.ofNat_toNat, BitVec.ofNat_toNat, BitVec.setWidth_eq, BitVec.setWidth_eq]

theorem toNat_eq_zero_iff (b : Word) : b.toNat = 0 ↔ b = 0 := by
  rw [← BitVec.toNat_inj]
  rfl

theorem divu_eq_ofNat (a b : Word) : (if b = 0 then BitVec.allOnes 64 else a / b) =
    if b.toNat = 0 then BitVec.allOnes 64 else BitVec.ofNat 64 (a.toNat / b.toNat) := by
  simp only [toNat_eq_zero_iff, ← BitVec.toNat_udiv, BitVec.ofNat_toNat, BitVec.setWidth_eq]

theorem remu_eq_ofNat (a b : Word) : (if b = 0 then a else a % b) =
    if b.toNat = 0 then a else BitVec.ofNat 64 (a.toNat % b.toNat) := by
  simp only [toNat_eq_zero_iff, ← BitVec.toNat_umod, BitVec.ofNat_toNat, BitVec.setWidth_eq]

theorem minu_eq_ofNat (a b : Word) : (if a.ult b then a else b) = BitVec.ofNat 64 (min a.toNat b.toNat) := by
  apply BitVec.eq_of_toNat_eq
  rw [BitVec.toNat_ofNat, Nat.mod_eq_of_lt (by omega), apply_ite BitVec.toNat]
  simp only [BitVec.ult, decide_eq_true_eq]
  split <;> omega

theorem maxu_eq_ofNat (a b : Word) : (if a.ult b then b else a) = BitVec.ofNat 64 (max a.toNat b.toNat) := by
  apply BitVec.eq_of_toNat_eq
  rw [BitVec.toNat_ofNat, Nat.mod_eq_of_lt (by omega), apply_ite BitVec.toNat]
  simp only [BitVec.ult, decide_eq_true_eq]
  split <;> omega

theorem slt_value (a b : Word) : (if a.slt b then (1 : Word) else 0) = if a.toInt < b.toInt then 1 else 0 := by
  simp only [BitVec.slt, decide_eq_true_eq]

theorem sltu_value (a b : Word) : (if a.ult b then (1 : Word) else 0) = if a.toNat < b.toNat then 1 else 0 := by
  simp only [BitVec.ult, decide_eq_true_eq]

/-- Settles O1: the shape of the register instructions, and what each function comes to. -/
theorem registerArithmetic : Obligations.RegisterArithmetic := by
  intro c o s h a b w
  refine ⟨⟨_, rfl, ?add⟩, ⟨_, rfl, ?sub⟩, ⟨_, rfl, ?and⟩, ⟨_, rfl, ?or⟩, ⟨_, rfl, ?xor⟩, ⟨_, rfl, ?sll⟩, ⟨_, rfl, ?srl⟩, ⟨_, rfl, ?sra⟩,
    ⟨_, rfl, ?slt⟩, ⟨_, rfl, ?sltu⟩, ⟨_, rfl, ?mul⟩, ⟨_, rfl, ?mulhu⟩, ⟨_, rfl, ?divu⟩, ⟨_, rfl, ?remu⟩, ⟨_, rfl, ?minu⟩, ⟨_, rfl, ?maxu⟩⟩
  case slt => exact State.writes_aluRRR h o _ _ (slt_value a b)
  case sltu => exact State.writes_aluRRR h o _ _ (sltu_value a b)
  case mul => exact State.writes_aluRRR h o _ _ (mul_eq_ofNat a b)
  case divu => exact State.writes_aluRRR h o _ _ (divu_eq_ofNat a b)
  case remu => exact State.writes_aluRRR h o _ _ (remu_eq_ofNat a b)
  case minu => exact State.writes_aluRRR h o _ _ (minu_eq_ofNat a b)
  case maxu => exact State.writes_aluRRR h o _ _ (maxu_eq_ofNat a b)
  all_goals exact State.writes_aluRRR h o _ _ rfl

/-! ### Immediates -/

/-- A legal shift amount is the whole immediate (R49). -/
theorem shiftLegal_of_lt {o : IOp} (h : o.imm.toNat < 64) : shiftLegal o = true := by
  exact decide_eq_true (show o.imm.toNat / 2 ^ 6 % 2 ^ 10 = 0 by omega)

theorem immBits_low (o : IOp) : immBits o.imm 0 6 = o.imm.toNat % 64 := by simp [immBits, bitsOf]

theorem fieldLen_eq (o : IOp) : fieldLen o = o.imm.toNat % 64 + 1 := by rw [fieldLen, immBits_low]

theorem fieldPos_eq (o : IOp) : fieldPos o = o.imm.toNat / 64 % 64 := by simp [fieldPos, immBits, bitsOf]

/-- A field within the word, with no bit set above its position and length, is legal (R49). -/
theorem fieldLegal_of {o : IOp} (h : o.imm.toNat < 4096) (hfit : o.imm.toNat / 64 % 64 + (o.imm.toNat % 64 + 1) ≤ 64) :
    fieldLegal o = true := by
  rw [fieldLegal, fieldPos_eq, fieldLen_eq]
  exact Bool.and_eq_true_iff.2 ⟨decide_eq_true (show o.imm.toNat / 2 ^ 12 % 2 ^ 4 = 0 by omega), decide_eq_true hfit⟩

/-- A field taken from a word is its bits as a number (R49). -/
theorem extract_eq_ofNat (a : Word) (pos len : Nat) (hlen : len ≤ 64) :
    (a >>> pos) &&& BitVec.ofNat 64 (2 ^ len - 1) = BitVec.ofNat 64 (a.toNat / 2 ^ pos % 2 ^ len) := by
  apply BitVec.eq_of_toNat_eq
  have hpow : 2 ^ len ≤ 2 ^ 64 := Nat.pow_le_pow_right (by decide) hlen
  have hpos : 0 < 2 ^ len := Nat.two_pow_pos len
  rw [BitVec.toNat_and, BitVec.toNat_ushiftRight, BitVec.toNat_ofNat, BitVec.toNat_ofNat, Nat.shiftRight_eq_div_pow,
    Nat.mod_eq_of_lt (show 2 ^ len - 1 < 2 ^ 64 by omega), Nat.and_two_pow_sub_one_eq_mod,
    Nat.mod_eq_of_lt (lt_of_lt_of_le (Nat.mod_lt _ hpos) hpow)]

/-- The mask of a field is its ones at its position (R49). -/
theorem fieldMask_eq (o : IOp) :
    fieldMask o = BitVec.ofNat 64 ((2 ^ (o.imm.toNat % 64 + 1) - 1) * 2 ^ (o.imm.toNat / 64 % 64)) := by
  apply BitVec.eq_of_toNat_eq
  rw [fieldMask, fieldLen_eq, fieldPos_eq, BitVec.toNat_shiftLeft, BitVec.toNat_ofNat, BitVec.toNat_ofNat, Nat.shiftLeft_eq,
    Nat.mod_mul_mod]

/-- Settles O2: the shape of the immediate instructions, and what the encoding's fields come to. -/
theorem immediateArithmetic : Obligations.ImmediateArithmetic := by
  intro c o s h a sx zx sh pos len m w
  refine ⟨⟨_, rfl, ?addi⟩, ⟨_, rfl, ?andi⟩, ⟨_, rfl, ?ori⟩, ⟨_, rfl, ?xori⟩, fun hra => ⟨_, rfl, ?lui⟩, ⟨_, rfl, ?shor⟩, ⟨_, rfl, ?slti⟩,
    ⟨_, rfl, ?sltiu⟩, fun hsh => ⟨⟨_, rfl, ?slli⟩, ⟨_, rfl, ?srli⟩, ⟨_, rfl, ?srai⟩⟩, fun himm hfit => ⟨⟨_, rfl, ?ext⟩, ⟨_, rfl, ?ins⟩⟩⟩
  case lui => exact State.writes_aluImm h o _ (decide_eq_true hra) _ rfl
  case slti => exact State.writes_aluImm h o _ rfl _ (slt_value a sx)
  case sltiu => exact State.writes_aluImm h o _ rfl _ (sltu_value a sx)
  case slli => exact State.writes_aluImm h o _ (shiftLegal_of_lt hsh) _ (by rw [immBits_low])
  case srli => exact State.writes_aluImm h o _ (shiftLegal_of_lt hsh) _ (by rw [immBits_low])
  case srai => exact State.writes_aluImm h o _ (shiftLegal_of_lt hsh) _ (by rw [immBits_low])
  case ext =>
    refine State.writes_aluImm h o _ (fieldLegal_of himm hfit) _ ?_
    rw [fieldPos_eq, fieldLen_eq]
    exact extract_eq_ofNat a pos len (by omega)
  case ins => exact State.writes_aluImm h o _ (fieldLegal_of himm hfit) _ (by rw [fieldMask_eq, fieldPos_eq])
  all_goals exact State.writes_aluImm h o _ rfl _ rfl

/-! ### Jumps and branches -/

section
variable {s : State} {c : Core} (h : s.runs c)
include h

/-- A branch moves the pc of its core, and nothing else (R49). -/
theorem State.branch_moves (o : BOp) (op : Nat) {cond : Word → Word → Bool} {b : Bool}
    (hb : cond ((s.core c).reg o.ra) ((s.core c).reg o.rb) = b) :
    OnlyCore s (s.branch c o op cond) c ∧ (s.branch c o op cond).core c =
      { s.core c with pc := if b then (s.core c).pc + 4 + 4 * o.imm.signExtend 64 else (s.core c).pc + 4 } := by
  rw [State.branch, State.leverRun_runs h]
  refine ⟨s.onlyCore_modCore c _, ?_⟩
  rw [State.core_modCore_self, hb]
  cases b <;> rfl

end

/-- A jump has put the link in G[rd] and its target in the pc (R49). -/
theorem State.modCore_links (s : State) (c : Core) (rd : BitVec 5) (link target : CoreState → Word) :
    let t := s.modCore c (fun k => { k.setReg rd (link k) with pc := target k })
    OnlyCore s t c ∧ OnlyRegisters (s.core c) (t.core c) ∧ (t.core c).pc = target (s.core c) ∧
      ∀ r, (t.core c).reg r = if r = rd ∧ r ≠ 0 then link (s.core c) else (s.core c).reg r := by
  intro t
  have hcore : t.core c = { (s.core c).setReg rd (link (s.core c)) with pc := target (s.core c) } := s.core_modCore_self c _
  rw [hcore]
  exact ⟨s.onlyCore_modCore c _, (s.core c).onlyRegisters_setReg rd _ _, rfl, (s.core c).reg_setReg rd _⟩

/-- Settles O4: the branches by their shape, the jumps by what links. -/
theorem branches : Obligations.Branches := by
  intro c s h k to_ when linked
  refine ⟨fun o => ⟨⟨_, rfl, ?beq⟩, ⟨_, rfl, ?bne⟩, ⟨_, rfl, ?blt⟩, ⟨_, rfl, ?bge⟩, ⟨_, rfl, ?bltu⟩, ⟨_, rfl, ?bgeu⟩⟩,
    fun o => ⟨fun hra => ?jal, ?jalr⟩⟩
  case beq => exact State.branch_moves h o _ rfl
  case bne => exact State.branch_moves h o _ rfl
  case blt => exact State.branch_moves h o _ rfl
  case bge =>
    refine State.branch_moves h o _ ?_
    simp only [BitVec.slt, ← decide_not, not_lt, k]
  case bltu => exact State.branch_moves h o _ rfl
  case bgeu =>
    refine State.branch_moves h o _ ?_
    simp only [BitVec.ult, ← decide_not, not_lt, k]
  case jal =>
    refine ⟨_, congrArg Host.Outcome.next ((State.leverEncoded_runs h _ _ _).trans (if_pos (decide_eq_true hra))), ?_⟩
    exact s.modCore_links c o.rd (fun k => k.pc + 4) (fun k => k.pc + 4 + 4 * sx16 o.imm)
  case jalr =>
    refine ⟨_, congrArg Host.Outcome.next (State.leverRun_runs h _ _), ?_⟩
    exact s.modCore_links c o.rd (fun k => k.pc + 4) (fun k => (k.reg o.ra + sx16 o.imm) &&& ~~~3)

end Sys2Proof.Machine
end

section
/-! Loads, stores and AMOs that complete (O3): what a store puts in the map of its core, and what it leaves (R49 to R51, R589). -/

namespace Sys2Proof.Machine

theorem memNat_one (m : Mem) (a : Nat) : memNat m a 1 = (memByte m a).toNat := by simp [memNat, memBytes, ofLE]

theorem ofLE_lt (l : List Byte) : ofLE l < 256 ^ l.length := by
  induction l with
  | nil => exact Nat.one_pos
  | cons b l ih =>
    have hb : b.toNat < 256 := b.isLt
    rw [ofLE, List.length_cons, Nat.pow_succ]
    omega

theorem memBytes_length (m : Mem) (a n : Nat) : (memBytes m a n).length = n := by
  induction n generalizing a with
  | zero => rfl
  | succ n ih => rw [memBytes, List.length_cons, ih]

theorem memNat_lt (m : Mem) (a n : Nat) : memNat m a n < 256 ^ n :=
  (ofLE_lt (memBytes m a n)).trans_eq (by rw [memBytes_length])

/-- A number put in memory leaves every byte outside it alone. -/
theorem memNat_memPutNat_ne (m : Mem) {a n x : Nat} (v : Nat) (h : x < a ∨ a + n ≤ x) :
    memNat (memPutNat m a n v) x 1 = memNat m x 1 := by
  rw [memNat_one, memNat_one, memPutNat, memByte_memPutBytes_ne _ _ _ _ (by rwa [toLE_length])]

/-- What a store or an AMO does besides the registers: the bytes at its address, and the error of a word stored whole. -/
def State.storeAt (s : State) (c a n v : Nat) : State := (s.leverWrite c a n v).leverRepair c a n

theorem State.leverRepair_lev (s : State) (c a n : Nat) : (s.leverRepair c a n).lev = s.lev := by
  unfold State.leverRepair
  split <;> rfl

theorem State.leverRepair_eq (s : State) (c a n : Nat) : s.leverRepair c a n = { s with errors := { s.errors with
    badLever := if n = 8 then s.errors.badLever.filter (· != leverWord c a) else s.errors.badLever } } := by
  unfold State.leverRepair
  by_cases hn : n = 8
  · cases hb : s.badLever c a with
    | true => simp [hn]
    | false =>
      have hfilter : s.errors.badLever.filter (· != leverWord c a) = s.errors.badLever := by
        rw [List.filter_eq_self]
        intro e he
        have hnot : leverWord c a ∉ s.errors.badLever := by simpa [State.badLever] using hb
        simpa using fun h : e = leverWord c a => hnot (h ▸ he)
      simp [hfilter]
  · simp [hn]

/-- A word without an error needs no repair. -/
theorem State.leverRepair_good {s : State} {c a : Nat} (h : s.badLever c a = false) (n : Nat) : s.leverRepair c a n = s := by
  simp [State.leverRepair, h]

theorem State.leverWrite_badLever (s : State) (c a n v : Nat) (x : Nat) : (s.leverWrite c a n v).badLever c x = s.badLever c x := by
  unfold State.leverWrite
  split <;> rfl

/-- The core of a store differs from before in its local memory alone. -/
theorem State.storeAt_core (s : State) (c a n v : Nat) : (s.storeAt c a n v).core c =
    { s.core c with mem := ((s.storeAt c a n v).core c).mem } := by
  have hlev : ∀ d, (s.storeAt c a n v).core d = (s.leverWrite c a n v).core d := fun d => by
    rw [State.core, State.storeAt, State.leverRepair_lev, State.core]
  rw [hlev]
  unfold State.leverWrite
  split
  · rw [State.core_modCore_self]
  · rfl

theorem State.storeAt_core_ne (s : State) {c d : Nat} (a n v : Nat) (h : d ≠ c) : (s.storeAt c a n v).core d = s.core d := by
  rw [State.core, State.storeAt, State.leverRepair_lev]
  unfold State.leverWrite
  split
  · exact (s.core_modCore c d _).trans (if_neg (Ne.symm h))
  · rfl

/-- What a core reads follows from its local memory and the two shared ones (R51). -/
theorem State.leverRead_congr {s t : State} {c a n : Nat} (hmem : (t.core c).mem = (s.core c).mem)
    (hcode : t.lev.sharedCode = s.lev.sharedCode) (hdata : t.lev.sharedData = s.lev.sharedData) :
    t.leverRead c a n = s.leverRead c a n := by
  rw [State.leverRead, State.leverRead, hmem, hcode, hdata]

theorem State.leverRead_lt (s : State) (c a n : Nat) : s.leverRead c a n < 256 ^ n := by
  unfold State.leverRead
  split
  next => exact memNat_lt ..
  next => split <;> exact memNat_lt ..

theorem State.leverRead_storeAt (s : State) (c a n v d x m : Nat) :
    (s.storeAt c a n v).leverRead d x m = (s.leverWrite c a n v).leverRead d x m := by
  refine State.leverRead_congr ?_ ?_ ?_ <;> rw [State.storeAt]
  · rw [State.core, State.leverRepair_lev, State.core]
  · rw [State.leverRepair_lev]
  · rw [State.leverRepair_lev]

/-- Outside the shared code region, the bytes a core has written read back. -/
theorem State.leverRead_leverWrite_self (s : State) {c a : Nat} (n v : Nat) (ha : a < 0x1000000 ∨ 0x1400000 ≤ a) :
    (s.leverWrite c a n v).leverRead c a n = v % 256 ^ n := by
  unfold State.leverWrite State.leverRead
  rcases ha with ha | ha
  · simp only [ha, if_true, State.core_modCore_self, memNat_memPutNat]
  · simp only [show ¬ a < 0x1000000 by omega, show ¬ a < 0x1400000 by omega, if_false, memNat_memPutNat]

/-- A write to local memory shows at no address outside it and on no other core; a write to shared data at no address outside it. -/
theorem State.leverRead_leverWrite_ne (s : State) {c d a n x : Nat} (v : Nat) (ha : a < 0x1000000 ∨ 0x1400000 ≤ a)
    (h : x < a ∨ a + n ≤ x ∨ (a < 0x1000000 ∧ d ≠ c)) :
    (s.leverWrite c a n v).leverRead d x 1 = s.leverRead d x 1 := by
  unfold State.leverWrite
  split
  next hlocal =>
    unfold State.leverRead
    by_cases hd : c = d
    · subst hd
      simp only [State.core_modCore_self, memNat_memPutNat_ne _ v (show x < a ∨ a + n ≤ x by omega)]
      rfl
    · rw [State.core_modCore, if_neg hd]
      rfl
  next hshared =>
    unfold State.leverRead
    split
    next => rfl
    next =>
      split
      next => rfl
      next => exact memNat_memPutNat_ne _ v (by omega)

/-- The bytes a core may write lie in its local memory or in the shared data region (R51). -/
theorem mayWrite_region {u : CoreUse} {a : Nat} (h : mayWrite u a = true) : a < 0x1000000 ∨ 0x1400000 ≤ a := by
  rcases (mayWrite_iff u a).1 h with h | ⟨_, h, _⟩ <;> omega

/-- A store, and a change of its core's registers and pc, have changed nothing but the bytes stored and those (R49, R589). -/
theorem State.stored_retire (s : State) (c : Core) {a n : Nat} (v : Nat) (ha : a < 0x1000000 ∨ 0x1400000 ≤ a)
    {f : CoreState → CoreState} (hf : ∀ k, f k = { k with g := (f k).g }) :
    let t := (s.storeAt c a n v).retire c f
    Stored s t c a n ∧ t.leverRead c a n = v % 256 ^ n := by
  intro t
  have hcore : t.core c = (f ((s.storeAt c a n v).core c)).next := State.core_retire ..
  have hmem : (t.core c).mem = ((s.storeAt c a n v).core c).mem := by
    rw [hcore, CoreState.next, hf]
  have hothers : ∀ d : Nat, d ≠ c.val → t.core d = (s.storeAt c a n v).core d := fun d hd =>
    (State.core_modCore ..).trans (if_neg (Ne.symm hd))
  have hread : ∀ d x m : Nat, t.leverRead d x m = (s.leverWrite c a n v).leverRead d x m := fun d x m => by
    rw [← State.leverRead_storeAt]
    refine State.leverRead_congr ?_ rfl rfl
    by_cases hd : d = c.val
    · rw [hd, hmem]
    · rw [hothers d hd]
  refine ⟨⟨?_, fun d hd => (hothers d hd).trans (s.storeAt_core_ne a n v hd), ?_, fun d x h => ?_⟩, ?_⟩
  · have hrest : s.storeAt c a n v = { s with
        lev := { s.lev with cores := (s.storeAt c a n v).lev.cores, sharedData := (s.storeAt c a n v).lev.sharedData }
        errors := { s.errors with
          badLever := if n = 8 then s.errors.badLever.filter (· != leverWord c a) else s.errors.badLever } } := by
      rw [State.storeAt, State.leverRepair_eq]
      unfold State.leverWrite
      split <;> rfl
    calc t = { s.storeAt c a n v with lev := { (s.storeAt c a n v).lev with cores := t.lev.cores } } := rfl
      _ = _ := by rw [hrest]; rfl
  · rw [hcore, CoreState.next, hf, State.storeAt_core]
  · rw [hread]
    exact s.leverRead_leverWrite_ne v ha h
  · rw [hread]
    exact s.leverRead_leverWrite_self n v ha

section
variable {s : State} {c : Core} (h : s.runs c)
include h

/-- A load within its region, aligned and of a good word, completes (R49, R50). -/
theorem State.writes_load {o : IOp} {size : Nat} (ha : mayRead ((s.core c).ea o) = true) (hs : (s.core c).ea o % size = 0)
    (hb : s.badLever c ((s.core c).ea o) = false) (op : Nat) :
    Writes s (s.load c o op size) c o.rd (BitVec.ofNat 64 (s.leverRead c ((s.core c).ea o) size)) := by
  rw [State.load_good h ha hs hb]
  exact s.writes_retire c o.rd _

/-- A store within its region and aligned completes (R49, R50). -/
theorem State.stored_store {o : IOp} {size : Nat} (ha : mayWrite (s.core c).use ((s.core c).ea o) = true)
    (hs : (s.core c).ea o % size = 0) (op : Nat) :
    let t := s.store c o op size
    let a := (s.core c).ea o
    Stored s t c a size ∧ t.leverRead c a size = ((s.core c).reg o.rd).toNat % 256 ^ size ∧ (t.core c).pc = (s.core c).pc + 4 ∧
      ∀ r, (t.core c).reg r = (s.core c).reg r := by
  have ht : s.store c o op size = (s.storeAt c ((s.core c).ea o) size ((s.core c).reg o.rd).toNat).retire c id := by
    simp [State.store, State.storeAt, State.leverRun_runs h, ha, hs]
  rw [ht]
  obtain ⟨hstored, hread⟩ := s.stored_retire c (n := size) ((s.core c).reg o.rd).toNat (mayWrite_region ha) (f := id) fun _ => rfl
  refine ⟨hstored, hread, ?_, fun r => ?_⟩
  all_goals
    rw [State.core_retire, State.storeAt_core]
    rfl

/-- An AMO on a good word of the shared data region completes (R49, R50). -/
theorem State.stored_amo {o : RRR} (ha : mayAmo (s.core c).use ((s.core c).reg o.ra).toNat = true)
    (hs : ((s.core c).reg o.ra).toNat % 8 = 0) (hb : s.badLever c ((s.core c).reg o.ra).toNat = false) (fn : Nat)
    (f : Word → Word → Word) {v : Nat}
    (hv : (f (BitVec.ofNat 64 (s.leverRead c ((s.core c).reg o.ra).toNat 8)) ((s.core c).reg o.rb)).toNat = v % 2 ^ 64) :
    let t := s.amo c o fn f
    let a := ((s.core c).reg o.ra).toNat
    Stored s t c a 8 ∧ t.leverRead c a 8 = v % 2 ^ 64 ∧ (t.core c).pc = (s.core c).pc + 4 ∧
      ∀ r, (t.core c).reg r = if r = o.rd ∧ r ≠ 0 then BitVec.ofNat 64 (s.leverRead c a 8) else (s.core c).reg r := by
  have hrepair : ∀ w, s.storeAt c ((s.core c).reg o.ra).toNat 8 w = s.leverWrite c ((s.core c).reg o.ra).toNat 8 w := fun w =>
    State.leverRepair_good ((s.leverWrite_badLever ..).trans hb) 8
  have ht : s.amo c o fn f = (s.storeAt c ((s.core c).reg o.ra).toNat 8 (v % 2 ^ 64)).retire c
      (fun k => k.setReg o.rd (BitVec.ofNat 64 (s.leverRead c ((s.core c).reg o.ra).toNat 8))) := by
    rw [hrepair, ← hv]
    simp [State.amo, State.leverRun_runs h, ha, hs, hb]
  rw [ht]
  have hregion := mayWrite_region (Bool.and_eq_true_iff.1 ha).2
  obtain ⟨hstored, hread⟩ := s.stored_retire c (n := 8) (v % 2 ^ 64) hregion fun k => k.setReg_eq o.rd _
  refine ⟨hstored, by rw [hread]; omega, ?_, fun r => ?_⟩
  · rw [State.core_retire, CoreState.next, CoreState.setReg_pc, State.storeAt_core]
  · rw [State.core_retire]
    exact (CoreState.reg_setReg ..).trans (by rw [State.storeAt_core]; rfl)

end

/-- Settles O3: the shapes of loads, stores and AMOs, and what each AMO puts in memory. -/
theorem memoryInstructions : Obligations.MemoryInstructions := by
  refine ⟨?loads, ?stores, ?amos⟩
  case loads =>
    intro c o s h a ha hb
    refine ⟨fun hs => ⟨_, rfl, ?_⟩, fun hs => ⟨_, rfl, ?_⟩, ⟨_, rfl, ?_⟩⟩
    · exact State.writes_load h ha hs hb _
    · exact State.writes_load h ha hs hb _
    · exact State.writes_load h ha (Nat.mod_one _) hb _
  case stores =>
    intro c o s h a v stored ha
    refine ⟨fun hs => ⟨_, rfl, ?_⟩, fun hs => ⟨_, rfl, ?_⟩, ⟨_, rfl, ?_⟩⟩
    · exact State.stored_store h ha hs _
    · exact State.stored_store h ha hs _
    · exact State.stored_store h ha (Nat.mod_one _) _
  case amos =>
    intro c o s h a old b swapped ha hs hb
    have hold : old < 2 ^ 64 := s.leverRead_lt c a 8
    refine ⟨⟨_, rfl, ?_⟩, ⟨_, rfl, ?_⟩, ⟨_, rfl, ?_⟩, ⟨_, rfl, ?_⟩⟩
    · exact State.stored_amo h ha hs hb _ _ (by rw [BitVec.toNat_add, BitVec.toNat_ofNat, Nat.mod_add_mod])
    · exact State.stored_amo h ha hs hb _ _ (Nat.mod_eq_of_lt (BitVec.isLt _)).symm
    · refine State.stored_amo h ha hs hb _ _ ?_
      rw [BitVec.toNat_and, BitVec.toNat_ofNat, Nat.mod_eq_of_lt hold, Nat.mod_eq_of_lt (Nat.and_lt_two_pow _ (BitVec.isLt _))]
    · refine State.stored_amo h ha hs hb _ _ ?_
      rw [BitVec.toNat_or, BitVec.toNat_ofNat, Nat.mod_eq_of_lt hold, Nat.mod_eq_of_lt (Nat.or_lt_two_pow hold (BitVec.isLt _))]

end Sys2Proof.Machine
end

section
/-! Table access (O6) and the system instructions of a core (O7): each on a core that runs (R48, R58). -/

namespace Sys2Proof.Machine

/-- Staging an entry where the buffer has room appends it and completes the instruction (R58). -/
theorem State.stage_room {s : State} {c : Nat} (h : (s.core c).buf.length < 256) (word : BitVec 32) (e : Entry)
    (named : Option (Nat × Nat)) (f : CoreState → CoreState) : s.stage c word e named f =
      s.retire c (fun k => f { k with buf := k.buf ++ [e], named := k.named ++ named.toList }) := by
  rw [State.stage, if_neg (by omega)]

/-- An instruction that completes has changed its core as given, and nothing else. -/
theorem State.moved_retire (s : State) (c : Core) (f : CoreState → CoreState) :
    OnlyCore s (s.retire c f) c ∧ (s.retire c f).core c = (f (s.core c)).next :=
  ⟨s.onlyCore_retire c f, s.core_retire c f⟩

section
variable {s : State} {c : Core} (h : s.runs c)
include h

/-! ### Table access -/

theorem execOpenObj_fills {o : TOp} (hf : o.flags = 0)
    (hrange : s.objectInRange o.sel.toNat ((s.core c).reg o.rg).toNat ((s.core c).reg o.rx).toNat = true)
    (halloc : classPool o.sel.toNat = true → s.allocated o.sel.toNat ((s.core c).reg o.rg).toNat = true)
    (hscope : s.inScope (s.core c).priv (s.core c).tenant o.sel.toNat ((s.core c).reg o.rg).toNat = true) :
    exec (.openObj c o) s = .next (s.retire c (fun k => k.setHandle o.h ⟨true, o.sel.toNat, ((s.core c).reg o.rg).toNat,
      ((s.core c).reg o.rx).toNat, s.generation o.sel.toNat ((s.core c).reg o.rg).toNat ((s.core c).reg o.rx).toNat⟩)) := by
  have hclass : (classIndexes o.sel.toNat).isNone = false := by
    cases hc : classIndexes o.sel.toNat with
    | none => simp [State.objectInRange, hc] at hrange
    | some n => rfl
  have hpool : (classPool o.sel.toNat && !s.allocated o.sel.toNat ((s.core c).reg o.rg).toNat) = false := by
    cases hp : classPool o.sel.toNat with
    | false => rfl
    | true => simp [halloc hp]
  refine congrArg Host.Outcome.next ((State.leverEncoded_runs h _ _ _).trans ?_)
  simp only [hf, decide_true, if_true, hclass, hrange, hpool, hscope, Bool.not_true, Bool.false_eq_true, if_false]

/-- A field is read where its class defines it: staged where flags is 0, else as it stands (R58). -/
theorem execLdf_reads {o : TOp} (hx : o.rx = 0) (hf : o.flags.toNat ≤ 1) (hv : ((s.core c).handle o.h).valid = true)
    (hbad : (((s.core c).handle o.h).cls, ((s.core c).handle o.h).idx, ((s.core c).handle o.h).sub) ∉ s.errors.badObjects) {v : Nat}
    (hread : s.readField ((s.core c).handle o.h).cls ((s.core c).handle o.h).idx ((s.core c).handle o.h).sub o.sel.toNat = some v) :
    exec (.ldf c o) s = .next (s.retire c (fun k => k.setReg o.rg (BitVec.ofNat 64 (if o.flags = 0 then
      (stagedValue (s.core c).buf ((s.core c).handle o.h).cls ((s.core c).handle o.h).idx ((s.core c).handle o.h).sub o.sel.toNat).getD v
      else v)))) := by
  have hflags : o.flags.toNat / 2 = 0 := by omega
  have htouch : s.touchObject ((s.core c).handle o.h).cls ((s.core c).handle o.h).idx ((s.core c).handle o.h).sub = s := by
    simp [State.touchObject, hbad]
  refine congrArg Host.Outcome.next ((State.leverEncoded_runs h _ _ _).trans ?_)
  simp only [hx, hflags, decide_true, Bool.and_self, if_true, hv, Bool.not_true, Bool.false_eq_true, if_false, htouch, hread]
  split <;> rfl

/-- A value is staged in a CO field that accepts it and holds no staged value (R56, R58). -/
theorem execStf_stages {o : TOp} {f : Fld} (hx : o.rx = 0) (hf : o.flags = 0) (hv : ((s.core c).handle o.h).valid = true)
    (hsel : o.sel.toNat ≠ 0) (hsel' : o.sel.toNat ≠ 0xFF) (hfld : Fld.ofId ((s.core c).handle o.h).cls o.sel.toNat = some f)
    (hco : f.info.co = true)
    (hmay : s.mayStage (s.core c).priv (s.core c).tenant ((s.core c).handle o.h).cls ((s.core c).handle o.h).idx o.sel.toNat
      ((s.core c).reg o.rg).toNat = true)
    (hacc : f.accepts ((s.core c).handle o.h).idx ((s.core c).reg o.rg).toNat = true)
    (hnone : stagedValue (s.core c).buf ((s.core c).handle o.h).cls ((s.core c).handle o.h).idx ((s.core c).handle o.h).sub
      o.sel.toNat = none) (hroom : (s.core c).buf.length < 256) :
    exec (.stf c o) s = .next (s.retire c (fun k => { k with
      buf := k.buf ++ [Entry.write ((s.core c).handle o.h).cls ((s.core c).handle o.h).idx ((s.core c).handle o.h).sub o.sel.toNat
        ((s.core c).reg o.rg).toNat]
      named := k.named ++ [(genKey ((s.core c).handle o.h).cls ((s.core c).handle o.h).idx ((s.core c).handle o.h).sub,
        ((s.core c).handle o.h).gen)] })) := by
  refine congrArg Host.Outcome.next ((State.leverEncoded_runs h _ _ _).trans ?_)
  simp only [hx, hf, decide_true, Bool.and_self, if_true, hv, Bool.not_true, Bool.false_eq_true, if_false, hsel, hsel', hfld, hco, hmay,
    hacc, hnone, Option.isSome_none, State.stage_room hroom]
  rfl

/-- The creation of the lowest free object is staged, and its index reserved (R58, R59). -/
theorem execNewObj_stages {o : TOp} {i : Nat} (hf : o.flags = 0) (hpool : classPool o.sel.toNat = true)
    (howner : ownerInScope (s.core c).priv (s.core c).tenant ((s.core c).reg o.rg).toNat = true)
    (hclass : classWritable o.sel.toNat (s.core c).priv = true)
    (hnew : s.newObject o.sel.toNat ((s.core c).reg o.rg).toNat = some i) (hroom : (s.core c).buf.length < 256) :
    exec (.newObj c o) s = .next (s.retire c (fun k => ({ k with
        buf := k.buf ++ [Entry.create o.sel.toNat i ((s.core c).reg o.rg).toNat]
        named := k.named ++ [(genKey o.sel.toNat i 0, s.generation o.sel.toNat i 0)]
        reserved := k.reserved ++ [(o.sel.toNat, i)] }.setHandle o.h ⟨true, o.sel.toNat, i, 0, s.generation o.sel.toNat i 0⟩).setReg o.rx
      (BitVec.ofNat 64 i))) := by
  have htenant : o.sel.toNat ≠ clsTenant := fun e => by rw [e] at hpool; exact absurd hpool (by decide)
  refine congrArg Host.Outcome.next ((State.leverEncoded_runs h _ _ _).trans ?_)
  simp only [hf, decide_true, if_true, htenant, decide_false, Bool.and_false, hpool, howner, hclass, Bool.not_true, Bool.or_self,
    Bool.false_eq_true, if_false, hnew, State.stage_room hroom]
  rfl

/-- A deletion is staged, and its handle is no longer valid (R58). -/
theorem execDelObj_stages {o : TOp} (hg : o.rg = 0) (hx : o.rx = 0) (hsel : o.sel = 0) (hf : o.flags = 0)
    (hv : ((s.core c).handle o.h).valid = true) (hpool : classPool ((s.core c).handle o.h).cls = true)
    (hclass : classWritable ((s.core c).handle o.h).cls (s.core c).priv = true) (hroom : (s.core c).buf.length < 256) :
    exec (.delObj c o) s = .next (s.retire c (fun k => { k with
        buf := k.buf ++ [Entry.delete ((s.core c).handle o.h).cls ((s.core c).handle o.h).idx]
        named := k.named ++ [(genKey ((s.core c).handle o.h).cls ((s.core c).handle o.h).idx ((s.core c).handle o.h).sub,
          ((s.core c).handle o.h).gen)] }.setHandle o.h { (s.core c).handle o.h with valid := false })) := by
  have htenant : ((s.core c).handle o.h).cls ≠ clsTenant := fun e => by rw [e] at hpool; exact absurd hpool (by decide)
  refine congrArg Host.Outcome.next ((State.leverEncoded_runs h _ _ _).trans ?_)
  simp only [hg, hx, hsel, hf, decide_true, Bool.and_self, if_true, hv, htenant, decide_false, Bool.and_false, hpool, hclass,
    Bool.not_true, Bool.false_eq_true, if_false, State.stage_room hroom]
  rfl

end

/-- Settles O6: each instruction completes with its change of the core. -/
theorem tableAccess : Obligations.TableAccess := by
  intro c o s h k hd moved cls idx sub
  refine ⟨fun hf hrange halloc hscope => ?open_, fun hx hf hv hbad v hread => ?ldf,
    fun f hx hf hv hsel hsel' hfld hco hmay hacc hnone hroom => ?stf, fun i hf hpool howner hclass hnew hroom => ?new,
    fun hg hx hsel hf hv hpool hclass hroom => ?del⟩
  case open_ => exact ⟨_, execOpenObj_fills h hf hrange halloc hscope, s.moved_retire c _⟩
  case ldf => exact ⟨_, execLdf_reads h hx hf hv hbad hread, s.writes_retire c o.rg _⟩
  case stf => exact ⟨_, execStf_stages h hx hf hv hsel hsel' hfld hco hmay hacc hnone hroom, s.moved_retire c _⟩
  case del => exact ⟨_, execDelObj_stages h hg hx hsel hf hv hpool hclass hroom, s.moved_retire c _⟩
  case new =>
    refine ⟨_, execNewObj_stages h hf hpool howner hclass hnew hroom, s.onlyCore_retire c _, ?_⟩
    rw [s.core_retire]
    refine ⟨?_, ?_, ?_, fun r => CoreState.reg_setReg .., ?_⟩
    all_goals rw [CoreState.setReg_eq]
    · rfl
    · rfl
    · exact Tab.get_set_self ..
    · rfl

/-! ### System instructions -/

section
variable {s : State} {c : Core} (h : s.runs c)
include h

/-- A system instruction that completes with a value for G[rd] (R48). -/
theorem State.writes_sys {o : SOp} (hra : o.ra = 0) (fn : Nat) (v : State → CoreState → Word) :
    Writes s (s.sys c o fn true false (fun s => s.retire c (fun k => k.setReg o.rd (v s k)))) c o.rd (v s (s.core c)) := by
  rw [State.sys_runs h (.inl rfl) (.inr hra)]
  exact s.writes_retire c o.rd (v s)

/-- COMMIT with an empty buffer is done at once, with 0 (R62). -/
theorem execCommitBuf_empty {o : SOp} (hra : o.ra = 0) (hb : (s.core c).buf = []) :
    Leads (.commitBuf c o) s (fun t => Writes s t c o.rd 0) := by
  refine ⟨_, congrArg Host.Outcome.next (State.sys_runs h (.inl rfl) (.inr hra) _ _), ?_⟩
  rw [hb]
  exact s.writes_retire c o.rd (fun _ => 0)

/-- COMMIT with entries makes the core wait for the commit unit (R62). -/
theorem execCommitBuf_waits {o : SOp} (hra : o.ra = 0) (hb : (s.core c).buf ≠ []) :
    Leads (.commitBuf c o) s (fun t => (t.core c).mode = .committing o.rd.toNat ∧ (t.core c).buf = (s.core c).buf ∧
      t.lev.commitWait = s.lev.commitWait ++ [c.val]) := by
  have hnot : (s.core c).buf.isEmpty = false := by simpa using hb
  refine ⟨_, congrArg Host.Outcome.next (State.sys_runs h (.inl rfl) (.inr hra) _ _), ?_⟩
  rw [hnot, if_neg Bool.false_ne_true]
  have hcore := s.core_modCore_self c (fun k => { k with mode := .committing o.rd.toNat, losses := 0 })
  exact ⟨(congrArg CoreState.mode hcore :), (congrArg CoreState.buf hcore :), rfl⟩

end

/-- Settles O7: each instruction on a core that runs. -/
theorem systemInstructions : Obligations.SystemInstructions := by
  intro c o s h k w moved
  have hmoved : ∀ (f : CoreState → CoreState) (k' : CoreState), f k = k' → k'.pc = k.pc → moved k' (s.retire c f) :=
    fun f k' hf hpc => ⟨s.onlyCore_retire c f, by rw [s.core_retire, CoreState.next, hf, hpc]⟩
  refine ⟨fun hra => ⟨?time, ?round, ?who, ?core, execCommitBuf_empty h hra, execCommitBuf_waits h hra⟩, ?ras, ?none_⟩
  case time => exact ⟨_, rfl, State.writes_sys h hra _ (fun s _ => BitVec.ofNat 64 s.ftb)⟩
  case round => exact ⟨_, rfl, State.writes_sys h hra _ (fun s _ => BitVec.ofNat 64 s.sw.rounds)⟩
  case who => exact ⟨_, rfl, State.writes_sys h hra _ (fun _ k => k.submitter)⟩
  case core => exact ⟨_, rfl, State.writes_sys h hra _ (fun _ _ => BitVec.ofNat 64 c.val)⟩
  case ras =>
    intro hrd n
    have hsys : ∀ fn body, s.sys c o fn false true body = body s := fun fn body => State.sys_runs h (.inr hrd) (.inl rfl) fn body
    refine ⟨fun hn => ?rlen, fun hn halloc hscope hroom => ?raise, fun hn => ?past, fun hn => ?wait⟩
    case rlen =>
      refine ⟨_, congrArg Host.Outcome.next ((hsys _ _).trans (if_neg (Nat.not_lt.2 hn))), hmoved _ _ rfl rfl⟩
    case raise =>
      refine ⟨_, congrArg Host.Outcome.next ((hsys _ _).trans ?_), hmoved (fun k => { k with buf := k.buf ++ [.raise n] }) _ rfl rfl⟩
      have hlow : ¬ 8191 < n := by omega
      simp only [n, k] at hlow halloc hscope hroom
      simp only [hlow, decide_false, halloc, hscope, Bool.not_true, Bool.or_self, Bool.false_eq_true, if_false, State.stage_room hroom,
        Option.toList_none, List.append_nil, id_eq]
      rfl
    case past => exact ⟨_, congrArg Host.Outcome.next ((hsys _ _).trans (if_pos hn)), hmoved _ _ rfl rfl⟩
    case wait =>
      exact ⟨_, congrArg Host.Outcome.next ((hsys _ _).trans (if_neg (Nat.not_le.2 hn))), s.onlyCore_modCore c _, s.core_modCore_self c _⟩
  case none_ =>
    intro hrd hra
    have hsys : ∀ fn body, s.sys c o fn false false body = body s := fun fn body => State.sys_runs h (.inr hrd) (.inr hra) fn body
    refine ⟨⟨_, congrArg Host.Outcome.next (hsys _ _), hmoved _ _ rfl rfl⟩, fun hres => ?resident, fun hres => ?order, fun hdeb => ?brk⟩
    case resident => exact ⟨_, congrArg Host.Outcome.next (hsys _ _), hmoved _ _ (if_pos hres) rfl⟩
    case order => exact ⟨_, congrArg Host.Outcome.next (hsys _ _), hmoved _ _ (if_neg (by rw [hres]; decide)) rfl⟩
    case brk =>
      exact ⟨_, congrArg Host.Outcome.next ((hsys _ _).trans (if_pos hdeb)), s.onlyCore_modCore c _, s.core_modCore_self c _⟩

end Sys2Proof.Machine
end

section
/-! SUPPORT. Instruction words (R43 to R48): every Lever instruction has one word, and every word one instruction or none. -/

namespace Sys2Proof

theorem leverBits_toNat (w : BitVec 32) (lo n : Nat) : (leverBits w lo n).toNat = w.toNat / 2 ^ lo % 2 ^ n := by
  rw [leverBits, BitVec.extractLsb'_toNat, Nat.shiftRight_eq_div_pow]

/-! ### The fields of a word that was encoded -/

/-- A field of a word, from the number the word encodes. -/
theorem leverBits_ofNat {v lo n : Nat} {x : BitVec n} (h : v % 2 ^ 32 / 2 ^ lo % 2 ^ n = x.toNat) :
    leverBits (BitVec.ofNat 32 v) lo n = x := by
  apply BitVec.eq_of_toNat_eq
  rw [leverBits_toNat, BitVec.toNat_ofNat, h]

theorem RRR.word_fields (o : RRR) {op fn : Nat} (hop : op < 64) (hfn : fn < 2048) :
    (leverBits (o.word op fn) 26 6).toNat = op ∧ rrrOf (o.word op fn) = o ∧ (leverBits (o.word op fn) 0 11).toNat = fn := by
  have hrd := o.rd.isLt
  have hra := o.ra.isLt
  have hrb := o.rb.isLt
  unfold RRR.word rrrOf
  refine ⟨?_, ?_, ?_⟩
  · rw [leverBits_toNat, BitVec.toNat_ofNat]
    omega
  · rw [leverBits_ofNat (x := o.rd) (by omega), leverBits_ofNat (x := o.ra) (by omega), leverBits_ofNat (x := o.rb) (by omega)]
  · rw [leverBits_toNat, BitVec.toNat_ofNat]
    omega

theorem IOp.word_fields (o : IOp) (op : Nat) : (leverBits (o.word op) 26 6).toNat = op % 64 ∧ iOf (o.word op) = o := by
  have hrd := o.rd.isLt
  have hra := o.ra.isLt
  have himm := o.imm.isLt
  unfold IOp.word iOf
  refine ⟨?_, ?_⟩
  · rw [leverBits_toNat, BitVec.toNat_ofNat]
    omega
  · rw [leverBits_ofNat (x := o.rd) (by omega), leverBits_ofNat (x := o.ra) (by omega), leverBits_ofNat (x := o.imm) (by omega)]

theorem BOp.word_fields (o : BOp) (op : Nat) : (leverBits (o.word op) 26 6).toNat = op % 64 ∧ bOf (o.word op) = o := by
  have hra := o.ra.isLt
  have hrb := o.rb.isLt
  have himm := o.imm.isLt
  unfold BOp.word bOf
  refine ⟨?_, ?_⟩
  · rw [leverBits_toNat, BitVec.toNat_ofNat]
    omega
  · rw [leverBits_ofNat (x := o.ra) (by omega), leverBits_ofNat (x := o.rb) (by omega), leverBits_ofNat (x := o.imm) (by omega)]

theorem TOp.word_fields (o : TOp) (op : Nat) : (leverBits (o.word op) 26 6).toNat = op % 64 ∧ tOf (o.word op) = o := by
  have hrg := o.rg.isLt
  have hh := o.h.isLt
  have hrx := o.rx.isLt
  have hsel := o.sel.isLt
  have hflags := o.flags.isLt
  unfold TOp.word tOf
  refine ⟨?_, ?_⟩
  · rw [leverBits_toNat, BitVec.toNat_ofNat]
    omega
  · rw [leverBits_ofNat (x := o.rg) (by omega), leverBits_ofNat (x := o.h) (by omega), leverBits_ofNat (x := o.rx) (by omega),
      leverBits_ofNat (x := o.sel) (by omega), leverBits_ofNat (x := o.flags) (by omega)]

theorem SOp.word_fields (o : SOp) {fn : Nat} (hfn : fn < 65536) :
    (leverBits (o.word fn) 26 6).toNat = 0x3C ∧ sOf (o.word fn) = o ∧ (leverBits (o.word fn) 0 16).toNat = fn := by
  have hrd := o.rd.isLt
  have hra := o.ra.isLt
  unfold SOp.word sOf
  refine ⟨?_, ?_, ?_⟩
  · rw [leverBits_toNat, BitVec.toNat_ofNat]
    omega
  · rw [leverBits_ofNat (x := o.rd) (by omega), leverBits_ofNat (x := o.ra) (by omega)]
  · rw [leverBits_toNat, BitVec.toNat_ofNat]
    omega

/-! ### The word of the fields that were decoded -/

section
variable {w : BitVec 32} {op : Nat} (hop : (leverBits w 26 6).toNat = op)
include hop

theorem rrrOf_word {fn : Nat} (hfn : (leverBits w 0 11).toNat = fn) : (rrrOf w).word op fn = w := by
  have hw := w.isLt
  rw [← hop, ← hfn]
  apply BitVec.eq_of_toNat_eq
  simp only [RRR.word, rrrOf, leverBits_toNat, BitVec.toNat_ofNat]
  omega

theorem iOf_word : (iOf w).word op = w := by
  have hw := w.isLt
  rw [← hop]
  apply BitVec.eq_of_toNat_eq
  simp only [IOp.word, iOf, leverBits_toNat, BitVec.toNat_ofNat]
  omega

theorem bOf_word : (bOf w).word op = w := by
  have hw := w.isLt
  rw [← hop]
  apply BitVec.eq_of_toNat_eq
  simp only [BOp.word, bOf, leverBits_toNat, BitVec.toNat_ofNat]
  omega

theorem tOf_word : (tOf w).word op = w := by
  have hw := w.isLt
  rw [← hop]
  apply BitVec.eq_of_toNat_eq
  simp only [TOp.word, tOf, leverBits_toNat, BitVec.toNat_ofNat]
  omega

end

theorem sOf_word {w : BitVec 32} {fn : Nat} (hop : (leverBits w 26 6).toNat = 0x3C) (hfn : (leverBits w 0 16).toNat = fn) :
    (sOf w).word fn = w := by
  have hw := w.isLt
  rw [← hfn]
  apply BitVec.eq_of_toNat_eq
  rw [leverBits_toNat] at hop
  simp only [SOp.word, sOf, leverBits_toNat, BitVec.toNat_ofNat]
  omega

/-! ### Instructions and words -/

section
variable {c : Core} {i : Instr}

theorem encodeLever_aluOf {o : RRR} {fn : Nat} (h : aluOf c o fn = some i) : encodeLever i = some (c, o.word 0x00 fn) := by
  unfold aluOf at h
  split at h
  all_goals
    cases h
    try rfl

theorem encodeLever_amoOf {o : RRR} {fn : Nat} (h : amoOf c o fn = some i) : encodeLever i = some (c, o.word 0x01 fn) := by
  unfold amoOf at h
  split at h
  all_goals
    cases h
    try rfl

theorem encodeLever_sysOf {o : SOp} {fn : Nat} (h : sysOf c o fn = some i) : encodeLever i = some (c, o.word fn) := by
  unfold sysOf at h
  split at h
  all_goals
    cases h
    try rfl

/-- The word of a decoded instruction is the word it was decoded from. -/
theorem encodeLever_of_decodeLever {w : BitVec 32} (h : decodeLever c w = some i) : encodeLever i = some (c, w) := by
  unfold decodeLever at h
  split at h
  case h_1 hop => rw [encodeLever_aluOf h, rrrOf_word hop rfl]
  case h_2 hop => rw [encodeLever_amoOf h, rrrOf_word hop rfl]
  case h_35 hop => rw [encodeLever_sysOf h, sOf_word hop rfl]
  case h_36 => cases h
  case h_24 hop | h_25 hop | h_26 hop | h_27 hop | h_28 hop | h_29 hop =>
    cases h
    exact congrArg (fun w => some (c, w)) (bOf_word hop)
  case h_30 hop | h_31 hop | h_32 hop | h_33 hop | h_34 hop =>
    cases h
    exact congrArg (fun w => some (c, w)) (tOf_word hop)
  all_goals
    next hop =>
      cases h
      exact congrArg (fun w => some (c, w)) (iOf_word hop)

theorem decodeLever_alu (o : RRR) {fn : Nat} (hfn : fn < 2048) : decodeLever c (o.word 0x00 fn) = aluOf c o fn := by
  obtain ⟨hop, ho, hbits⟩ := o.word_fields (op := 0x00) (by decide) hfn
  simp only [decodeLever, hop, ho, hbits]

theorem decodeLever_amo (o : RRR) {fn : Nat} (hfn : fn < 2048) : decodeLever c (o.word 0x01 fn) = amoOf c o fn := by
  obtain ⟨hop, ho, hbits⟩ := o.word_fields (op := 0x01) (by decide) hfn
  simp only [decodeLever, hop, ho, hbits]

theorem decodeLever_sys (o : SOp) {fn : Nat} (hfn : fn < 65536) : decodeLever c (o.word fn) = sysOf c o fn := by
  obtain ⟨hop, ho, hbits⟩ := o.word_fields hfn
  simp only [decodeLever, hop, ho, hbits]

/-- An instruction is decoded from its word. -/
theorem decodeLever_of_encodeLever {w : BitVec 32} (h : encodeLever i = some (c, w)) : decodeLever c w = some i := by
  cases i
  case add | sub | andAlu | orAlu | xorAlu | sll | srl | sra | slt | sltu | mul | mulhu | divu | remu | minu | maxu =>
    cases h
    exact decodeLever_alu _ (by decide)
  case amoadd | amoswap | amoand | amoor =>
    cases h
    exact decodeLever_amo _ (by decide)
  case commitBuf | doneOrder | failOrder | timeNow | roundCount | who | rlen | raiseEvent | waitUntil | fence | pet | brk
    | coreNumber =>
    cases h
    exact decodeLever_sys _ (by decide)
  case addi | andi | ori | xori | extField | insField | lui | shor | slti | sltiu | slli | srli | srai | ld | lw | lb | sd | sw
    | sb | jal | jalr =>
    cases h
    simp only [decodeLever, IOp.word_fields, Nat.reduceMod]
  case beq | bne | blt | bge | bltu | bgeu =>
    cases h
    simp only [decodeLever, BOp.word_fields, Nat.reduceMod]
  case openObj | ldf | stf | newObj | delObj =>
    cases h
    simp only [decodeLever, TOp.word_fields, Nat.reduceMod]
  all_goals cases h

end

end Sys2Proof
end

section
/-! How an order's run ends (O8): the core is idle, and its order, buffer and reservations are gone (R38, R59, R71 to R75). -/

namespace Sys2Proof.Machine

/-- A core holds nothing: no order, no buffer, no reservation (R38). -/
def CoreState.HoldsNothing (k : CoreState) : Prop := k.mode = .idle ∧ k.job = none ∧ k.buf = [] ∧ k.reserved = []

theorem CoreState.holdsNothing_idled (k : CoreState) : k.idled.HoldsNothing := ⟨rfl, rfl, rfl, rfl⟩

section
variable {s : State} {c : Nat} {j : Order} (hjob : (s.core c).job = some j)
include hjob

theorem State.endOrder_holdsNothing (status : Nat) (data : List Byte) : ((s.endOrder c status data).core c).HoldsNothing := by
  rw [State.endOrder_core hjob]
  exact CoreState.holdsNothing_idled _

theorem State.leverFault_holdsNothing (hres : (s.core c).resident = false) (f : LeverFault) (word : BitVec 32) :
    ((s.leverFault c f word).core c).HoldsNothing := by
  rw [State.leverFault_core hres hjob]
  exact ⟨rfl, rfl, rfl, rfl⟩

end

section
variable {s : State} {c : Core} {j : Order} (h : s.runs c) (hjob : (s.core c).job = some j)
include h hjob

theorem execDoneOrder_order {o : SOp} (hrd : o.rd = 0) (hra : o.ra = 0) (hbuf : (s.core c).buf = []) :
    exec (.doneOrder c o) s = .next (s.endOrder c Status.ok.word (s.core c).replyData) := by
  refine congrArg Host.Outcome.next ((State.sys_runs h (.inr hrd) (.inr hra) _ _).trans ?_)
  simp only [hbuf, List.isEmpty_nil, Bool.not_true, hjob, Option.isNone_some, Bool.false_eq_true, if_false]

theorem execFailOrder_order {o : SOp} (hrd : o.rd = 0) : exec (.failOrder c o) s =
    .next (s.endOrder c (failStatus (((s.core c).reg o.ra).toNat % 65536)) (s.core c).replyData) := by
  refine congrArg Host.Outcome.next ((State.sys_runs h (.inr hrd) (.inl rfl) _ _).trans ?_)
  simp only [hjob, Option.isNone_some, Bool.false_eq_true, if_false]

omit hjob

/-- A breakpoint with no debugger attached is a fault (R48, R71). -/
theorem execBrk_faults {o : SOp} (hrd : o.rd = 0) (hra : o.ra = 0) (hdeb : s.lev.debugger = false) :
    exec (.brk c o) s = .next (s.leverFault c .brk (o.word 0x000C)) :=
  congrArg Host.Outcome.next ((State.sys_runs h (.inr hrd) (.inr hra) _ _).trans (if_neg (by rw [hdeb]; exact Bool.false_ne_true)))

/-- A word that no instruction has is illegal (R46 to R48). -/
theorem execReservedOpcode_faults {w : BitVec 32} (hw : decodeLever c w = none) :
    exec (.reservedOpcode c w) s = .next (s.leverFault c .illegal w) :=
  congrArg Host.Outcome.next ((if_pos (by rw [hw]; rfl)).trans (State.leverRun_runs h _ _))

end

/-- Settles O8: the words by encoding and decoding, the ends of a run by what the end of an order leaves of its core. -/
theorem orderRunEnds : Obligations.OrderRunEnds := by
  refine ⟨fun i c w => ⟨decodeLever_of_encodeLever, encodeLever_of_decodeLever⟩, ?_⟩
  intro c s j hjob hres idle
  refine ⟨fun h => ⟨fun o hrd hra => ⟨fun hbuf => ?done, fun hdeb => ?brk⟩, fun o hrd => ?fail, fun w hw => ?reserved,
    fun w hw => ?word⟩, fun hused => ?spent, fun hused => ?unspent⟩
  case done => exact ⟨_, execDoneOrder_order h hjob hrd hra hbuf, State.endOrder_holdsNothing hjob _ _⟩
  case brk => exact ⟨_, execBrk_faults h hrd hra hdeb, State.leverFault_holdsNothing hjob hres _ _⟩
  case fail => exact ⟨_, execFailOrder_order h hjob hrd, State.endOrder_holdsNothing hjob _ _⟩
  case reserved => exact ⟨_, execReservedOpcode_faults h hw, State.leverFault_holdsNothing hjob hres _ _⟩
  case word =>
    refine ⟨_, rfl, if_neg ?_⟩
    rwa [Option.isNone_iff_eq_none]
  case spent =>
    have hspent : (s.core c).spent = true := by simp [CoreState.spent, hjob, hres, hused]
    exact ⟨_, congrArg Host.Outcome.next (if_pos hspent), State.leverFault_holdsNothing hjob hres _ _⟩
  case unspent =>
    have hspent : (s.core c).spent = false := by simp [CoreState.spent, Nat.not_le.2 hused]
    exact ⟨_, rfl, if_neg (by rw [hspent]; exact Bool.false_ne_true)⟩

end Sys2Proof.Machine
end

section
/-! SUPPORT. What a message that leaves, an event vector that is raised and an event that is counted leave alone (R417, R569, R640):
everything but the object store with its generations, the outbox and the channels that messages wait in, the last MSI of a window,
and the counts of raises that raised nothing. -/

namespace Sys2Proof.Machine

/-- A state without the parts that messages, event vectors and counters change. -/
def State.still (s : State) : State :=
  { s with
    obj := []
    gen := []
    ord := { s.ord with windows := [] }
    sw := { s.sw with bypass := [] }
    junction := { s.junction with due := [] }
    qos := { s.qos with missedRaises := 0 }
    tenants := []
    outbox := [] }

section
variable (s : State)

@[simp] theorem State.put_still (f : Fld) (idx sub v : Nat) : (s.put f idx sub v).still = s.still := rfl

@[simp] theorem State.devicePut_still (f : Fld) (idx sub v : Nat) : (s.devicePut f idx sub v).still = s.still := by
  unfold State.devicePut
  split <;> rfl

@[simp] theorem State.emit_still (m : Msg) : (s.emit m).still = s.still := by
  unfold State.emit
  split
  · rfl
  · split
    · split <;> rfl
    · rfl

@[simp] theorem State.eventMsi_still (t : Nat) : (s.eventMsi t).still = s.still := by
  unfold State.eventMsi
  dsimp only
  rw [apply_ite State.still]
  split_ifs
  · cases s.msiPort t with
    | none => rfl
    | some p => exact State.emit_still _ _
  · rfl

@[simp] theorem State.raiseVector_still (n : Nat) (owner : Option Nat) : (s.raiseVector n owner).still = s.still := by
  have hmiss : s.missRaise.still = s.still := rfl
  have htenant : ∀ t f, (s.missRaise.modTenant t f).still = s.still := fun _ _ => rfl
  simp only [State.raiseVector, apply_ite State.still, State.eventMsi_still, State.devicePut_still, hmiss, htenant, ite_self]

@[simp] theorem State.raiseT0_still (f : Fld) (idx : Nat) : (s.raiseT0 f idx).still = s.still := s.raiseVector_still ..

@[simp] theorem State.addUnit_still (u i n : Nat) : (s.addUnit u i n).still = s.still := by
  simp only [State.addUnit, apply_ite State.still, State.raiseVector_still, State.put_still, ite_self]

@[simp] theorem State.addCounter_still (i n : Nat) : (s.addCounter i n).still = s.still := by
  simp only [State.addCounter, apply_ite State.still, State.raiseVector_still, State.put_still, ite_self]

@[simp] theorem State.unitSees_still (u ev n : Nat) (a : EventAttrs) (i : Nat) : (s.unitSees u ev n a i).still = s.still := by
  simp only [State.unitSees, apply_ite State.still, State.addUnit_still, ite_self]

@[simp] theorem State.counterSees_still (ev n : Nat) (a : EventAttrs) (i : Nat) : (s.counterSees ev n a i).still = s.still := by
  simp only [State.counterSees, apply_ite State.still, State.addCounter_still, ite_self]

end

/-- A sequence of updates keeps what each of them keeps. -/
theorem foldl_keeps {α β : Type} {f : State → α → State} {p : State → β} (h : ∀ s a, p (f s a) = p s) (l : List α) (s : State) :
    p (l.foldl f s) = p s := by
  induction l generalizing s with
  | nil => rfl
  | cons a l ih => exact (ih _).trans (h s a)

@[simp] theorem State.count_still (s : State) (u ev : Nat) (a : EventAttrs) (n : Nat) : (s.count u ev a n).still = s.still := by
  have hunits : (if s.unitCounts u then (List.range 8).foldl (fun s i => s.unitSees u ev n a i) s else s).still = s.still := by
    split
    · exact foldl_keeps (fun s i => s.unitSees_still u ev n a i) _ s
    · rfl
  unfold State.count
  dsimp only
  split
  · split
    · exact (foldl_keeps (fun s i => s.counterSees_still _ n a i) _ _).trans hunits
    · exact hunits
  · exact hunits

@[simp] theorem State.countPort_still (s : State) (p ev : Nat) (a : EventAttrs) (n : Nat) :
    (s.countPort p ev a n).still = s.still := s.count_still ..

/-- A contained error opens or joins a window of its record besides (R604). -/
theorem State.contain_still (s : State) (e : ErrorAt) : (s.contain e).still = (s.window10ms e).still := by
  simp [State.contain]

end Sys2Proof.Machine
end

section
/-! Waits, the resident watchdog and the commit unit (O9): R48, R62, R63, R68, R76, R92, R606. -/

namespace Sys2Proof.Machine

/-! ### What leaves the Lever cluster alone -/

@[simp] theorem State.window10ms_lev (s : State) (e : ErrorAt) : (s.window10ms e).lev = s.lev := rfl

@[simp] theorem State.raiseT0_lev (s : State) (f : Fld) (idx : Nat) : (s.raiseT0 f idx).lev = s.lev := s.raiseVector_lev ..

@[simp] theorem State.contain_lev (s : State) (e : ErrorAt) : (s.contain e).lev = s.lev := by simp [State.contain]

@[simp] theorem State.commitRefused_lev (s : State) (c : Nat) : (s.commitRefused c).lev = s.lev := s.count_lev ..

/-- A core is a part of the Lever cluster. -/
theorem State.core_of_lev {s t : State} (h : t.lev = s.lev) (c : Nat) : t.core c = s.core c :=
  congrArg (fun l : Lever => Tab.get ({} : CoreState) l.cores c) h

/-! ### The resident watchdog -/

/-- A task that restarts runs from its entry address, with an empty buffer and a new watchdog period (R76). -/
theorem State.restartResident_core (s : State) (c : Nat) : (s.restartResident c).core c =
    { s.core c with mode := .running, buf := [], named := [], reserved := [], losses := 0, petAt := s.ftb,
                    pc := BitVec.ofNat 64 (s.boot.image.tasks.getD c 0) } :=
  (State.core_of_lev (State.contain_lev ..) c).trans (State.core_modCore_self ..)

theorem State.restartResident_reloading (s : State) (c : Nat) : (s.restartResident c).lev.reloading = s.lev.reloading :=
  (congrArg Lever.reloading (State.contain_lev ..) :)

theorem State.leverReset_lev (s : State) : s.leverReset.lev.reloading = true ∧ s.leverReset.lev.cores = [] := ⟨rfl, rfl⟩

theorem State.restartResident_boot (s : State) (c : Nat) : (s.restartResident c).boot = s.boot :=
  (congrArg State.boot (State.contain_still ..) :)

/-! ### The commit unit -/

/-- A commit of a program that has ended leaves its core running, with an empty buffer and the status in G[rd] (R62). -/
def CoreState.Committed (k : CoreState) (rd w : Nat) : Prop :=
  k.mode = .running ∧ k.buf = [] ∧ k.reserved = [] ∧ k.reg (BitVec.ofNat 5 rd) = if rd = 0 then 0 else BitVec.ofNat 64 w

theorem ofNat_eq_zero_iff {rd : Nat} (h : rd < 32) : BitVec.ofNat 5 rd = 0 ↔ rd = 0 := by
  rw [← BitVec.toNat_inj, BitVec.toNat_ofNat, Nat.mod_eq_of_lt h]
  rfl

theorem State.commitEnds_core (s : State) (c rd w : Nat) : (s.commitEnds c rd w).core c =
    ({ s.core c with mode := .running, buf := [], named := [], reserved := [], losses := 0 }.setReg (BitVec.ofNat 5 rd)
      (BitVec.ofNat 64 w)).next :=
  State.core_modCore_self ..

theorem State.commitEnds_core_ne (s : State) {c d : Nat} (rd w : Nat) (h : d ≠ c) : (s.commitEnds c rd w).core d = s.core d :=
  (State.core_modCore ..).trans (if_neg (Ne.symm h))

theorem State.committed_commitEnds (s : State) (c : Nat) {rd : Nat} (hrd : rd < 32) (w : Nat) :
    ((s.commitEnds c rd w).core c).Committed rd w := by
  rw [State.commitEnds_core]
  refine ⟨?_, ?_, ?_, ?_⟩
  · rw [CoreState.setReg_eq]
    rfl
  · rw [CoreState.setReg_eq]
    rfl
  · rw [CoreState.setReg_eq]
    rfl
  · refine (CoreState.reg_setReg ..).trans ?_
    by_cases h : rd = 0
    · rw [if_neg (fun g => g.2 ((ofNat_eq_zero_iff hrd).2 h)), if_pos h, (ofNat_eq_zero_iff hrd).2 h]
      rfl
    · rw [if_pos ⟨rfl, fun g => h ((ofNat_eq_zero_iff hrd).1 g)⟩, if_neg h]

/-- Recording the present generations in the handles of a core leaves the end of its commit. -/
theorem State.committed_refreshHandles {s : State} {c rd w : Nat} (h : (s.core c).Committed rd w) :
    ((s.refreshHandles c).core c).Committed rd w := by
  rw [State.refreshHandles, State.core_modCore_self]
  exact h

theorem foldl_losses (l : List Nat) (s : State) (d : Nat) :
    ((l.foldl (fun s x => s.modCore x (fun k => { k with losses := k.losses + 1 })) s).core d) =
      { s.core d with losses := (s.core d).losses + l.count d } := by
  induction l generalizing s with
  | nil => rfl
  | cons x l ih =>
    rw [List.foldl_cons, ih, State.core_modCore, List.count_cons]
    by_cases h : x = d
    · rw [if_pos h, h]
      simp only [beq_self_eq_true, if_true]
      congr 1
      omega
    · simp [h]

/-- What the service of a core leaves of a core: one that still waits has lost as many times more as it waits (R63). -/
theorem State.served_core (s : State) (c d : Nat) : (s.served c).core d =
    { s.core d with losses := (s.core d).losses + (s.lev.commitWait.filter (· != c)).count d } :=
  foldl_losses ..

/-- A core that waits beside the one served loses once more (R63). -/
theorem State.served_loses {s : State} {c d : Nat} (hnodup : s.lev.commitWait.Nodup) (hd : d ∈ s.lev.commitWait) (hne : d ≠ c) :
    ((s.served c).core d).losses = (s.core d).losses + 1 := by
  have hcount : (s.lev.commitWait.filter (· != c)).count d = 1 := by
    rw [List.count_filter (by simpa using hne)]
    exact List.count_eq_one_of_mem hnodup hd
  rw [State.served_core, hcount]

theorem State.served_not_waiting (s : State) (c : Nat) : c ∉ (s.served c).lev.commitWait := by
  intro h
  simpa using (List.mem_filter.1 h).2

theorem State.served_obj (s : State) (c : Nat) : (s.served c).obj = s.obj :=
  foldl_keeps (p := State.obj) (f := fun s x => s.modCore x (fun k => { k with losses := k.losses + 1 })) (fun _ _ => rfl) _ s

/-- A commit whose buffer takes effect, or is refused at its boundary, ends with the status of that (R62, R66, R440). -/
theorem State.committed_commitBuffer (s : State) (c : Nat) {rd : Nat} (hrd : rd < 32) :
    ((s.commitBuffer c rd).core c).Committed rd (((s.holdRounds (s.core c).buf).boundaryRefuses (s.core c).buf).getD 0) := by
  unfold State.commitBuffer
  dsimp only
  cases (s.holdRounds (s.core c).buf).boundaryRefuses (s.core c).buf with
  | some w => exact State.committed_commitEnds _ c hrd w
  | none => exact State.committed_refreshHandles (State.committed_commitEnds _ c hrd 0)

/-- A request waits while another that has lost 8 times in a row must be served first (R63). -/
theorem State.turnOf_of_starved {s : State} {c d : Nat} (hd : d ∈ s.lev.commitWait) (hne : d ≠ c) (hlost : 8 ≤ (s.core d).losses)
    (honly : ∀ e ∈ s.lev.commitWait, e ≠ d → (s.core e).losses < 8) : s.turnOf c = false := by
  have hfind : s.lev.commitWait.find? (fun x => 8 ≤ (s.core x).losses) = some d := by
    cases hx : s.lev.commitWait.find? (fun x => 8 ≤ (s.core x).losses) with
    | none => exact absurd hlost (by simpa using List.find?_eq_none.1 hx d hd)
    | some x =>
      have hlost' : 8 ≤ (s.core x).losses := by simpa using List.find?_some hx
      by_cases hxd : x = d
      · rw [hxd]
      · exact absurd (honly x (List.mem_of_find?_eq_some hx) hxd) (Nat.not_lt.2 hlost')
  rw [State.turnOf, hfind]
  simp [hne]

section
variable {s : State} {c : Core} {rd : Nat} (hmode : (s.core c).mode = .committing rd)
include hmode

section
variable (hwait : c.val ∈ s.lev.commitWait) (hturn : s.turnOf c = true)
include hwait hturn

/-- A request in its turn whose recorded objects have changed ends with BUSY (R62). -/
theorem execCommitUnitGrant_busy (hgens : s.gensCurrent (s.core c) = false) :
    exec (.commitUnitGrant c) s = .next ((s.turnedDown c).commitEnds c rd Status.busy.word) := by
  refine congrArg Host.Outcome.next ((if_pos (by simp [hwait, hturn])).trans ?_)
  simp only [hmode, hgens, Bool.not_false, if_true]

/-- A request in its turn that breaks an invariant ends with INTERLOCK (R62). -/
theorem execCommitUnitGrant_interlock (hgens : s.gensCurrent (s.core c) = true) {n : Nat}
    (hviol : violated s (s.stored (s.core c).buf) (s.core c).buf = some n) :
    exec (.commitUnitGrant c) s = .next ((s.turnedDown c).commitEnds c rd (Status.interlock.word n)) := by
  refine congrArg Host.Outcome.next ((if_pos (by simp [hwait, hturn])).trans ?_)
  simp only [hmode, hgens, hviol, Bool.not_true, Bool.false_eq_true, if_false]

/-- A request in its turn that passes is granted, or takes effect at once while the Turntable stands still (R30, R62). -/
theorem execCommitUnitGrant_passes (hgens : s.gensCurrent (s.core c) = true)
    (hviol : violated s (s.stored (s.core c).buf) (s.core c).buf = none) :
    exec (.commitUnitGrant c) s = .next (if s.sw.running then { s.served c with lev := { (s.served c).lev with granted := some c } }
      else (s.served c).commitBuffer c rd) := by
  refine congrArg Host.Outcome.next ((if_pos (by simp [hwait, hturn])).trans ?_)
  simp only [hmode, hgens, hviol, Bool.not_true, Bool.false_eq_true, if_false]

end

/-- The commit that was granted takes its boundary where the spacing of holds has passed (R68). -/
theorem execCommitRoundBoundary_granted (hgranted : s.lev.granted = some c.val) :
    exec .commitRoundBoundary s = .next (if s.holdFree then s.commitBuffer c rd else s) := by
  refine congrArg Host.Outcome.next ?_
  rw [hgranted]
  dsimp only
  rw [hmode]

end

theorem State.turnedDown_losses {s : State} {c : Nat} (rd w : Nat) (hnodup : s.lev.commitWait.Nodup) :
    ∀ d ∈ s.lev.commitWait, d ≠ c → (((s.turnedDown c).commitEnds c rd w).core d).losses = (s.core d).losses + 1 := by
  intro d hd hne
  rw [State.commitEnds_core_ne _ _ _ hne, State.turnedDown, State.core_of_lev (State.commitRefused_lev ..)]
  exact State.served_loses hnodup hd hne

theorem State.served_buf (s : State) (c d : Nat) : ((s.served c).core d).buf = (s.core d).buf := by rw [State.served_core]

/-- While the Turntable stands still there is no barrier to hold (R30). -/
theorem State.holdRounds_idle {s : State} (h : s.sw.running = false) (es : List Entry) : s.holdRounds es = s := by
  rw [State.holdRounds, h]
  rfl

theorem State.served_sw (s : State) (c : Nat) : (s.served c).sw = s.sw :=
  foldl_keeps (p := State.sw) (f := fun s x => s.modCore x (fun k => { k with losses := k.losses + 1 })) (fun _ _ => rfl) _ s

/-- An expired watchdog restarts the task, with the expiries of the last 10 s, and the third asks for a Lever reset (R76, R606). -/
theorem execResidentWatchdog_expired {s : State} {c : Core} (hres : (s.core c).resident = true) (hidle : (s.core c).mode ≠ .idle)
    (hhalt : (s.core c).mode ≠ .halted) (hlate : (s.core c).petAt + s.boot.image.watchdogMs * 1000000 ≤ s.ftb) :
    let recent := (s.core c).expiries.filter (fun t => s.ftb < t + 10000000000) ++ [s.ftb]
    let s1 := (s.restartResident c).modCore c (fun k => { k with expiries := recent })
    exec (.residentWatchdog c) s = .next (if 3 ≤ recent.length then s1.askLeverReset else s1) := by
  refine congrArg Host.Outcome.next (if_pos ?_)
  simp [hres, hidle, hhalt, hlate]

/-- Settles O9: a wait by its arm, the watchdog by what a restart leaves of the core, the commit unit by what its service leaves. -/
theorem waitsAndCommitUnit : Obligations.WaitsAndCommitUnit := by
  refine ⟨?wait, ?watchdog, ?unit⟩
  case wait =>
    intro c s n hmode hn
    refine ⟨s.modCore c (fun k => { k with mode := .running }.next), congrArg Host.Outcome.next ?_, s.onlyCore_modCore c _,
      s.core_modCore_self c _⟩
    rw [hmode]
    exact if_pos hn
  case watchdog =>
    intro c s k recent hres hidle hhalt hlate
    have hexec := execResidentWatchdog_expired hres hidle hhalt hlate
    refine ⟨fun hfew => ?_, fun hmany hact => ?_⟩
    · refine ⟨_, hexec.trans (congrArg _ (if_neg (Nat.not_le.2 hfew))), ?_⟩
      rw [State.core_modCore_self, State.restartResident_core]
      exact ⟨rfl, rfl, rfl, rfl, rfl, rfl, s.restartResident_reloading c⟩
    · refine ⟨_, hexec.trans (congrArg _ ((if_pos hmany).trans (if_neg ?_))), State.leverReset_lev _⟩
      rw [State.modCore_boot, State.restartResident_boot]
      exact hact
  case unit =>
    intro c s rd hmode hrd k late
    refine ⟨fun hwait hturn hnodup => ?serve, fun d hd hne hlost honly => ?starved, fun hgranted hfree => ?boundary, fun hgranted hrun hsoon => ?spacing⟩
    case serve =>
      intro lose
      refine ⟨fun hgens => ?busy, fun n hgens hviol => ?interlock, fun hgens hviol hrun => ?granted, fun hgens hviol hrun hbound => ?atOnce⟩
      case busy =>
        exact ⟨_, execCommitUnitGrant_busy hmode hwait hturn hgens, State.committed_commitEnds _ c hrd _,
          State.turnedDown_losses rd _ hnodup⟩
      case interlock =>
        exact ⟨_, execCommitUnitGrant_interlock hmode hwait hturn hgens hviol, State.committed_commitEnds _ c hrd _,
          State.turnedDown_losses rd _ hnodup⟩
      case granted =>
        exact ⟨_, (execCommitUnitGrant_passes hmode hwait hturn hgens hviol).trans (congrArg _ (if_pos hrun)), rfl,
          s.served_not_waiting c, s.served_obj c, fun d hd hne => State.served_loses hnodup hd hne⟩
      case atOnce =>
        have hcommit := (s.served c).committed_commitBuffer c hrd
        rw [State.holdRounds_idle ((congrArg Switch.running (s.served_sw c)).trans hrun), State.served_buf, hbound] at hcommit
        refine ⟨_, (execCommitUnitGrant_passes hmode hwait hturn hgens hviol).trans (congrArg _ (if_neg ?_)), hcommit⟩
        rw [hrun]
        exact Bool.false_ne_true
    case starved =>
      refine congrArg Host.Outcome.next (if_neg ?_)
      rw [State.turnOf_of_starved hd hne hlost honly, Bool.and_false]
      exact Bool.false_ne_true
    case boundary =>
      have hhold : s.holdFree = true := by
        cases hrun : s.sw.running with
        | false => simp [State.holdFree, hrun]
        | true => simp [State.holdFree, hfree hrun]
      have hexec := (execCommitRoundBoundary_granted hmode hgranted).trans (congrArg _ (if_pos hhold))
      have hcommit := s.committed_commitBuffer c hrd
      refine ⟨fun hbound => ⟨_, hexec, ?_⟩, fun w hbound => ⟨_, hexec, ?_⟩⟩
      · rwa [hbound] at hcommit
      · rwa [hbound] at hcommit
    case spacing =>
      refine (execCommitRoundBoundary_granted hmode hgranted).trans (congrArg _ (if_neg ?_))
      simp [State.holdFree, hrun, hsoon]

end Sys2Proof.Machine
end

section
/-! What a commit stores (O59): a field by its class and ID, and the last value an entry gives it (R61, R62, R511). -/

namespace Sys2Proof

/-! ### Fields by class and ID -/

/-- Every field is found by its class and its ID (R57). -/
theorem Fld.ofId_info (f : Fld) : Fld.ofId f.info.cls f.info.id = some f := by
  cases f <;> decide +kernel

theorem Fld.id_lt (f : Fld) : f.info.id < 256 := by
  cases f <;> decide +kernel

/-- Two fields have different keys. -/
theorem Fld.key_ne {f g : Fld} (h : g ≠ f) : g.info.cls * 256 + g.info.id ≠ f.info.cls * 256 + f.info.id := by
  intro e
  obtain ⟨hcls, hid⟩ := Machine.split_mul 256 _ _ _ _ g.id_lt f.id_lt e
  exact h (Option.some_injective _ (by rw [← g.ofId_info, ← f.ofId_info, hcls, hid]))

end Sys2Proof

namespace Sys2Proof.Machine

/-! ### Entries -/

/-- An entry that writes another field, or the field of another object. -/
def Entry.IsOther (f : Fld) (idx sub : Nat) (e : Entry) : Prop :=
  ∃ (g : Fld) (j d w : Nat), e = .write g.info.cls j d g.info.id w ∧ j < 65536 ∧ d < 65536 ∧ (g ≠ f ∨ j ≠ idx ∨ d ≠ sub)

theorem State.storeEntry_write (s : State) (f : Fld) (idx sub v : Nat) :
    s.storeEntry (.write f.info.cls idx sub f.info.id v) = s.put f idx sub (if f = .deviceWakeEn then v ||| 0xB else v) := by
  simp only [State.storeEntry, f.ofId_info]

section
variable {f : Fld} {idx sub : Nat} (hidx : idx < 65536) (hsub : sub < 65536)
include hidx hsub

theorem State.get_storeEntry_other (s : State) {e : Entry} (h : e.IsOther f idx sub) :
    (s.storeEntry e).get f idx sub = s.get f idx sub := by
  obtain ⟨g, j, d, w, rfl, hj, hd, hne⟩ := h
  rw [State.storeEntry_write]
  by_cases hobj : j = idx ∧ d = sub
  · obtain ⟨rfl, rfl⟩ := hobj
    have hg : g ≠ f := hne.resolve_right (by simp)
    exact s.get_put_field g f j d _ (Fld.key_ne hg)
  · exact s.get_put_object g f j d idx sub _ hj hd hidx hsub (by omega)

/-- Entries of other fields leave a field. -/
theorem State.get_stored_others (s : State) {es : List Entry} (h : ∀ e ∈ es, e.IsOther f idx sub) :
    (s.stored es).get f idx sub = s.get f idx sub := by
  induction es generalizing s with
  | nil => rfl
  | cons e es ih =>
    obtain ⟨he, hes⟩ := List.forall_mem_cons.1 h
    exact (ih (s.storeEntry e) hes).trans (s.get_storeEntry_other hidx hsub he)

/-- The last value that an entry gives a field is what it holds, within its width (R62, R511). -/
theorem State.get_stored_last (s : State) (es : List Entry) {fs : List Entry} (v : Nat) (h : ∀ e ∈ fs, e.IsOther f idx sub) :
    (s.stored (es ++ .write f.info.cls idx sub f.info.id v :: fs)).get f idx sub =
      (if f = .deviceWakeEn then v ||| 0xB else v) % 2 ^ f.info.width := by
  have hsplit : s.stored (es ++ .write f.info.cls idx sub f.info.id v :: fs) =
      ((s.stored es).storeEntry (.write f.info.cls idx sub f.info.id v)).stored fs := by
    rw [State.stored, List.foldl_append, List.foldl_cons]
    rfl
  rw [hsplit, State.get_stored_others hidx hsub _ h, State.storeEntry_write, State.get_put_self]

end

/-- Settles O59: entry by entry, on the object store. -/
theorem fieldsCommitted : Obligations.FieldsCommitted := by
  intro s f idx sub hidx hsub other
  exact ⟨fun es fs v h => State.get_stored_last hidx hsub s es v h, fun fs h => State.get_stored_others hidx hsub s h⟩

end Sys2Proof.Machine
end

section
/-! Fabric Manager API requests (O10): a command that reaches the device and is admitted waits as the library order that serves it
(R80, R86 to R89, R97 to R99). -/

namespace Sys2Proof.Machine

/-! ### Reaching the device -/

theorem State.fromVdm_reached {s : State} {p : Port} (hup : s.portUp p.val = true) (hp : s.mgmtPort = some p.val)
    (body : State → State) : s.fromVdm p body = body s := by
  rw [State.fromVdm, hup, if_pos hp]
  rfl

theorem State.fromBus_runs {s : State} (h : s.power.step = .run) (body : State → State) : s.fromBus body = body s := by
  rw [State.fromBus, h]

theorem State.fromApi_reached {s : State} {src : RequestSource} {opcodes : Nat → Bool} (h : s.reached src opcodes)
    (body : State → State) : s.fromApi src opcodes body = body s := by
  cases src with
  | mailbox =>
    obtain ⟨hbell, hop⟩ := h
    exact if_pos (by rw [hbell, hop]; rfl)
  | vdm p eid =>
    obtain ⟨hup, hp⟩ := h
    exact State.fromVdm_reached hup hp body
  | bus eid => exact State.fromBus_runs h body

/-! ### Waiting in the queue -/

/-- An order that resets no tenant is accepted as the last of the queue (R89). -/
theorem State.accepted_accept {s : State} {o : Order} (h : o.resets = none) : Accepted s (s.accept o) o := by
  have hid : ({ o with id := s.ord.nextId, accepted := s.ftb } : Order).resets = none := h
  rw [Accepted, State.accept, State.freeze, hid]
  rfl

theorem State.accepted_submit {s : State} {o : Order} {wellFormed : Bool} (hadm : s.admission o wellFormed = none)
    (h : o.resets = none) : Accepted s (s.submit o wellFormed) o := by
  rw [State.submit, hadm]
  exact State.accepted_accept h

/-- Only TENANT_RESET and TENANT_DESTROY reset a tenant (R91). -/
theorem apiOrder_resets (src : RequestSource) {libid : Nat} (h1 : libid ≠ 0x21) (h2 : libid ≠ 0x22) (args : List Byte)
    (replyTo : Option ReplyTo) : (apiOrder src libid args replyTo).resets = none := by
  simp [Order.resets, apiOrder, h1, h2]

/-- An API command that reaches the device and is admitted waits as its library order (R98). -/
theorem State.accepted_apiCommand {s : State} {src : RequestSource} {opcodes : Nat → Bool} {libid : Nat} {args : List Byte}
    (h1 : libid ≠ 0x21) (h2 : libid ≠ 0x22) (h : s.reached src opcodes) (hlen : args.length ≤ 4096)
    (hadm : s.admission (apiOrder src libid args none) true = none) :
    Accepted s (s.apiCommand src opcodes libid args) (apiOrder src libid args none) := by
  rw [State.apiCommand, State.fromApi_reached h, decide_eq_true hlen]
  exact State.accepted_submit hadm (apiOrder_resets src h1 h2 args none)

/-! ### Background commands -/

/-- What a background command that has begun leaves in the orders (R94, R99). -/
def BackgroundBegun (s t : State) (opcode : Nat) (o : Order) : Prop :=
  t.ord.queue = s.ord.queue ++ [{ o with id := s.ord.nextId, accepted := s.ftb }] ∧
    t.ord.mailbox.bgOp = true ∧ t.ord.mailbox.bgOpcode = opcode ∧ t.ord.mailbox.percent = 0

/-- Answering a command leaves a background command that has begun (R94). -/
theorem State.answerApi_begun {s t : State} {opcode : Nat} {o : Order} (h : BackgroundBegun s t opcode o) (src : RequestSource)
    (ret status : Nat) (data : List Byte) : BackgroundBegun s (t.answerApi src ret status data) opcode o := by
  unfold BackgroundBegun
  cases src with
  | mailbox =>
    simp only [State.answerApi, State.mailboxAnswer, apply_ite State.ord, State.emit_ord, ite_self]
    exact h
  | vdm =>
    simp only [State.answerApi, State.emit_ord]
    exact h
  | bus =>
    simp only [State.answerApi, State.emit_ord]
    exact h

theorem State.apiBackground_begun {s : State} {src : RequestSource} {opcode libid : Nat} {args : List Byte}
    (h1 : libid ≠ 0x21) (h2 : libid ≠ 0x22) (h : s.reached src (· == opcode)) (hfree : s.ord.mailbox.bgOp = false)
    (hadm : s.admission (apiOrder src libid args (some (.background opcode))) true = none) :
    BackgroundBegun s (s.apiBackground src opcode libid args) opcode (apiOrder src libid args (some (.background opcode))) := by
  rw [State.apiBackground, State.fromApi_reached h]
  simp only [hfree, hadm, Bool.false_eq_true, if_false]
  refine State.answerApi_begun ?_ src _ _ _
  rw [State.accepted_accept (apiOrder_resets src h1 h2 args _)]
  exact ⟨rfl, rfl, rfl, rfl⟩

/-- Settles O10: the library orders by what reaches the device and is accepted, the background commands likewise. -/
theorem apiRequests : Obligations.ApiRequests := by
  refine ⟨?orders, ?background⟩
  case orders =>
    intro src s other runs
    have hruns : ∀ {op : Nat → Bool} {libid : Nat} {args : List Byte} {i : Instr}, libid ≠ 0x21 → libid ≠ 0x22 →
        exec i s = .next (s.apiCommand src op libid args) → runs i op libid args := fun h1 h2 hexec hreach hlen hadm =>
      ⟨_, hexec, State.accepted_apiCommand h1 h2 hreach hlen hadm⟩
    refine ⟨hruns (by decide) (by decide) rfl, fun a n => hruns (by decide) (by decide) rfl, fun p op hop => hruns (by decide) (by decide) ?_,
      fun p op reg be d => hruns (by decide) (by decide) rfl, fun a n => hruns (by decide) (by decide) rfl,
      fun v b e h => hruns (by decide) (by decide) rfl, fun p x r => hruns (by decide) (by decide) rfl,
      fun p x r => hruns (by decide) (by decide) rfl, fun p x r => hruns (by decide) (by decide) rfl,
      fun a => hruns (by decide) (by decide) rfl, fun a => hruns (by decide) (by decide) rfl, fun a => hruns (by decide) (by decide) rfl,
      fun p x r => hruns (by decide) (by decide) rfl⟩
    rw [exec, execPhysicalPortControl, if_pos hop]
  case background =>
    intro s begun
    refine ⟨fun src v b k p l => ?bind, fun src v b x => ?unbind, fun w hw => ?complete⟩
    case bind => exact fun hreach hfree hadm => ⟨_, rfl, State.apiBackground_begun (by decide) (by decide) hreach hfree hadm⟩
    case unbind => exact fun hreach hfree hadm => ⟨_, rfl, State.apiBackground_begun (by decide) (by decide) hreach hfree hadm⟩
    case complete =>
      refine ⟨_, congrArg Host.Outcome.next (by rw [hw]), ?_⟩
      simp only [apply_ite State.ord, State.emit_ord, ite_self]
      exact ⟨rfl, rfl, rfl, rfl, rfl⟩

end Sys2Proof.Machine
end

section
/-! SUPPORT. A state in which one more event wraps a unit counter, whose vector sends an MSI of T0 (R417, R574): counting an event is
not always without a trace outside the counters. -/

namespace Sys2Proof.Machine

/-- A link of eight lanes at 32 GT/s. -/
def aLink : LinkInfo :=
  { width := 8, rate := 5, pmax := 0, pcaps := 0, cxl := false, flit68 := false, reversed := false, inverted := 0, pfdi := 0,
    ppreset := 0, preq := 0, mldDevices := none, ldReady := false, gfd := false, atomicSizes := 0, adaptedLoss := [], skew := [] }

/-- The device runs; port 0 leads to the host of T0, whose window takes MSIs. -/
def hostOfT0 : State := { State.reset with
  ftb := 5
  power := { step := .run }
  ord := { windows := [(0, { msiEn := true })] }
  ports := [(0, { role := .upstream, info := some aLink })]
  obj := (State.reset.put .portTenant 0 0 0).obj }

/-- Counter 0 of a unit counts an event, and holds its greatest value; its overflow raises vector 3 of T0, which is enabled. -/
def State.brimming (s : State) (unit ev : Nat) : State :=
  ((((((({ s with alloc := poolKey clsEvent 3 :: s.alloc }.put .unitctrSelect unit 0 ev).put .unitctrFpriv unit 0 0xFF).put
    .unitctrValue unit 0 (2 ^ 48 - 1)).put .unitctrOvfEv unit 0 3).put .eventOwner 3 0 0).put .eventEnable 3 0 1).put
    .unitsetRun unit 0 1)

/-- Refutes O11: the Interlocking counts the refusal of an order, and where the count wraps, the MSI of its vector is noted in the window
of T0, so that the orders are not what they were. -/
theorem not_frameAdmission : ¬ Obligations.FrameAdmission := by
  rintro ⟨-, hmctp, -⟩
  obtain ⟨-, hbus⟩ := hmctp (hostOfT0.brimming 85 0x080) 9 []
  obtain ⟨t, hexec, hord, -⟩ := (hbus rfl).2.1 .busy (by decide) (by decide +kernel)
  have hmoved : (match exec (.submitOrder (.bus 9 [])) (hostOfT0.brimming 85 0x080) with
      | .next t => decide (t.ord = (hostOfT0.brimming 85 0x080).ord) | _ => true) = false := by decide +kernel
  rw [hexec] at hmoved
  exact absurd hord (of_decide_eq_false hmoved)

end Sys2Proof.Machine
end

section
/-! SUPPORT. A library order whose checks hold makes its commit (R84, R102): the shape of a row of the library, once. -/

namespace Sys2Proof.Machine

section
variable {s : State} {c : Core} {id : Nat} {o : Order} (h : s.carries c id o)
include h

/-- Code that checks its arguments and commits once makes that commit where the arguments are legal and the commit passes. -/
theorem State.libArgs_commits {ok : Bool} {es : List Entry} {act : State → State} {reply : State → List Byte} (hok : ok = true)
    (hp : s.passes es) : Commits s (s.libArgs c ok (fun s => s.libCommit c es act reply)) c es act reply := by
  rw [State.libArgs_ok c hok]
  exact State.libCommit_passes h hp act reply

/-- A row whose code checks its arguments and commits once makes that commit. -/
theorem State.commits_libRun {body : State → Order → State} {ok : Bool} {es : List Entry} {act : State → State}
    {reply : State → List Byte} (hbody : body s o = s.libArgs c ok (fun s => s.libCommit c es act reply)) (hok : ok = true)
    (hp : s.passes es) : Commits s (s.libRun c id body) c es act reply := by
  rw [State.libRun_carries h, hbody]
  exact State.libArgs_commits h hok hp

end

end Sys2Proof.Machine
end

section
/-! Orders that set ports, switches, routing, mirrors, mappings and classes (O20): the checks of each row hold, and its one commit is
that of the fields it names (R104, R140, R295, R299, R310, R377, R421). -/

namespace Sys2Proof.Machine

section
variable {s : State} {c : Core} {o : Order}

theorem execPortSet_commits (h : s.carries c 0x0001 o) (hp : s.portOk (o.arg 0 1) = true) (hm : 0 < o.arg 1 1) (hm' : o.arg 1 1 < 32)
    (hz : o.zero 7 1 = true) (hmgmt : s.mgmtPort ≠ some (o.arg 0 1)) {fields : List (Nat × Fld × Nat)}
    (hf : fields = [(0, Fld.portProto, o.arg 2 1), (1, .portRateMax, o.arg 3 1), (2, .portSaf, o.arg 4 1), (3, .portDrop, o.arg 5 1),
      (4, .portEnable, o.arg 6 1)])
    (hok : maskedOk (o.arg 1 1) (o.arg 0 1) fields = true) (hpass : s.passes (maskedEntries (o.arg 1 1) (o.arg 0 1) fields)) :
    Leads (.portSet c) s (fun t => Commits s t c (maskedEntries (o.arg 1 1) (o.arg 0 1) fields) noAction noReply) := by
  subst hf
  refine ⟨_, rfl, State.commits_libRun h rfl ?_ hpass⟩
  have hm0 : o.arg 1 1 ≠ 0 := by omega
  simp [hp, hm0, hm', hz, hmgmt, hok]

theorem execBifurcate_single (h : s.carries c 0x0002 o) (hn : o.arg 0 1 < s.stationCount) (hb : o.arg 1 1 ≤ 1)
    (hold : s.get .stationBifurc (o.arg 0 1) ≠ 2) (hz : o.zero 2 6 = true) (hmgmt : s.mgmtPort = none)
    (hpass : s.passes [putEntry .stationBifurc (o.arg 0 1) 0 (o.arg 1 1)]) :
    Leads (.bifurcate c) s (fun t => Commits s t c [putEntry .stationBifurc (o.arg 0 1) 0 (o.arg 1 1)] noAction noReply) := by
  have hsingle : (o.arg 1 1 == 2 || s.get .stationBifurc (o.arg 0 1) == 2) = false := by
    simp only [Bool.or_eq_false_iff, beq_eq_false_iff_ne]
    exact ⟨by omega, hold⟩
  refine ⟨_, rfl, ?_⟩
  rw [State.libRun_carries h]
  simp only [hsingle, Bool.false_eq_true, if_false, List.map_cons, List.map_nil]
  refine State.libArgs_commits h ?_ hpass
  simp [hn, hz, hmgmt, show o.arg 1 1 ≤ 2 by omega]

theorem execBifurcate_pair (h : s.carries c 0x0002 o) (hn : o.arg 0 1 < s.stationCount) (hb : o.arg 1 1 = 2)
    (hz : o.zero 2 6 = true) (hmgmt : s.mgmtPort = none)
    (hpass : s.passes [putEntry .stationBifurc (2 * (o.arg 0 1 / 2)) 0 2, putEntry .stationBifurc (2 * (o.arg 0 1 / 2) + 1) 0 2]) :
    Leads (.bifurcate c) s (fun t => Commits s t c
      [putEntry .stationBifurc (2 * (o.arg 0 1 / 2)) 0 2, putEntry .stationBifurc (2 * (o.arg 0 1 / 2) + 1) 0 2] noAction noReply) := by
  refine ⟨_, rfl, ?_⟩
  rw [State.libRun_carries h]
  simp only [hb, beq_self_eq_true, Bool.true_or, if_true, List.map_cons, List.map_nil]
  refine State.libArgs_commits h ?_ hpass
  simp [hn, hz, hmgmt]

theorem execVcsSet_enables (h : s.carries c 0x0010 o) (hv : 0 < o.arg 0 1) (hv' : o.arg 0 1 < 128) (hen : o.arg 2 1 = 1)
    (hz : o.zero 3 5 = true) (hoff : s.get .vcsEnable (o.arg 0 1) = 0) (hp : s.portOk (o.arg 1 1) = true)
    (hfree : s.vppbsOfPort (o.arg 1 1) = []) (hproto : s.get .portProto (o.arg 1 1) ≠ 2)
    (hpass : s.passes [putEntry .vcsUsp (o.arg 0 1) 0 (o.arg 1 1), putEntry .vcsEnable (o.arg 0 1) 0 1]) :
    Leads (.vcsSet c) s (fun t => Commits s t c
      [putEntry .vcsUsp (o.arg 0 1) 0 (o.arg 1 1), putEntry .vcsEnable (o.arg 0 1) 0 1] noAction noReply) := by
  have hv0 : o.arg 0 1 ≠ 0 := by omega
  refine ⟨_, rfl, ?_⟩
  rw [State.libRun_carries h]
  simp only [hen]
  refine State.libArgs_commits h ?_ hpass
  simp [hv0, hv', hz, hoff, hp, hfree, hproto]

/-- A PBR item is well formed where its bits outside ID, port and VALID are zero (R299). -/
theorem pbrItem_ok {v : Nat} (hid : v % 2 ^ 16 < 4096) (hv : v < 2 ^ 32) (hport : v / 2 ^ 16 % 2 ^ 15 < 128) :
    bitsOf v 12 4 = 0 ∧ bitsOf v 16 7 = v / 2 ^ 16 % 128 ∧ bitsOf v 23 8 = 0 ∧ bitsOf v 32 32 = 0 ∧ bitsOf v 0 12 = v % 4096 ∧
      bitsOf v 31 1 = v / 2 ^ 31 % 2 := by
  have hid : v % 65536 < 4096 := hid
  have hv : v < 4294967296 := hv
  have hport : v / 65536 % 32768 < 128 := hport
  have hreserved : v / 4096 % 16 = 0 := by omega
  have hbelow : v / 8388608 % 256 = 0 := by omega
  have hhigh : v / 4294967296 % 4294967296 = 0 := by omega
  exact ⟨hreserved, rfl, hbelow, hhigh, congrArg (· % 4096) (Nat.div_one v), rfl⟩

theorem execPbrSet_commits (h : s.carries c 0x0013 o) (hn : 1 ≤ o.arg 0 2) (hn' : o.arg 0 2 ≤ 128) (hz : o.zero 2 6 = true)
    (hitems : ∀ i, i < o.arg 0 2 → o.arg (8 + 8 * i) 8 % 2 ^ 16 < 4096 ∧ o.arg (8 + 8 * i) 8 < 2 ^ 32 ∧
      o.arg (8 + 8 * i) 8 / 2 ^ 16 % 2 ^ 15 < 128 ∧ s.portOk (o.arg (8 + 8 * i) 8 / 2 ^ 16 % 128) = true)
    {es : List Entry} (hes : es = (List.range (o.arg 0 2)).flatMap (fun i =>
      [putEntry .pbrPort (o.arg (8 + 8 * i) 8 % 4096) 0 (o.arg (8 + 8 * i) 8 / 2 ^ 16 % 128),
       putEntry .pbrValid (o.arg (8 + 8 * i) 8 % 4096) 0 (o.arg (8 + 8 * i) 8 / 2 ^ 31 % 2)]))
    (hpass : s.passes es) : Leads (.pbrSet c) s (fun t => Commits s t c es noAction noReply) := by
  have hentries : (List.range (o.arg 0 2)).flatMap (fun i =>
      [putEntry .pbrPort (bitsOf (o.arg (8 + 8 * i) 8) 0 12) 0 (bitsOf (o.arg (8 + 8 * i) 8) 16 7),
       putEntry .pbrValid (bitsOf (o.arg (8 + 8 * i) 8) 0 12) 0 (bitsOf (o.arg (8 + 8 * i) 8) 31 1)]) = es := by
    rw [hes]
    refine List.flatMap_congr fun i hi => ?_
    obtain ⟨hid, hv, hport, -⟩ := hitems i (List.mem_range.1 hi)
    obtain ⟨-, eport, -, -, eid, evalid⟩ := pbrItem_ok hid hv hport
    rw [eport, eid, evalid]
  refine ⟨_, rfl, ?_⟩
  rw [State.libRun_carries h]
  simp only [hentries]
  refine State.libArgs_commits h ?_ hpass
  simp only [hn, hn', hz, decide_true, Bool.true_and, List.all_eq_true, List.mem_range]
  intro i hi
  obtain ⟨hid, hv, hport, hpok⟩ := hitems i hi
  obtain ⟨e1, e2, e3, e4, -⟩ := pbrItem_ok hid hv hport
  simpa [e1, e2, e3, e4] using hpok

theorem execMirrorSet_commits (h : s.carries c 0x0094 o) (hi : o.arg 0 1 < 16) (hz : o.zero 5 3 = true) {fields : List (Fld × Nat)}
    (hf : fields = [(Fld.mirrorSport, o.arg 1 1), (.mirrorDir, o.arg 2 1), (.mirrorDport, o.arg 3 1), (.mirrorTrunc, o.arg 4 1)])
    (hacc : ∀ e ∈ fields, e.1.accepts (o.arg 0 1) e.2 = true) (hp : s.portOk (o.arg 1 1) = true) (hd : s.portOk (o.arg 3 1) = true)
    (hdir : o.arg 2 1 = 0 ∨ s.get .portProto (o.arg 3 1) = 2) (hpass : s.passes (fields.map (fun e => putEntry e.1 (o.arg 0 1) 0 e.2))) :
    Leads (.mirrorSet c) s (fun t => Commits s t c (fields.map (fun e => putEntry e.1 (o.arg 0 1) 0 e.2)) noAction noReply) := by
  subst hf
  refine ⟨_, rfl, State.commits_libRun h rfl ?_ hpass⟩
  simp only [hi, hz, List.all_eq_true.2 hacc, hp, hd, decide_true, Bool.true_and, Bool.or_eq_true, beq_iff_eq]
  exact hdir

theorem execTenantMap_commits (h : s.carries c 0x0099 o) (hk : o.arg 0 1 ≤ 1) (hz : o.zero 1 1 = true) (hz' : o.zero 6 2 = true)
    (htarget : if o.arg 0 1 = 0 then s.portOk (o.arg 2 2) = true else o.arg 2 2 < 4096)
    (ht : o.arg 4 2 = 0x1000 ∨ (o.arg 4 2 < 4096 ∧ s.get .tenantState (o.arg 4 2) = 1))
    (hpass : s.passes [putEntry (if o.arg 0 1 = 0 then .portTenant else .pbrTenant) (o.arg 2 2) 0 (o.arg 4 2)]) :
    Leads (.tenantMap c) s (fun t => Commits s t c
      [putEntry (if o.arg 0 1 = 0 then .portTenant else .pbrTenant) (o.arg 2 2) 0 (o.arg 4 2)] noAction noReply) := by
  have hrange : (if o.arg 0 1 = 0 then s.portOk (o.arg 2 2) else decide (o.arg 2 2 < 4096)) = true := by
    split at htarget
    next h0 => rw [if_pos h0, htarget]
    next h0 => rw [if_neg h0, decide_eq_true htarget]
  refine ⟨_, rfl, State.commits_libRun h rfl ?_ hpass⟩
  simp only [hk, hz, hz', hrange, decide_true, Bool.true_and, Bool.and_true, Bool.or_eq_true, beq_iff_eq, Bool.and_eq_true, decide_eq_true_eq]
  exact ht

theorem execClassSet_commits (h : s.carries c 0x009C o) (hp : s.portOk (o.arg 0 1) = true) (hz : o.zero 1 1 = true)
    (hz' : o.zero 7 1 = true) (hcm : ∀ i, i < 8 → o.arg 2 3 / 2 ^ (3 * i) % 8 < 6) (hmc : o.arg 5 2 < 512)
    (hreq : o.arg 5 2 % 8 < 6) (hsnp : o.arg 5 2 / 8 % 8 < 6) (hrsp : o.arg 5 2 / 64 % 8 < 6) (h1 : o.arg 5 2 % 8 ≠ o.arg 5 2 / 8 % 8)
    (h2 : o.arg 5 2 / 8 % 8 ≠ o.arg 5 2 / 64 % 8) (h3 : o.arg 5 2 % 8 ≠ o.arg 5 2 / 64 % 8)
    (hpass : s.passes [putEntry .portClassmap (o.arg 0 1) 0 (o.arg 2 3), putEntry .portMemclass (o.arg 0 1) 0 (o.arg 5 2)]) :
    Leads (.classSet c) s (fun t => Commits s t c
      [putEntry .portClassmap (o.arg 0 1) 0 (o.arg 2 3), putEntry .portMemclass (o.arg 0 1) 0 (o.arg 5 2)] noAction noReply) := by
  have hall : (List.range 8).all (fun i => decide (bitsOf (o.arg 2 3) (3 * i) 3 < 6)) = true := by
    simp only [List.all_eq_true, List.mem_range, decide_eq_true_eq]
    exact hcm
  refine ⟨_, rfl, State.commits_libRun h rfl ?_ hpass⟩
  have ereq : bitsOf (o.arg 5 2) 0 3 = o.arg 5 2 % 8 := by simp [bitsOf]
  have esnp : bitsOf (o.arg 5 2) 3 3 = o.arg 5 2 / 8 % 8 := rfl
  have ersp : bitsOf (o.arg 5 2) 6 3 = o.arg 5 2 / 64 % 8 := rfl
  simp only [hp, hz, hz', hall, ereq, esnp, ersp, hmc, hreq, hsnp, hrsp, decide_true, Bool.true_and, Bool.and_eq_true, bne_iff_ne, ne_eq]
  exact ⟨⟨h1, h2⟩, h3⟩

end

/-- Settles O20: row by row. -/
theorem fabricOrders : Obligations.FabricOrders := by
  intro c s o ends a
  refine ⟨fun h hp hm hm' hz hmgmt => execPortSet_commits h hp hm hm' hz hmgmt rfl, execBifurcate_single, execBifurcate_pair,
    fun h hv hv' hen hz hoff hp hfree hproto => execVcsSet_enables h hv hv' hen hz hoff hp hfree hproto,
    fun h hn hn' hz hitems => execPbrSet_commits h hn hn' hz hitems rfl,
    fun h hi hz hacc hp hd hdir => execMirrorSet_commits h hi hz rfl hacc hp hd hdir,
    fun h hk hz hz' htarget ht => execTenantMap_commits h hk hz hz' htarget ht,
    fun h hp hz hz' hcm hmc hreq hsnp hrsp h1 h2 h3 => execClassSet_commits h hp hz hz' hcm hmc hreq hsnp hrsp h1 h2 h3⟩

end Sys2Proof.Machine
end

section
/-! PORT_CTL, and the orders that ask a device outside (O21): each OP's checks hold and its action is that of the commit's boundary
(R105); a request leaves, and the core waits for its answer (R106, R303). -/

namespace Sys2Proof.Machine

section
variable {s : State} {c : Core} {o : Order}

/-- PORT_CTL of an OP, on a used port that is not the management port and meets the OP's own condition, commits its action (R105). -/
theorem State.portCtl_commits {op : Nat} {ok : State → Nat → Bool} {act : Nat → State → State} (h : s.carries c 0x0003 o)
    (hle : op ≤ 6) (hop : o.arg 1 1 = op) (hp : s.portOk (o.arg 0 1) = true) (hz : o.zero 2 6 = true)
    (hm : s.mgmtPort ≠ some (o.arg 0 1)) (hok : ok s (o.arg 0 1) = true) (hpass : s.passes [actionOn clsPort (o.arg 0 1)]) :
    Commits s (s.portCtl c op ok act) c [actionOn clsPort (o.arg 0 1)] (act (o.arg 0 1)) noReply := by
  rw [State.portCtl, State.libRun_carries h, hop, State.libOp_self (c := c) (by simpa using hle)]
  refine State.libArgs_commits h ?_ hpass
  simp [hp, hz, hm, hok]

/-- A core waits outside for the order it carries, its request has left, and no field has changed. -/
theorem State.emit_awaitOutside (h : s.carries c 0x0004 o ∨ s.carries c 0x0014 o) {m : Msg} (hm : s.farAnswerOf m = none) :
    ((s.emit m).awaitOutside c).sent m ∧ (((s.emit m).awaitOutside c).core c).mode = .external (s.ftb + 900000) ∧
      (((s.emit m).awaitOutside c).core c).job = some o ∧ ((s.emit m).awaitOutside c).obj = s.obj := by
  have hjob : (s.core c).job = some o := h.elim (fun h => h.2.1) (fun h => h.2.1)
  refine ⟨s.emit_sent m hm, ?_, ?_, ?_⟩ <;> simp [State.awaitOutside, hjob]

theorem State.ppbCfg_awaits (op : Nat) (h : s.carries c 0x0004 o) (hle : op ≤ 1) (hop : o.arg 1 1 = op)
    (hp : s.portOk (o.arg 0 1) = true) (hup : s.portUp (o.arg 0 1) = true) (hrole : (s.port (o.arg 0 1)).role = .downstream)
    (hproto : s.get .portProto (o.arg 0 1) ≠ 2) (hreg : o.arg 2 2 ≤ 4092) (hreg4 : o.arg 2 2 % 4 = 0) (hbe : 1 ≤ o.arg 4 1)
    (hbe' : o.arg 4 1 ≤ 15) (hz : o.zero 5 3 = true) (hdata : op = 1 ∨ o.arg 8 4 = 0) :
    s.ppbCfg c op = (s.emit (.configSent (o.arg 0 1) (op == 1) (o.arg 2 2) (o.arg 4 1) (o.arg 8 4))).awaitOutside c := by
  rw [State.ppbCfg, State.libRun_carries h, hop, State.libOp_self (c := c) (by simpa using hle)]
  refine State.libArgs_ok c ?_ _
  simp only [hp, hup, hrole, hreg, hreg4, hbe, hbe', hz, decide_true, Bool.true_and, Bool.and_eq_true, Bool.or_eq_true, bne_iff_ne,
    beq_iff_eq]
  simpa using ⟨hproto, hdata⟩

theorem State.outsideFor_waits {id n : Nat} (h : (s.core c).mode = .external n ∧ (s.core c).job = some o ∧ o.library = true ∧ o.libid = id) :
    s.outsideFor c id = some (n, o) := by
  obtain ⟨hmode, hjob, hlib, hid⟩ := h
  simp [State.outsideFor, hmode, hjob, hlib, hid]

/-- The last four bytes of PPB_CFG's reply are its status (R106). -/
theorem CplStatus.code_bytes (st : CplStatus) : [BitVec.ofNat 8 st.code, 0, 0, 0] =
    toLE 4 (match st with | .success => 0 | .unsupported => 1 | .retry => 2 | .abort => 4) := by
  cases st <;> decide

end

/-- Settles O21. -/
theorem portAndOutsideOrders : Obligations.PortAndOutsideOrders := by
  refine ⟨fun c s o => ?_, fun c s o => ?_⟩
  · refine ⟨fun n hn => ⟨?_, ?_⟩, fun hup husp hproto => ?_, ?_, fun hl hd => ?_, ?_, fun hl => ?_⟩
    all_goals
      intro hop h hp hz hm hpass
      refine ⟨_, rfl, State.portCtl_commits h (by decide) hop hp hz hm ?_ hpass⟩
    · simp [hn]
    · simp [hn]
    · simp [hup, husp, hproto]
    · rfl
    · simp [hl, hd]
    · rfl
    · simp [hl]
  · refine ⟨fun h hlegal hop hdata => ?_, fun h hlegal hop => ?_, fun n st d h => ?_, fun n h hn => ?_, fun h hp hup hf hz hid => ?_,
      fun n r h => ?_, fun n h hn => ?_⟩
    · obtain ⟨hp, hup, hrole, hproto, hreg, hreg4, hbe, hbe', hz⟩ := hlegal
      refine ⟨_, rfl, ?_⟩
      rw [State.ppbCfg_awaits 0 h (by decide) hop hp hup hrole hproto hreg hreg4 hbe hbe' hz (.inr hdata), hdata]
      exact State.emit_awaitOutside (.inl h) rfl
    · obtain ⟨hp, hup, hrole, hproto, hreg, hreg4, hbe, hbe', hz⟩ := hlegal
      refine ⟨_, rfl, ?_⟩
      rw [State.ppbCfg_awaits 1 h (by decide) hop hp hup hrole hproto hreg hreg4 hbe hbe' hz (.inl rfl)]
      exact State.emit_awaitOutside (.inl h) rfl
    · refine ⟨_, rfl, ?_⟩
      rw [State.outsideFor_waits h]
      simp only [Bool.and_eq_true, decide_eq_true_eq]
      rw [CplStatus.code_bytes]
      rfl
    · refine ⟨_, rfl, ?_⟩
      rw [State.outsideFor_waits h]
      exact if_pos hn
    · refine ⟨_, rfl, ?_⟩
      rw [State.libRun_carries h]
      dsimp only
      rw [State.libArgs_ok c ?ok, if_pos hup]
      · exact State.emit_awaitOutside (.inr h) rfl
      · have hlow : (o.arg 1 1 == 1 && decide (4096 ≤ o.arg 2 2)) = false := by
          simpa using hid
        simp [hp, hf, hz, hlow]
    · refine ⟨_, rfl, ?_⟩
      rw [State.outsideFor_waits h]
      rfl
    · refine ⟨_, rfl, ?_⟩
      rw [State.outsideFor_waits h]
      exact if_pos hn

end Sys2Proof.Machine
end

section
/-! BIND, UNBIND and AER_GEN (O22): a binding is committed on a vPPB that has taken its flag; an unbinding acts at the boundary as its
MODE says; a generated error sets its bit and sends its message (R107, R300, R308). -/

namespace Sys2Proof.Machine

section
variable {s : State} {c : Core} {o : Order}

theorem Commits.act_eq {t : State} {es : List Entry} {act act' : State → State} {reply : State → List Byte}
    (h : Commits s t c es act reply) (hact : act = act') : Commits s t c es act' reply :=
  hact ▸ h

/-- A core carries its order on after a vPPB has changed. -/
theorem State.carries_modVppb {id : Nat} (h : s.carries c id o) (v b : Nat) (f : VppbState → VppbState) :
    (s.modVppb v b f).carries c id o := h

theorem execBind_commits (h : s.carries c 0x0011 o) (hv : o.arg 0 1 < 128) (hk : o.arg 2 1 = 1 ∨ o.arg 2 1 = 2)
    (hp : s.portOk (o.arg 3 1) = true) (hld : if o.arg 2 1 = 1 then o.arg 4 2 = 0 else o.arg 4 2 ≤ 15) (hf : o.arg 6 1 ≤ 1)
    (hz : o.zero 7 1 = true) (hmay : s.mayBind (o.arg 0 1) (o.arg 1 1) (o.arg 2 1) (o.arg 3 1) (o.arg 4 2) = true) {s1 : State}
    (hs1 : s1 = s.modVppb (o.arg 0 1) (o.arg 1 1) (fun x => { x with auto := o.arg 6 1 == 1 })) {es : List Entry}
    (hes : es = [putEntry .vppbKind (o.arg 0 1) (o.arg 1 1) (o.arg 2 1), putEntry .vppbPort (o.arg 0 1) (o.arg 1 1) (o.arg 3 1),
      putEntry .vppbLdid (o.arg 0 1) (o.arg 1 1) (o.arg 4 2)])
    (hpass : s1.passes es) : Leads (.bind c) s (fun t => Commits s1 t c es noAction noReply) := by
  have hkind : (if (o.arg 2 1 == 1) = true then o.arg 4 2 == 0 else decide (o.arg 4 2 ≤ 15)) = true := by
    obtain hk | hk := hk <;> rw [hk] at hld ⊢ <;> simpa using hld
  have h1 : s1.carries c 0x0011 o := hs1 ▸ State.carries_modVppb h _ _ _
  have hne : es ≠ [] := by simp [hes]
  refine ⟨_, rfl, ?_⟩
  rw [State.libRun_carries h]
  dsimp only
  rw [State.libArgs_ok c ?ok, ← hs1, ← hes, State.commitNow_carries h1 hne, hpass.1, hpass.2]
  · rfl
  · obtain hk | hk := hk <;> rw [hk] at hkind hmay ⊢ <;> simp only [hv, hp, hkind, hf, hz, hmay] <;> rfl

/-- UNBIND of a MODE, on a vPPB that is bound, commits its action (R308). -/
theorem State.unbindBy_commits {mode : Nat} {act : Nat → Nat → State → State} (h : s.carries c 0x0012 o) (hle : mode ≤ 2)
    (hmode : o.arg 2 1 = mode) (hv : o.arg 0 1 < 128) (hz : o.zero 3 5 = true) (hk : s.get .vppbKind (o.arg 0 1) (o.arg 1 1) ≠ 0)
    (hpass : s.passes [.action clsVppb (o.arg 0 1) (o.arg 1 1) 0]) :
    Commits s (s.unbindBy c mode act) c [.action clsVppb (o.arg 0 1) (o.arg 1 1) 0] (act (o.arg 0 1) (o.arg 1 1)) noReply := by
  rw [State.unbindBy, State.libRun_carries h, hmode, State.libOp_self (c := c) (by simpa using hle)]
  refine State.libArgs_commits h ?_ hpass
  simp [hv, hz, hk]

end

/-- Settles O22. -/
theorem bindingOrders : Obligations.BindingOrders := by
  intro c s o
  refine ⟨fun h hv hk hp hld hf hz hmay hpass => execBind_commits h hv hk hp hld hf hz hmay rfl rfl hpass,
    fun h hv hz hk hpass => ⟨fun hm => ?_, fun hm => ?_, fun hm => ?_⟩, fun h hv hz hone hen hpass => ?_⟩
  · have hact : (fun u : State => if u.portUp (u.get .vppbPort (o.arg 0 1) (o.arg 1 1)) = false ∨ u.get .vppbKind (o.arg 0 1) (o.arg 1 1) = 2
        then u.unbindNow (o.arg 0 1) (o.arg 1 1) else u.setHp (o.arg 0 1) (o.arg 1 1) 6) = fun u =>
        if !u.portUp (u.get .vppbPort (o.arg 0 1) (o.arg 1 1)) || u.get .vppbKind (o.arg 0 1) (o.arg 1 1) == 2
        then u.unbindNow (o.arg 0 1) (o.arg 1 1) else u.setHp (o.arg 0 1) (o.arg 1 1) 6 := by
      funext u
      simp
    rw [hact]
    exact ⟨_, rfl, State.unbindBy_commits h (by decide) hm hv hz hk hpass⟩
  · exact ⟨_, rfl, State.unbindBy_commits h (by decide) hm hv hz hk hpass⟩
  · exact ⟨_, rfl, State.unbindBy_commits h (by decide) hm hv hz hk hpass⟩
  · refine ⟨_, rfl, ?_⟩
    rw [State.libRun_carries h]
    dsimp only
    rw [State.libArgs_ok c ?ok]
    · refine (State.libCommit_passes h hpass _ _).act_eq (funext fun u => ?_)
      split
      next hmask => rw [if_neg (fun hsent => bne_iff_ne.1 hmask hsent.1)]
      next hmask =>
        have hclear : (u.vppb (o.arg 0 1) (o.arg 1 1)).aerMask &&& o.arg 4 4 = 0 := by simpa using hmask
        split
        next q hq => rw [if_pos ⟨hclear, by rw [hq]; rfl⟩]
        next hq => rw [if_neg (fun hsent => Option.isSome_iff_ne_none.1 hsent.2 hq)]
    · obtain ⟨i, hi, hbit⟩ := hone
      have hany : (List.range 32).any (fun i => o.arg 4 4 == 2 ^ i) = true :=
        List.any_eq_true.2 ⟨i, List.mem_range.2 hi, beq_iff_eq.2 hbit⟩
      simp only [hv, hz, hany, hen]
      rfl

end Sys2Proof.Machine
end

section
/-! Standing orders (O23): a frame is stored with the next SEQ, at once or by parts; records are cleared and listed (R110, R112 to R114). -/

namespace Sys2Proof.Machine

section
variable {s : State} {c : Core} {o : Order}

/-- A frame stored in the standing-order area as its last record, with the next SEQ (R109). -/
def State.withStanding (s : State) (priv : Nat) (frame : List Byte) : State :=
  s.modLedger (fun l => { l with
    standing := l.standing ++ [⟨l.standingSeq + 1, priv, true, crc32 frame, frame⟩], standingSeq := l.standingSeq + 1,
    standingUsed := l.standingUsed + recordBytes frame.length })

theorem State.storeStanding_fits {priv : Nat} {frame : List Byte} (h : s.ledger.standingUsed + recordBytes frame.length ≤ Config.standingBytes) :
    s.storeStanding priv frame = some (s.withStanding priv frame, s.ledger.standingSeq + 1) := by
  rw [State.storeStanding, if_pos h]
  rfl

theorem State.storeStanding_full {priv : Nat} {frame : List Byte} (h : Config.standingBytes < s.ledger.standingUsed + recordBytes frame.length)
    (h' : Config.standingBytes < s.ledger.standingHeld + recordBytes frame.length) : s.storeStanding priv frame = none := by
  rw [State.storeStanding, if_neg (Nat.not_le.2 h), if_neg (Nat.not_le.2 h')]

/-- What an order that stores a frame ends with: the frame's SEQ, or no room for it (R109). -/
def State.endsStored (s : State) (c : Core) : Option (State × Nat) → State
  | none => s.libEnds c .noSpace
  | some (s', seq) => s'.libReply c (toLE 4 seq)

/-- STANDING_WRITE comes to what storing its frame comes to (R109). -/
theorem State.libRun_standingWrite (h : s.carries c 0x0070 o) (hf : frameOk o.args 4096 = true) (hs : s.mayStore o.priv o.args = true) :
    exec (.standingWrite c) s = .next (s.endsStored c (s.storeStanding o.priv o.args)) := by
  refine congrArg Host.Outcome.next ?_
  rw [State.libRun_carries h, State.libArgs_ok c hf, if_neg (by simp [hs])]
  cases s.storeStanding o.priv o.args <;> rfl

/-- What a part of a long frame must be (R112). -/
def Order.partOk (o : Order) : Prop :=
  4097 ≤ o.arg 0 4 ∧ o.arg 0 4 ≤ 20496 ∧ o.zero 10 6 = true ∧ o.args.drop 16 ≠ [] ∧ (o.args.drop 16).length ≤ 4080

theorem execStandingWritePart_part (h : s.carries c 0x00A6 o) (hp : o.partOk) :
    exec (.standingWritePart c) s = .next (if o.arg 8 2 = 0 && o.arg 4 4 = 0 then s.firstPart c o (o.arg 0 4) (o.args.drop 16)
      else s.laterPart c (o.arg 0 4) (o.arg 4 4) (o.arg 8 2) (o.args.drop 16)) := by
  obtain ⟨hlow, hhigh, hz, hne, hlen⟩ := hp
  refine congrArg Host.Outcome.next ?_
  rw [State.libRun_carries h]
  refine State.libArgs_ok c ?_ _
  have hempty : (o.args.drop 16).isEmpty = false := by simpa using hne
  simp only [hlow, hhigh, hz, hempty, hlen]
  rfl

theorem execStandingWritePart_first (h : s.carries c 0x00A6 o) (hp : o.partOk) (hn : o.arg 8 2 = 0) (hoff : o.arg 4 4 = 0)
    (hses : s.ord.session = none) (hlen : 16 ≤ (o.args.drop 16).length) (hhead : longHeaderOk (o.args.drop 16) (o.arg 0 4) = true)
    (hs : s.mayStore o.priv (o.args.drop 16) = true) :
    Leads (.standingWritePart c) s (fun t => Replies (s.modOrd (fun q => { q with
      session := some ⟨s.ord.nextSession, o.arg 0 4, o.args.drop 16, o.priv, s.ftb⟩,
      nextSession := if s.ord.nextSession = 0xFFFF then 1 else s.ord.nextSession + 1 })) t c (toLE 2 s.ord.nextSession)) := by
  refine ⟨_, execStandingWritePart_part h hp, ?_⟩
  simp only [hn, hoff, decide_true, Bool.and_true, if_true, State.firstPart, hses, Option.isSome_none, Bool.false_eq_true, if_false]
  rw [State.libArgs_ok c (by rw [decide_eq_true hlen, hhead]; rfl), hs]
  rfl

/-- A part in its place of the session goes on to what the frame received so far makes of it (R112). -/
theorem State.laterPart_inPlace {x : PartSession} {part : List Byte} (hses : s.ord.session = some x)
    (hfit : x.received.length + part.length ≤ x.total) :
    s.laterPart c x.total x.received.length x.number part =
      if (x.received ++ part).length < x.total then
        (s.modOrd (fun q => { q with session := some { x with received := x.received ++ part, lastPart := s.ftb } })).libReply c (toLE 2 x.number)
      else (s.modOrd (fun q => { q with session := none })).endsStored c
        ((s.modOrd (fun q => { q with session := none })).storeStanding x.priv (x.received ++ part)) := by
  have hlen : ¬ x.total < (x.received ++ part).length := by rw [List.length_append]; omega
  simp only [State.laterPart, hses, hlen, bne_self_eq_false, decide_false, Bool.or_self, Bool.false_eq_true, if_false]
  cases (s.modOrd (fun q => { q with session := none })).storeStanding x.priv (x.received ++ part) <;> rfl

/-- STANDING_CLEAR of an OP makes the records it selects invalid and says how many (R113). -/
theorem State.clearStanding_replies {op : Nat} {sel : Order → StandingRecord → Bool} {ok : Order → Bool} (h : s.carries c 0x0071 o)
    (hle : op ≤ 1) (hop : o.arg 0 1 = op) (hz : o.zero 1 3 = true) (hz' : o.zero 12 4 = true) (hok : ok o = true)
    {hit : StandingRecord → Bool} (hhit : hit = fun r => r.valid && sel o r && (o.priv != privBMC || r.priv == privBMC)) :
    Replies (s.modLedger (fun l => { l with
        standing := l.standing.map (fun r => if hit r then { r with valid := false } else r) })) (s.clearStanding c op sel ok) c
        (toLE 4 (s.ledger.standing.filter hit).length) := by
  subst hhit
  rw [State.clearStanding, State.libRun_carries h, hop, State.libOp_self (c := c) (by simpa using hle),
    State.libArgs_ok c (by simp only [hz, hz', hok]; rfl)]
  rfl

end

/-- Settles O23. -/
theorem standingOrders : Obligations.StandingOrders := by
  intro c s o
  refine ⟨fun h hf hs hfit => ?_, fun h hf hs hfull hheld => ?_,
    fun h hp hn hoff hses hlen hhead hs => execStandingWritePart_first h hp hn hoff hses hlen hhead hs,
    fun x h hp hlater hses hn hoff htotal => ⟨fun hlt => ?_, fun heq hfit => ?_⟩, fun h hop hz hz' => ?_, fun h hop hz hz' hz'' => ?_,
    fun h hn hn' hz => ?_, fun x hses hold => ?_⟩
  · refine ⟨_, State.libRun_standingWrite h hf hs, ?_⟩
    rw [State.storeStanding_fits hfit]
    rfl
  · refine ⟨_, State.libRun_standingWrite h hf hs, ?_⟩
    rw [State.storeStanding_full hfull hheld]
    rfl
  · refine ⟨_, execStandingWritePart_part h hp, ?_⟩
    rw [if_neg (by simpa using hlater), hn, hoff, htotal, State.laterPart_inPlace hses (Nat.le_of_lt hlt),
      if_pos (by rwa [List.length_append])]
    rfl
  · refine ⟨_, execStandingWritePart_part h hp, ?_⟩
    have hlen : (x.received ++ o.args.drop 16).length = x.total := by rwa [List.length_append]
    rw [if_neg (by simpa using hlater), hn, hoff, htotal, State.laterPart_inPlace hses (Nat.le_of_eq heq),
      if_neg (Nat.not_lt.2 (Nat.le_of_eq hlen.symm)), State.storeStanding_fits (by rw [hlen]; exact hfit)]
    rfl
  · exact ⟨_, rfl, State.clearStanding_replies h (by decide) hop hz hz' rfl rfl⟩
  · exact ⟨_, rfl, State.clearStanding_replies h (by decide) hop hz hz'' hz' rfl⟩
  · refine ⟨_, rfl, ?_⟩
    rw [State.libRun_carries h]
    dsimp only
    rw [State.libArgs_ok c (by simp [hn, hn', hz])]
    rfl
  · refine ⟨_, rfl, ?_⟩
    rw [hses]
    exact if_pos hold

end Sys2Proof.Machine
end

section
/-! Image orders and the work of the management controller on images (O24): each order's checks hold and its commit starts the MC's
work (R124, R125, R128, R133); the work ends, a resident core halts, and policy resumes (R126, R128, R131). -/

namespace Sys2Proof.Machine

section
variable {s : State} {c : Core} {o : Order}

/-! ### The orders -/

/-- What every OP of IMAGE_WRITE needs (R124). -/
def State.imageWriteOk (s : State) (o : Order) : Prop :=
  o.arg 7 1 ≤ 1 ∧ o.arg 7 1 ≠ s.boot.bank ∧ (s.boot.stage ≠ 1 ∧ s.boot.stage ≠ 2 ∧ s.boot.act ≠ 1) ∧ o.arg 0 4 + o.arg 4 2 ≤ bankBytes ∧
    o.args.length = 16 + o.arg 4 2 ∧ s.vectorOk (o.arg 8 2) = true ∧ o.zero 10 6 = true

theorem State.imageWrite_commits {op : Nat} {ok : Order → Bool} {job : Order → FlashJob} (h : s.carries c 0x0080 o)
    (hw : s.imageWriteOk o) (hle : op ≤ 2) (hop : o.arg 6 1 = op) (hok : ok o = true) (hpass : s.passes [actionOn clsDevice 0]) :
    Commits s (s.imageWrite c op ok job) c [actionOn clsDevice 0]
      (fun u => u.modBoot (fun b => { b with stage := 1, stageHash := [], flashJob := some (job o) })) noReply := by
  obtain ⟨hbank, hother, ⟨hs1, hs2, hact⟩, hfit, hlen, hv, hz⟩ := hw
  rw [State.imageWrite, State.libRun_carries h, hop, State.libOp_self (c := c) (by simpa using hle)]
  simp only [hother, hs1, hs2, hact, decide_false, Bool.or_self, Bool.false_eq_true, if_false]
  refine State.libArgs_commits h ?_ hpass
  simp [hfit, hlen, hbank, hv, hz, hok]

theorem execImageWriteProgram_active (h : s.carries c 0x0080 o) (hop : o.arg 6 1 = 0) (hbank : o.arg 7 1 = s.boot.bank) :
    Leads (.imageWriteProgram c) s (fun t => t = s.endOrder c Status.denied.word []) := by
  refine ⟨_, rfl, ?_⟩
  rw [State.imageWrite, State.libRun_carries h, hop, State.libOp_self c (by decide)]
  exact if_pos hbank

theorem execImageStage_commits (h : s.carries c 0x0081 o) (hlen : o.args.length = 16) (hz : o.zero 10 6 = true)
    (hidle : s.boot.stage ≠ 1 ∧ s.boot.stage ≠ 2 ∧ s.boot.act ≠ 1) (ha : o.arg 0 8 % 64 = 0) (hfit : o.arg 0 8 + bankBytes ≤ 2 ^ 57)
    (hcov : s.t0Covers (o.arg 0 8) (o.arg 0 8 + bankBytes - 1) = true) (hev : s.ownsEvent 0 (o.arg 8 2) = true)
    (hpass : s.passes [actionOn clsDevice 0]) :
    Leads (.imageStage c) s (fun t => Commits s t c [actionOn clsDevice 0] (fun u => u.modBoot (fun b =>
      { b with stage := 2, stageAddr := o.arg 0 8, stageEvent := o.arg 8 2, stageBank := 1 - b.bank, stageHash := [] })) noReply) := by
  obtain ⟨hs1, hs2, hact⟩ := hidle
  refine ⟨_, rfl, ?_⟩
  rw [State.libRun_carries h, State.libArgs_ok c (by simp [hlen, hz])]
  simp only [hs1, hs2, hact, decide_false, Bool.or_self, Bool.false_eq_true, if_false]
  refine State.libArgs_commits h ?_ hpass
  simp only [ha, hfit, hcov, hev]
  rfl

theorem execActivate_commits (h : s.carries c 0x0082 o) (hlen : o.args.length = 8) (hz : o.zero 0 8 = true) (hs : s.boot.stage = 3)
    (hact : s.boot.act ≠ 1) (hpass : s.passes [actionOn clsDevice 0]) :
    Leads (.activate c) s (fun t => Commits s t c [actionOn clsDevice 0]
      (fun u => u.modBoot (fun b => { b with act := 1, activation := .rehash })) noReply) := by
  refine ⟨_, rfl, ?_⟩
  rw [State.libRun_carries h, State.libArgs_ok c (by simp [hlen, hz, hs]), if_neg hact]
  exact State.libCommit_passes h hpass _ _

theorem execConfirm_replies (h : s.carries c 0x0083 o) (hlen : o.args.length = 8) (hf : o.arg 0 1 ≤ 1) (hz : o.zero 1 7 = true)
    (hact : s.boot.act ≠ 1) :
    Leads (.confirm c) s (fun t => Replies ((s.modControl (fun l =>
      { l with svnFloor := if o.arg 0 1 = 1 then max l.svnFloor s.boot.image.svn else l.svnFloor })).modBoot (fun b =>
        { b with preferred := b.bank, act := 0 })) t c []) := by
  refine ⟨_, rfl, ?_⟩
  rw [State.libRun_carries h, State.libArgs_ok c (by simp [hlen, hf, hz]), if_neg hact]
  rfl

end

/-! ### The work of the MC -/

section
variable (s : State)

theorem State.raiseVector_boot (n : Nat) (owner : Option Nat) : (s.raiseVector n owner).boot = s.boot :=
  (congrArg State.boot (s.raiseVector_still n owner) :)

theorem State.raiseVector_pool (n : Nat) (owner : Option Nat) : (s.raiseVector n owner).pool = s.pool :=
  (congrArg State.pool (s.raiseVector_still n owner) :)

/-- Reading the header of the other bank changes no bank, and so no verification. -/
theorem State.verifyBank_readOther (bank b : Nat) : (s.readOther bank).verifyBank b = s.verifyBank b := by
  have hnat : ∀ off n, (s.readOther bank).boot.bankNat b off n = s.boot.bankNat b off n := fun _ _ => rfl
  have hdata : ∀ off n, (s.readOther bank).boot.bankData b off n = s.boot.bankData b off n := fun _ _ => rfl
  have hhead : (s.readOther bank).boot.headerOk b = s.boot.headerOk b := rfl
  have hotp : (s.readOther bank).otp = s.otp := rfl
  have hled : (s.readOther bank).ledger = s.ledger := rfl
  simp only [State.verifyBank, hnat, hdata, hhead, hotp, hled]

theorem State.flashWork_erase (bank block ev : Nat) : s.flashWork (.erase bank block ev) true =
    (s.modBoot (fun b => { b with flash := eraseBlocks b.flash (bank * 256 + block) (bank * 256 + block) }), ev) := by
  have hat : (bank * bankBytes + block * 65536) / 65536 = bank * 256 + block := by
    simp only [bankBytes]
    omega
  simp only [State.flashWork, hat]
  rfl

/-- The state in which flash work leaves the boot, but for the flash itself (R124). -/
theorem execImageFlashWorkDone_boot {job : FlashJob} (ok : Bool) (h : s.boot.flashJob = some job) :
    Leads (.imageFlashWorkDone ok) s (fun t => t.boot = { (s.flashWork job ok).1.boot with
      flashJob := none, stage := if ok then 0 else 4, fail := if ok then (s.flashWork job ok).1.boot.fail else 0x09 }) := by
  refine ⟨_, rfl, ?_⟩
  rw [h]
  exact State.raiseVector_boot ..

/-- What a staging of the image leaves, by the verification of its bank (R126, R127). -/
theorem execStagingDone_good (h : s.boot.stage = 2) :
    Leads (.stagingDone false) s (fun t =>
      match s.verifyBank s.boot.stageBank with
      | some code => t.boot.stage = 4 ∧ t.boot.fail = code ∧ t.pool = s.pool
      | none => t.boot.stage = 3 ∧ t.boot.stageHash = Config.sha512 s.boot.stagedImage ∧
        t.pool = memPutBytes s.pool s.boot.stageAddr s.boot.stagedImage) := by
  refine ⟨_, rfl, ?_⟩
  simp only [if_pos h, State.verifyBank_readOther, State.raiseVector_boot, State.raiseVector_pool, Bool.false_eq_true, if_false]
  cases s.verifyBank s.boot.stageBank with
  | some code =>
    dsimp only
    exact ⟨rfl, rfl, by rfl⟩
  | none =>
    dsimp only
    exact ⟨rfl, rfl, by rfl⟩

theorem execStagingDone_error (h : s.boot.stage = 2) :
    Leads (.stagingDone true) s (fun t => t.boot.stage = 4 ∧ t.boot.fail = (s.verifyBank s.boot.stageBank).getD 0x06) := by
  refine ⟨_, rfl, ?_⟩
  simp only [if_pos h, State.verifyBank_readOther, State.raiseVector_boot, if_true]
  cases s.verifyBank s.boot.stageBank with
  | some code => exact ⟨rfl, rfl⟩
  | none =>
    generalize (s.readOther s.boot.bank).randomBytes s.boot.stagedImage.length [] = copy
    exact ⟨rfl, rfl⟩

/-! ### Cores halt -/

/-- A core that has halted with an empty buffer. -/
def State.haltedEmpty (s : State) (c : Nat) : Prop := (s.core c).mode = .halted ∧ (s.core c).buf = []

theorem State.haltResident_self (c : Nat) : (s.haltResident c).haltedEmpty c := by
  simp [State.haltResident, State.haltedEmpty]

theorem State.haltResident_keeps {c : Nat} (d : Nat) (h : s.haltedEmpty c) : (s.haltResident d).haltedEmpty c := by
  by_cases hd : c = d
  · exact hd ▸ s.haltResident_self c
  · have hcore : (s.haltResident d).core c = s.core c := (State.core_modCore ..).trans (if_neg (Ne.symm hd))
    rwa [State.haltedEmpty, hcore]

theorem State.haltResidents_halt (l : List Nat) {c : Nat} (h : s.haltedEmpty c ∨ c ∈ l) :
    (l.foldl (fun s c => s.haltResident c) s).haltedEmpty c := by
  induction l generalizing s with
  | nil => exact h.elim id (fun h => absurd h (List.not_mem_nil))
  | cons d l ih =>
    refine ih _ ?_
    obtain h | h := h
    · exact .inl (s.haltResident_keeps d h)
    · obtain rfl | h := List.mem_cons.1 h
      · exact .inl (s.haltResident_self _)
      · exact .inr h

theorem State.haltResidents_boot (l : List Nat) : (l.foldl (fun s c => s.haltResident c) s).boot = s.boot :=
  foldl_keeps (f := State.haltResident) (p := State.boot) (fun _ _ => rfl) l s

theorem State.haltResidents_ord (l : List Nat) : (l.foldl (fun s c => s.haltResident c) s).ord = s.ord :=
  foldl_keeps (f := State.haltResident) (p := State.ord) (fun _ _ => rfl) l s

theorem State.haltResidents_sec (l : List Nat) : (l.foldl (fun s c => s.haltResident c) s).sec = s.sec :=
  foldl_keeps (f := State.haltResident) (p := State.sec) (fun _ _ => rfl) l s

theorem State.mem_residentCores {c : Nat} : c ∈ s.residentCores ↔ c < 16 ∧ (s.core c).resident = true := by
  simp [State.residentCores]

theorem State.activationEnds_of_not (h : s.lev.reloadAfterActivation = false) : s.activationEnds = s := by
  rw [State.activationEnds, if_neg (by simp [h])]

theorem execActivationRehashDone_leads (h : s.boot.activation = .rehash) (hr : s.lev.reloadAfterActivation = false) :
    Leads .activationRehashDone s (fun t =>
      if s.copyIntact then t.boot.activation = .quiesce ∧ t.ord.noStart = true ∧ t.boot.act = s.boot.act ∧
        ∀ c, c < 16 → (s.core c).resident = true → (s.core c).buf = [] → (t.core c).mode = .halted
      else t.boot.activation = .none ∧ t.boot.act = 0 ∧ t.boot.fail = 0x07) := by
  refine ⟨_, rfl, ?_⟩
  rw [if_pos h]
  split
  next hcopy =>
    simp only [State.haltResidents_boot, State.haltResidents_ord]
    refine ⟨rfl, rfl, rfl, fun c hc hres hbuf => (State.haltResidents_halt _ _ (.inr ?_)).1⟩
    exact List.mem_filter.2 ⟨(State.mem_residentCores _).2 ⟨hc, hres⟩, List.isEmpty_iff.2 hbuf⟩
  next hcopy =>
    rw [State.activationEnds_of_not (s.modBoot _) hr]
    exact ⟨rfl, rfl, rfl⟩

theorem State.quiesced_of (hc : ∀ c ∈ s.orderCores, (s.core c).job = none)
    (hq : s.boot.quiesceBy ≤ s.ftb ∨ ∀ c, c < 16 → (s.core c).resident = true → (s.core c).mode = .halted) : s.quiesced = true := by
  simp only [State.quiesced, Bool.and_eq_true, List.all_eq_true, Option.isNone_iff_eq_none, Bool.or_eq_true, decide_eq_true_eq,
    State.mem_residentCores, beq_iff_eq]
  exact ⟨hc, hq.imp_right fun h c hm => h c hm.1 hm.2⟩

theorem execActivationQuiescePoint_leads (h : s.boot.activation = .quiesce) (hq : s.quiesced = true) :
    Leads .activationQuiescePoint s (fun t => t.boot.activation = .copy ∧
      (∀ e ∈ t.sec.sessions, e.2.trunk = true ∧ e ∈ s.sec.sessions) ∧
      ∀ c, c < 16 → (s.core c).resident = true → (t.core c).mode = .halted ∧ (t.core c).buf = []) := by
  refine ⟨_, rfl, ?_⟩
  rw [if_pos (by simp [h, hq])]
  refine ⟨?_, fun e he => ?_, fun c hc hres => ?_⟩
  · exact congrArg Boot.activation (State.haltResidents_boot _ _)
  · obtain ⟨hmem, htrunk⟩ := List.mem_filter.1 he
    rw [State.haltResidents_sec] at hmem
    exact ⟨htrunk, hmem⟩
  · exact State.haltResidents_halt _ _ (.inr ((State.mem_residentCores _).2 ⟨hc, hres⟩))

theorem execActivationQuiescePoint_waits (h : ∃ c ∈ s.orderCores, (s.core c).job ≠ none) : exec .activationQuiescePoint s = .next s := by
  obtain ⟨c, hc, hjob⟩ := h
  have hq : s.quiesced = false := by
    rw [State.quiesced, Bool.and_eq_false_iff]
    exact .inl (List.all_eq_false.2 ⟨c, hc, by simpa using hjob⟩)
  exact congrArg Host.Outcome.next (if_neg (by simp [hq]))

/-! ### Policy resumes -/

/-- What the start of the resident tasks and the levels sent to Trunk ports leave alone. -/
def State.policyPart (s : State) : Boot × Orders × Bool := (s.boot, s.ord, s.lev.reloadAfterActivation)

theorem State.startResidents_policyPart : s.startResidents.policyPart = s.policyPart :=
  foldl_keeps (f := State.startResident) (p := State.policyPart) (fun _ _ => rfl) _ s

theorem State.policyResumes_policyPart :
    s.policyResumes.policyPart = (s.boot, { s.ord with noStart := false }, s.lev.reloadAfterActivation) :=
  State.startResidents_policyPart _

theorem State.deriveAlias_policyPart : s.deriveAlias.policyPart = s.policyPart := by
  rw [State.deriveAlias, apply_ite State.policyPart]
  exact ite_self _

theorem State.sendLevels_policyPart (l : List Nat) : (l.foldl (fun s p => s.sendLevel p 0 0) s).policyPart = s.policyPart :=
  foldl_keeps (f := fun s p => s.sendLevel p 0 0) (p := State.policyPart) (fun _ _ => rfl) l s

theorem State.activationEnds_of_policyPart {b : Boot} {q : Orders} (h : s.policyPart = (b, q, false)) :
    s.activationEnds.boot = b ∧ s.activationEnds.ord = q := by
  rw [State.activationEnds_of_not s (congrArg (fun x => x.2.2) h)]
  exact ⟨congrArg (fun x => x.1) h, congrArg (fun x => x.2.1) h⟩

theorem State.policyPart_modBoot {b : Boot} {q : Orders} {r : Bool} (h : s.policyPart = (b, q, r)) (f : Boot → Boot) :
    (s.modBoot f).policyPart = (f b, q, r) := by
  simp only [State.policyPart, Prod.mk.injEq] at h ⊢
  obtain ⟨rfl, rfl, rfl⟩ := h
  exact ⟨rfl, rfl, rfl⟩

/-- What reading the other bank's header makes of the boot. -/
def State.withOther (s : State) (bank : Nat) (b : Boot) : Boot :=
  { b with
    other := if (s.verifyBank (1 - bank)).isNone then b.readImage (1 - bank) else {}
    otherValid := (s.verifyBank (1 - bank)).isNone }

theorem State.readOther_policyPart {b : Boot} {q : Orders} {r : Bool} (h : s.policyPart = (b, q, r)) (bank : Nat) :
    (s.readOther bank).policyPart = (s.withOther bank b, q, r) :=
  State.policyPart_modBoot s h _

theorem execActivationResume_leads (h : s.boot.activation = .restart) (hr : s.lev.reloadAfterActivation = false) :
    Leads .activationResume s (fun t => t.boot.activation = .none ∧ t.boot.act = 2 ∧ t.boot.bank = s.boot.stageBank ∧
      t.ord.noStart = false) := by
  refine ⟨_, rfl, ?_⟩
  rw [if_pos h]
  dsimp only
  have hresumed := State.policyResumes_policyPart s
  rw [hr] at hresumed
  have hnamed := State.policyPart_modBoot _ hresumed (fun b => { b with activation := .none, act := 2, bank := b.stageBank })
  have hread := State.readOther_policyPart _ ((State.deriveAlias_policyPart _).trans hnamed)
  obtain ⟨hb, hq⟩ := State.activationEnds_of_policyPart _ ((State.sendLevels_policyPart _ _).trans (hread _))
  rw [hb, hq]
  exact ⟨rfl, rfl, rfl, rfl⟩

theorem execActivationReloadDone_leads (h : s.boot.activation = .reload) (hr : s.lev.reloadAfterActivation = false) :
    Leads .activationReloadDone s (fun t => t.boot.activation = .none ∧ t.boot.bank = s.boot.bank ∧ t.ord.noStart = false) := by
  refine ⟨_, rfl, ?_⟩
  rw [if_pos h]
  have hresumed := State.policyResumes_policyPart ((s.installImage s.boot.bank).modBoot (fun b => { b with activation := .none }))
  obtain ⟨hb, hq⟩ := State.activationEnds_of_policyPart _ (hresumed.trans (congrArg (fun r => (_, _, r)) hr))
  exact ⟨congrArg Boot.activation hb, (congrArg Boot.bank hb).trans rfl, congrArg Orders.noStart hq⟩

theorem State.installCopy_bank : s.installCopy.boot.bank = s.boot.bank := by
  simp only [State.installCopy, State.modBoot]

theorem execActivationCopyDone_loads (h : s.boot.activation = .copy) :
    Leads (.activationCopyDone false) s (fun t => t.boot.activation = (if s.copyIntact then .restart else .reload) ∧
      t.boot.bank = s.boot.bank) := by
  refine ⟨_, rfl, ?_⟩
  rw [if_pos h, Bool.not_false, Bool.and_true]
  split
  · simp only [State.modBoot, State.installCopy_bank, and_self]
  · exact ⟨rfl, rfl⟩

end

/-- Settles O24. -/
theorem imageRules : Obligations.ImageRules := by
  refine ⟨fun c s o => ⟨fun h hbank hother hidle hfit hlen hv hz hpass => ?_, execImageWriteProgram_active, execImageStage_commits,
    execActivate_commits, execConfirm_replies⟩, fun s => ⟨fun job ok h => ?_, fun bank block ev h => ?_,
    fun h => ⟨execStagingDone_good s h, execStagingDone_error s h⟩, execActivationRehashDone_leads s,
    fun h hc hq => execActivationQuiescePoint_leads s h (s.quiesced_of hc hq), execActivationQuiescePoint_waits s,
    fun h => ⟨?_, execActivationCopyDone_loads s h⟩, execActivationResume_leads s, execActivationReloadDone_leads s⟩⟩
  · have hw : s.imageWriteOk o := ⟨hbank, hother, hidle, hfit, hlen, hv, hz⟩
    refine ⟨fun hop hlow hhigh => ?_, fun hop hzero hal hlow => ?_, fun hop hlow hhigh => ?_⟩
    · exact ⟨_, rfl, State.imageWrite_commits h hw (by decide) hop (by simp [Order.imageData, hlow, hhigh]) hpass⟩
    · exact ⟨_, rfl, State.imageWrite_commits h hw (by decide) hop (by simp [hzero, hal, hlow]) hpass⟩
    · exact ⟨_, rfl, State.imageWrite_commits h hw (by decide) hop (by simp [Order.imageData, hlow, hhigh]) hpass⟩
  · refine (execImageFlashWorkDone_boot s ok h).mono fun t ht => ?_
    rw [ht]
    exact ⟨rfl, rfl, fun hok => if_neg (by simp [hok])⟩
  · refine (execImageFlashWorkDone_boot s true h).mono fun t ht => ?_
    rw [ht, State.flashWork_erase]
    rfl
  · refine ⟨_, rfl, ?_⟩
    rw [if_pos h, if_neg (by simp)]
    exact ⟨rfl, rfl, rfl, rfl, rfl⟩

end Sys2Proof.Machine
end

section
/-! Lane orders (O25): the report, the measurement and its end, the tests, and an eye scan that begins (R163, R166 to R175). -/

namespace Sys2Proof.Machine

section
variable {s : State} {c : Core} {o : Order}

theorem execLaneReport_replies (h : s.carries c 0x0090 o) (hn : o.arg 0 1 < s.stationCount) (hz : o.zero 1 7 = true) :
    Leads (.laneReport c) s (fun t => Replies s t c (s.laneReport (o.arg 0 1))) := by
  refine ⟨_, rfl, ?_⟩
  rw [State.libRun_carries h, State.libArgs_ok c (by simp [hn, hz])]
  rfl

/-- CHAN_MEASURE that keeps the velocity replies at once for no lane, and else waits for the lanes it asks for (R166). -/
theorem execChanMeasure_kept (h : s.carries c 0x0091 o) (hn : o.arg 0 1 < s.stationCount) (hz : o.zero 4 4 = true)
    (hdown : ∀ p ∈ s.maskedPorts (o.arg 0 1) (o.arg 1 1), s.portUp p = false) (hv : o.arg 2 2 = 0) :
    exec (.chanMeasure c) s = .next (if o.arg 1 1 = 0 then s.libReply c ((s.laneReport (o.arg 0 1)).take 144)
      else (s.modStation (o.arg 0 1) (fun x => { x with measuring := x.measuring ||| o.arg 1 1 })).awaitOutside c) := by
  refine congrArg Host.Outcome.next ?_
  have hall : (s.maskedPorts (o.arg 0 1) (o.arg 1 1)).all (fun p => !s.portUp p) = true := by
    simpa using hdown
  rw [State.libRun_carries h, State.libArgs_ok c (by simp only [hn, hz, hv, hall]; rfl), hv]
  rfl

/-- A measurement that ends leaves the Lever cluster alone. -/
theorem State.recordMeasurement_lev (n : Nat) (ls : List LaneReflection) : (s.recordMeasurement n ls).lev = s.lev := by
  have hbands : ∀ (u : State) (p : Nat), (u.chooseBands p).lev = u.lev := fun u p =>
    foldl_keeps (f := fun u l => u.modLane l Lane.rebanded) (p := State.lev) (fun _ _ => rfl) (u.lanesOf p) u
  have hports : ∀ (u : State) (p : Nat), (if u.get .portLink p == 1 then u.chooseBands p else u).lev = u.lev := fun u p => by
    rw [apply_ite State.lev, hbands, ite_self]
  refine (foldl_keeps (p := State.lev) hports _ _).trans ?_
  exact foldl_keeps (f := fun u i => u.modLane (8 * n + i) _) (p := State.lev) (fun _ _ => rfl) _ s

theorem State.outsideFor_none {c : Core} {id : Nat} (h : ∀ u, (s.core c).mode ≠ .external u) : s.outsideFor c id = none := by
  unfold State.outsideFor
  split
  next t o hmode hjob => exact absurd hmode (h t)
  next => rfl

theorem execChannelMeasurementDone_unasked (st : Station) (ls : List LaneReflection) (hst : st.val < s.stationCount)
    (hcores : ∀ d, d < 16 → ∀ u, (s.core d).mode ≠ .external u) :
    Leads (.channelMeasurementDone st ls) s (fun t => t = s.recordMeasurement st.val ls) := by
  refine ⟨_, rfl, ?_⟩
  rw [if_pos hst]
  refine List.foldl_fixed' (fun d => ?_) _
  have hnone : (s.recordMeasurement st.val ls).outsideFor (Fin.ofNat 16 d) 0x0091 = none := by
    refine State.outsideFor_none fun u => ?_
    rw [State.core_of_lev (State.recordMeasurement_lev ..)]
    exact hcores _ (Fin.ofNat 16 d).isLt u
  rw [hnone]

/-- LANE_TEST of an OP does its work on the lanes of its mask (R167). -/
theorem State.laneTest_carries {op : Nat} {ok : State → Order → Nat → Nat → Bool} {body : State → Order → List Nat → State}
    (h : s.carries c 0x0092 o) (hle : op ≤ 3) (htest : o.arg 0 1 < s.stationCount ∧ o.arg 3 1 ≤ 7 ∧ o.arg 4 1 ≤ 6 ∧ o.arg 5 1 ≤ 2 ∧ o.arg 7 1 ≤ 3)
    (hop : o.arg 2 1 = op) (hok : ok s o (o.arg 0 1) (o.arg 1 1) = true) :
    s.laneTest c op ok body = body s o (maskLanes (o.arg 0 1) (o.arg 1 1)) := by
  obtain ⟨hn, h3, h4, h5, h7⟩ := htest
  rw [State.laneTest, State.libRun_carries h, hop, State.libOp_self (c := c) (by simpa using hle)]
  refine State.libArgs_ok c ?_ _
  simp only [hn, h3, h4, h5, h7, hok]
  rfl

theorem execEyeScan_commits (h : s.carries c 0x0093 o) (hn : o.arg 0 1 < s.stationCount) (hl : o.arg 1 1 < 8) (he : o.arg 2 1 ≤ 2)
    (hd : 20 ≤ o.arg 3 1) (hd' : o.arg 3 1 ≤ 40) (ha : o.arg 4 8 % 64 = 0) (hz : o.zero 14 2 = true) (hev : s.ownsEvent 0 (o.arg 12 2) = true)
    (hcov : s.t0Covers (o.arg 4 8) (o.arg 4 8 + 2111) = true) (hlock : s.cdrLocked (8 * o.arg 0 1 + o.arg 1 1) = true)
    (hscan : (s.lane (8 * o.arg 0 1 + o.arg 1 1)).scan = none) (hpass : s.passes [actionOn clsStation (o.arg 0 1)]) :
    Leads (.eyeScan c) s (fun t => Commits s t c [actionOn clsStation (o.arg 0 1)] (fun u => u.modLane (8 * o.arg 0 1 + o.arg 1 1) (fun l =>
      { l with scan := some { eye := o.arg 2 1, dwell := o.arg 3 1, addr := o.arg 4 8, event := o.arg 12 2, start := u.ftb, suspends := 0,
                              rate := u.laneRate (8 * o.arg 0 1 + o.arg 1 1) } })) noReply) := by
  refine ⟨_, rfl, ?_⟩
  rw [State.libRun_carries h]
  dsimp only
  rw [State.libArgs_ok c (by simp only [hn, hl, he, hd, hd', ha, hz, hev, hcov, hlock]; rfl), hscan]
  exact State.libCommit_passes h hpass _ _

end

/-- Settles O25. -/
theorem laneOrders : Obligations.LaneOrders := by
  intro c s o
  refine ⟨execLaneReport_replies, fun h hn hz hdown hv => ⟨fun hm => ?_, fun hm => ?_⟩, execChannelMeasurementDone_unasked,
    fun h htest hop => ?_, fun h htest hop hports hrate hmix => ?_, fun h htest hop => ?_, fun h htest hop hf hk => ?_, execEyeScan_commits⟩
  · refine ⟨_, execChanMeasure_kept h hn hz hdown hv, ?_⟩
    rw [if_pos hm]
    rfl
  · refine ⟨_, execChanMeasure_kept h hn hz hdown hv, ?_⟩
    rw [if_neg hm]
    refine ⟨?_, ?_, rfl⟩ <;> simp [State.awaitOutside]
  · refine ⟨_, rfl, ?_⟩
    rw [State.laneTest_carries h (by decide) htest hop rfl]
    rfl
  · refine ⟨_, rfl, ?_⟩
    have hall : (s.maskedPorts (o.arg 0 1) (o.arg 1 1)).all (fun p => s.get .portEnable p == 0) = true := by
      simpa using hports
    have hrate' : ((o.arg 3 1 != 5 && o.arg 3 1 != 6) || decide (5 ≤ o.arg 4 1)) = true := by
      simp only [Bool.or_eq_true, Bool.and_eq_true, bne_iff_ne, decide_eq_true_eq]
      omega
    rw [State.laneTest_carries h (by decide) htest hop (by simp only [hall, hrate', hmix]; rfl)]
    rfl
  · refine ⟨_, rfl, ?_⟩
    rw [State.laneTest_carries h (by decide) htest hop rfl]
    rfl
  · refine ⟨_, rfl, ?_⟩
    have hok : (o.arg 5 1 != 2 || (decide (10 ≤ o.arg 6 1) && decide (o.arg 6 1 ≤ 40))) = true := by
      simp only [Bool.or_eq_true, Bool.and_eq_true, bne_iff_ne, decide_eq_true_eq]
      omega
    rw [State.laneTest_carries h (by decide) htest hop (by simpa [hf] using hok), if_neg (by simp [hf])]
    rfl

end Sys2Proof.Machine
end

section
/-! IDE_SET and the token orders (O26): R557, R558, R560. -/

namespace Sys2Proof.Machine

section
variable {s : State} {c : Core} {o : Order}

/-- IDE_SET of an OP, on a link-up port in the downstream-port role, commits its action (R557). -/
theorem State.ideSet_commits {op : Nat} {act : Nat → Nat → Nat → State → State} (h : s.carries c 0x009F o) (hle : op ≤ 2)
    (hp : s.portOk (o.arg 0 1) = true) (hup : s.portUp (o.arg 0 1) = true) (hrole : (s.port (o.arg 0 1)).role = .downstream)
    (hproto : s.get .portProto (o.arg 0 1) ≠ 2) (hz : o.zero 3 1 = true) (hz' : o.zero 6 2 = true) (hev : s.ownsEvent 0 (o.arg 4 2) = true)
    (hpass : s.passes [actionOn clsPort (o.arg 0 1)]) (hop : o.arg 1 1 = op) :
    Commits s (s.ideSet c op act) c [actionOn clsPort (o.arg 0 1)] (act (o.arg 0 1) (o.arg 2 1) (o.arg 4 2)) noReply := by
  rw [State.ideSet, State.libRun_carries h, hop, State.libOp_self (c := c) (by simpa using hle)]
  refine State.libArgs_commits h ?_ hpass
  simp [hp, hup, hrole, hproto, hz, hz', hev]

/-! ### Tokens (R560) -/

/-- The nonce and the token that stand. -/
def State.tokens (s : State) : Option (List Byte) × Option (List Byte) := (s.ledger.nonce, s.ledger.token)

theorem State.tokens_of_still {s t : State} (h : t.still = s.still) : t.tokens = s.tokens :=
  (congrArg State.tokens h :)

theorem State.deliver_tokens (s : State) (o : Order) (status ticks queued : Nat) (data : List Byte) :
    (s.deliver o status ticks queued data).tokens = s.tokens := by
  unfold State.deliver
  dsimp only
  split
  case h_1 =>
    unfold State.mailboxAnswer
    dsimp only
    split
    · refine (State.tokens_of_still (State.emit_still _ _)).trans ?_
      rfl
    · rfl
  case h_2 => rfl
  case h_3 => exact State.tokens_of_still (State.emit_still _ _)
  case h_4 => exact State.tokens_of_still (State.emit_still _ _)
  case h_5 => rfl
  case h_6 =>
    unfold State.windowAnswer
    dsimp only
    split
    · refine (State.tokens_of_still (State.raiseVector_still _ _ _)).trans ?_
      rfl
    · rfl
  case h_7 => split <;> rfl

/-- The end of an order leaves the nonce and the token. -/
theorem State.endOrder_tokens (s : State) (c status : Nat) (data : List Byte) : (s.endOrder c status data).tokens = s.tokens := by
  unfold State.endOrder
  dsimp only
  split
  next => rfl
  next o hjob =>
    refine (State.tokens_of_still (State.count_still ..)).trans ((State.tokens_of_still (State.count_still ..)).trans ?_)
    refine (State.deliver_tokens ..).trans ?_
    unfold State.unfreeze
    split
    · split <;> rfl
    · rfl

theorem State.endOrder_otp (s : State) (c status : Nat) (data : List Byte) : (s.endOrder c status data).otp = s.otp :=
  (congrArg Fixed.otp (State.endOrder_fixed ..) :)

theorem State.randomBytes_drawn (s : State) (n : Nat) (l : List Byte) :
    (s.randomBytes n l).2.length = l.length + n ∧ (s.randomBytes n l).1.otp = s.otp := by
  induction n generalizing s l with
  | zero => exact ⟨rfl, rfl⟩
  | succ n ih =>
    obtain ⟨hlen, hotp⟩ := ih s.drawn (l ++ [BitVec.ofNat 8 s.free])
    refine ⟨hlen.trans ?_, hotp⟩
    simp only [List.length_append, List.length_singleton]
    omega

theorem execTokenNonce_leads (h : s.carries c 0x00A0 o) :
    Leads (.tokenNonce c) s (fun t => ∃ nonce : List Byte, nonce.length = 32 ∧ t.ledger.nonce = some nonce ∧ t.ledger.token = none ∧
      t.otp = s.otp) := by
  obtain ⟨hlen, hotp⟩ := State.randomBytes_drawn s 32 []
  refine ⟨_, rfl, ?_⟩
  rw [State.libRun_carries h]
  generalize s.randomBytes 32 [] = drawn at hlen hotp
  obtain ⟨s1, nonce⟩ := drawn
  have htok := State.endOrder_tokens (s1.modLedger (fun l => { l with nonce := some nonce, token := none })) c Status.ok.word
    (s1.otp.serialBytes ++ nonce)
  have hkept := State.endOrder_otp (s1.modLedger (fun l => { l with nonce := some nonce, token := none })) c Status.ok.word
    (s1.otp.serialBytes ++ nonce)
  exact ⟨nonce, by simpa using hlen, congrArg Prod.fst htok, congrArg Prod.snd htok, hkept.trans hotp⟩

theorem execTokenWrite_leads (h : s.carries c 0x00A1 o) :
    Leads (.tokenWrite c) s (fun t =>
      if s.tokenFault o.args = none then Replies (s.modLedger (fun l => { l with token := some o.args })) t c []
      else t = s.endOrder c Status.badArg.word []) := by
  refine ⟨_, rfl, ?_⟩
  rw [State.libRun_carries h]
  split
  next hnone =>
    rw [State.libArgs_ok c (by simp [hnone])]
    rfl
  next hsome =>
    rw [State.libArgs_bad c (Bool.eq_false_iff.2 fun hn => hsome (Option.isNone_iff_eq_none.1 hn)) (State.carries_fresh h)]
    rfl

end

/-- Settles O26. -/
theorem securityOrders : Obligations.SecurityOrders := by
  intro c s o
  refine ⟨fun h hp hup hrole hproto hz hz' hev hpass => ⟨fun hop => ?_, fun hop => ?_, fun hop => ?_⟩, execTokenNonce_leads, execTokenWrite_leads⟩
  all_goals exact ⟨_, rfl, State.ideSet_commits h (by decide) hp hup hrole hproto hz hz' hev hpass hop⟩

end Sys2Proof.Machine
end

section
/-! Power orders (O27): what each writes and in how many commits, the replies of SLOT_POWER and ERRLOG_READ, and resets (R495 to R498,
R505, R506, R586, R605, R611). -/

namespace Sys2Proof.Machine

/-! ### A commit after the first -/

/-- The commit unit serves a core at once: it is the core's turn, the spacing of holds has passed, and no object the core has recorded
has changed (R62, R63, R68). -/
def State.serves (s : State) (c : Nat) : Prop :=
  s.turnOf c = true ∧ s.holdFree = true ∧ ∀ e ∈ (s.core c).lib.waits.getD [], Tab.get 0 s.gen e.1 = e.2

theorem State.carries_serves {s : State} {c : Core} {id : Nat} {o : Order} (h : s.carries c id o) : s.serves c := by
  obtain ⟨-, -, -, -, -, hlib, hturn, hfree⟩ := h
  exact ⟨hturn, hfree, by simp [hlib]⟩

/-- A commit that the unit serves and that passes takes effect. -/
theorem State.commitNow_serves {s : State} {c : Core} (h : s.serves c) {es : List Entry} (hes : es ≠ []) (hp : s.passes es)
    (act : State → State) : s.commitNow c es act = .passed (s.committed c es act) := by
  obtain ⟨hturn, hfree, hgens⟩ := h
  have hes' : es.isEmpty = false := by simpa using hes
  have hsame : ((s.core c).lib.waits.getD []).any (fun e => Tab.get 0 s.gen e.1 != e.2) = false :=
    List.any_eq_false.2 fun e he => by simpa using hgens e he
  simp only [State.commitNow, State.committed, hes', hturn, hfree, hsame, hp.1, hp.2]
  rfl

/-- The last commit of an order's run of commits. -/
theorem State.commitEach_last {s : State} {c : Core} (h : s.serves c) {es : List Entry} (hes : es ≠ []) (hp : s.passes es) :
    s.commitEach c [es] = .passed (s.committed c es noAction) := by
  simp only [State.commitEach, State.commitNow_serves h hes hp]

theorem State.commitEach_first {s : State} {c : Core} (h : s.serves c) {es : List Entry} (hes : es ≠ []) (hp : s.passes es)
    (rest : List (List Entry)) : s.commitEach c (es :: rest) = (s.committed c es noAction).commitEach c rest := by
  simp only [State.commitEach, State.commitNow_serves h hes hp]

/-- While the spacing of holds lasts, a commit waits with the generations of its objects (R62, R68). -/
theorem State.commitEach_held {s : State} {c : Core} (hfree : s.holdFree = false) (hlib : (s.core c).lib = { done := 1 }) {es : List Entry}
    (hes : es ≠ []) (rest : List (List Entry)) : s.commitEach c (es :: rest) = .later (s.waitTurn c (s.recorded es) 0) := by
  have hes' : es.isEmpty = false := by simpa using hes
  simp only [State.commitEach, State.commitNow, hes', hfree, hlib, Bool.and_false, Bool.not_false]
  rfl

section
variable {s : State} {c : Core} {o : Order}

/-! ### Slots (R495 to R498) -/

/-- What a slot order does with its commits' end. -/
def State.endsSlots (c : Core) (ns : List Nat) : Attempt → State
  | .passed s' => s'.endOrder c Status.ok.word (s'.slotReply ns)
  | .later s' => s'
  | .refused w s' => s'.endOrder c w []

/-- ENABLE of the slots of a mask. -/
def enableSlots (ns : List Nat) (v : Nat) : List Entry := ns.map (fun n => putEntry .slotEnable n 0 v)

theorem enableSlots_ne_nil {ns : List Nat} (h : ns ≠ []) (v : Nat) : enableSlots ns v ≠ [] := by
  simpa [enableSlots] using h

theorem State.slotPower_goesOn {op : Nat} {values : List Nat} {l : LibraryRun} (h : s.goesOn c 0x0040 o l) (hle : op ≤ 2) (hop : o.arg 8 1 = op)
    (hns : maskSlots (o.arg 0 8) ≠ []) (hz : o.zero 9 7 = true) :
    s.slotPower c op values = State.endsSlots c (maskSlots (o.arg 0 8))
      (s.commitEach c ((values.map (enableSlots (maskSlots (o.arg 0 8)))).drop l.done)) := by
  obtain ⟨hmode, hjob, hlibrary, hid, hspent, hlib, -, -⟩ := h
  have hempty : (maskSlots (o.arg 0 8)).isEmpty = false := by simpa using hns
  have hrun : ∀ body : State → Order → State, s.libRun c 0x0040 body = body s o := fun body => by
    simp [State.libRun, hmode, hjob, hlibrary, hid, hspent]
  rw [State.slotPower, hrun, hop, State.libOp_self (c := c) (by simpa using hle)]
  dsimp only
  rw [State.libArgs_ok c (by rw [hempty, hz]; rfl), State.commitAll, hlib]
  unfold State.endsSlots
  rfl

theorem State.slotPower_once {op v : Nat} (h : s.carries c 0x0040 o) (hle : op ≤ 2) (hop : o.arg 8 1 = op)
    (hns : maskSlots (o.arg 0 8) ≠ []) (hz : o.zero 9 7 = true) (hp : s.passes (enableSlots (maskSlots (o.arg 0 8)) v)) :
    Commits s (s.slotPower c op [v]) c (enableSlots (maskSlots (o.arg 0 8)) v) noAction (fun u => u.slotReply (maskSlots (o.arg 0 8))) := by
  rw [State.slotPower_goesOn h hle hop hns hz]
  exact congrArg _ (State.commitEach_last (State.carries_serves h) (enableSlots_ne_nil hns v) hp)

theorem execSlotPowerCycle_first (h : s.carries c 0x0040 o) (hop : o.arg 8 1 = 2) (hns : maskSlots (o.arg 0 8) ≠ []) (hz : o.zero 9 7 = true)
    (hp : s.passes (enableSlots (maskSlots (o.arg 0 8)) 0)) :
    exec (.slotPowerCycle c) s = .next (State.endsSlots c (maskSlots (o.arg 0 8))
      ((s.committed c (enableSlots (maskSlots (o.arg 0 8)) 0) noAction).commitEach c [enableSlots (maskSlots (o.arg 0 8)) 1])) := by
  refine congrArg Host.Outcome.next ((State.slotPower_goesOn h (by decide) hop hns hz).trans (congrArg _ ?_))
  exact State.commitEach_first (State.carries_serves h) (enableSlots_ne_nil hns 0) hp _

theorem execSlotPowerCycle_second {gens : List (Nat × Nat)} {tries : Nat}
    (h : s.goesOn c 0x0040 o { done := 1, waits := some gens, tries := tries }) (hop : o.arg 8 1 = 2) (hns : maskSlots (o.arg 0 8) ≠ [])
    (hz : o.zero 9 7 = true) (hgens : ∀ e ∈ gens, Tab.get 0 s.gen e.1 = e.2) (hp : s.passes (enableSlots (maskSlots (o.arg 0 8)) 1)) :
    Leads (.slotPowerCycle c) s (fun t => Commits s t c (enableSlots (maskSlots (o.arg 0 8)) 1) noAction
      (fun u => u.slotReply (maskSlots (o.arg 0 8)))) := by
  refine ⟨_, rfl, ?_⟩
  rw [State.slotPower_goesOn h (by decide) hop hns hz]
  obtain ⟨-, -, -, -, -, hlib, hturn, hfree⟩ := h
  exact congrArg _ (State.commitEach_last ⟨hturn, hfree, by simpa [hlib] using hgens⟩ (enableSlots_ne_nil hns 1) hp)

theorem execSlotLimits_commits (h : s.carries c 0x0041 o) (hn : o.arg 0 1 < 64) (hm : o.arg 1 1 ≠ 0) (hz : o.zero 14 2 = true)
    {fields : List (Nat × Fld × Nat)} (hf : fields = [(0, Fld.slotIlim, o.arg 2 2), (1, .slotPlim, o.arg 4 1), (2, .slotBlank, o.arg 5 1),
      (3, .slotRetries, o.arg 6 1), (4, .slotTempTrip, o.arg 7 1), (5, .slotRetryDly, o.arg 8 2), (6, .slotAbsence, o.arg 10 2),
      (7, .slotShortT, o.arg 12 2)])
    (hok : maskedOk (o.arg 1 1) (o.arg 0 1) fields = true) (hp : s.passes (maskedEntries (o.arg 1 1) (o.arg 0 1) fields)) :
    Leads (.slotLimits c) s (fun t => Commits s t c (maskedEntries (o.arg 1 1) (o.arg 0 1) fields) noAction noReply) := by
  subst hf
  refine ⟨_, rfl, State.commits_libRun h rfl ?_ hp⟩
  simp [hn, hm, hz, hok]

theorem execSlotTiming_commits (h : s.carries c 0x009E o) (hn : o.arg 0 1 < 64) (hm : o.arg 1 1 ≠ 0) (hm' : o.arg 1 1 < 64)
    (hz : o.zero 14 2 = true) (hv : s.vectorOk (o.arg 12 2) = true)
    {fields : List (Nat × Fld × Nat)} (hf : fields = [(0, Fld.slotPcTime, o.arg 2 2), (1, .slotRampT, o.arg 4 2),
      (2, .slotPfwLead, o.arg 6 2), (3, .slotPerstDly, o.arg 8 2), (4, .slotRpc, o.arg 10 2), (5, .slotEv, o.arg 12 2)])
    (hok : maskedOk (o.arg 1 1) (o.arg 0 1) fields = true) (hp : s.passes (maskedEntries (o.arg 1 1) (o.arg 0 1) fields)) :
    Leads (.slotTiming c) s (fun t => Commits s t c (maskedEntries (o.arg 1 1) (o.arg 0 1) fields) noAction noReply) := by
  subst hf
  refine ⟨_, rfl, State.commits_libRun h rfl ?_ hp⟩
  simp [hn, hm, hm', hz, hok, hv]

theorem execSlotMap_commits (h : s.carries c 0x0042 o) (hn : o.arg 0 1 < 64) (hz : o.zero 2 6 = true)
    (hport : o.arg 1 1 = 0x7F ∨ (o.arg 1 1 < 128 ∧ s.portOk (o.arg 1 1) = true)) (hp : s.passes [putEntry .slotPort (o.arg 0 1) 0 (o.arg 1 1)]) :
    Leads (.slotMap c) s (fun t => Commits s t c [putEntry .slotPort (o.arg 0 1) 0 (o.arg 1 1)] noAction noReply) := by
  refine ⟨_, rfl, State.commits_libRun h rfl ?_ hp⟩
  simp only [hn, hz, decide_true, Bool.true_and, Bool.or_eq_true, beq_iff_eq, Bool.and_eq_true, decide_eq_true_eq]
  exact hport

/-! ### Domains, power states and sensors (R505, R506, R586) -/

theorem execDomainSet_commits (h : s.carries c 0x0050 o) (hn : 1 ≤ o.arg 0 2) (hn' : o.arg 0 2 ≤ 75) (hz : o.zero 2 6 = true)
    (hitems : ∀ i, i < o.arg 0 2 → o.arg (8 + 2 * i) 1 < 75 ∧ o.arg (8 + 2 * i) 1 < 11 + s.stationCount ∧
      Fld.domainReq.accepts (o.arg (8 + 2 * i) 1) (o.arg (9 + 2 * i) 1) = true) {es : List Entry}
    (hes : es = (List.range (o.arg 0 2)).map (fun i => putEntry .domainReq (o.arg (8 + 2 * i) 1) 0 (o.arg (9 + 2 * i) 1)))
    (hp : s.passes es) : Leads (.domainSet c) s (fun t => Commits s t c es noAction noReply) := by
  subst hes
  refine ⟨_, rfl, ?_⟩
  rw [State.libRun_carries h]
  simp only [List.map_map]
  refine State.libArgs_commits h ?_ hp
  simp only [hn, hn', hz, decide_true, Bool.true_and, List.all_eq_true, List.mem_map, List.mem_range]
  rintro e ⟨i, hi, rfl⟩
  obtain ⟨hlow, hstation, hacc⟩ := hitems i hi
  simp only [hlow, hacc, decide_true, Bool.true_and, Bool.and_true, Bool.not_eq_true', Bool.and_eq_false_iff, decide_eq_false_iff_not]
  omega

theorem execPstateSet_commits (h : s.carries c 0x0051 o) (hm : o.arg 1 1 ≠ 0) (hz : o.zero 6 2 = true) (hz' : o.zero 12 4 = true)
    (hawake : o.channel = 3 → bitOf (o.arg 1 1) 0 = true → o.arg 0 1 < 2) {fields : List (Nat × Fld × Nat)}
    (hf : fields = [(0, Fld.devicePstate, o.arg 0 1), (1, .deviceWatchPer, o.arg 2 2), (2, .deviceVcore, o.arg 4 2),
      (3, .deviceWakeEn, o.arg 8 2), (4, .deviceTempHi, o.arg 10 1), (5, .deviceAvs, o.arg 11 1), (6, .deviceWakeAt, o.arg 16 8),
      (7, .deviceWakePortsLo, o.arg 24 16 % 2 ^ 64), (7, .deviceWakePortsHi, o.arg 24 16 / 2 ^ 64)])
    (hok : maskedOk (o.arg 1 1) 0 fields = true) (hp : s.passes (maskedEntries (o.arg 1 1) 0 fields)) :
    Leads (.pstateSet c) s (fun t => Commits s t c (maskedEntries (o.arg 1 1) 0 fields) noAction noReply) := by
  subst hf
  have hasleep : (o.channel == 3 && bitOf (o.arg 1 1) 0 && decide (2 ≤ o.arg 0 1)) = false := by
    simp only [Bool.and_eq_false_iff, beq_eq_false_iff_ne, decide_eq_false_iff_not]
    by_cases h3 : o.channel = 3
    · cases hb : bitOf (o.arg 1 1) 0
      · exact .inl (.inr rfl)
      · exact .inr (Nat.not_le.2 (hawake h3 hb))
    · exact .inl (.inl h3)
  refine ⟨_, rfl, State.commits_libRun h rfl ?_ hp⟩
  simp only [hok, hasleep, hz, hz', bne_iff_ne.2 hm, Bool.not_false, Bool.and_self]

theorem execSensorSet_commits (h : s.carries c 0x00A3 o) (hm : o.arg 0 2 < 2 ^ 13) (hf : o.arg 3 1 ≤ 3) (hz : o.zero 6 2 = true)
    (hal : Fld.thermAlarm.accepts 0 (o.arg 2 1) = true) (hv : s.vectorOk (o.arg 4 2) = true) {es : List Entry}
    (hes : es = ((List.range 13).filter (bitOf (o.arg 0 2))).flatMap (fun n =>
      (if bitOf (o.arg 3 1) 0 then [putEntry .thermAlarm n 0 (o.arg 2 1), putEntry .thermEv n 0 (o.arg 4 2)] else []) ++
      (if bitOf (o.arg 3 1) 1 then [putEntry .thermPeak n 0 0] else [])))
    (hp : s.passes es) : Leads (.sensorSet c) s (fun t => Commits s t c es noAction noReply) := by
  subst hes
  refine ⟨_, rfl, State.commits_libRun h rfl ?_ hp⟩
  simp only [hm, hf, hz, hal, hv, decide_true, Bool.and_self, Bool.or_true]

/-! ### Resets (R611) -/

theorem State.resetBy_acts {type : Nat} {act : Nat → State → State} (h : s.carries c 0x00A4 o) (hlow : 1 ≤ type) (hhigh : type ≤ 3)
    (htype : o.arg 0 1 = type) (hpriv : type = 1 ∨ o.priv ≠ privBMC) (hz : o.zero 2 6 = true)
    (hn : if type = 2 then o.arg 1 1 < s.stationCount else o.arg 1 1 = 0) (hp : s.passes [actionOn clsDevice 0]) :
    s.resetBy c type act = act (o.arg 1 1) (((s.committed c [actionOn clsDevice 0] noAction).endOrder c Status.ok.word []).haltEnds) := by
  have hbmc : (type != 1 && o.priv == privBMC) = false := by
    simp only [Bool.and_eq_false_iff, bne_eq_false_iff_eq, beq_eq_false_iff_ne]
    exact hpriv
  have hindex : (if type = 2 then decide (o.arg 1 1 < s.stationCount) else o.arg 1 1 == 0) = true := by
    by_cases h2 : type = 2
    · rw [if_pos h2] at hn ⊢
      exact decide_eq_true hn
    · rw [if_neg h2] at hn ⊢
      exact beq_iff_eq.2 hn
  rw [State.resetBy, State.libRun_carries h, htype, State.libOp_self (c := c) (by simp [hlow, hhigh])]
  simp only [hbmc, Bool.false_eq_true, if_false]
  rw [State.libArgs_ok c (by rw [hz, hindex]; rfl), State.commitNow_serves (State.carries_serves h) (by simp) hp]

/-! ### The error log (R605) -/

/-- Of records in the order of their sequence numbers, those up to the last of the first few are the first few. -/
theorem filter_upTo_getLast {l : List ErrorRecord} (hl : l.Pairwise (·.seq < ·.seq)) {n : Nat} {last : ErrorRecord}
    (hlast : (l.take n).getLast? = some last) : l.filter (fun r => decide (r.seq ≤ last.seq)) = l.take n := by
  obtain ⟨init, hinit⟩ := List.getLast?_eq_some_iff.1 hlast
  have hsplit : l = (init ++ [last]) ++ l.drop n := by rw [← hinit, List.take_append_drop]
  rw [hsplit, List.pairwise_append] at hl
  obtain ⟨hhead, -, hcross⟩ := hl
  have hbefore : ∀ r ∈ init ++ [last], decide (r.seq ≤ last.seq) = true := fun r hr => by
    obtain hr | hr := List.mem_append.1 hr
    · exact decide_eq_true (Nat.le_of_lt ((List.pairwise_append.1 hhead).2.2 r hr last (List.mem_singleton_self _)))
    · exact decide_eq_true (by rw [List.mem_singleton.1 hr])
  have hafter : ∀ r ∈ l.drop n, ¬ decide (r.seq ≤ last.seq) = true := fun r hr => by
    have hlt : last.seq < r.seq := hcross last (by simp) r hr
    simpa using hlt
  calc l.filter (fun r => decide (r.seq ≤ last.seq))
      = ((init ++ [last]) ++ l.drop n).filter (fun r => decide (r.seq ≤ last.seq)) := by rw [← hsplit]
    _ = init ++ [last] := by
      rw [List.filter_append, List.filter_eq_self.2 hbefore, List.filter_eq_nil_iff.2 hafter, List.append_nil]
    _ = l.take n := hinit.symm

/-- The records a read of the error log gives, and those it meets on the way (R605). -/
def State.errlogMet (s : State) (log : List ErrorRecord) (n : Nat) : List ErrorRecord :=
  match ((log.filter s.errorValid).take n).getLast? with
  | some last => if ((log.filter s.errorValid).take n).length = n then log.filter (fun r => decide (r.seq ≤ last.seq)) else log
  | none => log

theorem execErrlogRead_replies (h : s.carries c 0x00A5 o) (hn : 1 ≤ o.arg 4 2) (hn' : o.arg 4 2 ≤ 63) (hz : o.zero 6 2 = true)
    {log : List ErrorRecord} (hlog : log = s.ledger.errors.filter (fun r => o.arg 0 4 ≤ r.seq)) :
    Leads (.errlogRead c) s (fun t => Replies
      (if (s.errlogMet log (o.arg 4 2)).any (fun r => s.ledgerBad (errorSlot r.seq) 64) then s.ledgerError else s) t c
      (toLE 4 ((s.ledger.errors.map (·.seq)).headD (s.ledger.errorSeq + 1)) ++ toLE 4 (s.ledger.errorSeq + 1) ++
        toLE 4 ((s.errlogMet log (o.arg 4 2)).length - ((log.filter s.errorValid).take (o.arg 4 2)).length) ++ toLE 4 0 ++
        ((log.filter s.errorValid).take (o.arg 4 2)).flatMap ErrorRecord.bytes)) := by
  subst hlog
  have hhead : (s.ledger.errors.map (·.seq)).headD (s.ledger.errorSeq + 1) =
      match s.ledger.errors with | r :: _ => r.seq | [] => s.ledger.errorSeq + 1 := by
    cases s.ledger.errors <;> rfl
  refine ⟨_, rfl, ?_⟩
  rw [State.libRun_carries h, State.libArgs_ok c (by simp [hn, hn', hz]), hhead]
  rfl

theorem State.not_bad_of_errorValid {r : ErrorRecord} (h : s.errorValid r = true) : s.ledgerBad (errorSlot r.seq) 64 = false := by
  simp only [State.errorValid, Bool.and_eq_true, Bool.not_eq_true'] at h
  exact h.2

/-- Of a log in order whose records are all valid, a read meets what it gives, or all. -/
theorem State.errlogMet_valid {log : List ErrorRecord} {n : Nat} (hn : 1 ≤ n) (hsorted : log.Pairwise (·.seq < ·.seq))
    (hvalid : ∀ r ∈ log, s.errorValid r = true) : s.errlogMet log n = log.take n := by
  have hfilter : log.filter s.errorValid = log := List.filter_eq_self.2 hvalid
  unfold State.errlogMet
  rw [hfilter]
  split
  next last hlast =>
    split
    next hlen => exact filter_upTo_getLast hsorted hlast
    next hlen => exact (List.take_of_length_le (by rw [List.length_take] at hlen; omega)).symm
  next hnone =>
    rw [List.getLast?_eq_none_iff, List.take_eq_nil_iff] at hnone
    obtain rfl : log = [] := hnone.resolve_left (by omega)
    exact List.take_nil.symm

/-- Of a log with fewer valid records than are asked for, a read meets all. -/
theorem State.errlogMet_short {log : List ErrorRecord} {n : Nat} (h : (log.filter s.errorValid).length < n) : s.errlogMet log n = log := by
  unfold State.errlogMet
  split
  next last hlast => exact if_neg (by rw [List.length_take]; omega)
  next => rfl

end

/-- Settles O27. -/
theorem powerOrders : Obligations.PowerOrders := by
  intro c s o
  refine ⟨fun h hns hz => ⟨fun hop hp => ⟨_, rfl, State.slotPower_once h (by decide) hop hns hz hp⟩,
      fun hop hp => ⟨_, rfl, State.slotPower_once h (by decide) hop hns hz hp⟩, fun hop hp hlib => ⟨fun hturn hfree hp1 => ?_, fun hfree => ?_⟩⟩,
    fun gens tries h hop hns hz hgens hp => execSlotPowerCycle_second h hop hns hz hgens hp,
    fun h hn hm hz hok hp => execSlotLimits_commits h hn hm hz rfl hok hp,
    fun h hn hm hm' hz hv hok hp => execSlotTiming_commits h hn hm hm' hz hv rfl hok hp, execSlotMap_commits,
    fun h hn hn' hz hitems hp => execDomainSet_commits h hn hn' hz hitems rfl hp,
    fun h hm hz hz' hawake hok hp => execPstateSet_commits h hm hz hz' hawake rfl hok hp,
    fun h hm hf hz hal hv hp => execSensorSet_commits h hm hf hz hal hv rfl hp,
    fun h hz hp => ⟨fun htype hn => ?_, fun htype hpriv hn => ?_, fun htype hpriv hn => ?_⟩,
    fun h hn hn' hz => ⟨fun hsorted hvalid => ?_, fun hshort => ?_⟩⟩
  · refine ⟨_, execSlotPowerCycle_first h hop hns hz hp, ?_⟩
    exact congrArg _ (State.commitEach_last ⟨hturn, hfree, by simp [hlib]⟩ (enableSlots_ne_nil hns 1) hp1)
  · refine ⟨_, execSlotPowerCycle_first h hop hns hz hp, ?_⟩
    exact congrArg (State.endsSlots c _) (State.commitEach_held hfree hlib (enableSlots_ne_nil hns 1) [])
  · exact ⟨_, rfl, State.resetBy_acts h (by decide) (by decide) htype (.inl rfl) hz hn hp⟩
  · refine ⟨_, rfl, State.resetBy_acts h (by decide) (by decide) htype (.inr hpriv) hz hn hp⟩
  · exact ⟨_, rfl, State.resetBy_acts h (by decide) (by decide) htype (.inr hpriv) hz hn hp⟩
  · refine (execErrlogRead_replies h hn hn' hz rfl).mono fun t ht => ?_
    have hlog := (List.pairwise_map.1 hsorted).filter (fun r : ErrorRecord => decide (o.arg 0 4 ≤ r.seq))
    have hgood : ((s.ledger.errors.filter (fun r => o.arg 0 4 ≤ r.seq)).take (o.arg 4 2)).any
        (fun r => s.ledgerBad (errorSlot r.seq) 64) = false :=
      List.any_eq_false.2 fun r hr => by
        rw [State.not_bad_of_errorValid (hvalid r (List.mem_of_mem_take hr))]
        simp
    rw [State.errlogMet_valid hn hlog hvalid, List.filter_eq_self.2 hvalid, hgood, Nat.sub_self] at ht
    exact ht
  · refine (execErrlogRead_replies h hn hn' hz rfl).mono fun t ht => ?_
    rw [State.errlogMet_short hshort, List.take_of_length_le (Nat.le_of_lt hshort)] at ht
    exact ht

end Sys2Proof.Machine
end

section
/-! Orders of shapers, timetables, windows, queues and time (O28): R313, R435, R441, R450, R457. -/

namespace Sys2Proof.Machine

section
variable {s : State} {c : Core} {o : Order}

theorem execShaperSet_commits (h : s.carries c 0x0030 o) (hn : 1 ≤ o.arg 0 1) (hn' : o.arg 0 1 ≤ 32) (hz : o.zero 1 7 = true)
    (hitems : ∀ x ∈ shaperItems o (o.arg 0 1), s.shaperItemOk x = true)
    (hp : s.passes ((shaperItems o (o.arg 0 1)).flatMap ShaperItem.entries)) :
    Leads (.shaperSet c) s (fun t => Commits s t c ((shaperItems o (o.arg 0 1)).flatMap ShaperItem.entries)
      (fun u => (shaperItems o (o.arg 0 1)).foldl State.adaptBy u) noReply) := by
  refine ⟨_, rfl, State.commits_libRun h rfl ?_ hp⟩
  simp only [hn, hn', hz, List.all_eq_true.2 hitems]
  rfl

theorem execTimetableArm_disarms (h : s.carries c 0x0031 o) (hport : s.portOk (o.arg 0 1) = true) (hf : o.arg 1 1 ≤ 3)
    (hz : o.zero 4 4 = true) (hn : o.arg 2 2 = 1) (hat : o.arg 8 8 = noTakeover)
    (hp : s.passes [putEntry .timetableTakeover (o.arg 0 1) 0 noTakeover]) :
    Leads (.timetableArm c) s (fun t => Commits s t c [putEntry .timetableTakeover (o.arg 0 1) 0 noTakeover] noAction noReply) := by
  refine ⟨_, rfl, ?_⟩
  rw [State.libRun_carries h]
  dsimp only
  rw [if_pos hat]
  refine State.libArgs_commits h ?_ hp
  simp [hport, hf, hn, hz]

/-- The entries and the settings of a timetable of up to 126 entries. -/
def timetableEntries (o : Order) (p bank n at_ : Nat) : List Entry :=
  (List.range n).flatMap (fun i => [putEntry .ttentryGates p (bank * 256 + i) (o.arg (16 + 8 * i) 1),
      putEntry .ttentryDuration p (bank * 256 + i) (o.arg (20 + 8 * i) 4)]) ++
    [putEntry .timetableLength p 0 n, putEntry .timetableTakeover p 0 at_,
      putEntry .timetableNextcycle p 0 (o.arg 1 1 % 2), putEntry .timetableGuard p 0 (o.arg 1 1 / 2 % 2)]

theorem filter_lt_range {n m : Nat} (h : n ≤ m) : (List.range m).filter (fun i => decide (i < n)) = List.range n := by
  obtain ⟨k, rfl⟩ := Nat.exists_eq_add_of_le h
  have hhead : (List.range n).filter (fun i => decide (i < n)) = List.range n :=
    List.filter_eq_self.2 fun i hi => decide_eq_true (List.mem_range.1 hi)
  have htail : ((List.range k).map (n + ·)).filter (fun i => decide (i < n)) = [] :=
    List.filter_eq_nil_iff.2 fun i hi => by
      obtain ⟨j, -, rfl⟩ := List.mem_map.1 hi
      simp
  rw [List.range_add, List.filter_append, hhead, htail, List.append_nil]

/-- A timetable of up to 126 entries takes one commit (R441). -/
theorem timetableCommits_one {o : Order} {p bank n at_ : Nat} (hn : 1 ≤ n) (hn' : n ≤ 126) :
    timetableCommits o p bank n at_ = [timetableEntries o p bank n at_] := by
  have hgroups : (n + 125) / 126 = 1 := by omega
  have hlow : bitsOf (o.arg 1 1) 0 1 = o.arg 1 1 % 2 := by simp [bitsOf]
  have hhigh : bitsOf (o.arg 1 1) 1 1 = o.arg 1 1 / 2 % 2 := rfl
  simp only [timetableCommits, timetableEntries, hgroups, hlow, hhigh, List.range_one, List.map_cons, List.map_nil, Nat.mul_zero, Nat.zero_add,
    filter_lt_range hn', List.zipIdx_cons, List.zipIdx_nil, List.length_cons, List.length_nil]
  rfl

theorem execTimetableArm_arms (h : s.carries c 0x0031 o) (hport : s.portOk (o.arg 0 1) = true) (hf : o.arg 1 1 ≤ 3) (hz : o.zero 4 4 = true)
    (hn : 1 ≤ o.arg 2 2) (hn' : o.arg 2 2 ≤ 126) (hat : o.arg 8 8 ≠ noTakeover)
    (hitems : ∀ i, i < o.arg 2 2 → o.zero (17 + 8 * i) 3 = true ∧ Fld.ttentryDuration.accepts (o.arg 0 1) (o.arg (20 + 8 * i) 4) = true)
    (hp : s.passes (timetableEntries o (o.arg 0 1) (1 - s.get .timetableActive (o.arg 0 1)) (o.arg 2 2) (o.arg 8 8))) :
    Leads (.timetableArm c) s (fun t => Commits s t c
      (timetableEntries o (o.arg 0 1) (1 - s.get .timetableActive (o.arg 0 1)) (o.arg 2 2) (o.arg 8 8)) noAction noReply) := by
  have hall : (List.range (o.arg 2 2)).all (fun i => o.zero (17 + 8 * i) 3 &&
      Fld.ttentryDuration.accepts (o.arg 0 1) (o.arg (20 + 8 * i) 4)) = true := by
    simp only [List.all_eq_true, List.mem_range, Bool.and_eq_true]
    exact hitems
  have hlib : (s.core c).lib.done = 0 := by
    obtain ⟨-, -, -, -, -, hlib, -⟩ := h
    rw [hlib]
  refine ⟨_, rfl, ?_⟩
  rw [State.libRun_carries h]
  dsimp only
  rw [if_neg hat, State.libArgs_ok c (by simp only [hport, hf, hn, Nat.le_trans hn' (by decide : 126 ≤ 256), hz, hall]; rfl), State.commitAll, hlib,
    timetableCommits_one hn hn', List.drop_zero, State.commitEach_last (State.carries_serves h) (by simp [timetableEntries]) hp]
  rfl

theorem execWindowSet_commits (h : s.carries c 0x0032 o) (ho : o.arg 4 2 < 4096) (hz : o.zero 6 2 = true) (hz' : o.zero 33 3 = true)
    (hb : o.arg 8 8 % 4096 = 0) (hl : (o.arg 16 8 + 1) % 4096 = 0) (hbl : o.arg 8 8 < o.arg 16 8 + 1)
    (hperm : o.arg 4 2 ≠ 0 → bitOf (s.get .tenantShPerm (o.arg 4 2)) 8 = true) (hport : s.portOk (o.arg 32 1) = true)
    (hk1 : o.arg 1 1 = 1 → s.get .portProto (o.arg 32 1) = 2)
    (hk2 : o.arg 1 1 = 2 → o.arg 32 1 = 0 ∧ s.busRemoteOk (o.arg 4 2) (o.arg 24 8) (o.arg 16 8 + 1 - o.arg 8 8) = true)
    {fields : List (Fld × Nat)} (hf : fields = [(Fld.windowOwner, o.arg 4 2), (.windowKind, o.arg 1 1), (.windowBase, o.arg 8 8),
      (.windowLimit, o.arg 16 8), (.windowRemote, o.arg 24 8), (.windowPort, o.arg 32 1), (.windowLanes, o.arg 2 1),
      (.windowElem, o.arg 3 1), (.windowPoll, o.arg 36 4)])
    (hacc : ∀ e ∈ fields, e.1.accepts (o.arg 0 1) e.2 = true) (hp : s.passes (fields.map (fun e => putEntry e.1 (o.arg 0 1) 0 e.2))) :
    Leads (.windowSet c) s (fun t => Commits s t c (fields.map (fun e => putEntry e.1 (o.arg 0 1) 0 e.2)) noAction noReply) := by
  subst hf
  have hperm' : (o.arg 4 2 == 0 || bitOf (s.get .tenantShPerm (o.arg 4 2)) 8) = true := by
    rw [Bool.or_eq_true, beq_iff_eq]
    exact or_iff_not_imp_left.2 hperm
  have hk1' : (o.arg 1 1 != 1 || s.get .portProto (o.arg 32 1) == 2) = true := by
    rw [Bool.or_eq_true, bne_iff_ne, beq_iff_eq]
    exact not_or_of_imp hk1
  have hk2' : (o.arg 1 1 != 2 || (o.arg 32 1 == 0 && s.busRemoteOk (o.arg 4 2) (o.arg 24 8) (o.arg 16 8 + 1 - o.arg 8 8))) = true := by
    rw [Bool.or_eq_true, bne_iff_ne, Bool.and_eq_true, beq_iff_eq]
    exact not_or_of_imp hk2
  refine ⟨_, rfl, State.commits_libRun h rfl ?_ hp⟩
  simp only [ho, hz, hz', hb, hl, hbl, hport, List.all_eq_true.2 hacc, hperm', hk1', hk2']
  rfl

theorem execQueueRead_commits (h : s.carries c 0x009B o) (hport : s.portOk (o.arg 0 1) = true) (hf : o.arg 1 1 ≤ 1) (hz : o.zero 2 2 = true)
    (hper : o.arg 4 4 = 0 ∨ Fld.deviceQsamplePer.accepts 0 (o.arg 4 4) = true)
    (hbmc : o.priv = privBMC → o.arg 1 1 = 0 ∧ o.arg 4 4 = 0) {es : List Entry}
    (hes : es = (if o.arg 1 1 = 1 then (List.range 17).flatMap (fun i =>
        [putEntry .queuePeakDepth (o.arg 0 1) i 0, putEntry .queuePeakHold (o.arg 0 1) i 0]) else []) ++
      (if o.arg 4 4 ≠ 0 then [putEntry .deviceQsamplePer 0 0 (o.arg 4 4)] else [])) (hp : s.passes es) :
    Leads (.queueRead c) s (fun t => Commits s t c es noAction (fun _ => s.queueReply (o.arg 0 1))) := by
  have hdenied : (o.priv == privBMC && (o.arg 1 1 != 0 || o.arg 4 4 != 0)) = false := by
    by_cases hb : o.priv = privBMC
    · obtain ⟨h1, h4⟩ := hbmc hb
      simp [h1, h4]
    · simp [hb]
  have hes' : es = entriesIf (decide (o.arg 1 1 = 1)) ((List.range 17).flatMap (fun i =>
      [putEntry .queuePeakDepth (o.arg 0 1) i 0, putEntry .queuePeakHold (o.arg 0 1) i 0])) ++
        entriesIf (o.arg 4 4 != 0) [putEntry .deviceQsamplePer 0 0 (o.arg 4 4)] := by
    simp [hes, entriesIf]
  refine ⟨_, rfl, ?_⟩
  rw [State.libRun_carries h]
  simp only [hdenied, Bool.false_eq_true, if_false, ← hes']
  have hok : (s.portOk (o.arg 0 1) && decide (o.arg 1 1 ≤ 1) && o.zero 2 2 &&
      (o.arg 4 4 == 0 || Fld.deviceQsamplePer.accepts 0 (o.arg 4 4))) = true := by
    simp only [hport, hf, hz, decide_true, Bool.true_and, Bool.or_eq_true, beq_iff_eq]
    exact hper
  rw [State.libArgs_ok c hok]
  exact State.libCommit_passes h hp _ _

theorem execTimeSet_commits (h : s.carries c 0x009D o) (hsrc : Fld.deviceFtbSrc.accepts 0 (o.arg 0 1) = true)
    (hport : s.portOk (o.arg 1 1) = true) (hm : o.arg 2 1 ≤ 1) (hz : o.zero 3 1 = true) (hper : o.arg 4 4 = 0) (h1 : o.arg 0 1 ≠ 1)
    (h2 : o.arg 0 1 = 2 → s.get .portProto (o.arg 1 1) = 2) {es : List Entry}
    (hes : es = [putEntry .deviceFtbSrc 0 0 (o.arg 0 1), putEntry .deviceFtbPort 0 0 (o.arg 1 1), putEntry .deviceWsMark 0 0 (o.arg 2 1)])
    (hp : s.passes es) : Leads (.timeSet c) s (fun t => Commits s t c es noAction noReply) := by
  have h2' : (o.arg 0 1 != 2 || s.get .portProto (o.arg 1 1) == 2) = true := by
    rw [Bool.or_eq_true, bne_iff_ne, beq_iff_eq]
    exact not_or_of_imp h2
  subst hes
  refine ⟨_, rfl, ?_⟩
  rw [State.libRun_carries h]
  simp only [hper, entriesIf, bne_self_eq_false, Bool.false_eq_true, if_false, List.append_nil]
  refine State.libArgs_commits h ?_ hp
  simp only [hsrc, hport, hm, hz, bne_iff_ne.2 h1, h2']
  rfl

end

/-- Settles O28. -/
theorem qosOrders : Obligations.QosOrders := by
  intro c s o
  exact ⟨execShaperSet_commits, fun h hport hf hz => ⟨execTimetableArm_disarms h hport hf hz,
      fun hn hn' hat hitems hp => execTimetableArm_arms h hport hf hz hn hn' hat hitems hp⟩,
    fun h ho hz hz' hb hl hbl hperm hport hk1 hk2 hacc hp => execWindowSet_commits h ho hz hz' hb hl hbl hperm hport hk1 hk2 rfl hacc hp,
    fun h hport hf hz hper hbmc hp => execQueueRead_commits h hport hf hz hper hbmc rfl hp,
    fun h hsrc hport hm hz hper h1 h2 hp => execTimeSet_commits h hsrc hport hm hz hper h1 h2 rfl hp⟩

end Sys2Proof.Machine
end

section
/-! READ and INFO (O29): R103, R108. -/

namespace Sys2Proof.Machine

section
variable {s : State} {c : Core} {o : Order}

/-- Reading an object finds no error where no object holds one (R589). -/
theorem State.touchObject_good (h : s.errors.badObjects = []) (cls idx sub : Nat) : s.touchObject cls idx sub = s := by
  simp [State.touchObject, h]

/-- Items that each read as a value read as the list of the values (R103). -/
theorem State.readItems_values (hbad : s.errors.badObjects = []) {items values : List Nat}
    (h : List.Forall₂ (fun i v => s.readItem o i = .ok v) items values) (l : List Byte) :
    s.readItems o items l = (s, .ok (l ++ values.flatMap (toLE 8))) := by
  induction h generalizing l with
  | nil => simp [State.readItems]
  | cons hread _ ih =>
    simp only [State.readItems, hread, State.touchObject_good hbad, ih, List.flatMap_cons, List.append_assoc]

theorem State.readItem_value (hbad : s.errors.badObjects = []) {i v : Nat} (hidx : i / 2 ^ 32 < 2 ^ 16)
    (hrange : s.objectInRange (i % 2 ^ 8) (i / 2 ^ 32) (i / 2 ^ 16 % 2 ^ 16) = true)
    (hpool : classPool (i % 2 ^ 8) = true → s.allocated (i % 2 ^ 8) (i / 2 ^ 32) = true) (hcls : (classIndexes (i % 2 ^ 8)).isSome = true)
    (hscope : s.inScope o.priv o.tenant (i % 2 ^ 8) (i / 2 ^ 32) = true)
    (hread : s.readField (i % 2 ^ 8) (i / 2 ^ 32) (i / 2 ^ 16 % 2 ^ 16) (i / 2 ^ 8 % 2 ^ 8) = some v) : s.readItem o i = .ok v := by
  have ecls : bitsOf i 0 8 = i % 2 ^ 8 := by simp [bitsOf]
  have efid : bitsOf i 8 8 = i / 2 ^ 8 % 2 ^ 8 := rfl
  have esub : bitsOf i 16 16 = i / 2 ^ 16 % 2 ^ 16 := rfl
  have eidx : bitsOf i 32 16 = i / 2 ^ 32 := Nat.mod_eq_of_lt hidx
  have hnone : (classIndexes (i % 2 ^ 8)).isNone = false := by
    rw [← Option.not_isSome, hcls]
    rfl
  have hfree : (classPool (i % 2 ^ 8) && !s.allocated (i % 2 ^ 8) (i / 2 ^ 32)) = false := by
    cases hp : classPool (i % 2 ^ 8)
    · rfl
    · rw [hpool hp]
      rfl
  simp only [State.readItem, ecls, efid, esub, eidx, hnone, hrange, hfree, hscope, State.touchObject_good hbad, hread, Bool.not_true,
    Bool.or_self, Bool.false_eq_true, if_false]

/-- INFO of a KIND replies its payload (R108). -/
theorem State.info_replies {kind : Nat} (h : s.carries c 0x0063 o) (hle : kind ≤ 2) (hk : o.arg 0 1 = kind) (hz : o.zero 1 1 = true)
    (hz' : o.zero 6 2 = true) (hargs : if kind = 0 then o.arg 2 2 = 0 ∧ o.arg 4 2 = 0 else o.arg 2 2 ≤ 127 ∧ 1 ≤ o.arg 4 2 ∧ o.arg 4 2 ≤ 128) :
    Replies s (s.info c kind) c (s.infoPayload kind (o.arg 2 2) (o.arg 4 2)) := by
  have hok : (if kind = 0 then o.arg 2 2 == 0 && o.arg 4 2 == 0
      else decide (o.arg 2 2 ≤ 127) && decide (1 ≤ o.arg 4 2) && decide (o.arg 4 2 ≤ 128)) = true := by
    by_cases h0 : kind = 0
    · rw [if_pos h0] at hargs ⊢
      simpa using hargs
    · rw [if_neg h0] at hargs ⊢
      simpa [and_assoc] using hargs
  rw [State.info, State.libRun_carries h, hk, State.libOp_self (c := c) (by simpa using hle)]
  dsimp only
  rw [State.libArgs_ok c (by rw [hz, hz', hok]; rfl)]
  rfl

end

/-- Settles O29. -/
theorem readOrders : Obligations.ReadOrders := by
  intro c s o
  refine ⟨fun values h hlen hmax hbad hitems => ?_, fun h hz hz' => ⟨fun hk h2 h4 => ?_, fun h2 h4 h4' => ⟨fun hk => ?_, fun hk => ?_⟩⟩⟩
  · have hcount : (o.args.length + 7) / 8 = values.length := by omega
    have hread : List.Forall₂ (fun i v => s.readItem o i = .ok v) ((List.range values.length).map (fun i => o.arg (8 * i) 8)) values := by
      refine List.forall₂_iff_get.2 ⟨by simp, fun i hi hi' => ?_⟩
      obtain ⟨hidx, hrange, hpool, hcls, hscope, hval⟩ := hitems i hi'
      have hget : values.getD i 0 = values.get ⟨i, hi'⟩ := by simp [hi']
      simp only [List.get_eq_getElem, List.getElem_map, List.getElem_range]
      exact State.readItem_value hbad hidx hrange hpool hcls hscope (hval.trans (congrArg some hget))
    have hsmall : ((List.range values.length).map (fun i => o.arg (8 * i) 8)).all (fun i => decide (i < 2 ^ 48)) = true := by
      simp only [List.all_eq_true, List.mem_map, List.mem_range, decide_eq_true_eq]
      rintro _ ⟨i, hi, rfl⟩
      obtain ⟨hidx, -⟩ := hitems i hi
      omega
    refine ⟨_, rfl, ?_⟩
    rw [State.libRun_carries h]
    dsimp only
    rw [hcount, State.libArgs_ok c (by rw [decide_eq_true hmax, hsmall]; rfl), State.readItems_values hbad hread]
    rfl
  · refine ⟨_, rfl, ?_⟩
    have hreply := State.info_replies h (by decide) hk hz hz' (by simp [h2, h4])
    rwa [h2, h4] at hreply
  · exact ⟨_, rfl, State.info_replies h (by decide) hk hz hz' ⟨h2, h4, h4'⟩⟩
  · exact ⟨_, rfl, State.info_replies h (by decide) hk hz hz' ⟨h2, h4, h4'⟩⟩

end Sys2Proof.Machine
end

section
/-! SUPPORT. What messages, event vectors and counters leave alone: one relation between a state and the state after them, which composes. -/

namespace Sys2Proof

/-! ### Tables -/

/-- A change of one entry of a table leaves every entry, or is the change of that one. -/
theorem Tab.mem_modify {α : Type} (d : α) {t : Tab α} (k : Nat) (f : α → α) {e : Nat × α} (h : e ∈ t) :
    e ∈ Tab.modify d t k f ∨ (e.1 = k ∧ (k, f e.2) ∈ Tab.modify d t k f) := by
  have hset : ∀ (t : Tab α) (v : α), e ∈ t → e ∈ Tab.set t k v ∨ e = (k, Tab.get d t k) := by
    intro t v
    induction t with
    | nil => exact fun h => absurd h List.not_mem_nil
    | cons x t ih =>
      obtain ⟨i, w⟩ := x
      intro h
      unfold Tab.set
      split_ifs with hlt heq
      · exact .inl (List.mem_cons_of_mem _ h)
      · subst heq
        obtain rfl | h := List.mem_cons.1 h
        · exact .inr (by simp [Tab.get])
        · exact .inl (List.mem_cons_of_mem _ h)
      · obtain rfl | h := List.mem_cons.1 h
        · exact .inl List.mem_cons_self
        · refine (ih h).imp (List.mem_cons_of_mem _) fun h => ?_
          rw [h, Tab.get, if_neg heq]
  refine (hset t _ h).imp_right fun h => ?_
  rw [h]
  exact ⟨rfl, Tab.mem_set_self ..⟩

/-! ### Fields that counting changes -/

/-- The fields that counting an event and raising a vector may change. -/
def Fld.counting : Fld → Bool
  | .eventPending | .unitctrValue | .unitctrOvf | .counterValue | .counterOvf => true
  | _ => false

end Sys2Proof

namespace Sys2Proof.Machine

/-- A put of one field leaves the others, of objects in range. -/
theorem State.get_put_ne (s : State) {f g : Fld} (h : g ≠ f) {i b j d : Nat} (v : Nat) (hi : i < 65536) (hb : b < 65536) (hj : j < 65536)
    (hd : d < 65536) : (s.put g i b v).get f j d = s.get f j d := by
  by_cases hobj : i = j ∧ b = d
  · obtain ⟨rfl, rfl⟩ := hobj
    exact s.get_put_field g f i b v (Fld.key_ne h)
  · exact s.get_put_object g f i b j d v hi hb hj hd (by omega)

theorem State.get_devicePut (s : State) (f g : Fld) (i b v j d : Nat) : (s.devicePut g i b v).get f j d = (s.put g i b v).get f j d := by
  unfold State.devicePut
  split <;> rfl

/-- A tenant's state without the count of the vectors suppressed during its reset. -/
def TenantState.unsuppressed (x : TenantState) : TenantState := { x with suppressed := 0 }

/-- A state after messages, event vectors and counters: the rest stands, and what was sent is sent. -/
structure Hears (s t : State) : Prop where
  still : t.still = s.still
  get : ∀ f : Fld, f.counting = false → ∀ j d, j < 65536 → d < 65536 → t.get f j d = s.get f j d
  tenant : ∀ k, (t.tenant k).unsuppressed = (s.tenant k).unsuppressed
  sent : ∀ m, s.sent m → t.sent m

theorem Hears.refl (s : State) : Hears s s := ⟨rfl, fun _ _ _ _ _ _ => rfl, fun _ => rfl, fun _ h => h⟩

theorem Hears.trans {s t u : State} (h : Hears s t) (h' : Hears t u) : Hears s u where
  still := h'.still.trans h.still
  get f hf j d hj hd := (h'.get f hf j d hj hd).trans (h.get f hf j d hj hd)
  tenant k := (h'.tenant k).trans (h.tenant k)
  sent m hm := h'.sent m (h.sent m hm)

theorem Hears.foldl {α : Type} {f : State → α → State} (h : ∀ s a, Hears s (f s a)) (l : List α) (s : State) : Hears s (l.foldl f s) := by
  induction l generalizing s with
  | nil => exact .refl s
  | cons a l ih => exact (h s a).trans (ih _)

theorem Hears.ite {s t u : State} {p : Prop} [Decidable p] (ht : Hears s t) (hu : Hears s u) : Hears s (if p then t else u) := by
  split
  · exact ht
  · exact hu

section
variable (s : State)

theorem State.put_hears {f : Fld} (hf : f.counting = true) {i b : Nat} (hi : i < 65536) (hb : b < 65536) (v : Nat) : Hears s (s.put f i b v) where
  still := rfl
  get g hg _ _ hj hd := s.get_put_ne (fun e => by simp [e, hg] at hf) v hi hb hj hd
  tenant _ := rfl
  sent _ h := h

theorem State.devicePut_hears {f : Fld} (hf : f.counting = true) {i b : Nat} (hi : i < 65536) (hb : b < 65536) (v : Nat) :
    Hears s (s.devicePut f i b v) where
  still := s.devicePut_still ..
  get g hg _ _ hj hd := (s.get_devicePut ..).trans (s.get_put_ne (fun e => by simp [e, hg] at hf) v hi hb hj hd)
  tenant _ := by
    unfold State.devicePut
    split <;> rfl
  sent _ h := by
    unfold State.devicePut
    split <;> exact h

theorem State.emit_hears (m : Msg) : Hears s (s.emit m) where
  still := s.emit_still m
  get _ _ _ _ _ _ := s.emit_get ..
  tenant _ := by rw [State.emit_tenant]
  sent n h := by
    unfold State.emit
    split
    · exact h
    · split
      · split
        · obtain h | ⟨e, he, x, hx, rfl⟩ := h
          · exact .inl h
          · obtain hmem | ⟨-, hmem⟩ := Tab.mem_modify ([] : List (Nat × Msg)) (α := List (Nat × Msg)) _ (· ++ [(s.ftb, m)]) he
            · exact .inr ⟨e, hmem, x, hx, rfl⟩
            · exact .inr ⟨_, hmem, x, List.mem_append_left _ hx, rfl⟩
        · exact h.imp_left (List.mem_append_left _)
      · exact h.imp_left (List.mem_append_left _)

theorem State.modWindow_msi_hears (t : Nat) : Hears s (s.modWindow t (fun w => { w with lastMsi := some s.ftb })) :=
  ⟨rfl, fun _ _ _ _ _ _ => rfl, fun _ => rfl, fun _ h => h⟩

theorem State.eventMsi_hears (t : Nat) : Hears s (s.eventMsi t) := by
  unfold State.eventMsi
  dsimp only
  refine .ite ?_ (.refl s)
  cases s.msiPort t with
  | none => exact .refl s
  | some p => exact (s.modWindow_msi_hears t).trans (State.emit_hears _ _)

theorem State.missRaise_hears : Hears s s.missRaise := ⟨rfl, fun _ _ _ _ _ _ => rfl, fun _ => rfl, fun _ h => h⟩

theorem State.suppress_hears (t : Nat) : Hears s (s.modTenant t (fun x => { x with suppressed := x.suppressed + 1 })) where
  still := rfl
  get _ _ _ _ _ _ := rfl
  tenant k := by
    rw [State.tenant_modTenant]
    split
    · subst_vars
      rfl
    · rfl
  sent _ h := h

theorem State.raiseVector_hears (n : Nat) (owner : Option Nat) : Hears s (s.raiseVector n owner) := by
  unfold State.raiseVector
  dsimp only
  split
  next hn =>
    have hpend : Hears s (s.devicePut .eventPending n 0 1) := s.devicePut_hears rfl (by omega) (by decide) 1
    refine .ite (.ite (.refl s) (.ite (hpend.trans (State.eventMsi_hears _ _)) hpend)) ?_
    exact .ite (s.missRaise_hears.trans (State.suppress_hears _ _)) s.missRaise_hears
  next => exact .refl s

theorem State.raiseT0_hears (f : Fld) (idx : Nat) : Hears s (s.raiseT0 f idx) := s.raiseVector_hears ..

theorem State.addUnit_hears {u i : Nat} (hu : u < 65536) (hi : i < 65536) (n : Nat) : Hears s (s.addUnit u i n) := by
  unfold State.addUnit
  dsimp only
  have hvalue := s.put_hears (f := .unitctrValue) rfl hu hi (s.get .unitctrValue u i + n)
  exact .ite hvalue ((hvalue.trans (State.put_hears _ (f := .unitctrOvf) rfl hu hi 1)).trans (State.raiseVector_hears _ _ _))

theorem State.addCounter_hears {i : Nat} (hi : i < 65536) (n : Nat) : Hears s (s.addCounter i n) := by
  unfold State.addCounter
  dsimp only
  have hvalue := s.put_hears (f := .counterValue) rfl hi (b := 0) (by decide) (s.get .counterValue i + n)
  exact .ite hvalue ((hvalue.trans (State.put_hears _ (f := .counterOvf) rfl hi (by decide) 1)).trans (State.raiseVector_hears _ _ _))

/-- An allocated object's index lies in its class. -/
theorem State.poolObjects_lt {cls i : Nat} (h : i ∈ s.poolObjects cls) : i < 65536 := by
  obtain ⟨k, -, rfl⟩ := List.mem_map.1 h
  exact Nat.mod_lt _ (by decide)

end

theorem Hears.foldl_mem {α : Type} {f : State → α → State} {l : List α} (h : ∀ s, ∀ a ∈ l, Hears s (f s a)) (s : State) :
    Hears s (l.foldl f s) := by
  induction l generalizing s with
  | nil => exact .refl s
  | cons a l ih =>
    exact (h s a List.mem_cons_self).trans (ih (fun s b hb => h s b (List.mem_cons_of_mem _ hb)) _)

theorem State.count_hears (s : State) {u : Nat} (hu : u < 65536) (ev : Nat) (a : EventAttrs) (n : Nat) : Hears s (s.count u ev a n) := by
  have hunits : Hears s (if s.unitCounts u then (List.range 8).foldl (fun s i => s.unitSees u ev n a i) s else s) := by
    refine .ite (Hears.foldl_mem (fun s i hi => ?_) s) (.refl s)
    exact .ite (s.addUnit_hears hu (Nat.lt_trans (List.mem_range.1 hi) (by decide)) n) (.refl s)
  unfold State.count
  dsimp only
  split
  next t ht =>
    refine .ite (hunits.trans (Hears.foldl_mem (fun u i hi => ?_) _)) hunits
    exact .ite (u.addCounter_hears (s.poolObjects_lt (List.mem_filter.1 hi).1) n) (.refl u)
  next => exact hunits

theorem State.countPort_hears (s : State) {p : Nat} (hp : p < 65536) (ev : Nat) (a : EventAttrs) (n : Nat) :
    Hears s (s.countPort p ev a n) :=
  s.count_hears (Nat.lt_of_le_of_lt (Nat.div_le_self _ _) hp) ..

end Sys2Proof.Machine
end

section
/-! Orders and events of tenants (O30): R382 to R384, R393, R409, R410. -/

namespace Sys2Proof.Machine

section
variable {s : State} {c : Core} {o : Order}

/-! ### The orders -/

theorem execTenantCreate_commits (h : s.carries c 0x0020 o) (ht : 1 ≤ o.arg 0 2) (ht' : o.arg 0 2 < 4096)
    (hst : s.get .tenantState (o.arg 0 2) = 0) (hrules : o.arg 4 4 ≤ 65536) (hev : o.arg 12 2 ≤ 8192) (hctr : o.arg 14 2 ≤ 16384)
    {fields : List (Fld × Nat)} (hf : fields = [(Fld.tshaperRate, o.arg 24 4), (.tshaperBurst, if o.arg 28 4 = 0 then 65536 else o.arg 28 4),
      (.tenantShPerm, o.arg 2 2), (.tenantShRules, o.arg 4 4), (.tenantShQuota, o.arg 8 4), (.tenantShEvents, o.arg 12 2),
      (.tenantShCounters, o.arg 14 2), (.tenantShDirty, o.arg 16 4), (.tenantTimeout, if o.arg 20 4 = 0 then 10000000 else o.arg 20 4),
      (.tenantState, 1)])
    (hacc : ∀ e ∈ fields, e.1.accepts (o.arg 0 2) e.2 = true) (hp : s.passes (fields.map (fun e => putEntry e.1 (o.arg 0 2) 0 e.2))) :
    Leads (.tenantCreate c) s (fun u => Commits s u c (fields.map (fun e => putEntry e.1 (o.arg 0 2) 0 e.2)) noAction noReply) := by
  subst hf
  refine ⟨_, rfl, State.commits_libRun h rfl ?_ hp⟩
  simp only [ht, ht', hst, hrules, hev, hctr, decide_true, Bool.true_and, Bool.and_true, beq_self_eq_true, List.all_eq_true]
  intro e he
  refine hacc e ?_
  simp only [List.mem_append, List.mem_cons, List.not_mem_nil, or_false] at he ⊢
  tauto

/-- The checks of TENANT_RESET from the FM or a BMC, before its STATE is looked at (R409). -/
theorem execTenantReset_checked (h : s.carries c 0x0021 o) (hpriv : o.priv ≠ privTenant) (ht : 1 ≤ o.arg 0 2) (ht' : o.arg 0 2 < 4096)
    (hst : s.get .tenantState (o.arg 0 2) ≠ 0) (hz : o.zero 4 4 = true)
    (hv : o.arg 2 2 = 0x2000 ∨ s.ownsEvent (o.arg 0 2) (o.arg 2 2) = true ∨ s.ownsEvent 0 (o.arg 2 2) = true) :
    exec (.tenantReset c) s = .next (if s.get .tenantState (o.arg 0 2) = 2 then s.libEnds c .busy
      else s.libCommit c [putEntry .tenantState (o.arg 0 2) 0 2]
        (fun s => s.modTenant (o.arg 0 2) (fun x => { x with doneVector := o.arg 2 2 })) noReply) := by
  have hown : (o.priv == privTenant) = false := beq_eq_false_iff_ne.2 hpriv
  have hvector : (o.arg 2 2 == 0x2000 || s.ownsEvent (o.arg 0 2) (o.arg 2 2) || (!false && s.ownsEvent 0 (o.arg 2 2))) = true := by
    obtain hv | hv | hv := hv <;> simp [hv]
  refine congrArg Host.Outcome.next ?_
  rw [State.libRun_carries h]
  simp only [hown, hvector, Bool.false_and, Bool.false_eq_true, if_false]
  rw [if_neg]
  simp [ht, ht', hst, hz]

/-- A tenant that owns nothing is destroyed by one commit (R384). -/
theorem State.destroyFirst_bare {t : Nat} (hpool : s.poolOf t = []) (hwin : ∀ w, s.get .windowOwner w = t → s.get .windowKind w = 0) :
    s.destroyFirst t = [putEntry .gleanerEnable t 0 0, putEntry .tenantState t 0 0] := by
  have hopen : s.openWindows t = [] := List.filter_eq_nil_iff.2 fun w _ hw => by
    simp only [Bool.and_eq_true, beq_iff_eq, bne_iff_ne] at hw
    exact hw.2 (hwin w hw.1)
  simp [State.destroyFirst, hpool, hopen, destroyCut]

theorem execTenantDestroy_bare (h : s.carries c 0x0022 o) (ht : 1 ≤ o.arg 0 2) (ht' : o.arg 0 2 < 4096) (hz : o.zero 2 6 = true)
    (hst : s.get .tenantState (o.arg 0 2) = 1) (htracked : s.trackedOf (o.arg 0 2) = 0) (hports : ∀ p, s.get .portTenant p ≠ o.arg 0 2)
    (hids : ∀ d, s.get .pbrTenant d ≠ o.arg 0 2) (hpool : s.poolOf (o.arg 0 2) = [])
    (hwin : ∀ w, s.get .windowOwner w = o.arg 0 2 → s.get .windowKind w = 0) {es : List Entry}
    (hes : es = [putEntry .gleanerEnable (o.arg 0 2) 0 0, putEntry .tenantState (o.arg 0 2) 0 0]) (hp : s.passes es)
    (hgone : (s.committed c es noAction).get .tenantState (o.arg 0 2) = 0) :
    Leads (.tenantDestroy c) s (fun u => Commits s u c es noAction (fun _ => [0, 0, 0, 0])) := by
  have hmapped : ((s.listedIdx .portTenant).any (fun p => s.get .portTenant p == o.arg 0 2) ||
      (s.listedIdx .pbrTenant).any (fun d => s.get .pbrTenant d == o.arg 0 2)) = false := by
    simp [hports, hids]
  refine ⟨_, rfl, ?_⟩
  rw [State.libRun_carries h]
  simp only [State.carries_fresh h, hst, htracked, hmapped, State.destroyFirst_bare hpool hwin, ← hes, Bool.false_eq_true, if_false]
  rw [if_neg (by simp [ht, ht', hz]), if_neg (by decide), if_neg (by decide), if_neg (by decide),
    State.commitNow_serves (State.carries_serves h) (by simp [hes]) hp]
  dsimp only
  rw [State.destroyMore, if_pos hgone]
  rfl

theorem execBankSwap_commits (h : s.carries c 0x0024 o) (ht : o.arg 0 2 < 4096) (hb : o.arg 2 1 ≤ 1) (hz : o.zero 3 5 = true)
    (hp : s.passes [putEntry .tenantBank (o.arg 0 2) 0 (o.arg 2 1)]) :
    Leads (.bankSwap c) s (fun u => Commits s u c [putEntry .tenantBank (o.arg 0 2) 0 (o.arg 2 1)] noAction noReply) := by
  refine ⟨_, rfl, State.commits_libRun h rfl ?_ hp⟩
  simp [ht, hb, hz]

end

/-! ### The steps of a reset (R410) -/

section
variable (s : State)

theorem State.discardTenant_reset (t : Nat) : ((s.discardTenant t).tenant t).reset = .wagons := by
  rw [State.discardTenant, State.tenant_modTenant_self]

/-- Writing the records of a line leaves fewer, where any waited (R405). -/
theorem State.writeRecords_tenant (t : Nat) : (s.writeRecords t).tenant t = { s.tenant t with pendingRecords := (s.pendingLine t).2.2 } := by
  unfold State.writeRecords
  generalize s.pendingLine t = line
  obtain ⟨first, now, later⟩ := line
  exact State.tenant_modTenant_self ..

/-- A line of the ring has room for a record. -/
theorem ringRoom_pos (first n : Nat) : 0 < min (8 - first % max n 1 % 8) (max n 1 - first % max n 1) := by
  have hslot := Nat.mod_lt first (show 0 < max n 1 by omega)
  omega

theorem State.pendingLine_shorter {t : Nat} (h : (s.tenant t).pendingRecords ≠ []) :
    (s.pendingLine t).2.2.length < (s.tenant t).pendingRecords.length := by
  refine (List.length_drop).trans_lt (Nat.sub_lt (List.length_pos_iff.2 h) (ringRoom_pos _ _))

theorem State.devicePut_tenant (f : Fld) (i b v t : Nat) : (s.devicePut f i b v).tenant t = s.tenant t := by
  unfold State.devicePut
  split <;> rfl

theorem State.flushRecords_empty (t n : Nat) (h : (s.tenant t).pendingRecords.length ≤ n) :
    ((s.flushRecords t n).tenant t).pendingRecords = [] := by
  induction n generalizing s with
  | zero => exact List.length_eq_zero_iff.1 (Nat.le_zero.1 h)
  | succ n ih =>
    rw [State.flushRecords]
    split
    next hempty => exact List.isEmpty_iff.1 hempty
    next hsome =>
      refine ih _ ?_
      have hshort := s.pendingLine_shorter (t := t) (fun e => hsome (List.isEmpty_iff.2 e))
      rw [State.writeRecords_tenant]
      exact Nat.le_of_lt_succ (Nat.lt_of_lt_of_le hshort h)

/-- A raised vector leaves the parts of a tenant that a reset sets. -/
theorem Hears.tenant_eq {s t : State} (h : Hears s t) {α : Type} (p : TenantState → α) (hp : ∀ x, p x.unsuppressed = p x) (k : Nat) :
    p (t.tenant k) = p (s.tenant k) := by
  rw [← hp (t.tenant k), h.tenant, hp]

theorem execTenantResetDone_leads (x : TenantId) (h : (s.tenant x.val).reset = .wagons)
    (hf : ∀ e ∈ s.sw.frames, e.2.requestOf x.val = true → e.2.answered = false) :
    Leads (.tenantResetDone x) s (fun u => (u.tenant x.val).reset = .none ∧ u.get .tenantState x.val = 1 ∧
      (u.tenant x.val).pendingRecords = [] ∧ (u.tenant x.val).bitmap = []) := by
  have hframes : s.sw.frames.any (fun e => e.2.requestOf x && e.2.answered) = false :=
    List.any_eq_false.2 fun e he hq => by
      rw [Bool.and_eq_true] at hq
      exact Bool.false_ne_true ((hf e he hq.1).symm.trans hq.2)
  refine ⟨_, rfl, ?_⟩
  rw [if_pos (by rw [hframes, h]; rfl)]
  dsimp only
  generalize hs1 : (if s.sw.running = true then s.modTenant x (fun x => { x with emptying := true })
    else (s.modTenant x (fun x => { x with emptying := true })).emptyShapers) = s1
  generalize hs2 : (s1.flushAllRecords x).modTenant x (fun x => { x with bitmap := [] }) = s2
  have hflushed : (s2.tenant x).pendingRecords = [] ∧ (s2.tenant x).bitmap = [] := by
    rw [← hs2, State.tenant_modTenant_self]
    exact ⟨s1.flushRecords_empty x _ (Nat.le_refl _), rfl⟩
  have hcleared : Hears s2 ((s2.eventsOf x).foldl (fun s n => s.devicePut .eventPending n 0 0) s2) :=
    Hears.foldl_mem (fun u n hn => u.devicePut_hears rfl (s2.poolObjects_lt (List.mem_filter.1 hn).1) (by decide) 0) s2
  generalize (s2.eventsOf x).foldl (fun s n => s.devicePut .eventPending n 0 0) s2 = s3 at hcleared
  generalize hs4 : ((s3.devicePut .tenantState x 0 1).modWindow x (fun w => { w with resets := saturate 32 (w.resets + 1) })).modTenant x
    (fun x => { x with reset := .none }) = s4
  have htenant : s4.tenant x = { s3.tenant x with reset := .none } := by
    rw [← hs4, State.tenant_modTenant_self]
    exact congrArg (fun y : TenantState => { y with reset := .none }) (s3.devicePut_tenant ..)
  have hstate : s4.get .tenantState x = 1 := by
    rw [← hs4]
    refine Eq.trans (b := (s3.devicePut .tenantState x 0 1).get .tenantState x) rfl ?_
    rw [State.get_devicePut, State.get_put_self]
    rfl
  have hraised := s4.raiseVector_hears (s.tenant x).doneVector none
  refine ⟨?_, ?_, ?_, ?_⟩
  · rw [hraised.tenant_eq TenantState.reset (fun _ => rfl), htenant]
  · exact (hraised.get .tenantState rfl x 0 (Nat.lt_trans x.isLt (by decide)) (by decide)).trans hstate
  · rw [hraised.tenant_eq TenantState.pendingRecords (fun _ => rfl), htenant]
    exact (hcleared.tenant_eq TenantState.pendingRecords (fun _ => rfl) x).trans hflushed.1
  · rw [hraised.tenant_eq TenantState.bitmap (fun _ => rfl), htenant]
    exact (hcleared.tenant_eq TenantState.bitmap (fun _ => rfl) x).trans hflushed.2

end

/-- Settles O30. -/
theorem tenantOrders : Obligations.TenantOrders := by
  intro c s o
  refine ⟨fun h ht ht' hst hr hev hctr hacc hp => execTenantCreate_commits h ht ht' hst hr hev hctr rfl hacc hp,
    fun h hpriv ht ht' hst hz hv hp => ?_, fun h hpriv ht ht' hst hz hv => ?_,
    fun h ht ht' hz hst htr hports hids hpool hwin hp hgone => execTenantDestroy_bare h ht ht' hz hst htr hports hids hpool hwin rfl hp hgone,
    fun x hreq => ⟨fun hbusy => ?_, fun hlate => ?_⟩, execTenantResetDone_leads s, execBankSwap_commits⟩
  · refine ⟨_, execTenantReset_checked h hpriv ht ht' (by rw [hst]; decide) hz hv, ?_⟩
    rw [if_neg (by rw [hst]; decide)]
    exact State.libCommit_passes h hp _ _
  · refine ⟨_, execTenantReset_checked h hpriv ht ht' (by rw [hst]; decide) hz (.inl hv), ?_⟩
    exact if_pos hst
  · refine ⟨_, rfl, ?_⟩
    rw [if_pos (by rw [hreq, hbusy]; rfl)]
    exact s.discardTenant_reset x
  · refine ⟨_, rfl, ?_⟩
    rw [if_pos (by rw [hreq, decide_eq_true hlate]; rfl)]
    exact (s.answerTenant x).discardTenant_reset x

end Sys2Proof.Machine
end

section
/-! The Gleaner's pass (O31): a write checked before the pass began and still in the switch keeps the pass open, and the statement has no
premise that none is (R407). -/

namespace Sys2Proof.Machine

/-- A write of tenant 1 in the switch. -/
def writeOfTenant1 : Frame :=
  { inp := { port := 0, fmt := 0, len := 4, kind := .ioWrite, addr := 0, size := 4, data := [], tc := 0, cls := 0, tag := 0, reqId := 0,
             pasid := none, privBit := false, pbr := none, ldid := 0, cacheId := none, poison := false, whole := true, good := true }
    len := 4, wagons := 1, cls := 0, cache := 0, order := 0, pin := false, key := 0, tenant := 1, dport := 2, arrival := 0, acct := 0
    drop := false, copy := false, poison := false, abort := false, spread := 0, delivered := 0 }

/-- Tenant 1's pass began after its frame 0 was checked, and the switch still holds that frame. -/
def passHeldOpen : State :=
  { State.reset with tenants := [(1, { passAt := some 0, passFrom := 1 })], sw := { frames := [(0, writeOfTenant1)] } }

/-- Refutes O31: where a write checked before the pass began is still in the switch, GLEANER_PASS_FINAL leaves the pass open. -/
theorem not_ruleVectorCounterOrders : ¬ Obligations.RuleVectorCounterOrders := by
  rintro ⟨horders, -⟩
  obtain ⟨-, -, -, hpass⟩ := horders 0 passHeldOpen {}
  obtain ⟨t, hexec, hclosed, -⟩ := ((hpass 1).1 0 (by decide)).1
  have hopen : (match exec (.gleanerPassFinal 1) passHeldOpen with
      | .next t => decide ((t.tenant 1).passAt = none) | _ => true) = false := by decide +kernel
  rw [hexec] at hopen
  exact absurd hclosed (of_decide_eq_false hopen)

end Sys2Proof.Machine
end

section
/-! Orders of the coherent pool (O32): R329, R351, R365, R367. -/

namespace Sys2Proof.Machine

section
variable {s : State} {c : Core} {o : Order}

theorem execAgentSet_commits (h : s.carries c 0x0095 o) (ha : o.arg 0 2 < 512) (hf : o.arg 6 1 ≤ 3) (hz : o.zero 7 1 = true)
    (hk : o.arg 2 1 = 0 ∨ (o.arg 2 1 ≤ 3 ∧ s.portOk (o.arg 3 1) = true ∧ o.arg 4 2 < 4096 ∧
      (o.arg 2 1 = 3 ↔ s.get .portProto (o.arg 3 1) = 2) ∧
      ∀ x, x ≠ o.arg 0 2 → s.get .agentKind x ≠ 0 → s.get .agentPort x = o.arg 3 1 → s.get .agentBiid x ≠ o.arg 4 2)) {es : List Entry}
    (hes : es = [putEntry .agentKind (o.arg 0 2) 0 (o.arg 2 1), putEntry .agentPort (o.arg 0 2) 0 (o.arg 3 1),
      putEntry .agentBiid (o.arg 0 2) 0 (o.arg 4 2), putEntry .agentPrefetch (o.arg 0 2) 0 (o.arg 6 1)])
    (hp : s.passes es) : Leads (.agentSet c) s (fun t => Commits s t c es noAction noReply) := by
  subst hes
  refine ⟨_, rfl, State.commits_libRun h rfl ?_ hp⟩
  obtain hk | ⟨hk, hport, hb, htrunk, htwin⟩ := hk
  · simp [ha, hf, hz, hk]
  · have hsame : ((o.arg 2 1 == 3) == (s.get .portProto (o.arg 3 1) == 2)) = true := by
      rw [beq_iff_eq, Bool.eq_iff_iff, beq_iff_eq, beq_iff_eq]
      exact htrunk
    have halone : ((s.listedIdx .agentKind).any (fun x => x != o.arg 0 2 && s.get .agentKind x != 0 && s.get .agentPort x == o.arg 3 1 &&
        s.get .agentBiid x == o.arg 4 2)) = false :=
      List.any_eq_false.2 fun x _ hx => by
        simp only [Bool.and_eq_true, bne_iff_ne, beq_iff_eq] at hx
        obtain ⟨⟨⟨hne, hkind⟩, hxp⟩, hxb⟩ := hx
        exact htwin x hne hkind hxp hxb
    simp only [ha, hk, hf, hz, hport, hb, hsame, halone]
    simp

theorem execCoherenceSet_commits (h : s.carries c 0x0097 o) (hn : o.arg 4 2 ≤ 129) (hz : o.zero 6 2 = true) (ht : o.arg 0 4 ≠ 0)
    (hacc : Fld.deviceDeadT.accepts 0 (o.arg 0 4) = true)
    (hitems : ∀ i, i < o.arg 4 2 → o.arg (8 + 4 * i) 4 / 256 % 256 = 0 ∧ s.objectInRange clsNear (o.arg (8 + 4 * i) 4 % 256) 0 = true)
    {es : List Entry} (hes : es = putEntry .deviceDeadT 0 0 (o.arg 0 4) ::
      (List.range (o.arg 4 2)).map (fun i => putEntry .nearLat (o.arg (8 + 4 * i) 4 % 256) 0 (o.arg (8 + 4 * i) 4 / 65536 % 65536)))
    (hp : s.passes es) : Leads (.coherenceSet c) s (fun t => Commits s t c es noAction noReply) := by
  have elow : ∀ v, bitsOf v 0 8 = v % 256 := fun v => by simp [bitsOf]
  have emid : ∀ v, bitsOf v 8 8 = v / 256 % 256 := fun _ => rfl
  have ehigh : ∀ v, bitsOf v 16 16 = v / 65536 % 65536 := fun _ => rfl
  have hes' : es = entriesIf (o.arg 0 4 != 0) [putEntry .deviceDeadT 0 0 (o.arg 0 4)] ++
      (List.range (o.arg 4 2)).map (fun i => putEntry .nearLat (o.arg (8 + 4 * i) 4 % 256) 0 (o.arg (8 + 4 * i) 4 / 65536 % 65536)) := by
    rw [hes, bne_iff_ne.2 ht]
    rfl
  refine ⟨_, rfl, ?_⟩
  rw [State.libRun_carries h]
  simp only [elow, emid, ehigh, ← hes']
  refine State.libArgs_commits h ?_ hp
  simp only [hn, hz, hacc, decide_true, Bool.true_and, Bool.or_true, List.all_eq_true, List.mem_range, Bool.and_eq_true, beq_iff_eq]
  exact hitems

/-- COHERENT_FLUSH commits its flush; with MODE 1 it writes the tenant's dirty lines back too (R367). -/
theorem execCoherentFlush_commits (h : s.carries c 0x0098 o) (ht : o.arg 0 2 < 4096) (hm : o.arg 2 1 ≤ 1) (hz : o.zero 3 1 = true)
    (hz' : o.zero 6 2 = true) (hev : s.ownsEvent 0 (o.arg 4 2) = true) (hp : s.passes [actionOn clsTenant (o.arg 0 2)]) :
    Leads (.coherentFlush c) s (fun t => Commits s t c [actionOn clsTenant (o.arg 0 2)] (fun u =>
      (if o.arg 2 1 = 1 then
        (u.modCoh (fun x => { x with flushes := Tab.set x.flushes (o.arg 0 2) (o.arg 2 1, o.arg 4 2) })).writeBack (fun l => l.tenant == o.arg 0 2)
      else u.modCoh (fun x => { x with flushes := Tab.set x.flushes (o.arg 0 2) (o.arg 2 1, o.arg 4 2) })).flushTenant (o.arg 0 2)) noReply) := by
  refine ⟨_, rfl, State.commits_libRun h rfl ?_ hp⟩
  simp [ht, hm, hz, hz', hev]

theorem execDeadlogRead_replies (h : s.carries c 0x0096 o) (hn : 1 ≤ o.arg 4 2) (hn' : o.arg 4 2 ≤ 127) (hz : o.zero 6 2 = true) :
    Leads (.deadlogRead c) s (fun t => Replies s t c
      (toLE 4 ((s.coh.deadlog.map (·.seq)).headD s.coh.deadSeq) ++ toLE 4 s.coh.deadSeq ++ toLE 4 s.coh.deadLost ++ toLE 4 0 ++
        ((s.coh.deadlog.filter (fun r => o.arg 0 4 ≤ r.seq)).take (o.arg 4 2)).flatMap DeadRecord.bytes)) := by
  have hhead : (s.coh.deadlog.map (·.seq)).headD s.coh.deadSeq = match s.coh.deadlog with | r :: _ => r.seq | [] => s.coh.deadSeq := by
    cases s.coh.deadlog <;> rfl
  refine ⟨_, rfl, ?_⟩
  rw [State.libRun_carries h, State.libArgs_ok c (by simp [hn, hn', hz]), hhead]
  rfl

end

/-- Settles O32. -/
theorem poolOrders : Obligations.PoolOrders := by
  intro c s o
  refine ⟨fun h ha hf hz hk hp => execAgentSet_commits h ha hf hz hk rfl hp,
    fun h hn hz ht hacc hitems hp => execCoherenceSet_commits h hn hz ht hacc hitems rfl hp,
    fun h ht hm hz hz' hev hp => ?_, fun h ht hm hz hz' hev hp => ?_, execDeadlogRead_replies⟩
  · have hflush := execCoherentFlush_commits h ht (by omega) hz hz' hev hp
    rw [hm] at hflush
    exact hflush
  · have hflush := execCoherentFlush_commits h ht (by omega) hz hz' hev hp
    rw [hm] at hflush
    exact hflush

end Sys2Proof.Machine
end


section
/-! SUPPORT. A field is kept under a number made of its class, its identifier and its indices, so one whose index is out of range shares
its number with a field of another class. A port or an agent that no device has, recorded in a state that no run reaches, is then
changed by counting an event. -/

namespace Sys2Proof.Machine

/-- Counter 0 of a unit counts an event, and has counted `n`. -/
def State.tallying (s : State) (unit ev n : Nat) : State :=
  (((s.put .unitctrSelect unit 0 ev).put .unitctrFpriv unit 0 0xFF).put .unitctrValue unit 0 n).put .unitsetRun unit 0 1

/-- The index at which a field of one class has the number of another field at an index. -/
def keyMate (f g : Fld) (i : Nat) : Nat := ((g.info.cls * 256 + g.info.id) - (f.info.cls * 256 + f.info.id)) * 65536 + i

/-- Whether a message has left or waits in a bypass channel, as a test. -/
def State.says (s : State) (m : Msg) : Bool := decide (m ∈ s.outbox ∨ ∃ e ∈ s.sw.bypass, ∃ x ∈ e.2, x.2 = m)

/-- Whether the next state says a message, which may depend on it. -/
def saysAfter (r : Result) (m : State → Msg) : Bool :=
  match r with
  | .next t => t.says (m t)
  | _ => false

theorem saysAfter_of_sent {r : Result} {t : State} (m : State → Msg) (hr : r = .next t) (hsent : t.sent (m t)) :
    saysAfter r m = true := by
  subst hr
  exact decide_eq_true hsent

/-- A request for line 5, whose slice is unit 69, over port 2 by no agent. -/
def ofLine5 : CohReq := { line := 5, port := 2, id := none, tenant := 0 }

/-- A request of a kind for line 5, as its home station hands it over. -/
def ringFor (k : CohKind) : RingRequest := { kind := k, line := 5, port := 2, id := none, tenant := 0, data := [] }

/-- Line 5 is owned by what is no agent, whose kind reads as the counter of the requests of its slice. -/
def ownedByCounter (ev : Nat) : State := { State.reset.tallying 69 ev 2 with
  ftb := 1
  power := { step := .run }
  coh := { dir := [(5, { state := .exclusive, ptrs := [keyMate .agentKind .unitctrValue 69] })], ring := [ringFor .rdNc] } }

/-- Refutes O14: an owner that is no agent becomes a peer when the request is counted, and is snooped by a message to it. -/
theorem not_ownerSnooped : ¬ Obligations.OwnerSnooped := by
  intro h
  obtain ⟨-, -, -, hread, -⟩ := h ofLine5 (ownedByCounter 0x040) (keyMate .agentKind .unitctrValue 69) (ringFor .rdNc)
    (by unfold State.lineQuiet; decide +kernel) (by decide +kernel) (by decide +kernel) (by decide +kernel) (by decide +kernel)
    (fun a ha => absurd ha (by simp [State.agentAt, ofLine5]))
  obtain ⟨t, hexec, hsent, -⟩ := hread (by unfold State.handsOver; decide +kernel)
  exact absurd
    (saysAfter_of_sent (fun t => .snoop (keyMate .agentKind .unitctrValue 69) 5 2 (snoopForm (t.get .agentKind
        (keyMate .agentKind .unitctrValue 69)) 2)) hexec hsent)
    (by decide +kernel)

/-- Line 5 is served by what may be no port, through vPPB 1 of virtual switch 0. -/
def homedAt (p : Nat) (s : State) : State := { s with
  obj := Tab.set ((s.put .vcsEnable 0 0 1).put .vppbKind 0 1 1).obj (objKey Fld.vppbPort.info.cls Fld.vppbPort.info.id 0 1) p
  ftb := 1
  power := { step := .run }
  vcss := [(0, { hdm := [(0, { base := 0, size := 4096, targets := [1] })] })] }

/-- A write of a whole line. -/
def wholeNine : WriteData := { data := 9, mask := BitVec.allOnes 64, poison := false }

/-- Line 5 is served by what is no port, whose protocol reads as the counter of the requests of its slice; a write of it has arrived. -/
def writtenPastCounter : State :=
  { homedAt (keyMate .portProto .unitctrValue 69) (State.reset.tallying 69 0x040 1) with
    coh := { ring := [{ ringFor .wr with data := toLE 64 9 }] } }

/-- Refutes O15: a home that is no port becomes a peer when the request is counted, and the write goes to it unanswered. -/
theorem not_servedAtOnce : ¬ Obligations.ServedAtOnce := by
  intro h
  obtain ⟨hserved, -⟩ := h ofLine5 writtenPastCounter
  obtain ⟨-, -, hwrite⟩ := hserved { ringFor .wr with data := toLE 64 9 } (by unfold State.lineQuiet; decide +kernel)
    (fun a ha => absurd ha (by simp [State.agentAt, ofLine5])) (by decide +kernel)
  obtain ⟨t, hexec, hsent, -⟩ := hwrite wholeNine (by unfold State.handsOver; decide +kernel) rfl (by decide +kernel) (by decide +kernel)
  exact absurd
    (saysAfter_of_sent (fun _ => .written 2 5) hexec hsent)
    (by decide +kernel)

/-- A request for line 5 of agent 1 over port 2. -/
def byAgent1 : CohReq := { ofLine5 with id := some 0 }

/-- Agent 1 is live at port 2. -/
def State.withAgent1 (s : State) : State := ((s.put .agentKind 1 0 1).put .agentPort 1 0 2).put .agentLive 1 0 1

/-- The slices' domain 4 is off, and line 5 is served by what is no port, whose protocol reads as the counter of the requests of its
slice; a writeback of agent 1 has arrived. -/
def releasedPastCounter : State :=
  let p := keyMate .portProto .unitctrValue 69
  { ((homedAt p (State.reset.tallying 69 0x040 1)).withAgent1.put .domainState 4 0 0).put .portLink p 0 8 with
    coh := { ring := [{ ringFor .wb with id := some 0, data := toLE 64 9 }] } }

/-- Refutes O16: a home that is no port becomes a peer when the writeback is counted, and the data goes to it and not to a memory. -/
theorem not_ownerReleases : ¬ Obligations.OwnerReleases := by
  intro h
  obtain ⟨-, -, hstraight⟩ := h byAgent1 releasedPastCounter 1 { ringFor .wb with id := some 0, data := toLE 64 9 } (by decide +kernel)
  obtain ⟨t, hexec, hsent, -⟩ := hstraight wholeNine (keyMate .portProto .unitctrValue 69) (by unfold State.handsOver; decide +kernel)
    (by decide +kernel) (by decide +kernel) (by decide +kernel) (by decide +kernel) (by decide +kernel) (by decide +kernel)
    (by decide +kernel) (by decide +kernel) (by decide +kernel)
  exact absurd
    (saysAfter_of_sent (fun _ => .memWrite (keyMate .portProto .unitctrValue 69) 5 9 (BitVec.allOnes 64) false) hexec hsent)
    (by decide +kernel)

/-- A shared read of line 5 by agent 1, whose home is no port: its measured latency reads as LIVE of agent 1. -/
def readByAgent1 : SliceRequest :=
  { kind := .rdS, port := 2, agent := some 1, tenant := 0, home := some (keyMate .nearMeas .agentLive 1), write := none, atomic := none,
    keepShared := false, peerTxn := none, arrived := 0, waited := false }

/-- A read of agent 1 waits for its memory. -/
def sampledIntoLive : State :=
  { State.reset.withAgent1 with
    ftb := 1
    power := { step := .run }
    coh := { locks := [(5, { work := .request readByAgent1, wait := .memory, readAt := 1 })] } }

/-- Refutes O17: where the home is no port, the latency measured clears LIVE of the requester, which is then granted no copy. -/
theorem not_sliceAnswers : ¬ Obligations.SliceAnswers := by
  rintro ⟨-, hmemory⟩
  obtain ⟨hdata, -⟩ := hmemory 5 sampledIntoLive _ readByAgent1 rfl rfl rfl (by decide +kernel) (by decide +kernel) (by decide +kernel)
  obtain ⟨t, hexec, hsent, -⟩ := hdata 1 9 false 0 (by decide +kernel) rfl rfl rfl (by decide +kernel) (by decide +kernel)
      (by decide +kernel)
    (by decide +kernel) (by decide +kernel)
  exact absurd
    (saysAfter_of_sent (fun _ => .grant 2 (some 1) 5 1 (some 9) false 0) hexec hsent)
    (by decide +kernel)

/-- The lock of line 5 is to be handed to a read that keeps no copy; the owner of the line is no agent, and its kind reads as the
counter of the ticks that requests wait. -/
def handedPastCounter : State :=
  let s := ownedByCounter 0x04A
  let next := { readByAgent1 with kind := .rdNc, home := none }
  { s with coh := { s.coh with locks := [(5, { work := .recall, wait := .handoff, queue := [next] })] } }

/-- Refutes O18: an owner that is no agent becomes a peer when the wait of the next request is counted, and is snooped by a message to
it. -/
theorem not_coherenceEvents : ¬ Obligations.CoherenceEvents := by
  intro h
  obtain ⟨hhand, -⟩ := h handedPastCounter
  obtain ⟨t, hexec, ⟨hsent, -⟩, -⟩ := hhand 5 _ _ _ (keyMate .agentKind .unitctrValue 69) rfl rfl rfl rfl (by decide +kernel)
      (by decide +kernel) (by decide +kernel) (by decide +kernel)
    (by decide +kernel) (by decide +kernel) (by decide +kernel)
  exact absurd
    (saysAfter_of_sent (fun t => .snoop (keyMate .agentKind .unitctrValue 69) 5 2 (snoopForm (t.get .agentKind
        (keyMate .agentKind .unitctrValue 69)) 2)) hexec hsent)
    (by decide +kernel)

end Sys2Proof.Machine
end

section
/-! Shapers, timetables and queue samples (O46): a refill adds to each shaper what its setting says, a boundary begins the next entry and
a takeover the other bank, a sample holds each queue as it stands, and the task's commit is the one its shapers ask for (R431 to R461). -/

namespace Sys2Proof

/-- The value of a table at a key, after every value has changed by its key. -/
theorem Tab.find_mapped {α β : Type} (t : Tab α) (f : Nat → α → β) (k : Nat) :
    Tab.find (t.map (fun e => (e.1, f e.1 e.2))) k = (Tab.find t k).map (f k) := by
  induction t with
  | nil => rfl
  | cons e t ih =>
    obtain ⟨i, v⟩ := e
    by_cases h : i = k
    · subst h
      simp [Tab.find]
    · simp [Tab.find, h, ih]

end Sys2Proof

namespace Sys2Proof.Machine

theorem saturate_lt (w v : Nat) : saturate w v < 2 ^ w := by
  have := Nat.two_pow_pos w
  unfold saturate
  split <;> omega

/-- What each update of a sequence settles stands at its end, where every update keeps a condition under which it does so and leaves
what the others settle. -/
theorem foldl_settles {α σ : Type} {f : σ → α → σ} {R : σ → Prop} {P : α → σ → Prop} {l : List α}
    (hset : ∀ t, R t → ∀ a ∈ l, R (f t a) ∧ P a (f t a)) (hkeep : ∀ t, R t → ∀ a ∈ l, ∀ b ∈ l, P b t → P b (f t a)) {s : σ} (hs : R s) :
    ∀ b ∈ l, P b (l.foldl f s) := by
  have gen : ∀ (l' : List α), (∀ a ∈ l', a ∈ l) → ∀ t, R t → ∀ b ∈ l, b ∈ l' ∨ P b t → P b (l'.foldl f t) := by
    intro l'
    induction l' with
    | nil => exact fun _ t _ b _ h => h.elim (fun h => absurd h List.not_mem_nil) id
    | cons a l' ih =>
      intro hl t ht b hb h
      have ha := hl a List.mem_cons_self
      refine ih (fun c hc => hl c (List.mem_cons_of_mem _ hc)) _ (hset t ht a ha).1 b hb ?_
      obtain h | h := h
      · obtain rfl | h := List.mem_cons.1 h
        · exact .inr (hset t ht b ha).2
        · exact .inl h
      · exact .inr (hkeep t ht a ha b hb h)
  exact fun b hb => gen l (fun _ h => h) s hs b hb (.inl hb)

section
variable (s : State)

theorem State.mem_livePorts {p : Nat} : p ∈ s.livePorts ↔ p < 128 ∧ s.portOk p = true := by
  simp [State.livePorts]

/-! ### Timetables -/

theorem State.timetable_modTimetable (p : Nat) (f : TimetableState → TimetableState) : (s.modTimetable p f).timetable p = f (s.timetable p) :=
  Tab.get_modify_self ..

theorem State.noteOpened_entry (p before : Nat) : ((s.noteOpened p before).timetable p).entry = (s.timetable p).entry := by
  rw [State.noteOpened, State.timetable_modTimetable]

theorem State.noteOpened_get (p before : Nat) (f : Fld) (i b : Nat) : (s.noteOpened p before).get f i b = s.get f i b := rfl

theorem State.takeover_entry (p : Nat) : ((s.takeover p).timetable p).entry = 0 := by
  rw [State.takeover, State.noteOpened_entry, State.timetable_modTimetable]

/-- A takeover makes the other bank the active one, loaded and no longer armed (R438). -/
theorem State.takeover_bank (p : Nat) : (s.takeover p).get .timetableActive p = 1 - s.get .timetableActive p ∧
    (s.takeover p).get .timetableLoaded p = 1 ∧ (s.takeover p).get .timetableArmed p = 0 := by
  have hbank : (1 - s.get .timetableActive p) % 2 ^ Fld.timetableActive.info.width = 1 - s.get .timetableActive p :=
    Nat.mod_eq_of_lt (Nat.lt_of_le_of_lt (Nat.sub_le _ _) (by decide))
  have hput : ∀ f, (s.takeover p).get f p = (((s.put .timetableActive p 0 (1 - s.get .timetableActive p)).put .timetableLoaded p 0 1).put
      .timetableArmed p 0 0).get f p := fun _ => rfl
  rw [hput, hput, hput]
  refine ⟨?_, ?_, State.get_put_self ..⟩
  · rw [State.get_put_field _ _ _ _ _ _ (by decide), State.get_put_field _ _ _ _ _ _ (by decide), State.get_put_self, hbank]
  · rw [State.get_put_field _ _ _ _ _ _ (by decide), State.get_put_self]
    rfl

/-! ### Queue samples -/

/-- What the depths of a device's queues are read from stands. -/
def SameQueues (s t : State) : Prop :=
  t.sw = s.sw ∧ t.ports = s.ports ∧ t.ftb = s.ftb ∧ ∀ p, p < 128 → t.get .portProto p = s.get .portProto p

theorem SameQueues.queueNow {s t : State} (h : SameQueues s t) {p : Nat} (hp : p < 128) (q : Nat) : t.queueNow p q = s.queueNow p q := by
  obtain ⟨hsw, hports, -, hproto⟩ := h
  have hframe : t.frame = s.frame := by
    unfold State.frame
    rw [hsw]
  have hport : t.port p = s.port p := congrArg (fun l => Tab.get ({} : PortState) l p) hports
  unfold State.queueNow
  rw [hsw, hframe, hport, hproto p hp]

theorem State.devicePut_sameQueues (f : Fld) (i b v : Nat) :
    (s.devicePut f i b v).sw = s.sw ∧ (s.devicePut f i b v).ports = s.ports ∧ (s.devicePut f i b v).ftb = s.ftb := by
  unfold State.devicePut
  split <;> exact ⟨rfl, rfl, rfl⟩

/-- A sample of a queue changes the five fields of that queue alone. -/
theorem State.sampleQueue_get {f : Fld} {p q j d : Nat} (hp : p < 65536) (hq : q < 65536) (hj : j < 65536) (hd : d < 65536)
    (hf : f ∉ [Fld.queueDepth, .queueHold, .queueStamp, .queuePeakDepth, .queuePeakHold] ∨ p ≠ j ∨ q ≠ d) :
    (s.sampleQueue p q).get f j d = s.get f j d := by
  have hput : ∀ (t : State) (g : Fld) (v : Nat), g ∈ [Fld.queueDepth, .queueHold, .queueStamp, .queuePeakDepth, .queuePeakHold] →
      (t.put g p q v).get f j d = t.get f j d := by
    intro t g v hg
    obtain hf | hobj := hf
    · exact t.get_put_ne (by rintro rfl; exact hf hg) v hp hq hj hd
    · exact t.get_put_object g f p q j d v hp hq hj hd hobj
  unfold State.sampleQueue
  dsimp only
  rw [State.get_devicePut, hput _ _ _ (by simp), State.get_devicePut, hput _ _ _ (by simp), hput _ _ _ (by simp), hput _ _ _ (by simp),
    hput _ _ _ (by simp)]

theorem State.sampleQueue_sets (p q : Nat) : (s.sampleQueue p q).get .queueDepth p q = saturate 21 (s.queueNow p q).1 ∧
    (s.sampleQueue p q).get .queueStamp p q = s.ftb % 2 ^ 64 := by
  unfold State.sampleQueue
  dsimp only
  constructor
  · rw [State.get_devicePut, State.get_put_field _ _ _ _ _ _ (by decide), State.get_devicePut, State.get_put_field _ _ _ _ _ _ (by decide),
      State.get_put_field _ _ _ _ _ _ (by decide), State.get_put_field _ _ _ _ _ _ (by decide), State.get_put_self]
    exact Nat.mod_eq_of_lt (saturate_lt ..)
  · rw [State.get_devicePut, State.get_put_field _ _ _ _ _ _ (by decide), State.get_devicePut, State.get_put_field _ _ _ _ _ _ (by decide),
      State.get_put_self]
    rfl

theorem State.sampleQueue_sameQueues {p q : Nat} (hp : p < 65536) (hq : q < 65536) : SameQueues s (s.sampleQueue p q) := by
  have hrest : (s.sampleQueue p q).sw = s.sw ∧ (s.sampleQueue p q).ports = s.ports ∧ (s.sampleQueue p q).ftb = s.ftb := by
    unfold State.sampleQueue
    dsimp only
    refine ⟨?_, ?_, ?_⟩ <;> simp only [State.devicePut_sameQueues] <;> rfl
  obtain ⟨hsw, hports, hftb⟩ := hrest
  exact ⟨hsw, hports, hftb, fun r hr => s.sampleQueue_get hp hq (by omega) (by decide) (.inl (by decide))⟩

theorem SameQueues.trans {s t u : State} (h : SameQueues s t) (h' : SameQueues t u) : SameQueues s u :=
  ⟨h'.1.trans h.1, h'.2.1.trans h.2.1, h'.2.2.1.trans h.2.2.1, fun p hp => (h'.2.2.2 p hp).trans (h.2.2.2 p hp)⟩

/-- The queues of the device, each with its port. -/
def State.queues : List (Nat × Nat) := s.livePorts.flatMap (fun p => (List.range 17).map (fun q => (p, q)))

theorem State.mem_queues {x : Nat × Nat} : x ∈ s.queues ↔ (x.1 < 128 ∧ s.portOk x.1 = true) ∧ x.2 < 17 := by
  obtain ⟨p, q⟩ := x
  simp [State.queues, State.mem_livePorts]

/-- QUEUE_SAMPLE samples each queue in its turn, and no sample changes what the others find (R448). -/
theorem State.sampled_queues : ∀ x ∈ s.queues,
    (s.queues.foldl (fun s x => s.sampleQueue x.1 x.2) s).get .queueDepth x.1 x.2 = saturate 21 (s.queueNow x.1 x.2).1 ∧
    (s.queues.foldl (fun s x => s.sampleQueue x.1 x.2) s).get .queueStamp x.1 x.2 = s.ftb % 2 ^ 64 := by
  intro x hx
  refine foldl_settles (f := fun (s : State) (x : Nat × Nat) => s.sampleQueue x.1 x.2) (l := s.queues) (s := s) (R := SameQueues s)
    (P := fun x t => t.get .queueDepth x.1 x.2 = saturate 21 (s.queueNow x.1 x.2).1 ∧ t.get .queueStamp x.1 x.2 = s.ftb % 2 ^ 64)
    (fun t ht x hx => ?_) (fun t ht x hx y hy h => ?_) ⟨rfl, rfl, rfl, fun _ _ => rfl⟩ x hx
  · obtain ⟨⟨hp, -⟩, hq⟩ := s.mem_queues.1 hx
    refine ⟨ht.trans (t.sampleQueue_sameQueues (by omega) (by omega)), ?_⟩
    rw [← ht.queueNow hp, ← ht.2.2.1]
    exact t.sampleQueue_sets x.1 x.2
  · obtain ⟨⟨hp, -⟩, hq⟩ := s.mem_queues.1 hx
    obtain ⟨⟨hp', -⟩, hq'⟩ := s.mem_queues.1 hy
    by_cases hxy : x = y
    · subst hxy
      rw [← ht.queueNow hp, ← ht.2.2.1]
      exact t.sampleQueue_sets x.1 x.2
    · have hne : x.1 ≠ y.1 ∨ x.2 ≠ y.2 := by
        by_contra hc
        exact hxy (Prod.ext (by omega) (by omega))
      rwa [t.sampleQueue_get (by omega) (by omega) (by omega) (by omega) (.inr hne),
        t.sampleQueue_get (by omega) (by omega) (by omega) (by omega) (.inr hne)]

theorem execQueueSample_samples (h : s.ftb % (s.get .deviceQsamplePer 0 * 1000) = 0) :
    exec .queueSample s = .next (s.queues.foldl (fun s x => s.sampleQueue x.1 x.2) s) := by
  refine congrArg Host.Outcome.next ((if_pos h).trans ?_)
  rw [State.queues, List.foldl_flatMap]
  exact congrArg (fun f => s.livePorts.foldl f s) (funext fun t => funext fun p => (List.foldl_map ..).symm)

/-! ### Memory load -/

/-- The counts of a window as DL_HIST holds them (R459). -/
def State.loadCounts (p : Nat) : Nat := ((List.range 4).map (fun n => saturate 16 (Tab.get 0 (s.port p).dlCount n) * 2 ^ (16 * n))).sum

/-- The end of a port's window (R459). -/
def State.closeWindow (p : Nat) : State := (s.put .portDlHist p 0 (s.loadCounts p)).modPort p (fun x => { x with dlCount := [] })

theorem State.loadCounts_lt (p : Nat) : s.loadCounts p < 2 ^ 64 := by
  have h := fun n => saturate_lt 16 (Tab.get 0 (s.port p).dlCount n)
  have h0 := h 0; have h1 := h 1; have h2 := h 2; have h3 := h 3
  simp only [State.loadCounts, List.range_succ, List.range_zero, List.nil_append, List.map_append, List.map_cons, List.map_nil, List.sum_append,
    List.sum_cons, List.sum_nil]
  omega

/-- After the windows of all ports have ended, each port's counts are its DL_HIST, and the counting starts again. -/
theorem State.closeWindows_counts : ∀ p ∈ s.livePorts, ((s.livePorts.foldl State.closeWindow s).port p).dlCount = [] ∧
    (s.livePorts.foldl State.closeWindow s).get .portDlHist p = s.loadCounts p := by
  have hgen : ∀ (l : List Nat), l.Nodup → (∀ p ∈ l, p < 128) → ∀ (t : State) p,
      (p ∈ l → ((l.foldl State.closeWindow t).port p).dlCount = [] ∧ (l.foldl State.closeWindow t).get .portDlHist p = t.loadCounts p) ∧
      (p ∉ l → p < 128 → ((l.foldl State.closeWindow t).port p).dlCount = (t.port p).dlCount ∧
        (l.foldl State.closeWindow t).get .portDlHist p = t.get .portDlHist p) := by
    intro l hl hlt
    induction l with
    | nil => exact fun t p => ⟨fun h => absurd h List.not_mem_nil, fun _ _ => ⟨rfl, rfl⟩⟩
    | cons a l ih =>
      obtain ⟨hal, hl⟩ := List.nodup_cons.1 hl
      have ih := ih hl (fun p hp => hlt p (List.mem_cons_of_mem _ hp))
      have ha := hlt a List.mem_cons_self
      have hport : ∀ (t : State) p, a ≠ p → (t.closeWindow a).port p = t.port p := fun t p hne =>
        (State.port_modPort ..).trans (if_neg hne)
      have hget : ∀ (t : State) p, p < 128 → a ≠ p → (t.closeWindow a).get .portDlHist p = t.get .portDlHist p := fun t p hp hne =>
        t.get_put_object .portDlHist .portDlHist a 0 p 0 _ (by omega) (by decide) (by omega) (by decide) (.inl hne)
      intro t p
      refine ⟨fun hp => ?_, fun hp hlt => ?_⟩
      · by_cases hpa : p = a
        · subst hpa
          obtain ⟨h1, h2⟩ := (ih (t.closeWindow p) p).2 hal ha
          refine ⟨h1.trans (congrArg PortState.dlCount (State.port_modPort_self ..)), h2.trans ?_⟩
          exact (t.get_put_self .portDlHist p 0 (t.loadCounts p)).trans (Nat.mod_eq_of_lt (t.loadCounts_lt p))
        · obtain ⟨h1, h2⟩ := (ih (t.closeWindow a) p).1 ((List.mem_cons.1 hp).resolve_left hpa)
          refine ⟨h1, h2.trans ?_⟩
          unfold State.loadCounts
          rw [hport t p (Ne.symm hpa)]
      · have hne : a ≠ p := fun e => hp (e ▸ List.mem_cons_self)
        obtain ⟨h1, h2⟩ := (ih (t.closeWindow a) p).2 (fun h => hp (List.mem_cons_of_mem _ h)) hlt
        exact ⟨h1.trans (by rw [hport t p hne]), h2.trans (hget t p hlt hne)⟩
  have hnodup : s.livePorts.Nodup := List.nodup_range.filter _
  exact fun p hp => (hgen _ hnodup (fun q hq => (s.mem_livePorts.1 hq).1) s p).1 hp

/-! ### Adaptive shapers -/

theorem State.mem_adaptations (k r : Nat) : (k, r) ∈ s.adaptations ↔ r ≠ s.get .tshaperRate k ∧ ∃ x n, (k, x) ∈ s.tenants ∧ x.adapt = true ∧
    s.loadLevel x.ports = some n ∧ r = adaptedRate n (s.get .tshaperRate k) x.ceiling x.floor := by
  have hone : ∀ (i : Nat) (x : TenantState), ((if x.adapt then (s.loadLevel x.ports).bind (fun n =>
        let r := adaptedRate n (s.get .tshaperRate i) x.ceiling x.floor
        if r = s.get .tshaperRate i then none else some (i, r)) else none) = some (k, r)) ↔
      i = k ∧ r ≠ s.get .tshaperRate k ∧ x.adapt = true ∧ ∃ n, s.loadLevel x.ports = some n ∧
        r = adaptedRate n (s.get .tshaperRate k) x.ceiling x.floor := by
    intro i x
    cases x.adapt with
    | false => simp
    | true =>
      cases s.loadLevel x.ports with
      | none => simp
      | some n =>
        simp only [Option.bind_some, if_true, true_and, Option.some.injEq, exists_eq_left']
        split <;> grind
  unfold State.adaptations
  rw [List.mem_filterMap]
  constructor
  · rintro ⟨⟨i, x⟩, hmem, h⟩
    obtain ⟨rfl, hr, ha, n, hn, he⟩ := (hone i x).1 h
    exact ⟨hr, x, n, hmem, ha, hn, he⟩
  · rintro ⟨hr, x, n, hmem, ha, hn, he⟩
    exact ⟨(k, x), hmem, (hone k x).2 ⟨rfl, hr, ha, n, hn, he⟩⟩

theorem State.taskCommit_nil {es : List Entry} (h : es = []) : s.taskCommit es = s := by
  unfold State.taskCommit
  exact if_pos (by simp [h])

theorem State.taskCommit_passes {es : List Entry} (hne : es ≠ []) (hg : s.lev.granted = none) (hfree : s.holdFree = true) (hp : s.passes es) :
    s.taskCommit es = (s.holdRounds es).applyEntries es id := by
  obtain ⟨hviolated, hrefuses⟩ := hp
  unfold State.taskCommit
  rw [if_neg]
  simp [hne, hg, hfree, hviolated, hrefuses]

end

/-- Settles O46. -/
theorem scheduleEvents : Obligations.ScheduleEvents := by
  intro s
  refine ⟨fun hdue hat => ⟨_, rfl, fun k x hx hrate => ?_⟩, fun hdue => ⟨_, rfl, ?_⟩, fun p => ⟨fun hno hloaded hend => ⟨_, rfl, ?_⟩,
    fun htake => ⟨_, rfl, ?_⟩⟩, fun hdue => ⟨_, execQueueSample_samples s hdue, fun p q hok hp hq => ?_⟩, fun hdue hat => ⟨_, rfl, fun p hok hp => ?_⟩,
    s.mem_adaptations, fun hruns hdue => ⟨fun hne hg hfree hp => ⟨_, rfl, ?_⟩, fun hnone => ⟨_, rfl, ?_⟩⟩⟩
  · have hif : (if s.ftb % 1000 = 0 && s.qos.refillAt != s.ftb then s.refill else s) = s.refill := if_pos (by simp [hdue, hat])
    rw [hif]
    refine (Tab.find_mapped s.qos.tshapers (fun k x => x.refilled (s.get .tshaperRate k) (s.get .tshaperBurst k)) k).trans ?_
    rw [hx, Option.map_some, ShaperState.refilled, if_neg hrate]
  · exact if_neg (by simp [hdue])
  · have hnext : (s.takeoverDue p.val) ≠ true := by simp [hno]
    rw [if_neg hnext, if_pos (by simp [hloaded, hend] : (_ && _) = true), State.nextEntry]
    exact (State.noteOpened_entry ..).trans (congrArg TimetableState.entry (State.timetable_modTimetable ..))
  · rw [if_pos htake]
    obtain ⟨hactive, hloaded, harmed⟩ := s.takeover_bank p.val
    exact ⟨hactive, hloaded, harmed, s.takeover_entry p.val⟩
  · exact s.sampled_queues (p, q) (s.mem_queues.2 ⟨⟨hp, hok⟩, hq⟩)
  · rw [if_pos (by simp [hdue, hat])]
    exact (s.modQos (fun q => { q with devloadAt := s.ftb })).closeWindows_counts p (s.mem_livePorts.2 ⟨hp, hok⟩)
  · rw [if_pos (by simp [hruns, hdue])]
    exact congrArg (fun (t : State) => t.modQos (fun q => { q with adjustAt := s.ftb })) (s.taskCommit_passes hne hg hfree hp)
  · rw [if_pos (by simp [hruns, hdue])]
    exact congrArg (fun (t : State) => t.modQos (fun q => { q with adjustAt := s.ftb })) (s.taskCommit_nil hnone)

end Sys2Proof.Machine
end

section
/-! Lane events of a station (O39): a remap, margining, the end of an eye scan and the lock of a checker (R141, R170, R177, R178). -/

namespace Sys2Proof.Machine

section
variable (s : State)

theorem State.clearTimetable_ports (p : Nat) : (s.clearTimetable p).ports = s.ports ∧ (s.clearTimetable p).stations = s.stations := by
  have hfields : ∀ (l : List Fld) (t : State),
      ((l.foldl (fun s f => s.unput f p 0) t).ports, (l.foldl (fun s f => s.unput f p 0) t).stations) = (t.ports, t.stations) := fun l t =>
    foldl_keeps (f := fun (s : State) f => s.unput f p 0) (p := fun s => (s.ports, s.stations)) (fun _ _ => rfl) l t
  have hentries : ∀ (l : List Nat) (t : State), (fun s : State => (s.ports, s.stations)) (l.foldl (fun s i =>
      if s.isPut .ttentryGates p i || s.isPut .ttentryDuration p i then
        ((s.unput .ttentryGates p i).unput .ttentryDuration p i).bump clsTtEntry p i else s) t) = (t.ports, t.stations) := fun l t =>
    foldl_keeps (p := fun s => (s.ports, s.stations)) (fun s i => by split <;> rfl) l t
  unfold State.clearTimetable
  generalize List.range 512 = l
  exact ⟨.trans (congrArg Prod.fst (hentries l _)) (by exact congrArg Prod.fst (hfields _ s)),
    .trans (congrArg Prod.snd (hentries l _)) (by exact congrArg Prod.snd (hfields _ s))⟩

/-- A port whose number the lanes no longer have, or have anew, starts from its after-reset values (R141). -/
def State.vacatePort (p : Nat) : State := (({ s with ports := Tab.drop s.ports p }).clearObject clsPort p 0).clearTimetable p

theorem State.vacatePort_ports (p : Nat) : (s.vacatePort p).ports = Tab.drop s.ports p := (State.clearTimetable_ports ..).1

theorem State.vacatePort_stations (p : Nat) : (s.vacatePort p).stations = s.stations := (State.clearTimetable_ports ..).2

theorem State.vacatePorts_port (l : List Nat) (t : State) (q : Nat) :
    (l.foldl State.vacatePort t).port q = if q ∈ l then {} else t.port q := by
  induction l generalizing t with
  | nil => rfl
  | cons p l ih =>
    have hport : (t.vacatePort p).port q = if q = p then {} else t.port q := by
      unfold State.port
      rw [State.vacatePort_ports]
      split_ifs with h
      · rw [h, Tab.get_drop_self]
      · exact Tab.get_drop_ne _ _ (Ne.symm h)
    rw [List.foldl_cons, ih, hport]
    by_cases hl : q ∈ l <;> by_cases hp : q = p <;> simp [hl, hp]

theorem execLaneRemap_vacates {st : Station} {old : Nat} (h : (s.station st.val).remapFrom = some old) :
    exec (.laneRemap st) s = .next (([2 * st.val, 2 * st.val + 1].filter (fun p => (bifurcPorts st.val (s.get .stationBifurc st.val)).contains p !=
      (bifurcPorts st.val old).contains p)).foldl State.vacatePort (s.modStation st.val (fun x => { x with remapFrom := none }))) := by
  refine congrArg Host.Outcome.next ?_
  rw [h]
  rfl

theorem State.settleTest_active (k : Nat) : ((s.settleTest k).lane k).test.active = (s.lane k).test.active := by
  unfold State.settleTest
  dsimp only
  split
  · rw [State.lane_modLane_self]
  · rfl

theorem State.endScan_test (k : Nat) : ((s.endScan k).lane k).test = (s.lane k).test := by
  rw [State.endScan, State.lane_modLane_self]

theorem State.settleTest_ftb (k : Nat) : (s.settleTest k).ftb = s.ftb := by
  unfold State.settleTest
  dsimp only
  split <;> rfl

theorem execPrbsCheckerLock_locks {st : Station} {ln : LaneOf} {b : Bool} (hactive : (s.lane (8 * st.val + ln.val)).test.active = true)
    (hawake : (s.station st.val).sidingState = .awake) :
    Leads (.prbsCheckerLock st ln b) s (fun t => (t.lane (8 * st.val + ln.val)).test.lock = b ∧
      (t.lane (8 * st.val + ln.val)).test.lockedAt = s.ftb) := by
  refine ⟨_, rfl, ?_⟩
  rw [if_pos (by simp [hactive, hawake])]
  cases b with
  | true => simp
  | false => simp [State.endScan_test]

theorem State.raiseVector_lanes (n : Nat) (owner : Option Nat) : (s.raiseVector n owner).lanes = s.lanes :=
  (congrArg State.lanes (s.raiseVector_still n owner) :)

/-- The end of an eye scan leaves its grid where the order asked for it (R177). -/
theorem execEyeScanEnd_writes {st : Station} {ln : LaneOf} {early : Bool} {errors : List Nat} {e : EyeScan}
    (hscan : (s.lane (8 * st.val + ln.val)).scan = some e) (hmargin : (s.lane (8 * st.val + ln.val)).margining = true → early = true)
    (hearly : early = e.lost.isSome) :
    Leads (.eyeScanEnd st ln early errors) s (fun t => (t.lane (8 * st.val + ln.val)).scan = none ∧
      t.pool = memPutBytes s.pool e.addr (e.result st.val ln.val e.rate (e.lost.getD s.ftb) early errors)) := by
  refine ⟨_, rfl, ?_⟩
  have hgo : ¬ (e.lost.isSome != early || ((s.lane (8 * st.val + ln.val)).margining && !early)) = true := by
    simpa [← hearly] using hmargin
  rw [hscan]
  dsimp only
  rw [if_neg hgo]
  generalize e.result st.val ln.val e.rate (e.lost.getD s.ftb) early errors = r
  constructor
  · have hlanes : ∀ (t : State) (n : Nat) (k : Nat), (t.raiseVector n (some 0)).lane k = t.lane k := fun t n k =>
      congrArg (fun l => Tab.get ({} : Lane) l k) (t.raiseVector_lanes n _)
    rw [hlanes]
    exact congrArg Lane.scan (s.lane_modLane_self (8 * st.val + ln.val) (fun l => { l with scan := none }))
  · exact State.raiseVector_pool ..

end

/-- Settles O39. -/
theorem laneEvents : Obligations.LaneEvents := by
  intro st s
  refine ⟨fun old hold _ => ⟨_, execLaneRemap_vacates s hold, ?_, fun p => ?_⟩, fun ln => ⟨fun hm hcan => ⟨_, rfl, ?_⟩, ⟨_, rfl, rfl⟩,
    fun e early errors hscan hmargin hearly _ => ?_, fun b hactive hawake => execPrbsCheckerLock_locks s hactive hawake⟩⟩
  · have hstations : ∀ (l : List Nat) (t : State), (l.foldl State.vacatePort t).stations = t.stations := fun l t =>
      foldl_keeps (p := State.stations) State.vacatePort_stations l t
    refine (congrArg (fun l => (Tab.get ({} : StationState) l st.val).remapFrom) (hstations _ _)).trans ?_
    exact congrArg StationState.remapFrom (s.station_modStation_self st.val (fun x => { x with remapFrom := none }))
  · rw [State.vacatePorts_port]
    simp only [List.mem_filter, List.mem_cons, List.not_mem_nil, or_false, bne_iff_ne]
    rfl
  · rw [if_neg (by simp [hm, hcan])]
    rfl
  · refine (execEyeScanEnd_writes s hscan hmargin hearly).mono fun t ht => ?_
    obtain ⟨hlane, hpool⟩ := ht
    rw [hpool]
    exact ⟨hlane, memBytes_memPutBytes .., fun a ha => memByte_memPutBytes_ne _ _ _ _ ha⟩

end Sys2Proof.Machine
end

section
/-! The management bus, MCTP control, DOE discovery and the debug masters (O35): each request that reaches its endpoint is answered there,
and a debug access that the lifecycle leaves open reads or writes one byte (R400, R401, R534 to R537, R631). -/

namespace Sys2Proof.Machine

section
variable (s : State)

/-! ### Answers on the bus, in VDMs and on Trunk ports -/

/-- An endpoint can be reached: the bus at all times, the VDM endpoint on a management port that is up, a Trunk endpoint on an active
port (R534). -/
def State.endpointUp (s : State) : Endpoint → Prop
  | .bus => True
  | .vdm => ∃ p, s.mgmtPort = some p ∧ s.portUp p = true
  | .trunk p => s.trunkAt p.val .active = true

theorem State.atEndpoint_reached {s : State} {e : Endpoint} (hrun : s.power.step = .run) (hmc : s.mcRuns = true) (he : s.endpointUp e)
    (body : State → State) : s.atEndpoint e body = body s := by
  cases e with
  | bus => rw [State.atEndpoint, State.fromBus_runs hrun, hmc, Bool.true_or, if_pos rfl]
  | vdm =>
    obtain ⟨p, hp, hup⟩ := he
    rw [State.atEndpoint, hp]
    exact if_pos (by simp [hup, hmc])
  | trunk p => exact if_pos (by simp [show s.trunkAt p.val .active = true from he, hmc])

theorem State.trunkMessage_sec (p n : Nat) (l : List Byte) : (s.trunkMessage p n l).sec = s.sec := by
  induction n generalizing s l with
  | zero => rfl
  | succ n ih =>
    unfold State.trunkMessage
    split
    · rfl
    · exact ih _ _

@[simp] theorem State.mctpAnswer_sec (e : Endpoint) (c : Nat) (l : List Byte) : (s.mctpAnswer e c l).sec = s.sec := by
  cases e with
  | trunk p => exact (State.emit_sec ..).trans (s.trunkMessage_sec ..)
  | _ => exact s.emit_sec _

theorem State.mctpAnswer_sent (e : Endpoint) (c : Nat) (l : List Byte) : (s.mctpAnswer e c l).sent (.mctp e c l) := by
  cases e <;> exact State.emit_sent _ _ rfl

theorem State.setEid_eid (e : Endpoint) (v : Nat) : (s.setEid e v).eid e = v := by
  cases e with
  | trunk p => exact Tab.get_set_self ..
  | _ => rfl

theorem State.mctpAnswer_eid (e e' : Endpoint) (c : Nat) (l : List Byte) : (s.mctpAnswer e c l).eid e' = s.eid e' := by
  cases e' <;> simp [State.eid]

theorem State.randomBytes_length (n : Nat) : (s.randomBytes n []).2.length = n :=
  (s.randomBytes_drawn n []).1.trans (Nat.zero_add n)

theorem mctpTypes_accepts {e : Endpoint} {ty : Nat} (h : ty ∈ mctpTypes e) : (0 :: mctpTypes e).contains ty = true := by
  simp [h]

/-- What the endpoints of a state answer to MCTP control (R534, R535). -/
theorem State.endpoint_answers {e : Endpoint} (hrun : s.power.step = .run) (hmc : s.mcRuns = true) (he : s.endpointUp e) :
    (∀ eid : Byte, eid ≠ 0 → eid ≠ 0xFF →
      Leads (.setEndpointId e eid) s (fun t => t.eid e = eid.toNat ∧ t.sent (.mctp e 0x01 [0, 0, eid, 0]))) ∧
    Leads (.getEndpointId e) s (fun t => t.sent (.mctp e 0x02 [0, BitVec.ofNat 8 (s.eid e), 0, 0])) ∧
    (∀ ty : Byte, ty.toNat ∈ mctpTypes e →
      Leads (.getMctpVersionSupport e ty) s (fun t => ∃ v : List Byte, v.length = 4 ∧ t.sent (.mctp e 0x04 ([0, 1] ++ v)))) ∧
    Leads (.getMessageTypeSupport e) s (fun t =>
      t.sent (.mctp e 0x05 ([0, BitVec.ofNat 8 (mctpTypes e).length] ++ (mctpTypes e).map (BitVec.ofNat 8)))) ∧
    (∀ p, e = .trunk p → Leads (.getVendorMessageSupport e) s (fun t =>
      ∃ v : List Byte, v.length = 2 ∧ t.sent (.mctp e 0x06 ([0, 0xFF, 0, 0x1D, 0x74] ++ v)))) := by
  have reached := State.atEndpoint_reached hrun hmc he
  refine ⟨fun eid h0 hFF => ⟨_, rfl, ?_⟩, ⟨_, rfl, ?_⟩, fun ty hty => ⟨_, rfl, ?_⟩, ⟨_, rfl, ?_⟩, fun p hp => ⟨_, rfl, ?_⟩⟩ <;>
    rw [reached]
  · rw [if_neg (by simpa using ⟨h0, hFF⟩)]
    exact ⟨(State.mctpAnswer_eid ..).trans (s.setEid_eid ..), State.mctpAnswer_sent ..⟩
  · exact State.mctpAnswer_sent ..
  · rw [if_pos (by rw [mctpTypes_accepts hty, Bool.or_true])]
    exact ⟨_, s.randomBytes_length 4, State.mctpAnswer_sent ..⟩
  · exact State.mctpAnswer_sent ..
  · subst hp
    exact ⟨_, s.randomBytes_length 2, State.mctpAnswer_sent ..⟩

theorem execDoeDiscovery_sent {v : Vcs} (h : s.uspReachable v.val = true) {i : Byte} (hi : i.toNat ≤ 2) :
    Leads (.doeDiscovery v i) s (fun t => t.sent (.doe v.val [0x01, 0x00, i, if i.toNat = 2 then 0 else i + 1])) := by
  refine ⟨_, rfl, ?_⟩
  rw [if_pos h, if_pos hi]
  exact State.emit_sent _ _ rfl

/-! ### Debug masters -/

theorem State.awake_of_run {s : State} (h : s.power.step = .run) : s.awake = true := by
  simp [State.awake, h]

theorem execDebugAccess_write {t : DebugTarget} {addr : Nat} {b : Byte} (hrun : s.power.step = .run) (h : s.debugOpen t true = true) :
    exec (.debugAccess t addr (some b)) s = .next ((s.debugPut t addr b).emit (.debugReply 0 false)) := by
  refine congrArg Host.Outcome.next ?_
  rw [if_neg (by simp [State.awake_of_run hrun]), if_neg (by simp [h])]

theorem execDebugAccess_read {t : DebugTarget} {addr v : Nat} (hrun : s.power.step = .run) (h : s.debugOpen t false = true)
    (hv : s.debugByte t addr = some v) : exec (.debugAccess t addr none) s = .next (s.emit (.debugReply v false)) := by
  refine congrArg Host.Outcome.next ?_
  rw [if_neg (by simp [State.awake_of_run hrun]), if_neg (by simp [h]), hv]

theorem execDebugAccess_free {t : DebugTarget} {addr : Nat} (hrun : s.power.step = .run) (h : s.debugOpen t false = true)
    (hv : s.debugByte t addr = none) :
    exec (.debugAccess t addr none) s = .next (s.drawn.emit (.debugReply (s.free % 256) false)) := by
  refine congrArg Host.Outcome.next ?_
  rw [if_neg (by simp [State.awake_of_run hrun]), if_neg (by simp [h]), hv]

theorem execDebugAccess_locked {t : DebugTarget} {addr : Nat} {w : Option Byte} (hrun : s.power.step = .run) (h : s.debugOpen t w.isSome = false) :
    exec (.debugAccess t addr w) s = .next ((s.logSecurity (.debugAccess addr s.ftb w.isSome)).emit (.debugReply 0 true)) := by
  refine congrArg Host.Outcome.next ?_
  rw [if_neg (by simp [State.awake_of_run hrun]), if_pos (by simp [h])]

/-- A record that the limit leaves room for, with none left out before it, is the log's last (R555). -/
theorem Ledger.note_appends {l : Ledger} (hex : l.excess = 0) (hroom : l.securityTicks.length < securityLimit) (now : Nat) (r : SecurityRecord) :
    (l.note now r).security = l.security ++ [r] := by
  have hrecent := List.length_filter_le (fun t => decide (now < t + 100000000000)) l.securityTicks
  unfold Ledger.note
  dsimp only
  rw [if_pos hex, if_neg]
  rw [List.length_singleton]
  omega

theorem State.debugPut_lever (c : Core) {addr : Nat} (h : addr < 0x40000) (b : Byte) :
    s.debugPut (.tenantLeverMemory c) addr b = s.leverWrite c.val addr 1 b.toNat := by
  have hread : mayRead addr = true := (mayRead_iff addr).2 (.inl h)
  unfold State.debugPut State.debugLever
  have hlow : ¬ (0x1000000 ≤ addr ∧ addr < 0x1400000) := by omega
  simp only [hread, if_true, Bool.and_eq_true, decide_eq_true_eq, if_neg hlow]

/-- A byte written in a core's local memory is the byte it reads there, and every other byte of every core's map is as before. -/
theorem State.leverWrite_local {c addr : Nat} (h : addr < 0x40000) (b : Byte) :
    (s.leverWrite c addr 1 b.toNat).leverRead c addr 1 = b.toNat ∧
    ∀ d a, d ≠ c ∨ a ≠ addr → (s.leverWrite c addr 1 b.toNat).leverRead d a 1 = s.leverRead d a 1 := by
  have hlow : addr < 0x1000000 := by omega
  unfold State.leverWrite State.leverRead
  simp only [if_pos hlow]
  constructor
  · rw [State.core_modCore_self]
    exact (memNat_memPutNat ..).trans (Nat.mod_eq_of_lt (by simpa using b.isLt))
  · intro d a hda
    rw [State.core_modCore]
    by_cases hdc : c = d
    · subst hdc
      have hne : a < addr ∨ addr + 1 ≤ a := by omega
      have hmem := memNat_memPutNat_ne (s.core c).mem b.toNat hne
      rw [if_pos rfl]
      exact ite_congr rfl (fun _ => hmem) (fun _ => rfl)
    · rw [if_neg hdc]
      rfl

end

/-- Settles O35. -/
theorem managementAndDebug : Obligations.ManagementAndDebug := by
  refine ⟨fun s hrun => ⟨fun hi3c => ⟨_, rfl, ?_⟩, fun hi3c b a => ⟨_, rfl, ?_⟩, fun e hmc he => ?_, fun v hv => ?_⟩,
    fun target addr s hrun => ⟨fun hopen v hv => ⟨_, execDebugAccess_read s hrun hopen hv, ?_⟩,
      fun hopen hv => ⟨_, execDebugAccess_free s hrun hopen hv, ?_⟩, fun b c htarget hopen haddr _ => ⟨_, execDebugAccess_write s hrun hopen, ?_⟩,
      fun b htarget hopen _ => ⟨_, execDebugAccess_write s hrun hopen, ?_⟩, fun w hlocked => ⟨_, execDebugAccess_locked s hrun hlocked, ?_⟩⟩⟩
  · rw [hi3c, State.fromBus_runs hrun]
    exact State.emit_sent _ _ rfl
  · rw [hi3c, State.fromBus_runs hrun]
    rfl
  · exact s.endpoint_answers hrun hmc (by cases e <;> exact he)
  · exact ⟨execDoeDiscovery_sent s hv (i := 0) (by decide), execDoeDiscovery_sent s hv (i := 1) (by decide),
      execDoeDiscovery_sent s hv (i := 2) (by decide)⟩
  · exact ⟨State.emit_sent _ _ rfl, State.emit_pool .., State.emit_lev ..⟩
  · exact ⟨s.free % 256, Nat.mod_lt _ (by decide), State.emit_sent _ _ rfl⟩
  · subst htarget
    obtain ⟨hself, hother⟩ := s.leverWrite_local (c := c.val) haddr b
    rw [s.debugPut_lever c haddr]
    have hread : ∀ (t : State) (m : Msg) (d a : Nat), (t.emit m).leverRead d a 1 = t.leverRead d a 1 := fun t m d a =>
      State.leverRead_congr (by rw [State.emit_core]) (by rw [State.emit_lev]) (by rw [State.emit_lev])
    refine ⟨(hread ..).trans hself, ?_, fun d a hda => (hread ..).trans (hother d a hda)⟩
    rw [State.emit_pool]
    unfold State.leverWrite
    split <;> rfl
  · subst htarget
    have hpool := State.emit_pool (s.debugPut .tenantPool addr b) (.debugReply 0 false)
    refine ⟨?_, State.emit_lev .., fun a ha => ?_⟩ <;> rw [hpool]
    · exact memByte_memPut_self ..
    · exact memByte_memPut_ne _ _ (Ne.symm ha)
  · refine ⟨State.emit_sent _ _ rfl, State.emit_pool .., State.emit_lev .., fun hex hroom => ?_⟩
    rw [State.emit_ledger]
    exact Ledger.note_appends hex hroom s.ftb _

end Sys2Proof.Machine
end

section
/-! SPDM (O36): a request that reaches the responder is answered at its place; measurements and challenges are signed, sessions open and
take their next keys, and the owner's chain is stored (R547 to R551, R563). -/

namespace Sys2Proof.Machine

section
variable (s : State)

/-- A requester can be reached at its place (R549). -/
def State.spdmUp (s : State) : SpdmEnd → Prop
  | .bus => True
  | .vdm => ∃ p, s.mgmtPort = some p ∧ s.portUp p = true
  | .trunk p => s.trunkAt p.val .active = true
  | .doe v => s.uspReachable v.val = true

variable {s} {e : SpdmEnd}

/-- A request that reaches the MC is served, or told to wait while activation pauses the MC (R550). -/
theorem State.atSpdm_reached (hrun : s.power.step = .run) (hmc : s.mcRuns = true) (he : s.spdmUp e) (body : State → State) :
    s.atSpdm e body = if s.mcPaused then s.spdmError e 0x42 [13] else body s := by
  cases e with
  | bus => simp [State.atSpdm, State.fromBus_runs hrun, hmc]
  | vdm =>
    obtain ⟨p, hp, hup⟩ := he
    simp [State.atSpdm, hp, hup, hmc]
  | trunk p => simp [State.atSpdm, show s.trunkAt p.val .active = true from he, hmc]
  | doe v => simp [State.atSpdm, show s.uspReachable v.val = true from he, hmc]

theorem State.atSpdm_served (hrun : s.power.step = .run) (hmc : s.mcRuns = true) (he : s.spdmUp e) (hp : s.mcPaused = false)
    (body : State → State) : s.atSpdm e body = body s := by
  rw [State.atSpdm_reached hrun hmc he, hp]
  exact if_neg (by decide)

theorem State.offered_used (h : s.sec.lifecycle ≠ 3) (body : State → State) : s.offered e body = body s := if_neg h

theorem State.inSession_open {n : Nat} {x : Session} (hx : Tab.find s.sec.sessions n = some x) (hplace : x.place = e)
    (body : State → Session → State) : s.inSession e n body = body s x := by
  rw [State.inSession, hx]
  exact if_pos hplace

theorem State.trunkMessage_ledger (s : State) (p n : Nat) (l : List Byte) : (s.trunkMessage p n l).ledger = s.ledger := by
  induction n generalizing s l with
  | zero => rfl
  | succ n ih =>
    unfold State.trunkMessage
    split
    · rfl
    · exact ih _ _

theorem State.spdmAnswer_sent (s : State) (e : SpdmEnd) (c : Nat) (l : List Byte) : (s.spdmAnswer e c l).sent (.spdm e c l) := by
  cases e <;> exact State.emit_sent _ _ rfl

theorem State.spdmAnswer_sec (s : State) (e : SpdmEnd) (c : Nat) (l : List Byte) : (s.spdmAnswer e c l).sec = s.sec := by
  cases e with
  | trunk p => exact (State.emit_sec ..).trans (s.trunkMessage_sec ..)
  | _ => exact s.emit_sec _

theorem State.spdmAnswer_ledger (s : State) (e : SpdmEnd) (c : Nat) (l : List Byte) : (s.spdmAnswer e c l).ledger = s.ledger := by
  cases e with
  | trunk p => exact (State.emit_ledger ..).trans (s.trunkMessage_ledger ..)
  | _ => exact s.emit_ledger _

theorem State.randomBytes_sec (s : State) (n : Nat) (l : List Byte) : (s.randomBytes n l).1.sec = s.sec := by
  induction n generalizing s l with
  | zero => rfl
  | succ n ih => exact ih s.drawn _

/-- The error's bytes are its code, a zero byte, and what the code brings. -/
theorem State.spdmError_sent (s : State) (e : SpdmEnd) (code : Nat) (more : List Byte) :
    (s.spdmError e code more).sent (.spdm e 0x7F ([BitVec.ofNat 8 code, 0] ++ more)) := State.spdmAnswer_sent ..

end

/-- Settles O36. -/
theorem spdmRequests : Obligations.SpdmRequests := by
  intro e s hrun hmc he
  have hup : s.spdmUp e := by cases e <;> exact he
  refine ⟨fun hpaused n => ⟨_, rfl, ?_⟩, fun hp => ?_⟩
  · rw [State.atSpdm_reached hrun hmc hup, if_pos hpaused]
    exact s.spdmError_sent e 0x42 [13]
  have served := State.atSpdm_served hrun hmc hup hp
  refine ⟨fun n hlc => ⟨_, rfl, ?_⟩, fun hlc => ⟨_, rfl, ?_⟩, fun hlc => ⟨fun k hk => ⟨⟨_, rfl, ?_⟩, fun n => ⟨_, rfl, ?_⟩⟩, fun k hk => ⟨_, rfl, ?_⟩,
    fun hfree => ⟨_, rfl, ?_⟩⟩, fun n x hx hplace => ⟨⟨_, rfl, ?_⟩, ⟨_, rfl, ?_⟩⟩, fun hvdm chain hlen => ⟨_, rfl, ?_⟩⟩ <;> rw [served]
  · simp only [if_neg hlc]
    exact State.spdmAnswer_sent ..
  · rw [State.offered, if_pos hlc]
    exact s.spdmError_sent e 7 []
  · rw [State.offered_used hlc, if_neg (by simpa using hk)]
    exact State.spdmAnswer_sent ..
  · rw [State.offered_used hlc, if_neg (by simpa using hk)]
    have hsec := s.randomBytes_sec 32 []
    have hlen := s.randomBytes_length 32
    generalize s.randomBytes 32 [] = drawn at hsec hlen
    obtain ⟨s1, own⟩ := drawn
    refine ⟨own, hlen, ?_⟩
    rw [← hsec]
    exact State.spdmAnswer_sent ..
  · rw [State.offered_used hlc, if_pos (by simp [hk])]
    exact s.spdmError_sent e 1 []
  · rw [State.offered_used hlc, if_neg (by simp [hfree])]
    exact ⟨(congrArg (fun x : Security => Tab.find x.sessions s.sec.nextSession) (State.spdmAnswer_sec ..)).trans (Tab.find_set_self ..),
      congrArg Security.nextSession (State.spdmAnswer_sec ..)⟩
  · rw [State.inSession_open hx hplace]
    refine ⟨?_, State.spdmAnswer_sent ..⟩
    rw [State.spdmAnswer_sec]
    exact Tab.find_set_self ..
  · rw [State.inSession_open hx hplace]
    exact ⟨State.spdmAnswer_sent .., State.spdmAnswer_sec ..⟩
  · rw [if_pos (by simp [hvdm, hlen])]
    refine ⟨?_, State.spdmAnswer_sent ..⟩
    rw [State.spdmAnswer_ledger]
    rfl

end Sys2Proof.Machine
end

section
/-! SUPPORT. What taking frames into the core leaves alone: everything beyond the core's own queues, the ports, the object store, the
messages that leave, and the tenants (R270 to R283). -/

namespace Sys2Proof.Machine

/-- A state without the parts that frames in the core, messages and counters change. -/
def State.beyond (s : State) : State := { s.still with sw := {}, ports := [] }

section
variable (s : State)

theorem State.beyond_of_still {s t : State} (h : t.still = s.still) : t.beyond = s.beyond :=
  (congrArg (fun u : State => { u with sw := {}, ports := [] }) h :)

@[simp] theorem State.emit_beyond (m : Msg) : (s.emit m).beyond = s.beyond := State.beyond_of_still (s.emit_still m)

@[simp] theorem State.countPort_beyond (p ev : Nat) (a : EventAttrs) (n : Nat) : (s.countPort p ev a n).beyond = s.beyond :=
  State.beyond_of_still (s.countPort_still ..)

@[simp] theorem State.count_beyond (u ev : Nat) (a : EventAttrs) (n : Nat) : (s.count u ev a n).beyond = s.beyond :=
  State.beyond_of_still (s.count_still ..)

@[simp] theorem State.modSw_beyond (f : Switch → Switch) : (s.modSw f).beyond = s.beyond := rfl

@[simp] theorem State.modPort_beyond (p : Nat) (f : PortState → PortState) : (s.modPort p f).beyond = s.beyond := rfl

@[simp] theorem State.modWindow_beyond (t : Nat) (f : TenantWindow → TenantWindow) : (s.modWindow t f).beyond = s.beyond := rfl

@[simp] theorem State.countDropped_beyond (f : Frame) : (s.countDropped f).beyond = s.beyond := by
  unfold State.countDropped
  dsimp only
  split <;> simp

@[simp] theorem State.releaseCredit_beyond (p c w : Nat) : (s.releaseCredit p c w).beyond = s.beyond := by
  unfold State.releaseCredit
  split
  · rfl
  · split <;> rfl

@[simp] theorem State.freeCredit_beyond (k : FrameKind) (p c w : Nat) : (s.freeCredit k p c w).beyond = s.beyond := by
  unfold State.freeCredit
  split
  · exact s.releaseCredit_beyond ..
  · split
    · rfl
    · exact s.releaseCredit_beyond ..
  · exact s.releaseCredit_beyond ..

@[simp] theorem State.removeFrame_beyond (n : Nat) : (s.removeFrame n).beyond = s.beyond := by
  unfold State.removeFrame
  cases s.frame n with
  | none => rfl
  | some f =>
    dsimp only
    simp only [apply_ite State.beyond, State.freeCredit_beyond, State.modPort_beyond, State.modSw_beyond, ite_self]

theorem State.pushOut_beyond (below need k : Nat) : (s.pushOut below need k).beyond = s.beyond := by
  induction k generalizing s with
  | zero => rfl
  | succ k ih =>
    unfold State.pushOut
    split
    · rfl
    · split
      · rfl
      · dsimp only
        simp only [ih, State.removeFrame_beyond, State.countDropped_beyond]

theorem State.makeRoom_beyond {s t : State} {below need : Nat} (h : s.makeRoom below need = some t) : t.beyond = s.beyond := by
  unfold State.makeRoom at h
  dsimp only at h
  split at h
  · obtain rfl := Option.some.inj h
    exact s.pushOut_beyond ..
  · cases h

@[simp] theorem State.takeLoans_beyond (p k : Nat) : (s.takeLoans p k).beyond = s.beyond := by
  induction k generalizing s with
  | zero => rfl
  | succ k ih =>
    unfold State.takeLoans
    split
    · split
      next t ht => rw [ih, State.modPort_beyond, State.makeRoom_beyond ht]
      next => rfl
    · rfl

@[simp] theorem State.overdraw_beyond (f : Frame) : (s.overdraw f).beyond = s.beyond := by
  unfold State.overdraw
  simp

theorem State.charge_beyond {s t : State} {f : Frame} {n : Nat} (h : s.charge f = some (t, n)) : t.beyond = s.beyond := by
  have hroom : ((s.makeRoom f.cls f.wagons).map (fun s1 => (s1, 3))) = some (t, n) → t.beyond = s.beyond := by
    intro h
    obtain ⟨u, hu, he⟩ := Option.map_eq_some_iff.1 h
    obtain ⟨rfl, -⟩ := Prod.mk.inj he
    exact State.makeRoom_beyond hu
  have hself : ∀ {u : State} {m : Nat}, u.beyond = s.beyond → some (u, m) = some (t, n) → t.beyond = s.beyond := by
    intro u m hu h
    obtain ⟨rfl, -⟩ := Prod.mk.inj (Option.some.inj h)
    exact hu
  unfold State.charge at h
  dsimp only at h
  split at h
  · split at h
    · exact hself rfl h
    · split at h
      · cases h
      · split at h
        · exact hself rfl h
        · exact hroom h
  · split at h
    · exact hself rfl h
    · split at h
      · exact hself rfl h
      · refine hself ?_ h
        split
        · exact s.overdraw_beyond f
        · rfl

@[simp] theorem State.toSpread_beyond (n : Nat) : (s.toSpread n).beyond = s.beyond := by
  unfold State.toSpread
  split
  · rfl
  · dsimp only
    split <;> rfl

@[simp] theorem State.takeIn_beyond (f : Frame) (admission : Bool) : (s.takeIn f admission).beyond = s.beyond := by
  unfold State.takeIn
  split
  next => exact s.countDropped_beyond f
  next u n h =>
    have hu := State.charge_beyond h
    dsimp only
    split
    · rw [State.modSw_beyond, State.takeLoans_beyond, State.modSw_beyond, hu]
    · rw [State.toSpread_beyond, State.takeLoans_beyond, State.modSw_beyond, hu]

@[simp] theorem State.mirror_beyond (p dir : Nat) (f : FrameIn) (len tenant : Nat) : (s.mirror p dir f len tenant).beyond = s.beyond := by
  unfold State.mirror
  refine foldl_keeps (p := State.beyond) (fun s m => ?_) _ s
  dsimp only
  split
  · exact State.takeIn_beyond ..
  · rfl

@[simp] theorem State.sendWrap_beyond (src : FrameIn) (port cls tenant tag : Nat) (header body : List Byte) (len : Nat) :
    (s.sendWrap src port cls tenant tag header body len).beyond = s.beyond := State.takeIn_beyond ..

/-- A read that the core takes in, or answers at once where its port is down and its queues are not being flushed (R286). -/
theorem State.sendFrame_read_beyond (f : FrameIn) (hk : f.kind = .ioRead) (cache order tenant dport : Nat) (vppb : Option (Nat × Nat))
    (toLd : Option Nat) (fabric : Option (BitVec 12 × BitVec 12)) :
    (s.sendFrame f cache order tenant dport vppb toLd fabric).beyond = s.beyond := by
  have hlost : ∀ t : State, t.countLost.beyond = t.beyond := fun _ => rfl
  have hanswer : ∀ (t : State) (frm to_ tag ldid addr tenant : Nat) (v : Option (Nat × Nat)),
      (t.answerDiscarded false frm to_ tag ldid .ioRead v addr tenant).beyond = t.beyond := fun t _ _ _ _ _ _ _ => t.emit_beyond _
  unfold State.sendFrame
  simp only [hk, apply_ite State.beyond, hanswer, hlost, State.takeIn_beyond, State.mirror_beyond, ite_self]

@[simp] theorem State.spendCredit_beyond (p c w : Nat) : (s.spendCredit p c w).beyond = s.beyond := rfl

theorem State.withCredit_beyond (k : FrameKind) (p c w : Nat) (act : State → State) :
    (s.withCredit k p c w act).beyond = (act (s.spendCredit p c w)).beyond := by
  unfold State.withCredit
  dsimp only
  split
  · rfl
  · exact State.freeCredit_beyond ..

end

end Sys2Proof.Machine
end

section
/-! What a host writes and reads in its virtual switch (O44): each configuration request writes its registers of one vPPB or of the
switch, or is answered with a register's value; one for a bus below is sent down, or answered (R291 to R305, R370, R595, R599). -/

namespace Sys2Proof.Machine

section
variable (s : State)

/-- A configuration request for a bus below goes to the port its vPPB is bound to (R291, R292). -/
theorem State.configToBus_sent {v usp bus b p : Nat} {e : Option (Nat × Nat)} (hb : s.busTarget v bus = some b) (hr : s.routeVppb v b = .to p e)
    (hp : s.portUp p = true) (fn : Nat) (w : Bool) (reg d : Nat) :
    (s.configToBus v usp bus fn w reg d).sent (.configSent p w (fn * 4096 + reg) 0xF d) := by
  rw [State.configToBus, hb]
  dsimp only
  rw [hr]
  dsimp only
  rw [if_pos hp]
  exact State.emit_sent _ _ rfl

/-- A message that is an answer leaves where no far-side request has its tag. -/
theorem State.emit_answer_sent {p tag st : Nat} {b : Bool} (h : Tab.find s.junction.far tag = none) :
    (s.emit (.answer p tag st b)).sent (.answer p tag st b) :=
  s.emit_sent _ (by rw [State.farAnswerOf, h])

/-- A configuration request for a bus of no vPPB is an Unsupported Request (R292). -/
theorem State.configToBus_unrouted {v usp bus : Nat} (hb : s.busTarget v bus = none) (hfar : Tab.find s.junction.far 0 = none) (fn : Nat)
    (w : Bool) (reg d : Nat) : (s.configToBus v usp bus fn w reg d).sent (.answer usp 0 ansUR false) := by
  rw [State.configToBus, hb]
  exact s.emit_answer_sent hfar

end

/-- Settles O44. -/
theorem hostConfiguration : Obligations.HostConfiguration := by
  intro v s usp husp
  dsimp only
  have leads : ∀ {r : ConfigRequest} {t : State} {post : State → Prop}, execConfigurationRequest v r s = .next t → post t →
      Leads (.configurationRequest v r) s post := fun h hp => ⟨_, h, hp⟩
  unfold execConfigurationRequest at leads
  rw [husp] at leads
  refine ⟨leads rfl (State.emit_sent _ _ rfl), fun b => ⟨leads rfl (State.emit_sent _ _ rfl), leads rfl (State.emit_sent _ _ rfl),
    fun lo hi => leads rfl rfl, fun base limit => leads rfl rfl, fun i j => leads rfl rfl, leads rfl rfl, fun en comp => leads rfl rfl,
    fun m => ⟨leads rfl rfl, leads rfl rfl, leads rfl rfl⟩⟩, fun d fn => leads rfl (State.emit_sent _ _ rfl),
    fun b c => leads rfl (State.emit_sent _ _ rfl), fun i base size g ts hok => leads (congrArg Host.Outcome.next (if_pos hok)) ?_,
    fun i base size idt => leads rfl ?_, fun i d => leads rfl ?_, fun bus fn w reg d => ⟨fun b p e hb hr hp => leads rfl ?_,
      fun hb hfar => leads rfl ?_⟩⟩
  · rw [State.vcs_modVcs_self]
    exact Tab.find_set_self ..
  · rw [State.vcs_modVcs_self]
    exact Tab.find_set_self ..
  · rw [State.vcs_modVcs_self]
    exact Tab.find_set_self ..
  · exact s.configToBus_sent hb hr hp ..
  · exact s.configToBus_unrouted hb hfar ..

end Sys2Proof.Machine
end

section
/-! Wraps between two devices, and the service buses (O45): what a wrap that arrives does to the tags of both ends, what stays open too
long, and how the accesses of a window follow one another (R315 to R325). -/

namespace Sys2Proof.Machine

section
variable (s : State)

/-! ### Wraps -/

/-- A state with other ports. -/
def State.withPorts (l : Tab PortState) : State := { s with ports := l }

/-- What a released wrap does (R315). -/
def State.unwrap (p : Port) (w : Wrap) : State :=
  match w.jkind.toNat with
  | 1 => s.wrapRequest p w
  | 2 => s.wrapCompletion p w
  | _ => s.modJunction (fun j => { j with discarded := j.discarded + 1 })

theorem State.releaseCredit_ports (p c w : Nat) : ∃ l, s.releaseCredit p c w = s.withPorts l := by
  unfold State.releaseCredit
  split
  · exact ⟨s.ports, rfl⟩
  · split <;> exact ⟨_, rfl⟩

theorem State.freeCredit_ports (k : FrameKind) (p c w : Nat) : ∃ l, s.freeCredit k p c w = s.withPorts l := by
  unfold State.freeCredit
  split
  · exact s.releaseCredit_ports p c w
  · split
    · exact ⟨s.ports, rfl⟩
    · exact s.releaseCredit_ports p c w
  · exact s.releaseCredit_ports p c w

theorem State.withCredit_ports (k : FrameKind) (p c w : Nat) (act : State → State) :
    ∃ l, s.withCredit k p c w act = (act (s.spendCredit p c w)).withPorts l := by
  unfold State.withCredit
  dsimp only
  split
  · exact ⟨_, rfl⟩
  · exact State.freeCredit_ports ..

theorem State.takeArrived_ports {s t : State} {p type : Nat} {ok : List Byte → Bool} {b : List Byte} (h : s.takeArrived p type ok = some (b, t)) :
    ∃ l, t = s.withPorts l := by
  obtain ⟨e, -, he⟩ := Option.map_eq_some_iff.1 h
  obtain ⟨-, rfl⟩ := Prod.mk.inj he
  exact ⟨_, rfl⟩

/-- A released wrap is unwrapped, and beside that only the ports change: the message's slots and its credit are freed (R220, R315). -/
theorem execJunctionWrapReceive_unwraps {p : Port} {w : Wrap} {b : List Byte} {s1 : State} (hproto : s.get .portProto p.val = 2)
    (hup : s.portUp p.val = true)
    (h : s.takeArrived p.val 0 (fun b => bitsOf (fieldAt b 0 8) 13 4 == 13 && wrapIs w (fieldAt b 16 8)) = some (b, s1)) {post : State → Prop}
    (hpost : ∀ l l', post (((s.withPorts l).unwrap p w).withPorts l')) : Leads (.junctionWrapReceive p w) s post := by
  refine ⟨_, rfl, ?_⟩
  rw [if_pos (by simp [hproto, hup]), h]
  obtain ⟨l, rfl⟩ := State.takeArrived_ports h
  obtain ⟨l', hl'⟩ := (s.withPorts l).withCredit_ports .wrap p.val (bitsOf (fieldAt b 0 8) 17 3) ((bitsOf (fieldAt b 0 8) 0 13 + 63) / 64)
    (fun s => s.unwrap p w)
  have hspent : (s.withPorts l).spendCredit p.val (bitsOf (fieldAt b 0 8) 17 3) ((bitsOf (fieldAt b 0 8) 0 13 + 63) / 64) =
    s.withPorts ((s.withPorts l).spendCredit p.val (bitsOf (fieldAt b 0 8) 17 3) ((bitsOf (fieldAt b 0 8) 0 13 + 63) / 64)).ports := rfl
  rw [hspent] at hl'
  exact (congrArg post hl').mpr (hpost _ l')

theorem State.unwrap_other {p : Port} {w : Wrap} (h1 : w.jkind ≠ 1) (h2 : w.jkind ≠ 2) :
    s.unwrap p w = s.modJunction (fun j => { j with discarded := j.discarded + 1 }) := by
  have h1 : w.jkind.toNat ≠ 1 := fun h => h1 (BitVec.eq_of_toNat_eq h)
  have h2 : w.jkind.toNat ≠ 2 := fun h => h2 (BitVec.eq_of_toNat_eq h)
  unfold State.unwrap
  split
  · exact absurd ‹_› h1
  · exact absurd ‹_› h2
  · rfl

theorem State.unwrap_completion {p : Port} {w : Wrap} (h : w.jkind = 2) : s.unwrap p w = s.wrapCompletion p w := by
  rw [State.unwrap, h]
  rfl

theorem State.unwrap_request {p : Port} {w : Wrap} (h : w.jkind = 1) : s.unwrap p w = s.wrapRequest p w := by
  rw [State.unwrap, h]
  rfl

theorem State.lateJunction_discarded (p win tag err : Nat) :
    (s.lateJunction p win tag err).junction.discarded = s.junction.discarded + 1 :=
  (congrArg (fun t : State => t.junction.discarded)
    (State.contain_still (s.modJunction (fun j => { j with discarded := j.discarded + 1 }))
      (ErrorAt.atUnit { code := 0x0601, place := p, detail := [win, tag, err] } 86)) :)

theorem State.wrapCompletion_late {p : Port} {w : Wrap} (h : Tab.find s.junction.near w.tag.val = none) :
    (s.wrapCompletion p w).junction.discarded = s.junction.discarded + 1 := by
  rw [State.wrapCompletion, h]
  exact s.lateJunction_discarded ..

/-- An error code becomes the host's answer, and the near tag is free (R319). -/
theorem State.wrapCompletion_error {p : Port} {w : Wrap} {r : NearRequest} (h : Tab.find s.junction.near w.tag.val = some r) (herr : w.err ≠ 0) :
    s.wrapCompletion p w = (s.modJunction (fun j => { j with near := Tab.drop j.near w.tag.val })).emit
      (.answer r.host r.hostTag (if w.err = 1 then ansUR else ansCA) false) := by
  rw [State.wrapCompletion, h]
  dsimp only
  split
  next h0 => exact absurd (BitVec.eq_of_toNat_eq h0) herr
  next h1 => rw [if_pos (BitVec.eq_of_toNat_eq h1)]
  next h1 => rw [if_neg (fun h => h1 (by rw [h]; rfl))]

/-- The requests open at the far end are not the core's. -/
theorem State.far_of_beyond {s t : State} (h : t.beyond = s.beyond) : t.junction.far = s.junction.far :=
  (congrArg (fun t : State => t.junction.far) h :)

theorem State.withPorts_check (l : Tab PortState) (f : FrameIn) (t : Nat) : (s.withPorts l).check f t = s.check f t := rfl

theorem State.withPorts_memAny (l : Tab PortState) (a : Nat) : (s.withPorts l).memAny a = s.memAny a := rfl

theorem State.withPorts_junction (l : Tab PortState) : (s.withPorts l).junction = s.junction := rfl

/-- A read that may pass and has a port takes the far-side tag and is sent on (R318). -/
theorem State.wrapRequest_read {p : Port} {w : Wrap} {k q : Nat} (hread : w.write = false)
    (hk : (List.range 4096).find? (fun k => (Tab.find s.junction.far k).isNone) = some k)
    (hcheck : ∀ reason rule, s.check (wrapFrame p w k) 0 ≠ .refused reason rule) (hq : s.memAny w.addr = some q) (l : Tab PortState) :
    (s.withPorts l).wrapRequest p w = ((s.withPorts l).modJunction (fun j => { j with
      far := Tab.set j.far k { port := p.val, window := w.win.toNat, nearTag := w.tag.val, takenAt := s.ftb } })).sendFrame
        (wrapFrame p w k) 3 1 0 q none := by
  have haddr : s.memAny (wrapFrame p w k).addr = some q := hq
  unfold State.wrapRequest
  rw [if_neg (by simp [hread]), State.withPorts_junction, hk]
  dsimp only
  rw [State.withPorts_check, State.withPorts_memAny, haddr]
  cases hc : s.check (wrapFrame p w k) 0 with
  | refused reason rule => exact absurd hc (hcheck reason rule)
  | _ => rfl

theorem State.wrapRequest_far {p : Port} {w : Wrap} {k q : Nat} (hread : w.write = false)
    (hk : (List.range 4096).find? (fun k => (Tab.find s.junction.far k).isNone) = some k)
    (hcheck : ∀ reason rule, s.check (wrapFrame p w k) 0 ≠ .refused reason rule) (hq : s.memAny w.addr = some q) (l : Tab PortState) :
    Tab.find ((s.withPorts l).wrapRequest p w).junction.far k = some { port := p.val, window := w.win.toNat, nearTag := w.tag.val, takenAt := s.ftb } := by
  have hkind : (wrapFrame p w k).kind = .ioRead := if_neg (by simp [hread])
  rw [s.wrapRequest_read hread hk hcheck hq l, State.far_of_beyond (State.sendFrame_read_beyond _ _ hkind ..)]
  exact Tab.find_set_self ..

theorem State.farAnswer_far {tag : Nat} {r : FarRequest} (h : Tab.find s.junction.far tag = some r) (src : FrameIn) (err : Nat) (data : List Byte) :
    Tab.find (s.farAnswer src tag err data).junction.far tag = none := by
  rw [State.farAnswer, h]
  dsimp only
  rw [State.far_of_beyond (State.sendWrap_beyond ..)]
  exact Tab.find_drop_self ..

/-! ### Service buses -/

theorem State.startTransfer_hears (w : Nat) : Hears s (s.startTransfer w) := by
  unfold State.startTransfer
  split
  · split
    · exact s.emit_hears _
    · exact .refl s
  · exact .refl s

/-- The service buses are not what messages and counters change. -/
theorem Hears.bus {s t : State} (h : Hears s t) : t.junction.bus = s.junction.bus :=
  (congrArg (fun t : State => t.junction.bus) h.still :)

/-- The next access of a window begins where its first is over; what was sent stays sent (R323). -/
theorem State.nextAccess_next (w : Nat) {a : BusAccess} {rest : List BusAccess} (h : Tab.get [] s.junction.bus w = a :: rest) :
    Tab.get [] (s.nextAccess w).junction.bus w = rest ∧ ∀ m, s.sent m → (s.nextAccess w).sent m := by
  have hear := (s.modJunction (fun j => { j with bus := Tab.modify [] j.bus w (fun l => l.drop 1) })).startTransfer_hears w
  refine ⟨?_, fun m hm => hear.sent m hm⟩
  rw [State.nextAccess, hear.bus]
  exact (Tab.get_modify_self ..).trans (by rw [h]; rfl)

/-- An access that is over after a message leaves the message sent and the next access in front. -/
theorem State.answered_nextAccess (w : Nat) {a : BusAccess} {rest : List BusAccess} (h : Tab.get [] s.junction.bus w = a :: rest) {m : Msg}
    (hm : s.farAnswerOf m = none) : ((s.emit m).nextAccess w).sent m ∧ Tab.get [] ((s.emit m).nextAccess w).junction.bus w = rest := by
  obtain ⟨hbus, hsent⟩ := State.nextAccess_next (s.emit m) w (a := a) (rest := rest) (by rw [(s.emit_hears m).bus]; exact h)
  exact ⟨hsent m (s.emit_sent m hm), hbus⟩

theorem State.modAccess_bus (w : Nat) (f : BusAccess → BusAccess) {a : BusAccess} {rest : List BusAccess}
    (h : Tab.get [] s.junction.bus w = a :: rest) : Tab.get [] (s.modAccess w f).junction.bus w = f a :: rest := by
  unfold State.modAccess
  rw [State.modJunction_junction']
  dsimp only
  rw [Tab.get_modify_self, h]

theorem State.farAnswerOf_tag {p tag st : Nat} {b : Bool} (h : Tab.find s.junction.far tag = none) : s.farAnswerOf (.answer p tag st b) = none := by
  rw [State.farAnswerOf, h]

theorem State.failAccess_read (w st : Nat) {a : BusAccess} (h : a.write = false) :
    s.failAccess w st a = s.emit (.answer a.host a.hostTag ansCA false) := if_neg (by simp [h])

/-! ### Sampled lines -/

theorem lineSample_seen (before : Nat) (asserted : Bool) :
    (lineSample before asserted).1 = if asserted then (if before = 0 then 1 else 2) else 0 := by
  unfold lineSample
  split_ifs <;> rfl

/-- An event that can be raised is pending once it is raised (R640). -/
theorem State.raiseVector_pending {n : Nat} {owner : Option Nat} (hn : n < 8192) (h : s.eventLive n owner = true) :
    (s.raiseVector n owner).get .eventPending n = 1 := by
  unfold State.raiseVector
  rw [if_pos hn, if_pos h]
  split
  next hp => exact beq_iff_eq.1 hp
  next =>
    have hput : (s.devicePut .eventPending n 0 1).get .eventPending n = 1 := (s.get_devicePut ..).trans (s.get_put_self ..)
    dsimp only
    split
    · have hmsi : ∀ (u : State) (t : Nat), (u.eventMsi t).get .eventPending n = u.get .eventPending n := by
        intro u t
        unfold State.eventMsi
        dsimp only
        rw [apply_ite (fun x : State => x.get .eventPending n)]
        cases u.msiPort t with
        | none => exact ite_self _
        | some p => rw [State.emit_get, State.modWindow_get, ite_self]
      exact (hmsi ..).trans hput
    · exact hput

/-- A sample of the SMBALERT line of a window, whose second asserted sample after a deasserted one is raised (R325). -/
def State.poll (w : Nat) (low : Bool) (ev owner : Nat) : State :=
  let g := lineSample (Tab.get 2 s.junction.alertSeen w) low
  let t := s.modJunction (fun j => { j with alertSeen := Tab.set j.alertSeen w g.1 })
  if g.2 then t.raiseVector ev (some owner) else t

theorem State.poll_samples (w : Nat) (low : Bool) (ev owner : Nat) : Tab.get 2 (s.poll w low ev owner).junction.alertSeen w =
      (if low then (if Tab.get 2 s.junction.alertSeen w = 0 then 1 else 2) else 0) ∧
    (low = true → Tab.get 2 s.junction.alertSeen w = 1 → s.eventLive ev (some owner) = true → ev < 8192 →
      (s.poll w low ev owner).get .eventPending ev = 1) := by
  rw [← lineSample_seen]
  unfold State.poll
  dsimp only
  generalize hg : lineSample (Tab.get 2 s.junction.alertSeen w) low = g
  have hseen : ∀ t : State, t.still = (s.modJunction (fun j => { j with alertSeen := Tab.set j.alertSeen w g.1 })).still →
      Tab.get 2 t.junction.alertSeen w = g.1 := fun t ht =>
    (congrArg (fun t : State => Tab.get 2 t.junction.alertSeen w) ht).trans (Tab.get_set_self ..)
  constructor
  · split
    · exact hseen _ (State.raiseVector_still ..)
    · exact hseen _ rfl
  · intro hlow hone hlive hev
    have hdue : g.2 = true := by
      rw [← hg, hlow, hone]
      rfl
    rw [if_pos hdue]
    exact State.raiseVector_pending _ hev hlive

theorem execWindowPoll_polls {w : WindowNo} {low high : Bool} (hkind : s.get .windowKind w.val = 2)
    (hbit : bitOf (s.get .windowRemote w.val) 22 = true) (hno : bitOf (s.get .windowRemote w.val) 28 = false) :
    exec (.windowPoll w low high) s = .next (s.poll w.val low (bitsOf (s.get .windowRemote w.val) 32 13) (s.get .windowOwner w.val)) := by
  refine congrArg Host.Outcome.next ?_
  rw [if_neg (by simp [hkind])]
  simp only [hbit, hno, if_true, Bool.false_eq_true, if_false, Bool.true_and, Bool.false_and, Bool.or_false]
  rfl

end

/-- Settles O45. -/
theorem junctionRules : Obligations.JunctionRules := by
  refine ⟨fun s => ⟨fun p w b s1 hproto hup h => ?_, fun p w h => ⟨_, rfl, ?_⟩, fun tag r hr hdue _ => ⟨_, rfl, ?_⟩,
    fun tag r hr hdue _ hfar => ⟨_, rfl, ?_⟩⟩, fun w s => ?_⟩
  · have leads := @execJunctionWrapReceive_unwraps s p w b s1 hproto hup h
    refine ⟨fun h1 h2 => leads fun l l' => ?_, fun h2 hnear => leads fun l l' => ?_, fun r h2 hnear _ hfar herr => leads fun l l' => ?_,
      fun k q h1 hread hk hcheck hq => leads fun l l' => ?_⟩
    · rw [State.unwrap_other _ h1 h2]
      exact ⟨rfl, rfl, rfl⟩
    · rw [State.unwrap_completion _ h2]
      exact State.wrapCompletion_late (s.withPorts l) hnear
    · rw [State.unwrap_completion _ h2, State.wrapCompletion_error (s.withPorts l) hnear herr]
      have hear := State.emit_hears ((s.withPorts l).modJunction (fun j => { j with near := Tab.drop j.near w.tag.val }))
        (.answer r.host r.hostTag (if w.err = 1 then ansUR else ansCA) false)
      refine ⟨?_, State.emit_answer_sent ((s.withPorts l).modJunction (fun j => { j with near := Tab.drop j.near w.tag.val })) hfar⟩
      exact (congrArg (fun t : State => Tab.find t.junction.near w.tag.val) hear.still).trans (Tab.find_drop_self ..)
    · rw [State.unwrap_request _ h1]
      exact s.wrapRequest_far hread hk hcheck hq l
  · split
    · rw [h]
    · rfl
  · rw [hr]
    dsimp only
    rw [if_pos hdue]
    exact s.farAnswer_far hr ..
  · rw [hr]
    dsimp only
    rw [if_pos hdue]
    have hear := State.emit_hears (s.modJunction (fun j => { j with near := Tab.drop j.near tag.val })) (.answer r.host r.hostTag ansCA false)
    refine ⟨?_, State.emit_answer_sent (s.modJunction (fun j => { j with near := Tab.drop j.near tag.val })) hfar⟩
    exact (congrArg (fun t : State => Tab.find t.junction.near tag.val) hear.still).trans (Tab.find_drop_self ..)
  · dsimp only
    refine ⟨fun a rest reg n bytes hline htrans hlanes => ⟨fun hread hlen => ⟨_, rfl, ?_⟩, fun hwrite => ⟨_, rfl, ?_⟩,
      fun hread hfar => ⟨_, rfl, ?_⟩⟩, fun a rest hline hy hre => ⟨_, rfl, ?_⟩, fun a rest hline hy => ⟨_, rfl, ?_⟩,
      fun a rest hline hread hdue hfar => ⟨_, rfl, ?_⟩, fun low high hkind hbit hno => ⟨_, execWindowPoll_polls s hkind hbit hno, s.poll_samples w.val low _ _⟩⟩
    · rw [hline]
      dsimp only
      rw [htrans]
      dsimp only
      have hdata : bytes.take n ++ List.replicate (n - bytes.length) 0 = bytes := by
        rw [← hlen, List.take_length, Nat.sub_self]
        exact List.append_nil _
      simp only [Bool.false_eq_true, if_false, List.isEmpty_nil, if_true, hread, hlanes, hdata]
      exact s.answered_nextAccess w.val hline rfl
    · rw [hline]
      dsimp only
      rw [htrans]
      simp only [Bool.false_eq_true, if_false, List.isEmpty_nil, if_true, hwrite]
      exact (s.nextAccess_next w.val hline).1
    · rw [hline]
      dsimp only
      rw [htrans]
      simp only [if_true, s.failAccess_read w.val 1 hread]
      exact s.answered_nextAccess w.val hline (s.farAnswerOf_tag hfar)
    · rw [hline]
      dsimp only
      rw [if_neg (by simp [hy]), if_neg (by omega)]
      exact s.modAccess_bus w.val _ hline
    · rw [hline]
      dsimp only
      rw [if_pos hy, (State.startTransfer_hears _ w.val).bus]
      have hcount : (s.count 86 0x091).junction.bus = s.junction.bus := (s.count_hears (by decide) _ _ _).bus
      exact State.modAccess_bus _ w.val _ (by rw [hcount]; exact hline)
    · have hfirst : (a :: rest).findIdx? (fun a => !a.write && decide (a.takenAt + 100000000 ≤ s.ftb)) = some 0 := by
        simp [List.findIdx?_cons, hread, hdue]
      rw [hline, hfirst]
      exact s.answered_nextAccess w.val hline (s.farAnswerOf_tag hfar)

end Sys2Proof.Machine
end

section
/-! The Fabric Timebase and the Wayside (O47): what a sync asks and sends, holdover, the offset that the servo meets, and the frames of the
Wayside that the node takes part in, drops, or meets with its own (R453 to R455, R518 to R522). -/

namespace Sys2Proof.Machine

section
variable (s : State)

/-! ### The Fabric Timebase -/

theorem State.sendBypass_peerSent (p type pool : Nat) (body : List Byte) : PeerSent (s.sendBypass p type pool body) p type := by
  refine ⟨{ type, pool, long := decide (30 < body.length), body, queued := s.ftb }, ?_, rfl⟩
  rw [State.sendBypass, State.port_modPort_self]
  exact List.mem_append_right _ (List.mem_singleton_self _)

theorem State.sendBypass_keeps_peerSent {p' t' : Nat} (h : PeerSent s p' t') (p type pool : Nat) (body : List Byte) :
    PeerSent (s.sendBypass p type pool body) p' t' := by
  obtain ⟨m, hm, ht⟩ := h
  refine ⟨m, ?_, ht⟩
  rw [State.sendBypass, State.port_modPort]
  split
  next he =>
    subst he
    exact List.mem_append_left _ hm
  next => exact hm

/-- TIME goes to every Trunk port in L0 (R453). -/
theorem State.sendTimes_peerSent (l : List Nat) : ∀ q ∈ l, PeerSent (l.foldl (fun s q => s.sendBypass q 0x01 8 []) s) q 0x01 :=
  foldl_settles (R := fun _ => True) (P := fun q (t : State) => PeerSent t q 0x01)
    (fun t _ q _ => ⟨trivial, t.sendBypass_peerSent q _ _ _⟩) (fun t _ q _ _ _ h => t.sendBypass_keeps_peerSent h q _ _ _) trivial

/-- Messages to peers wait on their ports, and nothing else changes. -/
theorem State.sendTimes_withPorts (l : List Nat) (t : State) : ∃ ps, l.foldl (fun (s : State) q => s.sendBypass q 0x01 8 []) t = t.withPorts ps := by
  induction l generalizing t with
  | nil => exact ⟨t.ports, rfl⟩
  | cons q l ih =>
    obtain ⟨ps, h⟩ := ih (t.sendBypass q 0x01 8 [])
    exact ⟨ps, h⟩

/-- What a sync asks and sends (R453, R522). -/
theorem State.syncOthers_sends :
    (s.get .deviceFtbSrc 0 = 1 → s.portUp (s.get .deviceFtbPort 0) = true → s.syncOthers.sent (.ptmRequest (s.get .deviceFtbPort 0))) ∧
    (∀ q, q < 128 → s.portOk q = true → s.get .portProto q = 2 → s.get .portLink q = 4 → PeerSent s.syncOthers q 0x01) ∧
    (s.get .deviceWsMark 0 = 1 → s.straps.ws.val ≠ 31 → ∃ o ∈ s.syncOthers.power.waysideOut, o.dst = 31 ∧ o.type = 2) ∧
    s.syncOthers.qos.syncAt = s.ftb := by
  unfold State.syncOthers
  dsimp only
  generalize hs1 : (if s.get .deviceFtbSrc 0 = 1 && s.portUp (s.get .deviceFtbPort 0) then s.emit (.ptmRequest (s.get .deviceFtbPort 0)) else s) = s1
  generalize htrunks : s.livePorts.filter (fun q => s.get .portProto q == 2 && s.get .portLink q == 4) = trunks
  obtain ⟨ps, hps⟩ := State.sendTimes_withPorts trunks s1
  have hpeer := s1.sendTimes_peerSent trunks
  rw [hps] at hpeer ⊢
  refine ⟨fun hsrc hup => ?_, fun q hq hok hproto hlink => ?_, fun hmark hws => ?_, ?_⟩
  · have hsent : s1.sent (.ptmRequest (s.get .deviceFtbPort 0)) := by
      rw [← hs1, if_pos (by simp [hsrc, hup])]
      exact s.emit_sent _ rfl
    split <;> exact hsent
  · have hmem : q ∈ trunks := htrunks ▸ List.mem_filter.2 ⟨s.mem_livePorts.2 ⟨hq, hok⟩, by simp [hproto, hlink]⟩
    split <;> exact hpeer q hmem
  · rw [if_pos (by simp [hmark, hws])]
    exact ⟨{ dst := 31, type := 2, payload := [] }, List.mem_append_right _ (List.mem_singleton_self _), rfl, rfl⟩
  · rfl

theorem State.servo_near {offset : Int} (h : offset < 10000) : (s.servo offset).get .deviceFtbOffset 0 = offsetField offset ∧
    (s.servo offset).qos.lastMeasure = s.ftb ∧ (s.servo offset).ftb = s.ftb := by
  have hwidth : offsetField offset < 2 ^ 32 := by
    unfold offsetField signedField
    have := Int.emod_lt_of_pos (max (-(2 ^ 31 : Int)) (min (2 ^ 31 - 1 : Int) offset)) (b := ((2 ^ 32 : Nat) : Int)) (by decide)
    have := Int.emod_nonneg (max (-(2 ^ 31 : Int)) (min (2 ^ 31 - 1 : Int) offset)) (b := ((2 ^ 32 : Nat) : Int)) (by decide)
    omega
  unfold State.servo
  dsimp only
  rw [if_neg (by omega)]
  refine ⟨?_, rfl, rfl⟩
  have hrate : ∀ (t : State) (v : Nat), ((t.put .deviceFtbRate 0 0 v).drawn).get .deviceFtbOffset 0 = t.get .deviceFtbOffset 0 := fun t v =>
    t.get_put_field .deviceFtbRate .deviceFtbOffset 0 0 v (by decide)
  rw [hrate, State.modQos_get, State.get_put_field _ _ _ _ _ _ (by decide), State.get_put_self]
  exact Nat.mod_eq_of_lt hwidth

/-! ### The Wayside -/

theorem State.waysideIn_alone {s : State} {f : WaysideFrame} (hmine : s.waysideMine f = true) (hout : s.power.waysideOut = [])
    (body : State → State) : s.waysideIn f body = body s := by
  have halone : s.waysideContend f = s := by
    unfold State.waysideContend
    rw [hout]
    rfl
  unfold State.waysideIn
  rw [halone]
  exact if_pos hmine

/-- A frame that is not for the node only meets the node's own. -/
theorem State.waysideIn_other {s t : State} {f : WaysideFrame} (h : s.waysideContend f = t) (hmine : t.waysideMine f = false)
    (body : State → State) : s.waysideIn f body = t := by
  unfold State.waysideIn
  rw [h]
  exact if_neg (by simp [hmine])

theorem State.wakeBy_waysideOrder (src : Nat) : (s.wakeBy src).power.waysideOrder = s.power.waysideOrder ∧ (s.wakeBy src).ord = s.ord := by
  unfold State.wakeBy Power.wakeFrom
  split
  · split <;> exact ⟨rfl, rfl⟩
  · exact ⟨rfl, rfl⟩

theorem State.wakeBy_running {s : State} (h : s.power.step = .run) (src : Nat) : s.wakeBy src = s := by
  unfold State.wakeBy
  rw [h]
  exact ite_self _

theorem State.wakeBy_asleep {s : State} {k src : Nat} (h : s.power.step = .asleep k) (hen : s.wakeEnabled src = true)
    (hig : s.power.ignoreWake = false) : (s.wakeBy src).power.step = .wake k 0 := by
  unfold State.wakeBy
  rw [h, hen, hig]
  rfl

/-- A sleeping device keeps one order frame (R521). -/
theorem execWaysideOrderFrame_kept {f : WaysideFrame} (hmine : s.waysideMine f = true) (hout : s.power.waysideOut = [])
    (hgood : waysideBad f = false) (htype : f.type = 0) (hnone : s.power.waysideOrder = none) (hasleep : s.asleep = true) :
    Leads (.waysideOrderFrame f) s (fun t =>
      t.power.waysideOrder = some { src := f.src.toNat, arrived := s.ftb, frame := f.payload } ∧ t.ord = s.ord) := by
  refine ⟨_, rfl, ?_⟩
  rw [State.waysideIn_alone hmine hout, if_neg (by simp [hgood, htype]), if_neg (by simp [hnone]), if_pos hasleep]
  exact State.wakeBy_waysideOrder _ 0

/-- A running device submits the order of the frame (R81, R86). -/
theorem execWaysideOrderFrame_submits {f : WaysideFrame} (hmine : s.waysideMine f = true) (hout : s.power.waysideOut = [])
    (hgood : waysideBad f = false) (htype : f.type = 0) (hnone : s.power.waysideOrder = none) (hrun : s.power.step = .run)
    (hadm : s.admission (frameOrder f.payload privBMC 0 2 (.wayside f.src.toNat)) (frameOk f.payload 1024) = none)
    (hresets : (frameOrder f.payload privBMC 0 2 (.wayside f.src.toNat)).resets = none) :
    Leads (.waysideOrderFrame f) s (fun t => Accepted s t (frameOrder f.payload privBMC 0 2 (.wayside f.src.toNat))) := by
  refine ⟨_, rfl, ?_⟩
  have hawake : s.asleep = false := by
    unfold State.asleep
    rw [hrun]
  rw [State.waysideIn_alone hmine hout, if_neg (by simp [hgood, htype]), if_neg (by simp [hnone]), if_neg (by simp [hawake])]
  have hacc := State.accepted_submit hadm hresets
  refine Eq.trans (State.wakeBy_running ?_ 0) hacc
  exact (congrArg (fun t : State => t.power.step) hacc).trans hrun

/-- The offset of a time mark is the source's (R453, R522). -/
theorem execTimeMark_offset {f : WaysideFrame} (hmine : s.waysideMine f = true) (hout : s.power.waysideOut = [])
    (hgood : waysideBad f = false) (htype : f.type = 2) (hlen : f.payload.length = 8) (hsrc : s.get .deviceFtbSrc 0 = 3)
    (hnear : (ofLE f.payload : Int) - s.ftb < 10000) :
    Leads (.timeMark f) s (fun t => t.get .deviceFtbOffset 0 = offsetField ((ofLE f.payload : Int) - s.ftb)) := by
  refine ⟨_, rfl, ?_⟩
  rw [State.waysideIn_alone hmine hout, if_neg (by simp [hgood, htype, hlen]), if_pos hsrc]
  exact (s.servo_near hnear).1

/-- A waiting frame that survives a received one leaves before it; one that does not waits on (R518). -/
theorem State.waysideContend_one {f : WaysideFrame} {o : WaysideOut} (h : s.power.waysideOut = [o]) : s.waysideContend f =
    if survives (s.ownSymbols o) (frameSymbols (frameBody f) f.crc.toNat) then
      (s.waysideSent o).modPower (fun p => { p with waysideOut := [] })
    else s := by
  have hsame : s.modPower (fun p => { p with waysideOut := [o] }) = s := by
    rw [← h]
    rfl
  unfold State.waysideContend
  rw [h, if_neg (by simp)]
  unfold State.contend
  rw [hsame]
  rfl

end

/-- Settles O47. -/
theorem timeAndWayside : Obligations.TimeAndWayside := by
  intro s
  refine ⟨fun hdue => ⟨_, rfl, ?_⟩, fun hlost => ⟨_, rfl, ?_⟩, fun p hup hrole hproto => ⟨_, rfl, ?_⟩,
    fun p m d hsrc hport hup hrole hnear => ⟨_, rfl, ?_⟩, fun f hmine hout => ?_, fun f o hmine hout => ?_, ⟨_, rfl, rfl⟩⟩
  · rw [if_pos hdue]
    exact s.syncOthers_sends
  · rw [if_pos (by simpa using hlost)]
    exact ⟨s.get_put_self .deviceFtbState 0 0 3, rfl⟩
  · rw [if_pos (by simp [hup, hrole, hproto])]
    exact s.emit_sent _ rfl
  · rw [if_pos (by simp [hsrc, hport, hup, hrole])]
    exact s.servo_near hnear
  · have alone := State.waysideIn_alone hmine hout
    refine ⟨fun hbad => ⟨⟨_, rfl, ?_⟩, ⟨_, rfl, ?_⟩, ⟨_, rfl, ?_⟩, ⟨_, rfl, ?_⟩⟩, fun hgood => ⟨fun htype hnone =>
      ⟨execWaysideOrderFrame_kept s hmine hout hgood htype hnone, execWaysideOrderFrame_submits s hmine hout hgood htype hnone⟩,
      fun htype => ⟨_, rfl, ?_⟩, execTimeMark_offset s hmine hout hgood, fun k htype hlen hstep hig => ⟨_, rfl, ?_⟩⟩⟩
    iterate 4
      · rw [alone, if_pos (by simp [hbad])]
        rfl
    · rw [alone, if_neg (by simp [hgood, htype])]
      rfl
    · rw [alone, if_neg (by simp [hgood, htype, hlen])]
      exact State.wakeBy_asleep hstep rfl hig
  · have hmet := s.waysideContend_one (f := f) hout
    dsimp only
    constructor <;> intro hwins <;> refine ⟨_, rfl, ?_⟩ <;> rw [hwins] at hmet
    · have hmine' : ((s.waysideSent o).modPower (fun p => { p with waysideOut := [] })).waysideMine f = false := by
        unfold State.waysideMine at hmine ⊢
        rwa [State.modPower_straps, State.waysideSent, State.emit_straps]
      rw [State.waysideIn_other hmet hmine']
      exact ⟨s.emit_sent _ rfl, rfl⟩
    · exact State.waysideIn_other hmet hmine _

end Sys2Proof.Machine
end

section
/-! SUPPORT. What the coherent pool leaves alone (R327 to R373): a part of the state that a few updates keep is kept by every action of a
slice that is made of them: snoops, grants, writebacks, recalls, and the reclaim of a dead agent's entries. -/

namespace Sys2Proof

/-- The fields that the coherent pool changes by itself: the Gleaner's ring, and the life of agents. -/
def Fld.poolOwn : Fld → Bool
  | .gleanerAlldirty | .gleanerHead | .agentLive | .agentDeaths => true
  | _ => false

end Sys2Proof

namespace Sys2Proof.Machine

/-- A part of the state that the actions of the coherent pool do not change: it is kept by each of the updates they are made of. -/
structure PoolView (α : Type) where
  view : State → α
  onEmit : ∀ s m, view (s.emit m) = view s
  onDrawn : ∀ s, view s.drawn = view s
  onCount : ∀ s u ev a n, view (s.count u ev a n) = view s
  onRaise : ∀ s n o, view (s.raiseVector n o) = view s
  onContain : ∀ s e, view (s.contain e) = view s
  onCoh : ∀ s f, view (s.modCoh f) = view s
  onVcs : ∀ s v f, view (s.modVcs v f) = view s
  onLost : ∀ s, view s.countLost = view s
  onTenants : ∀ (s : State) ts, view { s with tenants := ts } = view s
  onBypass : ∀ s p type pool body, view (s.sendBypass p type pool body) = view s
  onPut : ∀ s f i b v, f.poolOwn = true → view (s.put f i b v) = view s

/-- What a finished recall gathered goes to the Loft, or to memory where the Loft has no way free (R346). -/
def State.storeGathered (s : State) (line : Nat) (e : DirEntry) : Option Gathered → State
  | none => s
  | some g =>
    match s.takeWay line with
    | (s2, .free) => s2.loftStore line g.data g.poison e.remote e.tenant e.home
    | (s2, _) => s2.memWrite line e.home g.data g.poison .writeback

/-- The request that waited for a victim's entry goes on (R346). -/
def State.serveVictim (s : State) (waiter : Option Nat) : State :=
  match waiter with
  | some w =>
    match s.lock w with
    | some y =>
      match y.work, y.wait with
      | .request r, .victim => s.openRequest w r y.queue
      | _, _ => s
    | none => s
  | none => s

namespace PoolView

section
variable {α : Type} (V : PoolView α) (s : State)

@[simp] theorem emit (m : Msg) : V.view (s.emit m) = V.view s := V.onEmit s m
@[simp] theorem drawn : V.view s.drawn = V.view s := V.onDrawn s
@[simp] theorem count (u ev : Nat) (a : EventAttrs) (n : Nat) : V.view (s.count u ev a n) = V.view s := V.onCount s u ev a n
@[simp] theorem raiseVector (n : Nat) (o : Option Nat) : V.view (s.raiseVector n o) = V.view s := V.onRaise s n o
@[simp] theorem contain (e : ErrorAt) : V.view (s.contain e) = V.view s := V.onContain s e
@[simp] theorem modCoh (f : Coherence → Coherence) : V.view (s.modCoh f) = V.view s := V.onCoh s f
@[simp] theorem modVcs (v : Nat) (f : VcsState → VcsState) : V.view (s.modVcs v f) = V.view s := V.onVcs s v f
@[simp] theorem countLost : V.view s.countLost = V.view s := V.onLost s
@[simp] theorem tenants (ts : Tab TenantState) : V.view { s with tenants := ts } = V.view s := V.onTenants s ts
@[simp] theorem modTenant (t : Nat) (f : TenantState → TenantState) : V.view (s.modTenant t f) = V.view s := V.onTenants s _
@[simp] theorem sendBypass (p type pool : Nat) (body : List Byte) : V.view (s.sendBypass p type pool body) = V.view s := V.onBypass s p type pool body
@[simp] theorem putAlldirty (i b v : Nat) : V.view (s.put .gleanerAlldirty i b v) = V.view s := V.onPut s _ i b v rfl
@[simp] theorem putHead (i b v : Nat) : V.view (s.put .gleanerHead i b v) = V.view s := V.onPut s _ i b v rfl
@[simp] theorem putLive (i b v : Nat) : V.view (s.put .agentLive i b v) = V.view s := V.onPut s _ i b v rfl
@[simp] theorem putDeaths (i b v : Nat) : V.view (s.put .agentDeaths i b v) = V.view s := V.onPut s _ i b v rfl

theorem foldl {β : Type} {f : State → β → State} (h : ∀ s a, V.view (f s a) = V.view s) (l : List β) : V.view (l.foldl f s) = V.view s :=
  foldl_keeps h l s

@[simp] theorem foldl' {β : Type} {f : State → β → State} (l : List β) (h : ∀ s a, V.view (f s a) = V.view s) : V.view (l.foldl f s) = V.view s :=
  foldl_keeps h l s

@[simp] theorem raiseT0 (f : Fld) (idx : Nat) : V.view (s.raiseT0 f idx) = V.view s := by
  simp [State.raiseT0]

@[simp] theorem writeLoss (port addr : Nat) (tenant cause : Nat) : V.view (s.writeLoss port addr tenant cause) = V.view s := by
  simp [State.writeLoss]

@[simp] theorem uspReport (v : Nat) (fatal : Bool) (status : Nat) : V.view (s.uspReport v fatal status) = V.view s := by
  unfold State.uspReport
  split <;> simp

@[simp] theorem reportInternal (p : Nat) : V.view (s.reportInternal p) = V.view s := by
  unfold State.reportInternal
  split <;> simp

@[simp] theorem answerDiscarded (unrouted : Bool) (frm to_ : Nat) (tag ldid : Nat) (kind : FrameKind) (vppb : Option (Nat × Nat)) (addr tenant : Nat) :
    V.view (s.answerDiscarded unrouted frm to_ tag ldid kind vppb addr tenant) = V.view s := by
  unfold State.answerDiscarded
  repeat' split
  all_goals simp

@[simp] theorem assumeAllDirty (t : Nat) : V.view (s.assumeAllDirty t) = V.view s := by
  simp [State.assumeAllDirty]

@[simp] theorem logRecord (t body : Nat) : V.view (s.logRecord t body) = V.view s := by
  simp [State.logRecord, apply_ite V.view]

@[simp] theorem evictBitmap : V.view s.evictBitmap = V.view s := by
  have hdrop : ∀ ts, V.view { s.drawn with tenants := ts } = V.view s := fun ts => (V.tenants s.drawn ts).trans (V.drawn s)
  simp only [State.evictBitmap, apply_ite V.view, hdrop, ite_self]

@[simp] theorem gleanerMark (t addr : Nat) : V.view (s.gleanerMark t addr) = V.view s := by
  unfold State.gleanerMark
  dsimp only
  repeat' split
  all_goals simp

@[simp] theorem setLock (line : Nat) (x : Transaction) : V.view (s.setLock line x) = V.view s := by
  simp [State.setLock]

@[simp] theorem setEntry (line : Nat) (e : DirEntry) : V.view (s.setEntry line e) = V.view s := by
  unfold State.setEntry
  split <;> simp

@[simp] theorem countLine (line ev : Nat) (tenant : Option Nat) (n : Nat) : V.view (s.countLine line ev tenant n) = V.view s := by
  simp [State.countLine]

@[simp] theorem modAgent (a : Nat) (f : AgentState → AgentState) : V.view (s.modAgent a f) = V.view s := by
  simp [State.modAgent]

@[simp] theorem loftPut (line : Nat) (l : LoftLine) : V.view (s.loftPut line l) = V.view s := by
  simp [State.loftPut]

@[simp] theorem loftDrop (line : Nat) : V.view (s.loftDrop line) = V.view s := by
  simp [State.loftDrop]

@[simp] theorem loftStore (line : Nat) (data : LineData) (poison remote : Bool) (tenant : Nat) (home : Option Nat) :
    V.view (s.loftStore line data poison remote tenant home) = V.view s := by
  simp [State.loftStore]

@[simp] theorem sendPeer (p type : Nat) (txn line : Nat) (op tenant attr : Nat) (data : Option LineData) (offset operand compare : Nat) :
    V.view (s.sendPeer p type txn line op tenant attr data offset operand compare) = V.view s := by
  simp [State.sendPeer]

@[simp] theorem takeTxn : V.view s.takeTxn = V.view s := by
  simp [State.takeTxn]

@[simp] theorem appendDead (line agent : Nat) (reason tenant : Nat) (tick action : Nat) :
    V.view (s.appendDead line agent reason tenant tick action) = V.view s := by
  simp [State.appendDead]

@[simp] theorem holdLine (line : Nat) : V.view (s.holdLine line) = V.view s := by
  unfold State.holdLine
  repeat' split
  all_goals simp

@[simp] theorem memAsk (a : MemAsk) (m : Msg) : V.view (s.memAsk a m) = V.view s := by
  unfold State.memAsk
  split <;> simp

@[simp] theorem memDone (line : Nat) (write : Bool) : V.view (s.memDone line write) = V.view s := by
  unfold State.memDone
  dsimp only
  repeat' split
  all_goals simp

@[simp] theorem memWriteEnd (line : Nat) (ok : Bool) : V.view (s.memWriteEnd line ok) = V.view s := by
  unfold State.memWriteEnd
  dsimp only
  repeat' split
  all_goals simp

@[simp] theorem memWrite (line : Nat) (home : Option Nat) (data : LineData) (poison : Bool) (w : MemWrite) (mask : BitVec 64) :
    V.view (s.memWrite line home data poison w mask) = V.view s := by
  unfold State.memWrite
  repeat' split
  all_goals simp

@[simp] theorem give (line : Nat) (r : SliceRequest) (state : Nat) (data : Option LineData) (poison : Bool) (devLoad : Nat) :
    V.view (s.give line r state data poison devLoad) = V.view s := by
  unfold State.give
  repeat' split
  all_goals simp

@[simp] theorem owed (r : SliceRequest) (answer : State → State) (hanswer : ∀ b0, V.view (answer b0) = V.view b0) :
    V.view (s.owed r answer) = V.view s := by
  unfold State.owed
  repeat' split
  all_goals simp [*]

@[simp] theorem grant (line : Nat) (r : SliceRequest) (state : Nat) (data : Option LineData) (poison : Bool) (devLoad : Nat) :
    V.view (s.grant line r state data poison devLoad) = V.view s := by
  simp [State.grant]

@[simp] theorem ack (line : Nat) (r : SliceRequest) : V.view (s.ack line r) = V.view s := by
  unfold State.ack
  repeat' split
  all_goals simp

@[simp] theorem noteEvicted (a : Option Nat) (line : Nat) : V.view (s.noteEvicted a line) = V.view s := by
  unfold State.noteEvicted
  repeat' split
  all_goals simp

@[simp] theorem ackRelease (line : Nat) (r : SliceRequest) : V.view (s.ackRelease line r) = V.view s := by
  simp [State.ackRelease]

@[simp] theorem atomicAnswer (line : Nat) (r : SliceRequest) (old : Nat) (poison : Bool) :
    V.view (s.atomicAnswer line r old poison) = V.view s := by
  unfold State.atomicAnswer
  split <;> simp

@[simp] theorem refuseRequest (line : Nat) (r : SliceRequest) : V.view (s.refuseRequest line r) = V.view s := by
  unfold State.refuseRequest
  repeat' split
  all_goals simp

@[simp] theorem learnAtomic (line : Nat) (r : SliceRequest) (holders : Bool) : V.view (s.learnAtomic line r holders) = V.view s := by
  simp [State.learnAtomic]

@[simp] theorem sendSnoop (line kind a : Nat) : V.view (s.sendSnoop line kind a) = V.view s := by
  unfold State.sendSnoop
  split <;> simp

@[simp] theorem sendSnoops (line kind : Nat) (agents : List Nat) (coarse : Bool) :
    V.view (s.sendSnoops line kind agents coarse) = V.view s := by
  unfold State.sendSnoops
  repeat' split
  all_goals simp

@[simp] theorem reclaimEntry (line a : Nat) : V.view (s.reclaimEntry line a) = V.view s := by
  unfold State.reclaimEntry
  dsimp only
  repeat' split
  all_goals simp

@[simp] theorem prefetch (line p tenant : Nat) : V.view (s.prefetch line p tenant) = V.view s := by
  unfold State.prefetch
  split
  · refine V.foldl s (fun s a => ?_) _
    split <;> simp
  · rfl

@[simp] theorem fetchLine (line : Nat) (r : SliceRequest) (x : Transaction) (noPeer : Bool) :
    V.view (s.fetchLine line r x noPeer).1 = V.view s := by
  unfold State.fetchLine
  repeat' split
  all_goals simp

@[simp] theorem unlock (line : Nat) (x : Transaction) : V.view (s.unlock line x) = V.view s := by
  unfold State.unlock
  repeat' split
  all_goals simp

@[simp] theorem takeWayFuel (k line : Nat) : V.view (State.takeWayFuel k s line).1 = V.view s := by
  induction k generalizing s with
  | zero => rfl
  | succ k ih =>
    unfold State.takeWayFuel
    split
    · rfl
    · simp
    · split
      · dsimp only
        split <;> simp [ih]
      · simp
    · rfl

@[simp] theorem takeWay (line : Nat) : V.view (s.takeWay line).1 = V.view s := by
  simp [State.takeWay]

@[simp] theorem concludeRequest (line : Nat) (x : Transaction) (r : SliceRequest) (cached : Bool) :
    V.view (s.concludeRequest line x r cached) = V.view s := by
  unfold State.concludeRequest
  repeat' split
  all_goals simp

@[simp] theorem completeRequest (line : Nat) (x : Transaction) (r : SliceRequest) (cached : Bool) :
    V.view (s.completeRequest line x r cached) = V.view s := by
  have hway := V.takeWay s line
  unfold State.completeRequest
  split
  · simp
  · generalize s.takeWay line = taken at hway
    obtain ⟨s1, way⟩ := taken
    cases way <;> simp [apply_ite V.view, hway]

@[simp] theorem farAtomic (line : Nat) (x : Transaction) (r : SliceRequest) (o : AtomicOp) :
    V.view (s.farAtomic line x r o) = V.view s := by
  unfold State.farAtomic
  dsimp only
  repeat' split
  all_goals simp

@[simp] theorem remoteAct (line p : Nat) (x : Transaction) (r : SliceRequest) : V.view (s.remoteAct line p x r) = V.view s := by
  unfold State.remoteAct
  split <;> simp

@[simp] theorem advanceRequest (line : Nat) (x : Transaction) (r : SliceRequest) : V.view (s.advanceRequest line x r) = V.view s := by
  unfold State.advanceRequest
  dsimp only
  repeat' split
  all_goals simp

@[simp] theorem openRequest (line : Nat) (r : SliceRequest) (queue : List SliceRequest) :
    V.view (s.openRequest line r queue) = V.view s := by
  unfold State.openRequest
  dsimp only
  repeat' split
  all_goals simp

@[simp] theorem recallLine (line : Nat) (work : Work) (queue : List SliceRequest) (agents : List Nat) :
    V.view (s.recallLine line work queue agents) = V.view s := by
  simp [State.recallLine]

@[simp] theorem storeGathered (line : Nat) (e : DirEntry) (g : Option Gathered) : V.view (s.storeGathered line e g) = V.view s := by
  unfold State.storeGathered
  split
  · rfl
  next g =>
    have hway := V.takeWay s line
    split
    next s2 h =>
      rw [h] at hway
      simp [hway]
    next s2 w hw h =>
      rw [h] at hway
      simp [hway]

@[simp] theorem serveVictim (w : Option Nat) : V.view (s.serveVictim w) = V.view s := by
  unfold State.serveVictim
  repeat' split
  all_goals simp

@[simp] theorem recallDone (line : Nat) (x : Transaction) (waiter : Option Nat) : V.view (s.recallDone line x waiter) = V.view s := by
  have hdone : s.recallDone line x waiter =
      (((s.setEntry line { s.entry line with state := .invalid }).storeGathered line (s.entry line) x.gathered).unlock line x).serveVictim
        waiter := by
    cases waiter <;> cases hg : x.gathered <;> simp only [State.recallDone, State.serveVictim, State.storeGathered, hg] <;> rfl
  rw [hdone, V.serveVictim, V.unlock, V.storeGathered, V.setEntry]

@[simp] theorem answerHome (line : Nat) (x : Transaction) (p txn op : Nat) : V.view (s.answerHome line x p txn op) = V.view s := by
  unfold State.answerHome
  dsimp only
  repeat' split
  all_goals simp

@[simp] theorem readEnds (line : Nat) (data : Option (LineData × Bool)) (devLoad : Nat) :
    V.view (s.readEnds line data devLoad) = V.view s := by
  unfold State.readEnds
  repeat' split
  all_goals simp

@[simp] theorem homeAnswers (line : Nat) (x : Transaction) (r : SliceRequest) (op old : Nat) (data : Option (LineData × Bool)) :
    V.view (s.homeAnswers line x r op old data) = V.view s := by
  unfold State.homeAnswers
  dsimp only
  repeat' split
  all_goals simp

@[simp] theorem resumeAside (line : Nat) : V.view (s.resumeAside line) = V.view s := by
  unfold State.resumeAside
  repeat' split
  all_goals simp

@[simp] theorem advance (line : Nat) : V.view (s.advance line) = V.view s := by
  unfold State.advance
  repeat' split
  all_goals simp

@[simp] theorem snoopAnswered (line a : Nat) (kept : Bool) (data : Option (LineData × Bool)) :
    V.view (s.snoopAnswered line a kept data) = V.view s := by
  unfold State.snoopAnswered
  repeat' split
  all_goals simp

@[simp] theorem discardRequests (a : Nat) : V.view (s.discardRequests a) = V.view s := by
  simp [State.discardRequests]

@[simp] theorem agentDies (a reason : Nat) : V.view (s.agentDies a reason) = V.view s := by
  unfold State.agentDies
  split
  · dsimp only
    split
    · rw [V.foldl _ (fun s l => by simp), V.foldl _ (fun s l => by simp)]
      simp
    · rw [V.foldl _ (fun s l => by simp)]
      simp
  · rfl

@[simp] theorem agentWakes (a : Nat) : V.view (s.agentWakes a) = V.view s := by
  simp [State.agentWakes, apply_ite V.view]

@[simp] theorem resumeAfterWrite (line : Nat) : V.view (s.resumeAfterWrite line) = V.view s := by
  unfold State.resumeAfterWrite
  dsimp only
  generalize hs1 : List.foldl _ s _ = s1
  have h1 : V.view s1 = V.view s := by
    rw [← hs1]
    refine V.foldl s (fun s l => ?_) _
    split
    · split <;> simp
    · rfl
  repeat' split
  all_goals simp [h1]

@[simp] theorem failReads (p : Nat) : V.view (s.failReads p) = V.view s := by
  unfold State.failReads
  dsimp only
  rw [V.foldl _ (fun s e => ?_), V.modCoh]
  split
  · split <;> simp
  · rfl

@[simp] theorem failWrites (p : Nat) : V.view (s.failWrites p) = V.view s := by
  unfold State.failWrites
  dsimp only
  rw [V.foldl _ (fun s e => ?_), V.foldl _ (fun s e => by simp)]
  split
  · split <;> simp
  · rfl

@[simp] theorem writeHeld (p : Nat) : V.view (s.writeHeld p) = V.view s := by
  simp [State.writeHeld]

@[simp] theorem portAgentsDie (p : Nat) : V.view (s.portAgentsDie p) = V.view s := by
  simp [State.portAgentsDie]

end

end PoolView

end Sys2Proof.Machine
end

section
/-! SUPPORT. What a port that goes down leaves alone (R192, R286, R307, R319, R361): the stations, the supplies, the boot state, the orders and
the cores, the fields of the other ports, and whatever of a port is not its frames, credits or open requests. -/

namespace Sys2Proof

theorem Tab.get_eq_find {α : Type} (d : α) (t : Tab α) (k : Nat) : Tab.get d t k = (Tab.find t k).getD d := by
  induction t with
  | nil => rfl
  | cons e t ih =>
    obtain ⟨i, v⟩ := e
    by_cases hi : i = k
    · simp [Tab.get, Tab.find, hi]
    · simp [Tab.get, Tab.find, hi, ih]

end Sys2Proof

namespace Sys2Proof.Machine

/-- The keys of the fields of ports, and of the bifurcation of stations: everything below them in the order of keys. -/
def linkKeys : Nat := 0x202 * 65536 * 65536

/-- A field of a port, or the bifurcation of a station. -/
def Fld.ofLink (f : Fld) : Bool := decide (f.info.cls * 256 + f.info.id < 0x202)

/-- A digit below the base keeps a number below the next multiple. -/
theorem digits_lt {n x i k : Nat} (hx : x < k) (hi : i < n) : x * n + i < k * n :=
  calc x * n + i < x * n + n := Nat.add_lt_add_left hi _
    _ = (x + 1) * n := (Nat.succ_mul x n).symm
    _ ≤ k * n := Nat.mul_le_mul_right n hx

theorem objKey_lt_linkKeys {f : Fld} (hf : Fld.ofLink f = true) {i b : Nat} (hi : i < 65536) (hb : b < 65536) :
    objKey f.info.cls f.info.id i b < linkKeys := by
  have hf : f.info.cls * 256 + f.info.id < 0x202 := of_decide_eq_true hf
  exact digits_lt (digits_lt hf hi) hb

theorem linkKeys_le_objKey {f : Fld} (hf : Fld.ofLink f = false) (i b : Nat) : linkKeys ≤ objKey f.info.cls f.info.id i b := by
  have hf : 0x202 ≤ f.info.cls * 256 + f.info.id := Nat.le_of_not_lt (of_decide_eq_false hf)
  calc linkKeys ≤ (f.info.cls * 256 + f.info.id) * 65536 * 65536 := Nat.mul_le_mul_right _ (Nat.mul_le_mul_right _ hf)
    _ ≤ ((f.info.cls * 256 + f.info.id) * 65536 + i) * 65536 := Nat.mul_le_mul_right _ (Nat.le_add_right _ _)
    _ ≤ objKey f.info.cls f.info.id i b := Nat.le_add_right _ _

/-- The switch without the frames it holds. -/
def Switch.emptied (w : Switch) : Switch :=
  { w with frames := [], nextFrame := 0, adm := [], spray := [], inQ := [], sidQ := [], outQ := [], lostFrames := 0, quotaHold := [],
           loanFailed := false, bypass := [] }

/-- A port without its frames, its credits, its loans and what waits for it. -/
def PortState.cleared (x : PortState) : PortState :=
  { x with deficit := [], lastServed := 0, bypassRun := 0, sending := none, opens := [], closed := [], loanBlocks := 0, loanIdle := [],
           credit := [], creditUsed := 0, owed := [], unacked := 0, trunk := { x.trunk with admitted := [], bypass := [] } }

/-- The parts of a state that a port's link does not reach. -/
def State.aside (s : State) : State :=
  { s with obj := [], gen := [], coh := {}, vcss := [], vppbs := [], lanes := [], ports := [],
           tenants := [], junction := {}, ord := { s.ord with windows := [] }, sw := s.sw.emptied,
           errors := { s.errors with windows := [] }, qos := { s.qos with missedRaises := 0 }, freeCount := 0, outbox := [] }

/-- What of a vPPB tells of DPC (R596). -/
def VppbState.dpc (x : VppbState) : Bool × Nat := (x.dpcStatus, x.dpcReason)

/-- The fields of ports, and the bifurcation of stations, by their keys. -/
def State.linkFields (s : State) (k : Nat) : Option Nat := if k < linkKeys then Tab.find s.obj k else none

/-- What a port that goes down leaves alone. -/
structure OffLink where
  rest : State
  fields : Nat → Option Nat
  ports : Nat → PortState
  dpc : Nat → Nat → Bool × Nat

/-- What a port that goes down leaves alone of a state. -/
def State.offLink (s : State) : OffLink :=
  { rest := s.aside, fields := s.linkFields, ports := fun p => (s.port p).cleared, dpc := fun v b => (s.vppb v b).dpc }

theorem OffLink.of_eq {s t : State} (hrest : t.aside = s.aside) (hfields : t.linkFields = s.linkFields)
    (hports : ∀ p, (t.port p).cleared = (s.port p).cleared) (hdpc : ∀ v b, (t.vppb v b).dpc = (s.vppb v b).dpc) : t.offLink = s.offLink := by
  unfold State.offLink
  rw [hrest, hfields, funext hports, funext fun v => funext (hdpc v)]

section
variable (s : State)

theorem State.modPort_offLink (p : Nat) {f : PortState → PortState} (h : ∀ x, (f x).cleared = x.cleared) : (s.modPort p f).offLink = s.offLink := by
  refine OffLink.of_eq rfl rfl (fun q => ?_) (fun _ _ => rfl)
  rw [State.port_modPort]
  split
  next he => rw [h, he]
  next => rfl

theorem State.modSw_offLink {f : Switch → Switch} (h : ∀ w, (f w).emptied = w.emptied) : (s.modSw f).offLink = s.offLink := by
  exact OffLink.of_eq (congrArg (fun w : Switch => ({ s.aside with sw := w } : State)) (h s.sw)) rfl (fun _ => rfl) (fun _ _ => rfl)

theorem State.vppb_modVppb_dpc (v b : Nat) {f : VppbState → VppbState} (h : ∀ x, (f x).dpc = x.dpc) :
    (s.modVppb v b f).offLink = s.offLink := by
  refine OffLink.of_eq rfl rfl (fun _ => rfl) (fun v' b' => ?_)
  have hget : (s.modVppb v b f).vppb v' b' = if vppbKey v b = vppbKey v' b' then f (s.vppb v b) else s.vppb v' b' := Tab.get_modify ..
  rw [hget]
  split
  next he => rw [h, State.vppb, State.vppb, he]
  next => rfl

theorem State.linkFields_put {f : Fld} (i b v k : Nat) : (s.put f i b v).linkFields k =
    if objKey f.info.cls f.info.id i b = k ∧ k < linkKeys then some (v % 2 ^ f.info.width) else s.linkFields k := by
  unfold State.linkFields State.put
  rw [Tab.find_set]
  by_cases hk : k < linkKeys <;> simp [hk]

theorem State.put_offLink {f : Fld} (hf : Fld.ofLink f = false) (i b v : Nat) : (s.put f i b v).offLink = s.offLink := by
  refine OffLink.of_eq rfl (funext fun k => ?_) (fun _ => rfl) (fun _ _ => rfl)
  rw [State.linkFields_put, if_neg]
  rintro ⟨rfl, hk⟩
  exact Nat.not_lt.2 (linkKeys_le_objKey hf i b) hk

/-- The fields of ports, and the bifurcation of stations, are read from what the link leaves alone. -/
theorem State.get_of_linkFields {s t : State} (h : t.linkFields = s.linkFields) {f : Fld} (hf : Fld.ofLink f = true) {i b : Nat} (hi : i < 65536)
    (hb : b < 65536) : t.get f i b = s.get f i b := by
  have hkey := objKey_lt_linkKeys hf hi hb
  have hreset : ∀ u : State, u.resetValue f i b = f.info.reset := by
    intro u
    unfold State.resetValue
    split
    case h_8 => rfl
    all_goals exact absurd hf (by decide)
  have hread : ∀ u : State, u.get f i b = (u.linkFields (objKey f.info.cls f.info.id i b)).getD f.info.reset := by
    intro u
    rw [State.get, hreset, Tab.get_eq_find, State.linkFields, if_pos hkey]
  rw [hread, hread, h]

theorem State.emit_offLink (m : Msg) : (s.emit m).offLink = s.offLink := by
  unfold State.emit
  split
  · rfl
  · split
    · split <;> rfl
    · rfl

theorem State.devicePut_offLink {f : Fld} (hf : Fld.ofLink f = false) (i b v : Nat) : (s.devicePut f i b v).offLink = s.offLink := by
  unfold State.devicePut
  split
  · exact s.put_offLink hf i b v
  · exact s.put_offLink hf i b v

theorem State.eventMsi_offLink (t : Nat) : (s.eventMsi t).offLink = s.offLink := by
  unfold State.eventMsi
  dsimp only
  rw [apply_ite State.offLink]
  cases s.msiPort t with
  | none => exact ite_self _
  | some p => exact (congrArg (ite _ · _) (State.emit_offLink _ _)).trans (ite_self _)

theorem State.raiseVector_offLink (n : Nat) (owner : Option Nat) : (s.raiseVector n owner).offLink = s.offLink := by
  have hmiss : s.missRaise.offLink = s.offLink := rfl
  have htenant : ∀ t f, (s.missRaise.modTenant t f).offLink = s.offLink := fun _ _ => rfl
  have hpend : ∀ (u : State) (i b v : Nat), (u.devicePut .eventPending i b v).offLink = u.offLink := fun u => u.devicePut_offLink (by decide)
  simp only [State.raiseVector, apply_ite State.offLink, State.eventMsi_offLink, hpend, hmiss, htenant, ite_self]

theorem State.addUnit_offLink (u i n : Nat) : (s.addUnit u i n).offLink = s.offLink := by
  have hvalue : ∀ (t : State) (i b v : Nat), (t.put .unitctrValue i b v).offLink = t.offLink := fun t => t.put_offLink (by decide)
  have hovf : ∀ (t : State) (i b v : Nat), (t.put .unitctrOvf i b v).offLink = t.offLink := fun t => t.put_offLink (by decide)
  simp only [State.addUnit, apply_ite State.offLink, State.raiseVector_offLink, hvalue, hovf, ite_self]

theorem State.addCounter_offLink (i n : Nat) : (s.addCounter i n).offLink = s.offLink := by
  have hvalue : ∀ (t : State) (i b v : Nat), (t.put .counterValue i b v).offLink = t.offLink := fun t => t.put_offLink (by decide)
  have hovf : ∀ (t : State) (i b v : Nat), (t.put .counterOvf i b v).offLink = t.offLink := fun t => t.put_offLink (by decide)
  simp only [State.addCounter, apply_ite State.offLink, State.raiseVector_offLink, hvalue, hovf, ite_self]

theorem State.count_offLink (u ev : Nat) (a : EventAttrs) (n : Nat) : (s.count u ev a n).offLink = s.offLink := by
  have hunit : ∀ (s : State) i, (s.unitSees u ev n a i).offLink = s.offLink := by
    intro s i
    simp only [State.unitSees, apply_ite State.offLink, State.addUnit_offLink, ite_self]
  have hcounter : ∀ (s : State) i, (s.counterSees (ev % 4096) n a i).offLink = s.offLink := by
    intro s i
    simp only [State.counterSees, apply_ite State.offLink, State.addCounter_offLink, ite_self]
  have hunits : (if s.unitCounts u then (List.range 8).foldl (fun s i => s.unitSees u ev n a i) s else s).offLink = s.offLink := by
    split
    · exact foldl_keeps hunit _ s
    · rfl
  unfold State.count
  dsimp only
  split
  · split
    · exact (foldl_keeps hcounter _ _).trans hunits
    · exact hunits
  · exact hunits

theorem State.contain_offLink (e : ErrorAt) : (s.contain e).offLink = s.offLink := by
  unfold State.contain
  dsimp only
  rw [State.raiseT0, State.raiseVector_offLink, State.put_offLink _ (f := .deviceUcCount) (by decide)]
  rfl

theorem Fld.poolOwn_ofLink {f : Fld} (h : f.poolOwn = true) : Fld.ofLink f = false := by
  unfold Fld.poolOwn at h
  split at h
  · decide
  · decide
  · decide
  · decide
  · cases h

/-- The coherent pool does not reach what a link leaves alone. -/
def linkView : PoolView OffLink where
  view := State.offLink
  onEmit := State.emit_offLink
  onDrawn _ := rfl
  onCount := State.count_offLink
  onRaise := State.raiseVector_offLink
  onContain := State.contain_offLink
  onCoh _ _ := rfl
  onVcs _ _ _ := rfl
  onLost _ := rfl
  onTenants _ _ := rfl
  onBypass s p _ _ _ := s.modPort_offLink p (fun _ => rfl)
  onPut s _ i b v hf := s.put_offLink (Fld.poolOwn_ofLink hf) i b v

/-! ### Frames that a link-down discards -/

theorem State.giveCredit_offLink (p c w : Nat) : (s.giveCredit p c w).offLink = s.offLink := s.modPort_offLink p (fun _ => rfl)

theorem State.releaseCredit_offLink (p c w : Nat) : (s.releaseCredit p c w).offLink = s.offLink := by
  unfold State.releaseCredit
  split
  · rfl
  · split
    · exact s.giveCredit_offLink p c w
    · exact s.modPort_offLink p (fun _ => rfl)

theorem State.freeCredit_offLink (k : FrameKind) (p c w : Nat) : (s.freeCredit k p c w).offLink = s.offLink := by
  unfold State.freeCredit
  split
  · exact s.releaseCredit_offLink p c w
  · split
    · rfl
    · exact s.releaseCredit_offLink p c w
  · exact s.releaseCredit_offLink p c w

theorem State.removeFrame_offLink (n : Nat) : (s.removeFrame n).offLink = s.offLink := by
  have hidle : ∀ (t : State) p (f : PortState → List Nat), (t.modPort p (fun x => { x with loanIdle := f x })).offLink = t.offLink := fun t p _ =>
    t.modPort_offLink p (fun _ => rfl)
  have hdeficit : ∀ (t : State) p (f : PortState → Tab Nat), (t.modPort p (fun x => { x with deficit := f x })).offLink = t.offLink := fun t p _ =>
    t.modPort_offLink p (fun _ => rfl)
  unfold State.removeFrame
  cases s.frame n with
  | none => rfl
  | some f =>
    dsimp only
    simp only [apply_ite State.offLink, State.freeCredit_offLink, hidle, hdeficit, ite_self]
    exact s.modSw_offLink (fun _ => rfl)

theorem State.discardFrame_offLink (n : Nat) (answer : Bool) : (s.discardFrame n answer).offLink = s.offLink := by
  unfold State.discardFrame
  split
  · rfl
  · dsimp only
    split
    · exact (linkView.answerDiscarded ..).trans (s.removeFrame_offLink n)
    · exact s.removeFrame_offLink n

theorem State.flushFrame_offLink (p n : Nat) : (s.flushFrame p n).offLink = s.offLink := by
  have hsw : ∀ f : Switch → Tab (List Wagon), (s.modSw (fun w => { w with inQ := f w })).offLink = s.offLink := fun f => s.modSw_offLink (fun _ => rfl)
  have hframe : ∀ (t : State) (f : Frame → Frame), (t.modFrame n f).offLink = t.offLink := fun t f => t.modSw_offLink (fun _ => rfl)
  unfold State.flushFrame
  cases s.frame n with
  | none => rfl
  | some f =>
    simp only [apply_ite State.offLink, State.removeFrame_offLink, State.discardFrame_offLink, State.freeCredit_offLink, hsw, hframe, ite_self]

theorem State.answerOpens_offLink (p : Nat) : (s.answerOpens p).offLink = s.offLink := by
  unfold State.answerOpens
  dsimp only
  exact (linkView.foldl _ (fun s o => linkView.answerDiscarded ..) _).trans (s.modPort_offLink p (fun _ => rfl))

theorem State.flushPort_offLink (p : Nat) : (s.flushPort p).offLink = s.offLink := by
  unfold State.flushPort
  dsimp only
  have hframes : ∀ l : List Nat, (l.foldl (fun s n => s.flushFrame p n) s).offLink = s.offLink := fun l =>
    foldl_keeps (fun s n => s.flushFrame_offLink p n) l s
  exact (State.modPort_offLink _ p (by intro _; rfl)).trans ((State.modSw_offLink _ (by intro _; rfl)).trans
    ((State.answerOpens_offLink _ p).trans (hframes _)))

/-! ### vPPBs and service requests of the port -/

theorem State.unbindNow_offLink (v b : Nat) : (s.unbindNow v b).offLink = s.offLink := by
  unfold State.unbindNow
  dsimp only
  refine (linkView.foldl _ (fun s a => linkView.agentDies ..) _).trans ?_
  refine (State.emit_offLink _ _).trans ((State.vppb_modVppb_dpc _ v b (by intro _; rfl)).trans ?_)
  exact (State.put_offLink _ (f := .vppbHp) (by decide) v b 0).trans (s.put_offLink (f := .vppbKind) (by decide) v b 0)

theorem State.vppbDown_offLink (v b : Nat) : (s.vppbDown v b).offLink = s.offLink := by
  unfold State.vppbDown
  dsimp only
  split
  · exact (State.emit_offLink _ _).trans ((State.vppb_modVppb_dpc _ v b (by intro _; rfl)).trans (s.put_offLink (f := .vppbHp) (by decide) v b 5))
  · split
    · exact (linkView.raiseT0 (s.unbindNow v b) .deviceBindEv 0).trans (s.unbindNow_offLink v b)
    · rfl

theorem State.junctionPortDown_offLink (p : Nat) : (s.junctionPortDown p).offLink = s.offLink := by
  unfold State.junctionPortDown
  exact (linkView.foldl _ (fun s e => linkView.emit ..) _).trans rfl

theorem State.endScan_offLink (k : Nat) : (s.endScan k).offLink = s.offLink := rfl

/-! ### The port itself -/

theorem State.abandonIde_port (p q : Nat) : (s.abandonIde p).port q = if p = q then { s.port p with ideJob := none } else s.port q := by
  unfold State.abandonIde
  split
  next ev h =>
    have hports : ∀ (t : State) n o, (t.raiseVector n o).port q = t.port q := fun t n o =>
      (congrArg (fun u : State => u.port q) (t.raiseVector_still n o) :)
    rw [hports, State.port_modPort]
  next h =>
    split
    next he => rw [← he, ← h]
    next => rfl

theorem State.abandonIde_aside (p : Nat) : (s.abandonIde p).aside = s.aside ∧ (s.abandonIde p).vppbs = s.vppbs := by
  unfold State.abandonIde
  split
  next ev h =>
    exact ⟨congrArg OffLink.rest (State.raiseVector_offLink ..), (congrArg State.vppbs (State.raiseVector_still ..) :)⟩
  next => exact ⟨rfl, rfl⟩

/-- A port that goes down: its LINK, and what its link leaves of it. -/
def State.unlinked (p link : Nat) : State :=
  (s.put .portLink p 0 link).modPort p (fun x => { x.linkLost s.ftb with flushing := s.sw.running })

theorem State.modPort_offLink_congr {s t : State} (h : t.offLink = s.offLink) (p : Nat) {f g : PortState → PortState}
    (hf : ∀ x y, x.cleared = y.cleared → (f x).cleared = (g y).cleared) : (t.modPort p f).offLink = (s.modPort p g).offLink := by
  have hports : ∀ q, (t.port q).cleared = (s.port q).cleared := fun q => congrArg (fun o : OffLink => o.ports q) h
  have hdpc : ∀ v b, (t.vppb v b).dpc = (s.vppb v b).dpc := fun v b => congrArg (fun o : OffLink => o.dpc v b) h
  refine OffLink.of_eq (congrArg OffLink.rest h) (congrArg OffLink.fields h) (fun q => ?_) hdpc
  rw [State.port_modPort, State.port_modPort]
  split
  · exact hf _ _ (hports p)
  · exact hports q

theorem State.endScans_keep (l : List Nat) : (l.foldl (fun (s : State) k => s.endScan k) s).aside = s.aside ∧
    (l.foldl (fun (s : State) k => s.endScan k) s).obj = s.obj ∧ (l.foldl (fun (s : State) k => s.endScan k) s).ports = s.ports ∧
    (l.foldl (fun (s : State) k => s.endScan k) s).vppbs = s.vppbs := by
  have h := fun (β : Type) (p : State → β) (hp : ∀ (s : State) k, p (s.endScan k) = p s) => foldl_keeps (f := State.endScan) hp l s
  exact ⟨h _ State.aside (fun _ _ => rfl), h _ State.obj (fun _ _ => rfl), h _ State.ports (fun _ _ => rfl), h _ State.vppbs (fun _ _ => rfl)⟩

/-- What a link-down does at once to what is not aside: LINK, and the record of the port. -/
theorem State.linkLost_offLink (p link : Nat) :
    (((((s.lanesOf p).foldl (fun s k => s.endScan k) s).abandonIde p).put .portLink p 0 link).modPort p
      (fun x => { x.linkLost s.ftb with flushing := true })).offLink =
    ((s.put .portLink p 0 link).modPort p (fun x => { x.linkLost s.ftb with flushing := true })).offLink := by
  obtain ⟨haside, hobj, hports, hvppbs⟩ := s.endScans_keep (s.lanesOf p)
  generalize (s.lanesOf p).foldl (fun (s : State) k => s.endScan k) s = u at haside hobj hports hvppbs
  have hport : ∀ q, u.port q = s.port q := fun q => congrArg (fun l => Tab.get ({} : PortState) l q) hports
  have hfields : (u.abandonIde p).linkFields = s.linkFields := by
    have hu : (u.abandonIde p).linkFields = u.linkFields := by
      unfold State.abandonIde
      split
      · exact congrArg OffLink.fields (State.raiseVector_offLink ..)
      · rfl
    rw [hu]
    unfold State.linkFields
    rw [hobj]
  refine OffLink.of_eq ((u.abandonIde_aside p).1.trans haside) (funext fun k => ?_) (fun q => ?_) (fun v b => ?_)
  · exact ((u.abandonIde p).linkFields_put p 0 link k).trans (by rw [hfields]; exact (s.linkFields_put p 0 link k).symm)
  · rw [State.port_modPort, State.port_modPort, State.put_port, State.put_port, u.abandonIde_port, u.abandonIde_port, hport, hport]
    split
    next => rw [if_pos rfl]; rfl
    next => rfl
  · have hv := ((u.abandonIde_aside p).2.trans hvppbs)
    exact congrArg (fun l => (Tab.get ({} : VppbState) l (vppbKey v b)).dpc) hv

/-- A port that goes down from a link-up value (R192): beside its LINK and its own record, nothing of what a link leaves alone. -/
theorem State.linkDownTo_offLink {p : Nat} (hup : s.portUp p = true) (link : Nat) : (s.linkDownTo p link).offLink = (s.unlinked p link).offLink := by
  have hlost := s.linkLost_offLink p link
  have hchain : ∀ u : State, ∀ l : List (Nat × Nat),
      (((((l.foldl (fun s e => s.vppbDown e.1 e.2) u).junctionPortDown p).failReads p).failWrites p).portAgentsDie p).offLink = u.offLink := by
    intro u l
    have hdown := foldl_keeps (f := fun (s : State) (e : Nat × Nat) => s.vppbDown e.1 e.2) (p := State.offLink)
      (fun s e => s.vppbDown_offLink e.1 e.2) l u
    exact (linkView.portAgentsDie _ p).trans ((linkView.failWrites _ p).trans ((linkView.failReads _ p).trans
      ((State.junctionPortDown_offLink _ p).trans hdown)))
  unfold State.linkDownTo
  rw [if_pos hup]
  dsimp only
  generalize hs1 : State.modPort _ p (fun x => { x.linkLost s.ftb with flushing := true }) = s1
  generalize hs3 : State.portAgentsDie _ p = s3
  have h3 : s3.offLink = ((s.put .portLink p 0 link).modPort p (fun x => { x.linkLost s.ftb with flushing := true })).offLink := by
    rw [← hs3, hchain, ← hs1, hlost]
  have hrun : s3.sw.running = s.sw.running := congrArg (fun o : OffLink => o.rest.sw.running) h3
  unfold State.unlinked
  rw [hrun]
  split
  next h => rw [h3, h]
  next h =>
    have hflush := (s3.flushPort_offLink p).trans h3
    have hrunning : s.sw.running = false := by simpa using h
    refine (State.modPort_offLink_congr hflush p (g := fun x => { x with flushing := false })
      (fun x y hxy => congrArg (fun z : PortState => { z with flushing := false }) hxy)).trans ?_
    refine OffLink.of_eq rfl rfl (fun q => ?_) (fun _ _ => rfl)
    rw [State.port_modPort, State.port_modPort_self, State.port_modPort, State.port_modPort, hrunning]
    split <;> rfl

theorem State.linkDownTo_down {p : Nat} (hup : s.portUp p = false) (link : Nat) : s.linkDownTo p link = s.put .portLink p 0 link := by
  unfold State.linkDownTo
  exact if_neg (by simp [hup])

/-- A port's LINK reads what it goes down to. -/
theorem State.linkDownTo_link {p : Nat} (hp : p < 65536) {link : Nat} (hl : link < 16) : (s.linkDownTo p link).get .portLink p = link := by
  have hput : (s.put .portLink p 0 link).get .portLink p = link := (s.get_put_self .portLink p 0 link).trans (Nat.mod_eq_of_lt hl)
  cases hup : s.portUp p with
  | false => rw [s.linkDownTo_down hup, hput]
  | true =>
    have hfields : (s.linkDownTo p link).linkFields = (s.put .portLink p 0 link).linkFields := congrArg OffLink.fields (s.linkDownTo_offLink hup link)
    exact (State.get_of_linkFields hfields (by decide) hp (by decide)).trans hput

/-- The other fields of ports, and the bifurcation of stations, are as before a port goes down. -/
theorem State.linkDownTo_get {p : Nat} (hp : p < 65536) (link : Nat) {f : Fld} (hf : Fld.ofLink f = true) {i b : Nat} (hi : i < 65536) (hb : b < 65536)
    (hne : f ≠ .portLink ∨ i ≠ p ∨ b ≠ 0) : (s.linkDownTo p link).get f i b = s.get f i b := by
  have hput : (s.put .portLink p 0 link).get f i b = s.get f i b := by
    by_cases hfl : f = .portLink
    · exact s.get_put_object .portLink f p 0 i b link hp (by decide) hi hb (by
        rcases hne with h | h | h
        · exact absurd hfl h
        · exact .inl (Ne.symm h)
        · exact .inr (Ne.symm h))
    · exact s.get_put_ne (Ne.symm hfl) link hp (by decide) hi hb
  cases hup : s.portUp p with
  | false => rw [s.linkDownTo_down hup, hput]
  | true =>
    have hfields : (s.linkDownTo p link).linkFields = (s.put .portLink p 0 link).linkFields := congrArg OffLink.fields (s.linkDownTo_offLink hup link)
    exact (State.get_of_linkFields hfields hf hi hb).trans hput

/-- What is aside of every link is as it was. -/
theorem State.linkDownTo_aside (p link : Nat) : (s.linkDownTo p link).aside = s.aside := by
  cases hup : s.portUp p with
  | false => rw [s.linkDownTo_down hup]; rfl
  | true => exact congrArg OffLink.rest (s.linkDownTo_offLink hup link)

/-- A port after a link-down: what its frames and credits do not change. -/
theorem State.linkDownTo_port (p link q : Nat) : ((s.linkDownTo p link).port q).cleared =
    if s.portUp p = true ∧ p = q then ({ (s.port p).linkLost s.ftb with flushing := s.sw.running } : PortState).cleared else (s.port q).cleared := by
  cases hup : s.portUp p with
  | false => rw [s.linkDownTo_down hup]; rfl
  | true =>
    have h : ((s.linkDownTo p link).port q).cleared = ((s.unlinked p link).port q).cleared :=
      congrArg (fun o : OffLink => o.ports q) (s.linkDownTo_offLink hup link)
    rw [h, State.unlinked, State.port_modPort]
    simp only [true_and]
    split <;> rfl

theorem State.linkDownTo_dpc (p link v b : Nat) : ((s.linkDownTo p link).vppb v b).dpc = (s.vppb v b).dpc := by
  cases hup : s.portUp p with
  | false => rw [s.linkDownTo_down hup]; rfl
  | true => exact congrArg (fun o : OffLink => o.dpc v b) (s.linkDownTo_offLink hup link)

end

end Sys2Proof.Machine
end

section
/-! PROOFS. A port goes up and down (R160, R191, R192, R558, R595): what a link brings on its port, the value each cause leaves LINK at, and
what containment and its release leave. -/

namespace Sys2Proof

theorem Tab.mem_of_find {α : Type} {t : Tab α} {k : Nat} {v : α} (h : Tab.find t k = some v) : (k, v) ∈ t := by
  induction t with
  | nil => exact absurd h (by simp)
  | cons e t ih =>
    obtain ⟨i, w⟩ := e
    by_cases hi : i = k
    · simp_all [Tab.find]
    · exact List.mem_cons_of_mem _ (ih (by simpa [Tab.find, hi] using h))

end Sys2Proof

namespace Sys2Proof.Machine

section
variable (s : State)

/-! ### A link that comes up -/

theorem State.endScans_offLink (l : List Nat) : (l.foldl (fun (s : State) k => s.endScan k) s).offLink = s.offLink :=
  foldl_keeps (fun s k => s.endScan_offLink k) l s

theorem State.stationFigures_offLink (n : Nat) : (s.stationFigures n).offLink = s.offLink := by
  unfold State.stationFigures
  exact (State.put_offLink _ (f := .stationLength) (by decide) n 0 _).trans (s.put_offLink (f := .stationLoss) (by decide) n 0 _)

theorem State.recordTraining_offLink (p : Nat) (i : LinkInfo) : (s.recordTraining p i).offLink = s.offLink := by
  have hlanes : ∀ (l : List (Nat × Nat)) (f : Nat × Nat → Lane → Lane) (t : State), (l.foldl (fun s e => s.modLane e.1 (f e)) t).offLink = t.offLink :=
    fun l f t => foldl_keeps (f := fun (s : State) (e : Nat × Nat) => s.modLane e.1 (f e)) (p := State.offLink) (fun _ _ => rfl) l t
  unfold State.recordTraining State.assignLanes
  exact (foldl_keeps (fun s n => s.stationFigures_offLink n) _ _).trans ((hlanes _ _ _).trans (hlanes _ _ _))

theorem State.grantCredit_offLink (p : Nat) : (s.grantCredit p).offLink = s.offLink := by
  unfold State.grantCredit
  split
  · exact s.modPort_offLink p (fun _ => rfl)
  · rfl

theorem State.agentWakes_offLink (a : Nat) : (s.agentWakes a).offLink = s.offLink := by
  unfold State.agentWakes
  split
  · exact s.put_offLink (f := .agentLive) (by decide) a 0 1
  · rfl

theorem State.settleVppb_offLink (v b : Nat) : (s.settleVppb v b).offLink = s.offLink := by
  unfold State.settleVppb
  split
  · exact (State.emit_offLink _ _).trans ((State.vppb_modVppb_dpc _ v b (by intro _; rfl)).trans (s.put_offLink (f := .vppbHp) (by decide) v b _))
  · rfl

theorem State.vppbsUp_offLink (p : Nat) : (s.vppbsUp p).offLink = s.offLink := by
  refine foldl_keeps (fun s e => (State.settleVppb_offLink _ _ _).trans ?_) _ s
  split
  · exact s.put_offLink (f := .vppbHp) (by decide) e.1 e.2 1
  · rfl

/-- The IDE stream that a link brings back first (R558). -/
def PortState.restoreJob (x : PortState) : Option (Nat × Nat × Nat) :=
  match x.streams.find? (fun e => e.2.restore) with
  | some e => if x.role == Role.upstream then none else some (1, e.2.id, 0x2000)
  | none => none

theorem State.put_offLink_congr {s t : State} (h : t.offLink = s.offLink) (f : Fld) (i b v : Nat) : (t.put f i b v).offLink = (s.put f i b v).offLink := by
  refine OffLink.of_eq (congrArg OffLink.rest h) (funext fun k => ?_) (fun q => congrArg (fun o : OffLink => o.ports q) h)
    (fun v b => congrArg (fun o : OffLink => o.dpc v b) h)
  rw [State.linkFields_put, State.linkFields_put, show t.linkFields = s.linkFields from congrArg OffLink.fields h]

theorem State.modPort_modPort_offLink (p : Nat) (f g : PortState → PortState) :
    ((s.modPort p f).modPort p g).offLink = (s.modPort p (fun x => g (f x))).offLink := by
  refine OffLink.of_eq rfl rfl (fun q => ?_) (fun _ _ => rfl)
  rw [State.port_modPort, State.port_modPort_self, State.port_modPort, State.port_modPort]
  split <;> rfl

/-- What a link that comes up brings to the record of its port. -/
def PortState.brought (x : PortState) (i : LinkInfo) (now : Nat) : PortState := { x with info := some i, partnerFound := true, upAt := now }

/-- A port whose link came up: its LINK, and what a link brings to its record. -/
def State.linked (s : State) (p : Nat) (i : LinkInfo) (flushing : Bool) (role : Role) (job : Option (Nat × Nat × Nat)) : State :=
  (s.modPort p (fun x => { x.brought i s.ftb with flushing, role, ideJob := job })).put .portLink p 0 4

/-- A port whose link comes up (R191): beside its LINK and its own record, nothing of what a link leaves alone. -/
theorem State.linkUp_offLink (p : Nat) (i : LinkInfo) : ∃ flushing role job, (s.linkUp p i).offLink = (s.linked p i flushing role job).offLink := by
  unfold State.linkUp
  dsimp only
  generalize hs0 : (if (s.port p).flushing = true then _ else s) = s0
  obtain ⟨flushing, h0⟩ : ∃ flushing, s0.offLink = (s.modPort p (fun x => { x with flushing })).offLink := by
    subst hs0
    split
    · exact ⟨false, State.modPort_offLink_congr (s.flushPort_offLink p) p (fun x y h => congrArg (fun z : PortState => { z with flushing := false }) h)⟩
    · refine ⟨(s.port p).flushing, OffLink.of_eq rfl rfl (fun q => ?_) (fun _ _ => rfl)⟩
      rw [State.port_modPort]
      split
      next h => rw [← h]
      next => rfl
  generalize hs1 : ((s0.modPort p _).grantCredit p).put .portLink p 0 4 = s1
  have h1 : s1.offLink = ((s.modPort p (fun x => { x.brought i s.ftb with flushing })).put .portLink p 0 4).offLink := by
    subst hs1
    refine State.put_offLink_congr ((State.grantCredit_offLink _ p).trans ?_) .portLink p 0 4
    have h := State.modPort_offLink_congr h0 p (f := fun x => x.brought i s.ftb) (g := fun x => x.brought i s.ftb)
      (fun x y h => congrArg (fun z : PortState => z.brought i s.ftb) h)
    exact h.trans (s.modPort_modPort_offLink p (fun x => { x with flushing }) (fun x => x.brought i s.ftb))
  generalize s1.trainedRole p = role
  generalize hs2 : s1.modPort p (fun x => { x with role }) = s2
  have h2 : s2.offLink = ((s.modPort p (fun x => { x.brought i s.ftb with flushing, role })).put .portLink p 0 4).offLink := by
    subst hs2
    have h := State.modPort_offLink_congr h1 p (f := fun x => { x with role }) (g := fun x => { x with role })
      (fun x y h => congrArg (fun z : PortState => { z with role }) h)
    exact h.trans (State.put_offLink_congr (s.modPort_modPort_offLink p (fun x => { x.brought i s.ftb with flushing }) (fun x => { x with role })) .portLink p 0 4)
  generalize hs4 : State.vppbsUp _ p = s4
  have h4 : s4.offLink = ((s.modPort p (fun x => { x.brought i s.ftb with flushing, role })).put .portLink p 0 4).offLink := by
    subst hs4
    refine (State.vppbsUp_offLink _ p).trans ((foldl_keeps (fun s a => s.agentWakes_offLink a) _ _).trans ?_)
    exact (linkView.writeHeld _ p).trans ((State.recordTraining_offLink _ p i).trans h2)
  generalize hjob : (s4.port p).restoreJob = job
  refine ⟨flushing, role, job, ?_⟩
  have hmod : (s4.modPort p (fun x => { x with ideJob := x.restoreJob })).offLink = (s4.modPort p (fun x => { x with ideJob := job })).offLink := by
    refine OffLink.of_eq rfl rfl (fun q => ?_) (fun _ _ => rfl)
    rw [State.port_modPort, State.port_modPort, hjob]
  have h := State.modPort_offLink_congr h4 p (f := fun x => { x with ideJob := job }) (g := fun x => { x with ideJob := job })
    (fun x y h => congrArg (fun z : PortState => { z with ideJob := job }) h)
  exact hmod.trans (h.trans (State.put_offLink_congr
    (s.modPort_modPort_offLink p (fun x => { x.brought i s.ftb with flushing, role }) (fun x => { x with ideJob := job })) .portLink p 0 4))

theorem State.linkUp_link {p : Nat} (hp : p < 65536) (i : LinkInfo) : (s.linkUp p i).get .portLink p = 4 := by
  obtain ⟨flushing, role, job, h⟩ := s.linkUp_offLink p i
  have hput : (s.linked p i flushing role job).get .portLink p = 4 := State.get_put_self _ .portLink p 0 4
  have hfields : (s.linkUp p i).linkFields = (s.linked p i flushing role job).linkFields := (congrArg OffLink.fields h :)
  exact (State.get_of_linkFields hfields (by decide) hp (by decide)).trans hput

/-- The record of a port that came up: what its frames and credits do not change. -/
theorem State.linkUp_port (p : Nat) (i : LinkInfo) : ∃ flushing role job, ((s.linkUp p i).port p).cleared =
    ({ (s.port p).brought i s.ftb with flushing, role, ideJob := job } : PortState).cleared := by
  obtain ⟨flushing, role, job, h⟩ := s.linkUp_offLink p i
  refine ⟨flushing, role, job, ?_⟩
  have hport : ((s.linkUp p i).port p).cleared = ((s.linked p i flushing role job).port p).cleared := (congrArg (fun o : OffLink => o.ports p) h :)
  rw [hport, State.linked, State.put_port, State.port_modPort_self]

/-- What reads the fields of ports reads the same where the off-link parts agree. -/
theorem State.get_of_offLink {s t : State} (h : t.offLink = s.offLink) {f : Fld} (hf : Fld.ofLink f = true) {p : Nat} (hp : p < 65536) :
    t.get f p = s.get f p := State.get_of_linkFields (congrArg OffLink.fields h) hf hp (by decide)

theorem State.portUp_of_offLink {s t : State} (h : t.offLink = s.offLink) {p : Nat} (hp : p < 65536) : t.portUp p = s.portUp p :=
  congrArg linkUpValue (State.get_of_offLink h (f := .portLink) (by decide) hp)

/-! ### A port that goes down -/

/-- A port is down at a link-down value: its link is gone with its keys. -/
def State.isDown (s : State) (p link : Nat) (wasUp : Bool) : Prop := s.get .portLink p = link ∧
  (wasUp = true → (s.port p).info = none ∧ (s.port p).ideJob = none ∧ ∀ e ∈ (s.port p).streams, e.2.secure = false)

theorem PortState.lost_insecure (x : PortState) (now : Nat) : ∀ e ∈ (x.linkLost now).streams, e.2.secure = false := by
  intro e he
  obtain ⟨a, -, rfl⟩ := List.mem_map.1 he
  rfl

/-- What a record of a port with no frames and no credits reads is what the port's own record reads. -/
theorem PortState.of_cleared {x y : PortState} (h : x.cleared = y.cleared) : x.info = y.info ∧ x.ideJob = y.ideJob ∧ x.streams = y.streams ∧
    x.contained = y.contained ∧ x.hotResetUntil = y.hotResetUntil ∧ x.partnerFound = y.partnerFound ∧ x.upAt = y.upAt ∧ x.ctlDisabled = y.ctlDisabled :=
  ⟨(congrArg PortState.info h :), (congrArg PortState.ideJob h :), (congrArg PortState.streams h :), (congrArg PortState.contained h :),
    (congrArg PortState.hotResetUntil h :), (congrArg PortState.partnerFound h :), (congrArg PortState.upAt h :), (congrArg PortState.ctlDisabled h :)⟩

/-- What a state with the same off-link part as a port that went down reads on that port. -/
theorem State.down_of_offLink {t : State} {p : Nat} (hp : p < 65536) {link : Nat} (hl : link < 16) (h : t.offLink = (s.linkDownTo p link).offLink) :
    t.isDown p link (s.portUp p) ∧ (t.port p).contained = (s.port p).contained ∧ (t.port p).hotResetUntil = (s.port p).hotResetUntil := by
  have hlink : t.get .portLink p = link :=
    (State.get_of_linkFields (congrArg OffLink.fields h) (by decide) hp (by decide)).trans (s.linkDownTo_link hp hl)
  have hport : (t.port p).cleared = ((s.linkDownTo p link).port p).cleared := congrArg (fun o : OffLink => o.ports p) h
  rw [s.linkDownTo_port] at hport
  by_cases hup : s.portUp p = true
  · rw [if_pos ⟨hup, rfl⟩] at hport
    obtain ⟨hinfo, hjob, hstreams, hcont, hreset, -⟩ := PortState.of_cleared hport
    exact ⟨⟨hlink, fun _ => ⟨hinfo, hjob, fun e he => (s.port p).lost_insecure s.ftb e (hstreams ▸ he)⟩⟩, hcont, hreset⟩
  · rw [if_neg (fun h => hup h.1)] at hport
    obtain ⟨-, -, -, hcont, hreset, -⟩ := PortState.of_cleared hport
    exact ⟨⟨hlink, fun h => absurd h hup⟩, hcont, hreset⟩

/-! ### Where a port rests -/

theorem State.restLink_modPort {p : Nat} {f : PortState → PortState} (hf : (f (s.port p)).ctlDisabled = (s.port p).ctlDisabled)
    (hr : (f (s.port p)).hotResetUntil = (s.port p).hotResetUntil) (hc : (f (s.port p)).contained = (s.port p).contained) :
    (s.modPort p f).restLink p = s.restLink p := by
  have hport := s.port_modPort_self p f
  simp only [State.restLink, hport, hf, hr, hc]
  rfl

theorem State.restLink_not_up (p : Nat) : linkUpValue (s.restLink p) = false ∧ s.restLink p < 16 := by
  unfold State.restLink
  dsimp only
  repeat' split
  all_goals decide

theorem State.chooseBands_reads (p : Nat) : (s.chooseBands p).obj = s.obj ∧
    (∀ q, ((s.chooseBands p).port q) = if p = q then { s.port p with band5 := ((s.chooseBands p).port p).band5 } else s.port q) := by
  have hlanes : ∀ l : List Nat, (l.foldl (fun s k => s.modLane k Lane.rebanded) s).obj = s.obj ∧ (l.foldl (fun s k => s.modLane k Lane.rebanded) s).ports = s.ports := by
    intro l
    have hkeep := foldl_keeps (f := fun (s : State) k => s.modLane k Lane.rebanded) (p := fun u => (u.obj, u.ports)) (fun _ _ => rfl) l s
    exact Prod.ext_iff.1 hkeep
  unfold State.chooseBands
  dsimp only
  obtain ⟨hobj, hports⟩ := hlanes (s.lanesOf p)
  generalize (s.lanesOf p).foldl (fun s k => s.modLane k Lane.rebanded) s = u at hobj hports
  have hport : ∀ q, u.port q = s.port q := fun q => congrArg (fun l => Tab.get ({} : PortState) l q) hports
  refine ⟨hobj, fun q => ?_⟩
  rw [State.port_modPort, State.port_modPort_self, hport, hport]

/-- A port that starts to detect reads its resting LINK, and keeps its record but for its bands, its Trunk and its control. -/
theorem State.startDetect_reads (p : Nat) : (s.startDetect p).get .portLink p = s.restLink p ∧
    ((s.startDetect p).port p).info = (s.port p).info ∧ ((s.startDetect p).port p).contained = (s.port p).contained ∧
    ((s.startDetect p).port p).hotResetUntil = (s.port p).hotResetUntil := by
  have hrest : s.restLink p % 16 = s.restLink p := Nat.mod_eq_of_lt (s.restLink_not_up p).2
  have hput : (s.put .portLink p 0 (s.restLink p)).get .portLink p = s.restLink p := (s.get_put_self .portLink p 0 _).trans hrest
  unfold State.startDetect
  dsimp only
  split
  · obtain ⟨hobj, hport⟩ := (s.put .portLink p 0 (s.restLink p)).chooseBands_reads p
    rw [State.port_modPort_self, State.modPort_get, hport p, if_pos rfl]
    refine ⟨?_, rfl, rfl, rfl⟩
    exact (congrArg (fun o => Tab.get 0 o (objKey 1 6 p 0)) hobj).trans hput
  · exact ⟨hput, rfl, rfl, rfl⟩

/-! ### Containment -/

/-- DPC Trigger Status changes vPPBs alone. -/
theorem State.dpcTrigger_keeps (p r : Nat) : (s.dpcTrigger p r).obj = s.obj ∧ (s.dpcTrigger p r).ports = s.ports :=
  ⟨foldl_keeps (p := State.obj) (by intro _ _; rfl) _ s, foldl_keeps (p := State.ports) (by intro _ _; rfl) _ s⟩

theorem State.vppb_modVppb (v b v' b' : Nat) (f : VppbState → VppbState) :
    (s.modVppb v b f).vppb v' b' = if vppbKey v b = vppbKey v' b' then f (s.vppb v b) else s.vppb v' b' := Tab.get_modify ..

theorem State.dpcTrigger_status (p r : Nat) : ∀ e ∈ s.vppbsOfPort p, ((s.dpcTrigger p r).vppb e.1 e.2).dpcStatus = true := by
  have hsettle := foldl_settles (f := fun (t : State) (e : Nat × Nat) => t.modVppb e.1 e.2 (fun x => { x with dpcStatus := true, dpcReason := r }))
    (R := fun _ => True) (P := fun e (t : State) => (t.vppb e.1 e.2).dpcStatus = true) (l := s.vppbsOfPort p)
    (fun t _ a _ => ⟨trivial, by rw [State.vppb_modVppb, if_pos rfl]⟩) (fun t _ a _ b _ h => by rw [State.vppb_modVppb]; split <;> [rfl; exact h]) (s := s) trivial
  exact hsettle

/-- A vPPB whose KIND is not 0 is bound. -/
theorem State.mem_vppbsOfPort {p v b : Nat} (hv : v < 65536) (hb : b < 65536) (hport : s.get .vppbPort v b = p) (hkind : s.get .vppbKind v b ≠ 0) :
    (v, b) ∈ s.vppbsOfPort p := by
  have hlisted : (v, b) ∈ s.boundVppbs := by
    unfold State.boundVppbs
    cases hfind : Tab.find s.obj (objKey 6 1 v b) with
    | none =>
      refine absurd ?_ hkind
      rw [State.get, Tab.get_eq_find]
      exact congrArg (Option.getD · _) hfind
    | some w =>
      have hw : w ≠ 0 := by
        rw [State.get, Tab.get_eq_find] at hkind
        exact fun h => hkind ((congrArg (Option.getD · _) hfind).trans h)
      refine List.mem_filterMap.2 ⟨(objKey 6 1 v b, w), Tab.mem_of_find hfind, ?_⟩
      have hcls : objKey 6 1 v b / 2 ^ 32 = clsVppb * 256 + 1 := by unfold objKey clsVppb; omega
      have hidx : objKey 6 1 v b / 65536 % 65536 = v := by unfold objKey; omega
      have hsub : objKey 6 1 v b % 65536 = b := by unfold objKey; omega
      simp only [hcls, hidx, hsub, beq_self_eq_true, Bool.true_and, bne_iff_ne]
      exact if_pos hw
  exact List.mem_filter.2 ⟨hlisted, by simp [hport]⟩

/-- A port that enters containment: its trigger, LINK 12, and nothing of its link. -/
theorem State.containPort_reads {p : Nat} (hp : p < 65536) (trigger : Nat) (f : Containment → Containment) (hl : s.get .portLink p ≠ 12) :
    (s.containPort p trigger f).isDown p 12 (s.portUp p) ∧ ((s.containPort p trigger f).port p).contained = f (s.port p).contained ∧
    ∀ e ∈ s.vppbsOfPort p, ((s.containPort p trigger f).vppb e.1 e.2).dpcStatus = true := by
  unfold State.containPort
  dsimp only
  rw [if_neg hl]
  generalize hs1 : s.modPort p (fun x => { x with contained := f x.contained }) = s1
  generalize (if trigger = 2 then 1 else 2) = r
  obtain ⟨hobj, hports⟩ := s1.dpcTrigger_keeps p r
  have hstatus := s1.dpcTrigger_status p r
  have hcont : ((s1.dpcTrigger p r).port p).contained = f (s.port p).contained := by
    have hport : (s1.dpcTrigger p r).port p = s1.port p := congrArg (fun l => Tab.get ({} : PortState) l p) hports
    rw [hport, ← hs1, State.port_modPort_self]
  have hup : (s1.dpcTrigger p r).portUp p = s.portUp p := by
    refine (congrArg (fun o => linkUpValue (Tab.get 0 o (objKey 1 6 p 0))) hobj).trans ?_
    rw [← hs1]
    rfl
  generalize s1.dpcTrigger p r = u at hobj hports hstatus hcont hup
  have hoff := State.contain_offLink (u.linkDownTo p 12) { code := 0x0304, place := p, detail := [trigger, s.get .portLink p] }
  obtain ⟨hdown, hkept, -⟩ := u.down_of_offLink hp (by decide) hoff
  refine ⟨hup ▸ hdown, hkept.trans hcont, fun e he => ?_⟩
  have hdpc : ((u.linkDownTo p 12).contain _ |>.vppb e.1 e.2).dpc = ((u.linkDownTo p 12).vppb e.1 e.2).dpc := (congrArg (fun o : OffLink => o.dpc e.1 e.2) hoff :)
  have hread := (congrArg Prod.fst hdpc).trans (congrArg Prod.fst (u.linkDownTo_dpc p 12 e.1 e.2))
  exact hread.trans (hstatus e (by rw [← hs1]; exact he))

/-- The vector of a release leaves a port out of containment, or its trigger with the others. -/
theorem State.releasePort_reads (p : Nat) (f : Containment → Containment) :
    ((s.releasePort p f).port p).contained = f (s.port p).contained ∧
    ((f (s.port p).contained).any = false → s.get .portLink p = 12 → (s.releasePort p f).get .portLink p ≠ 12) := by
  unfold State.releasePort
  dsimp only
  generalize hs1 : s.modPort p (fun x => { x with contained := f x.contained }) = s1
  have hcont : (s1.port p).contained = f (s.port p).contained := by
    rw [← hs1, State.port_modPort_self]
  obtain ⟨hlink, -, hkept, -⟩ := s1.startDetect_reads p
  split
  next h =>
    refine ⟨hkept.trans hcont, fun hany _ => ?_⟩
    rw [hlink, State.restLink, hcont, hany, if_neg Bool.false_ne_true]
    repeat' split
    all_goals decide
  next h =>
    refine ⟨hcont, fun hany hl => absurd ?_ h⟩
    rw [hcont, hany, hl]
    rfl

/-! ### The events -/

section
variable {s} {p : Port}

theorem State.linkUp_trains {i : LinkInfo} (hok : s.portOk p.val = true) (hproto : s.get .portProto p.val ≠ 2)
    (hl : s.get .portLink p.val = 1 ∨ s.get .portLink p.val = 2) (hrest : s.restLink p.val = 1) (hi : i.state = .l0) (hlink : s.linkOk p.val i = true) :
    exec (.linkUp p i) s = .next (s.linkUp p.val (s.settled p.val i)) := by
  have hdown : linkUpValue (s.get .portLink p.val) = false := by
    rcases hl with h | h <;> rw [h] <;> rfl
  show execLinkUp p i s = _
  rcases hl with h | h <;> simp [execLinkUp, hok, hproto, hrest, hi, hlink, h, linkUpValue]

theorem State.linkUp_moves {i : LinkInfo} (hok : s.portOk p.val = true) (hproto : s.get .portProto p.val ≠ 2) (hup : linkUpValue (s.get .portLink p.val) = true) :
    exec (.linkUp p i) s = .next (s.moveUp p.val i) := by
  show execLinkUp p i s = _
  simp [execLinkUp, hok, hproto, hup]

end

/-- A link that reaches L1: its scans end, and its LINK is 6. -/
theorem State.toL1_reads (p : Nat) (l : List Nat) : ((l.foldl (fun (s : State) k => s.endScan k) s).put .portLink p 0 6).get .portLink p = 6 ∧
    (((l.foldl (fun (s : State) k => s.endScan k) s).put .portLink p 0 6).port p).info = (s.port p).info := by
  refine ⟨State.get_put_self _ .portLink p 0 6, ?_⟩
  obtain ⟨-, -, hports, -⟩ := s.endScans_keep l
  exact congrArg (fun l => (Tab.get ({} : PortState) l p).info) hports

/-- A port that drops its link is down, and has none. -/
theorem State.dropLink_reads {p : Nat} (hp : p < 65536) (hup : s.portUp p = true) : (s.dropLink p).portUp p = false ∧ ((s.dropLink p).port p).info = none := by
  obtain ⟨⟨-, hlost⟩, -⟩ := s.down_of_offLink hp (link := 0) (by decide) rfl
  obtain ⟨hlink, hinfo, -⟩ := (s.linkDownTo p 0).startDetect_reads p
  unfold State.dropLink
  exact ⟨(congrArg linkUpValue hlink).trans (State.restLink_not_up _ p).1, hinfo.trans (hlost hup).1⟩

/-- Settles O37. -/
theorem linkChanges : Obligations.LinkChanges := by
  unfold Obligations.LinkChanges
  intro p s hok
  have hp : p.val < 65536 := Nat.lt_trans p.isLt (by decide)
  have hbad : ¬(!s.portOk p.val) = true := by simp [hok]
  dsimp only
  refine ⟨fun i hproto hl hrest hi hlink => ?_, fun i hproto hlit => ⟨fun hi hup => ?_, fun hi hl => ?_, fun hi hl hclk hcaps hinfo => ?_, fun hi h5 h8 => ?_⟩,
    ?_, ?_, ?_, fun hproto => ?_, fun hup => ?_, fun hproto hl => ?_, fun v b hport hkind hdpc hl => ?_, fun h0 hdue hl hmay hany hctl => ?_,
    fun hflush hheld => ?_, fun n hreplay hdue => ?_⟩
  · obtain ⟨flushing, role, job, hcleared⟩ := s.linkUp_port p.val (s.settled p.val i)
    obtain ⟨hinfo, -, -, -, -, hpartner, hat, -⟩ := PortState.of_cleared hcleared
    exact ⟨_, State.linkUp_trains hok hproto hl hrest hi hlink, s.linkUp_link hp _, hinfo, hpartner, hat⟩
  · refine ⟨_, State.linkUp_moves hok hproto hup, ?_⟩
    simp [State.moveUp, hlit, hi]
  · have hup : linkUpValue (s.get .portLink p.val) = true := by
      rcases hl with h | h <;> rw [h] <;> rfl
    refine ⟨_, State.linkUp_moves hok hproto hup, ?_⟩
    have hmove : s.moveUp p.val i = ((s.lanesOf p.val).foldl (fun s k => s.endScan k) s).put .portLink p.val 0 6 := by
      simp [State.moveUp, hlit, hi, hl]
    rw [hmove]
    exact s.toL1_reads p.val (s.lanesOf p.val)
  · refine ⟨_, State.linkUp_moves hok hproto (by rw [hl]; rfl), ?_⟩
    obtain ⟨x, hx⟩ := Option.ne_none_iff_exists'.1 hinfo
    simp [State.moveUp, hlit, hi, hl, hclk, hx, hcaps x hx]
  · have hup : linkUpValue (s.get .portLink p.val) = true := by
      simp only [linkUpValue, Bool.and_eq_true, decide_eq_true_eq]
      omega
    refine ⟨_, State.linkUp_moves hok hproto hup, ?_⟩
    simp [State.moveUp, hlit, hi, h5]
  · refine ⟨_, rfl, ?_⟩
    rw [if_neg hbad]
    exact (s.down_of_offLink hp (link := 11) (by decide) rfl).1
  · refine ⟨_, rfl, ?_⟩
    rw [if_neg hbad]
    obtain ⟨hdown, -, hreset⟩ := (s.modPort p.val (fun x => { x with hotResetUntil := s.ftb + 1 })).down_of_offLink hp (link := 10) (by decide) rfl
    exact ⟨hdown, hreset.trans (by rw [State.port_modPort_self])⟩
  · refine ⟨_, rfl, ?_⟩
    rw [if_neg hbad]
    have hup := State.portUp_of_offLink (s.contain_offLink { code := 0x0305, place := p.val, detail := [s.free] }) hp
    dsimp only
    rw [← hup]
    exact (State.down_of_offLink (s.contain { code := 0x0305, place := p.val, detail := [s.free] }).drawn hp (link := 15) (by decide) rfl).1
  · refine ⟨_, rfl, ?_⟩
    simp only [hproto, beq_self_eq_true, if_true]
    rw [if_neg hbad]
    exact (s.down_of_offLink hp (link := 14) (by decide) rfl).1
  · refine ⟨_, rfl, ?_⟩
    rw [if_neg hbad]
    dsimp only
    rw [if_pos hup]
    exact s.dropLink_reads hp hup
  · refine ⟨_, rfl, ?_⟩
    rw [if_neg hbad]
    dsimp only
    rw [if_neg (by simpa using hproto)]
    have hoff := s.contain_offLink { code := 0x0301, place := p.val, detail := [s.free] }
    have hup := State.portUp_of_offLink hoff hp
    have hlink := State.get_of_offLink hoff (f := .portLink) (by decide) hp
    obtain ⟨hdown, hcont, -⟩ := (s.contain { code := 0x0301, place := p.val, detail := [s.free] }).drawn.containPort_reads hp 2
      (fun c => { c with replay := some (s.ftb + 100000000) }) (by rw [State.drawn_get, hlink]; exact hl)
    refine ⟨⟨hdown.1, fun h => hdown.2 (hup.trans h)⟩, ?_⟩
    rw [hcont]
  · refine ⟨_, rfl, ?_⟩
    rw [if_neg hbad]
    dsimp only
    rw [if_pos (by simp [hport, hkind, hdpc])]
    obtain ⟨hdown, hcont, hstatus⟩ := s.containPort_reads hp 1
      (fun c => { c with dpc := if c.dpc.contains (vppbKey v.val b.val) then c.dpc else c.dpc ++ [vppbKey v.val b.val] }) hl
    refine ⟨hdown, ?_, hstatus (v.val, b.val) (s.mem_vppbsOfPort (Nat.lt_trans v.isLt (by decide)) (Nat.lt_trans b.isLt (by decide)) hport hkind)⟩
    rw [hcont]
    dsimp only
    split
    next h => exact List.contains_iff_mem.1 h
    next => exact List.mem_append_right _ List.mem_cons_self
  · refine ⟨_, rfl, ?_⟩
    rw [if_pos (by simp [h0, hdue]), if_pos hl]
    obtain ⟨hlink, -, -, hreset⟩ := (s.modPort p.val (fun x => { x with hotResetUntil := 0 })).startDetect_reads p.val
    refine ⟨hlink.trans ?_, hreset.trans (by rw [State.port_modPort_self])⟩
    have hmay' : (s.modPort p.val (fun x => { x with hotResetUntil := 0 })).mayTrain p.val = true := hmay
    rw [State.restLink, State.port_modPort_self, hmay']
    simp [hany, hctl]
  · refine ⟨_, rfl, ?_⟩
    simp [hflush, hheld]
  · refine ⟨_, rfl, ?_⟩
    simp only [hreplay]
    rw [if_pos hdue]
    obtain ⟨hcont, hleaves⟩ := s.releasePort_reads p.val (fun c => { c with replay := none })
    exact ⟨hcont, fun hany => hleaves (hcont ▸ hany)⟩

end

end Sys2Proof.Machine
end

section
/-! PROOFS. Control messages of a Trunk link (R135, R231 to R235, R454): a change of width or rate, the level two ends agree, the time
stamps, and parking by agreement. -/

namespace Sys2Proof.Machine

section
variable (s : State)

/-! ### Messages that a port has released -/

/-- The record of a port that gave a released message out: what it has released, and the slots it admitted. -/
def PortState.gave (x : PortState) (arrived : List (Nat × List Byte)) (admitted : Tab Nat) : PortState :=
  { x with ctl := { x.ctl with arrived }, trunk := { x.trunk with admitted } }

theorem State.takes_gave {s s1 : State} {p type : Nat} {body : List Byte} (h : s.takes p type body s1) :
    ∃ arrived admitted, s1 = s.modPort p (fun x => x.gave arrived admitted) := by
  obtain ⟨b, h⟩ := h
  obtain ⟨e, -, he⟩ := Option.map_eq_some_iff.1 h
  obtain ⟨-, rfl⟩ := Prod.mk.inj he
  by_cases ht : type = 0
  · simp only [if_pos ht]
    exact ⟨_, _, rfl⟩
  · simp only [if_neg ht]
    exact ⟨_, _, rfl⟩

theorem State.onMessage_takes {s s1 : State} {p type : Nat} {body : List Byte} (h : s.takes p type body s1) (act : State → State) :
    s.onMessage p type body act = act s1 := by
  obtain ⟨b, h⟩ := h
  simp only [State.onMessage, h]

theorem State.gave_offLink (p : Nat) (a : List (Nat × List Byte)) (q : Tab Nat) :
    (s.modPort p (fun x => x.gave a q)).offLink = (s.modPort p (fun x => { x with ctl := { x.ctl with arrived := a } })).offLink := by
  refine OffLink.of_eq rfl rfl (fun k => ?_) (fun _ _ => rfl)
  rw [State.port_modPort, State.port_modPort]
  split <;> rfl

/-! ### Stages -/

/-- The stage of a Trunk port, from what a link leaves alone. -/
theorem State.trunkAt_of_offLink {s t : State} (h : t.offLink = s.offLink) {p : Nat} (hp : p < 65536) (stage : TrunkStage) :
    t.trunkAt p stage = s.trunkAt p stage := by
  have hproto := State.get_of_offLink h (f := .portProto) (by decide) hp
  have hbif := State.get_of_offLink h (f := .stationBifurc) (by decide) (p := portStation p) (Nat.lt_of_le_of_lt (Nat.div_le_self _ _) hp)
  have hrest : t.aside = s.aside := congrArg OffLink.rest h
  have hport : (t.port p).cleared = (s.port p).cleared := congrArg (fun o : OffLink => o.ports p) h
  have hcount : t.stationCount = s.stationCount := (congrArg (fun u : State => u.stationCount) hrest :)
  have hstation : ∀ n, t.station n = s.station n := fun n => (congrArg (fun u : State => u.station n) hrest :)
  have hstage : (t.port p).trunk.stage = (s.port p).trunk.stage := (congrArg (fun x : PortState => x.trunk.stage) hport :)
  simp only [State.trunkAt, State.portOk, State.portPresent, State.portUsed, State.lit, State.portStations, hproto, hbif, hcount, hstation, hstage]

/-- A port trains Trunk with its transmitters and receivers on. -/
def State.trunkPort (s : State) (p : Nat) : Bool := s.get .portProto p == 2 && s.portOk p && s.lit p

theorem State.trunkAt_iff (p : Nat) (stage : TrunkStage) : s.trunkAt p stage = true ↔ s.trunkPort p = true ∧ (s.port p).trunk.stage = stage := by
  unfold State.trunkAt State.trunkPort
  rw [Bool.and_eq_true, beq_iff_eq]

theorem State.trunkPort_modPort (p q : Nat) (f : PortState → PortState) : (s.modPort q f).trunkPort p = s.trunkPort p := rfl

theorem State.trunkPort_of_offLink {s t : State} (h : t.offLink = s.offLink) {p : Nat} (hp : p < 65536) : t.trunkPort p = s.trunkPort p := by
  have hstage : (t.port p).trunk.stage = (s.port p).trunk.stage := (congrArg (fun o : OffLink => (o.ports p).trunk.stage) h :)
  have hat := State.trunkAt_of_offLink h hp (s.port p).trunk.stage
  unfold State.trunkAt at hat
  rw [hstage, beq_self_eq_true, Bool.and_true, Bool.and_true] at hat
  exact hat

/-- A port's LINK has no part in where it trains. -/
theorem State.trunkPort_put (p : Nat) {q : Nat} (hp : p < 65536) (hq : q < 65536) (v : Nat) : (s.put .portLink q 0 v).trunkPort p = s.trunkPort p := by
  have hproto : (s.put .portLink q 0 v).get .portProto p = s.get .portProto p := s.get_put_ne (by decide) v hq (by decide) hp (by decide)
  have hbif : (s.put .portLink q 0 v).get .stationBifurc (portStation p) 0 = s.get .stationBifurc (portStation p) 0 :=
    s.get_put_ne (by decide) v hq (by decide) (Nat.lt_of_le_of_lt (Nat.div_le_self _ _) hp) (by decide)
  have hcount : (s.put .portLink q 0 v).stationCount = s.stationCount := rfl
  have hstation : ∀ n, (s.put .portLink q 0 v).station n = s.station n := fun _ => rfl
  simp only [State.trunkPort, State.portOk, State.portPresent, State.portUsed, State.lit, State.portStations, hproto, hbif, hcount, hstation]

/-! ### Recovery and changes -/

theorem State.sendMarker_offLink (p n : Nat) : (s.sendMarker p n).offLink = (s.modCtl p (fun c => { c with laneBytes := 0 })).offLink := by
  unfold State.sendMarker
  exact State.emit_offLink _ _

/-- A Trunk port that enters recovery. -/
def PortState.recovering (x : PortState) (now : Nat) : PortState :=
  { x with
    trunk := { x.trunk with stage := .recovery, since := now, replaying := [], replays := 0, replayTimer := none }
    ctl := { x.ctl with markerBad := [], markerCount := [], markerGood := [], markerStop := [], markerFails := [], markerTx := 0, idleLeft := 0,
                        laneBytes := 0 } }

theorem State.enterRecovery_offLink (p : Nat) : (s.enterRecovery p).offLink = ((s.put .portLink p 0 3).modPort p (fun x => x.recovering s.ftb)).offLink := by
  have hlane : ∀ {t u : State}, t.offLink = u.offLink →
      (t.modCtl p (fun c => { c with laneBytes := 0 })).offLink = (u.modCtl p (fun c => { c with laneBytes := 0 })).offLink := fun h =>
    State.modPort_offLink_congr h p (fun x y h => congrArg (fun z : PortState => { z with ctl := { z.ctl with laneBytes := 0 } }) h)
  unfold State.enterRecovery
  dsimp only
  refine (State.sendMarker_offLink _ p 0xFFFF).trans ((hlane (State.sendMarker_offLink _ p 0xFFFF)).trans ?_)
  refine OffLink.of_eq rfl rfl (fun q => ?_) (fun _ _ => rfl)
  simp only [State.modCtl, State.modTrunk, State.port_modPort, State.put_port]
  by_cases h : p = q <;> simp [h, PortState.recovering, PortState.cleared]

/-- What a port that enters recovery reads. -/
theorem State.enterRecovery_reads {p : Nat} (hp : p < 65536) (h : s.trunkPort p = true) : (s.enterRecovery p).get .portLink p = 3 ∧
    (s.enterRecovery p).trunkAt p .recovery = true ∧ ((s.enterRecovery p).port p).trunk.width = (s.port p).trunk.width ∧
    ((s.enterRecovery p).port p).trunk.rate = (s.port p).trunk.rate := by
  have hoff := s.enterRecovery_offLink p
  have hport : ((s.enterRecovery p).port p).cleared = ((s.port p).recovering s.ftb).cleared := by
    refine (congrArg (fun o : OffLink => o.ports p) hoff).trans ?_
    exact congrArg PortState.cleared (State.port_modPort_self _ p _)
  refine ⟨?_, (State.trunkAt_iff _ p _).2 ⟨?_, ?_⟩, ?_, ?_⟩
  · exact (State.get_of_offLink hoff (f := .portLink) (by decide) hp).trans (State.get_put_self _ .portLink p 0 3)
  · rw [State.trunkPort_of_offLink hoff hp, State.trunkPort_modPort, s.trunkPort_put p hp hp, h]
  · exact (congrArg (fun x : PortState => x.trunk.stage) hport :)
  · exact (congrArg (fun x : PortState => x.trunk.width) hport :)
  · exact (congrArg (fun x : PortState => x.trunk.rate) hport :)

theorem State.assignLanes_offLink (p width : Nat) (reversed : Bool) : (s.assignLanes p width reversed).offLink = s.offLink := by
  unfold State.assignLanes
  exact foldl_keeps (p := State.offLink) (by intro _ _; rfl) _ s

theorem State.applyChange_reads {p : Nat} (hp : p < 65536) (h : s.trunkPort p = true) (c : Nat × Nat) : (s.applyChange p c).get .portLink p = 3 ∧
    (s.applyChange p c).trunkAt p .recovery = true ∧ ((s.applyChange p c).port p).trunk.width = c.1 ∧
    ((s.applyChange p c).port p).trunk.rate = c.2 := by
  unfold State.applyChange
  dsimp only
  generalize hs1 : s.modPort p _ = s1
  have hat : s1.trunkPort p = true := by rw [← hs1]; exact h
  have hwidth : (s1.port p).trunk.width = c.1 ∧ (s1.port p).trunk.rate = c.2 := by
    rw [← hs1, State.port_modPort_self]
    exact ⟨rfl, rfl⟩
  have hoff := s1.assignLanes_offLink p c.1 (s.port p).trunk.hello.reversed
  have hport : ((s1.assignLanes p c.1 (s.port p).trunk.hello.reversed).port p).cleared = (s1.port p).cleared := congrArg (fun o : OffLink => o.ports p) hoff
  obtain ⟨hlink, hstage, hw, hr⟩ := State.enterRecovery_reads _ hp ((State.trunkPort_of_offLink hoff hp).trans hat)
  refine ⟨hlink, hstage, hw.trans ?_, hr.trans ?_⟩
  · exact (congrArg (fun x : PortState => x.trunk.width) hport :).trans hwidth.1
  · exact (congrArg (fun x : PortState => x.trunk.rate) hport :).trans hwidth.2

theorem State.modCtl_peerSent {s : State} {p p' type : Nat} (h : PeerSent s p type) (f : TrunkCtl → TrunkCtl) : PeerSent (s.modCtl p' f) p type := by
  obtain ⟨m, hm, ht⟩ := h
  refine ⟨m, ?_, ht⟩
  rw [State.modCtl, State.port_modPort]
  split
  next h => subst h; exact hm
  next => exact hm

/-- The change that a command carries: the least of the change that stands and the new one (R231). -/
def TrunkCtl.joined (x : TrunkCtl) (c : Nat × Nat) : Nat × Nat := (x.changeSent.map (fun g => leastOf g c)).getD c

theorem TrunkCtl.joined_some {x : TrunkCtl} {g : Nat × Nat} (h : x.changeSent = some g) (c : Nat × Nat) : x.joined c = leastOf g c := by
  simp [TrunkCtl.joined, h]

theorem TrunkCtl.joined_none {x : TrunkCtl} (h : x.changeSent = none) (c : Nat × Nat) : x.joined c = c := by
  simp [TrunkCtl.joined, h]

theorem State.commandChange_reads (p : Nat) (c : Nat × Nat) (hserved : (s.port p).ctl.servedAfter = none) :
    PeerSent (s.commandChange p c) p 0x04 ∧ ((s.commandChange p c).port p).ctl.changeSent = some ((s.port p).ctl.joined c) := by
  unfold State.commandChange
  simp only [hserved]
  cases hsent : (s.port p).ctl.changeSent with
  | none =>
    rw [TrunkCtl.joined_none hsent]
    exact ⟨State.modCtl_peerSent (State.sendBypass_peerSent _ p 0x04 8 _) _, by rw [State.modCtl, State.port_modPort_self]⟩
  | some g =>
    rw [TrunkCtl.joined_some hsent]
    exact ⟨State.modCtl_peerSent (State.sendBypass_peerSent _ p 0x04 8 _) _, by rw [State.modCtl, State.port_modPort_self]⟩

/-! ### The messages -/

section
variable {s} {p : Port} {s1 : State}

theorem State.modPort_gave_port (p : Nat) (a : List (Nat × List Byte)) (q : Tab Nat) : (s.modPort p (fun x => x.gave a q)).port p = (s.port p).gave a q :=
  s.port_modPort_self p _

theorem execChangeReq_served {w r : Byte} (hat : s.trunkAt p.val .active = true) (hinit : (s.port p.val).trunk.initiator = true)
    (hok : s.changeOk p.val (w.toNat, r.toNat) = true) (ht : s.takes p.val 0x03 [w, r] s1) :
    exec (.changeReq p w r) s = .next (s1.serveChange p.val (w.toNat, r.toNat)) := by
  show execChangeReq p w r s = _
  rw [execChangeReq, if_pos (by simp [hat, hinit, hok]), State.onMessage_takes ht]

/-- A request that no change of this end crosses is commanded (R231). -/
theorem State.serveChange_commands {c : Nat × Nat} (ht : ∃ a q, s1 = s.modPort p.val (fun x => x.gave a q)) (hserved : (s.port p.val).ctl.servedAfter = none)
    (hgo : (s.port p.val).ctl.goAt = none) : PeerSent (s1.serveChange p.val c) p.val 0x04 ∧ ((s1.serveChange p.val c).port p.val).ctl.changeSent =
      some ((s.port p.val).ctl.joined (leastOf (s.ownWish p.val) c)) := by
  obtain ⟨a, q, rfl⟩ := ht
  have hport := s.modPort_gave_port p.val a q
  have hwish : (s.modPort p.val (fun x => x.gave a q)).ownWish p.val = s.ownWish p.val := by
    simp only [State.ownWish, State.offeredRate, State.topRate, hport]
    rfl
  unfold State.serveChange
  simp only [hport, hwish]
  rw [if_neg (by simp [PortState.gave, hgo])]
  have h := State.commandChange_reads ((s.modPort p.val (fun x => x.gave a q)).modCtl p.val (fun x => { x with goAt := none })) p.val
    (leastOf (s.ownWish p.val) c) (by rw [State.modCtl, State.port_modPort_self, hport]; exact hserved)
  refine ⟨h.1, h.2.trans ?_⟩
  rw [State.modCtl, State.port_modPort_self, hport]
  rfl

/-- A request that crossed a change which meets it already is served by that change (R231). -/
theorem State.serveChange_met {c : Nat × Nat} {n : Nat} (ht : ∃ a q, s1 = s.modPort p.val (fun x => x.gave a q)) (hgo : (s.port p.val).ctl.goAt = some n)
    (hn : s.ftb ≤ n + 100000) (hw : (s.port p.val).trunk.width ≤ c.1) (hr : (s.port p.val).trunk.rate ≤ c.2) :
    ((s1.serveChange p.val c).port p.val).trunk.bypass = (s.port p.val).trunk.bypass ∧
    ((s1.serveChange p.val c).port p.val).ctl.changeSent = (s.port p.val).ctl.changeSent := by
  obtain ⟨a, q, rfl⟩ := ht
  have hport := s.modPort_gave_port p.val a q
  unfold State.serveChange
  simp only [hport]
  rw [if_pos (by simp [PortState.gave, hgo, hn, hw, hr]), State.modCtl, State.port_modPort_self, hport]
  exact ⟨rfl, rfl⟩

theorem execChangeGo_reads {w r : Byte} (hat : s.trunkAt p.val .active = true) (hinit : (s.port p.val).trunk.initiator = false)
    (hok : s.changeOk p.val (w.toNat, r.toNat) = true) (ht : s.takes p.val 0x04 [w, r] s1) :
    Leads (.changeGo p w r) s (fun t => t.get .portLink p.val = 3 ∧ t.trunkAt p.val .recovery = true ∧
      (t.port p.val).trunk.width = w.toNat ∧ (t.port p.val).trunk.rate = r.toNat) := by
  have hp : p.val < 65536 := Nat.lt_trans p.isLt (by decide)
  refine ⟨_, rfl, ?_⟩
  rw [if_pos (by simp [hat, hinit, hok]), State.onMessage_takes ht]
  dsimp only
  obtain ⟨a, q, rfl⟩ := State.takes_gave ht
  have htrunk : (s.modPort p.val (fun x => x.gave a q)).trunkPort p.val = true := ((s.trunkAt_iff p.val .active).1 hat).1
  refine State.applyChange_reads _ hp ?_ (w.toNat, r.toNat)
  split
  · exact (State.trunkPort_modPort _ p.val p.val _).trans ((State.trunkPort_of_offLink (State.count_offLink _ _ _ _ _) hp).trans htrunk)
  · exact htrunk

theorem execLevelMessage_takes {a b r : Byte} {n : BitVec 16} (hat : s.trunkAt p.val .active = true)
    (ht : s.takes p.val 0x02 ([a, b, r, 0] ++ toLE 2 n.toNat) s1) :
    (commonLevel s.boot.image.trunk s.boot.image.trunkMin a.toNat b.toNat = none →
      Leads (.levelMessage p a b r n) s (fun t => t.get .portLink p.val = 13)) ∧
    (∀ l, commonLevel s.boot.image.trunk s.boot.image.trunkMin a.toNat b.toNat = some l →
      ((s.port p.val).trunk.initiator = true → Leads (.levelMessage p a b r n) s (fun t =>
        PeerSent t p.val 0x02 ∧ ∃ k, k < 4096 ∧ (t.port p.val).ctl.levelAgreed = some (l, k))) ∧
      ((s.port p.val).trunk.initiator = false → r ≠ 0 → Leads (.levelMessage p a b r n) s (fun t =>
        (t.port p.val).ctl.levelAgreed = some (r.toNat, n.toNat % 4096))) ∧
      ((s.port p.val).trunk.initiator = false → r = 0 → Leads (.levelMessage p a b r n) s (fun t => PeerSent t p.val 0x02))) := by
  obtain ⟨g, q, hs1⟩ := State.takes_gave ht
  have hinit : (s1.port p.val).trunk.initiator = (s.port p.val).trunk.initiator := by
    rw [hs1, s.modPort_gave_port]
    rfl
  have himage : s1.boot.image = s.boot.image := by rw [hs1]; rfl
  refine ⟨fun hlevel => ⟨_, rfl, ?_⟩, fun l hlevel => ⟨fun hi => ⟨_, rfl, ?_⟩, fun hi hr => ⟨_, rfl, ?_⟩, fun hi hr => ⟨_, rfl, ?_⟩⟩⟩ <;>
    rw [if_pos hat, State.onMessage_takes ht] <;> simp only [himage, hlevel, hinit]
  · exact State.linkDownTo_link _ (Nat.lt_trans p.isLt (by decide)) (by decide)
  · rw [if_pos hi]
    refine ⟨State.sendBypass_peerSent _ p.val 0x02 8 _, s1.free % 4096, Nat.mod_lt _ (by decide), ?_⟩
    simp only [State.drawn_port, State.sendLevel, State.sendBypass, State.modCtl, State.port_modPort_self]
  · have hr : r.toNat ≠ 0 := fun h => hr (BitVec.eq_of_toNat_eq h)
    rw [if_neg (by simp [hi]), if_neg hr]
    simp only [State.modCtl, State.port_modPort_self]
  · rw [if_neg (by simp [hi]), if_pos (by simp [hr])]
    exact State.sendBypass_peerSent _ p.val 0x02 8 _

theorem State.quiet_gave {a : List (Nat × List Byte)} {q : Tab Nat} : (s.modPort p.val (fun x => x.gave a q)).quiet p.val = s.quiet p.val := by
  have hport := s.modPort_gave_port p.val a q
  simp only [State.quiet, State.queuedFor, hport]
  rfl

theorem execParkReq_takes (hat : s.trunkAt p.val .active = true) (ht : s.takes p.val 0x05 [] s1) :
    (((s.port p.val).ctl.parkAsked = true → (s.port p.val).trunk.initiator = false) → Leads (.parkReq p) s (fun t =>
      PeerSent t p.val 0x06 ∧ (t.port p.val).ctl.parkAsked = false ∧
        (t.port p.val).ctl.parkAgreed = ((s.port p.val).ctl.parkAgreed || s.quiet p.val))) ∧
    ((s.port p.val).ctl.parkAsked = true → (s.port p.val).trunk.initiator = true → Leads (.parkReq p) s (fun t => t = s1)) := by
  obtain ⟨a, q, rfl⟩ := State.takes_gave ht
  have hport := s.modPort_gave_port p.val a q
  refine ⟨fun hcross => ⟨_, rfl, ?_⟩, fun hasked hinit => ⟨_, rfl, ?_⟩⟩ <;> rw [if_pos hat, State.onMessage_takes ht] <;> simp only [hport, State.quiet_gave]
  · have hno : ¬(((s.port p.val).gave a q).ctl.parkAsked && ((s.port p.val).gave a q).trunk.initiator) = true := by
      rw [Bool.and_eq_true]
      exact fun h => Bool.false_ne_true ((hcross h.1).symm.trans h.2)
    rw [if_neg hno]
    refine ⟨State.modCtl_peerSent (State.sendBypass_peerSent _ p.val 0x06 8 _) _, ?_⟩
    simp only [State.sendBypass, State.modCtl, State.port_modPort_self]
    exact ⟨trivial, rfl⟩
  · rw [if_pos (by simp [PortState.gave, hasked, hinit])]

/-- Stations that wake change alone. -/
def State.withStations (s : State) (l : Tab StationState) : State := { s with stations := l }

theorem State.wakeStation_withStations (n : Nat) : ∃ l, s.wakeStation n = s.withStations l := by
  refine List.foldlRecOn (motive := fun u => ∃ l, u = s.withStations l) _ _ ⟨s.stations, rfl⟩ ?_
  rintro u ⟨l, rfl⟩ m -
  exact ⟨_, rfl⟩

/-- A station that is awake stays awake where a port resumes (R235). -/
theorem State.wakeStation_awake {n m : Nat} (h : (s.station m).sidingState = .awake) : ((s.wakeStation n).station m).sidingState = .awake := by
  refine List.foldlRecOn (motive := fun u : State => (u.station m).sidingState = .awake) _ _ h ?_
  intro u hu k _
  rw [State.station_modStation]
  split
  next hk =>
    subst hk
    rw [hu]
    exact hu
  next => exact hu

theorem execParkExit_recovers (hat : s.trunkAt p.val .parked = true) (hlink : s.get .portLink p.val = 9)
    (hawake : ∀ n ∈ s.portStations p.val, (s.station n).sidingState = .awake) :
    Leads (.parkExit p) s (fun t => t.get .portLink p.val = 3 ∧ t.trunkAt p.val .recovery = true) := by
  obtain ⟨htrunk, hstage⟩ := (s.trunkAt_iff p.val .parked).1 hat
  simp only [State.trunkPort, Bool.and_eq_true] at htrunk
  obtain ⟨⟨hproto, hport⟩, hlit⟩ := htrunk
  refine ⟨_, rfl, ?_⟩
  rw [if_pos (by simp [beq_iff_eq.1 hproto, hport, hstage]), State.unpark, if_pos hlink]
  dsimp only
  generalize hu : (s.portStations p.val).foldl (fun s n => s.wakeStation n) s = u
  obtain ⟨⟨l, hl⟩, hwoken⟩ : (∃ l, u = s.withStations l) ∧ ∀ n ∈ s.portStations p.val, (u.station n).sidingState = .awake := by
    rw [← hu]
    refine List.foldlRecOn (motive := fun u : State => (∃ l, u = s.withStations l) ∧ ∀ n ∈ s.portStations p.val, (u.station n).sidingState = .awake) _ _
      ⟨⟨s.stations, rfl⟩, hawake⟩ ?_
    rintro v ⟨⟨l, rfl⟩, hv⟩ k -
    obtain ⟨l', h⟩ := State.wakeStation_withStations (s := s.withStations l) k
    exact ⟨⟨l', h⟩, fun n hn => State.wakeStation_awake (hv n hn)⟩
  have hready : (s.portStations p.val).all (fun n => (u.station n).sidingState == .awake) = true :=
    List.all_eq_true.2 fun n hn => beq_iff_eq.2 (hwoken n hn)
  rw [if_pos hready]
  have htrunk : u.trunkPort p.val = true := by
    have hstations : u.portStations p.val = s.portStations p.val := by rw [hl]; rfl
    have hlit' : u.lit p.val = true := by rw [State.lit, hstations]; exact hready
    have hproto' : u.get .portProto p.val = 2 := by rw [hl]; exact beq_iff_eq.1 hproto
    have hport' : u.portOk p.val = true := by rw [hl]; exact hport
    simp [State.trunkPort, hlit', hproto', hport']
  obtain ⟨h3, hrec, -⟩ := u.enterRecovery_reads (Nat.lt_trans p.isLt (by decide)) htrunk
  exact ⟨h3, hrec⟩

end

/-- Settles O42. -/
theorem trunkControl : Obligations.TrunkControl := by
  unfold Obligations.TrunkControl
  intro p s
  dsimp only
  refine ⟨fun hat => ⟨fun w r s1 hok => ⟨fun hinit ht hserved => ⟨fun hgo => ?_, fun n hgo hn hw hr => ?_⟩, fun hinit ht => execChangeGo_reads hat hinit hok ht⟩,
    fun a b r n s1 ht => ?_, fun a b c s1 ht hsrc => ?_, fun s1 ht => execParkReq_takes hat ht, fun s1 ht => ?_, fun s1 ht => ?_⟩,
    fun hat hlink hawake => execParkExit_recovers hat hlink hawake⟩
  · obtain ⟨hsent, hchange⟩ := State.serveChange_commands (c := (w.toNat, r.toNat)) (State.takes_gave ht) hserved hgo
    refine ⟨_, execChangeReq_served hat hinit hok ht, hsent, hchange.trans ?_⟩
    cases h : (s.port p.val).ctl.changeSent with
    | none => exact congrArg some (TrunkCtl.joined_none h _)
    | some g => exact congrArg some (TrunkCtl.joined_some h _)
  · exact ⟨_, execChangeReq_served hat hinit hok ht, State.serveChange_met (c := (w.toNat, r.toNat)) (State.takes_gave ht) hgo hn hw hr⟩
  · obtain ⟨hnone, hsome⟩ := execLevelMessage_takes hat ht
    exact ⟨hnone, fun l hl => (hsome l hl).1, fun l hl => (hsome l hl).2.1, fun l hl => (hsome l hl).2.2⟩
  · refine ⟨_, rfl, ?_⟩
    rw [if_pos hat, State.onMessage_takes ht]
    obtain ⟨g, q, rfl⟩ := State.takes_gave ht
    dsimp only
    rw [if_neg ?_]
    · rfl
    · simp only [Bool.and_eq_true, beq_iff_eq]
      exact fun h => hsrc h.1.1 h.1.2
  · refine ⟨_, rfl, ?_⟩
    rw [if_pos hat, if_pos rfl, State.onMessage_takes ht]
    rfl
  · refine ⟨_, rfl, ?_⟩
    rw [if_pos hat, if_neg Bool.false_ne_true, State.onMessage_takes ht]
    obtain ⟨g, q, rfl⟩ := State.takes_gave ht
    rfl

end

end Sys2Proof.Machine
end

section
/-! PROOFS. A Trunk link trains (R199 to R206, R229): Detect, the Hello handshake, the rates one after the other, Active and recovery. -/

namespace Sys2Proof.Machine

section
variable (s : State)

theorem State.trunkPort_link {p : Nat} (hp : p < 65536) (h : s.trunkPort p = true) (v : Nat) : (s.put .portLink p 0 v).trunkPort p = true :=
  (s.trunkPort_put p hp hp v).trans h

theorem State.portLanes_link {p : Nat} (q : Nat) (hp : p < 65536) (v : Nat) (hq : portStation q < 65536) :
    (s.put .portLink p 0 v).portLanes q = s.portLanes q := by
  have hbif : (s.put .portLink p 0 v).get .stationBifurc (portStation q) 0 = s.get .stationBifurc (portStation q) 0 :=
    s.get_put_ne (by decide) v hp (by decide) hq (by decide)
  simp only [State.portLanes, hbif]

/-- A change of a Trunk link layer changes neither where a port trains nor its fields. -/
theorem State.modTrunk_port (p : Nat) (f : Trunk → Trunk) : (s.modTrunk p f).port p = { s.port p with trunk := f (s.port p).trunk } :=
  s.port_modPort_self p _

theorem State.modTrunk_get (p : Nat) (f : Trunk → Trunk) (y : Fld) (i b : Nat) : (s.modTrunk p f).get y i b = s.get y i b := rfl

theorem State.modCtl_port (p : Nat) (f : TrunkCtl → TrunkCtl) : (s.modCtl p f).port p = { s.port p with ctl := f (s.port p).ctl } :=
  s.port_modPort_self p _

/-! ### Hello -/

theorem Hello.orderedSet_length (h : Hello) : h.orderedSet.length = 32 := by
  simp [Hello.orderedSet, Hello.symbols]

/-- The Hellos of the lanes of a port (R200). -/
def State.hellos (s : State) (p : Nat) : List (List Byte) := (List.range (s.portLanes p).2).map (fun i => (s.ownHello p i).orderedSet)

theorem State.hellos_shape (p : Nat) : (s.hellos p).length = (s.portLanes p).2 ∧ ∀ b ∈ s.hellos p, b.length = 32 := by
  refine ⟨by simp [State.hellos], fun b hb => ?_⟩
  obtain ⟨i, -, rfl⟩ := List.mem_map.1 hb
  exact Hello.orderedSet_length _

/-- Before the eighth good Hello of the partner a Hello goes out, and nothing else (R202). -/
theorem State.sendHello_early {p : Nat} (h : (s.port p).trunk.hello.good < 8) : s.sendHello p = s.emit (.helloSent p (s.hellos p)) := by
  unfold State.sendHello
  exact if_neg (Nat.not_le.2 h)

/-- The partner of a port whose Hello has come. -/
def State.helloCounted (s : State) (p : Nat) : State :=
  (s.emit (.helloSent p (s.hellos p))).modTrunk p (fun y => { y with hello := { y.hello with sent := (s.port p).trunk.hello.sent + 1 } })

theorem State.sendHello_late {p : Nat} (h : 8 ≤ (s.port p).trunk.hello.good) {l : Hello} (hl : (s.port p).trunk.hello.last = some l) : s.sendHello p =
    if 16 ≤ (s.port p).trunk.hello.sent + 1 then (s.helloCounted p).settleHello p l (s.port p).trunk.hello.lanesOk (s.port p).trunk.hello.reversed
    else s.helloCounted p := by
  unfold State.sendHello
  dsimp only
  rw [if_pos h, hl]
  rfl

theorem State.emit_trunkPort {p : Nat} (hp : p < 65536) (m : Msg) : (s.emit m).trunkPort p = s.trunkPort p :=
  State.trunkPort_of_offLink (s.emit_offLink m) hp

/-- A Hello handshake that settles (R202 to R205): the port begins to equalise at 32 GT/s, at the level and as the end the two Hellos give. -/
theorem State.settleHello_reads {p : Nat} (hp : p < 65536) (htrunk : s.trunkPort p = true) {h : Hello} (lanes : Nat) (back : Bool) {level : Nat}
    (hown : s.offeredRate p ≠ 0xFF) (hrate : h.rate ≠ 0xFF)
    (hlevel : commonLevel s.boot.image.trunk s.boot.image.trunkMin h.trunk.toNat h.trunkMin.toNat = some level) :
    (s.settleHello p h lanes back).trunkAt p .equalise = true ∧ ((s.settleHello p h lanes back).port p).trunk.level = level ∧
    ((s.settleHello p h lanes back).port p).trunk.rate = 4 ∧
    ((s.settleHello p h lanes back).port p).trunk.hello.rate = min (s.offeredRate p) h.rate.toNat ∧
    ((s.settleHello p h lanes back).port p).trunk.initiator =
      (decide (s.otp.fdi < h.fdi.toNat) || (s.otp.fdi == h.fdi.toNat && decide (p < h.portnum.toNat))) := by
  have hno : ¬(decide (s.offeredRate p = 0xFF) || decide (h.rate = 0xFF)) = true := by
    rw [Bool.or_eq_true, decide_eq_true_eq, decide_eq_true_eq]
    exact fun h => h.elim hown hrate
  unfold State.settleHello
  dsimp only
  rw [if_neg hno, hlevel]
  dsimp only
  generalize hu : List.foldl _ (s.assignLanes p _ back) _ = u
  have hoff : u.offLink = s.offLink := by
    rw [← hu]
    exact (foldl_keeps (p := State.offLink) (by intro _ _; rfl) _ _).trans (s.assignLanes_offLink p _ back)
  have hat : u.trunkPort p = true := (State.trunkPort_of_offLink hoff hp).trans htrunk
  rw [State.trunkAt_iff, State.modCtl_port, State.modTrunk_port]
  exact ⟨⟨hat, rfl⟩, rfl, rfl, rfl, rfl⟩

/-! ### Detect -/

theorem State.startDetect_failures (p : Nat) : ((s.startDetect p).port p).trunk.failures = (s.port p).trunk.failures := by
  unfold State.startDetect
  dsimp only
  split
  · obtain ⟨-, hport⟩ := (s.put .portLink p 0 (s.restLink p)).chooseBands_reads p
    rw [State.port_modPort_self, hport p, if_pos rfl]
    rfl
  · rfl

theorem State.dropLink_down {p : Nat} : (s.dropLink p).portUp p = false := by
  unfold State.dropLink
  exact (congrArg linkUpValue ((s.linkDownTo p 0).startDetect_reads p).1).trans (State.restLink_not_up _ p).1

theorem PortState.trunk_of_cleared {x y : PortState} (h : x.cleared = y.cleared) : x.trunk.stage = y.trunk.stage ∧
    x.trunk.failures = y.trunk.failures ∧ x.trunk.nextSeq = y.trunk.nextSeq :=
  ⟨(congrArg (fun x : PortState => x.trunk.stage) h :), (congrArg (fun x : PortState => x.trunk.failures) h :),
    (congrArg (fun x : PortState => x.trunk.nextSeq) h :)⟩

theorem State.linkUp_trunk {p : Nat} (hp : p < 65536) (i : LinkInfo) : (s.linkUp p i).trunkPort p = s.trunkPort p ∧
    ((s.linkUp p i).port p).trunk.stage = (s.port p).trunk.stage ∧ ((s.linkUp p i).port p).trunk.failures = (s.port p).trunk.failures ∧
    ((s.linkUp p i).port p).trunk.nextSeq = (s.port p).trunk.nextSeq := by
  obtain ⟨flushing, role, job, hoff⟩ := s.linkUp_offLink p i
  obtain ⟨flushing', role', job', hport⟩ := s.linkUp_port p i
  exact ⟨(State.trunkPort_of_offLink hoff hp).trans (State.trunkPort_put _ p hp hp 4), (PortState.trunk_of_cleared hport :)⟩

/-- A Trunk port that enters Active has its link, with no sequence number spent (R206). -/
theorem State.enterActive_reads {p : Nat} (hp : p < 65536) (htrunk : s.trunkPort p = true) (e : Equalised) (hlife : s.sec.lifecycle ≠ 3) :
    (s.enterActive p e).get .portLink p = 4 ∧ (s.enterActive p e).trunkAt p .active = true ∧ ((s.enterActive p e).port p).trunk.failures = 0 ∧
    ((s.enterActive p e).port p).trunk.nextSeq = 0 := by
  unfold State.enterActive
  dsimp only
  rw [if_neg hlife]
  generalize hu : s.modTrunk p _ = u
  have hu' : u.trunkPort p = true ∧ (u.port p).trunk.stage = .active ∧ (u.port p).trunk.failures = 0 ∧ (u.port p).trunk.nextSeq = 0 := by
    rw [← hu, State.modTrunk_port]
    exact ⟨htrunk, rfl, rfl, rfl⟩
  obtain ⟨hat, hstage, hfail, hseq⟩ := hu'
  have hlink := u.linkUp_link hp (s.trunkInfo p e)
  obtain ⟨hat', hstage', hfail', hseq'⟩ := u.linkUp_trunk hp (s.trunkInfo p e)
  generalize u.linkUp p (s.trunkInfo p e) = w at hlink hat' hstage' hfail' hseq'
  split
  · rw [State.trunkAt_iff, State.modCtl_port, State.sendBypass, State.port_modPort_self]
    exact ⟨hlink, ⟨hat'.trans hat, hstage'.trans hstage⟩, hfail'.trans hfail, hseq'.trans hseq⟩
  · rw [State.trunkAt_iff]
    exact ⟨hlink, ⟨hat'.trans hat, hstage'.trans hstage⟩, hfail'.trans hfail, hseq'.trans hseq⟩

/-! ### The events -/

section
variable {s} {p : Port}

theorem execDetectRetry_hello (hat : s.trunkAt p.val .detect = true) (hlink : s.get .portLink p.val = 1) (hrest : s.restLink p.val = 1) :
    Leads (.detectRetry p true) s (fun t => t.get .portLink p.val = 2 ∧ t.trunkAt p.val .hello = true ∧ (t.port p.val).partnerFound = true ∧
      ∃ l, t.sent (.helloSent p.val l) ∧ l.length = (s.portLanes p.val).2 ∧ ∀ b ∈ l, b.length = 32) := by
  have hp : p.val < 65536 := Nat.lt_trans p.isLt (by decide)
  obtain ⟨htrunk, -⟩ := (s.trunkAt_iff p.val .detect).1 hat
  have hproto : s.get .portProto p.val = 2 := by
    simp only [State.trunkPort, Bool.and_eq_true, beq_iff_eq] at htrunk
    exact htrunk.1.1
  refine ⟨_, rfl, ?_⟩
  rw [if_pos (by simp [hlink, hrest]), if_pos rfl, if_pos (by simp [hlink]), State.partnerSeen]
  dsimp only
  rw [if_pos hproto]
  generalize hu : State.modTrunk _ p.val _ = u
  have hport : u.port p.val = { s.port p.val with partnerFound := true, trunk := { (s.port p.val).trunk with stage := .hello, since := s.ftb, hello := {} } } := by
    rw [← hu, State.modTrunk_port, State.port_modPort_self]
    rfl
  have hget : u.get .portLink p.val = 2 := by
    rw [← hu]
    exact State.get_put_self _ .portLink p.val 0 2
  have htrunk' : u.trunkPort p.val = true := by
    rw [← hu]
    exact s.trunkPort_link hp htrunk 2
  have hlanes : u.portLanes p.val = s.portLanes p.val := by
    rw [← hu]
    exact s.portLanes_link p.val hp 2 (Nat.lt_of_le_of_lt (Nat.div_le_self _ _) hp)
  obtain ⟨hlen, hsets⟩ := u.hellos_shape p.val
  rw [u.sendHello_early (by rw [hport]; show 0 < 8; decide), State.emit_get, State.emit_port, State.trunkAt_iff, u.emit_trunkPort hp, State.emit_port, hport]
  exact ⟨hget, ⟨htrunk', rfl⟩, rfl, _, u.emit_sent _ rfl, hlen.trans (congrArg Prod.snd hlanes), hsets⟩

theorem execHello_receives (hat : s.trunkAt p.val .hello = true) (hlink : s.get .portLink p.val = 2) (h : Hello) (lanes : Nat) (back : Bool) :
    exec (.hello p h lanes back) s = .next (s.receiveHello p.val h lanes back) := by
  show execHello p h lanes back s = _
  rw [execHello, if_pos (by simp [hat, hlink])]

/-- A port that has had a good Hello again (R202). -/
def State.helloAgain (s : State) (p : Nat) (h : Hello) (lanes : Nat) (back : Bool) : State :=
  s.modTrunk p (fun y => { y with hello := { y.hello with
    peerFdi := h.fdi.toNat, last := some h, good := (s.port p).trunk.hello.good + 1,
    sent := if 8 ≤ (s.port p).trunk.hello.good + 1 then (s.port p).trunk.hello.sent else 0, lanesOk := lanes, reversed := back } })

theorem State.receiveHello_again {h l : Hello} {lanes : Nat} {back : Bool} (hcrc : h.crcGood = true)
    (hother : h.fdi.toNat ≠ s.otp.fdi ∨ h.portnum.toNat ≠ p.val) (hpeer : h.peerFdi.toNat = s.otp.fdi)
    (hlast : (s.port p.val).trunk.hello.last = some l) (hsame : l.same h = true) :
    s.receiveHello p.val h lanes back = (s.helloAgain p.val h lanes back).sendHello p.val := by
  unfold State.receiveHello
  rw [if_neg (by simp [hcrc]), if_neg (by simp only [Bool.and_eq_true, decide_eq_true_eq]; exact fun h => hother.elim (· h.1) (· h.2))]
  simp only [hlast, hsame, hpeer]
  rfl

theorem execHello_again {h l : Hello} {lanes : Nat} {back : Bool} (hat : s.trunkAt p.val .hello = true) (hlink : s.get .portLink p.val = 2)
    (hcrc : h.crcGood = true) (hother : h.fdi.toNat ≠ s.otp.fdi ∨ h.portnum.toNat ≠ p.val) (hpeer : h.peerFdi.toNat = s.otp.fdi)
    (hlast : (s.port p.val).trunk.hello.last = some l) (hsame : l.same h = true) :
    ((s.port p.val).trunk.hello.sent < 15 → Leads (.hello p h lanes back) s (fun t =>
      (t.port p.val).trunk.hello.good = (s.port p.val).trunk.hello.good + 1 ∧
      ∃ l, t.sent (.helloSent p.val l) ∧ l.length = (s.portLanes p.val).2 ∧ ∀ b ∈ l, b.length = 32)) ∧
    (∀ level, (s.port p.val).trunk.hello.sent = 15 → 7 ≤ (s.port p.val).trunk.hello.good → s.offeredRate p.val ≠ 0xFF → h.rate ≠ 0xFF →
      commonLevel s.boot.image.trunk s.boot.image.trunkMin h.trunk.toNat h.trunkMin.toNat = some level →
      Leads (.hello p h lanes back) s (fun t => t.trunkAt p.val .equalise = true ∧ (t.port p.val).trunk.level = level ∧
        (t.port p.val).trunk.rate = 4 ∧ (t.port p.val).trunk.hello.rate = min (s.offeredRate p.val) h.rate.toNat ∧
        (t.port p.val).trunk.initiator =
          (decide (s.otp.fdi < h.fdi.toNat) || (s.otp.fdi == h.fdi.toNat && decide (p.val < h.portnum.toNat))))) := by
  have hp : p.val < 65536 := Nat.lt_trans p.isLt (by decide)
  have hexec := (execHello_receives hat hlink h lanes back).trans (congrArg Host.Outcome.next (State.receiveHello_again hcrc hother hpeer hlast hsame))
  generalize hu : s.helloAgain p.val h lanes back = u at hexec
  have hport := s.modTrunk_port p.val (fun y => { y with hello := { y.hello with
    peerFdi := h.fdi.toNat, last := some h, good := (s.port p.val).trunk.hello.good + 1,
    sent := if 8 ≤ (s.port p.val).trunk.hello.good + 1 then (s.port p.val).trunk.hello.sent else 0, lanesOk := lanes, reversed := back } })
  have hhello : (u.port p.val).trunk.hello.good = (s.port p.val).trunk.hello.good + 1 ∧ (u.port p.val).trunk.hello.last = some h ∧
      (u.port p.val).trunk.hello.sent = if 8 ≤ (s.port p.val).trunk.hello.good + 1 then (s.port p.val).trunk.hello.sent else 0 := by
    rw [← hu, State.helloAgain, hport]
    exact ⟨rfl, rfl, rfl⟩
  obtain ⟨hgood, hlast', hsent⟩ := hhello
  have htrunk : u.trunkPort p.val = true := by
    rw [← hu]
    exact ((s.trunkAt_iff p.val .hello).1 hat).1
  have hlanes : u.portLanes p.val = s.portLanes p.val := by rw [← hu]; rfl
  obtain ⟨hlen, hsets⟩ := u.hellos_shape p.val
  rw [hlanes] at hlen
  refine ⟨fun hfew => ⟨_, hexec, ?_⟩, fun level h15 h7 hown hrate hlevel => ⟨_, hexec, ?_⟩⟩
  · by_cases h8 : 8 ≤ (u.port p.val).trunk.hello.good
    · have hfew' : ¬16 ≤ (u.port p.val).trunk.hello.sent + 1 := by
        rw [hsent]
        split <;> omega
      rw [u.sendHello_late h8 hlast', if_neg hfew', State.helloCounted]
      dsimp only
      rw [State.modTrunk_port]
      refine ⟨?_, _, u.emit_sent _ rfl, hlen, hsets⟩
      rw [State.emit_port]
      exact hgood
    · rw [u.sendHello_early (Nat.lt_of_not_le h8)]
      dsimp only
      rw [State.emit_port]
      exact ⟨hgood, _, u.emit_sent _ rfl, hlen, hsets⟩
  · have h8 : 8 ≤ (u.port p.val).trunk.hello.good := by omega
    have h16 : 16 ≤ (u.port p.val).trunk.hello.sent + 1 := by
      rw [hsent, if_pos (by omega), h15]
    rw [u.sendHello_late h8 hlast', if_pos h16]
    have hboot : (u.helloCounted p.val).boot = s.boot := by
      rw [← hu]
      exact State.emit_boot _ _
    have hotp : (u.helloCounted p.val).otp = s.otp := by
      rw [← hu]
      exact State.emit_otp _ _
    have hoffer : (u.helloCounted p.val).offeredRate p.val = s.offeredRate p.val := by
      have hband : ((u.helloCounted p.val).port p.val).band5 = (s.port p.val).band5 := by
        rw [State.helloCounted, State.modTrunk_port, State.emit_port, ← hu, State.helloAgain, State.modTrunk_port]
      have hmax : (u.helloCounted p.val).get .portRateMax p.val = s.get .portRateMax p.val := by
        rw [← hu, State.helloCounted, State.modTrunk_get, State.emit_get]
        rfl
      unfold State.offeredRate State.topRate
      rw [hband, hmax]
    have hat' : (u.helloCounted p.val).trunkPort p.val = true := (u.emit_trunkPort hp _).trans htrunk
    have hsettled := State.settleHello_reads _ hp hat' (u.port p.val).trunk.hello.lanesOk (u.port p.val).trunk.hello.reversed
      (hoffer ▸ hown) hrate (hboot ▸ hlevel)
    rw [hoffer, hotp] at hsettled
    exact hsettled

/-- A stage that lasts too long sends the port back to Detect, with its failure counted (R199). -/
theorem execTrunkStageTimeout_fails (hat : s.trunkAt p.val .hello = true ∨ s.trunkAt p.val .equalise = true) (hlink : s.get .portLink p.val = 2)
    (hlate : (s.port p.val).trunk.since + 24000000 ≤ s.ftb) :
    Leads (.trunkStageTimeout p) s (fun t => t.portUp p.val = false ∧ (t.port p.val).trunk.failures = (s.port p.val).trunk.failures + 1) := by
  refine ⟨_, rfl, ?_⟩
  rw [if_pos (by simp [hat, hlink, hlate]), State.trunkStageFails]
  refine ⟨State.dropLink_down _, ?_⟩
  generalize hu : s.modTrunk p.val _ = u
  have hdown : u.portUp p.val = false := by
    rw [← hu]
    exact congrArg linkUpValue hlink
  rw [State.dropLink, State.startDetect_failures, u.linkDownTo_down hdown, State.put_port, ← hu, State.modTrunk_port]

theorem execTrunkEqualisationDone_next {e : Equalised} (he : e.port = p) (hat : s.trunkAt p.val .equalise = true) (hlink : s.get .portLink p.val = 2) :
    ((s.port p.val).trunk.rate < (s.port p.val).trunk.hello.rate → Leads (.trunkEqualisationDone e) s (fun t =>
      (t.port p.val).trunk.rate = (s.port p.val).trunk.rate + 1 ∧ t.trunkAt p.val .equalise = true)) ∧
    ((s.port p.val).trunk.hello.rate ≤ (s.port p.val).trunk.rate → s.sec.lifecycle ≠ 3 → Leads (.trunkEqualisationDone e) s (fun t =>
      t.get .portLink p.val = 4 ∧ t.trunkAt p.val .active = true ∧ (t.port p.val).trunk.failures = 0 ∧ (t.port p.val).trunk.nextSeq = 0)) ∧
    ((s.port p.val).trunk.hello.rate ≤ (s.port p.val).trunk.rate → s.sec.lifecycle = 3 → Leads (.trunkEqualisationDone e) s (fun t =>
      t.get .portLink p.val = 15)) := by
  subst he
  have htrunk := ((s.trunkAt_iff e.port.val .equalise).1 hat).1
  have hp : e.port.val < 65536 := Nat.lt_trans e.port.isLt (by decide)
  have hcond : (s.trunkAt e.port.val .equalise && s.get .portLink e.port.val == 2) = true := by simp [hat, hlink]
  refine ⟨fun hlt => ⟨_, rfl, ?_⟩, fun hle hlife => ⟨_, rfl, ?_⟩, fun hle hlife => ⟨_, rfl, ?_⟩⟩ <;> rw [if_pos hcond]
  · rw [if_pos hlt]
    dsimp only
    rw [State.trunkAt_iff, State.modTrunk_port, State.modCtl_port]
    exact ⟨rfl, htrunk, ((s.trunkAt_iff e.port.val .equalise).1 hat).2⟩
  · rw [if_neg (Nat.not_lt.2 hle)]
    dsimp only
    generalize hu : s.modCtl e.port.val _ = u
    have hu' : u.trunkPort e.port.val = true ∧ u.sec = s.sec := by
      rw [← hu]
      exact ⟨htrunk, rfl⟩
    exact u.enterActive_reads hp hu'.1 e (hu'.2 ▸ hlife)
  · rw [if_neg (Nat.not_lt.2 hle), State.enterActive]
    generalize hu : s.modCtl e.port.val _ = u
    have hu' : u.sec.lifecycle = 3 := by
      rw [← hu]
      exact hlife
    rw [if_pos hu']
    exact State.linkDownTo_link _ hp (by decide)

theorem State.setReversed_keeps (p : Nat) (r : Bool) (k : Nat) : ((s.setReversed p r).lane k).inverted = (s.lane k).inverted ∧
    ((s.setReversed p r).port p).ctl = (s.port p).ctl ∧ ((s.setReversed p r).port p).trunk.stage = (s.port p).trunk.stage := by
  have hassign : ∀ w : Nat, ((s.assignLanes p w r).lane k).inverted = (s.lane k).inverted ∧ (s.assignLanes p w r).ports = s.ports := by
    intro w
    unfold State.assignLanes
    refine ⟨foldl_keeps (p := fun t : State => (t.lane k).inverted) (fun t e => ?_) _ s, foldl_keeps (p := State.ports) (by intro _ _; rfl) _ s⟩
    rw [State.lane_modLane]
    split
    next h => rw [← h]
    next => rfl
  unfold State.setReversed
  split
  · exact ⟨rfl, rfl, rfl⟩
  · obtain ⟨hlane, hports⟩ := hassign (s.port p).trunk.width
    have hport : (s.assignLanes p (s.port p).trunk.width r).port p = s.port p := congrArg (fun l => Tab.get ({} : PortState) l p) hports
    rw [State.port_modPort_self, hport]
    exact ⟨hlane, rfl, rfl⟩

theorem execAlignmentMarker_good (hat : s.trunkAt p.val .active = true) {ln : Fin 16} {b : List Byte} {inv : Bool} (hln : ln.val < (s.portLanes p.val).2)
    (hok : (s.port p.val).ctl.markerOk ln.val (s.port p.val).trunk.width b = true) (hn : fieldAt b 10 2 ≠ 0xFFFF) :
    Leads (.alignmentMarker p ln b inv) s (fun t => (t.lane ((s.portLanes p.val).1 + ln.val)).inverted = inv ∧
      Tab.get 0 (t.port p.val).ctl.markerGood ln.val = Tab.get 0 (s.port p.val).ctl.markerGood ln.val + 1) := by
  have hstage := ((s.trunkAt_iff p.val .active).1 hat).2
  have hnot : ((s.port p.val).trunk.stage == TrunkStage.recovery) = false := by rw [hstage]; rfl
  refine ⟨_, rfl, ?_⟩
  rw [if_pos (by simp [hat, hln]), State.receiveMarker]
  dsimp only
  rw [if_neg (by simp [hnot]), if_neg (by simp [hok]), if_neg (by simp [hn]), if_neg hn]
  generalize hr : (decide (fieldAt b 8 1 + ln.val + 1 = (s.portLanes p.val).2) && fieldAt b 8 1 != ln.val) = r
  obtain ⟨hinv, hctl, hst⟩ := (s.modLane ((s.portLanes p.val).1 + ln.val) (fun x => { x with inverted := inv })).setReversed_keeps p.val r
    ((s.portLanes p.val).1 + ln.val)
  generalize State.setReversed _ p.val r = u at hinv hctl hst
  rw [State.modCtl_port]
  have hkeep : (u.port p.val).trunk.stage = .active := hst.trans hstage
  rw [if_neg (by simp [hkeep]), State.modCtl_port]
  refine ⟨hinv.trans (by rw [State.lane_modLane_self]), ?_⟩
  exact Tab.get_set_self ..

end

/-- Settles O40. -/
theorem trunkTraining : Obligations.TrunkTraining := by
  unfold Obligations.TrunkTraining
  intro p s
  have hp : p.val < 65536 := Nat.lt_trans p.isLt (by decide)
  dsimp only
  refine ⟨execDetectRetry_hello, fun hat hlink h lanes back => ⟨fun hcrc => ?_, fun hcrc hfdi hnum => ?_, fun hcrc hother hpeer hl => ?_⟩,
    execTrunkStageTimeout_fails, fun hat hlink e he => execTrunkEqualisationDone_next he hat hlink,
    fun hat ln b inv hln hok hn => execAlignmentMarker_good hat hln hok hn, fun hat b => ?_, fun hat hlate => ?_⟩
  · refine ⟨_, execHello_receives hat hlink h lanes back, ?_⟩
    rw [State.receiveHello, if_pos (by simp [hcrc])]
  · refine ⟨_, execHello_receives hat hlink h lanes back, ?_⟩
    rw [State.receiveHello, if_neg (by simp [hcrc]), if_pos (by simp [hfdi, hnum])]
    exact s.linkDownTo_link hp (by decide)
  · obtain ⟨l, hlast, hsame⟩ := hl
    exact execHello_again hat hlink hcrc hother hpeer hlast hsame
  · refine ⟨_, rfl, ?_⟩
    rw [if_pos hat]
    obtain ⟨hlink, hrec, -⟩ := s.enterRecovery_reads hp ((s.trunkAt_iff p.val .active).1 hat).1
    exact ⟨hlink, hrec⟩
  · refine ⟨_, rfl, ?_⟩
    rw [if_pos (by simp [hat, hlate])]
    exact s.dropLink_down

end

end Sys2Proof.Machine
end

section
/-! SUPPORT. A flit as its 256 bytes (R207 to R210): its CRC is good and its fields read back. -/

namespace Sys2Proof.Machine

theorem crc64Bits_lt (k c : Nat) (h : c < 2 ^ 64) : crc64Bits k c < 2 ^ 64 := by
  induction k generalizing c with
  | zero => exact h
  | succ k ih =>
    have hhalf : c / 2 < 2 ^ 64 := Nat.lt_of_le_of_lt (Nat.div_le_self c 2) h
    unfold crc64Bits
    split
    · exact ih _ (Nat.xor_lt_two_pow hhalf (by decide))
    · exact ih _ hhalf

theorem crc64_lt (l : List Byte) : crc64 l < 2 ^ 64 := by
  refine Nat.xor_lt_two_pow (List.foldlRecOn (motive := fun c => c < 2 ^ 64) l _ (by decide) fun c hc b _ => ?_) (by decide)
  exact crc64Bits_lt 8 _ (Nat.xor_lt_two_pow hc (Nat.lt_trans b.isLt (by decide)))

/-- A number written within a block reads back there. -/
theorem fieldAt_written (a b : List Byte) (n v : Nat) (h : v < 256 ^ n) : fieldAt (a ++ toLE n v ++ b) a.length n = v := by
  have htake : (((a ++ toLE n v ++ b).drop a.length).take n) = toLE n v := by
    rw [List.append_assoc, List.drop_left, List.take_left' (toLE_length n v)]
  rw [fieldAt, htake, ofLE_toLE, Nat.mod_eq_of_lt h]

section
variable (f : TrunkFlit)

/-- The header and payload of a flit. -/
def flitFront (f : TrunkFlit) : List Byte := toLE 8 (flitHeader f) ++ f.payload

variable {f}

theorem flitBytes_eq (h : f.payload.length = 234) :
    flitBytes f = (flitFront f) ++ toLE 8 (crc64 (flitFront f)) ++ fecBytes ((flitFront f) ++ toLE 8 (crc64 (flitFront f))) := by
  have hpad : (f.payload ++ List.replicate (234 - f.payload.length) 0).take 234 = f.payload := by
    rw [List.take_left' h]
  unfold flitBytes
  dsimp only
  rw [hpad]
  rfl

theorem flitFront_length (h : f.payload.length = 234) : (flitFront f).length = 242 := by
  rw [flitFront, List.length_append, toLE_length, h]

theorem flitBytes_length (h : f.payload.length = 234) : (flitBytes f).length = 256 := by
  rw [flitBytes_eq h, List.length_append, List.length_append, flitFront_length h, toLE_length]
  rfl

theorem flitGood_flitBytes (h : f.payload.length = 234) : flitGood (flitBytes f) = true := by
  have hcrc : fieldAt (flitBytes f) 242 8 = crc64 (flitFront f) := by
    rw [flitBytes_eq h, ← flitFront_length h]
    exact fieldAt_written _ _ 8 _ (crc64_lt _)
  have hfront : (flitBytes f).take 242 = (flitFront f) := by
    rw [flitBytes_eq h, List.append_assoc, List.take_left' (flitFront_length h)]
  simp [flitGood, flitBytes_length h, hcrc, hfront]

theorem flitHeader_lt : flitHeader f < 2 ^ 64 := by
  have hseq := f.seq.isLt
  have hack := f.ack.isLt
  have htype := f.type.isLt
  have hcvc := f.cvc.isLt
  have hcredit := f.credit.isLt
  unfold flitHeader
  split <;> split <;> omega

theorem flitHeader_fields : bitsOf (flitHeader f) 0 12 = f.seq.toNat ∧ bitsOf (flitHeader f) 12 12 = f.ack.toNat ∧
    bitsOf (flitHeader f) 24 4 = f.type.toNat ∧ bitsOf (flitHeader f) 28 4 = f.cvc.toNat ∧ bitsOf (flitHeader f) 32 24 = f.credit.toNat := by
  have hseq := f.seq.isLt
  have hack := f.ack.isLt
  have htype := f.type.isLt
  have hcvc := f.cvc.isLt
  have hcredit := f.credit.isLt
  unfold bitsOf flitHeader
  refine ⟨?_, ?_, ?_, ?_, ?_⟩ <;> split <;> split <;> omega

theorem flitHeader_flags : bitOf (flitHeader f) 56 = f.nak ∧ bitOf (flitHeader f) 57 = f.kset := by
  have hseq := f.seq.isLt
  have hack := f.ack.isLt
  have htype := f.type.isLt
  have hcvc := f.cvc.isLt
  have hcredit := f.credit.isLt
  have hlow : ∃ n, n < 2 ^ 56 ∧ flitHeader f = n + (if f.nak then 2 ^ 56 else 0) + (if f.kset then 2 ^ 57 else 0) :=
    ⟨f.seq.toNat + f.ack.toNat * 2 ^ 12 + f.type.toNat * 2 ^ 24 + f.cvc.toNat * 2 ^ 28 + f.credit.toNat * 2 ^ 32, by omega, rfl⟩
  obtain ⟨n, hn, h⟩ := hlow
  rw [h]
  unfold bitOf
  cases f.nak <;> cases f.kset <;> simp only [if_true, if_false, Bool.false_eq_true, beq_iff_eq, beq_eq_false_iff_ne] <;> constructor <;> omega

theorem flitOf_flitBytes (h : f.payload.length = 234) : flitOf (flitBytes f) = f := by
  have hheader : fieldAt (flitBytes f) 0 8 = flitHeader f := by
    rw [flitBytes_eq h, flitFront, List.append_assoc, List.append_assoc]
    exact fieldAt_written [] _ 8 _ flitHeader_lt
  have hpayload : ((flitBytes f).drop 8).take 234 = f.payload := by
    rw [flitBytes_eq h, flitFront, List.append_assoc, List.append_assoc, List.drop_left' (toLE_length 8 _), List.take_left' h]
  obtain ⟨hseq, hack, htype, hcvc, hcredit⟩ := flitHeader_fields (f := f)
  obtain ⟨hnak, hkset⟩ := flitHeader_flags (f := f)
  unfold flitOf
  simp only [hheader, hpayload, hseq, hack, htype, hcvc, hcredit, hnak, hkset, BitVec.ofNat_toNat, BitVec.setWidth_eq]

end

end Sys2Proof.Machine
end

section
/-! PROOFS. Flits of a Trunk link (R209, R216, R224 to R226, R229, R234, R240, R241): what goes out at a flit boundary, what a flit that
arrives does, replays, and what an arrived TYPE 0x07 message does. -/

namespace Sys2Proof.Machine

/-- The record of a port but for what each flit changes: the credit update, the NAK and the place in the lane data. -/
def PortState.carried (x : PortState) : PortState :=
  { x with trunk := { x.trunk with pool := 0, lastSent := [], nakLeft := 0, lastNak := none }, ctl := { x.ctl with laneBytes := 0, markerTx := 0 } }

/-- A state after a flit of a port: the port trains as it did, its record stands but for what each flit changes, and what was sent is sent. -/
structure TrunkKeeps (p : Nat) (s t : State) : Prop where
  port : (t.port p).carried = (s.port p).carried
  train : t.trunkPort p = s.trunkPort p
  sent : ∀ m, s.sent m → t.sent m

theorem TrunkKeeps.trans {p : Nat} {s t u : State} (h : TrunkKeeps p s t) (h' : TrunkKeeps p t u) : TrunkKeeps p s u :=
  ⟨h'.port.trans h.port, h'.train.trans h.train, fun m hm => h'.sent m (h.sent m hm)⟩

section
variable (s : State) {p : Nat}

theorem State.emit_trunkKeeps (hp : p < 65536) (m : Msg) : TrunkKeeps p s (s.emit m) :=
  ⟨by rw [State.emit_port], s.emit_trunkPort hp m, (s.emit_hears m).sent⟩

theorem State.modPort_trunkKeeps {f : PortState → PortState} (h : ∀ x, (f x).carried = x.carried) : TrunkKeeps p s (s.modPort p f) :=
  ⟨by rw [State.port_modPort_self, h], rfl, fun _ hm => hm⟩

theorem State.count_trunkKeeps (hp : p < 65536) {u : Nat} (hu : u < 65536) (ev : Nat) (a : EventAttrs) (n : Nat) : TrunkKeeps p s (s.count u ev a n) := by
  have hears := s.count_hears hu ev a n
  have hport : (s.count u ev a n).port p = s.port p := (congrArg (fun t : State => t.port p) hears.still :)
  exact ⟨by rw [hport], State.trunkPort_of_offLink (s.count_offLink u ev a n) hp, hears.sent⟩

theorem State.countPort_trunkKeeps (hp : p < 65536) (ev : Nat) (a : EventAttrs) (n : Nat) : TrunkKeeps p s (s.countPort p ev a n) :=
  s.count_trunkKeeps hp (Nat.lt_of_le_of_lt (Nat.div_le_self _ _) hp) _ a n

theorem State.countSlots_trunkKeeps (hp : p < 65536) (evs : List Nat) : TrunkKeeps p s (s.countSlots p evs) := by
  refine List.foldlRecOn (motive := fun t => TrunkKeeps p s t) evs _ (s.countPort_trunkKeeps hp 0x001 {} 4) fun t h e _ => ?_
  exact h.trans (t.countPort_trunkKeeps hp e {} 4)

theorem State.nextMarker_trunkKeeps (hp : p < 65536) : TrunkKeeps p s (s.nextMarker p) := by
  unfold State.nextMarker State.sendMarker
  refine TrunkKeeps.trans ?_ (State.modPort_trunkKeeps _ (by intro _; rfl))
  exact (s.modPort_trunkKeeps (by intro _; rfl)).trans (State.emit_trunkKeeps _ hp _)

/-- A flit goes out with what the port puts on it, and beside that the port's record stands (R209). -/
theorem State.putFlit_sends (hp : p < 65536) (seq type : Nat) (kset : Bool) (payload : List Byte) :
    TrunkKeeps p s (s.putFlit p seq type kset payload) ∧ ∃ f : TrunkFlit, (s.putFlit p seq type kset payload).sent (.flit p f) ∧
      f.seq = BitVec.ofNat 12 seq ∧ f.type = BitVec.ofNat 4 type ∧ f.ack = BitVec.ofNat 12 ((s.port p).trunk.expect + 4095) ∧ f.payload = payload := by
  unfold State.putFlit
  dsimp only
  generalize hf : ({ seq := BitVec.ofNat 12 seq, ack := _, type := _, cvc := _, credit := _, nak := _, kset, payload } : TrunkFlit) = f
  generalize hs1 : State.modCtl _ p _ = s1
  generalize hw : Msg.wire p _ = w
  have h1 : TrunkKeeps p s s1 := by
    rw [← hs1]
    exact (s.modPort_trunkKeeps (by intro _; rfl)).trans (State.modPort_trunkKeeps _ (by intro _; rfl))
  have h2 : TrunkKeeps p (s1.emit (.flit p f)) ((s1.emit (.flit p f)).emit w) := State.emit_trunkKeeps _ hp w
  have hsent : ((s1.emit (.flit p f)).emit w).sent (.flit p f) := h2.sent _ (s1.emit_sent _ rfl)
  have hkeep : TrunkKeeps p s ((s1.emit (.flit p f)).emit w) := (h1.trans (s1.emit_trunkKeeps hp _)).trans h2
  generalize (s1.emit (.flit p f)).emit w = t at hsent hkeep
  have hfields : f.seq = BitVec.ofNat 12 seq ∧ f.type = BitVec.ofNat 4 type ∧ f.ack = BitVec.ofNat 12 ((s.port p).trunk.expect + 4095) ∧ f.payload = payload := by
    rw [← hf]
    exact ⟨rfl, rfl, rfl, rfl⟩
  split
  · exact ⟨hkeep.trans (t.nextMarker_trunkKeeps hp), f, (t.nextMarker_trunkKeeps hp).sent _ hsent, hfields⟩
  · exact ⟨hkeep, f, hsent, hfields⟩

/-! ### What goes out at a flit boundary -/

/-- An IDLE flit goes out, and its interval is counted (R216, R570). -/
def State.idleFlit (s : State) (p : Nat) : State :=
  (s.putFlit p (s.port p).trunk.nextSeq 0 (s.port p).ctl.ksetTx (padded [])).countSlots p (s.idleEvents p)

theorem State.idleFlit_sends (hp : p < 65536) : TrunkKeeps p s (s.idleFlit p) ∧ ∃ f : TrunkFlit, (s.idleFlit p).sent (.flit p f) ∧ f.type = 0 ∧
    f.ack = BitVec.ofNat 12 ((s.port p).trunk.expect + 4095) := by
  obtain ⟨hkeep, f, hsent, -, htype, hack, -⟩ := s.putFlit_sends hp (s.port p).trunk.nextSeq 0 (s.port p).ctl.ksetTx (padded [])
  have hcount := State.countSlots_trunkKeeps (s.putFlit p (s.port p).trunk.nextSeq 0 (s.port p).ctl.ksetTx (padded [])) hp (s.idleEvents p)
  exact ⟨hkeep.trans hcount, f, hcount.sent _ hsent, htype, hack⟩

theorem State.sendFlit_first (h : 0 < (s.port p).ctl.idleLeft) : s.sendFlit p =
    if (s.port p).ctl.idleLeft = 1 then ((s.idleFlit p).modCtl p (fun c => { c with idleLeft := c.idleLeft - 1 })).startReplay p
    else (s.idleFlit p).modCtl p (fun c => { c with idleLeft := c.idleLeft - 1 }) := by
  unfold State.sendFlit
  dsimp only
  rw [if_pos h]
  rfl

theorem State.sendFlit_replays (hidle : (s.port p).ctl.idleLeft = 0) (hide : (s.port p).ctl.ide = false) {e : SentFlit} {rest : List SentFlit}
    (h : (s.port p).trunk.replaying = e :: rest) : s.sendFlit p =
    (((s.modTrunk p (fun x => { x with replaying := rest })).putFlit p e.seq e.type e.kset e.payload).countPort p 0x016).countSlots p [0x003] := by
  unfold State.sendFlit
  dsimp only
  rw [if_neg (by simp [hidle]), if_neg (by simp [hide]), h]

theorem State.sendFlit_idle (hidle : (s.port p).ctl.idleLeft = 0) (hide : (s.port p).ctl.ide = false) (hreplay : (s.port p).trunk.replaying = [])
    (hbypass : (s.port p).trunk.bypass = []) : s.sendFlit p =
    (((s.idleFlit p).modCtl p (fun c => { c with parkIdle := c.parkAgreed })).askPark p).tryPark p := by
  have hdata : s.dataReady p = false := by simp [State.dataReady, hide]
  unfold State.sendFlit
  dsimp only
  rw [if_neg (by simp [hidle]), if_neg (by simp [hide]), hreplay, hbypass, hdata]
  dsimp only
  rw [if_neg (by simp [pickBypass]), if_neg (by simp)]
  rfl

/-- Asking to park changes no flit of the port. -/
theorem State.askPark_reads : ((s.askPark p).port p).trunk.nextSeq = (s.port p).trunk.nextSeq ∧ ((s.askPark p).port p).trunk.replay = (s.port p).trunk.replay ∧
    (∀ m, s.sent m → (s.askPark p).sent m) := by
  unfold State.askPark
  dsimp only
  split
  · rw [State.modCtl_port, State.sendBypass, State.port_modPort_self]
    exact ⟨rfl, rfl, fun _ h => h⟩
  · exact ⟨rfl, rfl, fun _ h => h⟩

/-- An end that has agreed to park does not ask again (R234). -/
theorem State.askPark_agreed (h : (s.port p).ctl.parkAgreed = true) : s.askPark p = s := by
  unfold State.askPark
  exact if_neg (by simp [h])

theorem State.endScans_sent (l : List Nat) (m : Msg) : (l.foldl (fun (s : State) k => s.endScan k) s).sent m = s.sent m :=
  foldl_keeps (p := fun t : State => t.sent m) (by intro _ _; rfl) l s

/-- Parking changes no flit of the port. -/
theorem State.tryPark_reads : ((s.tryPark p).port p).trunk.nextSeq = (s.port p).trunk.nextSeq ∧ ((s.tryPark p).port p).trunk.replay = (s.port p).trunk.replay ∧
    ((s.tryPark p).port p).trunk.expect = (s.port p).trunk.expect ∧ ((s.tryPark p).port p).trunk.lastNak = (s.port p).trunk.lastNak ∧
    ((s.tryPark p).port p).ctl.arrived = (s.port p).ctl.arrived ∧ (∀ m, s.sent m → (s.tryPark p).sent m) := by
  unfold State.tryPark
  dsimp only
  split
  · obtain ⟨-, -, hports, -⟩ := (s.put .portLink p 0 9).endScans_keep (s.lanesOf p)
    have hsent := fun m => (s.put .portLink p 0 9).endScans_sent (s.lanesOf p) m
    generalize (s.lanesOf p).foldl (fun (s : State) k => s.endScan k) (s.put .portLink p 0 9) = u at hports hsent
    have hport : u.port p = s.port p := congrArg (fun l => Tab.get ({} : PortState) l p) hports
    rw [State.modCtl_port, State.modTrunk_port, hport]
    exact ⟨rfl, rfl, rfl, rfl, rfl, fun m h => (hsent m).mpr h⟩
  · exact ⟨rfl, rfl, rfl, rfl, rfl, fun _ h => h⟩

/-- An end that has agreed, with nothing unacknowledged, nothing queued and an IDLE flit sent since, goes to electrical idle (R234). -/
theorem State.tryPark_parks (hp : p < 65536) (hagreed : (s.port p).ctl.parkAgreed = true) (hidle : (s.port p).ctl.parkIdle = true)
    (hreplay : (s.port p).trunk.replay = []) (hbypass : (s.port p).trunk.bypass = []) (hepoch : (s.port p).ctl.epochFlits = 0)
    (hstage : (s.port p).trunk.stage = .active) (htrain : s.trunkPort p = true) :
    (s.tryPark p).get .portLink p = 9 ∧ (s.tryPark p).trunkAt p .parked = true := by
  unfold State.tryPark
  dsimp only
  rw [if_pos (by simp [hagreed, hidle, hreplay, hbypass, hepoch, hstage])]
  have hoff := (s.put .portLink p 0 9).endScans_offLink (s.lanesOf p)
  generalize (s.lanesOf p).foldl (fun (s : State) k => s.endScan k) (s.put .portLink p 0 9) = u at hoff
  have hlink : u.get .portLink p = 9 := (State.get_of_offLink hoff (f := .portLink) (by decide) hp).trans (s.get_put_self .portLink p 0 9)
  have htrain' : u.trunkPort p = true := (State.trunkPort_of_offLink hoff hp).trans (s.trunkPort_link hp htrain 9)
  rw [State.trunkAt_iff, State.modCtl_port, State.modTrunk_port]
  exact ⟨hlink, htrain', rfl⟩

theorem State.enterRecovery_kept : ((s.enterRecovery p).port p).trunk.nextSeq = (s.port p).trunk.nextSeq ∧ ((s.enterRecovery p).port p).ctl.idleLeft = 0 ∧
    (∀ m, s.sent m → (s.enterRecovery p).sent m) := by
  have hport : ((s.enterRecovery p).port p).cleared = ((s.port p).recovering s.ftb).cleared := by
    refine (congrArg (fun o : OffLink => o.ports p) (s.enterRecovery_offLink p)).trans ?_
    exact congrArg PortState.cleared (State.port_modPort_self _ p _)
  refine ⟨(congrArg (fun x : PortState => x.trunk.nextSeq) hport :), (congrArg (fun x : PortState => x.ctl.idleLeft) hport :), fun m h => ?_⟩
  unfold State.enterRecovery State.sendMarker
  dsimp only
  refine (State.emit_hears _ _).sent m ?_
  exact (State.emit_hears _ _).sent m h

/-- A replay that starts spends no sequence number, and what was sent is sent (R226). -/
theorem State.startReplay_kept (hidle : (s.port p).ctl.idleLeft = 0) : ((s.startReplay p).port p).trunk.nextSeq = (s.port p).trunk.nextSeq ∧
    ((s.startReplay p).port p).ctl.idleLeft = 0 ∧ (∀ m, s.sent m → (s.startReplay p).sent m) := by
  unfold State.startReplay
  dsimp only
  split
  · rw [State.modTrunk_port]
    exact ⟨rfl, hidle, fun _ h => h⟩
  · generalize hu : s.modTrunk p _ = u
    have hport : (u.port p).trunk.nextSeq = (s.port p).trunk.nextSeq ∧ (u.port p).ctl.idleLeft = 0 := by
      rw [← hu, State.modTrunk_port]
      exact ⟨rfl, hidle⟩
    have hsent : ∀ m, s.sent m → u.sent m := by
      rw [← hu]
      exact fun _ h => h
    split
    · obtain ⟨hseq, hleft, hkeep⟩ := u.enterRecovery_kept (p := p)
      exact ⟨hseq.trans hport.1, hleft, fun m h => hkeep m (hsent m h)⟩
    · exact ⟨hport.1, hport.2, hsent⟩

/-- A replay below the fourth without progress sends what is unacknowledged again (R226, R227). -/
theorem State.startReplay_again (h : (s.port p).trunk.replay ≠ []) (hfew : (s.port p).trunk.replays < 3) :
    ((s.startReplay p).port p).trunk.replaying = (s.port p).trunk.replay ∧ ((s.startReplay p).port p).trunk.replays = (s.port p).trunk.replays + 1 := by
  unfold State.startReplay
  dsimp only
  split
  next hnil => exact absurd hnil h
  next =>
    rw [if_neg (by omega), State.modTrunk_port]
    exact ⟨rfl, rfl⟩

/-! ### What a flit that arrives does -/

/-- The first bad flit after good ones asks for a replay in the next four flits (R225). -/
theorem State.askReplay_asks (hnak : (s.port p).trunk.lastNak = none) (hleft : (s.port p).trunk.nakLeft = 0) :
    ((s.askReplay p).port p).trunk.nakLeft = 4 ∧ ((s.askReplay p).port p).trunk.expect = (s.port p).trunk.expect := by
  unfold State.askReplay
  rw [State.modTrunk_port]
  simp [hnak, hleft]

/-- Before Trunk IDE a BYPASS flit in order releases its control messages (R206, R224). -/
theorem State.acceptFlit_bypass {f : TrunkFlit} (htype : f.type.toNat = 2) (hide : (s.port p).ctl.ide = false) :
    ((s.acceptFlit p f).port p).trunk.expect = ((s.port p).trunk.expect + 1) % 4096 ∧ ((s.acceptFlit p f).port p).trunk.lastNak = none ∧
    ((s.acceptFlit p f).port p).ctl.arrived = (s.port p).ctl.arrived ++
      (readBypass 7 (min (fieldAt f.payload 0 1) 7) (f.payload.drop 10)).filter (fun m => 1 ≤ m.1 && m.1 ≤ 7) := by
  unfold State.acceptFlit
  dsimp only
  rw [State.modTrunk_port, if_pos (by simp [hide]), if_neg (by simp [htype]), State.releaseFlit, if_neg (by simp [htype]), State.modCtl_port,
    State.modTrunk_port]
  simp only [hide, Bool.false_or]
  exact ⟨trivial, trivial, trivial⟩

theorem State.receiveFlit_bypass {f : TrunkFlit} (htype : f.type = 2) (hcvc : f.cvc = 15) (hnak : f.nak = false)
    (hseq : f.seq.toNat = (s.port p).trunk.expect) (hreplay : (s.port p).trunk.replay = []) : s.receiveFlit p f = (s.acceptFlit p f).tryPark p := by
  have hack : s.applyAck p f.ack.toNat = s := by
    unfold State.applyAck
    exact if_neg (by simp [hreplay])
  have hcredit : s.applyCredit p f.cvc.toNat f.credit.toNat = s := by
    unfold State.applyCredit
    exact if_pos (by rw [hcvc]; decide)
  unfold State.receiveFlit
  dsimp only
  rw [if_neg (by rw [htype, hcvc]; decide), hack, hcredit]
  simp only [hnak, Bool.false_eq_true, if_false]
  rw [if_neg (by rw [htype]; simp), if_pos (by rw [hseq, Nat.add_sub_cancel_left])]

/-! ### The events -/

/-- A key update derives the next key set; the initiator tells the responder (R240). -/
theorem State.updateKeys_reads : ((s.updateKeys p).port p).ctl.keyUpdating = true ∧ ((s.updateKeys p).port p).ctl.derived = (s.port p).ctl.derived + 1 ∧
    ((s.port p).trunk.initiator = true → PeerSent (s.updateKeys p) p 0x07) := by
  unfold State.updateKeys
  dsimp only
  split
  next hinit =>
    refine ⟨?_, ?_, fun _ => State.sendBypass_peerSent _ p 0x07 8 _⟩ <;> rw [State.sendBypass, State.port_modPort_self, State.modCtl_port]
  next hinit => exact ⟨by rw [State.modCtl_port], by rw [State.modCtl_port], fun h => absurd h hinit⟩

end

section
variable {s : State} {p : Port}

theorem execFlitBoundary_sends (hat : s.trunkAt p.val .active = true) : exec (.flitBoundary p) s = .next (s.sendFlit p.val) := by
  show execFlitBoundary p s = _
  rw [execFlitBoundary, if_pos hat]

theorem execFlitBoundary_idle (hat : s.trunkAt p.val .active = true) (hbypass : (s.port p.val).trunk.bypass = [])
    (hreplay : (s.port p.val).trunk.replaying = []) (hide : (s.port p.val).ctl.ide = false) (hidle : (s.port p.val).ctl.idleLeft = 0) :
    Leads (.flitBoundary p) s (fun t => (t.port p.val).trunk.nextSeq = (s.port p.val).trunk.nextSeq ∧
      (t.port p.val).trunk.replay = (s.port p.val).trunk.replay ∧
      (∃ f, t.sent (.flit p.val f) ∧ f.type = 0 ∧ f.ack = BitVec.ofNat 12 ((s.port p.val).trunk.expect + 4095)) ∧
      ((s.port p.val).ctl.parkAgreed = true → (s.port p.val).ctl.epochFlits = 0 → (s.port p.val).trunk.replay = [] →
        t.get .portLink p.val = 9 ∧ t.trunkAt p.val .parked = true)) := by
  have hp : p.val < 65536 := Nat.lt_trans p.isLt (by decide)
  obtain ⟨htrain, hstage⟩ := (s.trunkAt_iff p.val .active).1 hat
  refine ⟨_, (execFlitBoundary_sends hat).trans (congrArg Host.Outcome.next (s.sendFlit_idle hidle hide hreplay hbypass)), ?_⟩
  obtain ⟨hkeep, f, hsent, htype, hack⟩ := s.idleFlit_sends hp
  generalize s.idleFlit p.val = t at hkeep hsent
  generalize hu : t.modCtl p.val _ = u
  obtain ⟨hport, htrain', -⟩ := hkeep
  have hu' : u.port p.val = { t.port p.val with ctl := { (t.port p.val).ctl with parkIdle := (t.port p.val).ctl.parkAgreed } } := by
    rw [← hu, State.modCtl_port]
  have hseq : (u.port p.val).trunk.nextSeq = (s.port p.val).trunk.nextSeq := by
    rw [hu']
    exact (congrArg (fun x : PortState => x.trunk.nextSeq) hport :)
  have hrep : (u.port p.val).trunk.replay = (s.port p.val).trunk.replay := by
    rw [hu']
    exact (congrArg (fun x : PortState => x.trunk.replay) hport :)
  have hsentu : u.sent (.flit p.val f) := by
    rw [← hu]
    exact hsent
  obtain ⟨haskSeq, haskRep, haskSent⟩ := u.askPark_reads (p := p.val)
  obtain ⟨hparkSeq, hparkRep, -, -, -, hparkSent⟩ := (u.askPark p.val).tryPark_reads (p := p.val)
  refine ⟨hparkSeq.trans (haskSeq.trans hseq), hparkRep.trans (haskRep.trans hrep), ⟨f, hparkSent _ (haskSent _ hsentu), htype, hack⟩, fun hagreed hepoch hnone => ?_⟩
  have hagreed' : (t.port p.val).ctl.parkAgreed = true := (congrArg (fun x : PortState => x.ctl.parkAgreed) hport :).trans hagreed
  rw [u.askPark_agreed (by rw [hu']; exact hagreed')]
  refine u.tryPark_parks hp (by rw [hu']; exact hagreed') (by rw [hu']; exact hagreed') (hrep.trans hnone) ?_ ?_ ?_ ?_
  · rw [hu']
    exact (congrArg (fun x : PortState => x.trunk.bypass) hport :).trans hbypass
  · rw [hu']
    exact (congrArg (fun x : PortState => x.ctl.epochFlits) hport :).trans hepoch
  · rw [hu']
    exact (congrArg (fun x : PortState => x.trunk.stage) hport :).trans hstage
  · rw [← hu]
    exact htrain'.trans htrain

theorem execFlitBoundary_first (hat : s.trunkAt p.val .active = true) {n : Nat} (h : (s.port p.val).ctl.idleLeft = n + 1) :
    Leads (.flitBoundary p) s (fun t => (t.port p.val).trunk.nextSeq = (s.port p.val).trunk.nextSeq ∧ (t.port p.val).ctl.idleLeft = n ∧
      ∃ f, t.sent (.flit p.val f) ∧ f.type = 0) := by
  have hp : p.val < 65536 := Nat.lt_trans p.isLt (by decide)
  refine ⟨_, (execFlitBoundary_sends hat).trans (congrArg Host.Outcome.next (s.sendFlit_first (by omega))), ?_⟩
  obtain ⟨⟨hport, -, -⟩, f, hsent, htype, -⟩ := s.idleFlit_sends hp
  generalize s.idleFlit p.val = t at hport hsent
  generalize hu : t.modCtl p.val _ = u
  have hseq : (u.port p.val).trunk.nextSeq = (s.port p.val).trunk.nextSeq := by
    rw [← hu, State.modCtl_port]
    exact (congrArg (fun x : PortState => x.trunk.nextSeq) hport :)
  have hleft : (u.port p.val).ctl.idleLeft = n := by
    rw [← hu, State.modCtl_port]
    exact Nat.sub_eq_of_eq_add ((congrArg (fun x : PortState => x.ctl.idleLeft) hport :).trans h)
  have hsentu : u.sent (.flit p.val f) := by
    rw [← hu]
    exact hsent
  split
  next h1 =>
    have hn : n = 0 := by omega
    obtain ⟨hseq', hleft', hkeep⟩ := u.startReplay_kept (p := p.val) (hleft.trans hn)
    exact ⟨hseq'.trans hseq, hleft'.trans hn.symm, f, hkeep _ hsentu, htype⟩
  next => exact ⟨hseq, hleft, f, hsentu, htype⟩

theorem execFlitBoundary_replays (hat : s.trunkAt p.val .active = true) {e : SentFlit} {rest : List SentFlit}
    (h : (s.port p.val).trunk.replaying = e :: rest) (hide : (s.port p.val).ctl.ide = false) (hidle : (s.port p.val).ctl.idleLeft = 0) :
    Leads (.flitBoundary p) s (fun t => (t.port p.val).trunk.replaying = rest ∧
      ∃ f, t.sent (.flit p.val f) ∧ f.seq = BitVec.ofNat 12 e.seq ∧ f.type = BitVec.ofNat 4 e.type ∧ f.payload = e.payload) := by
  have hp : p.val < 65536 := Nat.lt_trans p.isLt (by decide)
  refine ⟨_, (execFlitBoundary_sends hat).trans (congrArg Host.Outcome.next (s.sendFlit_replays hidle hide h)), ?_⟩
  generalize hu : s.modTrunk p.val _ = u
  have hrest : (u.port p.val).trunk.replaying = rest := by rw [← hu, State.modTrunk_port]
  obtain ⟨hkeep, f, hsent, hseq, htype, -, hpayload⟩ := u.putFlit_sends hp e.seq e.type e.kset e.payload
  have hcount := (State.countPort_trunkKeeps (u.putFlit p.val e.seq e.type e.kset e.payload) hp 0x016 {} 1).trans (State.countSlots_trunkKeeps _ hp [0x003])
  have hport := (hkeep.trans hcount).port
  have hsent' := hcount.sent _ hsent
  generalize State.countSlots _ p.val [0x003] = t at hport hsent'
  exact ⟨(congrArg (fun x : PortState => x.trunk.replaying) hport :).trans hrest, f, hsent', hseq, htype, hpayload⟩

theorem execTrunkFlitReceive_bad (hat : s.trunkAt p.val .active = true) {b crc fec : List Byte} (hbad : flitGood (fecDecode (b ++ crc ++ fec)) = false)
    (hnak : (s.port p.val).trunk.lastNak = none) (hleft : (s.port p.val).trunk.nakLeft = 0) :
    Leads (.trunkFlitReceive p b crc fec) s (fun t => (t.port p.val).trunk.nakLeft = 4 ∧ (t.port p.val).trunk.expect = (s.port p.val).trunk.expect) := by
  refine ⟨_, rfl, ?_⟩
  rw [if_pos hat, State.receiveBytes]
  dsimp only
  rw [if_neg (by rw [hbad]; exact Bool.false_ne_true)]
  have hport : (s.countPort p.val 0x017).port p.val = s.port p.val :=
    (congrArg (fun t : State => t.port p.val) (State.countPort_hears s (Nat.lt_trans p.isLt (by decide)) 0x017 {} 1).still :)
  obtain ⟨h4, hexpect⟩ := State.askReplay_asks (s.countPort p.val 0x017) (p := p.val) (by rw [hport]; exact hnak) (by rw [hport]; exact hleft)
  exact ⟨h4, hexpect.trans (by rw [hport])⟩

theorem execTrunkFlitReceive_bypass (hat : s.trunkAt p.val .active = true) {b crc fec : List Byte} (hgood : flitGood (fecDecode (b ++ crc ++ fec)) = true)
    (htype : (flitOf (fecDecode (b ++ crc ++ fec))).type = 2) (hcvc : (flitOf (fecDecode (b ++ crc ++ fec))).cvc = 15)
    (hnak : (flitOf (fecDecode (b ++ crc ++ fec))).nak = false) (hseq : (flitOf (fecDecode (b ++ crc ++ fec))).seq.toNat = (s.port p.val).trunk.expect)
    (hreplay : (s.port p.val).trunk.replay = []) (hide : (s.port p.val).ctl.ide = false) :
    Leads (.trunkFlitReceive p b crc fec) s (fun t => (t.port p.val).trunk.expect = ((s.port p.val).trunk.expect + 1) % 4096 ∧
      (t.port p.val).trunk.lastNak = none ∧ (t.port p.val).ctl.arrived = (s.port p.val).ctl.arrived ++
        (readBypass 7 (min (fieldAt (flitOf (fecDecode (b ++ crc ++ fec))).payload 0 1) 7)
          ((flitOf (fecDecode (b ++ crc ++ fec))).payload.drop 10)).filter (fun m => 1 ≤ m.1 && m.1 ≤ 7)) := by
  refine ⟨_, rfl, ?_⟩
  rw [if_pos hat, State.receiveBytes]
  dsimp only
  rw [if_pos hgood]
  generalize flitOf (fecDecode (b ++ crc ++ fec)) = f at htype hcvc hnak hseq
  rw [s.receiveFlit_bypass htype hcvc hnak hseq hreplay]
  obtain ⟨-, -, hexpect, hlast, harrived, -⟩ := (s.acceptFlit p.val f).tryPark_reads (p := p.val)
  obtain ⟨hexpect', hlast', harrived'⟩ := s.acceptFlit_bypass (p := p.val) (f := f) (by rw [htype]; rfl) hide
  exact ⟨hexpect.trans hexpect', hlast.trans hlast', harrived.trans harrived'⟩

theorem execMctpBypass_takes (hat : s.trunkAt p.val .active = true) {s1 : State} (ht : s.takes p.val 0x07 [] s1) (packet : TrunkMctp) {act : State → State}
    (hact : execMctpBypass p packet s = .next (if s.trunkAt p.val .active then s.onMessage p.val 0x07 [] act else s)) :
    exec (.mctpBypass p packet) s = .next (act s1) := by
  show execMctpBypass p packet s = _
  rw [hact, if_pos hat, State.onMessage_takes ht]

end

/-- Settles O41. -/
theorem trunkFlits : Obligations.TrunkFlits := by
  unfold Obligations.TrunkFlits
  refine ⟨fun f h => ⟨flitBytes_length h, fecDecode_flit f, flitGood_flitBytes h, flitOf_flitBytes h⟩, fun p s hat => ?_⟩
  dsimp only
  refine ⟨execFlitBoundary_idle hat, fun n h => execFlitBoundary_first hat h, fun e rest h hide hidle => execFlitBoundary_replays hat h hide hidle,
    fun b crc fec hbad hnak hleft => execTrunkFlitReceive_bad hat hbad hnak hleft,
    fun b crc fec hgood htype hcvc hnak hseq hreplay hide => execTrunkFlitReceive_bypass hat hgood htype hcvc hnak hseq hreplay hide,
    fun n hn hdue hreplay hfew => ?_, fun hide hinit hupd => ?_, fun s1 ht => ?_⟩
  · refine ⟨_, rfl, ?_⟩
    simp only [hn]
    rw [if_pos (by simp [hat, hdue])]
    exact s.startReplay_again hreplay hfew
  · refine ⟨_, rfl, ?_⟩
    rw [if_pos (by simp [hat, hide, hinit, hupd])]
    obtain ⟨hset, hderived, hsent⟩ := s.updateKeys_reads (p := p.val)
    exact ⟨hset, hderived, hsent hinit⟩
  · obtain ⟨a, q, hs1⟩ := State.takes_gave ht
    have hport : s1.port p.val = (s.port p.val).gave a q := by rw [hs1, s.modPort_gave_port]
    refine ⟨⟨_, execMctpBypass_takes hat ht (.keyed true) rfl, ?_⟩, ⟨_, execMctpBypass_takes hat ht (.keyed false) rfl, ?_⟩,
      fun hide hinit => ⟨_, execMctpBypass_takes hat ht .keyUpdate rfl, ?_⟩, fun b => ⟨_, execMctpBypass_takes hat ht (.spdm b) rfl, rfl⟩,
      fun b => ⟨_, execMctpBypass_takes hat ht (.order b) rfl, rfl⟩⟩
    · dsimp only
      rw [State.keyTrunk, State.modCtl_port]
      exact ⟨rfl, rfl, rfl⟩
    · exact State.linkDownTo_link _ (Nat.lt_trans p.isLt (by decide)) (by decide)
    · dsimp only
      rw [hport, if_pos (by simp [PortState.gave, hide, hinit])]
      exact (s1.updateKeys_reads (p := p.val)).1

end Sys2Proof.Machine
end

section
/-! PROOFS. What a flit of a standard link brings (R87, R197, R302, R459, R598), the power controllers and DPC of a vPPB, and IDE of
standard links (R306, R308, R556 to R558, R595). -/

namespace Sys2Proof.Machine

/-! ### Fields below those that events and counters change -/

/-- The fields of the classes below the event vectors, by their keys. -/
def State.lowFields (s : State) (k : Nat) : Option Nat := if k < 0x0D * 2 ^ 40 then Tab.find s.obj k else none

section
variable (s : State)

theorem State.lowFields_of_obj {t : State} (h : t.obj = s.obj) : t.lowFields = s.lowFields := by
  unfold State.lowFields
  rw [h]

theorem State.put_lowFields {f : Fld} (hf : 0x0D ≤ f.info.cls) (i b v : Nat) : (s.put f i b v).lowFields = s.lowFields := by
  funext k
  have hkey : 0x0D * 2 ^ 40 ≤ objKey f.info.cls f.info.id i b := by
    unfold objKey
    omega
  unfold State.lowFields State.put
  rw [Tab.find_set]
  by_cases hk : k < 0x0D * 2 ^ 40
  · rw [if_pos hk, if_pos hk, if_neg (Nat.ne_of_gt (Nat.lt_of_lt_of_le hk hkey))]
  · rw [if_neg hk, if_neg hk]

theorem State.get_of_lowFields {t : State} (h : t.lowFields = s.lowFields) {f : Fld} (hf : f.info.cls < 0x0D) (hid : f.info.id < 256)
    (hreset : ∀ u : State, ∀ i b, u.resetValue f i b = f.info.reset) {i b : Nat} (hi : i < 65536) (hb : b < 65536) : t.get f i b = s.get f i b := by
  have hkey : objKey f.info.cls f.info.id i b < 0x0D * 2 ^ 40 := by
    unfold objKey
    omega
  have hread : ∀ u : State, Tab.find u.obj (objKey f.info.cls f.info.id i b) = u.lowFields (objKey f.info.cls f.info.id i b) := fun u => (if_pos hkey).symm
  rw [State.get, State.get, Tab.get_eq_find, Tab.get_eq_find, hread, hread, h, hreset, hreset]

theorem State.emit_lowFields (m : Msg) : (s.emit m).lowFields = s.lowFields := s.lowFields_of_obj (s.emit_obj m)

theorem State.eventMsi_lowFields (t : Nat) : (s.eventMsi t).lowFields = s.lowFields := by
  unfold State.eventMsi
  dsimp only
  rw [apply_ite State.lowFields]
  cases s.msiPort t with
  | none => exact ite_self _
  | some p => exact (congrArg (ite _ · _) (State.emit_lowFields _ _)).trans (ite_self _)

theorem State.raiseVector_lowFields (n : Nat) (owner : Option Nat) : (s.raiseVector n owner).lowFields = s.lowFields := by
  have hpend : ∀ i b v, (s.devicePut .eventPending i b v).lowFields = s.lowFields := by
    intro i b v
    unfold State.devicePut
    split <;> exact s.put_lowFields (f := .eventPending) (by decide) i b v
  have hmiss : s.missRaise.lowFields = s.lowFields := rfl
  have htenant : ∀ t f, (s.missRaise.modTenant t f).lowFields = s.lowFields := fun _ _ => rfl
  simp only [State.raiseVector, apply_ite State.lowFields, State.eventMsi_lowFields, hpend, hmiss, htenant, ite_self]

theorem State.addUnit_lowFields (u i n : Nat) : (s.addUnit u i n).lowFields = s.lowFields := by
  have hvalue : ∀ (t : State) (i b v : Nat), (t.put .unitctrValue i b v).lowFields = t.lowFields := fun t => t.put_lowFields (by decide)
  have hovf : ∀ (t : State) (i b v : Nat), (t.put .unitctrOvf i b v).lowFields = t.lowFields := fun t => t.put_lowFields (by decide)
  simp only [State.addUnit, apply_ite State.lowFields, State.raiseVector_lowFields, hvalue, hovf, ite_self]

theorem State.addCounter_lowFields (i n : Nat) : (s.addCounter i n).lowFields = s.lowFields := by
  have hvalue : ∀ (t : State) (i b v : Nat), (t.put .counterValue i b v).lowFields = t.lowFields := fun t => t.put_lowFields (by decide)
  have hovf : ∀ (t : State) (i b v : Nat), (t.put .counterOvf i b v).lowFields = t.lowFields := fun t => t.put_lowFields (by decide)
  simp only [State.addCounter, apply_ite State.lowFields, State.raiseVector_lowFields, hvalue, hovf, ite_self]

theorem State.count_lowFields (u ev : Nat) (a : EventAttrs) (n : Nat) : (s.count u ev a n).lowFields = s.lowFields := by
  have hunit : ∀ (s : State) i, (s.unitSees u ev n a i).lowFields = s.lowFields := by
    intro s i
    simp only [State.unitSees, apply_ite State.lowFields, State.addUnit_lowFields, ite_self]
  have hcounter : ∀ (s : State) i, (s.counterSees (ev % 4096) n a i).lowFields = s.lowFields := by
    intro s i
    simp only [State.counterSees, apply_ite State.lowFields, State.addCounter_lowFields, ite_self]
  unfold State.count
  dsimp only
  generalize hu : (if s.unitCounts u then (List.range 8).foldl (fun s i => s.unitSees u ev n a i) s else s) = t
  have ht : t.lowFields = s.lowFields := by
    rw [← hu]
    split
    · exact foldl_keeps hunit _ s
    · rfl
  split
  · split
    · exact (foldl_keeps hcounter _ _).trans ht
    · exact ht
  · exact ht

theorem State.contain_lowFields (e : ErrorAt) : (s.contain e).lowFields = s.lowFields := by
  unfold State.contain
  dsimp only
  rw [State.raiseT0, State.raiseVector_lowFields]
  exact (State.put_lowFields _ (f := .deviceUcCount) (by decide) _ _ _).trans rfl

theorem Fld.poolOwn_class {f : Fld} (h : f.poolOwn = true) : 0x0D ≤ f.info.cls := by
  unfold Fld.poolOwn at h
  split at h
  · decide
  · decide
  · decide
  · decide
  · cases h

/-- The coherent pool does not reach the fields of the classes below the event vectors. -/
def lowView : PoolView (Nat → Option Nat) where
  view := State.lowFields
  onEmit := State.emit_lowFields
  onDrawn _ := rfl
  onCount := State.count_lowFields
  onRaise := State.raiseVector_lowFields
  onContain := State.contain_lowFields
  onCoh _ _ := rfl
  onVcs _ _ _ := rfl
  onLost _ := rfl
  onTenants _ _ := rfl
  onBypass _ _ _ _ _ := rfl
  onPut s _ i b v hf := s.put_lowFields (Fld.poolOwn_class hf) i b v

/-- A vPPB that becomes unbound has no KIND and no HP (R309), whatever dies behind it. -/
theorem State.unbindLater_reads {v b : Nat} (hv : v < 65536) (hb : b < 65536) :
    (s.unbindLater v b).get .vppbHp v b = 0 ∧ (s.unbindLater v b).get .vppbKind v b = 0 := by
  have hlow : (s.unbindLater v b).lowFields = ((s.put .vppbKind v b 0).put .vppbHp v b 0).lowFields := by
    unfold State.unbindLater State.unbindNow
    dsimp only
    refine (lowView.raiseT0 _ .deviceBindEv 0).trans ((lowView.foldl _ (fun s a => lowView.agentDies ..) _).trans ?_)
    exact (State.emit_lowFields _ _).trans rfl
  have hkind : ((s.put .vppbKind v b 0).put .vppbHp v b 0).get .vppbKind v b = 0 :=
    (State.get_put_ne _ (by decide) 0 hv hb hv hb).trans (s.get_put_self .vppbKind v b 0)
  refine ⟨?_, ?_⟩
  · exact (State.get_of_lowFields _ hlow (f := .vppbHp) (by decide) (by decide) (fun _ _ _ => rfl) hv hb).trans (State.get_put_self _ .vppbHp v b 0)
  · exact (State.get_of_lowFields _ hlow (f := .vppbKind) (by decide) (by decide) (fun _ _ _ => rfl) hv hb).trans hkind

/-! ### Flits -/

section
variable {s} {p : Port}

/-- A correctable error of a port whose USP it is, after the event is counted (R598). -/
theorem State.linkError_usp {v : Nat} (hu : s.uspOf p.val = some v) {t : State} (h : Hears s t) (bit : Nat) :
    ((t.linkError p.val bit).vcs v).uspCorrectable = (s.vcs v).uspCorrectable ||| bit := by
  have husp : t.uspOf p.val = some v := by
    rw [← hu]
    unfold State.uspOf
    refine List.find?_congr fun w hw => ?_
    have hw : w < 65536 := Nat.lt_trans (List.mem_range.1 hw) (by decide)
    rw [h.get .vcsEnable rfl w 0 hw (by decide), h.get .vcsUsp rfl w 0 hw (by decide)]
  have hvcs : t.vcs v = s.vcs v := (congrArg (fun u : State => u.vcs v) h.still :)
  unfold State.linkError
  rw [husp]
  exact (congrArg VcsState.uspCorrectable (State.vcs_modVcs_self t v _)).trans (by rw [hvcs])

end

/-- What flits of a standard link bring. -/
theorem flitReceive_brings (p : Port) (s : State) (hup : s.portUp p.val = true) (hproto : s.get .portProto p.val ≠ 2) :
    Leads (.flitReceive p .good) s (fun t => t = s) ∧
    (∀ v, s.uspOf p.val = some v →
      Leads (.flitReceive p .bad) s (fun t => (t.vcs v).uspCorrectable = (s.vcs v).uspCorrectable ||| 1) ∧
      ∀ n, Leads (.flitReceive p (.replayed n)) s (fun t => (t.vcs v).uspCorrectable = (s.vcs v).uspCorrectable ||| 2 ^ 12)) ∧
    (∀ l : Fin 4, Leads (.flitReceive p (.devLoad l)) s (fun t => t.get .portDevload p.val = l.val)) ∧
    (∀ m, s.mgmtPort ≠ some p.val → Leads (.flitReceive p (.mctpVdm m)) s (fun t => t = { s with sec := { s.sec with
      discarded := s.sec.discarded + 1 } })) ∧
    (∀ tag, (∀ o ∈ (s.port p.val).opens, o.tag ≠ tag) → Leads (.flitReceive p (.lateCompletion tag)) s (fun t => t = s.countLost)) ∧
    (∀ ld, s.vppbBelow p.val ld.toNat = none → Leads (.flitReceive p (.ldResponse ld)) s (fun t => t = s.countLost)) := by
  have hp : p.val < 65536 := Nat.lt_trans p.isLt (by decide)
  have hcond : (s.portUp p.val && s.get .portProto p.val != 2) = true := by simp [hup, hproto]
  refine ⟨⟨_, rfl, ?_⟩, fun v hv => ⟨⟨_, rfl, ?_⟩, fun n => ⟨_, rfl, ?_⟩⟩, fun l => ⟨_, rfl, ?_⟩, fun m hm => ⟨_, rfl, ?_⟩, fun tag htag => ⟨_, rfl, ?_⟩,
    fun ld hld => ⟨_, rfl, ?_⟩⟩ <;> rw [if_pos hcond] <;> dsimp only
  · exact State.linkError_usp hv (s.countPort_hears hp 0x017 {} 1) 1
  · exact State.linkError_usp hv (s.countPort_hears hp 0x016 {} n) (2 ^ 12)
  · exact (s.get_put_self .portDevload p.val 0 l.val).trans (Nat.mod_eq_of_lt l.isLt)
  · rw [if_neg (by simpa using hm)]
    rfl
  · rw [if_neg]
    simpa using htag
  · rw [hld]
    rfl

/-! ### Power controllers and DPC -/

theorem powerControllers_move (v : Vcs) (b : VppbNo) (hkind : s.get .vppbKind v.val b.val ≠ 0) :
    (s.get .vppbHp v.val b.val = 3 ∨ s.get .vppbHp v.val b.val = 6 → Leads (.powerControllerOff v b) s (fun t =>
      t.get .vppbHp v.val b.val = 2 ∧ (t.vppb v.val b.val).powerOff = true ∧ t.sent (.hotPlug v.val b.val))) ∧
    (s.get .vppbHp v.val b.val = 4 → Leads (.powerControllerOff v b) s (fun t =>
      t.get .vppbHp v.val b.val = 0 ∧ t.get .vppbKind v.val b.val = 0)) ∧
    (s.get .vppbHp v.val b.val = 2 → Leads (.powerControllerOn v b) s (fun t => t.get .vppbHp v.val b.val = 3 ∧
      (t.vppb v.val b.val).powerOff = false ∧ (t.vppb v.val b.val).linkActive = true ∧ t.sent (.hotPlug v.val b.val))) := by
  refine ⟨fun h => ⟨_, rfl, ?_⟩, fun h => ⟨_, rfl, ?_⟩, fun h => ⟨_, rfl, ?_⟩⟩
  · rw [if_neg hkind, if_pos (by simpa using h)]
    dsimp only
    rw [State.emit_get, State.emit_vppb, State.vppb_modVppb_self]
    refine ⟨State.get_put_self _ .vppbHp v.val b.val 2, ?_, State.emit_sent _ _ rfl⟩
    exact congrArg VppbState.powerOff (State.vppb_modVppb_self s v.val b.val (fun x => { x with powerOff := true }))
  · rw [if_neg hkind, if_neg (by simp [h]), if_pos h]
    exact State.unbindLater_reads _ (Nat.lt_trans v.isLt (by decide)) (Nat.lt_trans b.isLt (by decide))
  · rw [if_pos (by simp [hkind, h])]
    dsimp only
    rw [State.emit_get, State.emit_vppb, State.vppb_modVppb_self]
    refine ⟨State.get_put_self _ .vppbHp v.val b.val 3, ?_, rfl, State.emit_sent _ _ rfl⟩
    exact congrArg VppbState.powerOff (State.vppb_modVppb_self s v.val b.val (fun x => { x with powerOff := false }))

theorem State.startDetect_vppbs (p : Nat) : (s.startDetect p).vppbs = s.vppbs := by
  unfold State.startDetect State.chooseBands
  dsimp only
  split
  · exact foldl_keeps (p := State.vppbs) (by intro _ _; rfl) _ (s.put .portLink p 0 (s.restLink p))
  · rfl

theorem State.releasePort_vppbs (p : Nat) (f : Containment → Containment) : (s.releasePort p f).vppbs = s.vppbs := by
  unfold State.releasePort
  dsimp only
  split
  · exact State.startDetect_vppbs _ p
  · rfl

theorem dpcTriggerClear_clears (v : Vcs) (b : VppbNo) : Leads (.dpcTriggerClear v b) s (fun t => (t.vppb v.val b.val).dpcStatus = false ∧
    (t.vppb v.val b.val).dpcReason = 0 ∧ vppbKey v.val b.val ∉ (t.port (s.get .vppbPort v.val b.val)).contained.dpc) := by
  refine ⟨_, rfl, ?_⟩
  generalize hs1 : s.modVppb v.val b.val (fun x => { x with dpcStatus := false, dpcReason := 0 }) = s1
  have hvppb : (s1.vppb v.val b.val).dpcStatus = false ∧ (s1.vppb v.val b.val).dpcReason = 0 := by
    rw [← hs1, State.vppb_modVppb_self]
    exact ⟨rfl, rfl⟩
  have hport : ∀ q, s1.port q = s.port q := by
    rw [← hs1]
    exact fun _ => rfl
  generalize s.get .vppbPort v.val b.val = p
  split
  next h =>
    obtain ⟨hcont, -⟩ := s1.releasePort_reads p (fun c => { c with dpc := c.dpc.filter (· != vppbKey v.val b.val) })
    have hsame := s1.releasePort_vppbs p (fun c => { c with dpc := c.dpc.filter (· != vppbKey v.val b.val) })
    have hread : ∀ t : State, t.vppbs = s1.vppbs → t.vppb v.val b.val = s1.vppb v.val b.val := fun t h =>
      congrArg (fun l => Tab.get ({} : VppbState) l (vppbKey v.val b.val)) h
    rw [hread _ hsame, hcont]
    refine ⟨hvppb.1, hvppb.2, fun hmem => ?_⟩
    obtain ⟨-, hne⟩ := List.mem_filter.1 hmem
    exact absurd hne (by simp)
  next h =>
    refine ⟨hvppb.1, hvppb.2, fun hmem => h ?_⟩
    rw [hport] at hmem
    exact List.contains_iff_mem.2 hmem

/-! ### IDE -/

/-- The slot of a stream follows the streams of a port. -/
theorem PortState.slotFor_congr {x y : PortState} (h : x.streams = y.streams) (kind : IdeKind) (id : Nat) : x.slotFor kind id = y.slotFor kind id := by
  unfold PortState.slotFor
  rw [h]

theorem PortState.streamEnds_streams {x y : PortState} (h : x.streams = y.streams) (kind : IdeKind) (id : Nat) (secure : Bool) :
    (x.streamEnds kind id secure).streams = (y.streamEnds kind id secure).streams := by
  unfold PortState.streamEnds
  rw [PortState.slotFor_congr h]
  split
  · exact congrArg (fun l => Tab.set l _ _) h
  · exact h

theorem PortState.streamEnds_at {x : PortState} {kind : IdeKind} {id i : Nat} (h : x.slotFor kind id = some i) (secure : Bool) :
    Tab.get {} (x.streamEnds kind id secure).streams i = { id := id, kind := kind, keys := 0, secure := secure, restore := false } := by
  unfold PortState.streamEnds
  rw [h]
  exact Tab.get_set_self ..

/-- The record of a port after an establishment (R557). -/
def PortState.established (x : PortState) (id : Nat) (now : Bool) : PortState :=
  if x.cachemem then ({ x with ideJob := none } : PortState).streamEnds .link id now |>.streamEnds .cachememContainment id now
  else ({ x with ideJob := none } : PortState).streamEnds .link id now

/-- The record of a port that goes on with a stream to bring back (R558). -/
def PortState.restored (x : PortState) : PortState :=
  match x.streams.find? (fun e => e.2.restore && !e.2.secure) with
  | some e => { x with ideJob := some (1, e.2.id, 0x2000) }
  | none => x

theorem PortState.restored_streams (x : PortState) : x.restored.streams = x.streams := by
  unfold PortState.restored
  split <;> rfl

theorem execIdeKmDone_establishes {p : Port} {id ev : Nat} (secure : Bool) (h : (s.port p.val).ideJob = some (1, id, ev)) {post : State → Prop}
    (hpost : ∀ t : State, (t.port p.val).streams = ((s.port p.val).established id (secure && s.ideOffered)).streams → post t) :
    Leads (.ideKmDone p secure) s post := by
  refine ⟨_, rfl, hpost _ ?_⟩
  rw [h]
  dsimp only
  generalize hs1 : s.modPort p.val _ = s1
  have hport1 : s1.port p.val = (s.port p.val).established id (secure && s.ideOffered) := by
    rw [← hs1, State.port_modPort_self, if_neg (by decide)]
    rfl
  generalize hs2 : s1.modPort p.val _ = s2
  have hport2 : s2.port p.val = (s1.port p.val).restored := by
    rw [← hs2, State.port_modPort_self]
    rfl
  have hraise : (s2.raiseVector ev (some 0)).port p.val = s2.port p.val := (congrArg (fun t : State => t.port p.val) (s2.raiseVector_still ev (some 0)) :)
  rw [hraise, hport2, PortState.restored_streams, hport1]

theorem ideKmRequest_answers {v : Vcs} {st : Fin 8} {p : Nat} (hu : s.uspPort v.val = some p) (hup : s.portUp p = true) (hrole : (s.port p).role = .upstream) :
    let x := Tab.get ({} : IdeStream) (s.port p).streams st.val
    let holds : IdeStream → Nat → State → Prop := fun y m t => Tab.get {} (t.port p).streams st.val = y ∧ t.sent (.ideMessage p m)
    Leads (.ideKmRequest v st .query) s (holds x 0) ∧
    (∀ kind, Leads (.ideKmRequest v st (.keyProg kind)) s (holds { x with id := st.val, kind := kind, keys := x.keys + 1 } 1)) ∧
    (0 < x.keys → s.ideOffered = true → Leads (.ideKmRequest v st .keySetGo) s (holds { x with secure := true } 2)) ∧
    Leads (.ideKmRequest v st .keySetStop) s (holds { x with secure := false, keys := 0 } 3) := by
  dsimp only
  have hcond : (s.portUp p && (s.port p).role == Role.upstream) = true := by simp [hup, hrole]
  have hput : ∀ (y : IdeStream) (m : Nat), Tab.get {} (((s.modPort p (fun z => { z with streams := Tab.set z.streams st.val y })).emit (.ideMessage p m)).port p).streams
      st.val = y := by
    intro y m
    rw [State.emit_port, State.port_modPort_self]
    exact Tab.get_set_self ..
  refine ⟨⟨_, rfl, ?_⟩, fun kind => ⟨_, rfl, ?_⟩, fun hkeys hoffer => ⟨_, rfl, ?_⟩, ⟨_, rfl, ?_⟩⟩ <;> rw [hu] <;> dsimp only <;> rw [if_pos hcond]
  · exact ⟨by rw [State.emit_port], s.emit_sent _ rfl⟩
  · exact ⟨hput _ 1, State.emit_sent _ _ rfl⟩
  · rw [if_pos (by simp [hkeys, hoffer])]
    exact ⟨hput _ 2, State.emit_sent _ _ rfl⟩
  · exact ⟨hput _ 3, State.emit_sent _ _ rfl⟩

end

/-- Settles O38. -/
theorem flitsAndVppbs : Obligations.FlitsAndVppbs := by
  unfold Obligations.FlitsAndVppbs
  refine ⟨flitReceive_brings, fun s => ⟨fun v b hkind => powerControllers_move s v b hkind, dpcTriggerClear_clears s, ?_, ?_, ?_⟩⟩
  · intro p id ev i secure hjob hslot
    dsimp only
    refine ⟨fun hmem => execIdeKmDone_establishes s secure hjob fun t ht => ?_, fun j hmem hj => execIdeKmDone_establishes s secure hjob fun t ht => ?_⟩
    · rw [ht, PortState.established, if_neg (by simp [hmem])]
      have hslot' : ({ s.port p.val with ideJob := none } : PortState).slotFor .link id = some i := hslot
      exact PortState.streamEnds_at hslot' _
    · rw [ht, PortState.established, if_pos hmem]
      have hstreams := PortState.streamEnds_streams (x := { s.port p.val with ideJob := none }) (y := s.port p.val) rfl .link id (secure && s.ideOffered)
      exact PortState.streamEnds_at ((PortState.slotFor_congr hstreams _ _).trans hj) _
  · intro p st hsecure hrole hjob
    refine ⟨_, rfl, ?_⟩
    rw [if_pos (by simp [hsecure, hrole, hjob])]
  · exact fun v st p hu hup hrole => ideKmRequest_answers s hu hup hrole

end Sys2Proof.Machine
end

section
/-! PROOFS. A step is the front command on the queue's rest, and an idle step is one tick of the timebase (R405, R608). -/

namespace Sys2Proof.Machine

section
variable (s : State)

/-! ### The timebase -/

theorem State.ftb_of_offLink {s t : State} (h : t.offLink = s.offLink) : t.ftb = s.ftb := (congrArg (fun o : OffLink => o.rest.ftb) h :)

theorem State.count_ftb (u ev : Nat) (a : EventAttrs) (n : Nat) : (s.count u ev a n).ftb = s.ftb := State.ftb_of_offLink (s.count_offLink u ev a n)

theorem State.tick_ftb : s.tick.ftb = s.ftb + 1 := by
  unfold State.tick
  exact foldl_keeps (p := State.ftb) (fun t u => by split <;> rfl) _ _

theorem State.cellTicks_ftb : s.cellTicks.ftb = s.ftb := by
  unfold State.cellTicks
  split
  · refine foldl_keeps (p := State.ftb) (fun t q => ?_) _ s
    split
    · rfl
    · exact t.count_ftb ..
  · rfl

theorem State.flushRecords_ftb (t n : Nat) : (s.flushRecords t n).ftb = s.ftb := by
  induction n generalizing s with
  | zero => rfl
  | succ n ih =>
    unfold State.flushRecords
    split
    · rfl
    · exact (ih _).trans rfl

theorem State.recordsDue_ftb : s.recordsDue.ftb = s.ftb :=
  foldl_keeps (p := State.ftb) (fun s t => s.flushRecords_ftb t _) _ s

theorem State.portSlots_ftb (p : Nat) : (s.portSlots p).ftb = s.ftb := by
  unfold State.portSlots
  dsimp only
  split
  · split
    · rfl
    · exact foldl_keeps (p := State.ftb) (fun s e => s.count_ftb ..) _ s
  · rfl

theorem State.allLinksDown_ftb : s.allLinksDown.ftb = s.ftb := by
  refine foldl_keeps (p := State.ftb) (fun s p => ?_) _ s
  split
  · exact (congrArg State.ftb (s.linkDownTo_aside p 0) :)
  · rfl

theorem State.writeBackAll_ftb : s.writeBackAll.ftb = s.ftb := by
  refine foldl_keeps (p := State.ftb) (fun s e => State.ftb_of_offLink ?_) _ s
  exact (linkView.memWriteEnd _ e.1 true).trans (linkView.memWrite s ..)

/-- Driving the PERST pins changes the slots alone. -/
theorem State.drivePersts_keep {α : Type} {p : State → α} (h : ∀ s n, p (State.drivePerst s n) = p s) (l : List Nat) :
    p (l.foldl (fun s n => s.drivePerst n) s) = p s := foldl_keeps h l s

theorem State.warmCleared_ftb (rounds : Nat) (step : PowerStep) : (s.warmCleared rounds step).ftb = s.ftb :=
  State.drivePersts_keep _ (p := State.ftb) (fun _ _ => rfl) _

theorem State.logReset_ftb (type trigger lost : Nat) : (s.logReset type trigger lost).ftb = s.ftb := rfl

theorem State.warmGoesOn_ftb : s.warmGoesOn.ftb = s.ftb := by
  unfold State.warmGoesOn State.controlledWarm
  split
  · exact (State.warmCleared_ftb _ 0 .run).trans ((State.logReset_ftb _ 1 0 _).trans ((State.allLinksDown_ftb _).trans s.writeBackAll_ftb))
  · rfl

theorem State.waysideIdle_ftb : s.waysideIdle.ftb = s.ftb := by
  unfold State.waysideIdle
  split
  · rfl
  · exact State.emit_ftb _ _

theorem State.pass_ftb : s.pass.ftb = s.ftb + 1 := by
  unfold State.pass
  refine (State.waysideIdle_ftb _).trans ((State.warmGoesOn_ftb _).trans ((foldl_keeps (fun s p => s.portSlots_ftb p) _ _).trans ?_))
  exact (State.recordsDue_ftb _).trans ((State.cellTicks_ftb _).trans s.tick_ftb)

/-! ### Records that are not due -/

/-- No tenant has records that are due by a tick. -/
def State.recordsRest (s : State) (n : Nat) : Prop := ∀ e ∈ s.tenants, e.2.pendingRecords = [] ∨ n < e.2.recordDue

variable {s} {n : Nat}

theorem State.recordsRest_of_tenants {t : State} (h : t.tenants = s.tenants) (hs : s.recordsRest n) : t.recordsRest n := by
  unfold State.recordsRest
  rw [h]
  exact hs

theorem Tab.get_mem_or {α : Type} (d : α) (t : Tab α) (k : Nat) : Tab.get d t k = d ∨ ∃ e ∈ t, e.2 = Tab.get d t k := by
  rw [Tab.get_eq_find]
  cases h : Tab.find t k with
  | none => exact .inl rfl
  | some v => exact .inr ⟨(k, v), Tab.mem_of_find h, rfl⟩

/-- A change of a tenant that leaves its records alone leaves none due. -/
theorem State.modTenant_recordsRest (hs : s.recordsRest n) (k : Nat) {f : TenantState → TenantState}
    (hf : ∀ x, (f x).pendingRecords = x.pendingRecords ∧ (f x).recordDue = x.recordDue) : (s.modTenant k f).recordsRest n := by
  intro e he
  obtain rfl | he := Tab.mem_set he
  · dsimp only
    rw [(hf _).1, (hf _).2]
    obtain h | ⟨e, he, h⟩ := Tab.get_mem_or ({} : TenantState) s.tenants k
    · rw [h]
      exact .inl rfl
    · rw [← h]
      exact hs e he
  · exact hs e he

theorem State.raiseVector_recordsRest (hs : s.recordsRest n) (v : Nat) (owner : Option Nat) : (s.raiseVector v owner).recordsRest n := by
  have hmsi : ∀ (u : State) (t : Nat), (u.eventMsi t).tenants = u.tenants := by
    intro u t
    unfold State.eventMsi
    dsimp only
    rw [apply_ite State.tenants]
    cases u.msiPort t with
    | none => exact ite_self _
    | some p => exact (congrArg (ite _ · _) (State.emit_tenants _ _)).trans (ite_self _)
  have hput : (s.devicePut .eventPending v 0 1).tenants = s.tenants := by
    unfold State.devicePut
    split <;> rfl
  unfold State.raiseVector
  dsimp only
  repeat' split
  · exact hs
  · exact State.recordsRest_of_tenants ((hmsi _ _).trans hput) hs
  · exact State.recordsRest_of_tenants hput hs
  · exact State.modTenant_recordsRest (State.recordsRest_of_tenants rfl hs) _ (fun _ => ⟨rfl, rfl⟩)
  · exact State.recordsRest_of_tenants rfl hs
  · exact State.recordsRest_of_tenants rfl hs

theorem State.addUnit_recordsRest (hs : s.recordsRest n) (u i m : Nat) : (s.addUnit u i m).recordsRest n := by
  unfold State.addUnit
  dsimp only
  split
  · exact hs
  · exact State.raiseVector_recordsRest (s := (s.put .unitctrValue u i _).put .unitctrOvf u i 1) hs _ _

theorem State.unitSees_recordsRest (hs : s.recordsRest n) (u ev m : Nat) (a : EventAttrs) (i : Nat) : (s.unitSees u ev m a i).recordsRest n :=
  iteInduction (motive := fun t : State => t.recordsRest n) (fun _ => State.addUnit_recordsRest hs u i m) (fun _ => hs)

theorem State.addCounter_recordsRest (hs : s.recordsRest n) (i m : Nat) : (s.addCounter i m).recordsRest n := by
  unfold State.addCounter
  dsimp only
  split
  · exact hs
  · exact State.raiseVector_recordsRest (s := (s.put .counterValue i 0 _).put .counterOvf i 0 1) hs _ _

theorem State.counterSees_recordsRest (hs : s.recordsRest n) (ev m : Nat) (a : EventAttrs) (i : Nat) : (s.counterSees ev m a i).recordsRest n :=
  iteInduction (motive := fun t : State => t.recordsRest n) (fun _ => State.addCounter_recordsRest hs i m) (fun _ => hs)

theorem State.count_recordsRest (hs : s.recordsRest n) (u ev : Nat) (a : EventAttrs) (m : Nat) : (s.count u ev a m).recordsRest n := by
  unfold State.count
  dsimp only
  generalize hu : (if s.unitCounts u then (List.range 8).foldl (fun s i => s.unitSees u ev m a i) s else s) = t
  have ht : t.recordsRest n := by
    rw [← hu]
    split
    · exact List.foldlRecOn (motive := fun t : State => t.recordsRest n) _ _ hs fun t ht i _ => State.unitSees_recordsRest ht u ev m a i
    · exact hs
  split
  · split
    · exact List.foldlRecOn (motive := fun t : State => t.recordsRest n) _ _ ht fun t ht i _ => State.counterSees_recordsRest ht _ m a i
    · exact ht
  · exact ht

theorem State.recordsDue_rest (hs : s.recordsRest s.ftb) : s.recordsDue = s := by
  have hnone : s.tenants.filter (fun e => !e.2.pendingRecords.isEmpty && decide (e.2.recordDue ≤ s.ftb)) = [] := by
    refine List.filter_eq_nil_iff.2 fun e he => ?_
    obtain h | h := hs e he
    · simp [h]
    · simp [Nat.not_le.2 h]
  unfold State.recordsDue
  rw [hnone]
  rfl

theorem State.cellTicks_recordsRest (hs : s.recordsRest n) : s.cellTicks.recordsRest n := by
  unfold State.cellTicks
  split
  · refine List.foldlRecOn (motive := fun t : State => t.recordsRest n) _ _ hs fun t ht q _ => ?_
    split
    · exact ht
    · exact State.count_recordsRest ht _ _ _ _
  · exact hs

theorem State.pool_of_mems {t : State} (h : t.mems = s.mems) : t.pool = s.pool := congrArg Prod.fst h

theorem State.warmCleared_pool (rounds : Nat) (step : PowerStep) : (s.warmCleared rounds step).pool = s.pool :=
  State.drivePersts_keep _ (p := State.pool) (fun _ _ => rfl) _

theorem State.warmGoesOn_pool : s.warmGoesOn.pool = s.pool := by
  unfold State.warmGoesOn State.controlledWarm
  split
  · refine (State.warmCleared_pool 0 .run).trans (State.pool_of_mems ?_)
    exact (State.logReset_mems _ 1 0 _).trans ((State.allLinksDown_mems _).trans s.writeBackAll_mems)
  · rfl

theorem State.pass_pool (hs : s.recordsRest (s.ftb + 1)) : s.pass.pool = s.pool := by
  have htick : s.tick.recordsRest (s.ftb + 1) := by
    refine State.recordsRest_of_tenants ?_ hs
    unfold State.tick
    exact foldl_keeps (p := State.tenants) (fun t u => by split <;> rfl) _ _
  have hdue : s.tick.cellTicks.recordsDue = s.tick.cellTicks := State.recordsDue_rest (by
    rw [State.cellTicks_ftb, State.tick_ftb]
    exact State.cellTicks_recordsRest htick)
  unfold State.pass
  dsimp only
  rw [hdue]
  refine (State.pool_of_mems (State.waysideIdle_mems _)).trans (State.warmGoesOn_pool.trans ?_)
  exact (foldl_keeps (fun s p => State.pool_of_mems (s.portSlots_mems p)) _ _).trans
    ((State.pool_of_mems (State.cellTicks_mems _)).trans (State.pool_of_mems s.tick_mems))

end

/-- Settles O53. -/
theorem stepTakesTheFront : Obligations.StepTakesTheFront := by
  unfold Obligations.StepTakesTheFront
  refine ⟨fun c rest s h => ?_, fun s h => ⟨s.pass, ?_, s.pass_ftb, ?_, ?_, State.pass_pool⟩⟩
  · rw [step, h]
  · rw [step, h]
  · exact (State.pending_of_fixed s.pass_fixed).trans h
  · exact State.otp_of_fixed s.pass_fixed

end Sys2Proof.Machine
end

section
/-! PROOFS. Resets below a cold one, fatal actions, the rejoin of a station and the error log (R600, R604, R606, R608 to R610, R633). -/

namespace Sys2Proof.Machine

/-! ### What the end of a queued order leaves alone -/

/-- A state without what messages, counters and the replies of orders change. -/
def State.aloof (s : State) : State :=
  { s.still with
    ord := {}
    ledger := { s.ledger with replayLog := [] }
    boot := { s.boot with replayFail := 0 }
    power := { s.power with waysideOut := [] } }

section
variable (s : State)

theorem State.aloof_of_still {s t : State} (h : t.still = s.still) : t.aloof = s.aloof := (congrArg State.aloof h :)

theorem State.deliver_aloof (o : Order) (status ticks queued : Nat) (data : List Byte) : (s.deliver o status ticks queued data).aloof = s.aloof := by
  unfold State.deliver
  dsimp only
  split
  case h_1 =>
    unfold State.mailboxAnswer
    dsimp only
    split
    · exact (State.aloof_of_still (State.emit_still _ _)).trans rfl
    · rfl
  case h_2 => rfl
  case h_3 => exact State.aloof_of_still (State.emit_still _ _)
  case h_4 => exact State.aloof_of_still (State.emit_still _ _)
  case h_5 => rfl
  case h_6 =>
    unfold State.windowAnswer
    dsimp only
    split
    · exact (State.aloof_of_still (State.raiseVector_still _ _ _)).trans rfl
    · rfl
  case h_7 => split <;> rfl

theorem State.endQueued_aloof (o : Order) (st : Status) : (s.endQueued o st).aloof = s.aloof := by
  have hunfreeze : (s.unfreeze o).aloof = s.aloof := by
    unfold State.unfreeze
    split
    · split <;> rfl
    · rfl
  exact (State.aloof_of_still (State.count_still ..)).trans ((State.deliver_aloof _ o st.word 0 _ []).trans hunfreeze)

/-! ### Halting after a fatal error (R600) -/

/-- The Turntable's run, and what FATAL_ACT 1 leaves. -/
def State.haltPart (s : State) : Bool × Bool × Option Nat := (s.sw.running, s.power.haltAfterFatal, s.power.fatalAt)

theorem State.containPort_haltPart (p trigger : Nat) (f : Containment → Containment) : (s.containPort p trigger f).haltPart = s.haltPart := by
  have haside : ∀ {t u : State}, t.aside = u.aside → t.haltPart = u.haltPart := fun h => (congrArg State.haltPart h :)
  unfold State.containPort
  dsimp only
  split
  · rfl
  · generalize hs1 : s.modPort p (fun x => { x with contained := f x.contained }) = s1
    generalize (if trigger = 2 then 1 else 2) = r
    have hd : (s1.dpcTrigger p r).haltPart = s1.haltPart := foldl_keeps (p := State.haltPart) (by intro _ _; rfl) _ s1
    have hc := State.contain_offLink ((s1.dpcTrigger p r).linkDownTo p 12) { code := 0x0304, place := p, detail := [trigger, s.get .portLink p] }
    refine (haside (congrArg OffLink.rest hc)).trans ((haside (State.linkDownTo_aside _ p 12)).trans (hd.trans ?_))
    rw [← hs1]
    rfl

theorem State.endQueued_haltPart (o : Order) (st : Status) : (s.endQueued o st).haltPart = s.haltPart :=
  (congrArg State.haltPart (s.endQueued_aloof o st) :)

theorem State.halt_reads : s.halt.haltPart = (false, true, none) := by
  unfold State.halt
  dsimp only
  refine (foldl_keeps (p := State.haltPart) (fun t o => t.endQueued_haltPart o .busy) _ _).trans ?_
  refine Eq.trans ?_ (foldl_keeps (p := State.haltPart) (fun t p => t.containPort_haltPart p 3 (fun x => { x with ctl := true }))
    s.livePorts ((s.modSw (fun w => { w with running := false })).modPower (fun p => { p with haltAfterFatal := true, fatalAt := none })))
  rfl

/-! ### Warm resets (R606 to R608) -/

/-- What an abrupt warm reset leaves: everything below OTP, the straps and the slots is at its after-reset value. -/
structure WarmStart (s t : State) : Prop where
  stopped : t.sw.running = false
  phase : t.boot.phase = 0
  warm : t.boot.cold = false
  fatal : t.power.fatalAt = none
  dir : t.coh.dir = []
  cores : t.lev.cores = []
  otp : t.otp = s.otp
  straps : t.straps = s.straps

/-- What a warm reset decides of a state. -/
def State.warmPart (s : State) : Bool × Boot × Option Nat × Tab DirEntry × Tab CoreState × Otp × Straps :=
  (s.sw.running, s.boot, s.power.fatalAt, s.coh.dir, s.lev.cores, s.otp, s.straps)

theorem State.warmCleared_warmPart : (s.warmCleared 0 .run).warmPart = (false, s.boot.fresh, none, [], [], s.otp, s.straps) :=
  State.drivePersts_keep _ (p := State.warmPart) (fun _ _ => rfl) _

theorem State.abruptWarm_starts (h : s.deepReset = false) (trigger : Nat) : WarmStart s (s.abruptWarm trigger) := by
  unfold State.abruptWarm
  rw [if_neg (by simp [h])]
  have hpart := (s.logReset 2 trigger s.dirtyLines).warmCleared_warmPart
  simp only [State.warmPart, Prod.mk.injEq] at hpart
  obtain ⟨hrun, hboot, hfatal, hdir, hcores, hotp, hstraps⟩ := hpart
  exact ⟨hrun, by rw [hboot]; rfl, by rw [hboot]; rfl, hfatal, hdir, hcores, hotp, hstraps⟩

/-! ### Fatal errors -/

/-- A fatal error: its action follows after 1 ms, unless one waits already (R600). -/
theorem State.fatal_reads (code unit : Nat) (ofMc : Bool) (detail : List Nat) :
    (s.power.fatalAt = none → (s.fatal code unit ofMc detail).power.fatalAt = some (s.ftb + 1000000)) ∧
    (s.fatal code unit ofMc detail).power.fatalIsMc = (s.power.fatalIsMc || ofMc) ∧ (s.fatal code unit ofMc detail).power.step = s.power.step ∧
    (s.fatal code unit ofMc detail).otp = s.otp := by
  unfold State.fatal
  dsimp only
  generalize hs1 : State.raiseT0 _ .deviceErrEv = s1
  have h1 : s1.power = s.power ∧ s1.otp = s.otp ∧ s1.ftb = s.ftb := by
    have hoff := linkView.raiseT0 (s.logError 3 s.ftb 1 { code := code, unit := unit, kind := if unit = 0xFFFF then 0 else kindCode unit, detail := detail }) .deviceErrEv 0
    rw [hs1] at hoff
    exact ⟨(congrArg (fun o : OffLink => o.rest.power) hoff :), (congrArg (fun o : OffLink => o.rest.otp) hoff :), (congrArg (fun o : OffLink => o.rest.ftb) hoff :)⟩
  generalize hs2 : List.foldl _ s1 (List.range 128) = s2
  have h2 : s2.offLink = s1.offLink := by
    rw [← hs2]
    refine foldl_keeps (p := State.offLink) (fun t v => ?_) _ s1
    split
    · exact linkView.uspReport t v true aerInternal
    · rfl
  have hpower : s2.power = s.power := (congrArg (fun o : OffLink => o.rest.power) h2 :).trans h1.1
  have hotp : s2.otp = s.otp := (congrArg (fun o : OffLink => o.rest.otp) h2 :).trans h1.2.1
  have hftb : s2.ftb = s.ftb := (State.ftb_of_offLink h2).trans h1.2.2
  refine ⟨fun hnone => ?_, ?_, ?_, hotp⟩ <;> simp only [State.modPower, hpower, hftb]
  rw [hnone]

/-! ### The rejoin of a station, and the Lever's reload -/

theorem State.startDetect_stations (p : Nat) : (s.startDetect p).stations = s.stations := by
  unfold State.startDetect State.chooseBands
  dsimp only
  split
  · exact foldl_keeps (p := State.stations) (by intro _ _; rfl) _ (s.put .portLink p 0 (s.restLink p))
  · rfl

theorem State.detectPorts_stations (n : Nat) : (s.detectPorts n).stations = s.stations := by
  refine foldl_keeps (p := State.stations) (fun t p => ?_) _ s
  split
  · rfl
  · exact t.startDetect_stations p

theorem execStationRejoin_rejoins {st : Station} (h : (s.station st.val).resetting = true) (hgroup : s.stationGroup st.val = [st.val]) :
    Leads (.stationRejoin st) s (fun t => (t.station st.val).resetting = false) := by
  refine ⟨_, rfl, ?_⟩
  rw [if_pos h, hgroup]
  dsimp only
  generalize hu : [st.val].foldl (fun s m => s.modStation m (fun x => { x with resetting := false, dark := false })) s = u
  have hread : (u.station st.val).resetting = false := by
    rw [← hu]
    exact congrArg StationState.resetting (State.station_modStation_self s st.val _)
  have hkeep : ([st.val].foldl (fun s m => s.detectPorts m) u).stations = u.stations := u.detectPorts_stations st.val
  exact (congrArg (fun l => (Tab.get ({} : StationState) l st.val).resetting) hkeep).trans hread

theorem execLeverReloadDone_resumes (h : s.lev.reloading = true) (hsame : s.boot.sectionBytes s.boot.bank [3, 4, 5, 6] = s.boot.image.leverBytes) :
    Leads .leverReloadDone s (fun t => t.lev.reloading = false ∧ t.ord.noStart = false) := by
  refine ⟨_, rfl, ?_⟩
  rw [if_pos h, hsame, if_pos (beq_self_eq_true _)]
  dsimp only
  have hkeep : ∀ u : State, (u.startResidents.lev.reloading, u.startResidents.ord.noStart) = (u.lev.reloading, u.ord.noStart) := fun u =>
    foldl_keeps (f := State.startResident) (p := fun v : State => (v.lev.reloading, v.ord.noStart)) (fun _ _ => rfl) _ u
  have h := hkeep ({ s.installImage s.boot.bank with lev := { (s.installImage s.boot.bank).lev with reloading := false } }.modOrd (fun q => { q with noStart := false }))
  exact Prod.mk.inj h

/-! ### The error log (R604) -/

theorem execCorrectedSummary_clears (h : s.errors.corrected ≠ []) : Leads .correctedSummary s (fun t => t.errors.corrected = []) := by
  refine ⟨_, rfl, ?_⟩
  rw [if_neg (by simpa using h)]
  exact (congrArg (fun u : State => u.errors.corrected) (State.raiseVector_still ..) :)

theorem execContainedWindowEnd_writes {code place : Nat} {w : ErrorWindow}
    (h : s.errors.windows.find? (fun w => w.code == code && w.place == place) = some w) (hdue : w.opened + 10000000 ≤ s.ftb) :
    Leads (.containedWindowEnd code place) s (fun t => t.ledger.errorSeq = s.ledger.errorSeq + 1 ∧
      t.errors.windows.find? (fun w => w.code == code && w.place == place) = none) := by
  refine ⟨_, rfl, ?_⟩
  rw [h]
  dsimp only
  rw [if_pos hdue]
  refine ⟨rfl, List.find?_eq_none.2 fun x hx => ?_⟩
  obtain ⟨-, hno⟩ := List.mem_filter.1 hx
  rw [Bool.not_eq_true'] at hno
  exact Bool.not_eq_true _ ▸ hno

/-- Settles O34. -/
theorem resetsAndErrors : Obligations.ResetsAndErrors := by
  unfold Obligations.ResetsAndErrors
  intro s
  refine ⟨execLeverReloadDone_resumes s, fun st h hgroup => execStationRejoin_rejoins s h hgroup, fun hdeep f d hnone => ⟨_, rfl, ?_⟩,
    fun n hn hdue hmc => ⟨fun hact => ⟨_, rfl, ?_⟩, fun hact hdeep => ⟨_, rfl, ?_⟩⟩, fun hdeep pc => ⟨_, rfl, ?_⟩, execCorrectedSummary_clears s,
    fun code place w h hdue => execContainedWindowEnd_writes s h hdue, ⟨_, rfl, rfl⟩, ⟨_, rfl, rfl⟩⟩
  · rw [if_neg (by simp [hdeep])]
    obtain ⟨hat, hismc, -⟩ := s.fatal_reads (fatalNumber f).1 0xFFFF (fatalNumber f).2 [d]
    exact ⟨hat hnone, hismc⟩
  · rw [hn]
    dsimp only
    rw [if_pos hdue, if_pos (by simp [hact, hmc])]
    have h := s.halt_reads
    simp only [State.haltPart, Prod.mk.injEq] at h
    exact h
  · rw [hn]
    dsimp only
    rw [if_pos hdue, if_neg (by simp [hact])]
    obtain ⟨hrun, hphase, -, hfatal, hdir, -, hotp, hstraps⟩ := s.abruptWarm_starts hdeep (if s.power.fatalIsMc then 2 else 1)
    exact ⟨hrun, hphase, hfatal, hdir, hotp, hstraps⟩
  · rw [if_neg (by simp [hdeep])]
    obtain ⟨-, -, hstep, hotp⟩ := s.fatal_reads 0x0802 0xFFFF true [pc]
    have hdeep' : (s.fatal 0x0802 0xFFFF true [pc]).deepReset = false := by
      rw [State.deepReset, hstep]
      exact hdeep
    obtain ⟨-, hphase, hwarm, -, hdir, hcores, hotp', -⟩ := (s.fatal 0x0802 0xFFFF true [pc]).abruptWarm_starts hdeep' 3
    exact ⟨hphase, hwarm, hcores, hdir, hotp'.trans hotp⟩

end

end Sys2Proof.Machine
end

section
/-! PROOFS. A cold reset and the boot phases (R115, R116, R122, R531, R532, R541 to R543, R561, R607). -/

namespace Sys2Proof.Machine

section
variable (s : State)

/-! ### The cold reset -/

/-- What the controllers' start leaves to the straps, OTP, the supplies, the boot and the Ledger. -/
def State.coldPart (s : State) : Straps × Otp × Nat × Boot × PowerStep × Nat :=
  (s.straps, s.otp, s.ftb, s.boot, s.power.step, s.ledger.epoch)

theorem State.raiseT0_coldPart (f : Fld) (i : Nat) : (s.raiseT0 f i).coldPart = s.coldPart :=
  (congrArg State.coldPart (s.raiseVector_still (s.get f i) (some 0)) :)

theorem State.setSlot_coldPart (n st : Nat) : (s.setSlot n st).coldPart = s.coldPart := by
  unfold State.setSlot
  dsimp only
  split
  · rfl
  · exact State.raiseT0_coldPart _ _ _

theorem State.coldSlot_coldPart (old : State) (n : Nat) : (s.coldSlot old n).coldPart = s.coldPart := by
  unfold State.coldSlot
  dsimp only
  split
  · exact State.setSlot_coldPart _ _ _
  · split <;> rfl

theorem State.coldStart_coldPart (x : Straps) (a b : Bool) : (s.coldStart x a b).coldPart =
    (x, s.otp, 0, { flash := s.boot.flash, preferred := s.boot.preferred, loadBank := s.boot.preferred, tapHold := s.boot.tapHold },
      .wake 4 0, nextEpoch s.ledger.epoch) :=
  foldl_keeps (p := State.coldPart) (fun t n => t.coldSlot_coldPart s n) _ _

/-! ### Phase 0 -/

theorem State.ledgerError_aside : s.ledgerError.aside = s.aside := (congrArg OffLink.rest (s.contain_offLink _) :)

/-- What phase 0 asks of the device: OTP, the straps, and whether this is a cold reset. -/
def State.romPart (s : State) : Otp × Straps × Bool := (s.otp, s.straps, s.boot.cold)

theorem State.readControl_romPart : s.readControl.romPart = s.romPart := by
  have herror : (if s.ledgerBad 0 28 || s.ledgerBad 2048 28 then s.ledgerError else s).romPart = s.romPart := by
    split
    · exact (congrArg State.romPart s.ledgerError_aside :)
    · rfl
  unfold State.readControl
  dsimp only
  split
  · split <;> exact herror
  · exact herror

theorem State.noteLifecycle_otp : s.noteLifecycle.otp = s.otp := by
  unfold State.noteLifecycle
  split <;> rfl

theorem State.deriveDevice_seals : s.deriveDevice.sec.udsOpen = false ∧ s.deriveDevice.otp = s.otp := by
  unfold State.deriveDevice
  dsimp only
  split <;> exact ⟨rfl, rfl⟩

theorem State.strapAbsent_of_romPart {t : State} (h : t.romPart = s.romPart) : t.strapAbsent = s.strapAbsent :=
  (congrArg (fun x : Otp × Straps × Bool => x.1.partH && decide (4 ≤ x.2.1.mp.val) && decide (x.2.1.mp.val ≤ 6)) h :)

theorem bootPhase0_ends (h : s.phaseReady 0 = true) (htap : s.boot.tapHold = false) (bad fuse : Bool) (r : List Byte) :
    (bad = true → Leads (.bootPhase0 bad fuse r) s (fun t => t.boot.phase = 0xF ∧ t.boot.error = 0x12 ∧ t.otp = s.otp)) ∧
    (bad = false → 4 ≤ s.otp.lifecycle →
      Leads (.bootPhase0 bad fuse r) s (fun t => t.boot.phase = 0xF ∧ t.boot.error = 0x11 ∧ t.otp = s.otp)) ∧
    (bad = false → s.otp.lifecycle < 4 → s.strapAbsent = true →
      Leads (.bootPhase0 bad fuse r) s (fun t => t.boot.phase = 0xF ∧ t.boot.error = 0x13 ∧ t.otp = s.otp)) ∧
    (bad = false → s.otp.lifecycle < 4 → s.strapAbsent = false →
      Leads (.bootPhase0 bad fuse r) s (fun t => t.boot.phase = 1 ∧ t.boot.step = .ready ∧ t.sec.udsOpen = false ∧
        (s.boot.cold = false → t.otp = s.otp))) := by
  have hread := s.readControl_romPart
  have hstrap := s.strapAbsent_of_romPart hread
  have hotp : s.readControl.otp = s.otp := congrArg Prod.fst hread
  have hcold : s.readControl.boot.cold = s.boot.cold := congrArg (fun x => x.2.2) hread
  have hgo : (s.phaseReady 0 && !s.boot.tapHold) = true := by rw [h, htap]; rfl
  refine ⟨fun hbad => ⟨_, rfl, ?_⟩, fun hbad hlc => ⟨_, rfl, ?_⟩, fun hbad hlc habsent => ⟨_, rfl, ?_⟩, fun hbad hlc habsent => ⟨_, rfl, ?_⟩⟩ <;>
    rw [if_pos hgo] <;> dsimp only <;> subst hbad
  · exact ⟨rfl, rfl, hotp⟩
  · rw [if_neg Bool.false_ne_true, hotp, if_pos hlc]
    exact ⟨rfl, rfl, hotp⟩
  · rw [if_neg Bool.false_ne_true, hotp, if_neg (Nat.not_le.2 hlc), hstrap, if_pos habsent]
    exact ⟨rfl, rfl, hotp⟩
  · rw [if_neg Bool.false_ne_true, hotp, if_neg (Nat.not_le.2 hlc), hstrap, if_neg (by simp [habsent]), hcold]
    obtain ⟨hsealed, hkept⟩ :=
      (if s.boot.cold then s.readControl.coldWork fuse r else s.readControl).noteLifecycle.deriveDevice_seals
    refine ⟨rfl, rfl, hsealed, fun hwarm => hkept.trans ((State.noteLifecycle_otp _).trans ?_)⟩
    rw [if_neg (by simp [hwarm])]
    exact hotp

/-! ### Phase 1 and the load -/

theorem bootPhase1_ends (h : s.phaseReady 1 = true) :
    Leads (.bootPhase1 false) s (fun t => t.boot.phase = 0xF ∧ t.boot.error = 0x10) ∧
    (∀ e, s.verifyBank s.firstBank = e →
      Leads (.bootPhase1 true) s (fun t =>
        (e = none → t.boot.phase = 1 ∧ t.boot.step = .working ∧ t.boot.loadBank = s.firstBank ∧ t.boot.fallback = false) ∧
        (∀ code, e = some code → t.boot.loadBank = 1 - s.firstBank ∧ t.boot.fallback = true ∧ t.boot.error = code ∨
          t.boot.phase = 0xF))) := by
  have hphase : s.boot.phase = 1 := by
    simp only [State.phaseReady, Bool.and_eq_true, beq_iff_eq] at h
    exact h.1.2
  refine ⟨⟨_, rfl, ?_⟩, fun e he => ⟨_, rfl, ?_⟩⟩ <;> rw [if_pos h]
  · exact ⟨rfl, rfl⟩
  · rw [if_neg (by decide), he]
    cases e with
    | none => exact ⟨fun _ => ⟨hphase, rfl, rfl, rfl⟩, fun _ hno => nomatch hno⟩
    | some code =>
      refine ⟨(nomatch ·), fun _ hsame => ?_⟩
      obtain rfl := Option.some.inj hsame
      dsimp only
      unfold State.tryOther
      dsimp only
      split
      · exact .inl ⟨rfl, rfl, rfl⟩
      · exact .inr rfl

theorem imageLoadDone_ends (hphase : s.boot.phase = 1) (hstep : s.boot.step = .working) :
    Leads (.imageLoadDone false) s (fun t => t.boot.phase = 2 ∧ t.boot.step = .ready ∧ t.boot.bank = s.boot.loadBank ∧
      t.boot.image = s.boot.readImage s.boot.loadBank) ∧
    (s.boot.fallback = true → Leads (.imageLoadDone true) s (fun t => t.boot.phase = 0xF ∧ t.boot.error = 0x06)) := by
  have hgo : (decide (s.boot.phase = 1) && decide (s.boot.step = .working)) = true := by simp [hphase, hstep]
  refine ⟨⟨_, rfl, ?_⟩, fun hfall => ⟨_, rfl, ?_⟩⟩ <;> rw [if_pos hgo]
  · exact ⟨rfl, rfl, rfl, rfl⟩
  · rw [if_pos rfl, if_pos hfall]
    exact ⟨rfl, rfl⟩

/-! ### Phase 2 -/

theorem State.mgmtPort_le {p : Nat} (h : s.mgmtPort = some p) : p ≤ 126 := by
  unfold State.mgmtPort at h
  split at h <;> simp at h <;> omega

theorem State.setUpManagement_gets {p : Nat} (h : s.mgmtPort = some p) :
    s.setUpManagement.get .portEnable p = 1 ∧ s.setUpManagement.get .portProto p = 1 ∧ s.setUpManagement.get .vcsEnable 0 = 1 ∧
      s.setUpManagement.get .vcsUsp 0 = p := by
  have hle := s.mgmtPort_le h
  have hp : p < 65536 := by omega
  have h0 : (0 : Nat) < 65536 := by decide
  unfold State.setUpManagement
  rw [h]
  dsimp only
  refine ⟨?_, ?_, ?_, ?_⟩
  · rw [State.get_devicePut, State.get_put_ne _ (by decide) _ h0 h0 hp h0, State.get_devicePut, State.get_put_ne _ (by decide) _ h0 h0 hp h0,
      State.get_devicePut, State.get_put_ne _ (by decide) _ hp h0 hp h0, State.get_devicePut, State.get_put_self]
    rfl
  · rw [State.get_devicePut, State.get_put_ne _ (by decide) _ h0 h0 hp h0, State.get_devicePut, State.get_put_ne _ (by decide) _ h0 h0 hp h0,
      State.get_devicePut, State.get_put_self]
    rfl
  · rw [State.get_devicePut, State.get_put_self]
    rfl
  · rw [State.get_devicePut, State.get_put_ne _ (by decide) _ h0 h0 h0 h0, State.get_devicePut, State.get_put_self]
    exact Nat.mod_eq_of_lt (Nat.lt_of_le_of_lt hle (by decide))

theorem State.deriveAlias_get (f : Fld) (i b : Nat) : s.deriveAlias.get f i b = s.get f i b := by
  unfold State.deriveAlias
  split <;> rfl

theorem State.startResidents_get (f : Fld) (i b : Nat) : s.startResidents.get f i b = s.get f i b :=
  foldl_keeps (f := State.startResident) (p := fun t => t.get f i b) (by intro _ _; rfl) _ s

theorem State.setUpManagement_otp : s.setUpManagement.otp = s.otp := by
  have hput : ∀ (t : State) (f : Fld) (i b v : Nat), (t.devicePut f i b v).otp = t.otp := fun t f i b v =>
    (congrArg State.otp (t.devicePut_still f i b v) :)
  unfold State.setUpManagement
  split
  · simp only [hput]
  · rfl

theorem State.deriveAlias_otp : s.deriveAlias.otp = s.otp := by
  unfold State.deriveAlias
  split <;> rfl

theorem State.startResidents_otp : s.startResidents.otp = s.otp :=
  foldl_keeps (f := State.startResident) (p := State.otp) (by intro _ _; rfl) _ s

/-- Every lane of some stations is being measured (R150). -/
def State.measureAll (s : State) (l : List Nat) : State := l.foldl (fun s n => s.modStation n (fun x => { x with measuring := 0xFF })) s

theorem State.measureAll_measures (l : List Nat) : ∀ n ∈ l, ((s.measureAll l).station n).measuring = 0xFF := by
  refine foldl_settles (R := fun _ => True) (P := fun n (t : State) => (t.station n).measuring = 0xFF) (fun t _ n _ => ⟨trivial, ?_⟩)
    (fun t _ n _ m _ hm => ?_) trivial
  · exact congrArg StationState.measuring (State.station_modStation_self ..)
  · rw [State.station_modStation]
    split
    · rfl
    · exact hm

theorem State.measureAll_get (l : List Nat) (f : Fld) (i b : Nat) : (s.measureAll l).get f i b = s.get f i b :=
  foldl_keeps (p := fun t => t.get f i b) (by intro _ _; rfl) l s

theorem bootPhase2_sets (h : s.phaseReady 2 = true) :
    Leads .bootPhase2 s (fun t => t.boot.phase = 3 ∧ t.boot.step = .ready ∧ t.sw.running = true ∧
      (∀ n, n < s.stationCount → (t.station n).measuring = 0xFF) ∧
      ∀ p, s.mgmtPort = some p → t.get .portEnable p = 1 ∧ t.get .portProto p = 1 ∧ t.get .vcsEnable 0 = 1 ∧ t.get .vcsUsp 0 = p) := by
  refine ⟨_, rfl, ?_⟩
  rw [if_pos h]
  dsimp only
  have hstations : s.setUpManagement.deriveAlias.startResidents.stationCount = s.stationCount := by
    unfold State.stationCount
    rw [State.startResidents_otp, State.deriveAlias_otp, State.setUpManagement_otp]
  have hget : ∀ (f : Fld) (i b : Nat), (s.setUpManagement.deriveAlias.startResidents.measureAll (List.range s.stationCount)).get f i b =
      s.setUpManagement.get f i b := fun f i b => by
    rw [State.measureAll_get, State.startResidents_get, State.deriveAlias_get]
  rw [hstations]
  refine ⟨rfl, rfl, rfl, fun n hn => ?_, fun p hp => ?_⟩
  · exact State.measureAll_measures _ _ n (List.mem_range.2 hn)
  · obtain ⟨henable, hproto, hvcs, husp⟩ := s.setUpManagement_gets hp
    exact ⟨(hget ..).trans henable, (hget ..).trans hproto, (hget ..).trans hvcs, (hget ..).trans husp⟩

/-! ### Phases 3 and 4 -/

theorem bootPhase3_starts (h : s.phaseReady 3 = true) :
    Leads .bootPhase3 s (fun t => t.boot.phase = 3 ∧ t.boot.step = .working ∧ t.boot.replayNext = 0 ∧
      t.ledger.skipped = s.ledger.standing.length - s.replayable.length) := by
  have hphase : s.boot.phase = 3 := by
    simp only [State.phaseReady, Bool.and_eq_true, beq_iff_eq] at h
    exact h.1.2
  refine ⟨_, rfl, ?_⟩
  rw [if_pos h]
  dsimp only
  split
  · have haside := State.ledgerError_aside (((s.modBoot (fun b => { b with step := .working, replayNext := 0, replayFail := 0 })).modLedger (fun x =>
      { x with replayLog := [], skipped := x.standing.length - s.replayable.length })).modSec (fun x =>
        { x with replayedDigest := Config.sha512 ((replayOrder s.replayable.length s.replayable).flatMap StandingRecord.bytes) }))
    have hboot := (congrArg State.boot haside :)
    have hledger := (congrArg (fun t : State => t.ledger.skipped) haside :)
    exact ⟨(congrArg Boot.phase hboot).trans hphase, congrArg Boot.step hboot, congrArg Boot.replayNext hboot, hledger⟩
  · exact ⟨hphase, rfl, rfl, rfl⟩

theorem State.freeze_aloof (o : Order) : (s.freeze o).aloof = s.aloof := by
  unfold State.freeze
  split
  · rfl
  · exact foldl_keeps (p := State.aloof) (fun t x => t.endQueued_aloof x .aborted) _ _

theorem State.submit_aloof (o : Order) (wellFormed : Bool) (arrived : Nat) : (s.submit o wellFormed arrived).aloof = s.aloof := by
  unfold State.submit
  split
  · exact State.freeze_aloof _ _
  · exact (State.aloof_of_still (State.count_still ..)).trans (s.deliver_aloof o _ 0 0 [])

theorem standingOrderReplay_advances (hphase : s.boot.phase = 3) (hstep : s.boot.step = .working) (hidle : s.replaying = false)
    {r : StandingRecord} (hr : s.nextRecord = some r) : Leads .standingOrderReplay s (fun t => t.boot.replayNext = r.seq + 1) := by
  refine ⟨_, rfl, ?_⟩
  rw [if_pos (by simp [hphase, hstep, hidle]), hr]
  exact (congrArg (fun t : State => t.boot.replayNext) (State.submit_aloof ..) :)

theorem State.startDetect_boot (p : Nat) : (s.startDetect p).boot = s.boot := by
  unfold State.startDetect State.chooseBands
  dsimp only
  split
  · exact foldl_keeps (p := State.boot) (by intro _ _; rfl) _ (s.put .portLink p 0 (s.restLink p))
  · rfl

theorem State.detectAll_boot : s.detectAll.boot = s.boot := by
  refine foldl_keeps (p := State.boot) (fun t p => ?_) _ s
  split
  · rfl
  · exact t.startDetect_boot p

theorem State.waysideKept_phase : (s.waysideKept.boot.phase, s.waysideKept.boot.step) = (s.boot.phase, s.boot.step) := by
  unfold State.waysideKept
  split
  · exact (congrArg (fun t : State => (t.boot.phase, t.boot.step)) (State.submit_aloof ..) :)
  · rfl

theorem bootPhase4_ends (hphase : s.boot.phase = 3) (hstep : s.boot.step = .working) (hidle : s.replaying = false)
    (hnone : s.nextRecord = none) : Leads .bootPhase4 s (fun t => t.boot.phase = 4 ∧ t.boot.step = .done) := by
  refine ⟨_, rfl, ?_⟩
  rw [if_pos (by simp [hphase, hstep, hidle, hnone])]
  have h := State.waysideKept_phase ((s.modBoot (fun b => { b with phase := 4, step := .done })).logSecurity (.bootResult 4 s.boot.error)).detectAll
  rw [State.detectAll_boot] at h
  exact Prod.mk.inj h

/-- Settles O33. -/
theorem bootPhases : Obligations.BootPhases := by
  unfold Obligations.BootPhases
  intro s
  refine ⟨fun x a b => ⟨_, rfl, ?_⟩, fun h htap bad fuse r => bootPhase0_ends s h htap bad fuse r, bootPhase1_ends s,
    imageLoadDone_ends s, bootPhase2_sets s, bootPhase3_starts s, fun hphase hstep hidle =>
      ⟨fun r hr => standingOrderReplay_advances s hphase hstep hidle hr, bootPhase4_ends s hphase hstep hidle⟩⟩
  have h := s.coldStart_coldPart x a b
  simp only [State.coldPart, Prod.mk.injEq] at h
  obtain ⟨hstraps, hotp, hftb, hboot, hstep, hepoch⟩ := h
  refine ⟨hstraps, hotp, hftb, ?_, ?_, hstep, hepoch⟩ <;> rw [hboot]

end

end Sys2Proof.Machine
end

section
/-! PROOFS. The slots: a slot whose port is no port warns one of its own fields (R478, R487, R595). -/

namespace Sys2Proof.Machine

/-- Slot 0 is in ON with its warning high, seated, and its port is a number whose LINK reads as a field of the slot. -/
def State.slotOf (f : Fld) : State :=
  let s := ((State.reset.modSlot 0 (gatePins slotOn)).put .slotState 0 0 slotOn).put .slotSeated 0 0 1
  { s with obj := Tab.set s.obj (objKey clsSlot Fld.slotPort.info.id 0 0) (keyMate .portLink f 0) }

/-- What a field of slot 0 reads once a command has acted. -/
def slotReadAfter (i : Instr) (s : State) (f : Fld) : Option Nat :=
  match exec i s with
  | .next t => some (t.get f 0)
  | _ => none

theorem slotReadAfter_of_next {i : Instr} {s t : State} (h : exec i s = .next t) (f : Fld) : slotReadAfter i s f = some (t.get f 0) := by
  unfold slotReadAfter
  rw [h]

/-- Refutes O48: where the LINK of the slot's port is the slot's own SEATED, its containment makes SEATED 12. -/
theorem not_slotPowerUp : ¬ Obligations.SlotPowerUp := by
  intro h
  obtain ⟨-, hlost, -⟩ := h 0 (State.slotOf .slotSeated)
  obtain ⟨t, hexec, hseated, -⟩ := hlost (by decide +kernel)
  have hread := slotReadAfter_of_next hexec .slotSeated
  rw [show t.get .slotSeated 0 = 0 from hseated] at hread
  exact absurd hread (by decide +kernel)

/-- Refutes O49: where the LINK of the slot's port is the slot's own CAUSE, the warning of a trip makes CAUSE 12. -/
theorem not_slotTrips : ¬ Obligations.SlotTrips := by
  intro h
  obtain ⟨-, hon, -⟩ := h 0 (State.slotOf .slotCause)
  obtain ⟨hbreaker, -⟩ := hon (by decide +kernel)
  obtain ⟨t, hexec, hcause, -⟩ := hbreaker 3000 (by decide +kernel)
  have hread := slotReadAfter_of_next hexec .slotCause
  rw [show t.get .slotCause 0 = 1 from hcause] at hread
  exact absurd hread (by decide +kernel)

end Sys2Proof.Machine
end

section
/-! PROOFS. Supplies, adaptive voltage, sensors and reference clocks (R253, R455, R524 to R530, R585, R612, R629). -/

namespace Sys2Proof.Machine

section
variable (s : State)

/-! ### Sag warnings and resets (R525, R526) -/

/-- The allowances of the stations are not the supplies'. -/
theorem State.sagAllowance_keeps : s.sagAllowance.still = { s.still with stations := s.sagAllowance.stations } ∧
    ∀ f i b, s.sagAllowance.get f i b = s.get f i b := by
  refine ⟨?_, fun f i b => foldl_keeps (p := fun t => t.get f i b) (by intro _ _; rfl) _ s⟩
  have h : ∀ l : List Nat, ({ (l.foldl (fun t n => t.modStation n (fun x => { x with allowance := min x.allowance (allowanceFor 819 t.sw.windowS) }))
      s).still with stations := [] } : State) = { s.still with stations := [] } := fun l =>
    foldl_keeps (p := fun t : State => ({ t.still with stations := [] } : State)) (by intro _ _; rfl) l s
  exact (congrArg (fun t : State => ({ t with stations := s.sagAllowance.stations } : State)) (h (List.range s.stationCount)) :)

theorem sagWarning_warns {r : Rail} {mv : Nat} (harmed : s.railArmed r.val = true)
    (hbelow : below mv (s.thresholdSetpoint r.val) (s.warnPct r.val) = true) (hwarn : s.get .railWarn r.val = 0) :
    Leads (.sagWarning r mv) s (fun t => t.get .railWarn r.val = 1 ∧ t.get .railWarns r.val = saturate 32 (s.get .railWarns r.val + 1) ∧
      t.power.sagWarnN = false ∧ (r.val ≤ 1 → t.sw.sagThrottle = true)) := by
  have hr : r.val < 65536 := Nat.lt_trans r.isLt (by decide)
  refine ⟨_, rfl, ?_⟩
  rw [if_pos (by simp [harmed, hbelow, hwarn])]
  dsimp only
  generalize hs1 : ((s.put .railWarn r.val 0 1).put .railWarns r.val 0 (saturate 32 (s.get .railWarns r.val + 1))).modPower
    (fun p => { p with sagWarnN := false }) = s1
  have hflag : s1.get .railWarn r.val = 1 := by
    rw [← hs1]
    exact (State.get_put_ne _ (by decide) _ hr (by decide) hr (by decide)).trans (s.get_put_self .railWarn r.val 0 1)
  have hcount : s1.get .railWarns r.val = saturate 32 (s.get .railWarns r.val + 1) := by
    rw [← hs1]
    exact (State.get_put_self _ .railWarns r.val 0 _).trans (Nat.mod_eq_of_lt (saturate_lt 32 _))
  have hpin : s1.power.sagWarnN = false := by rw [← hs1]; rfl
  have hraise : ∀ u : State, Hears u (u.raiseT0 .railEv r.val) := fun u => u.raiseT0_hears ..
  have hstill : ∀ u : State, ((u.raiseT0 .railEv r.val).power.sagWarnN, (u.raiseT0 .railEv r.val).sw.sagThrottle) = (u.power.sagWarnN, u.sw.sagThrottle) :=
    fun u => (congrArg (fun v : State => (v.power.sagWarnN, v.sw.sagThrottle)) (hraise u).still :)
  split
  next hlow =>
    obtain ⟨hkeep, hget⟩ := (s1.modSw (fun w => { w with sagThrottle := true, windowSags := true })).sagAllowance_keeps
    generalize State.sagAllowance _ = u at hkeep hget
    have hu : (u.power.sagWarnN, u.sw.sagThrottle) = (s1.power.sagWarnN, true) :=
      (congrArg (fun v : State => (v.power.sagWarnN, v.sw.sagThrottle)) hkeep :)
    obtain ⟨hpin', hthrottle⟩ := Prod.mk.inj ((hstill u).trans hu)
    refine ⟨((hraise u).get .railWarn rfl _ _ hr (by decide)).trans ((hget ..).trans hflag),
      ((hraise u).get .railWarns rfl _ _ hr (by decide)).trans ((hget ..).trans hcount), hpin'.trans hpin, fun _ => hthrottle⟩
  next hhigh =>
    exact ⟨((hraise s1).get .railWarn rfl _ _ hr (by decide)).trans hflag, ((hraise s1).get .railWarns rfl _ _ hr (by decide)).trans hcount,
      (congrArg Prod.fst (hstill s1)).trans hpin, fun h => absurd h hhigh⟩

theorem State.warmCleared_reads (rounds : Nat) (step : PowerStep) :
    ((s.warmCleared rounds step).power.step, (s.warmCleared rounds step).otp, (s.warmCleared rounds step).coh.dir, (s.warmCleared rounds step).sw.rounds) =
      (step, s.otp, [], rounds) :=
  State.drivePersts_keep _ (p := fun t : State => (t.power.step, t.otp, t.coh.dir, t.sw.rounds)) (by intro _ _; rfl) _

theorem sagReset_resets {r : Rail} {mv : Nat} (harmed : s.railArmed r.val = true)
    (hbelow : below mv (s.thresholdSetpoint r.val) (s.get .railResetPct r.val) = true) :
    (r.val ≠ 5 → s.deepReset = false → Leads (.sagReset r mv) s (fun t => t.power.step = .sagHold ∧ t.otp = s.otp ∧ t.coh.dir = [] ∧
      t.sw.rounds = s.sw.rounds)) ∧
    (r.val = 5 → Leads (.sagReset r mv) s (fun t => t.power.step = .wake 4 0 ∧ t.boot.cold = true ∧ t.otp = s.otp)) := by
  have hgo : (s.railArmed r.val && below mv (s.thresholdSetpoint r.val) (s.get .railResetPct r.val)) = true := by rw [harmed, hbelow]; rfl
  refine ⟨fun hr hdeep => ⟨_, rfl, ?_⟩, fun hr => ⟨_, rfl, ?_⟩⟩ <;> rw [if_pos hgo]
  · rw [if_neg hr, if_neg (by simp [hdeep])]
    have h := State.warmCleared_reads ((s.logSecurity (.sagReset r.val s.ftb mv)).logReset 3 r.val (s.logSecurity (.sagReset r.val s.ftb mv)).dirtyLines)
      s.sw.rounds .sagHold
    simp only [Prod.mk.injEq] at h
    exact h
  · rw [if_pos hr]
    have h := s.coldStart_coldPart s.strapPins s.qos.refclkA s.qos.refclkB
    simp only [State.coldPart, Prod.mk.injEq] at h
    obtain ⟨-, hotp, -, hboot, hstep, -⟩ := h
    exact ⟨hstep, congrArg Boot.cold hboot, hotp⟩

/-- The warnings of some rails end. -/
def State.clearWarns (s : State) (l : List Nat) : State := l.foldl (fun s r => if s.get .railWarn r = 0 then s else s.put .railWarn r 0 0) s

theorem State.put_railWarn_clear {r b : Nat} (hr : r < 65536) (hb : b < 65536) (h : s.get .railWarn b = 0) : (s.put .railWarn r 0 0).get .railWarn b = 0 := by
  by_cases hrb : r = b
  · rw [hrb, State.get_put_self]
    rfl
  · exact (s.get_put_object .railWarn .railWarn r 0 b 0 0 hr (by decide) hb (by decide) (.inl hrb)).trans h

theorem State.clearWarns_clears {l : List Nat} (hl : ∀ r ∈ l, r < 65536) : ∀ r ∈ l, (s.clearWarns l).get .railWarn r = 0 := by
  refine foldl_settles (R := fun _ : State => True) (P := fun r (t : State) => t.get .railWarn r = 0) (fun t _ a ha => ⟨trivial, ?_⟩)
    (fun t _ a ha b hb h => ?_) trivial
  · split
    next h => exact h
    next => exact t.get_put_self ..
  · split
    · exact h
    · exact t.put_railWarn_clear (hl a ha) (hl b hb) h

theorem sagWarnRelease_releases :
    Leads .sagWarnRelease s (fun t => t.power.sagWarnN = true ∧ t.sw.sagThrottle = false ∧ ∀ r, r < 6 → t.get .railWarn r = 0) := by
  have hclear := s.clearWarns_clears (l := List.range 6) (fun r hr => Nat.lt_trans (List.mem_range.1 hr) (by decide))
  have hexec : exec .sagWarnRelease s = .next (((s.clearWarns (List.range 6)).modPower (fun p => { p with sagWarnN := true })).modSw
      (fun w => { w with sagThrottle := false })) := rfl
  generalize s.clearWarns (List.range 6) = u at hclear hexec
  exact ⟨_, hexec, rfl, rfl, fun r hr => hclear r (List.mem_range.2 hr)⟩

/-! ### Adaptive voltage (R528 to R530) -/

theorem State.setVcore_now {mv : Nat} (h : s.get .deviceVcoreNow 0 ≠ mv) : (s.setVcore mv).get .deviceVcoreNow 0 = mv % 2 ^ 10 := by
  unfold State.setVcore
  rw [if_neg h]
  exact (s.get_put_self .deviceVcoreNow 0 0 mv :)

theorem State.setVcore_ftb (mv : Nat) : (s.setVcore mv).ftb = s.ftb := by
  unfold State.setVcore
  dsimp only
  split <;> rfl

theorem avsStep_rises (havs : s.get .deviceAvs 0 = 1) (hawake : s.awake = true) {m : Nat} (hm : s.leastM 100000 = some m) (hslow : m < 1331)
    (hdue : s.power.avsAt + 100000 ≤ s.ftb) (hroom : s.get .deviceVcoreNow 0 + 5 ≤ roundedVcore (s.get .deviceVcore 0)) :
    Leads .avsStep s (fun t => t.get .deviceVcoreNow 0 = (s.get .deviceVcoreNow 0 + 5) % 2 ^ 10 ∧ t.power.avsAt = s.ftb) := by
  refine ⟨_, rfl, ?_⟩
  have hsince : 100000 ≤ s.ftb - s.power.avsAt := by omega
  rw [if_pos (by simp [havs, hawake]), hm]
  dsimp only
  rw [if_pos (by simpa using hslow), if_pos (by simp [hsince, hroom])]
  exact ⟨s.setVcore_now (by omega), s.setVcore_ftb _⟩

theorem avsStep_falls (havs : s.get .deviceAvs 0 = 1) (hawake : s.awake = true) {m k : Nat} (hk : s.leastM 100000 = some k) (hnot : 1331 ≤ k)
    (hm : s.leastM 1000000 = some m) (hfast : 1434 ≤ m) (hcore : s.get .railWarn 0 = 0) (hsram : s.get .railWarn 1 = 0)
    (hdue : s.power.avsAt + 1000000 ≤ s.ftb) (hroom : max s.vfloor 650 + 5 ≤ s.get .deviceVcoreNow 0) :
    Leads .avsStep s (fun t => t.get .deviceVcoreNow 0 = (s.get .deviceVcoreNow 0 - 5) % 2 ^ 10 ∧ t.power.avsAt = s.ftb) := by
  refine ⟨_, rfl, ?_⟩
  have hsince : 1000000 ≤ s.ftb - s.power.avsAt := by omega
  rw [if_pos (by simp [havs, hawake]), hk, hm]
  dsimp only
  rw [if_neg (by simpa using hnot), if_pos (by simp [hfast, hcore, hsram, hsince, hroom])]
  exact ⟨s.setVcore_now (by omega), s.setVcore_ftb _⟩

/-! ### Samples (R524, R585) -/

/-- The members of a numbered list with one number are one. -/
theorem mem_zipIdx_unique {α : Type} {l : List α} {a b : α × Nat} (ha : a ∈ l.zipIdx) (hb : b ∈ l.zipIdx) (h : a.2 = b.2) : a = b := by
  obtain ⟨x, i⟩ := a
  obtain ⟨y, j⟩ := b
  obtain rfl : i = j := h
  rw [List.mk_mem_zipIdx_iff_getElem?] at ha hb
  rw [Option.some.inj (ha.symm.trans hb)]

theorem railSample_reads (mv : List Nat) : Leads (.railSample mv) s (fun t => ∀ i, i < 6 → ∀ v, mv[i]? = some v → t.get .railVnow i = saturate 11 v) := by
  refine ⟨_, rfl, fun i hi v hv => ?_⟩
  have hput : ∀ (t : State) (i v : Nat), (t.put .railVnow i 0 (saturate 11 v)).get .railVnow i = saturate 11 v := fun t i v =>
    (t.get_put_self .railVnow i 0 _).trans (Nat.mod_eq_of_lt (saturate_lt 11 v))
  refine foldl_settles (R := fun _ : State => True) (P := fun e (t : State) => e.2 < 6 → t.get .railVnow e.2 = saturate 11 e.1)
    (f := fun (t : State) (e : Nat × Nat) => if e.2 < 6 then t.put .railVnow e.2 0 (saturate 11 e.1) else t) (fun t _ a ha => ⟨trivial, fun h => ?_⟩)
    (fun t _ a ha b hb h hlt => ?_) (s := s) trivial (v, i) (List.mk_mem_zipIdx_iff_getElem?.2 hv) hi
  · rw [if_pos h]
    exact hput ..
  · split
    next ha6 =>
      by_cases hab : a.2 = b.2
      · rw [mem_zipIdx_unique ha hb hab]
        exact hput ..
      · exact (t.get_put_object .railVnow .railVnow a.2 0 b.2 0 _ (by omega) (by decide) (by omega) (by decide) (.inl hab)).trans (h hlt)
    next => exact h hlt

/-- A reading of a sensor writes TEMP and PEAK, and may raise its vector. -/
theorem State.readSensor_get {i : Nat} (hi : i < 65536) (q : Int) {f : Fld} (hf : f.counting = false) (hpeak : f ≠ .thermPeak) {j d : Nat} (hj : j < 65536)
    (hd : d < 65536) : (s.readSensor i q).get f j d = (s.put .thermTemp i 0 (signedField 12 q)).get f j d := by
  have hnote : ∀ u : State, (u.devicePut .thermPeak i 0 (signedField 12 q)).get f j d = u.get f j d := fun u =>
    (u.get_devicePut ..).trans (u.get_put_ne hpeak.symm _ hi (by decide) hj hd)
  have hraise : ∀ u : State, (u.raiseT0 .thermEv i).get f j d = u.get f j d := fun u => (u.raiseT0_hears .thermEv i).get f hf j d hj hd
  have halarm : ∀ (u : State) (l : List Nat), ({ u with alarms := l } : State).get f j d = u.get f j d := fun _ _ => rfl
  unfold State.readSensor
  dsimp only
  simp only [apply_ite (fun u : State => u.get f j d), hraise, halarm, hnote, ite_self]

theorem State.sensorOn_of_domains {t : State} (h : ∀ d, d < 75 → t.get .domainState d = s.get .domainState d) {i : Nat} (hi : i < 13) :
    t.sensorOn i = s.sensorOn i := by
  have hon : ∀ d, d < 75 → t.domainOn d = s.domainOn d := fun d hd => by
    unfold State.domainOn
    rw [h d hd]
  unfold State.sensorOn
  split
  · exact hon 1 (by decide)
  · split
    · have hall : ∀ k ∈ List.range 8, t.domainOn (stationDomain (8 * (i - 4) + k)) = s.domainOn (stationDomain (8 * (i - 4) + k)) := by
        intro k hk
        have hk := List.mem_range.1 hk
        exact hon _ (by unfold stationDomain; omega)
      rw [Bool.eq_iff_iff, List.any_eq_true, List.any_eq_true]
      exact exists_congr fun k => and_congr_right fun hk => by rw [hall k hk]
    · exact hon 10 (by decide)

theorem sensorSample_reads (l : List Int) :
    Leads (.sensorSample l) s (fun t => ∀ i q, i < 13 → l[i]? = some q → s.sensorOn i = true → t.get .thermTemp i = signedField 12 q) := by
  refine ⟨_, rfl, fun i q hi hq hon => ?_⟩
  have hfield : ∀ q : Int, signedField 12 q < 2 ^ 12 := fun q => by
    unfold signedField
    omega
  have hread : ∀ (t : State) (i : Nat) (q : Int), i < 13 → (t.readSensor i q).get .thermTemp i = signedField 12 q := fun t i q hi =>
    (t.readSensor_get (by omega) q rfl (by decide) (by omega) (by decide)).trans ((t.get_put_self ..).trans (Nat.mod_eq_of_lt (hfield q)))
  refine foldl_settles (R := fun t : State => ∀ d, d < 75 → t.get .domainState d = s.get .domainState d)
    (P := fun e (t : State) => e.2 < 13 → s.sensorOn e.2 = true → t.get .thermTemp e.2 = signedField 12 e.1)
    (f := fun (t : State) (e : Int × Nat) => if e.2 < 13 && t.sensorOn e.2 then t.readSensor e.2 e.1 else t)
    (fun t ht a ha => ⟨fun d hd => ?_, fun h13 hon => ?_⟩) (fun t ht a ha b hb h h13 hon => ?_) (s := s) (fun _ _ => rfl) (q, i)
    (List.mk_mem_zipIdx_iff_getElem?.2 hq) hi hon
  · split
    next hgo =>
      have h13 : a.2 < 13 := of_decide_eq_true (Bool.and_eq_true_iff.1 hgo).1
      rw [t.readSensor_get (by omega) a.1 rfl (by decide) (by omega) (by decide),
        t.get_put_ne (by decide) _ (by omega) (by decide) (by omega) (by decide)]
      exact ht d hd
    next => exact ht d hd
  · rw [if_pos (by simp [h13, s.sensorOn_of_domains ht h13, hon])]
    exact hread t a.2 a.1 h13
  · split
    next hgo =>
      have ha13 : a.2 < 13 := of_decide_eq_true (Bool.and_eq_true_iff.1 hgo).1
      by_cases hab : a.2 = b.2
      · rw [mem_zipIdx_unique ha hb hab]
        exact hread t b.2 b.1 h13
      · rw [t.readSensor_get (by omega) a.1 rfl (by decide) (by omega) (by decide),
          t.get_put_object .thermTemp .thermTemp a.2 0 b.2 0 _ (by omega) (by decide) (by omega) (by decide) (.inl hab)]
        exact h h13 hon
    next => exact h h13 hon

/-! ### Reference clocks (R629) -/

/-- The stations of a list lose their clock, or have it again. -/
def State.clockStations (s : State) (lost : Bool) (l : List Nat) : State := l.foldl (fun s n => s.modStation n (fun x => { x with clockLost := lost })) s

theorem State.clockStations_reads (lost : Bool) (l : List Nat) : ∀ n ∈ l, ((s.clockStations lost l).station n).clockLost = lost := by
  refine foldl_settles (R := fun _ : State => True) (P := fun n (t : State) => (t.station n).clockLost = lost)
    (f := fun (t : State) n => t.modStation n (fun x => { x with clockLost := lost })) (fun t _ a _ => ⟨trivial, ?_⟩) (fun t _ a _ b _ h => ?_) (s := s) trivial
  · rw [State.station_modStation_self]
  · rw [State.station_modStation]
    split
    · rfl
    · exact h

theorem refclkLoss_stops (b : Bool) :
    Leads (.refclkLoss b) s (fun t => ∀ n, n < s.stationCount → s.fedBy n b = true → (t.station n).clockLost = true) := by
  refine ⟨_, rfl, fun n hn hfed => ?_⟩
  generalize hns : (List.range s.stationCount).filter (fun n => s.fedBy n b) = ns
  have hmem : n ∈ ns := hns ▸ List.mem_filter.2 ⟨List.mem_range.2 hn, hfed⟩
  have hports : ∀ (t : State) (l : List Nat), (l.foldl (fun s p => if s.portUp p then s.linkDownTo p 0 else s.put .portLink p 0 (s.restLink p)) t).stations =
      t.stations := by
    intro t l
    refine foldl_keeps (p := State.stations) (fun u p => ?_) l t
    split
    · exact (congrArg State.stations (u.linkDownTo_aside p 0) :)
    · rfl
  have hall : ∀ (t : State), (ns.foldl (fun s n => (s.stationPorts n).foldl (fun s p =>
      if s.portUp p then s.linkDownTo p 0 else s.put .portLink p 0 (s.restLink p)) s) t).stations = t.stations := fun t =>
    foldl_keeps (p := State.stations) (fun u m => hports u (u.stationPorts m)) ns t
  generalize s.modQos (fun q => if b then { q with refclkB := false } else { q with refclkA := false }) = s1
  have hlost := s1.clockStations_reads true ns n hmem
  have hkeep := hall (s1.clockStations true ns)
  unfold State.clockStations at hkeep hlost
  generalize hs3 : ns.foldl (fun (s : State) n => (s.stationPorts n).foldl (fun (s : State) p =>
      if s.portUp p then s.linkDownTo p 0 else s.put .portLink p 0 (s.restLink p)) s) _ = s3 at hkeep ⊢
  have h3 : (s3.station n).clockLost = true := (congrArg (fun l => (Tab.get ({} : StationState) l n).clockLost) hkeep).trans hlost
  split <;> exact h3

theorem refclkReturn_starts (b : Bool) :
    Leads (.refclkReturn b) s (fun t => ∀ n, n < s.stationCount → s.fedBy n b = true → (t.station n).clockLost = false) := by
  refine ⟨_, rfl, fun n hn hfed => ?_⟩
  have hmem : n ∈ (List.range s.stationCount).filter (fun n => s.fedBy n b) := List.mem_filter.2 ⟨List.mem_range.2 hn, hfed⟩
  generalize s.modQos (fun q => if b then { q with refclkB := true } else { q with refclkA := true }) = s1
  have hback := s1.clockStations_reads false _ n hmem
  unfold State.clockStations at hback
  exact (congrArg (fun l => (Tab.get ({} : StationState) l n).clockLost)
    (foldl_keeps (p := State.stations) (fun u m => u.detectPorts_stations m) _ _)).trans hback

/-- Settles O52. -/
theorem suppliesAndClocks : Obligations.SuppliesAndClocks := by
  unfold Obligations.SuppliesAndClocks
  intro s
  refine ⟨fun r mv harmed => ⟨fun hbelow hwarn => sagWarning_warns s harmed hbelow hwarn, fun hbelow => sagReset_resets s harmed hbelow⟩,
    sagWarnRelease_releases s, fun h => ⟨_, rfl, if_pos h⟩, fun havs hawake m hm hslow hdue hroom => avsStep_rises s havs hawake hm hslow hdue hroom,
    fun havs hawake m k hk hnot hm hfast hcore hsram hdue hroom => avsStep_falls s havs hawake hk hnot hm hfast hcore hsram hdue hroom,
    railSample_reads s, sensorSample_reads s, refclkLoss_stops s, refclkReturn_starts s⟩

end

end Sys2Proof.Machine
end

section
/-! PROOFS. Siding state, power domains and Granary quadrants (R28, R29, R182 to R187, R268, R269, R285, R368, R369, R503, R504). -/

namespace Sys2Proof.Machine

section
variable (s : State)

/-! ### Ports that train (R191) -/

theorem State.startDetect_get {p : Nat} (hp : p < 65536) {f : Fld} (hf : f ≠ .portLink) {i b : Nat} (hi : i < 65536) (hb : b < 65536) :
    (s.startDetect p).get f i b = s.get f i b := by
  have hlink : (s.put .portLink p 0 (s.restLink p)).get f i b = s.get f i b := s.get_put_ne hf.symm _ hp (by decide) hi hb
  unfold State.startDetect State.chooseBands
  dsimp only
  split
  · exact (foldl_keeps (p := fun t => t.get f i b) (by intro _ _; rfl) _ (s.put .portLink p 0 (s.restLink p))).trans hlink
  · exact hlink

theorem State.stationPorts_lt {n p : Nat} (hn : n < 64) (h : p ∈ s.stationPorts n) : p < 65536 := by
  unfold State.stationPorts at h
  split at h <;> simp at h <;> omega

theorem State.detectPorts_get {n : Nat} (hn : n < 64) {f : Fld} (hf : f ≠ .portLink) {i b : Nat} (hi : i < 65536) (hb : b < 65536) :
    (s.detectPorts n).get f i b = s.get f i b := by
  refine List.foldlRecOn (motive := fun t : State => t.get f i b = s.get f i b) _ _ rfl fun t ht p hp => ?_
  split
  · exact ht
  · exact (t.startDetect_get (s.stationPorts_lt hn hp) hf hi hb).trans ht

theorem State.startDetect_power (p : Nat) : (s.startDetect p).power = s.power := by
  unfold State.startDetect State.chooseBands
  dsimp only
  split
  · exact foldl_keeps (p := State.power) (by intro _ _; rfl) _ (s.put .portLink p 0 (s.restLink p))
  · rfl

theorem State.detectPorts_power (n : Nat) : (s.detectPorts n).power = s.power := by
  refine foldl_keeps (p := State.power) (fun t p => ?_) _ s
  split
  · rfl
  · exact t.startDetect_power p

theorem State.enterRecovery_get {p : Nat} (hp : p < 65536) {f : Fld} (hf : f ≠ .portLink) {i b : Nat} (hi : i < 65536) (hb : b < 65536) :
    (s.enterRecovery p).get f i b = s.get f i b := by
  have hmarker : ∀ (t : State) n, (t.sendMarker p n).get f i b = t.get f i b := fun t n => by
    unfold State.sendMarker
    exact State.emit_get ..
  unfold State.enterRecovery
  dsimp only
  rw [hmarker, hmarker]
  exact s.get_put_ne hf.symm 3 hp (by decide) hi hb

theorem State.enterRecovery_stations (p : Nat) : (s.enterRecovery p).stations = s.stations :=
  (congrArg (fun o : OffLink => o.rest.stations) (s.enterRecovery_offLink p) :)

/-! ### Siding state (R182 to R187) -/

theorem State.stationGroup_of_bifurc {t : State} (h : t.get .stationBifurc n = s.get .stationBifurc n) : t.stationGroup n = s.stationGroup n := by
  unfold State.stationGroup
  rw [h]

theorem State.wakeStation_station {n : Nat} (h : s.stationGroup n = [n]) : (s.wakeStation n).station n =
    match (s.station n).sidingState with
    | .siding => { s.station n with sidingState := .exiting, sidingSince := s.ftb }
    | .entering => { s.station n with wakeLatched := true }
    | _ => s.station n := by
  unfold State.wakeStation
  rw [h]
  exact s.station_modStation_self ..

theorem State.unlockTest_stations (k : Nat) : (s.unlockTest k).stations = s.stations := by
  unfold State.unlockTest State.settleTest
  dsimp only
  split <;> rfl

theorem State.enterSiding_station {n : Nat} (h : s.stationGroup n = [n]) : ((s.enterSiding n).station n).sidingState = .entering := by
  have htests : ∀ (t : State) (l : List Nat), (l.foldl (fun s k => (s.unlockTest k).endScan k) t).stations = t.stations := fun t l =>
    foldl_keeps (f := fun (u : State) k => (u.unlockTest k).endScan k) (p := State.stations) (fun u k => u.unlockTest_stations k) l t
  have hports : ∀ (t : State) (l : List Nat), (l.foldl (fun s p => if s.portUp p then s else s.put .portLink p 0 (s.restLink p)) t).stations = t.stations := by
    intro t l
    refine foldl_keeps (p := State.stations) (fun u p => ?_) l t
    split <;> rfl
  unfold State.enterSiding
  rw [h]
  dsimp only
  have hkeep := (hports _ ([n].flatMap s.stationPorts)).trans (htests ([n].foldl (fun s m => s.modStation m (fun x =>
    { x with sidingState := .entering, sidingSince := s.ftb, wakeLatched := false })) s) ([n].flatMap (fun m => (List.range 8).map (8 * m + ·))))
  refine (congrArg (fun l => (Tab.get ({} : StationState) l n).sidingState) hkeep).trans ?_
  exact congrArg StationState.sidingState (s.station_modStation_self n _)

/-- A station of its own reaches Siding state (R182), or leaves at once where a wake is latched (R186). -/
theorem sidingEntryDone_enters {st : Station} (h : s.stationGroup st.val = [st.val]) (hstate : (s.station st.val).sidingState = .entering) :
    ((s.station st.val).wakeLatched = false → Leads (.sidingEntryDone st) s (fun t => (t.station st.val).sidingState = .siding ∧
      t.get .domainState (stationDomain st.val) = 2)) ∧
    ((s.station st.val).wakeLatched = true → Leads (.sidingEntryDone st) s (fun t => (t.station st.val).sidingState = .exiting)) := by
  have hd : stationDomain st.val < 65536 := by
    have := st.isLt
    unfold stationDomain
    omega
  have hn : st.val < 65536 := Nat.lt_trans st.isLt (by decide)
  generalize hs1 : (s.setDomain (stationDomain st.val) 2).modStation st.val (fun x => { x with sidingState := .siding, wakeLatched := false }) = s1
  have hsiding : (s1.station st.val).sidingState = .siding := by
    rw [← hs1, State.station_modStation_self]
  have hgroup : s1.stationGroup st.val = [st.val] := by
    refine (State.stationGroup_of_bifurc s ?_).trans h
    rw [← hs1]
    exact s.get_put_ne (f := .stationBifurc) (g := .domainState) (by decide) 2 hd (by decide) hn (by decide)
  refine ⟨fun hlatch => ⟨_, rfl, ?_⟩, fun hlatch => ⟨_, rfl, ?_⟩⟩ <;> rw [if_pos hstate, h] <;>
    simp only [List.any_cons, List.any_nil, hlatch, Bool.or_false, List.foldl_cons, List.foldl_nil, hs1]
  · refine ⟨hsiding, ?_⟩
    rw [if_neg (by decide), ← hs1]
    exact s.get_put_self .domainState (stationDomain st.val) 0 2
  · rw [if_pos trivial, s1.wakeStation_station hgroup, hsiding]

theorem sidingWake_wakes {st : Station} {p : Port} (h : s.stationGroup st.val = [st.val]) (hwakes : s.wakesStation st.val (.clkreq p) = true) :
    ((s.station st.val).sidingState = .siding → Leads (.sidingWake st (.clkreq p)) s (fun t => (t.station st.val).sidingState = .exiting)) ∧
    ((s.station st.val).sidingState = .entering → Leads (.sidingWake st (.clkreq p)) s (fun t => (t.station st.val).wakeLatched = true)) := by
  refine ⟨fun hstate => ⟨_, rfl, ?_⟩, fun hstate => ⟨_, rfl, ?_⟩⟩ <;> rw [if_pos hwakes] <;> dsimp only <;>
    rw [s.wakeStation_station h, hstate]

theorem sidingExitReady_exits {st : Station} (h : s.stationGroup st.val = [st.val]) (hstate : (s.station st.val).sidingState = .exiting) :
    Leads (.sidingExitReady st) s (fun t => (t.station st.val).sidingState = .awake ∧ t.get .domainState (stationDomain st.val) = 1) := by
  have hd : stationDomain st.val < 65536 := by
    have := st.isLt
    unfold stationDomain
    omega
  refine ⟨_, rfl, ?_⟩
  rw [if_pos hstate, h]
  simp only [List.foldl_cons, List.foldl_nil]
  generalize hs1 : (s.setDomain (stationDomain st.val) 1).modStation st.val (fun x => { x with sidingState := .awake }) = s1
  have hawake : (s1.station st.val).sidingState = .awake := by
    rw [← hs1, State.station_modStation_self]
  have hdomain : s1.get .domainState (stationDomain st.val) = 1 := by
    rw [← hs1]
    exact s.get_put_self .domainState (stationDomain st.val) 0 1
  generalize hs2 : s1.detectPorts st.val = s2
  have hstations : s2.stations = s1.stations := by rw [← hs2, State.detectPorts_stations]
  have hdomain2 : s2.get .domainState (stationDomain st.val) = 1 := by
    rw [← hs2]
    exact (s1.detectPorts_get st.isLt (by decide) hd (by decide)).trans hdomain
  have hfold : ∀ l : List Nat, (∀ p ∈ l, p < 65536) → (l.foldl (fun s p => if (s.port p).ctl.parkExit && s.get .portLink p == 9 then
        (s.enterRecovery p).modCtl p (fun c => { c with parkExit := false }) else s) s2).stations = s2.stations ∧
      (l.foldl (fun s p => if (s.port p).ctl.parkExit && s.get .portLink p == 9 then
        (s.enterRecovery p).modCtl p (fun c => { c with parkExit := false }) else s) s2).get .domainState (stationDomain st.val) = 1 := by
    intro l hl
    refine List.foldlRecOn (motive := fun t : State => t.stations = s2.stations ∧ t.get .domainState (stationDomain st.val) = 1) _ _ ⟨rfl, hdomain2⟩
      fun t ht p hp => ?_
    split
    · exact ⟨(t.enterRecovery_stations p).trans ht.1, (t.enterRecovery_get (hl p hp) (by decide) hd (by decide)).trans ht.2⟩
    · exact ht
  obtain ⟨hkeep, hstate1⟩ := hfold ([st.val].flatMap s2.stationPorts).eraseDups (fun p hp => by
    simp only [List.mem_eraseDups, List.flatMap_cons, List.flatMap_nil, List.append_nil] at hp
    exact s2.stationPorts_lt st.isLt hp)
  exact ⟨(congrArg (fun l => (Tab.get ({} : StationState) l st.val).sidingState) (hkeep.trans hstations)).trans hawake, hstate1⟩

theorem stationDomainOff_off {st : Station} (hn : st.val < s.stationCount) (hreq : s.domainReq (stationDomain st.val) = 0)
    (hon : s.domainOn (stationDomain st.val) = true) (hempty : s.stationEmpty st.val = true) :
    Leads (.stationDomainOff st) s (fun t => t.get .domainState (stationDomain st.val) = 0) := by
  have hd : stationDomain st.val < 65536 := by
    have := st.isLt
    unfold stationDomain
    omega
  refine ⟨_, rfl, ?_⟩
  rw [if_pos (by simp [hn, hreq, hon, hempty])]
  generalize hs1 : (s.setDomain (stationDomain st.val) 0).modStation st.val (fun x => { velocity := x.velocity }) = s1
  have hoff : s1.get .domainState (stationDomain st.val) = 0 := by
    rw [← hs1]
    exact s.get_put_self .domainState (stationDomain st.val) 0 0
  have hports : ((s1.stationPorts st.val).foldl (fun s p => s.put .portLink p 0 (s.restLink p)) s1).get .domainState (stationDomain st.val) = 0 := by
    refine List.foldlRecOn (motive := fun t : State => t.get .domainState (stationDomain st.val) = 0) _ _ hoff fun t ht p hp => ?_
    exact (t.get_put_ne (by decide) _ (s1.stationPorts_lt st.isLt hp) (by decide) hd (by decide)).trans ht
  have hlanes := foldl_keeps (f := fun (t : State) i => t.modLane (8 * st.val + i) (fun l => { l with test := {}, scan := none }))
    (p := fun t : State => t.get .domainState (stationDomain st.val)) (by intro _ _; rfl) (List.range 8)
    ((s1.stationPorts st.val).foldl (fun s p => s.put .portLink p 0 (s.restLink p)) s1)
  exact hlanes.trans hports

/-! ### Quadrants (R29, R268, R269, R285, R504) -/

theorem State.gateQuadrant_or (q : Nat) : s.gateQuadrant q = s ∨
    s.gateQuadrant q = s.modSw (fun w => { w with gating := w.gating ++ [q], remapTo := w.remapTo.filter (· != q) ++ [q], remapping := true }) := by
  unfold State.gateQuadrant
  dsimp only
  split
  · exact .inl rfl
  · exact .inr rfl

theorem State.meetGates_keeps (f : Fld) (i b : Nat) : s.meetGates.get f i b = s.get f i b ∧ s.meetGates.power = s.power ∧
    s.meetGates.sw.loanFailed = s.sw.loanFailed := by
  refine List.foldlRecOn (motive := fun t : State => t.get f i b = s.get f i b ∧ t.power = s.power ∧ t.sw.loanFailed = s.sw.loanFailed) _ _ ⟨rfl, rfl, rfl⟩
    fun t ht q _ => ?_
  split
  · rcases t.gateQuadrant_or q with h | h <;> rw [h] <;> exact ht
  · exact ht

/-- A quadrant that is wanted is not among those that meet their requests. -/
theorem State.meetGates_gating {q : Nat} (hreq : s.domainReq (quadrantDomain q) ≠ 0) (h : q ∉ s.sw.gating) : q ∉ s.meetGates.sw.gating := by
  refine (List.foldlRecOn (motive := fun t : State => (∀ d, t.domainReq d = s.domainReq d) ∧ q ∉ t.sw.gating) _ _ ⟨fun _ => rfl, h⟩
    fun t ht x _ => ?_).2
  split
  next hx =>
    have hqx : q ≠ x := by
      rintro rfl
      exact hreq ((ht.1 _).symm.trans hx)
    rcases t.gateQuadrant_or x with h | h <;> rw [h]
    · exact ht
    · exact ⟨ht.1, fun hmem => (List.mem_append.1 hmem).elim ht.2 (fun hq => hqx (List.mem_singleton.1 hq))⟩
  next => exact ht

theorem State.ungateQuadrant_keeps (q : Nat) (f : Fld) (i b : Nat) : (s.ungateQuadrant q).get f i b = s.get f i b ∧ (s.ungateQuadrant q).power = s.power ∧
    (s.ungateQuadrant q).sw.loanFailed = s.sw.loanFailed :=
  State.meetGates_keeps _ f i b

theorem quadrantAutoGate_gates {since q : Nat} (hawake : s.awake = true) (hdoze : s.get .devicePstate 0 = 1) (hlow : s.sw.lowSince = some since)
    (hq : s.autoCandidate = some q) (hdue : since + 100000 ≤ s.ftb) (hother : ∃ x ∈ s.quadrantsOn, x ≠ q ∧ x ∉ s.sw.gating) :
    Leads .quadrantAutoGate s (fun t => q ∈ t.sw.gating ∧ t.sw.lowSince = none ∧ t.sw.remapping = true) := by
  have hcand := List.find?_some hq
  simp only [Bool.and_eq_true, Bool.not_eq_true', beq_iff_eq] at hcand
  obtain ⟨⟨hon, -⟩, hfree⟩ := hcand
  have hleft : (s.quadrantsOn.filter (fun x => x != q && !s.sw.gating.contains x)).isEmpty = false := by
    obtain ⟨x, hx, hne, hnot⟩ := hother
    rw [List.isEmpty_eq_false_iff_exists_mem]
    exact ⟨x, List.mem_filter.2 ⟨hx, by simp [hne, hnot]⟩⟩
  refine ⟨_, rfl, ?_⟩
  rw [if_pos (by simp [hawake, hdoze]), hlow, hq]
  dsimp only
  rw [if_pos hdue]
  have hgate : s.gateQuadrant q = s.modSw (fun w => { w with gating := w.gating ++ [q], remapTo := w.remapTo.filter (· != q) ++ [q], remapping := true }) := by
    unfold State.gateQuadrant
    dsimp only
    rw [hleft, hfree, hon]
    rfl
  rw [hgate]
  exact ⟨List.mem_append_right _ (List.mem_singleton.2 rfl), rfl, rfl⟩

theorem quadrantAutoUngate_ungates {q : Nat} (hawake : s.awake = true) (hdoze : s.get .devicePstate 0 = 1) (hfailed : s.sw.loanFailed = true)
    (hq : s.autoGated = some q) : Leads .quadrantAutoUngate s (fun t => t.sw.loanFailed = false ∧
      (s.domainOn (quadrantDomain q) = true → q ∉ t.sw.gating) ∧
      (s.get .domainState (quadrantDomain q) = 0 → Tab.find t.power.powering (quadrantDomain q) = some s.ftb)) := by
  have hcand := List.find?_some hq
  simp only [Bool.and_eq_true, beq_iff_eq] at hcand
  have hq4 : q < 4 := List.mem_range.1 (List.mem_of_find?_eq_some hq)
  obtain ⟨hreq, -⟩ := hcand
  refine ⟨_, rfl, ?_⟩
  rw [if_pos (by simp [hawake, hdoze, hfailed]), hq]
  dsimp only
  have hlow : quadrantDomain q < 11 := by
    unfold quadrantDomain
    omega
  split
  next hon =>
    have hnot : s.get .domainState (quadrantDomain q) ≠ 0 := by
      intro h0
      rw [State.domainOn, if_pos hlow, h0] at hon
      exact absurd hon (by decide)
    refine ⟨((s.modSw (fun w => { w with loanFailed := false })).ungateQuadrant_keeps q .domainState 0 0).2.2, fun _ => ?_, fun h => absurd h hnot⟩
    refine State.meetGates_gating _ (fun h0 => ?_) (fun hmem => ?_)
    · have h0 : s.domainReq (quadrantDomain q) = 0 := h0
      rw [hreq] at h0
      exact absurd h0 (by decide)
    · exact absurd (List.mem_filter.1 hmem).2 (by simp)
  next hoff =>
    refine ⟨?_, fun h => absurd h hoff, fun h0 => ?_⟩
    · unfold State.powerUp
      split <;> rfl
    · have hzero : ((s.modSw (fun w => { w with loanFailed := false })).get .domainState (quadrantDomain q) == 0) = true := beq_iff_eq.2 h0
      unfold State.powerUp
      rw [if_pos hzero]
      exact Tab.find_set_self ..

theorem State.requeuePinned_remap : (s.requeuePinned.sw.gated, s.requeuePinned.sw.remapping) = (s.sw.gated, s.sw.remapping) := by
  refine foldl_keeps (p := fun t : State => (t.sw.gated, t.sw.remapping)) (fun t e => ?_) _ s
  refine foldl_keeps (p := fun t : State => (t.sw.gated, t.sw.remapping)) (fun u w => ?_) _ t
  split <;> rfl

/-! ### Domains (R503) -/

theorem State.sequencerReady_keeps {α : Type} {p : State → α} (h : ∀ t n f, p (State.modSlot t n f) = p t) : p s.sequencerReady = p s := by
  refine foldl_keeps (p := p) (fun t n => ?_) _ s
  split
  · exact h ..
  · rfl

theorem State.domainUp_reads {d : Nat} (hd : d < 75) : (s.domainUp d).get .domainState d = 1 ∧ Tab.find (s.domainUp d).power.powering d = none := by
  have hd' : d < 65536 := Nat.lt_trans hd (by decide)
  unfold State.domainUp
  dsimp only
  generalize hs1 : (s.setDomain d 1).modPower (fun p => { p with powering := Tab.drop p.powering d }) = s1
  have hstate : s1.get .domainState d = 1 := by
    rw [← hs1]
    exact s.get_put_self .domainState d 0 1
  have hpower : Tab.find s1.power.powering d = none := by
    rw [← hs1]
    exact Tab.find_drop_self ..
  have hkeep : ∀ t : State, t.get .domainState d = s1.get .domainState d → t.power = s1.power →
      t.get .domainState d = 1 ∧ Tab.find t.power.powering d = none := fun t hget hpow => ⟨hget.trans hstate, by rw [hpow]; exact hpower⟩
  split
  · split
    · exact hkeep _ rfl rfl
    · exact hkeep _ rfl rfl
  · split
    · obtain ⟨hget, hpow, -⟩ := s1.ungateQuadrant_keeps (d - 5) .domainState d 0
      exact hkeep _ hget hpow
    · split
      · exact hkeep _ (s1.sequencerReady_keeps (p := fun t => t.get .domainState d) (by intro _ _ _; rfl))
          (s1.sequencerReady_keeps (p := State.power) (by intro _ _ _; rfl))
      · split
        · refine hkeep _ ?_ ?_
          · exact (State.detectPorts_get _ (by omega) (by decide) hd' (by decide)).trans rfl
          · exact (State.detectPorts_power _ _).trans rfl
        · exact hkeep _ rfl rfl

/-! ### What the Loft's writebacks leave alone (R368) -/

section
variable {f : Fld} (hf : f.counting = false) (huc : f ≠ .deviceUcCount) {i b : Nat} (hi : i < 65536) (hb : b < 65536)
include hf huc hi hb

theorem State.contain_get (e : ErrorAt) : (s.contain e).get f i b = s.get f i b := by
  unfold State.contain
  dsimp only
  refine ((State.raiseT0_hears _ .deviceErrEv 0).get f hf i b hi hb).trans ?_
  exact (State.get_put_ne _ huc.symm _ (by decide) (by decide) hi hb).trans rfl

omit hf huc hi hb in
theorem State.memDone_get (line : Nat) (write : Bool) : (s.memDone line write).get f i b = s.get f i b := by
  unfold State.memDone
  dsimp only
  split
  · split
    · exact State.emit_get ..
    · rfl
  · rfl

theorem State.holdLine_get (line : Nat) : (s.holdLine line).get f i b = s.get f i b := by
  unfold State.holdLine
  split
  · dsimp only
    split
    · rfl
    · exact State.contain_get _ hf huc hi hb _
  · rfl

theorem State.memWriteEnd_get (line : Nat) (ok : Bool) : (s.memWriteEnd line ok).get f i b = s.get f i b := by
  have hdone : ∀ g, ((s.memDone line true).modCoh g).get f i b = s.get f i b := fun g => s.memDone_get line true
  unfold State.memWriteEnd
  split
  · rfl
  · dsimp only
    generalize hs1 : (s.memDone line true).modCoh (fun c => { c with writes := Tab.drop c.writes line }) = s1
    have h1 : s1.get f i b = s.get f i b := by rw [← hs1]; exact hdone _
    split
    · split
      · exact h1
      · exact (s1.holdLine_get hf huc hi hb line).trans h1
    · split
      · exact h1
      · exact (s1.holdLine_get hf huc hi hb line).trans h1
    · split
      · split
        · split
          · exact (State.contain_get _ hf huc hi hb _).trans h1
          · exact h1
        · exact h1
      · exact h1
    · split
      · exact h1
      · exact (s1.holdLine_get hf huc hi hb line).trans h1

theorem State.memWrite_get (line : Nat) (home : Option Nat) (data : LineData) (poison : Bool) (w : MemWrite) (mask : BitVec 64) :
    (s.memWrite line home data poison w mask).get f i b = s.get f i b := by
  unfold State.memWrite
  dsimp only
  split
  · split
    · split
      · exact State.memWriteEnd_get _ hf huc hi hb line true
      · unfold State.memAsk
        split
        · exact State.emit_get ..
        · rfl
    · exact State.memWriteEnd_get _ hf huc hi hb line false
  · exact State.memWriteEnd_get _ hf huc hi hb line false

theorem State.emptyLoft_get : s.emptyLoft.get f i b = s.get f i b := by
  have hback : s.writeBackAll.get f i b = s.get f i b :=
    foldl_keeps (f := fun (t : State) (e : Nat × LoftLine) => (t.memWrite e.1 e.2.home e.2.data e.2.poison .writeback).memWriteEnd e.1 true)
      (p := fun t => t.get f i b) (fun t e => (State.memWriteEnd_get _ hf huc hi hb e.1 true).trans
        (t.memWrite_get hf huc hi hb e.1 e.2.home e.2.data e.2.poison .writeback _)) _ s
  have hlost : ∀ t : State, t.loseHeld.get f i b = t.get f i b := fun t =>
    foldl_keeps (p := fun t => t.get f i b) (fun t e => t.contain_get hf huc hi hb _) _ t
  exact (hlost s.writeBackAll).trans hback

end

theorem pd3Pd4Off_off (hgoing : s.coh.goingOff = true) (htracked : s.anyTracked = false) (hlocks : s.coh.locks = []) (hsuspended : s.coh.suspended = [])
    (hreq : s.domainReq 3 = 0) : Leads .pd3Pd4Off s (fun t => t.get .domainState 3 = 0 ∧ t.coh.dir = [] ∧ t.coh.loft = []) := by
  refine ⟨_, rfl, ?_⟩
  rw [if_pos (by simp [hgoing, htracked, hlocks, hsuspended])]
  have hreq' : s.emptyLoft.domainReq 3 = 0 := (s.emptyLoft_get (f := .domainReq) rfl (by decide) (by decide) (by decide)).trans hreq
  have hdir : s.emptyLoft.coh.dir = [] ∧ s.emptyLoft.coh.loft = [] := ⟨rfl, rfl⟩
  dsimp only
  generalize s.emptyLoft = u at hreq' hdir
  simp only [List.foldl_cons, List.foldl_nil, if_pos hreq']
  have h3 : (u.setDomain 3 0).get .domainState 3 = 0 := u.get_put_self .domainState 3 0 0
  split
  · exact ⟨((u.setDomain 3 0).get_put_object .domainState .domainState 4 0 3 0 0 (by decide) (by decide) (by decide) (by decide) (.inl (by decide))).trans h3,
      hdir⟩
  · exact ⟨h3, hdir⟩

/-- Settles O50. -/
theorem domainsAndSidings : Obligations.DomainsAndSidings := by
  unfold Obligations.DomainsAndSidings
  intro s
  refine ⟨fun st h => ⟨fun hmay => ⟨_, rfl, ?_⟩, fun hstate hlatch => (sidingEntryDone_enters s h hstate).1 hlatch,
      fun hstate hlatch => (sidingEntryDone_enters s h hstate).2 hlatch, fun p hwakes => sidingWake_wakes s h hwakes,
      sidingExitReady_exits s h, fun hn hreq hon hempty => stationDomainOff_off s hn hreq hon hempty⟩,
    fun d hsome hawake _ => ⟨fun hreq => ⟨_, rfl, ?_⟩, fun hreq => ⟨_, rfl, ?_⟩⟩,
    fun q hgating hgated hheld hcells hloans => ⟨_, rfl, ?_⟩, fun hremap hpinned => ⟨_, rfl, ?_⟩,
    fun since q hawake hdoze hlow hq hdue hother => quadrantAutoGate_gates s hawake hdoze hlow hq hdue hother,
    fun q hawake hdoze hfailed hq => quadrantAutoUngate_ungates s hawake hdoze hfailed hq,
    fun hgoing htracked hlocks hsuspended hreq => pd3Pd4Off_off s hgoing htracked hlocks hsuspended hreq⟩
  · rw [if_pos hmay]
    exact s.enterSiding_station h
  · rw [if_pos (by simp [hsome, hawake]), if_neg hreq]
    exact s.domainUp_reads d.isLt
  · rw [if_pos (by simp [hsome, hawake]), if_pos hreq]
    exact ⟨rfl, Tab.find_drop_self ..⟩
  · rw [if_pos (by simp [hgating, hgated, hheld, hcells, hloans])]
    exact ⟨s.get_put_self .domainState (quadrantDomain q.val) 0 0, fun hmem => absurd (List.mem_filter.1 hmem).2 (by simp)⟩
  · rw [if_pos (by simp [hremap, hpinned])]
    exact Prod.mk.inj (State.requeuePinned_remap (s.modSw (fun w => { w with gated := w.remapTo, remapping := false })))

end

end Sys2Proof.Machine
end

section
/-! PROOFS. Entry into STANDBY and WATCH, and the way out (R499, R508 to R516). -/

namespace Sys2Proof.Machine

section
variable (s : State)

/-! ### The end of queued orders -/

theorem State.deliver_queue (o : Order) (status ticks queued : Nat) (data : List Byte) : (s.deliver o status ticks queued data).ord.queue = s.ord.queue := by
  have hemit : ∀ (t : State) m, (t.emit m).ord.queue = t.ord.queue := fun t m => (congrArg (fun u : State => u.ord.queue) (t.emit_still m) :)
  unfold State.deliver
  dsimp only
  split
  case h_1 =>
    unfold State.mailboxAnswer
    dsimp only
    split
    · exact hemit _ _
    · rfl
  case h_2 => rfl
  case h_3 => exact hemit _ _
  case h_4 => exact hemit _ _
  case h_5 => rfl
  case h_6 =>
    unfold State.windowAnswer
    dsimp only
    split
    · exact (congrArg (fun u : State => u.ord.queue) (State.raiseVector_still _ _ _) :)
    · rfl
  case h_7 => split <;> rfl

theorem State.endQueued_queue (o : Order) (st : Status) : (s.endQueued o st).ord.queue = s.ord.queue := by
  have hunfreeze : (s.unfreeze o).ord.queue = s.ord.queue := by
    unfold State.unfreeze
    split
    · split <;> rfl
    · rfl
  exact (congrArg (fun u : State => u.ord.queue) (State.count_still ..) :).trans ((State.deliver_queue _ o st.word 0 _ []).trans hunfreeze)

theorem State.deliver_get (o : Order) (status ticks queued : Nat) (data : List Byte) {f : Fld} (hf : f.counting = false) {i b : Nat} (hi : i < 65536)
    (hb : b < 65536) : (s.deliver o status ticks queued data).get f i b = s.get f i b := by
  unfold State.deliver
  dsimp only
  split
  case h_1 =>
    unfold State.mailboxAnswer
    dsimp only
    split
    · exact State.emit_get ..
    · rfl
  case h_2 => rfl
  case h_3 => exact State.emit_get ..
  case h_4 => exact State.emit_get ..
  case h_5 => rfl
  case h_6 =>
    unfold State.windowAnswer
    dsimp only
    split
    · exact (State.raiseVector_hears _ _ _).get f hf i b hi hb
    · rfl
  case h_7 => split <;> rfl

theorem State.endQueued_get (o : Order) (st : Status) {f : Fld} (hf : f.counting = false) {i b : Nat} (hi : i < 65536) (hb : b < 65536) :
    (s.endQueued o st).get f i b = s.get f i b := by
  have hunfreeze : (s.unfreeze o).get f i b = s.get f i b := by
    unfold State.unfreeze
    split
    · split <;> rfl
    · rfl
  exact ((State.count_hears _ (by decide) _ _ _).get f hf i b hi hb).trans ((State.deliver_get _ o st.word 0 _ [] hf hi hb).trans hunfreeze)

theorem State.submit_get (o : Order) (wellFormed : Bool) (arrived : Nat) {f : Fld} (hf : f.counting = false) {i b : Nat} (hi : i < 65536) (hb : b < 65536) :
    (s.submit o wellFormed arrived).get f i b = s.get f i b := by
  have hfreeze : ∀ (t : State) (o : Order), (t.freeze o).get f i b = t.get f i b := by
    intro t o
    unfold State.freeze
    split
    · rfl
    · exact foldl_keeps (p := fun u => u.get f i b) (fun u x => u.endQueued_get x .aborted hf hi hb) _ _
  unfold State.submit
  split
  · exact hfreeze _ _
  · exact ((State.count_hears _ (by decide) _ _ _).get f hf i b hi hb).trans (s.deliver_get o _ 0 0 [] hf hi hb)

/-! ### Entry (R508, R509) -/

theorem State.entryEndsOrders_queue : ∀ o ∈ s.entryEndsOrders.ord.queue, o.endsAtEntry = false := by
  have hqueue : ∀ t : State, (((t.ord.queue.filter Order.endsAtEntry).foldl (fun s o => s.endQueued o .aborted)
      (t.modOrd (fun q => { q with queue := q.queue.filter (fun o => !o.endsAtEntry) })))).ord.queue = t.ord.queue.filter (fun o => !o.endsAtEntry) := fun t =>
    foldl_keeps (p := fun u : State => u.ord.queue) (fun u o => u.endQueued_queue o .aborted) _ _
  intro o ho
  rw [State.entryEndsOrders, hqueue] at ho
  simpa using (List.mem_filter.1 ho).2

theorem State.ordersResume_reads : (s.ordersResume.power, s.ordersResume.ord.noStart) = (s.power, false) :=
  Prod.ext (foldl_keeps (p := State.power) (by intro _ _; rfl) s.residentCores s) rfl

theorem entryOrdersEnded_goesOn {b : Nat} (hstep : s.power.step = .entry b 1) :
    (s.orderRunning = true → exec .entryOrdersEnded s = .next s) ∧
    (s.orderRunning = false → s.entryEndsOrders.trackedTenants = [] →
      Leads .entryOrdersEnded s (fun t => t.power.step = .entry b 2 ∧ ∀ o ∈ t.ord.queue, o.endsAtEntry = false)) ∧
    (∀ tn rest, s.orderRunning = false → s.entryEndsOrders.trackedTenants = tn :: rest →
      Leads .entryOrdersEnded s (fun t => t.power.step = .run ∧ t.ord.noStart = false)) := by
  have hexec : exec .entryOrdersEnded s = execEntryOrdersEnded s := rfl
  unfold Leads
  rw [hexec, execEntryOrdersEnded]
  split
  case h_2 hno => exact absurd hstep (hno b)
  case h_1 b' hstep' =>
  obtain ⟨rfl, -⟩ := PowerStep.entry.inj (hstep'.symm.trans hstep)
  dsimp only
  refine ⟨fun hrun => ?_, fun hrun hnone => ?_, fun tn rest hrun hsome => ?_⟩
  · rw [if_pos hrun]
  · rw [if_neg (by simp [hrun]), hnone]
    exact ⟨_, rfl, rfl, s.entryEndsOrders_queue⟩
  · rw [if_neg (by simp [hrun]), hsome]
    refine ⟨_, rfl, ?_⟩
    dsimp only
    generalize hs2 : (s.entryEndsOrders.modPower (fun p => { p with step := .run, wakeLatched := false })).ordersResume = s2
    have h2 := State.ordersResume_reads (s.entryEndsOrders.modPower (fun p => { p with step := .run, wakeLatched := false }))
    rw [hs2] at h2
    obtain ⟨hpower, hstart⟩ := Prod.mk.inj h2
    have hstill := s2.devicePut_still .devicePstate 0 0 s.power.priorPstate
    generalize s2.devicePut .devicePstate 0 0 s.power.priorPstate = s3 at hstill
    have haside : (s3.contain { code := 0x0A01, tenant := tn, detail := [tn] }).aside = s3.aside := congrArg OffLink.rest (s3.contain_offLink _)
    have hstep3 : s3.power = s2.power := (congrArg State.power hstill :)
    have hstart3 : s3.ord.noStart = s2.ord.noStart := (congrArg (fun t : State => t.ord.noStart) hstill :)
    refine ⟨?_, ((congrArg (fun t : State => t.ord.noStart) haside :).trans hstart3).trans hstart⟩
    have hpower3 : (s3.contain { code := 0x0A01, tenant := tn, detail := [tn] }).power = s3.power := (congrArg State.power haside :)
    rw [hpower3, hstep3, hpower]
    rfl

theorem State.portOk_of {t : State} {p : Nat} (hotp : t.otp = s.otp) (hb : t.get .stationBifurc (portStation p) = s.get .stationBifurc (portStation p)) :
    t.portOk p = s.portOk p := by
  unfold State.portOk State.portPresent State.portUsed State.stationCount
  rw [hotp, hb]

/-- Every port of the device that goes down is down, and rests. -/
theorem State.allLinksDown_down {p : Nat} (hp : p < 128) (hok : s.allLinksDown.portOk p = true) : s.allLinksDown.portUp p = false := by
  have hdown : s.allLinksDown = s.livePorts.foldl (fun t p => t.linkDownTo p 0) s := by
    refine congrArg (fun f => List.foldl f s s.livePorts) (funext fun t => funext fun p => ?_)
    split
    next => rfl
    next hup => exact (t.linkDownTo_down (by simpa using hup) 0).symm
  have hlive : ∀ q ∈ s.livePorts, q < 65536 := fun q hq => Nat.lt_trans (s.mem_livePorts.1 hq).1 (by decide)
  have hsame : ∀ q, q < 128 → (s.livePorts.foldl (fun t p => t.linkDownTo p 0) s).portOk q = s.portOk q := by
    intro q hq
    have hst : portStation q < 65536 := by
      unfold portStation
      omega
    refine List.foldlRecOn (motive := fun t : State => t.portOk q = s.portOk q) _ _ rfl fun t ht a ha => ?_
    refine (t.portOk_of ?_ ?_).trans ht
    · exact (congrArg State.otp (t.linkDownTo_aside a 0) :)
    · exact t.linkDownTo_get (hlive a ha) 0 (by decide) hst (by decide) (.inl (by decide))
  have hlink : ∀ q ∈ s.livePorts, (s.livePorts.foldl (fun t p => t.linkDownTo p 0) s).get .portLink q = 0 := by
    refine foldl_settles (R := fun _ : State => True) (P := fun q (t : State) => t.get .portLink q = 0) (fun t _ a ha => ⟨trivial, ?_⟩)
      (fun t _ a ha q hq h => ?_) trivial
    · exact t.linkDownTo_link (hlive a ha) (by decide)
    · by_cases haq : a = q
      · rw [haq]
        exact t.linkDownTo_link (hlive q hq) (by decide)
      · exact (t.linkDownTo_get (hlive a ha) 0 (by decide) (hlive q hq) (by decide) (.inr (.inl (Ne.symm haq)))).trans h
  rw [hdown, hsame p hp] at hok
  rw [hdown, State.portUp, hlink p (s.mem_livePorts.2 ⟨hp, hok⟩)]
  rfl

theorem entryLinksDown_goesOn {b : Nat} (hstep : s.power.step = .entry b 2) :
    (s.requestsOpen = true → s.ftb < s.power.entryAt + 1000000 → exec .entryLinksDown s = .next s) ∧
    (s.requestsOpen = false ∨ s.power.entryAt + 1000000 ≤ s.ftb → Leads .entryLinksDown s (fun t => t.power.step = .entry b 3 ∧
      ∀ p, p < 128 → t.portOk p = true → t.portUp p = false)) := by
  have hexec : exec .entryLinksDown s = execEntryLinksDown s := rfl
  unfold Leads
  rw [hexec, execEntryLinksDown]
  split
  case h_2 hno => exact absurd hstep (hno b)
  case h_1 b' hstep' =>
  obtain ⟨rfl, -⟩ := PowerStep.entry.inj (hstep'.symm.trans hstep)
  refine ⟨fun hopen hearly => ?_, fun hready => ?_⟩
  · rw [if_pos (by simpa [hopen, ms] using hearly)]
  · have hgo : ¬ (s.requestsOpen && decide (s.ftb < s.power.entryAt + ms 1)) = true := by
      rcases hready with h | h
      · simp [h]
      · have hlate : ¬ s.ftb < s.power.entryAt + ms 1 := Nat.not_lt.2 h
        simp [hlate]
    rw [if_neg hgo]
    exact ⟨_, rfl, rfl, fun p hp hok => s.allLinksDown_down hp hok⟩

theorem State.setDomains_get {ds : List Nat} (hds : ∀ d ∈ ds, d < 65536) (v : Nat) {d : Nat} (hd : d < 65536) :
    (s.setDomains ds v).get .domainState d = if d ∈ ds then v % 4 else s.get .domainState d := by
  induction ds generalizing s with
  | nil => rfl
  | cons a ds ih =>
    have ha : a < 65536 := hds a List.mem_cons_self
    refine (ih (s.setDomain a v) (fun x hx => hds x (List.mem_cons_of_mem _ hx))).trans ?_
    by_cases hmem : d ∈ ds
    · rw [if_pos hmem, if_pos (List.mem_cons_of_mem _ hmem)]
    · rw [if_neg hmem]
      by_cases had : d = a
      · rw [had, if_pos List.mem_cons_self]
        exact s.get_put_self .domainState a 0 v
      · rw [if_neg (by simp [had, hmem])]
        exact s.get_put_object .domainState .domainState a 0 d 0 v ha (by decide) hd (by decide) (.inl (Ne.symm had))

/-- What turning domains on or off leaves alone. -/
theorem State.setDomains_keeps {α : Type} {p : State → α} (h : ∀ t d v, p (State.setDomain t d v) = p t) (ds : List Nat) (v : Nat) :
    p (s.setDomains ds v) = p s := foldl_keeps (p := p) (fun t d => h t d v) ds s

theorem State.emptyLoft_offLink : s.emptyLoft.offLink = s.offLink := by
  have hback : s.writeBackAll.offLink = s.offLink :=
    foldl_keeps (f := fun (t : State) (e : Nat × LoftLine) => (t.memWrite e.1 e.2.home e.2.data e.2.poison .writeback).memWriteEnd e.1 true)
      (p := State.offLink) (fun t e => (linkView.memWriteEnd _ e.1 true).trans (linkView.memWrite t ..)) _ s
  have hlost : ∀ t : State, t.loseHeld.offLink = t.offLink := fun t =>
    foldl_keeps (p := State.offLink) (fun t e => linkView.writeLoss t ..) _ t
  unfold State.emptyLoft
  exact (linkView.modCoh _ _).trans ((hlost s.writeBackAll).trans hback)

theorem standbyOff_lt : ∀ d ∈ standbyOff, d < 65536 ∧ d ∉ [2, 9] := by decide

theorem entryDomainsOff_goesOn (hflush : ∀ e ∈ s.ports, e.2.flushing = false) :
    (s.power.step = .entry 2 3 → s.power.wakeLatched = false →
      Leads .entryDomainsOff s (fun t => t.power.step = .asleep 2 ∧ t.sw.running = false ∧ t.sw.rounds = s.sw.rounds ∧
        (∀ d ∈ standbyOff, t.get .domainState d = 0) ∧ t.coh.dir = [] ∧ t.coh.loft = [])) ∧
    (s.power.step = .entry 3 3 → Leads .entryDomainsOff s (fun t => t.power.step = .entry 3 5)) := by
  have hexec : exec .entryDomainsOff s = execEntryDomainsOff s := rfl
  have hquiet : s.ports.any (fun e => e.2.flushing) = false := List.any_eq_false.2 fun e he => by simp [hflush e he]
  have hoff := s.emptyLoft_offLink
  have hpower : s.emptyLoft.power = s.power := (congrArg (fun o : OffLink => o.rest.power) hoff :)
  have hrounds : s.emptyLoft.sw.rounds = s.sw.rounds := (congrArg (fun o : OffLink => o.rest.sw.rounds) hoff :)
  have hcoh : s.emptyLoft.coh.dir = [] ∧ s.emptyLoft.coh.loft = [] := ⟨rfl, rfl⟩
  unfold Leads
  rw [hexec, execEntryDomainsOff]
  generalize s.emptyLoft = u at hpower hrounds hcoh ⊢
  generalize hs1 : (u.setDomains standbyOff 0).setDomains [2, 9] 2 = s1
  split
  case h_2 hno => exact ⟨fun hstep => absurd hstep (hno 2), fun hstep => absurd hstep (hno 3)⟩
  case h_1 b hstep' =>
  rw [if_neg (by simp [hquiet])]
  refine ⟨fun hstep hlatch => ?_, fun hstep => ?_⟩ <;> obtain ⟨rfl, -⟩ := PowerStep.entry.inj (hstep'.symm.trans hstep)
  · have hdomains : ∀ d ∈ standbyOff, s1.get .domainState d = 0 := by
      intro d hd
      obtain ⟨hlt, hnot⟩ := standbyOff_lt d hd
      rw [← hs1, State.setDomains_get _ (by decide) 2 hlt, if_neg hnot, State.setDomains_get _ (fun x hx => (standbyOff_lt x hx).1) 0 hlt, if_pos hd]
    have hkeep : (s1.power, s1.sw.rounds, s1.coh) = (u.power, u.sw.rounds, u.coh) := by
      rw [← hs1, State.setDomains_keeps _ (p := fun t : State => (t.power, t.sw.rounds, t.coh)) (by intro _ _ _; rfl),
        State.setDomains_keeps _ (p := fun t : State => (t.power, t.sw.rounds, t.coh)) (by intro _ _ _; rfl)]
    simp only [Prod.mk.injEq] at hkeep
    obtain ⟨hp1, hr1, hc1⟩ := hkeep
    rw [if_neg (by decide)]
    refine ⟨_, rfl, ?_⟩
    generalize hs3 : (List.range 64).foldl (fun (t : State) n => t.drivePerst n) _ = s3
    have h3 : (s3.power.wakeLatched, s3.sw.running, s3.sw.rounds, s3.coh) = (s1.power.wakeLatched, false, s1.sw.rounds, s1.coh) := by
      rw [← hs3]
      exact State.drivePersts_keep _ (p := fun t : State => (t.power.wakeLatched, t.sw.running, t.sw.rounds, t.coh)) (by intro _ _; rfl) _
    have hget3 : ∀ d, s3.get .domainState d = s1.get .domainState d := by
      intro d
      rw [← hs3]
      exact State.drivePersts_keep _ (p := fun t : State => t.get .domainState d) (by intro _ _; rfl) _
    simp only [Prod.mk.injEq] at h3
    obtain ⟨hlatch3, hrun3, hr3, hc3⟩ := h3
    have hawake : s3.power.wakeLatched = false := by rw [hlatch3, hp1, hpower, hlatch]
    refine ⟨?_, hrun3, hr3.trans (hr1.trans hrounds), fun d hd => (hget3 d).trans (hdomains d hd), ?_, ?_⟩
    · show (if s3.power.wakeLatched then _ else _ : Power).step = _
      rw [if_neg (by simp [hawake])]
    · exact (congrArg Coherence.dir (hc3.trans hc1)).trans hcoh.1
    · exact (congrArg Coherence.loft (hc3.trans hc1)).trans hcoh.2
  · rw [if_pos rfl]
    exact ⟨_, rfl, rfl⟩

theorem entryRailsOff_sleeps (hstep : s.power.step = .entry 3 5) : Leads .entryRailsOff s (fun t =>
    t.power.step = (if s.power.wakeLatched then .wake 3 0 else .asleep 3) ∧
    t.power.vrEn = (if s.power.wakeLatched then [0, 1] else []) ∧ t.get .domainState 1 = 0) := by
  have hexec : exec .entryRailsOff s = execEntryRailsOff s := rfl
  unfold Leads
  rw [hexec, execEntryRailsOff]
  split
  case h_2 hno => exact absurd hstep hno
  case h_1 =>
  generalize hs1 : s.setDomains [1, 2, 9] 0 = s1
  have hpower : s1.power = s.power := by
    rw [← hs1]
    exact s.setDomains_keeps (p := State.power) (by intro _ _ _; rfl) [1, 2, 9] 0
  have hdomain : s1.get .domainState 1 = 0 := by
    rw [← hs1, s.setDomains_get (by decide) 0 (by decide)]
    rfl
  have hlatch : s1.power.wakeLatched = s.power.wakeLatched := by rw [hpower]
  refine ⟨_, rfl, ?_, ?_, hdomain⟩ <;> rw [← hlatch] <;> unfold State.fallAsleep State.modPower <;> dsimp only <;>
    cases s1.power.wakeLatched <;> rfl

/-! ### Wakes (R511 to R516) -/

theorem State.wakeBy_eq_wakeFrom {k src : Nat} (hstep : s.power.step = .asleep k) (hignore : s.power.ignoreWake = false) (hsrc : s.wakeEnabled src = true) :
    s.wakeBy src = (s.latchCause src).modPower (fun p => p.wakeFrom k) := by
  unfold State.wakeBy
  rw [if_pos (by simp [hsrc, hignore]), hstep]

theorem State.wakeBy_waking {b k : Nat} (hstep : s.power.step = .wake b k) (src : Nat) : (s.wakeBy src).power = s.power := by
  unfold State.wakeBy
  split
  · rw [hstep]
    rfl
  · rfl

theorem wake_wakes {k : Nat} (hstep : s.power.step = .asleep k) (hignore : s.power.ignoreWake = false) :
    (∀ src : Fin 8, s.wakeEnabled src.val = true → src.val ≠ 7 →
      Leads (.wake src) s (fun t => t.power.step = .wake k 0 ∧ (3 ≤ k → t.power.vrEn = [0, 1]) ∧
        t.get .deviceWakeCause 0 = (s.get .deviceWakeCause 0 ||| 2 ^ src.val) % 2 ^ 16)) ∧
    (∀ (temps : List Nat) (slots : List SlotWindow) (sq : List Port), (∃ t ∈ temps, s.get .deviceTempHi 0 ≤ t) → slots = [] →
      s.wakeEnabled 5 = true → s.ftb % (s.get .deviceWatchPer 0 * 1000000) = 0 →
      Leads (.watchSample temps slots sq) s (fun t => t.power.step = .wake k 0)) := by
  refine ⟨fun src hsrc hnot => ⟨_, rfl, ?_⟩, fun temps slots sq hhot hslots h5 hdue => ⟨_, rfl, ?_⟩⟩
  · rw [if_neg (by simp [hnot]), s.wakeBy_eq_wakeFrom hstep hignore hsrc]
    exact ⟨rfl, fun hk => if_pos hk, s.get_put_self .deviceWakeCause 0 0 _⟩
  · subst hslots
    have hdue' : (s.ftb % ms (s.get .deviceWatchPer 0) == 0) = true := beq_iff_eq.2 hdue
    have hany : temps.any (fun t => decide (s.get .deviceTempHi 0 ≤ t)) = true := by simpa using hhot
    rw [hstep, hdue', hany]
    simp only [List.any_nil, Bool.and_self, if_true, Bool.false_eq_true, if_false]
    rw [s.wakeBy_eq_wakeFrom hstep hignore h5]
    split
    · rw [State.wakeBy_waking _ (b := k) (k := 0) rfl 6]
      rfl
    · rfl

theorem State.wakeStep_at {b k : Nat} (hstep : s.power.step = .wake b k) (body : Nat → State → State) :
    s.wakeStep k body = body b (s.modPower (fun p => { p with step := .wake b (k + 1) })) := by
  unfold State.wakeStep
  rw [hstep]
  exact if_pos rfl

theorem pwrRdy_goesOn {b : Nat} (hstep : s.power.step = .wake b 0) : Leads .pwrRdy s (fun t => t.power.step = .wake b 1 ∧
    (3 ≤ b → t.power.vrEn = [0, 1, 2, 3] ∧ t.power.wakeFailures = 0 ∧ t.ledger.wakeFailures = 0)) := by
  refine ⟨_, rfl, ?_⟩
  rw [s.wakeStep_at hstep]
  dsimp only
  split
  next hb =>
    split
    next hnone => exact ⟨rfl, fun _ => ⟨rfl, rfl, hnone⟩⟩
    next => exact ⟨rfl, fun _ => ⟨rfl, rfl, rfl⟩⟩
  next hb => exact ⟨rfl, fun h => absurd h hb⟩

/-- What LOGIC_RDY decides out of STANDBY. -/
def State.resumePart (s : State) : PowerStep × Bool × Tab DirEntry × Tab LoftLine := (s.power.step, s.sw.running, s.coh.dir, s.coh.loft)

theorem State.startDetect_resumePart (p : Nat) : (s.startDetect p).resumePart = s.resumePart := by
  unfold State.startDetect State.chooseBands
  dsimp only
  split
  · exact foldl_keeps (p := State.resumePart) (by intro _ _; rfl) _ (s.put .portLink p 0 (s.restLink p))
  · rfl

theorem State.detectAll_keeps {α : Type} {p : State → α} (h : ∀ t, ∀ q ∈ s.livePorts, p (State.startDetect t q) = p t) : p s.detectAll = p s := by
  refine List.foldlRecOn (motive := fun t : State => p t = p s) _ _ rfl fun t ht q hq => ?_
  split
  · exact ht
  · exact (h t q hq).trans ht

theorem State.waysideKept_resumePart : s.waysideKept.resumePart = s.resumePart := by
  unfold State.waysideKept
  split
  · exact (congrArg State.resumePart (State.submit_aloof ..) :)
  · rfl

theorem State.waysideKept_get {f : Fld} (hf : f.counting = false) {i b : Nat} (hi : i < 65536) (hb : b < 65536) :
    s.waysideKept.get f i b = s.get f i b := by
  unfold State.waysideKept
  split
  · exact State.submit_get _ _ _ _ hf hi hb
  · rfl

theorem State.leaveStandby_reads : s.leaveStandby.resumePart = (.run, true, [], []) ∧ s.leaveStandby.get .devicePstate 0 = 0 := by
  unfold State.leaveStandby
  dsimp only
  generalize hs1 : s.domainsBack.modCoh Coherence.cleared = s1
  have hcoh : s1.coh.dir = [] ∧ s1.coh.loft = [] := by
    rw [← hs1]
    exact ⟨rfl, rfl⟩
  generalize (List.range 4).filter (fun q => !s1.domainOn (quadrantDomain q)) = off
  generalize hs2 : (s1.modSw (fun w => { w with running := true, gated := off, remapTo := off })).modPower (fun p => { p with step := .run }) = s2
  have h2 : s2.resumePart = (.run, true, [], []) := by
    rw [← hs2]
    exact congrArg₂ (fun d l => (PowerStep.run, true, d, l)) hcoh.1 hcoh.2
  generalize hs3 : (s2.devicePut .devicePstate 0 0 0).ordersResume = s3
  have hresume : ∀ t : State, t.ordersResume.resumePart = t.resumePart ∧ t.ordersResume.get .devicePstate 0 = t.get .devicePstate 0 := fun t =>
    ⟨(foldl_keeps (p := State.resumePart) (by intro _ _; rfl) t.residentCores t), foldl_keeps (p := fun t => t.get .devicePstate 0) (by intro _ _; rfl)
      t.residentCores t⟩
  have h3 : s3.resumePart = (.run, true, [], []) ∧ s3.get .devicePstate 0 = 0 := by
    rw [← hs3]
    refine ⟨(hresume _).1.trans ((congrArg State.resumePart (s2.devicePut_still .devicePstate 0 0 0) :).trans h2), (hresume _).2.trans ?_⟩
    rw [State.get_devicePut]
    exact s2.get_put_self .devicePstate 0 0 0
  generalize hs4 : (if s3.domainOn 10 then s3.sequencerReady else s3) = s4
  have h4 : s4.resumePart = (.run, true, [], []) ∧ s4.get .devicePstate 0 = 0 := by
    rw [← hs4]
    split
    · exact ⟨(s3.sequencerReady_keeps (p := State.resumePart) (by intro _ _ _; rfl)).trans h3.1,
        (s3.sequencerReady_keeps (p := fun t => t.get .devicePstate 0) (by intro _ _ _; rfl)).trans h3.2⟩
    · exact h3
  generalize hs5 : (List.range 64).foldl (fun (t : State) n => t.drivePerst n) s4 = s5
  have h5 : s5.resumePart = (.run, true, [], []) ∧ s5.get .devicePstate 0 = 0 := by
    rw [← hs5]
    exact ⟨(State.drivePersts_keep _ (p := State.resumePart) (by intro _ _; rfl) _).trans h4.1,
      (State.drivePersts_keep _ (p := fun t : State => t.get .devicePstate 0) (by intro _ _; rfl) _).trans h4.2⟩
  refine ⟨(State.waysideKept_resumePart _).trans ((s5.detectAll_keeps (fun t q _ => t.startDetect_resumePart q)).trans h5.1), ?_⟩
  refine (State.waysideKept_get _ rfl (by decide) (by decide)).trans ((s5.detectAll_keeps (p := fun t => t.get .devicePstate 0) fun t q hq => ?_).trans h5.2)
  exact t.startDetect_get (Nat.lt_trans (s5.mem_livePorts.1 hq).1 (by decide)) (by decide) (by decide) (by decide)

theorem logicRdy_resumes (hstep : s.power.step = .wake 2 3) : Leads .logicRdy s (fun t => t.power.step = .run ∧ t.sw.running = true ∧
    t.get .devicePstate 0 = 0 ∧ t.coh.dir = [] ∧ t.coh.loft = []) := by
  have hexec : exec .logicRdy s = execLogicRdy s := rfl
  unfold Leads
  rw [hexec, execLogicRdy]
  split
  case h_2 hno => exact absurd hstep (hno _)
  case h_1 b' hstep' =>
  obtain ⟨rfl, -⟩ := PowerStep.wake.inj (hstep'.symm.trans hstep)
  rw [if_pos rfl]
  obtain ⟨hpart, hpstate⟩ := s.leaveStandby_reads
  simp only [State.resumePart, Prod.mk.injEq] at hpart
  obtain ⟨hrun, hsw, hdir, hloft⟩ := hpart
  exact ⟨_, rfl, hrun, hsw, hpstate, hdir, hloft⟩

theorem logicRdy_boots (hstep : s.power.step = .wake 3 3) : Leads .logicRdy s (fun t => t.power.step = .run ∧ t.boot.phase = 0 ∧
    t.boot.step = .ready ∧ t.boot.loadBank = s.boot.bank ∧ t.sw.rounds = 0 ∧ t.ord.queue = s.ord.queue) := by
  have hexec : exec .logicRdy s = execLogicRdy s := rfl
  unfold Leads
  rw [hexec, execLogicRdy]
  split
  case h_2 hno => exact absurd hstep (hno _)
  case h_1 b' hstep' =>
  obtain ⟨rfl, -⟩ := PowerStep.wake.inj (hstep'.symm.trans hstep)
  rw [if_neg (by decide), if_pos rfl]
  have hreads := s.warmCleared_reads 0 .run
  have hpart := s.warmCleared_warmPart
  simp only [State.warmPart, Prod.mk.injEq] at hreads hpart
  obtain ⟨hrun, -, -, hrounds⟩ := hreads
  obtain ⟨-, hboot, -⟩ := hpart
  refine ⟨_, rfl, ?_⟩
  generalize s.warmCleared 0 .run = u at hrun hrounds hboot
  generalize hs1 : (u.modBoot (fun b => { b with loadBank := s.boot.bank })).modOrd (fun q => { q with queue := s.ord.queue, nextId := s.ord.nextId }) = s1
  have hkeep := s1.sequencerReady_keeps (p := fun t : State => (t.power.step, t.boot, t.sw.rounds, t.ord.queue)) (by intro _ _ _; rfl)
  simp only [Prod.mk.injEq] at hkeep
  obtain ⟨hp, hb, hr, hq⟩ := hkeep
  refine ⟨hp.trans ?_, ?_, ?_, ?_, hr.trans ?_, hq.trans ?_⟩ <;> (try rw [hb]) <;> rw [← hs1]
  · exact hrun
  · exact congrArg Boot.phase hboot
  · exact congrArg Boot.step hboot
  · rfl
  · exact hrounds
  · rfl

theorem logicRdy_chipLevel {b : Nat} (hb : 4 ≤ b) (hstep : s.power.step = .wake b 3) :
    Leads .logicRdy s (fun t => t.power.step = .run ∧ t.boot = { s.boot with step := .ready }) := by
  have hexec : exec .logicRdy s = execLogicRdy s := rfl
  unfold Leads
  rw [hexec, execLogicRdy]
  split
  case h_2 hno => exact absurd hstep (hno _)
  case h_1 b' hstep' =>
  obtain ⟨rfl, -⟩ := PowerStep.wake.inj (hstep'.symm.trans hstep)
  rw [if_neg (by omega), if_neg (by omega)]
  generalize hs1 : (s.modPower (fun p => { p with step := .run })).modBoot (fun b => { b with step := .ready }) = s1
  have hkeep := s1.sequencerReady_keeps (p := fun t : State => (t.power.step, t.boot)) (by intro _ _ _; rfl)
  obtain ⟨hp, hboot⟩ := Prod.mk.inj hkeep
  refine ⟨_, rfl, hp.trans ?_, hboot.trans ?_⟩ <;> rw [← hs1] <;> rfl

theorem vrPgTimeout_fails {b : Nat} (hb : 3 ≤ b) (hstep : s.power.step = .wake b 0) :
    (s.power.wakeFailures < 2 → Leads .vrPgTimeout s (fun t => t.power.step = .wakeFailed b ∧ t.power.vrEn = [] ∧
      t.power.retryAt = s.ftb + 100000000 ∧ t.power.ignoreWake = false)) ∧
    (2 ≤ s.power.wakeFailures → Leads .vrPgTimeout s (fun t => t.power.step = .asleep 3 ∧ t.power.vrEn = [] ∧
      t.power.ignoreWake = true)) := by
  have hexec : exec .vrPgTimeout s = execVrPgTimeout s := rfl
  unfold Leads
  rw [hexec, execVrPgTimeout]
  split
  case h_2 hno => exact absurd hstep (hno _)
  case h_1 b' hstep' =>
  obtain ⟨rfl, -⟩ := PowerStep.wake.inj (hstep'.symm.trans hstep)
  rw [if_pos hb]
  refine ⟨fun hfew => ?_, fun hmany => ?_⟩
  · refine ⟨_, rfl, ?_, rfl, rfl, ?_⟩
    · exact if_neg (by omega)
    · exact decide_eq_false (by omega)
  · refine ⟨_, rfl, ?_, rfl, ?_⟩
    · exact if_pos (by omega)
    · exact decide_eq_true (by omega)

theorem wakeRetry_retries {b : Nat} (hstep : s.power.step = .wakeFailed b) (hdue : s.power.retryAt ≤ s.ftb) :
    Leads .wakeRetry s (fun t => t = s.modPower (fun p => { p with step := .wake b 0, vrEn := if 3 ≤ b then [0, 1] else p.vrEn })) := by
  have hexec : exec .wakeRetry s = execWakeRetry s := rfl
  unfold Leads
  rw [hexec, execWakeRetry, hstep]
  dsimp only
  rw [if_pos hdue]
  exact ⟨_, rfl, rfl⟩

/-- Settles O51. -/
theorem sleepAndWake : Obligations.SleepAndWake := by
  unfold Obligations.SleepAndWake
  intro s
  refine ⟨fun b hstep => entryOrdersEnded_goesOn s hstep, fun b hstep => entryLinksDown_goesOn s hstep, entryDomainsOff_goesOn s, entryRailsOff_sleeps s,
    fun k hstep hignore => wake_wakes s hstep hignore, fun b hstep => pwrRdy_goesOn s hstep, fun b hstep => ⟨_, rfl, s.wakeStep_at hstep _⟩,
    fun b hstep => ⟨_, rfl, s.wakeStep_at hstep _⟩, logicRdy_resumes s, logicRdy_boots s, fun b hb hstep => logicRdy_chipLevel s hb hstep,
    fun b hb hstep => vrPgTimeout_fails s hb hstep, fun b hstep hdue => wakeRetry_retries s hstep hdue⟩

end

end Sys2Proof.Machine
end

section
/-! SUPPORT. Frames in the core: what removing one leaves, what taking one in keeps of the others, and that a port's transmission goes on
meanwhile (R220, R270 to R284, R423). -/

namespace Sys2Proof

theorem Tab.mem_drop_of_ne {α : Type} {t : Tab α} {k : Nat} {e : Nat × α} (h : e ∈ t) (hk : e.1 ≠ k) : e ∈ Tab.drop t k := by
  induction t with
  | nil => exact h
  | cons x t ih =>
    obtain ⟨i, v⟩ := x
    unfold Tab.drop
    obtain rfl | h := List.mem_cons.1 h
    · rw [if_neg hk]
      exact List.mem_cons_self
    · split
      · exact ih h
      · exact List.mem_cons_of_mem _ (ih h)

/-- A choice between two at a time over a list ends at an element of it. -/
theorem foldl_choice_mem {α : Type} (better : α → α → Bool) (v : α) (l : List α) :
    l.foldl (fun a b => if better b a then b else a) v ∈ v :: l := by
  induction l generalizing v with
  | nil => exact List.mem_cons_self
  | cons b l ih =>
    refine (List.mem_cons.1 (ih (if better b v then b else v))).elim (fun h => ?_) (fun h => List.mem_cons_of_mem _ (List.mem_cons_of_mem _ h))
    rw [List.foldl_cons, h]
    split
    · exact List.mem_cons_of_mem _ List.mem_cons_self
    · exact List.mem_cons_self

end Sys2Proof

namespace Sys2Proof.Machine

/-- A state without its ports. -/
def State.portless (s : State) : State := { s with ports := [] }

/-- What a port sends. -/
def State.sending (s : State) (p : Nat) : Option Nat := (s.port p).sending

section
variable (s : State)

theorem State.modPort_sending {f : PortState → PortState} (h : ∀ x, (f x).sending = x.sending) (p : Nat) : (s.modPort p f).sending = s.sending := by
  funext q
  unfold State.sending
  rw [State.port_modPort]
  split
  next he => rw [h, he]
  next => rfl

theorem State.modPort_sending_self (p : Nat) (f : PortState → PortState) : (s.modPort p f).sending p = (f (s.port p)).sending :=
  congrArg PortState.sending (s.port_modPort_self p f)

/-! ### Credits -/

theorem State.releaseCredit_portless (p c w : Nat) : (s.releaseCredit p c w).portless = s.portless := by
  unfold State.releaseCredit
  split
  · rfl
  · split <;> rfl

theorem State.releaseCredit_sending (p c w : Nat) : (s.releaseCredit p c w).sending = s.sending := by
  unfold State.releaseCredit
  split
  · rfl
  · split
    · exact s.modPort_sending (by intro _; rfl) p
    · exact s.modPort_sending (by intro _; rfl) p

/-- Credit that is freed changes the credits of a port alone. -/
theorem State.freeCredit_keeps (k : FrameKind) (p c w : Nat) : (s.freeCredit k p c w).portless = s.portless ∧
    (s.freeCredit k p c w).sending = s.sending := by
  unfold State.freeCredit
  split
  · exact ⟨s.releaseCredit_portless p c w, s.releaseCredit_sending p c w⟩
  · split
    · exact ⟨rfl, rfl⟩
    · exact ⟨s.releaseCredit_portless p c w, s.releaseCredit_sending p c w⟩
  · exact ⟨s.releaseCredit_portless p c w, s.releaseCredit_sending p c w⟩

theorem State.freeCredit_sw (k : FrameKind) (p c w : Nat) : (s.freeCredit k p c w).sw = s.sw := (congrArg State.sw (s.freeCredit_keeps k p c w).1 :)

/-! ### A frame leaves the core -/

/-- The switch after a frame's removal: the frame is in no queue, and the others stand. -/
structure Switch.Without (n : Nat) (w w' : Switch) : Prop where
  frames : w'.frames = Tab.drop w.frames n
  nextFrame : w'.nextFrame = w.nextFrame
  outQ : w'.outQ = w.outQ.map (fun e => (e.1, e.2.filter (· != n)))
  bypass : w'.bypass = w.bypass

theorem State.removeFrame_none {n : Nat} (h : s.frame n = none) : s.removeFrame n = s := by
  unfold State.removeFrame
  rw [h]

theorem State.removeFrame_sw {n : Nat} {f : Frame} (h : s.frame n = some f) : Switch.Without n s.sw (s.removeFrame n).sw := by
  have hfree := fun t => State.freeCredit_sw t f.inp.kind f.inp.port.val f.cls f.wagons
  have hport : ∀ (t : State) p g, (t.modPort p g).sw = t.sw := fun _ _ _ => rfl
  unfold State.removeFrame
  rw [h]
  dsimp only
  simp only [apply_ite State.sw, hfree, hport, ite_self]
  exact ⟨rfl, rfl, rfl, rfl⟩

theorem State.removeFrame_outbox (n : Nat) : (s.removeFrame n).outbox = s.outbox := by
  unfold State.removeFrame
  cases s.frame n with
  | none => rfl
  | some f =>
    have hfree : ∀ t : State, (t.freeCredit f.inp.kind f.inp.port.val f.cls f.wagons).outbox = t.outbox := fun t =>
      (congrArg State.outbox (t.freeCredit_keeps f.inp.kind f.inp.port.val f.cls f.wagons).1 :)
    have hport : ∀ (t : State) p g, (t.modPort p g).outbox = t.outbox := fun _ _ _ => rfl
    dsimp only
    simp only [apply_ite State.outbox, hfree, hport, ite_self]
    rfl

theorem State.removeFrame_sending (n : Nat) : (s.removeFrame n).sending = s.sending := by
  unfold State.removeFrame
  cases s.frame n with
  | none => rfl
  | some f =>
    have hidle : ∀ (t : State) p (g : PortState → List Nat), (t.modPort p (fun x => { x with loanIdle := g x })).sending = t.sending := fun t p _ =>
      t.modPort_sending (by intro _; rfl) p
    have hdeficit : ∀ (t : State) p (g : PortState → Tab Nat), (t.modPort p (fun x => { x with deficit := g x })).sending = t.sending := fun t p _ =>
      t.modPort_sending (by intro _; rfl) p
    have hfree : ∀ t : State, (t.freeCredit f.inp.kind f.inp.port.val f.cls f.wagons).sending = t.sending := fun t => (t.freeCredit_keeps ..).2
    dsimp only
    simp only [apply_ite State.sending, hfree, hidle, hdeficit, ite_self]
    rfl

theorem State.removeFrame_frame (n : Nat) : (s.removeFrame n).frame n = none := by
  cases h : s.frame n with
  | none => rw [s.removeFrame_none h, h]
  | some f =>
    unfold State.frame
    rw [(s.removeFrame_sw h).frames, Tab.find_drop_self]

/-! ### What a discard answers -/

/-- What the core holds, and what its ports send. -/
def State.held (s : State) : Tab Frame × (Nat → Option Nat) := (s.sw.frames, s.sending)

theorem State.held_of_still {s t : State} (h : t.still = s.still) : t.held = s.held := (congrArg State.held h :)

/-- The coherent pool leaves the frames of the core, and what its ports send. -/
def heldView : PoolView (Tab Frame × (Nat → Option Nat)) where
  view := State.held
  onEmit s m := State.held_of_still (s.emit_still m)
  onDrawn _ := rfl
  onCount s u ev a n := State.held_of_still (s.count_still u ev a n)
  onRaise s n o := State.held_of_still (s.raiseVector_still n o)
  onContain s e := (State.held_of_still (s.contain_still e)).trans rfl
  onCoh _ _ := rfl
  onVcs _ _ _ := rfl
  onLost _ := rfl
  onTenants _ _ := rfl
  onBypass s p _ _ _ := Prod.ext rfl (s.modPort_sending (by intro _; rfl) p)
  onPut _ _ _ _ _ _ := rfl

/-- A frame that is discarded with its answer is gone, and the ports send what they sent. -/
theorem State.discardFrame_held (n : Nat) (answer : Bool) : (s.discardFrame n answer).held = (s.removeFrame n).held := by
  unfold State.discardFrame
  cases h : s.frame n with
  | none => rw [s.removeFrame_none h]
  | some f =>
    dsimp only
    split
    · exact heldView.answerDiscarded ..
    · rfl

theorem State.abortFrame_reads (n : Nat) (f : Frame) : (s.abortFrame n f).frame n = none ∧ (s.abortFrame n f).sending = s.sending := by
  have habort : (s.abortFrame n f).held = ((s.countPort f.dport 0x01C f.attrs).removeFrame n).held :=
    (heldView.onContain _ _).trans (State.discardFrame_held _ n true)
  have hcount : (s.countPort f.dport 0x01C f.attrs).held = s.held := State.held_of_still (s.countPort_still ..)
  refine ⟨?_, ?_⟩
  · have hframes : (s.abortFrame n f).sw.frames = ((s.countPort f.dport 0x01C f.attrs).removeFrame n).sw.frames := congrArg Prod.fst habort
    unfold State.frame
    rw [hframes]
    exact State.removeFrame_frame _ n
  · exact (congrArg Prod.snd habort).trans ((State.removeFrame_sending _ n).trans (congrArg Prod.snd hcount))

/-! ### Frames flow on -/

/-- A state in which no output queue has gained a frame, and the ports send what they sent. -/
structure Flows (s t : State) : Prop where
  sending : t.sending = s.sending
  outQ : ∀ k n, n ∈ Tab.get [] t.sw.outQ k → n ∈ Tab.get [] s.sw.outQ k

theorem Flows.refl (s : State) : Flows s s := ⟨rfl, fun _ _ h => h⟩

theorem Flows.trans {s t u : State} (h : Flows s t) (h' : Flows t u) : Flows s u :=
  ⟨h'.sending.trans h.sending, fun k n hn => h.outQ k n (h'.outQ k n hn)⟩

theorem Flows.of_still {s t : State} (h : t.still = s.still) : Flows s t where
  sending := (congrArg State.sending h :)
  outQ k n hn := by
    have ho : t.sw.outQ = s.sw.outQ := (congrArg (fun u : State => u.sw.outQ) h :)
    rwa [ho] at hn

theorem State.modPort_flows {f : PortState → PortState} (h : ∀ x, (f x).sending = x.sending) (p : Nat) : Flows s (s.modPort p f) :=
  ⟨s.modPort_sending h p, fun _ _ hn => hn⟩

theorem State.modSw_flows {f : Switch → Switch} (h : (f s.sw).outQ = s.sw.outQ) : Flows s (s.modSw f) where
  sending := rfl
  outQ k n hn := by
    have ho : (s.modSw f).sw.outQ = s.sw.outQ := h
    rwa [ho] at hn

theorem Tab.get_filtered (t : Tab (List Nat)) (n k : Nat) :
    Tab.get [] (t.map (fun e => (e.1, e.2.filter (· != n)))) k = (Tab.get [] t k).filter (· != n) := by
  induction t with
  | nil => rfl
  | cons e t ih =>
    obtain ⟨i, l⟩ := e
    by_cases h : i = k
    · simp [Tab.get, h]
    · simpa [Tab.get, h] using ih

theorem State.removeFrame_flows (n : Nat) : Flows s (s.removeFrame n) where
  sending := s.removeFrame_sending n
  outQ k m hm := by
    cases h : s.frame n with
    | none => rwa [s.removeFrame_none h] at hm
    | some f =>
      rw [(s.removeFrame_sw h).outQ, Tab.get_filtered] at hm
      exact List.mem_of_mem_filter hm

theorem State.countDropped_still (f : Frame) : (s.countDropped f).still = s.still := by
  unfold State.countDropped
  dsimp only
  split <;> simp

theorem State.pushOut_flows (below need k : Nat) : Flows s (s.pushOut below need k) := by
  induction k generalizing s with
  | zero => exact .refl s
  | succ k ih =>
    unfold State.pushOut
    split
    · exact .refl s
    · split
      · exact .refl s
      · exact ((Flows.of_still (s.countDropped_still _)).trans (State.removeFrame_flows _ _)).trans (ih _)

theorem State.makeRoom_some {s t : State} {below need : Nat} (h : s.makeRoom below need = some t) : ∃ k, t = s.pushOut below need k := by
  unfold State.makeRoom at h
  dsimp only at h
  split at h
  · exact ⟨_, (Option.some.inj h).symm⟩
  · cases h

theorem State.takeLoans_flows (p k : Nat) : Flows s (s.takeLoans p k) := by
  induction k generalizing s with
  | zero => exact .refl s
  | succ k ih =>
    unfold State.takeLoans
    split
    · split
      next t ht =>
        obtain ⟨j, rfl⟩ := State.makeRoom_some ht
        exact ((s.pushOut_flows 8 64 j).trans (State.modPort_flows _ (by intro _; rfl) p)).trans (ih _)
      next => exact s.modSw_flows rfl
    · exact .refl s

theorem State.overdraw_flows (f : Frame) : Flows s (s.overdraw f) := by
  unfold State.overdraw
  dsimp only
  have hwindow : Flows s (s.modWindow f.tenant (fun w => { w with overdraw := saturate 32 (w.overdraw + 1) })) := ⟨rfl, fun _ _ h => h⟩
  exact (hwindow.trans (State.modSw_flows _ rfl)).trans (Flows.of_still (State.count_still ..))

/-- Charging a frame leaves the state, or pushes victims out, or counts what its tenant takes beyond its quota (R277, R279, R283). -/
theorem State.charge_cases {s t : State} {f : Frame} {n : Nat} (h : s.charge f = some (t, n)) :
    t = s ∨ (∃ k, t = s.pushOut f.cls f.wagons k) ∨ t = s.overdraw f := by
  have hself : ∀ {u : State} {m : Nat}, some (u, m) = some (t, n) → t = u := fun h => (Prod.mk.inj (Option.some.inj h)).1.symm
  unfold State.charge at h
  dsimp only at h
  split at h
  · split at h
    · exact .inl (hself h)
    · split at h
      · cases h
      · split at h
        · exact .inl (hself h)
        · obtain ⟨u, hu, he⟩ := Option.map_eq_some_iff.1 h
          obtain ⟨k, rfl⟩ := State.makeRoom_some hu
          exact .inr (.inl ⟨k, (Prod.mk.inj he).1.symm⟩)
  · split at h
    · exact .inl (hself h)
    · split at h
      · exact .inl (hself h)
      · split at h
        · exact .inr (.inr (hself h))
        · exact .inl (hself h)

theorem State.charge_flows {s t : State} {f : Frame} {n : Nat} (h : s.charge f = some (t, n)) : Flows s t := by
  obtain rfl | ⟨k, rfl⟩ | rfl := State.charge_cases h
  · exact .refl t
  · exact s.pushOut_flows ..
  · exact s.overdraw_flows f

theorem State.toSpread_flows (n : Nat) : Flows s (s.toSpread n) := by
  unfold State.toSpread
  split
  · exact .refl s
  · dsimp only
    split
    · exact s.modSw_flows rfl
    · exact s.modSw_flows rfl

theorem State.takeIn_flows (f : Frame) (admission : Bool) : Flows s (s.takeIn f admission) := by
  unfold State.takeIn
  split
  next => exact .of_still (s.countDropped_still f)
  next u n h =>
    dsimp only
    have hstored := ((State.charge_flows h).trans (u.modSw_flows (f := fun w =>
      { w with nextFrame := u.sw.nextFrame + 1, frames := w.frames ++ [(u.sw.nextFrame, { f with acct := n })] }) rfl)).trans
        (State.takeLoans_flows _ f.inp.port.val 256)
    split
    · exact hstored.trans (State.modSw_flows _ rfl)
    · exact hstored.trans (State.toSpread_flows _ _)

theorem State.mirror_flows (p dir : Nat) (f : FrameIn) (len tenant : Nat) : Flows s (s.mirror p dir f len tenant) := by
  unfold State.mirror
  refine List.foldlRecOn (motive := Flows s) _ _ (.refl s) (fun t h m _ => ?_)
  dsimp only
  split
  · exact h.trans (State.takeIn_flows ..)
  · exact h

/-! ### Taking frames in, beside a link -/

theorem State.countDropped_offLink (f : Frame) : (s.countDropped f).offLink = s.offLink := by
  unfold State.countDropped
  dsimp only
  split
  · exact (State.count_offLink ..).trans (State.count_offLink ..)
  · exact State.count_offLink ..

theorem State.pushOut_offLink (below need k : Nat) : (s.pushOut below need k).offLink = s.offLink := by
  induction k generalizing s with
  | zero => rfl
  | succ k ih =>
    unfold State.pushOut
    split
    · rfl
    · split
      · rfl
      · exact (ih _).trans ((State.removeFrame_offLink _ _).trans (s.countDropped_offLink _))

theorem State.takeLoans_offLink (p k : Nat) : (s.takeLoans p k).offLink = s.offLink := by
  induction k generalizing s with
  | zero => rfl
  | succ k ih =>
    unfold State.takeLoans
    split
    · split
      next t ht =>
        obtain ⟨j, rfl⟩ := State.makeRoom_some ht
        exact (ih _).trans ((State.modPort_offLink _ p (by intro _; rfl)).trans (s.pushOut_offLink 8 64 j))
      next => exact s.modSw_offLink (fun _ => rfl)
    · rfl

theorem State.lendAll_offLink : s.lendAll.offLink = s.offLink := foldl_keeps (fun s p => s.takeLoans_offLink p 256) _ s

theorem State.overdraw_offLink (f : Frame) : (s.overdraw f).offLink = s.offLink :=
  (State.count_offLink ..).trans ((State.modSw_offLink _ (by intro _; rfl)).trans rfl)

theorem State.charge_offLink {s t : State} {f : Frame} {n : Nat} (h : s.charge f = some (t, n)) : t.offLink = s.offLink := by
  obtain rfl | ⟨k, rfl⟩ | rfl := State.charge_cases h
  · rfl
  · exact s.pushOut_offLink ..
  · exact s.overdraw_offLink f

theorem State.toSpread_offLink (n : Nat) : (s.toSpread n).offLink = s.offLink := by
  unfold State.toSpread
  split
  · rfl
  · dsimp only
    split
    · exact s.modSw_offLink (fun _ => rfl)
    · exact s.modSw_offLink (fun _ => rfl)

theorem State.takeIn_offLink (f : Frame) (admission : Bool) : (s.takeIn f admission).offLink = s.offLink := by
  unfold State.takeIn
  split
  next => exact s.countDropped_offLink f
  next u n h =>
    dsimp only
    have hstored := (State.takeLoans_offLink (u.modSw (fun w =>
      { w with nextFrame := u.sw.nextFrame + 1, frames := w.frames ++ [(u.sw.nextFrame, { f with acct := n })] })) f.inp.port.val 256).trans
        ((u.modSw_offLink (fun _ => rfl)).trans (State.charge_offLink h))
    split
    · exact (State.modSw_offLink _ (by intro _; rfl)).trans hstored
    · exact (State.toSpread_offLink _ _).trans hstored

theorem State.farAnswer_offLink (src : FrameIn) (tag err : Nat) (data : List Byte) : (s.farAnswer src tag err data).offLink = s.offLink := by
  unfold State.farAnswer
  split
  · rfl
  · exact (State.takeIn_offLink ..).trans rfl

theorem State.sendDue_offLink : s.sendDue.offLink = s.offLink := by
  unfold State.sendDue
  refine (foldl_keeps (p := State.offLink) (fun t e => ?_) _ _).trans rfl
  split
  · exact t.farAnswer_offLink ..
  · rfl

/-! ### A frame that stays -/

/-- The core holds a frame under its number, the last one given, and no other frame under that number. -/
structure Holds (n : Nat) (fr : Frame) (t : State) : Prop where
  mem : (n, fr) ∈ t.sw.frames
  only : ∀ e ∈ t.sw.frames, e.1 = n → e.2 = fr
  next : t.sw.nextFrame = n + 1

variable {s}

theorem Holds.of_sw {n : Nat} {fr : Frame} {t u : State} (h : Holds n fr t) (hf : u.sw.frames = t.sw.frames) (hn : u.sw.nextFrame = t.sw.nextFrame) :
    Holds n fr u :=
  ⟨by rw [hf]; exact h.mem, by rw [hf]; exact h.only, hn.trans h.next⟩

theorem Holds.of_still {n : Nat} {fr : Frame} {t u : State} (h : Holds n fr t) (hs : u.still = t.still) : Holds n fr u :=
  h.of_sw (congrArg (fun v : State => v.sw.frames) hs :) (congrArg (fun v : State => v.sw.nextFrame) hs :)

theorem Holds.removeFrame {n m : Nat} {fr : Frame} {t : State} (h : Holds n fr t) (hm : m ≠ n) : Holds n fr (t.removeFrame m) := by
  cases hf : t.frame m with
  | none => rwa [t.removeFrame_none hf]
  | some f =>
    have hw := t.removeFrame_sw hf
    refine ⟨?_, ?_, hw.nextFrame.trans h.next⟩
    · rw [hw.frames]
      exact Tab.mem_drop_of_ne h.mem (Ne.symm hm)
    · rw [hw.frames]
      exact fun e he => h.only e (Tab.mem_drop he)

/-- No push-out takes a frame that the spare does not hold (R283). -/
theorem Holds.pushOut {n : Nat} {fr : Frame} {t : State} (h : Holds n fr t) (hacct : fr.acct ≠ 3) (below need k : Nat) :
    Holds n fr (t.pushOut below need k) := by
  induction k generalizing t with
  | zero => exact h
  | succ k ih =>
    unfold State.pushOut
    split
    · exact h
    · split
      · exact h
      next v rest hv =>
        dsimp only
        have hmem := foldl_choice_mem t.victimBefore v rest
        rw [← hv] at hmem
        generalize rest.foldl (fun a b => if t.victimBefore b a then b else a) v = w at hmem
        obtain ⟨hw, hsel⟩ := List.mem_filter.1 hmem
        have hthree : w.2.acct = 3 := by
          simp only [Bool.and_eq_true, beq_iff_eq] at hsel
          exact hsel.1.1.1
        have hne : w.1 ≠ n := fun he => hacct (by rw [← h.only w hw he, hthree])
        exact ih ((h.of_still (t.countDropped_still _)).removeFrame hne)

theorem Holds.takeLoans {n : Nat} {fr : Frame} {t : State} (h : Holds n fr t) (hacct : fr.acct ≠ 3) (p k : Nat) : Holds n fr (t.takeLoans p k) := by
  induction k generalizing t with
  | zero => exact h
  | succ k ih =>
    unfold State.takeLoans
    split
    · split
      next u hu =>
        obtain ⟨j, rfl⟩ := State.makeRoom_some hu
        exact ih ((h.pushOut hacct 8 64 j).of_sw rfl rfl)
      next => exact h.of_sw rfl rfl
    · exact h

theorem Holds.toSpread {n : Nat} {fr : Frame} {t : State} (h : Holds n fr t) (m : Nat) : Holds n fr (t.toSpread m) := by
  unfold State.toSpread
  split
  · exact h
  · dsimp only
    split
    · exact h.of_sw rfl rfl
    · exact h.of_sw rfl rfl

/-- A frame that its class floor has room for is stored under the next number (R277). -/
theorem State.takeIn_holds {f : Frame} (hd : f.drop = false) (hroom : s.classUsed f.inp.port.val f.cls + f.wagons ≤ classFloor)
    (hnew : ∀ e ∈ s.sw.frames, e.1 < s.sw.nextFrame) : Holds s.sw.nextFrame { f with acct := 0 } (s.takeIn f false) := by
  have hcharge : s.charge f = some (s, 0) := by
    unfold State.charge
    dsimp only
    rw [hd, if_neg Bool.false_ne_true, if_pos hroom]
  unfold State.takeIn
  rw [hcharge]
  dsimp only
  rw [if_neg Bool.false_ne_true]
  refine Holds.toSpread (Holds.takeLoans ⟨?_, fun e he hn => ?_, rfl⟩ (Nat.ne_of_beq_eq_false rfl) _ _) _
  · exact List.mem_append_right _ (List.mem_singleton_self _)
  · obtain he | he := List.mem_append.1 he
    · exact absurd hn (Nat.ne_of_lt (hnew e he))
    · rw [List.mem_singleton.1 he]

end

end Sys2Proof.Machine
end

section
/-! The round, the participants that hang, and the rate window (R243 to R253). -/

namespace Sys2Proof.Machine

section
variable (s : State)

/-! ### A round -/

theorem State.emptyShapers_sw : s.emptyShapers.sw = s.sw := by
  unfold State.emptyShapers
  refine foldl_keeps (p := State.sw) (fun t n => ?_) _ s
  dsimp only
  split <;> rfl

theorem State.rounds_of_offLink {s t : State} (h : t.offLink = s.offLink) : t.sw.rounds = s.sw.rounds :=
  (congrArg (fun o : OffLink => o.rest.sw.rounds) h :)

theorem State.round_rounds : s.round.sw.rounds = s.sw.rounds + 1 := by
  unfold State.round
  dsimp only
  generalize List.foldl _ (List.foldl _ s _) (List.range 64) = s2
  have hcount : ((s2.modSw (fun w => { w with rounds := s.sw.rounds + 1 })).count 84 0x070).sw.rounds = s.sw.rounds + 1 :=
    State.rounds_of_offLink (State.count_offLink ..)
  generalize (s2.modSw (fun w => { w with rounds := s.sw.rounds + 1 })).count 84 0x070 = s3 at hcount ⊢
  exact (State.rounds_of_offLink (foldl_keeps (fun t p => t.flushPort_offLink p) _ s3)).trans hcount

theorem State.repairSingles_rounds : s.repairSingles.sw.rounds = s.sw.rounds := by
  unfold State.repairSingles
  exact foldl_keeps (f := fun (t : State) (e : Nat × Nat) => t.corrected (ErrorAt.atUnit { code := 0x0B01, detail := [e.2] } e.1))
    (p := fun t : State => t.sw.rounds) (fun _ _ => rfl) _ _

/-- What a station's reset does to the stations: its group starts anew (R609). -/
theorem State.stationReset_reads (n : Nat) : (s.stationReset n).sw.rounds = s.sw.rounds ∧ (s.stationReset n).stations =
    ((s.stationGroup n).foldl (fun s m =>
      s.modStation m (fun x => { velocity := x.velocity, clockLost := x.clockLost, resetting := true, resetSince := s.ftb })) s).stations := by
  unfold State.stationReset
  dsimp only
  have hgroup := foldl_keeps (f := fun (s : State) m => s.modStation m (fun x =>
    { velocity := x.velocity, clockLost := x.clockLost, resetting := true, resetSince := s.ftb })) (p := fun t : State => t.sw.rounds)
    (fun _ _ => rfl) (s.stationGroup n) s
  generalize List.foldl _ s (s.stationGroup n) = s1 at hgroup ⊢
  have hports : ∀ (β : Type) (p : State → β), (∀ t q, p (t.linkDownTo q 0) = p t) → (∀ t q v, p (t.put .portLink q 0 v) = p t) →
      (∀ t q f, p (t.modPort q f) = p t) → p ((s1.stationPorts n).foldl (fun s p =>
        let s2 := if s.portUp p then s.linkDownTo p 0 else s.put .portLink p 0 0
        s2.modPort p (fun x => { contained := x.contained, perstHold := x.perstHold, ctlDisabled := x.ctlDisabled, flushing := x.flushing,
                                 opens := x.opens, loanBlocks := x.loanBlocks, loanIdle := x.loanIdle })) s1) = p s1 := by
    intro β p hdown hput hport
    refine foldl_keeps (fun t q => ?_) _ s1
    dsimp only
    rw [hport]
    split
    · exact hdown t q
    · exact hput t q 0
  have haside : ∀ t q, (State.linkDownTo t q 0).aside = t.aside := fun t q => t.linkDownTo_aside q 0
  constructor
  · exact (hports _ (fun t => t.sw.rounds) (fun t q => (congrArg (fun u : State => u.sw.rounds) (haside t q) :)) (fun _ _ _ => rfl)
      (fun _ _ _ => rfl)).trans hgroup
  · exact hports _ State.stations (fun t q => (congrArg State.stations (haside t q) :)) (fun _ _ _ => rfl) (fun _ _ _ => rfl)

theorem State.resetTrackers_rounds : s.resetTrackers.sw.rounds = s.sw.rounds := by
  unfold State.resetTrackers
  refine (foldl_keeps (p := fun t : State => t.sw.rounds) (fun t n => ?_) _ _).trans rfl
  split
  · exact (t.stationReset_reads n).1
  · rfl

theorem execRoundBoundary_counts (h : s.sw.running = true) : Leads .roundBoundary s (fun t => t.sw.rounds = s.sw.rounds + 1) := by
  refine ⟨_, rfl, ?_⟩
  dsimp only
  rw [if_pos h, State.resetTrackers_rounds, State.repairSingles_rounds, State.rounds_of_offLink (State.sendDue_offLink _)]
  have hnote : ∀ t : State, t.noteOccupancy.sw.rounds = t.sw.rounds := fun _ => rfl
  rw [hnote, State.rounds_of_offLink (State.lendAll_offLink _), State.round_rounds, State.emptyShapers_sw]

/-! ### Participants that hang -/

theorem State.mem_stationGroup (n : Nat) : n ∈ s.stationGroup n := by
  unfold State.stationGroup
  split
  · rcases Nat.mod_two_eq_zero_or_one n with h | h
    · exact List.mem_cons.2 (.inl (by omega))
    · exact List.mem_cons_of_mem _ (List.mem_singleton.2 (by omega))
  · exact List.mem_singleton_self n

theorem State.stationReset_resetting (n : Nat) : ((s.stationReset n).station n).resetting = true := by
  unfold State.station
  rw [(s.stationReset_reads n).2]
  refine foldl_settles (R := fun _ => True) (P := fun m (t : State) => (t.station m).resetting = true) (fun t _ m _ => ⟨trivial, ?_⟩)
    (fun t _ m _ b _ hb => ?_) trivial n (s.mem_stationGroup n)
  · rw [State.station_modStation, if_pos rfl]
  · rw [State.station_modStation]
    split
    · rfl
    · exact hb

theorem execParticipantStuck_station (n : Station) (h : s.stationIn n.val = true) : Leads (.participantStuck (.station n)) s (fun t =>
    (t.station n.val).dark = true ∧ (t.station n.val).resetting = true) := by
  refine ⟨_, rfl, ?_⟩
  dsimp only
  rw [if_pos h]
  have hstations : ∀ (u : State) (e : ErrorAt), (u.contain e).stations = u.stations := fun u e =>
    (congrArg (fun o : OffLink => o.rest.stations) (u.contain_offLink e) :)
  unfold State.station
  rw [hstations]
  have hself : ∀ (u : State) f, Tab.get ({} : StationState) (u.modStation n.val f).stations n.val = f (u.station n.val) := fun u f =>
    (u.station_modStation n.val n.val f).trans (if_pos rfl)
  rw [hself]
  exact ⟨rfl, s.stationReset_resetting n.val⟩

theorem execParticipantStuck_siding (j : Fin 64) (h : s.sidingIn j.val = true) (hnone : s.power.fatalAt = none) :
    Leads (.participantStuck (.siding j)) s (fun t => t.power.fatalAt = some (s.ftb + 1000000)) := by
  refine ⟨_, rfl, ?_⟩
  dsimp only
  rw [if_pos h]
  exact (s.fatal_reads _ _ _ _).1 hnone

/-! ### The rate window -/

theorem State.payOwed_stations (p : Nat) : (s.payOwed p).stations = s.stations := by
  unfold State.payOwed
  refine foldl_keeps (p := State.stations) (fun t c => ?_) _ s
  dsimp only
  split <;> rfl

theorem execRateWindow_allows (hftb : s.ftb % 1024 = 0) (hat : s.sw.windowAt ≠ s.ftb) :
    Leads (.rateWindow s.ftb) s (fun t => ∀ n, n < s.stationCount → (t.station n).allowance =
      allowanceFor (if s.sw.sagThrottle || s.sw.windowSags then min 819 (s.sw.rounds - s.sw.windowRounds) else s.sw.rounds - s.sw.windowRounds)
        ((List.range 64).filter s.sidingIn).length) := by
  refine ⟨_, rfl, fun n hn => ?_⟩
  have hcond : (decide (s.ftb = s.ftb) && decide (s.ftb % 1024 = 0) && s.sw.windowAt != s.ftb) = true := by simp [hftb, hat]
  rw [if_pos hcond]
  dsimp only
  generalize (if (s.sw.sagThrottle || s.sw.windowSags) = true then min 819 (s.sw.rounds - s.sw.windowRounds)
    else s.sw.rounds - s.sw.windowRounds) = m
  generalize hs1 : s.modSw _ = s1
  have hone : s1.sidingsIn = s.sidingsIn := by
    rw [← hs1]
    rfl
  have hset : ∀ k ∈ List.range s.stationCount, (((List.range s.stationCount).foldl (fun s n =>
      s.modStation n (fun x => { x with allowance := allowanceFor m s.sidingsIn })) s1).station k).allowance = allowanceFor m s.sidingsIn := by
    refine foldl_settles (f := fun (s : State) n => s.modStation n (fun x => { x with allowance := allowanceFor m s.sidingsIn }))
      (R := fun t : State => t.sidingsIn = s.sidingsIn) (P := fun k (t : State) => (t.station k).allowance = allowanceFor m s.sidingsIn) (fun t ht k _ => ⟨ht, ?_⟩)
      (fun t ht k _ b _ hb => ?_) hone
    · rw [State.station_modStation, if_pos rfl, ht]
    · rw [State.station_modStation]
      split
      · exact congrArg (allowanceFor m) ht
      · exact hb
  have hget := hset n (List.mem_range.2 hn)
  generalize (List.range s.stationCount).foldl (fun s n =>
      s.modStation n (fun x => { x with allowance := allowanceFor m s.sidingsIn })) s1 = s2 at hget ⊢
  have hcount : ∀ u : State, (u.count 84 0x072).stations = u.stations := fun u => (congrArg State.stations (u.count_still ..) :)
  have hpay := foldl_keeps (f := fun (s : State) p => (s.modPort p (fun x => { x with creditUsed := 0 })).payOwed p) (p := State.stations)
    (fun t p => State.payOwed_stations _ p)
  unfold State.station
  rw [hpay, apply_ite State.stations, hcount, ite_self]
  exact hget

end

end Sys2Proof.Machine
end

section
/-! A frame that arrives: one that its check failed, one that the rules refuse, and one that the core stores (R255, R270, R277, R395). -/

namespace Sys2Proof

/-- A frame as a standard port brings it: the unit is not given, and the device has not made it. -/
def FrameIn.received (f : FrameIn) : FrameIn := { f with unit := none, made := false }

end Sys2Proof

namespace Sys2Proof.Machine

/-- VIOL_COUNT of a tenant's window (R396). -/
def State.violations (s : State) (t : Nat) : Nat := (s.window t).violCount

section
variable (s : State)

/-! ### What counting leaves of a window -/

theorem State.emit_violations (m : Msg) : (s.emit m).violations = s.violations := by
  unfold State.emit
  split
  · rfl
  · split
    · split <;> rfl
    · rfl

theorem State.devicePut_violations (f : Fld) (i b v : Nat) : (s.devicePut f i b v).violations = s.violations := by
  unfold State.devicePut
  split <;> rfl

theorem State.modWindow_msi_violations (t : Nat) : (s.modWindow t (fun w => { w with lastMsi := some s.ftb })).violations = s.violations := by
  funext k
  have hget : (s.modWindow t (fun w => { w with lastMsi := some s.ftb })).window k =
      if t = k then ({ s.window t with lastMsi := some s.ftb } : TenantWindow) else s.window k := by
    exact Tab.get_modify ({} : TenantWindow) s.ord.windows t k (fun w => { w with lastMsi := some s.ftb })
  unfold State.violations
  rw [hget]
  split
  next he => rw [he]
  next => rfl

theorem State.eventMsi_violations (t : Nat) : (s.eventMsi t).violations = s.violations := by
  unfold State.eventMsi
  dsimp only
  rw [apply_ite State.violations]
  cases s.msiPort t with
  | none => exact ite_self _
  | some p => exact (congrArg (ite _ · _) ((State.emit_violations _ _).trans (s.modWindow_msi_violations t))).trans (ite_self _)

theorem State.raiseVector_violations (n : Nat) (owner : Option Nat) : (s.raiseVector n owner).violations = s.violations := by
  have hmiss : s.missRaise.violations = s.violations := rfl
  have htenant : ∀ t f, (s.missRaise.modTenant t f).violations = s.violations := fun _ _ => rfl
  simp only [State.raiseVector, apply_ite State.violations, State.eventMsi_violations, State.devicePut_violations, hmiss, htenant, ite_self]

theorem State.count_violations (u ev : Nat) (a : EventAttrs) (n : Nat) : (s.count u ev a n).violations = s.violations := by
  have hput : ∀ (s : State) f i b v, (s.put f i b v).violations = s.violations := fun _ _ _ _ _ => rfl
  have hunit : ∀ (s : State) i, (s.unitSees u ev n a i).violations = s.violations := by
    intro s i
    simp only [State.unitSees, State.addUnit, apply_ite State.violations, State.raiseVector_violations, hput, ite_self]
  have hcounter : ∀ (s : State) i, (s.counterSees (ev % 4096) n a i).violations = s.violations := by
    intro s i
    simp only [State.counterSees, State.addCounter, apply_ite State.violations, State.raiseVector_violations, hput, ite_self]
  have hunits : (if s.unitCounts u then (List.range 8).foldl (fun s i => s.unitSees u ev n a i) s else s).violations = s.violations := by
    split
    · exact foldl_keeps hunit _ s
    · rfl
  unfold State.count
  dsimp only
  split
  · split
    · exact (foldl_keeps hcounter _ _).trans hunits
    · exact hunits
  · exact hunits

/-! ### A refusal -/

theorem State.sent_of {s t : State} {m : Msg} (h : s.sent m) (ho : t.outbox = s.outbox) (hb : t.sw.bypass = s.sw.bypass) : t.sent m := by
  unfold State.sent
  rw [ho, hb]
  exact h

/-- The core, the messages that have left, and the violations counted. -/
def State.tally (s : State) : Switch × List Msg × (Nat → Nat) := (s.sw, s.outbox, s.violations)

/-- A capture writes the fields of a checker, and a corrected error (R397). -/
theorem State.capture_tally (f : FrameIn) (t reason : Nat) (rule : Option Nat) : (s.capture f t reason rule).tally = s.tally := by
  have hput : ∀ (s : State) g i b v, (s.put g i b v).tally = s.tally := fun _ _ _ _ _ => rfl
  have hdev : ∀ (s : State) g i b v, (s.devicePut g i b v).tally = s.tally := by
    intro s g i b v
    unfold State.devicePut
    split <;> rfl
  have hcorrected : ∀ (s : State) e, (s.corrected e).tally = s.tally := fun _ _ => rfl
  have hvals : ∀ (l : List (Fld × Nat)) i, (l.foldl (fun (s : State) (e : Fld × Nat) => s.put e.1 i 0 e.2) s).tally = s.tally := fun l i =>
    foldl_keeps (f := fun (s : State) (e : Fld × Nat) => s.put e.1 i 0 e.2) (p := State.tally) (fun t e => hput t e.1 i 0 e.2) l s
  unfold State.capture
  dsimp only
  split
  · generalize hu : List.foldl _ s _ = u
    have hkeep : u.tally = s.tally := by
      rw [← hu]
      exact hvals _ _
    exact (hcorrected _ _).trans ((hdev u .checkerCapValid _ 0 1).trans hkeep)
  · split
    · exact hput s ..
    · exact (hdev _ .checkerOvf _ 0 1).trans (hput s ..)

/-- A refused read is answered as unsupported, counted in its tenant's window, and goes no further (R395, R396). -/
theorem State.refuseFrame_read {f : FrameIn} (hk : f.kind = .ioRead) {t : Nat} (ht : t < 4096) (hfar : Tab.find s.junction.far f.tag = none)
    (reason : Nat) (rule : Option Nat) : (s.refuseFrame f t reason rule).sent (.answer f.port.val f.tag ansUR false) ∧
      (s.refuseFrame f t reason rule).sw.frames = s.sw.frames ∧
      (s.violations t + 1 < 2 ^ 48 → (s.refuseFrame f t reason rule).violations t = s.violations t + 1) := by
  have hnotice : ∀ u : State, u.notice f t = u := by
    intro u
    unfold State.notice
    rw [hk]
    rfl
  have hanswer : ∀ u : State, u.refusedAnswer f = u.emit (.answer f.port.val f.tag ansUR false) := by
    intro u
    unfold State.refusedAnswer
    rw [hk]
    rfl
  unfold State.refuseFrame
  rw [hnotice, hanswer]
  have hstill := (s.countViolation t).count_still (portStation f.port.val) 0x012 (s.requestAttrs f t) 1
  have hviol := (s.countViolation t).count_violations (portStation f.port.val) 0x012 (s.requestAttrs f t) 1
  have hone : s.violations t + 1 < 2 ^ 48 → (s.countViolation t).violations t = s.violations t + 1 := by
    intro hlt
    unfold State.countViolation State.violations
    rw [if_pos ht, State.window_modWindow_self]
    exact congrArg TenantWindow.violCount (if_pos hlt)
  have hsame : (s.countViolation t).junction.far = s.junction.far ∧ (s.countViolation t).sw.frames = s.sw.frames := by
    unfold State.countViolation
    split <;> exact ⟨rfl, rfl⟩
  unfold State.countRefusal
  generalize (s.countViolation t).count (portStation f.port.val) 0x012 (s.requestAttrs f t) = u at hstill hviol ⊢
  have hufar : u.farAnswerOf (.answer f.port.val f.tag ansUR false) = none := by
    have hj : u.junction.far = s.junction.far := (congrArg (fun v : State => v.junction.far) hstill :).trans hsame.1
    unfold State.farAnswerOf
    dsimp only
    rw [hj, hfar]
  have hsent := u.emit_sent _ hufar
  have hemit := (congrArg (fun v : State => v.sw.frames) (u.emit_still (.answer f.port.val f.tag ansUR false)) :)
  have hemitViol := u.emit_violations (.answer f.port.val f.tag ansUR false)
  generalize u.emit (.answer f.port.val f.tag ansUR false) = v at hsent hemit hemitViol ⊢
  have hcap := Prod.mk.inj (v.capture_tally f t reason rule)
  obtain ⟨hsw, hrest⟩ := hcap
  obtain ⟨hout, hcapViol⟩ := Prod.mk.inj hrest
  refine ⟨State.sent_of hsent hout (congrArg Switch.bypass hsw), ?_, fun hlt => ?_⟩
  · exact (congrArg Switch.frames hsw).trans (hemit.trans ((congrArg (fun w : State => w.sw.frames) hstill :).trans hsame.2))
  · exact (congrFun (hcapViol.trans (hemitViol.trans hviol)) t).trans (hone hlt)

/-! ### An arrival -/

theorem execFrameAdmit_standard {f : FrameIn} (hwf : f.wellFormed = true) (hrun : s.sw.running = true) (hok : s.portOk f.port.val = true)
    (hup : s.portUp f.port.val = true) (hin : s.stationIn (portStation f.port.val) = true) (hproto : s.get .portProto f.port.val ≠ 2) :
    exec (.frameAdmit f) s = .next (s.arrive f.received) := by
  refine congrArg Host.Outcome.next ?_
  rw [if_pos (by simp [hwf, hrun, hok, hup, hin]), if_neg hproto]
  rfl

theorem State.withCredit_portless (k : FrameKind) (p c w : Nat) (act : State → State) :
    (s.withCredit k p c w act).portless = (act (s.spendCredit p c w)).portless := by
  unfold State.withCredit
  dsimp only
  split
  · rfl
  · exact (State.freeCredit_keeps _ k p c w).1

theorem State.findBroken_none (h : s.errors.badObjects = []) (l : List Nat) : s.findBroken l = s := by
  unfold State.findBroken
  rw [h]
  rfl

theorem State.spendCredit_role (p c w q : Nat) : ((s.spendCredit p c w).port q).role = (s.port q).role := by
  unfold State.spendCredit
  rw [State.port_modPort]
  split
  next he => rw [he]
  next => rfl

theorem State.spendCredit_info (p c w q : Nat) : ((s.spendCredit p c w).port q).info = (s.port q).info := by
  unfold State.spendCredit
  rw [State.port_modPort]
  split
  next he => rw [he]
  next => rfl

theorem State.spendCredit_requesterTenant (p c w : Nat) (f : FrameIn) : (s.spendCredit p c w).requesterTenant f = s.requesterTenant f := by
  have hrole := s.spendCredit_role p c w f.port.val
  unfold State.requesterTenant
  dsimp only
  rw [hrole]
  rfl

theorem State.spendCredit_routeRequest (p c w q : Nat) (pbr : Option Nat) (ldid : Nat) (kind : FrameKind) (a : Nat) :
    (s.spendCredit p c w).routeRequest q pbr ldid kind a = s.routeRequest q pbr ldid kind a := by
  have hrole := s.spendCredit_role p c w q
  have hinfo := s.spendCredit_info p c w
  generalize hu : s.spendCredit p c w = u at hrole hinfo ⊢
  have hget : ∀ g i b, u.get g i b = s.get g i b := by
    subst hu
    exact fun _ _ _ => rfl
  have hpbr : ∀ d, u.routePbr q d = s.routePbr q d := by
    intro d
    unfold State.routePbr
    simp only [hinfo, hget]
    subst hu
    rfl
  have hdown : ∀ v, u.routeDown v q kind a = s.routeDown v q kind a := by
    intro v
    have htarget : u.downTarget v kind a = s.downTarget v kind a ∧ u.fastDpid v a = s.fastDpid v a ∧ ∀ b, u.routeVppb v b = s.routeVppb v b := by
      subst hu
      exact ⟨rfl, rfl, fun _ => rfl⟩
    obtain ⟨hd, hf, hv⟩ := htarget
    unfold State.routeDown
    simp only [hd, hf, hv, hpbr]
  have hup : ∀ v b, u.routeUp v b kind a = s.routeUp v b kind a := by
    subst hu
    exact fun _ _ => rfl
  have hbelow : u.uspOf q = s.uspOf q ∧ u.vppbBelow q ldid = s.vppbBelow q ldid := by
    subst hu
    exact ⟨rfl, rfl⟩
  obtain ⟨husp, hvppb⟩ := hbelow
  unfold State.routeRequest
  simp only [hrole, hget, hpbr, husp, hdown, hvppb, hup]

/-- A short frame whose check failed is lost, and no more is done about it (R270). -/
theorem State.arrive_failed {f : FrameIn} (hgood : f.good = false) (hlen : f.len ≤ 128) (hbad : s.errors.badObjects = []) :
    (s.arrive f.received).portless = s.countLost.portless := by
  unfold State.arrive
  rw [State.withCredit_portless]
  show State.portless (State.admitFrame (s.spendCredit f.port.val (s.frameClass f.received) ((f.len + 63) / 64)) f.received) = _
  have hbadU : ∀ c w, (s.spendCredit f.port.val c w).errors.badObjects = [] := fun _ _ => hbad
  have hcond : (!f.received.good && decide (f.received.len ≤ 128)) = true := by
    show (!f.good && decide (f.len ≤ 128)) = true
    simp [hgood, hlen]
  unfold State.admitFrame
  dsimp only
  rw [State.findBroken_none _ (hbadU _ _), if_pos hcond]
  rfl

/-- A read that the rules refuse is refused, before its credit is free again. -/
theorem State.arrive_refused {f : FrameIn} (hgood : f.good = true) (hk : f.kind = .ioRead) (hbad : s.errors.badObjects = []) {reason : Nat}
    {rule : Option Nat} (hcheck : s.check f (s.requesterTenant f) = .refused reason rule) :
    (s.arrive f.received).portless =
      ((s.spendCredit f.port.val (s.frameClass f.received) ((f.len + 63) / 64)).refuseFrame f.received (s.requesterTenant f) reason rule).portless := by
  unfold State.arrive
  rw [State.withCredit_portless]
  show State.portless (State.admitFrame (s.spendCredit f.port.val (s.frameClass f.received) ((f.len + 63) / 64)) f.received) = _
  generalize hu : s.spendCredit f.port.val (s.frameClass f.received) ((f.len + 63) / 64) = u
  have hubad : u.errors.badObjects = [] := by
    rw [← hu]
    exact hbad
  have htenant : u.requesterTenant f.received = s.requesterTenant f := by
    rw [← hu, State.spendCredit_requesterTenant]
    rfl
  have hucheck : u.check f.received (s.requesterTenant f) = .refused reason rule := by
    rw [← hcheck, ← hu]
    rfl
  have hcond : (!f.received.good && decide (f.received.len ≤ 128)) = false := by
    show (!f.good && decide (f.len ≤ 128)) = false
    rw [hgood]
    rfl
  have hchecked : f.received.kind.checked = true := by
    show f.kind.checked = true
    rw [hk]
    rfl
  unfold State.admitFrame
  dsimp only
  rw [u.findBroken_none hubad, if_neg (by rw [hcond]; exact Bool.false_ne_true), if_pos hchecked]
  unfold State.admitRequest
  dsimp only
  rw [htenant, hucheck]

end

end Sys2Proof.Machine
end

section
/-! Frames that are stored, spread, started and sent (R277, R278, R311, R423 to R431, R590). -/

namespace Sys2Proof.Machine

section
variable (s : State)

/-! ### A message is stored -/

/-- Where no mirror session has a direction, no copy is made (R311). -/
theorem State.mirror_off (h : ∀ m, m < 16 → s.get .mirrorDir m = 0) (p dir : Nat) (f : FrameIn) (len tenant : Nat) :
    s.mirror p dir f len tenant = s := by
  unfold State.mirror
  refine List.foldlRecOn (motive := fun t => t = s) _ _ rfl (fun t ht m hm => ?_)
  have hoff : (bitOf (t.get .mirrorDir m) (dir - 1) && t.get .mirrorSport m == p) = false := by
    rw [ht, h m (List.mem_range.1 hm)]
    simp [bitOf]
  dsimp only
  rw [if_neg (by rw [hoff]; exact Bool.false_ne_true)]
  exact ht

/-- The frame that the core stores of a message with a route (R255 to R261, R302). -/
def State.messageFrame (s : State) (f : FrameIn) (q : Nat) (vppb : Option (Nat × Nat)) : Frame :=
  { s.mkFrame f.received f.len (s.frameClass f) 3 1 0 q false false false with
    toLd := s.ldOf vppb, fabric := s.edgeHeader f.port.val f.kind f.addr }

theorem State.sendFrame_message {f : FrameIn} (hgood : f.good = true) (hwhole : f.whole = true) (hk : f.kind = .message)
    (hproto : s.get .portProto f.port.val ≠ 2) {q : Nat} (hup : s.portUp q = true) (hmirror : ∀ m, m < 16 → s.get .mirrorDir m = 0)
    (vppb : Option (Nat × Nat)) : s.sendFrame f.received 3 1 0 q vppb (s.ldOf vppb) (s.edgeHeader f.port.val f.kind f.addr) =
      s.takeIn (s.messageFrame f q vppb) false := by
  have htrunk : (s.get .portProto f.received.port.val == 2) = false := beq_eq_false_iff_ne.2 hproto
  have hfailed : (!(f.received.good && f.received.whole)) = false := by
    show (!(f.good && f.whole)) = false
    rw [hgood, hwhole]
    rfl
  have hrequest : f.received.kind.request = false := by
    show f.kind.request = false
    rw [hk]
    rfl
  unfold State.sendFrame
  dsimp only
  rw [htrunk, hfailed, if_neg Bool.false_ne_true, s.mirror_off hmirror, hup, hrequest]
  rfl

theorem State.arrive_stored {f : FrameIn} (hgood : f.good = true) (hwhole : f.whole = true) (hk : f.kind = .message)
    (hbad : s.errors.badObjects = []) (hproto : s.get .portProto f.port.val ≠ 2) {q : Nat} {vppb : Option (Nat × Nat)}
    (hroute : s.routeRequest f.port.val (f.pbr.map (fun x => x.2.toNat)) f.ldid.toNat f.kind f.addr = .to q vppb) (hup : s.portUp q = true)
    (hmirror : ∀ m, m < 16 → s.get .mirrorDir m = 0) : ∃ u : State, u.sw = s.sw ∧
      (s.arrive f.received).portless = (u.takeIn (s.messageFrame f q vppb) false).portless := by
  unfold State.arrive
  rw [State.withCredit_portless]
  show ∃ u : State, u.sw = s.sw ∧
    State.portless (State.admitFrame (s.spendCredit f.port.val (s.frameClass f.received) ((f.len + 63) / 64)) f.received) = _
  have huroute := s.spendCredit_routeRequest f.port.val (s.frameClass f.received) ((f.len + 63) / 64) f.port.val
    (f.pbr.map (fun x => x.2.toNat)) f.ldid.toNat f.kind f.addr
  rw [hroute] at huroute
  generalize hu : s.spendCredit f.port.val (s.frameClass f.received) ((f.len + 63) / 64) = u at huroute ⊢
  have hsame : u.sw = s.sw ∧ u.errors.badObjects = [] ∧ u.get .portProto f.port.val ≠ 2 ∧ u.portUp q = true ∧
      (∀ m, m < 16 → u.get .mirrorDir m = 0) ∧ u.messageFrame f q vppb = s.messageFrame f q vppb := by
    subst hu
    exact ⟨rfl, hbad, hproto, hup, hmirror, rfl⟩
  obtain ⟨husw, hubad, huproto, huup, humirror, hframe⟩ := hsame
  refine ⟨u, husw, ?_⟩
  have hcond : (!f.received.good && decide (f.received.len ≤ 128)) = false := by
    show (!f.good && decide (f.len ≤ 128)) = false
    rw [hgood]
    rfl
  have hkind : f.received.kind = .message := hk
  have hadmit : u.admitFrame f.received = u.sendRouted f.received 3 1 0 := by
    unfold State.admitFrame
    dsimp only
    rw [u.findBroken_none hubad, if_neg (by rw [hcond]; exact Bool.false_ne_true), hkind]
    rfl
  have hrouted : u.sendRouted f.received 3 1 0 =
      u.sendFrame f.received 3 1 0 q vppb (u.ldOf vppb) (u.edgeHeader f.port.val f.kind f.addr) := by
    have hto : u.routeRequest f.received.port.val (f.received.pbr.map (fun x => x.2.toNat)) f.received.ldid.toNat f.received.kind
        f.received.addr = .to q vppb := huroute
    unfold State.sendRouted
    rw [hto]
    rfl
  rw [hadmit, hrouted, u.sendFrame_message hgood hwhole hk huproto huup humirror, hframe]

/-! ### Loans and admission queues -/

/-- Where every port has free backing enough, no loan is taken (R278). -/
theorem State.lendAll_none (h : ∀ q ∈ s.livePorts, 2048 ≤ s.freeBacking q) : s.lendAll = s := by
  unfold State.lendAll
  refine List.foldlRecOn (motive := fun t => t = s) _ _ rfl (fun t ht q hq => ?_)
  have hfull : (decide (t.freeBacking q < 2048) && decide ((t.port q).loanBlocks < 256) && t.mayBorrow q) = false := by
    rw [ht, decide_eq_false (Nat.not_lt.2 (h q hq))]
    rfl
  rw [State.takeLoans, if_neg (by rw [hfull]; exact Bool.false_ne_true)]
  exact ht

theorem execLoanReturn_returns (p : Port) (h0 : 0 < (s.port p.val).loanBlocks) (hfree : blocksFor (s.loanUsed p.val) < (s.port p.val).loanBlocks)
    (hidle : (s.port p.val).loanIdle.getD ((s.port p.val).loanBlocks - 1) s.ftb + 10000 ≤ s.ftb) :
    exec (.loanReturn p) s = .next (s.modPort p.val
      (fun x => { x with loanBlocks := x.loanBlocks - 1, loanIdle := x.loanIdle.take (x.loanBlocks - 1) })).lendAll := by
  refine congrArg Host.Outcome.next ?_
  exact if_pos (by simp only [h0, hfree, hidle, decide_true, Bool.and_self])

theorem State.toSpread_adm (n : Nat) : (s.toSpread n).sw.adm = s.sw.adm := by
  unfold State.toSpread
  split
  · rfl
  · dsimp only
    split <;> rfl

theorem State.toSpread_sprayed {n : Nat} {f : Frame} (h : s.frame n = some f) (hpin : f.pin = false) :
    n ∈ Tab.get [] (s.toSpread n).sw.spray (portStation f.inp.port.val) := by
  have hspray : (s.toSpread n).sw.spray = Tab.modify [] s.sw.spray (portStation f.inp.port.val) (· ++ [n]) := by
    unfold State.toSpread
    rw [h]
    dsimp only
    rw [hpin]
    rfl
  rw [hspray, Tab.get_modify_self]
  exact List.mem_append_right _ (List.mem_singleton_self n)

theorem execAdmissionRelease_releases (p : Port) (cl : Sys2Proof.Class) {n : Nat} {rest : List Nat} {f : Frame}
    (hadm : Tab.get [] s.sw.adm (p.val * 8 + cl.val) = n :: rest) (hf : s.frame n = some f) (hrate : s.tRate f.tenant = 0) :
    exec (.admissionRelease p cl) s = .next ((s.modSw (fun w => { w with adm := Tab.set w.adm (p.val * 8 + cl.val) rest })).toSpread n) := by
  refine congrArg Host.Outcome.next ?_
  have hfree : ∀ g, (s.modSw g).chargeTenant f.tenant f.charge = s.modSw g := fun g => if_pos hrate
  have hlets : (decide (s.tRate f.tenant = 0) || decide (0 < s.tTokens f.tenant)) = true := by simp [hrate]
  rw [hadm]
  dsimp only
  rw [hf]
  dsimp only
  rw [if_pos hlets, hfree]

/-! ### What a port starts -/

theorem State.holdFlits_keeps (p len : Nat) : (s.holdFlits p len).portless = s.portless ∧ (s.holdFlits p len).sending = s.sending := by
  unfold State.holdFlits
  split
  · exact ⟨rfl, rfl⟩
  · exact ⟨rfl, s.modPort_sending (by intro _; rfl) p⟩

theorem State.startBypass_reads {p tick : Nat} {m : Msg} {rest : List (Nat × Msg)} (h : Tab.get [] s.sw.bypass p = (tick, m) :: rest)
    (hroom : s.replayRoom p (64 * m.wagons) = true) : (s.startBypass p).outbox = s.outbox ++ [m] ∧
      Tab.get [] (s.startBypass p).sw.bypass p = rest ∧ (s.startBypass p).sending p = some 0 := by
  unfold State.startBypass
  rw [h]
  dsimp only
  rw [if_pos hroom]
  generalize hu : State.modPort _ p _ = u
  obtain ⟨hless, hsend⟩ := u.holdFlits_keeps p (64 * m.wagons)
  have hout : (u.holdFlits p (64 * m.wagons)).outbox = u.outbox := (congrArg State.outbox hless :)
  have hsw : (u.holdFlits p (64 * m.wagons)).sw = u.sw := (congrArg State.sw hless :)
  rw [hout, hsw, hsend]
  subst hu
  exact ⟨rfl, Tab.get_set_self .., State.modPort_sending_self _ p _⟩

/-- The visits of the round robin change the deficits of a port alone (R428). -/
theorem State.visit_keeps (p k c : Nat) : (s.visit p k c).1.portless = s.portless ∧ (s.visit p k c).1.sending = s.sending := by
  induction k generalizing s c with
  | zero => exact ⟨rfl, rfl⟩
  | succ k ih =>
    unfold State.visit
    dsimp only
    split
    · exact ih s _
    · split
      · exact ih s _
      · split
        · exact ⟨rfl, s.modPort_sending (by intro _; rfl) p⟩
        · obtain ⟨hless, hsend⟩ := ih (s.modPort p _) ((c + 1) % 8)
          exact ⟨hless, hsend.trans (s.modPort_sending (by intro _; rfl) p)⟩

theorem State.chooseFrame_keeps (p : Nat) : (s.chooseFrame p).1.portless = s.portless ∧ (s.chooseFrame p).1.sending = s.sending := by
  unfold State.chooseFrame
  split
  · exact ⟨rfl, rfl⟩
  · exact s.visit_keeps p 144 _

theorem State.choose_keeps (p : Nat) : (s.choose p).1.portless = s.portless ∧ (s.choose p).1.sending = s.sending := by
  unfold State.choose
  split
  · exact s.chooseFrame_keeps p
  · split
    · split
      · exact ⟨rfl, rfl⟩
      · exact s.chooseFrame_keeps p
    · exact ⟨rfl, rfl⟩

theorem State.choose_bypass {p tick : Nat} {m : Msg} {rest : List (Nat × Msg)} (h : Tab.get [] s.sw.bypass p = (tick, m) :: rest)
    (hrun : (s.port p).bypassRun < 4) : s.choose p = (s, .bypass) := by
  unfold State.choose
  rw [h, if_neg (by simp), if_neg (Nat.not_le.2 hrun)]

/-- A frame that is started is sent, and leaves the queue it waited in (R425). -/
theorem State.sendOff_reads {n : Nat} {f : Frame} (h : s.frame n = some f) (p c : Nat) (overrun : Bool) :
    (s.sendOff p c n overrun).sending p = some n ∧ n ∉ Tab.get [] (s.sendOff p c n overrun).sw.outQ (p * 16 + c) := by
  unfold State.sendOff
  rw [h]
  dsimp only
  generalize hs2 : State.modPort _ p _ = s2
  have h2 : s2.sending p = some n ∧ n ∉ Tab.get [] s2.sw.outQ (p * 16 + c) := by
    refine ⟨by rw [← hs2]; exact State.modPort_sending_self _ p _, ?_⟩
    have hcharge : ∀ (t : State) k, (t.chargeClass p c k).sw = t.sw := by
      intro t k
      unfold State.chargeClass
      split <;> rfl
    have hsw : s2.sw.outQ = Tab.set s.sw.outQ (p * 16 + c) ((Tab.get [] s.sw.outQ (p * 16 + c)).filter (· != n)) := by
      rw [← hs2]
      exact (congrArg Switch.outQ (hcharge (s.modSw _) f.len)).trans rfl
    rw [hsw, Tab.get_set_self]
    exact fun hm => by simpa using (List.mem_filter.1 hm).2
  have hover : Flows s2 (if overrun = true then s2.countPort p 0x01B { cls := some c } else s2) := by
    split
    · exact .of_still (s2.countPort_still ..)
    · exact .refl s2
  generalize (if overrun = true then s2.countPort p 0x01B { cls := some c } else s2) = s3 at hover ⊢
  have hhold : Flows s3 (s3.holdFlits p f.len) := by
    obtain ⟨hless, hsend⟩ := s3.holdFlits_keeps p f.len
    refine ⟨hsend, fun k m hm => ?_⟩
    have hsw : (s3.holdFlits p f.len).sw = s3.sw := (congrArg State.sw hless :)
    rwa [hsw] at hm
  have hcopies : Flows (s3.holdFlits p f.len) (if f.copy = true then s3.holdFlits p f.len
      else (s3.holdFlits p f.len).mirror p 2 f.inp f.len f.tenant) := by
    split
    · exact .refl _
    · exact State.mirror_flows ..
  have hall := hover.trans (hhold.trans hcopies)
  exact ⟨(congrFun hall.sending p).trans h2.1, fun hm => h2.2 (hall.outQ _ _ hm)⟩

theorem State.startFrame_good {n : Nat} {f : Frame} (h : s.frame n = some f) (hbad : n ∉ s.errors.badGranary) (p c : Nat) (overrun : Bool) :
    (f.poison = false ∨ s.carriesPoison p f = true → s.startFrame p c n overrun = s.sendOff p c n overrun) ∧
    (f.poison = true → s.carriesPoison p f = false → s.startFrame p c n overrun = s.abortFrame n f) := by
  have hcontains : s.errors.badGranary.contains n = false := by simpa using hbad
  have hread : s.readGranary n f = s := by
    unfold State.readGranary
    rw [hcontains]
    rfl
  unfold State.startFrame
  rw [h]
  dsimp only
  rw [hread, hcontains]
  refine ⟨fun hcarry => if_neg ?_, fun hpoison hcarry => ?_⟩
  · rcases hcarry with hc | hc <;> simp [hc]
  · rw [if_pos (by simp [hpoison, hcarry])]
    rfl

/-- A standard port that is up and sends nothing (R424). -/
def State.portIdle (s : State) (p : Nat) : Prop :=
  s.get .portProto p ≠ 2 ∧ (s.get .portLink p = 4 ∨ s.get .portLink p = 5) ∧ (s.port p).sending = none

theorem State.portIdle_iff (p : Nat) : s.portIdle p ↔ (s.get .portProto p != 2 && (s.get .portLink p == 4 || s.get .portLink p == 5) &&
    (s.port p).sending.isNone) = true := by
  simp [State.portIdle, and_assoc]

theorem execFrameStart_bypass {p : Port} (h : s.portIdle p.val) {s1 : State} (hchoose : s.choose p.val = (s1, .bypass)) :
    exec (.frameStart p) s = .next (s1.startBypass p.val) := by
  refine congrArg Host.Outcome.next ((if_pos ((s.portIdle_iff p.val).1 h)).trans ?_)
  rw [hchoose]

theorem execFrameStart_frame {p : Port} (h : s.portIdle p.val) {s1 : State} {c n : Nat} {overrun : Bool}
    (hchoose : s.choose p.val = (s1, .frame c n overrun)) :
    exec (.frameStart p) s = .next ((s1.startFrame p.val c n overrun).modPort p.val (fun x => { x with bypassRun := 0 })) := by
  refine congrArg Host.Outcome.next ((if_pos ((s.portIdle_iff p.val).1 h)).trans ?_)
  rw [hchoose]

/-! ### A frame is sent -/

theorem State.endSending_reads {p n : Nat} {f : Frame} (hp : p < 128) (h : s.sending p = some n) (hf : s.frame n = some f) :
    (∀ m, s.sent m → (s.endSending p).sent m) ∧ (s.endSending p).frame n = none ∧ (s.endSending p).sending p = none := by
  have hsend : (s.port p).sending = some n := h
  unfold State.endSending
  rw [hsend]
  dsimp only
  rw [hf]
  dsimp only
  generalize hu : s.modPort p (fun x => { x with sending := none }) = u
  have husend : u.sending p = none := by
    rw [← hu]
    exact State.modPort_sending_self _ p _
  have husent : ∀ m, s.sent m → u.sent m := by
    rw [← hu]
    exact fun m hm => hm
  have hears := u.countPort_hears (p := p) (by omega) 0x014 { f.attrs with tenant := some f.tenant } 1
  have hcounted : (u.countPort p 0x014 { f.attrs with tenant := some f.tenant }).sending = u.sending :=
    (congrArg State.sending (u.countPort_still ..) :)
  generalize u.countPort p 0x014 { f.attrs with tenant := some f.tenant } = v at hears hcounted ⊢
  refine ⟨fun m hm => ?_, v.removeFrame_frame n, ?_⟩
  · refine State.sent_of (hears.sent m (husent m hm)) (v.removeFrame_outbox n) ?_
    cases hv : v.frame n with
    | none => rw [v.removeFrame_none hv]
    | some g => exact (v.removeFrame_sw hv).bypass
  · rw [v.removeFrame_sending, hcounted, husend]

end

end Sys2Proof.Machine
end

section
/-! Frames in the core (R244 to R252, R270 to R278, R395, R424 to R429, R590). -/

namespace Sys2Proof.Machine

/-- Settles O43: a round ends on what its own update wrote, an arrival by the checks its frame passes, and a transmission by the frame it
takes out of the core; copies, loans and push-outs on the way only take frames away or bring new ones. -/
theorem frameFlow : Obligations.FrameFlow := by
  unfold Obligations.FrameFlow
  intro s
  refine ⟨execRoundBoundary_counts s, execParticipantStuck_station s, execParticipantStuck_siding s, execRateWindow_allows s, ?arrival, ?loan,
    ?release, ?start, ?sent⟩
  case arrival =>
    intro f hwf hrun hok hup hin hbad hproto
    have hexec := execFrameAdmit_standard s hwf hrun hok hup hin hproto
    refine ⟨fun hgood hlen => ?_, fun hgood hk hfar ht reason rule hcheck => ?_, fun q vppb hgood hwhole hk hroute hq hmirror hnew hroom => ?_⟩
    · have h := s.arrive_failed hgood hlen hbad
      exact ⟨_, hexec, (congrArg (fun t : State => t.sw.lostFrames) h :), (congrArg (fun t : State => t.sw.frames) h :),
        (congrArg State.outbox h :)⟩
    · have h := s.arrive_refused hgood hk hbad hcheck
      obtain ⟨hsent, hframes, hviol⟩ := State.refuseFrame_read (f := f.received)
        (s.spendCredit f.port.val (s.frameClass f.received) ((f.len + 63) / 64)) hk ht hfar reason rule
      generalize (s.spendCredit f.port.val (s.frameClass f.received) ((f.len + 63) / 64)).refuseFrame f.received (s.requesterTenant f) reason rule = u
        at h hsent hframes hviol
      have hsw : (s.arrive f.received).sw = u.sw := (congrArg State.sw h :)
      have hout : (s.arrive f.received).outbox = u.outbox := (congrArg State.outbox h :)
      have hsame : (s.arrive f.received).violations = u.violations := (congrArg State.violations h :)
      exact ⟨_, hexec, State.sent_of hsent hout (congrArg Switch.bypass hsw), (congrArg Switch.frames hsw).trans hframes,
        fun hlt => (congrFun hsame _).trans (hviol hlt)⟩
    · obtain ⟨u, husw, h⟩ := s.arrive_stored hgood hwhole hk hbad hproto hroute hq hmirror
      have hheld : Holds u.sw.nextFrame { s.messageFrame f q vppb with acct := 0 } (u.takeIn (s.messageFrame f q vppb) false) := by
        refine State.takeIn_holds rfl ?_ (by rw [husw]; exact hnew)
        unfold State.classUsed State.cells
        rw [husw]
        exact hroom
      rw [husw] at hheld
      have hsw : (s.arrive f.received).sw = (u.takeIn (s.messageFrame f q vppb) false).sw := (congrArg State.sw h :)
      exact ⟨_, hexec, (congrArg Switch.nextFrame hsw).trans hheld.next, by rw [hsw]; exact hheld.mem⟩
  case loan =>
    intro p h0 hfree hidle s1 hbacked
    exact ⟨_, execLoanReturn_returns s p h0 hfree hidle, s1.lendAll_none hbacked⟩
  case release =>
    intro p cl n rest f hadm hf hrate
    refine ⟨_, execAdmissionRelease_releases s p cl hadm hf hrate, ?_, fun hpin => ?_⟩
    · rw [State.toSpread_adm]
      exact Tab.get_set_self ..
    · exact State.toSpread_sprayed _ hf hpin
  case start =>
    intro p hproto hlink hnone
    have hmay : s.portIdle p.val := ⟨hproto, hlink, hnone⟩
    refine ⟨fun tick m rest hwait hrun hroom => ?_, fun s1 c n overrun f hchoose hf hbad => ?_⟩
    · obtain ⟨hout, hrest, hsend⟩ := s.startBypass_reads hwait hroom
      exact ⟨_, execFrameStart_bypass s hmay (s.choose_bypass hwait hrun), hout, hrest, Option.isSome_iff_exists.2 ⟨0, hsend⟩⟩
    · obtain ⟨hless, hsend⟩ := s.choose_keeps p.val
      rw [hchoose] at hless hsend
      have hbad1 : n ∉ s1.errors.badGranary := by
        have herrors : s1.errors = s.errors := (congrArg State.errors hless :)
        rw [herrors]
        exact hbad
      have hcarries : s1.carriesPoison p.val f = s.carriesPoison p.val f := (congrArg (fun t : State => t.carriesPoison p.val f) hless :)
      obtain ⟨hgood, hpoisoned⟩ := s1.startFrame_good hf hbad1 p.val c overrun
      rw [hcarries] at hgood hpoisoned
      have hrun : ∀ t : State, (t.modPort p.val (fun x => { x with bypassRun := 0 })).sending = t.sending := fun t =>
        t.modPort_sending (by intro _; rfl) p.val
      have hexec := execFrameStart_frame s hmay hchoose
      refine ⟨fun h => ⟨_, hexec, ?_⟩, fun h hno => ⟨_, hexec, ?_⟩⟩
      · obtain ⟨hs, hq⟩ := s1.sendOff_reads hf p.val c overrun
        rw [hgood h]
        exact ⟨(congrFun (hrun _) p.val).trans hs, hq⟩
      · obtain ⟨hf, hs⟩ := s1.abortFrame_reads n f
        rw [hpoisoned h hno]
        exact ⟨hf, (congrFun ((hrun _).trans (hs.trans hsend)) p.val).trans hnone⟩
  case sent =>
    intro p n f hproto hsend hf _
    have hstill := s.emit_still (.send p.val (s.leaving p.val f))
    have hleft := s.emit_sent (.send p.val (s.leaving p.val f)) rfl
    have hexec : exec (.frameSent p) s = .next ((s.emit (.send p.val (s.leaving p.val f))).endSending p.val) := by
      refine congrArg Host.Outcome.next ?_
      rw [if_neg hproto, hsend]
      dsimp only
      rw [hf]
    generalize s.emit (.send p.val (s.leaving p.val f)) = u at hstill hleft hexec
    have husend : u.sending p.val = some n := (congrFun (congrArg State.sending hstill :) p.val).trans hsend
    have huframe : u.frame n = some f := (congrArg (fun t : State => t.frame n) hstill :).trans hf
    obtain ⟨hsent, hgone, hend⟩ := u.endSending_reads p.isLt husend huframe
    exact ⟨_, hexec, hsent _ hleft, hgone, hend⟩

end Sys2Proof.Machine
end
